-- ==== Sys2Proof/Word.lean ====
section
/-! DEFINITION. The plainest data of the module: bytes and byte strings, and the two widths the spec's records are
built from. -/
namespace Sys2Proof

/-- One byte of a frame, a slot, a record or a memory. -/
abbrev Byte := BitVec 8

/-- A byte string: the payload of a slot or frame, a DOMAIN value, a record. -/
abbrev Bytes := List Byte

end Sys2Proof
end

