-- ==== Sys2Proof/Syntax.lean ====
section
/-! DEFINITION. The commands of the block: the ONE inductive `Instr`, one constructor per row of the opcode table,
and the records its operands are made of. Every command's first operand `t` is the module's own TIME count in ns at
which the event happens. -/
namespace Sys2Proof

/-- The two ring ports. -/
inductive Port where | east | west
  deriving DecidableEq, Repr

/-- The two control buses CTL-A and CTL-B. -/
inductive Bus where | ctlA | ctlB
  deriving DecidableEq, Repr

/-- The path by which a PX frame reached the module; `dist` is a head distribution on TC5 (R557, PATH of R567). -/
inductive PxPath where | ctlA | ctlB | ring | usb | dist
  deriving DecidableEq, Repr

/-- The header data of a PX request (R542) that its row does not fix: path, ORIGIN, the node ID it was addressed to,
TID, SESSION and the AUTH bytes as received. -/
structure PxReq where
  path : PxPath
  origin : Int
  node : Nat
  tid : Nat
  session : Nat
  auth : Bytes
  deriving DecidableEq, Repr

/-- The fields of a slot header (R456), HCRC excepted (it has been checked, or its failure is the command). `west` is
DIR. -/
structure SlotHdr where
  cls : Nat
  typ : Nat
  west : Bool
  bcast : Bool
  turned : Bool
  epoch : Bool
  hops : Nat
  src : Int
  seq : Nat
  trClass : Nat
  trCount : Nat
  returned : Bool
  aux : Nat
  deriving DecidableEq, Repr

/-- A slot as it arrives at a port. -/
structure SlotRx where
  port : Port
  hdr : SlotHdr
  deriving DecidableEq, Repr

/-- The Notice payload of R485. -/
structure Notice where
  node : Nat
  code : Nat
  detail : Nat
  time : Nat
  pack : Nat
  deriving DecidableEq, Repr

/-- How a notice reached the module (R506): as a ring slot, or as a NOTICE or HEAD_NOTICE frame whose bytes 20 and 21
carry the ring SEQ. -/
inductive NoticeVia where
  | ring (rx : SlotRx)
  | bus (b : Bus) (seq : Nat)
  deriving DecidableEq, Repr

/-- A descriptor announce (pre-enumeration frame 0x1B of R46) with the 24 serial bits of its identifier. -/
structure Announce where
  serial : Nat
  seq : Nat
  crc : Nat
  headPack : Nat
  pack : Nat
  eligible : Bool
  valid : Bool
  deriving DecidableEq, Repr

/-- The payload of a join frame (type 0x1F of R511). -/
structure JoinFrame where
  pack : Nat
  serial : Nat
  stringId : Nat
  seq : Nat
  eligible : Bool
  deriving DecidableEq, Repr

/-- The three rate settings of a bus in the enumeration close frame (R511). -/
structure BusRates where
  nominal : Nat
  data : Nat
  triple : Bool
  deriving DecidableEq, Repr

/-- The Heartbeat payload of R485. -/
structure HeartbeatRec where
  node : Nat
  mode : Nat
  contactor : Nat
  basis : Nat
  stringId : Nat
  descSeq : Nat
  membGen : Nat
  censusNo : Nat
  ckptGen : Nat
  pack : Nat
  deriving DecidableEq, Repr

/-- How a heartbeat or a STATUS reached the module. -/
inductive FrameVia where
  | ring (rx : SlotRx)
  | bus (b : Bus)
  deriving DecidableEq, Repr

/-- The Status payload of R485, together with LINKVIEW of the bus form (R507). -/
structure StatusRec where
  node : Nat
  mode : Nat
  role : Nat
  timeState : Nat
  integrity : Nat
  meas : Nat
  sumC : Int
  stackSn : Int
  hotspot : Int
  derate : Nat
  firstMove : Nat
  balStat : Nat
  linkView : Nat
  time : Nat
  deriving DecidableEq, Repr

/-- The Reply payload of R485. -/
structure CensusReplyRec where
  censusNo : Nat
  square : Int
  kind : Nat
  eligible : Bool
  candValid : Bool
  pack : Nat
  serial : Nat
  descSeq : Nat
  descString : Nat
  deriving DecidableEq, Repr

/-- What a receiver finds wrong with a damaged slot (R459), and a slot whose TYPE is not listed (R460). -/
inductive SlotDamage where
  | hcrc
  | crc
  | stomped
  | unlisted
  deriving DecidableEq, Repr

/-- A frame as one lane submits it to the voter (R519): a CAN frame with its bus, identifier, format bits and data,
or a ring slot with header and payload. -/
inductive VoteFrame where
  | can (b : Bus) (id : Nat) (ext : Bool) (brs : Bool) (data : Bytes)
  | slot (h : SlotHdr) (payload : Bytes)
  deriving DecidableEq, Repr

/-- The three lanes. -/
inductive Lane where | laneA | laneB | laneC
  deriving DecidableEq, Repr

/-- How a transmission attempt ended (R503, R526, R530). -/
inductive SendResult where
  | sent (delayClocks : Nat)
  | ackError
  | bitError
  | lostArbitration
  deriving DecidableEq, Repr

/-- The type and value of a dictionary write: PX type code (R537), the value's bytes. -/
structure PxValue where
  ty : Nat
  data : Bytes
  deriving DecidableEq, Repr

/-- The voted register outputs of R573. -/
inductive RegTarget where
  | coils
  | loopSource
  | tripSwitch
  | balancing
  | actuators
  | switches
  | other (obj : Nat)
  deriving DecidableEq, Repr

/-- What the start-up steps 4 to 9 of R122 find, as R124 and the start-up rules need it: the verification of the two
firmware slots, the lane and fault-collection self-test, the pack memory, the converters, the ports, the key store,
the measured hold-up capacitance (in µF) and the time the steps took (in ms). -/
structure StartRec where
  slotA : Bool
  slotB : Bool
  laneA : Bool
  laneB : Bool
  laneC : Bool
  voterOk : Bool
  fcuOk : Bool
  packReadable : Bool
  h1Ok : Bool
  h2Ok : Bool
  portLock : Bool
  keysOk : Bool
  calendarOk : Bool
  capacitance : Rat
  duration : Nat
  deriving DecidableEq, Repr

/-- The quantities of the protection-threshold table (R357). -/
inductive ProtQty where
  | cellHigh | cellLow | tempHigh | tempLow | chargeCurrent | dischargeCurrent | stringVoltage
  deriving DecidableEq, Repr

/-- The three levels of R357. -/
inductive ProtLevel where | warn | open | trip
  deriving DecidableEq, Repr

/-- One threshold condition of R357. -/
structure ProtCond where
  qty : ProtQty
  level : ProtLevel
  deriving DecidableEq, Repr

/-- The three contactor coils. -/
inductive Coil where | mainPos | mainNeg | prechg
  deriving DecidableEq, Repr

/-- What the head measures over a step of the closing or opening sequence (R347, R351): the current now and the
largest magnitude over the step, the tap voltages now, and whether the step's band condition has held for its
required time. -/
structure SeqMeas where
  amps : Rat
  ampsMax : Rat
  stringV : Rat
  linkV : Rat
  mainPosV : Rat
  bandHeld : Bool
  deriving DecidableEq, Repr

/-- The Spinner payload of R485 with its window record (R196). -/
structure SpinnerRec where
  t0 : Nat
  turn0 : Nat
  p : Nat
  source : Nat
  locked : Bool
  change : Bool
  anchorTime : Nat
  anchorTurn : Nat
  m : Nat
  deriving DecidableEq, Repr

/-- The five masters with a shadow of their own (R180). -/
inductive Master where | laneA | laneB | laneC | mgmt | dma
  deriving DecidableEq, Repr

/-- Where an angle comparator sits (R171). -/
inductive AngleUnit where
  | lane (l : Lane)
  | capture
  deriving DecidableEq, Repr

/-- What a channel's filter delivers at an output instant, before gain and offset: the channel 1 to 24, and the mean in
µV of the raw samples in the output's span. -/
structure ChanRaw where
  cell : Nat
  uv : Rat
  deriving DecidableEq, Repr

/-- A raw value of a head's own current or tap channel: the value in V at the input, and CLIP. -/
structure TapRaw where
  volts : Rat
  clip : Bool
  deriving DecidableEq, Repr

/-- What a head's current channels deliver with a wideband output: the shunt and fluxgate inputs (R321), and the strongest
ripple line of the turn that ended, if one did: frequency in Hz and amplitude in A (R165). -/
structure CurrentRaw where
  shunt : TapRaw
  flux : TapRaw
  ripple : Option (Rat × Rat)
  deriving DecidableEq, Repr

/-- What a head's channels deliver with a standard output: shunt, fluxgate, HV_POS and LINK_POS against HV_NEG (R321,
R329). -/
structure TapsRaw where
  shunt : TapRaw
  flux : TapRaw
  stringV : TapRaw
  linkV : TapRaw
  deriving DecidableEq, Repr

/-- The two regular sequences and the two host-owned injected ones that a trigger may start (R227). -/
inductive InjSeq where | is3 | is4
  deriving DecidableEq, Repr

/-- How a plan record reached the module (R305). -/
inductive PlanVia where
  | ring (rx : SlotRx)
  | px (q : PxReq)
  deriving DecidableEq, Repr

/-- What the module measures of its power converters at a loop sample: bus voltage, cell-side current and bus-side power
of each flyback converter 1 to 6, transfer power on the AUX24 side and on the bus side, bleeder current by cell, tach
frequencies, valve readback in mA. -/
structure LoopMeas where
  busV : Rat
  fly : List (Rat × Rat)
  transferAux : Rat
  transferBus : Rat
  bleed : List (Nat × Rat)
  tach1 : Rat
  tach2 : Rat
  valve : Rat
  deriving DecidableEq, Repr


/-- What the standard outputs show at a load step (R392): mean and largest deviation of the current outputs over the
preceding 2 ms, the output that marks the step, all in A; mean of each cell's outputs over the same 2 ms, in µV. -/
structure StepMeas where
  iPre : Rat
  iPreDev : Rat
  amps : Rat
  cells : List (Nat × Rat)
  deriving DecidableEq, Repr

/-- What a Goertzel block of a bin gives (R397): the instant of its first sample, V·conj(I) in V·A, |I|² in A². -/
structure BinBlock where
  since : Nat
  re : Rat
  im : Rat
  i2 : Rat
  deriving DecidableEq, Repr

/-- The three range objects of the recorder (R629). -/
inductive RangeObj where | voltLow | voltHigh | currentSpan
  deriving DecidableEq, Repr

/-- What the management processor's sensors read (R659): the six rails in V, humidity in %RH, grid conductance in µS, board
temperature in °C. -/
structure MgmtReading where
  rails : List Rat
  humidity : Rat
  grid : Rat
  board : Rat
  deriving DecidableEq, Repr

/-- The verification of a channel (R690): its cell, the mean of 100 ms of its precision outputs under the new coefficients
and the IS2 entry on its SP channel, in µV. -/
structure CalCheck where
  cell : Nat
  precision : Rat
  sp : Rat
  deriving DecidableEq, Repr
/-- The commands: one constructor per row of the opcode table. -/
inductive Instr where
  -- chapter 1: election, enumeration, membership
  | descriptorAnnounce (t : Nat) (a : Announce)
  | descriptorAnnounceRepeat (t : Nat)
  | descriptorDecision (t : Nat)
  | headClaim (t serial seq pack basis : Nat)
  | claimWaitExpiry (t : Nat)
  | rollOffOpen (t serial seq pack : Nat)
  | rollOffDraw (t pack round draw : Nat)
  | rollOffRoundClose (t : Nat)
  | electionRetry (t : Nat)
  | preEnumBackoffExpiry (t : Nat)
  | descCommit (t : Nat) (q : PxReq) (v : Nat)
  | descDistribution (t : Nat) (rx : SlotRx) (tid : Nat) (record : Bytes)
  | descWriteAck (t node : Nat) (ok : Bool)
  | descCommitTimeout (t : Nat)
  | adoptPack (t : Nat) (q : PxReq) (v : Nat)
  | descErase (t : Nat) (q : PxReq) (v : Nat)
  | standbyDesignate (t : Nat)
  | lateJoinRound (t : Nat)
  | joinOpen (t membGen freeIds : Nat)
  | join (t : Nat) (j : JoinFrame)
  | lateJoinRoundClose (t : Nat)
  | nodeAssign (t serial pack node membGen : Nat)
  | assignAck (t serial node : Nat) (ctlB : Bool)
  | assignAckTimeout (t : Nat)
  | enumerationCloseDeadline (t : Nat)
  | enumerationClose (t : Nat) (ra rb : BusRates) (membGen : Nat)
  | busRateSwitch (t : Nat)
  | rateScan (t : Nat)
  -- chapter 2: connectors and supplies
  | j4PresenceCheck (t : Nat) (ohms : Rat)
  | unusedChannelCheck (t : Nat) (readings : List Int)
  | populatedCellsWrite (t : Nat) (q : PxReq) (v : Nat)
  | populatedCellsApply (t : Nat)
  | sentSupplyLimit (t k : Nat)
  | sentSupplyRetry (t k : Nat) (limiting : Bool)
  | valveOpenDetect (t : Nat) (readback : Rat)
  | valveLoopFault (t : Nat)
  | transferExportCutoff (t : Nat) (aux24 : Rat)
  | transferImportCutoff (t : Nat) (aux24 : Rat)
  | wakeLoopbackTest (t : Nat)
  | wakeLoopbackEnd (t : Nat) (ok : Bool)
  | usbAttach (t : Nat)
  | usbDetach (t : Nat)
  -- chapter 3: modes, start-up, hold-up, self-heating
  | moduleReady (t holdup : Nat)
  | startUp (t : Nat) (r : StartRec)
  | captureInitDone (t : Nat) (ok : Bool)
  | wake (t : Nat)
  | aux24Present (t : Nat)
  | aux24Loss (t holdup : Nat)
  | holdupStep4End (t holdup : Nat)
  | maintPermitGrant (t : Nat) (q : PxReq) (v : Nat)
  | maintPermitEnd (t : Nat) (q : PxReq) (v : Nat)
  | maintPermitExpiry (t : Nat)
  | safeExit (t : Nat) (q : PxReq) (v : Nat)
  | shipArm (t : Nat) (q : PxReq) (v : Nat)
  | shipDisarm (t : Nat) (q : PxReq) (v : Nat)
  | shipArmLapse (t : Nat)
  | keepaliveReading (t : Nat) (cells : List Int) (ntcs : List (Option Rat))
  | keepaliveWatchdog (t : Nat)
  | powerCycleTimerExpiry (t : Nat)
  | stackCollapse (t : Nat)
  | thermalSensorRead (t : Nat) (temps : List Rat)
  -- chapter 4: ring time, spinner, crossings
  | timeRecordSend (t : Nat)
  | time (t : Nat) (rx : SlotRx) (origin corr censusNo flags residence : Nat)
  | timeHoldover (t : Nat)
  | timeUnsynced (t : Nat)
  | delayReqSend (t : Nat)
  | delayReq (t : Nat) (p : Port) (t1 : Nat)
  | delayResp (t : Nat) (p : Port) (t1 t2 t3 : Nat)
  | syncEdge (t : Nat)
  | pcsAngle (t : Nat) (rx : SlotRx) (time angle period : Nat) (valid : Bool)
  | spinnerSourceLost (t : Nat)
  | spinnerSourceReturn (t : Nat)
  | spinnerRecordSend (t : Nat)
  | spinner (t : Nat) (rx : SlotRx) (r : SpinnerRec)
  | precisionMRecompute (t : Nat)
  | windowAnchor (t : Nat)
  | angleComparatorFire (t : Nat) (u : AngleUnit) (k : Nat)
  | shadowLowRead (t : Nat) (m : Master) (index sub : Nat)
  | shadowHighRead (t : Nat) (m : Master) (index sub : Nat)
  | shadowExpiry (t : Nat) (m : Master)
  | crossingStatusClear (t : Nat) (q : PxReq) (v : Nat)
  -- chapter 5: precision measurement
  | refCrossCheck (t : Nat) (d1 d2 : Rat)
  | precisionChannelFail (t cell : Nat)
  | modulatorOverload (t cell since : Nat)
  | precisionWindowEnd (t : Nat) (raw : List ChanRaw)
  | widebandOutput (t j : Nat) (raw : List ChanRaw) (cur : Option CurrentRaw)
  | standardOutput (t j : Nat) (raw : List ChanRaw) (taps : Option TapsRaw)
  -- chapter 6: auxiliary converter and legacy view
  | routineTrigger (t : Nat)
  | hostRegTrigger (t : Nat)
  | hostRegStart (t : Nat) (q : PxReq) (v : Nat)
  | injTrigger (t : Nat) (k : InjSeq)
  | auxConversionDone (t : Nat) (code : Int)
  | blankWindowOpen (t : Nat)
  | blankWaitTimeout (t : Nat)
  | pawnVisit (t : Nat)
  | pawnAbandon (t dev : Nat)
  | balctrlWrite (t : Nat) (q : PxReq) (dev v : Nat)
  | balctrlExpiry (t dev : Nat)
  -- chapter 7: sense integrity
  | owtTestStart (t : Nat)
  | owtRetest (t : Nat)
  | owtRoundOverdue (t : Nat)
  | dualPathCheck (t : Nat)
  | stackSupplyAbsent (t : Nat)
  -- chapter 8: balancing
  | balPlanCompute (t : Nat)
  | plan (t : Nat) (via : PlanVia) (record : Bytes)
  | report (t : Nat) (rx : SlotRx) (record : Bytes)
  | balanceLeaseExpiry (t : Nat)
  | flybackReselect (t : Nat)
  | balTargetReached (t cell : Nat)
  | balBooksCheck (t : Nat)
  | balBusUndervoltage (t : Nat)
  | balBusOvervoltage (t : Nat)
  | balBusFault (t : Nat)
  | flybackImplausible (t k : Nat)
  | transferImplausible (t : Nat)
  | bleederImplausible (t : Nat) (half2 : Bool)
  -- chapter 9: head I/O and protection
  | shortCircuitTrip (t : Nat) (amps : Rat)
  | currentCheck (t : Nat) (shunt flux : Option Rat)
  | currentChannelFault (t : Nat) (flux : Bool)
  | stringVoltageCheck (t : Nat) (stringVoltage : Rat)
  | isoStateEnd (t : Nat) (settled : Bool) (vp vn : Rat)
  | tripLoopLoss (t : Nat)
  | tripNoticeWaitExpiry (t : Nat)
  | protectionDelayExpiry (t : Nat) (c : ProtCond)
  | protectionRelease (t : Nat) (c : ProtCond)
  | openReqRepeat (t : Nat)
  | openReq (t : Nat) (via : NoticeVia) (n : Notice)
  | openReqHoldExpiry (t node : Nat)
  | trip (t : Nat) (via : NoticeVia) (n : Notice)
  | tripResetCommand (t : Nat) (q : PxReq) (v : Nat)
  | tripReset (t : Nat) (via : NoticeVia) (n : Notice)
  | trippedClear (t : Nat)
  | contactorClose (t : Nat) (q : PxReq) (v : Nat)
  | contactorOpen (t : Nat) (q : PxReq) (v : Nat)
  | closingSequenceStep (t : Nat) (m : SeqMeas)
  | prechargeLockoutExpiry (t : Nat)
  | openingSequenceStep (t : Nat) (m : SeqMeas)
  | coilShortCircuit (t : Nat) (c : Coil)
  | coilOpenLoad (t : Nat) (c : Coil)
  | releaseSend (t : Nat)
  | release (t : Nat) (rx : SlotRx) (node : Nat) (released : Bool) (membGen time : Nat)
  | pcsLimitPeriod (t : Nat)
  | protectionSetWrite (t : Nat) (q : PxReq) (index sub : Nat) (v : PxValue)
  | protSetCrcCheck (t : Nat) (crcs : List (Nat × Nat))
  -- chapter 10: estimation
  | chargeCount (t : Nat)
  | countGap (t : Nat)
  | countHold (t : Nat)
  | voltageCheck (t : Nat)
  | firstEstimate (t : Nat)
  | initialTimeout (t : Nat)
  | restPoint (t cell : Nat)
  | socRecordWrite (t : Nat)
  | capacityRecordWrite (t : Nat)
  | recordWriteRetry (t : Nat)
  | recordReadback (t : Nat) (capacity : Bool) (crc : Nat)
  | loadStep (t ts : Nat) (m : StepMeas)
  | stepWindowEnd (t term : Nat) (amps dev : Rat) (cells : List (Nat × Rat))
  | impedanceBlock (t cell bin : Nat) (b : BinBlock)
  | sdEpisodeStart (t : Nat)
  | sdWindowEnd (t : Nat)
  | socEstSend (t : Nat)
  | capEstSend (t : Nat)
  | socEst (t : Nat) (rx : SlotRx) (record : Bytes)
  | capEst (t : Nat) (rx : SlotRx) (record : Bytes)
  | stringEstimate (t : Nat)
  -- chapter 11: loop engine and thermal control
  | loopSample (t : Nat) (m : LoopMeas)
  | loopEnable (t : Nat) (q : PxReq) (inst v : Nat)
  | loopDisable (t : Nat) (q : PxReq) (inst v : Nat)
  | bankWrite (t : Nat) (q : PxReq) (inst : Nat) (bankB : Bool) (d : Bytes)
  | bankRequest (t : Nat) (q : PxReq) (inst v : Nat)
  | inputBindWrite (t : Nat) (q : PxReq) (inst : Nat) (d : Bytes)
  | outputBindWrite (t : Nat) (q : PxReq) (inst : Nat) (d : Bytes)
  | setpointWrite (t : Nat) (q : PxReq) (inst slot : Nat) (v : BitVec 32)
  | thermalSetpointUpdate (t : Nat)
  | fanStall (t fan : Nat)
  -- chapter 12: the ring
  | lightLoss (t : Nat) (p : Port)
  | portDown (t : Nat) (p : Port)
  | linkFault (t : Nat) (p : Port)
  | portUp (t : Nat) (p : Port)
  | portReadyRepeat (t : Nat) (p : Port)
  | wrapPortDown (t : Nat) (rx : SlotRx) (n : Notice)
  | wrapPortReady (t : Nat) (rx : SlotRx) (n : Notice)
  | unwrapOrder (t : Nat) (rx : SlotRx) (n : Notice)
  | unwrapInstant (t : Nat)
  | censusRequestNotice (t : Nat) (rx : SlotRx) (n : Notice)
  | censusRequest (t : Nat) (q : PxReq) (v : Nat)
  | census (t : Nat) (rx : SlotRx) (no count turnAt stringId : Nat)
  | censusTimeout (t : Nat)
  | censusRetry (t : Nat)
  | censusResult (t : Nat) (rx : SlotRx) (no n turnAt effective stringId : Nat)
  | censusResultTimeout (t : Nat)
  | censusEffective (t : Nat)
  | censusReply (t : Nat) (rx : SlotRx) (r : CensusReplyRec)
  | censusReplyTimeout (t : Nat)
  | slotForward (t : Nat) (rx : SlotRx) (payload : Bytes) (residence : Nat)
  | damagedSlot (t : Nat) (rx : SlotRx) (payload : Bytes) (damage : SlotDamage)
  | queueBooksCheck (t : Nat)
  | slotSyncReached (t : Nat) (p : Port)
  | ringDownTimeout (t : Nat)
  -- chapter 12, streams of other members
  | precision (t : Nat) (rx : SlotRx) (words : List Nat)
  | current (t : Nat) (rx : SlotRx) (words : List Nat)
  | wideband (t : Nat) (rx : SlotRx) (words : List Nat)
  | bulk (t : Nat) (rx : SlotRx) (payload : Bytes)
  -- chapter 13: control buses
  | laneFrameCopy (t : Nat) (lane : Lane) (f : VoteFrame)
  | voteWindowExpiry (t : Nat)
  | frameSent (t : Nat) (b : Bus) (r : SendResult)
  | busNotice (t : Nat) (b : Bus) (id typ seq : Nat) (n : Notice)
  | errorPassive (t : Nat) (b : Bus)
  | busOff (t : Nat) (b : Bus)
  | busOffHoldoffExpiry (t : Nat) (b : Bus)
  | busRecover (t : Nat) (b : Bus) (q : PxReq) (v : Nat)
  | busOffRecoveryDone (t : Nat) (b : Bus)
  | busEnable (t : Nat) (b : Bus) (q : PxReq) (v : Nat)
  | lonely (t : Nat) (b : Bus)
  | lonelyRetry (t : Nat) (b : Bus)
  | mailboxBooksCheck (t : Nat) (b : Bus) (tx rx : Nat)
  | controlBusesLost (t : Nat)
  | status (t : Nat) (via : FrameVia) (r : StatusRec)
  | statusSend (t : Nat)
  | heartbeatSend (t : Nat)
  | heartbeat (t : Nat) (via : FrameVia) (r : HeartbeatRec)
  | heartbeatPeriodEnd (t : Nat)
  -- chapter 14: parameter exchange
  | pxRead (t : Nat) (q : PxReq) (index sub : Nat)
  | pxWrite (t : Nat) (q : PxReq) (index sub : Nat) (v : PxValue)
  | registerWrite (t : Nat) (q : PxReq) (index sub : Nat) (v : PxValue)
  | rwpWriteDone (t : Nat) (ok : Bool)
  | pxBlockRead (t : Nat) (q : PxReq) (index sub offset size : Nat)
  | pxBlockWrite (t : Nat) (q : PxReq) (index sub offset size : Nat)
  | pxSegment (t : Nat) (q : PxReq) (segno : Nat) (data : Bytes)
  | pxAck (t : Nat) (q : PxReq) (next : Nat)
  | pxEnd (t : Nat) (q : PxReq) (crc : Nat)
  | pxAbort (t : Nat) (q : PxReq) (code : Nat)
  | pxResponse (t node tid code : Nat)
  | blockAckTimeout (t : Nat)
  | blockIdleTimeout (t : Nat)
  | pxResponseStoreExpiry (t : Nat)
  | pubAreaPoll (t node : Nat) (area : Bytes)
  | directoryStale (t node : Nat)
  | pointLimitsReport (t node point : Nat) (lo hi : BitVec 32)
  | changeLogCopy (t : Nat)
  -- chapter 15: lanes, faults, failover
  | auxLoss (t : Nat) (via : NoticeVia) (n : Notice)
  | abdicate (t : Nat) (via : NoticeVia) (n : Notice)
  | headFailureWaitExpiry (t : Nat)
  | abdicateLoopHoldExpiry (t : Nat)
  | checkpointSend (t : Nat)
  | checkpoint (t : Nat) (rx : SlotRx) (gen index : Nat) (data : Bytes)
  | checkpointAck (t : Nat) (rx : SlotRx) (gen received : Nat) (complete : Bool)
  | checkpointLag (t : Nat)
  | handoverCommand (t : Nat) (q : PxReq) (v : Nat)
  | handoverTimeout (t : Nat)
  | laneTokenTimeout (t : Nat) (lane : Lane)
  | clockMonitor (t : Nat)
  | registerVote (t : Nat) (target : RegTarget) (a b c : Option Nat)
  | voterSelfTest (t : Nat) (ok : Bool)
  | laneEccError (t : Nat) (lane : Lane) (corrected : Bool)
  | tripDriverCheck (t : Nat) (milliamps : Rat)
  | sourceRaise (t source : Nat)
  | carriedFaultWrite (t : Nat)
  | fcuScan (t : Nat) (ok : Bool)
  | collectorTest (t : Nat) (shown : Bool)
  | collectorTestRelease (t : Nat)
  | firstMoveClear (t : Nat) (q : PxReq) (v : Nat)
  | faultPendingClear (t : Nat) (q : PxReq) (sub v : Nat)
  | severityWrite (t : Nat) (q : PxReq) (source v : Nat)
  -- chapter 16: SENT sensors
  | sentFrame (t k : Nat) (pulses : List Nat)
  | sentTimeout (t k : Nat)
  | sentWarmupEnd (t k : Nat)
  | sentEnable (t : Nat) (q : PxReq) (k v : Nat)
  | sentChannelCheck (t k : Nat)
  -- chapter 17: recorder, capture memory, pack memory
  | captureTrig (t : Nat) (rx : SlotRx) (n : Notice)
  | recorderSample (t : Nat)
  | recorderStage (t : Nat)
  | recorderRangeWrite (t : Nat) (q : PxReq) (o : RangeObj) (v : BitVec 32)
  | recClear (t : Nat) (q : PxReq) (v : Nat)
  | episodeWrite (t : Nat)
  | dayClose (t : Nat)
  | scrubPassEnd (t : Nat)
  | scrubOverdue (t : Nat)
  | captureMemoryEcc (t addr : Nat) (double : Bool)
  | captureTrigger (t : Nat) (q : PxReq) (v : Nat)
  | captureAngleArm (t : Nat) (q : PxReq) (v : Nat)
  | captureRecordClose (t : Nat)
  | captureBooksCheck (t free recording held reading : Nat)
  | captureReadout (t : Nat) (q : PxReq) (request : Bytes)
  | captureReadoutDone (t : Nat)
  | captureRelease (t : Nat) (q : PxReq) (v : Nat)
  | norWriteFail (t : Nat)
  | changeLogNorTimeout (t : Nat)
  | packIdentityWrite (t : Nat) (q : PxReq) (v : Nat)
  | packMemoryTransferDone (t addr : Nat) (ok : Bool)
  -- chapter 18: management, security, update, calibration, USB
  | mgmtSensorRead (t : Nat) (r : MgmtReading)
  | supplyMonitor (t rail : Nat) (volts : Rat)
  | mgmtTokenTimeout (t : Nat)
  | mgmtRestartDone (t : Nat)
  | calendarSet (t : Nat) (q : PxReq) (d : Bytes)
  | sessionChallenge (t : Nat) (q : PxReq)
  | sessionOpen (t : Nat) (q : PxReq) (d : Bytes)
  | sessionClose (t : Nat) (q : PxReq) (v : Nat)
  | sessionTimeout (t handle : Nat)
  | authLockoutExpiry (t : Nat)
  | roleKeyWrap (t : Nat) (q : PxReq) (d : Bytes)
  | signingKeyRevoke (t : Nat) (q : PxReq) (v : Nat)
  | updateManifest (t : Nat) (q : PxReq) (d : Bytes)
  | sectorEraseDone (t : Nat)
  | updateBlock (t : Nat) (q : PxReq) (index : Nat) (d : Bytes)
  | blockProgramDone (t : Nat)
  | updateVerifyDone (t : Nat)
  | updateAbort (t : Nat) (q : PxReq) (v : Nat)
  | updateActivate (t : Nat) (q : PxReq) (v : Nat)
  | trialConfirm (t : Nat)
  | calStart (t : Nat) (q : PxReq) (v : Nat)
  | calAbort (t : Nat) (q : PxReq) (v : Nat)
  | calVisitEnd (t cell : Nat) (zero ref : Rat)
  | calVerifyDone (t : Nat) (checks : List CalCheck)
  | usbFrame (t : Nat) (stream : Bytes)
  deriving DecidableEq, Repr

end Sys2Proof
end

