-- ==== Sys2Proof/WellFormed.lean ====
section
/-! DEFINITION. When a command's operands are ones its row can carry: every field within the width or range its frame, slot
or object gives it. -/
namespace Sys2Proof

/-- Whether a number fits a field of `w` bits. -/
def fits (w n : Nat) : Bool := decide (n < 2 ^ w)

/-- Whether a number lies between two bounds. -/
def between (lo hi n : Nat) : Bool := decide (lo ≤ n) && decide (n ≤ hi)

/-- A square or ORIGIN fits its signed field of `w` bits. -/
def fitsInt (w : Nat) (v : Int) : Bool := decide (-(2 ^ (w - 1) : Int) ≤ v) && decide (v < (2 ^ (w - 1) : Int))

/-- The fields of a slot header within R456. -/
def SlotHdr.wf (h : SlotHdr) : Bool :=
  fits 3 h.cls && fits 5 h.typ && fits 6 h.hops && fitsInt 7 h.src && fits 16 h.seq && fits 3 h.trClass && fits 3 h.trCount && fits 8 h.aux

/-- A slot at a port within R456. -/
def SlotRx.wf (x : SlotRx) : Bool := x.hdr.wf

/-- A PX request within R542: its TID, node, ORIGIN, SESSION, and an AUTH exactly in a session. -/
def PxReq.wf (q : PxReq) : Bool :=
  fitsInt 8 q.origin && fits 8 q.node && fits 8 q.tid && fits 16 q.session && decide (q.auth.length = if q.session = 0 then 0 else 8)

/-- A notice within R485. -/
def Notice.wf (n : Notice) : Bool := fits 8 n.node && fits 8 n.code && fits 16 n.detail && fits 64 n.time && fits 64 n.pack

/-- The way of a notice. -/
def NoticeVia.wf : NoticeVia → Bool
  | .ring rx => rx.wf
  | .bus _ seq => fits 16 seq

/-- The way of a heartbeat or STATUS. -/
def FrameVia.wf : FrameVia → Bool
  | .ring rx => rx.wf
  | .bus _ => true

/-- The way of a plan record. -/
def PlanVia.wf : PlanVia → Bool
  | .ring rx => rx.wf
  | .px q => q.wf

/-- A value of an expedited write: at most 32 bytes (R544). -/
def PxValue.wf (v : PxValue) : Bool := fits 8 v.ty && decide (v.data.length ≤ 32)

/-- A descriptor announce within R46. -/
def Announce.wf (a : Announce) : Bool := fits 24 a.serial && fits 32 a.seq && fits 32 a.crc && fits 64 a.headPack && fits 64 a.pack

/-- A join frame within R511. -/
def JoinFrame.wf (j : JoinFrame) : Bool := fits 64 j.pack && fits 64 j.serial && fits 64 j.stringId && fits 32 j.seq

/-- Rate codes of R500 and R502. -/
def BusRates.wf (r : BusRates) : Bool := between 0 3 r.nominal && between 0 4 r.data

/-- A spinner record within R485. -/
def SpinnerRec.wf (r : SpinnerRec) : Bool :=
  fits 64 r.t0 && fits 16 r.turn0 && fits 32 r.p && fits 8 r.source && fits 64 r.anchorTime && fits 16 r.anchorTurn && fits 16 r.m

/-- A heartbeat within R485. -/
def HeartbeatRec.wf (r : HeartbeatRec) : Bool :=
  fits 8 r.node && fits 8 r.mode && fits 8 r.contactor && fits 8 r.basis && fits 64 r.stringId && fits 32 r.descSeq && fits 16 r.membGen
    && fits 16 r.censusNo && fits 32 r.ckptGen && fits 64 r.pack

/-- A STATUS record within R485 and R507. -/
def StatusRec.wf (r : StatusRec) : Bool :=
  fits 8 r.node && fits 8 r.mode && fits 8 r.role && fits 8 r.timeState && fits 16 r.integrity && fits 16 r.meas && fitsInt 32 r.sumC
    && fitsInt 32 r.stackSn && fitsInt 16 r.hotspot && fits 8 r.derate && fits 8 r.firstMove && fits 16 r.balStat && fits 16 r.linkView
    && fits 64 r.time

/-- A census reply within R485. -/
def CensusReplyRec.wf (r : CensusReplyRec) : Bool :=
  fits 16 r.censusNo && fitsInt 8 r.square && fits 8 r.kind && fits 64 r.pack && fits 64 r.serial && fits 32 r.descSeq && fits 64 r.descString

/-- Words of a stream slot: at most 13 of 32 bits (R489, R490). -/
def wordsWf (l : List Nat) : Bool := decide (l.length ≤ 13) && l.all (fits 32)

/-- Raw values name channels 1 to 24. -/
def rawWf (l : List ChanRaw) : Bool := l.all (fun r => between 1 24 r.cell)

/-- Whether a command is well formed. -/
def Instr.wf (i : Instr) : Bool :=
  match i with
  | .descriptorAnnounce _ a => a.wf
  | .descriptorAnnounceRepeat _ => true
  | .descriptorDecision _ => true
  | .headClaim _ serial seq pack basis => fits 24 serial && fits 32 seq && fits 64 pack && between 0 3 basis
  | .claimWaitExpiry _ => true
  | .rollOffOpen _ serial seq pack => fits 24 serial && fits 32 seq && fits 64 pack
  | .rollOffDraw _ pack round draw => fits 64 pack && fits 8 round && fits 16 draw
  | .rollOffRoundClose _ => true
  | .electionRetry _ => true
  | .preEnumBackoffExpiry _ => true
  | .descCommit _ q v => q.wf && fits 8 v
  | .descDistribution _ rx tid record => rx.wf && fits 8 tid && decide (record.length = 128)
  | .descWriteAck _ node _ => fits 8 node
  | .descCommitTimeout _ => true
  | .adoptPack _ q v => q.wf && fits 64 v
  | .descErase _ q v => q.wf && fits 8 v
  | .standbyDesignate _ => true
  | .lateJoinRound _ => true
  | .joinOpen _ membGen freeIds => fits 16 membGen && fits 8 freeIds
  | .join _ j => j.wf
  | .lateJoinRoundClose _ => true
  | .nodeAssign _ serial pack node membGen => fits 64 serial && fits 64 pack && fits 8 node && fits 16 membGen
  | .assignAck _ serial node _ => fits 64 serial && fits 8 node
  | .assignAckTimeout _ => true
  | .enumerationCloseDeadline _ => true
  | .enumerationClose _ ra rb membGen => ra.wf && rb.wf && fits 16 membGen
  | .busRateSwitch _ => true
  | .rateScan _ => true
  | .j4PresenceCheck _ _ => true
  | .unusedChannelCheck _ _ => true
  | .populatedCellsWrite _ q v => q.wf && fits 8 v
  | .populatedCellsApply _ => true
  | .sentSupplyLimit _ k => between 1 8 k
  | .sentSupplyRetry _ k _ => between 1 8 k
  | .valveOpenDetect _ _ => true
  | .valveLoopFault _ => true
  | .transferExportCutoff _ _ => true
  | .transferImportCutoff _ _ => true
  | .wakeLoopbackTest _ => true
  | .wakeLoopbackEnd _ _ => true
  | .usbAttach _ => true
  | .usbDetach _ => true
  | .moduleReady _ _ => true
  | .startUp _ _ => true
  | .captureInitDone _ _ => true
  | .wake _ => true
  | .aux24Present _ => true
  | .aux24Loss _ _ => true
  | .holdupStep4End _ _ => true
  | .maintPermitGrant _ q v => q.wf && fits 16 v
  | .maintPermitEnd _ q v => q.wf && fits 16 v
  | .maintPermitExpiry _ => true
  | .safeExit _ q v => q.wf && fits 8 v
  | .shipArm _ q v => q.wf && fits 8 v
  | .shipDisarm _ q v => q.wf && fits 8 v
  | .shipArmLapse _ => true
  | .keepaliveReading _ _ _ => true
  | .keepaliveWatchdog _ => true
  | .powerCycleTimerExpiry _ => true
  | .stackCollapse _ => true
  | .thermalSensorRead _ _ => true
  | .timeRecordSend _ => true
  | .time _ rx origin corr censusNo flags _ => rx.wf && fits 64 origin && fits 64 corr && fits 16 censusNo && fits 8 flags
  | .timeHoldover _ => true
  | .timeUnsynced _ => true
  | .delayReqSend _ => true
  | .delayReq _ _ t1 => fits 64 t1
  | .delayResp _ _ t1 t2 t3 => fits 64 t1 && fits 64 t2 && fits 64 t3
  | .syncEdge _ => true
  | .pcsAngle _ rx tm angle period _ => rx.wf && fits 64 tm && fits 32 angle && fits 32 period
  | .spinnerSourceLost _ => true
  | .spinnerSourceReturn _ => true
  | .spinnerRecordSend _ => true
  | .spinner _ rx r => rx.wf && r.wf
  | .precisionMRecompute _ => true
  | .windowAnchor _ => true
  | .angleComparatorFire _ _ k => between 0 15 k
  | .shadowLowRead _ _ index sub => fits 16 index && fits 8 sub
  | .shadowHighRead _ _ index sub => fits 16 index && fits 8 sub
  | .shadowExpiry _ _ => true
  | .crossingStatusClear _ q v => q.wf && fits 16 v
  | .refCrossCheck _ _ _ => true
  | .precisionChannelFail _ cell => between 1 24 cell
  | .modulatorOverload _ cell _ => between 1 24 cell
  | .precisionWindowEnd _ raw => rawWf raw
  | .widebandOutput _ _ raw _ => rawWf raw
  | .standardOutput _ _ raw _ => rawWf raw
  | .routineTrigger _ => true
  | .hostRegTrigger _ => true
  | .hostRegStart _ q v => q.wf && fits 8 v
  | .injTrigger _ _ => true
  | .auxConversionDone _ _ => true
  | .blankWindowOpen _ => true
  | .blankWaitTimeout _ => true
  | .pawnVisit _ => true
  | .pawnAbandon _ dev => between 0 1 dev
  | .balctrlWrite _ q dev v => q.wf && between 0 1 dev && fits 16 v
  | .balctrlExpiry _ dev => between 0 1 dev
  | .owtTestStart _ => true
  | .owtRetest _ => true
  | .owtRoundOverdue _ => true
  | .dualPathCheck _ => true
  | .stackSupplyAbsent _ => true
  | .balPlanCompute _ => true
  | .plan _ via record => via.wf && decide (record.length = 64)
  | .report _ rx record => rx.wf && decide (record.length = 64)
  | .balanceLeaseExpiry _ => true
  | .flybackReselect _ => true
  | .balTargetReached _ cell => between 1 24 cell
  | .balBooksCheck _ => true
  | .balBusUndervoltage _ => true
  | .balBusOvervoltage _ => true
  | .balBusFault _ => true
  | .flybackImplausible _ k => between 1 6 k
  | .transferImplausible _ => true
  | .bleederImplausible _ _ => true
  | .shortCircuitTrip _ _ => true
  | .currentCheck _ _ _ => true
  | .currentChannelFault _ _ => true
  | .stringVoltageCheck _ _ => true
  | .isoStateEnd _ _ _ _ => true
  | .tripLoopLoss _ => true
  | .tripNoticeWaitExpiry _ => true
  | .protectionDelayExpiry _ _ => true
  | .protectionRelease _ _ => true
  | .openReqRepeat _ => true
  | .openReq _ via n => via.wf && n.wf
  | .openReqHoldExpiry _ node => fits 8 node
  | .trip _ via n => via.wf && n.wf
  | .tripResetCommand _ q v => q.wf && fits 8 v
  | .tripReset _ via n => via.wf && n.wf
  | .trippedClear _ => true
  | .contactorClose _ q v => q.wf && fits 8 v
  | .contactorOpen _ q v => q.wf && fits 8 v
  | .closingSequenceStep _ _ => true
  | .prechargeLockoutExpiry _ => true
  | .openingSequenceStep _ _ => true
  | .coilShortCircuit _ _ => true
  | .coilOpenLoad _ _ => true
  | .releaseSend _ => true
  | .release _ rx node _ membGen tm => rx.wf && fits 8 node && fits 16 membGen && fits 64 tm
  | .pcsLimitPeriod _ => true
  | .protectionSetWrite _ q index sub v => q.wf && fits 16 index && fits 8 sub && v.wf
  | .protSetCrcCheck _ _ => true
  | .chargeCount _ => true
  | .countGap _ => true
  | .countHold _ => true
  | .voltageCheck _ => true
  | .firstEstimate _ => true
  | .initialTimeout _ => true
  | .restPoint _ cell => between 1 24 cell
  | .socRecordWrite _ => true
  | .capacityRecordWrite _ => true
  | .recordWriteRetry _ => true
  | .recordReadback _ _ crc => fits 32 crc
  | .loadStep _ _ _ => true
  | .stepWindowEnd _ term _ _ _ => between 0 2 term
  | .impedanceBlock _ cell bin _ => between 1 24 cell && between 0 63 bin
  | .sdEpisodeStart _ => true
  | .sdWindowEnd _ => true
  | .socEstSend _ => true
  | .capEstSend _ => true
  | .socEst _ rx record => rx.wf && decide (record.length = 52)
  | .capEst _ rx record => rx.wf && decide (record.length = 52)
  | .stringEstimate _ => true
  | .loopSample _ _ => true
  | .loopEnable _ q inst v => q.wf && between 0 15 inst && fits 8 v
  | .loopDisable _ q inst v => q.wf && between 0 15 inst && fits 8 v
  | .bankWrite _ q inst _ d => q.wf && between 0 15 inst && decide (d.length = 1000)
  | .bankRequest _ q inst v => q.wf && between 0 15 inst && fits 8 v
  | .inputBindWrite _ q inst d => q.wf && between 0 15 inst && decide (d.length = 16)
  | .outputBindWrite _ q inst d => q.wf && between 0 15 inst && decide (d.length = 16)
  | .setpointWrite _ q inst slot _ => q.wf && between 0 15 inst && between 1 4 slot
  | .thermalSetpointUpdate _ => true
  | .fanStall _ fan => between 1 2 fan
  | .lightLoss _ _ => true
  | .portDown _ _ => true
  | .linkFault _ _ => true
  | .portUp _ _ => true
  | .portReadyRepeat _ _ => true
  | .wrapPortDown _ rx n => rx.wf && n.wf
  | .wrapPortReady _ rx n => rx.wf && n.wf
  | .unwrapOrder _ rx n => rx.wf && n.wf
  | .unwrapInstant _ => true
  | .censusRequestNotice _ rx n => rx.wf && n.wf
  | .censusRequest _ q v => q.wf && fits 8 v
  | .census _ rx no count turnAt stringId => rx.wf && fits 16 no && fits 8 count && fits 8 turnAt && fits 64 stringId
  | .censusTimeout _ => true
  | .censusRetry _ => true
  | .censusResult _ rx no n turnAt effective stringId => rx.wf && fits 16 no && fits 8 n && fits 8 turnAt && fits 64 effective && fits 64 stringId
  | .censusResultTimeout _ => true
  | .censusEffective _ => true
  | .censusReply _ rx r => rx.wf && r.wf
  | .censusReplyTimeout _ => true
  | .slotForward _ rx payload _ => rx.wf && decide (payload.length = 52)
  | .damagedSlot _ rx payload _ => rx.wf && decide (payload.length = 52)
  | .queueBooksCheck _ => true
  | .slotSyncReached _ _ => true
  | .ringDownTimeout _ => true
  | .precision _ rx words => rx.wf && wordsWf words
  | .current _ rx words => rx.wf && wordsWf words
  | .wideband _ rx words => rx.wf && wordsWf words
  | .bulk _ rx payload => rx.wf && decide (payload.length = 52)
  | .laneFrameCopy _ _ _ => true
  | .voteWindowExpiry _ => true
  | .frameSent _ _ _ => true
  | .busNotice _ _ id typ seq n => fits 11 id && fits 5 typ && fits 16 seq && n.wf
  | .errorPassive _ _ => true
  | .busOff _ _ => true
  | .busOffHoldoffExpiry _ _ => true
  | .busRecover _ _ q v => q.wf && fits 8 v
  | .busOffRecoveryDone _ _ => true
  | .busEnable _ _ q v => q.wf && fits 8 v
  | .lonely _ _ => true
  | .lonelyRetry _ _ => true
  | .mailboxBooksCheck _ _ _ _ => true
  | .controlBusesLost _ => true
  | .status _ via r => via.wf && r.wf
  | .statusSend _ => true
  | .heartbeatSend _ => true
  | .heartbeat _ via r => via.wf && r.wf
  | .heartbeatPeriodEnd _ => true
  | .pxRead _ q index sub => q.wf && fits 16 index && fits 8 sub
  | .pxWrite _ q index sub v => q.wf && fits 16 index && fits 8 sub && v.wf
  | .registerWrite _ q index sub v => q.wf && fits 16 index && fits 8 sub && v.wf
  | .rwpWriteDone _ _ => true
  | .pxBlockRead _ q index sub offset size => q.wf && fits 16 index && fits 8 sub && fits 32 offset && fits 32 size
  | .pxBlockWrite _ q index sub offset size => q.wf && fits 16 index && fits 8 sub && fits 32 offset && fits 32 size
  | .pxSegment _ q segno data => q.wf && fits 16 segno && decide (data.length ≤ 32)
  | .pxAck _ q next => q.wf && fits 16 next
  | .pxEnd _ q crc => q.wf && fits 32 crc
  | .pxAbort _ q code => q.wf && fits 8 code
  | .pxResponse _ node tid code => fits 8 node && fits 8 tid && fits 8 code
  | .blockAckTimeout _ => true
  | .blockIdleTimeout _ => true
  | .pxResponseStoreExpiry _ => true
  | .pubAreaPoll _ node area => fits 8 node && decide (area.length = 276)
  | .directoryStale _ node => fits 8 node
  | .pointLimitsReport _ node point _ _ => fits 8 node && between 0 63 point
  | .changeLogCopy _ => true
  | .auxLoss _ via n => via.wf && n.wf
  | .abdicate _ via n => via.wf && n.wf
  | .headFailureWaitExpiry _ => true
  | .abdicateLoopHoldExpiry _ => true
  | .checkpointSend _ => true
  | .checkpoint _ rx gen index data => rx.wf && fits 32 gen && fits 16 index && decide (data.length = 46)
  | .checkpointAck _ rx gen received _ => rx.wf && fits 32 gen && fits 16 received
  | .checkpointLag _ => true
  | .handoverCommand _ q v => q.wf && fits 8 v
  | .handoverTimeout _ => true
  | .laneTokenTimeout _ _ => true
  | .clockMonitor _ => true
  | .registerVote _ _ _ _ _ => true
  | .voterSelfTest _ _ => true
  | .laneEccError _ _ _ => true
  | .tripDriverCheck _ _ => true
  | .sourceRaise _ source => between 0 159 source
  | .carriedFaultWrite _ => true
  | .fcuScan _ _ => true
  | .collectorTest _ _ => true
  | .collectorTestRelease _ => true
  | .firstMoveClear _ q v => q.wf && fits 8 v
  | .faultPendingClear _ q sub v => q.wf && between 1 5 sub && fits 32 v
  | .severityWrite _ q source v => q.wf && between 0 159 source && fits 8 v
  | .sentFrame _ k _ => between 1 8 k
  | .sentTimeout _ k => between 1 8 k
  | .sentWarmupEnd _ k => between 1 8 k
  | .sentEnable _ q k v => q.wf && between 1 8 k && fits 8 v
  | .sentChannelCheck _ k => between 1 8 k
  | .captureTrig _ rx n => rx.wf && n.wf
  | .recorderSample _ => true
  | .recorderStage _ => true
  | .recorderRangeWrite _ q _ _ => q.wf
  | .recClear _ q v => q.wf && fits 8 v
  | .episodeWrite _ => true
  | .dayClose _ => true
  | .scrubPassEnd _ => true
  | .scrubOverdue _ => true
  | .captureMemoryEcc _ _ _ => true
  | .captureTrigger _ q v => q.wf && fits 8 v
  | .captureAngleArm _ q v => q.wf && fits 32 v
  | .captureRecordClose _ => true
  | .captureBooksCheck _ _ _ _ _ => true
  | .captureReadout _ q request => q.wf && decide (request.length = 16)
  | .captureReadoutDone _ => true
  | .captureRelease _ q v => q.wf && fits 16 v
  | .norWriteFail _ => true
  | .changeLogNorTimeout _ => true
  | .packIdentityWrite _ q v => q.wf && fits 64 v
  | .packMemoryTransferDone _ _ _ => true
  | .mgmtSensorRead _ _ => true
  | .supplyMonitor _ rail _ => between 0 5 rail
  | .mgmtTokenTimeout _ => true
  | .mgmtRestartDone _ => true
  | .calendarSet _ q d => q.wf && decide (d.length = 12)
  | .sessionChallenge _ q => q.wf
  | .sessionOpen _ q d => q.wf && decide (d.length = 24)
  | .sessionClose _ q v => q.wf && fits 16 v
  | .sessionTimeout _ handle => fits 16 handle
  | .authLockoutExpiry _ => true
  | .roleKeyWrap _ q d => q.wf && decide (d.length = 64)
  | .signingKeyRevoke _ q v => q.wf && fits 8 v
  | .updateManifest _ q d => q.wf && decide (d.length = 256)
  | .sectorEraseDone _ => true
  | .updateBlock _ q index d => q.wf && between 0 2047 index && decide (d.length = 4096)
  | .blockProgramDone _ => true
  | .updateVerifyDone _ => true
  | .updateAbort _ q v => q.wf && fits 8 v
  | .updateActivate _ q v => q.wf && fits 8 v
  | .trialConfirm _ => true
  | .calStart _ q v => q.wf && fits 8 v
  | .calAbort _ q v => q.wf && fits 8 v
  | .calVisitEnd _ cell _ _ => between 1 24 cell
  | .calVerifyDone _ _ => true
  | .usbFrame _ _ => true

end Sys2Proof
end

