-- ==== Sys2Proof/Machine/Bytes.lean ====
section
/-! DEFINITION. Byte-order helpers (R14: multi-byte fields are stored least significant byte first), bit fields and
the integer roundings the rules use. -/
namespace Sys2Proof.Machine

/-- The `n` bytes of `v`, least significant first (R14). -/
def leBytes : Nat → Nat → Bytes
  | 0, _ => []
  | n + 1, v => BitVec.ofNat 8 v :: leBytes n (v / 256)

/-- The number that bytes stored least significant first stand for (R14). -/
def leNat : Bytes → Nat
  | [] => 0
  | b :: r => b.toNat + 256 * leNat r

/-- The `n` two's complement bytes of an integer, least significant first (R14, R537). -/
def leInt (n : Nat) (v : Int) : Bytes := leBytes n (v % (2 ^ (8 * n) : Nat)).toNat

/-- The two's complement value of a `w`-bit pattern. -/
def signedOf (w n : Nat) : Int := if n % 2 ^ w < 2 ^ (w - 1) then (n % 2 ^ w : Nat) else ((n % 2 ^ w : Nat) : Int) - (2 ^ w : Nat)

/-- `n` zero bytes. -/
def zeroBytes (n : Nat) : Bytes := List.replicate n 0

/-- A byte string cut or zero-filled to exactly `n` bytes. -/
def fitBytes (n : Nat) (b : Bytes) : Bytes := (b ++ zeroBytes n).take n

/-- Bytes `off` to `off + len - 1` of a byte string. -/
def sliceBytes (off len : Nat) (b : Bytes) : Bytes := (b.drop off).take len

/-- The unsigned field of `len` bytes at byte `off`. -/
def fieldAt (off len : Nat) (b : Bytes) : Nat := leNat (sliceBytes off len b)

/-- `b` with the bytes `v` put at offset `off`. -/
def patchBytes (off : Nat) (v b : Bytes) : Bytes := fitBytes off b ++ v ++ b.drop (off + v.length)

/-- Bits `hi` down to `lo` of a number. -/
def bitsOf (hi lo n : Nat) : Nat := (n / 2 ^ lo) % 2 ^ (hi + 1 - lo)

/-- A Bool as a bit. -/
def bitOf (b : Bool) : Nat := if b then 1 else 0

/-- The number whose bit `k` is the `k`-th Bool of the list. -/
def packBits : List Bool → Nat
  | [] => 0
  | b :: r => bitOf b + 2 * packBits r

/-- Round half to even (the rounding of binary32 results and of R195). DESIGN CHOICE, log entry 8. -/
def roundHalfEven (q : Rat) : Int :=
  let f := q.floor
  let d := q - f
  if d < 1 / 2 then f else if 1 / 2 < d then f + 1 else if f % 2 = 0 then f else f + 1

/-- Round half away from zero. DESIGN CHOICE, log entry 8. -/
def roundHalfAway (q : Rat) : Int := if 0 ≤ q then (q + 1 / 2).floor else -((-q + 1 / 2).floor)

/-- Round towards zero. -/
def truncToZero (q : Rat) : Int := if 0 ≤ q then q.floor else -((-q).floor)

/-- The absolute value of a rational. -/
def absQ (q : Rat) : Rat := if q < 0 then -q else q

/-- A rational held between two bounds. -/
def clampQ (lo hi q : Rat) : Rat := if q < lo then lo else if hi < q then hi else q

/-- An integer held between two bounds. -/
def clampI (lo hi v : Int) : Int := if v < lo then lo else if hi < v then hi else v

/-- The larger of two rationals. -/
def maxQ (a b : Rat) : Rat := if a < b then b else a

/-- The smaller of two rationals. -/
def minQ (a b : Rat) : Rat := if b < a then b else a

/-- The sum of a list of rationals, in order. -/
def sumQ (l : List Rat) : Rat := l.foldl (· + ·) 0

/-- The difference `a - b` modulo `2^w`, taken as a signed number (the modular difference of R178). -/
def modDiff (w a b : Nat) : Int := signedOf w (a + 2 ^ w - b % 2 ^ w)

end Sys2Proof.Machine
end

