-- ==== Sys2Proof/Machine/Crc.lean ====
section
/-! DEFINITION. The check codes of the spec: CRC-32 of R37, CRC-8 of the slot header (R457), CRC-21 is the CAN
controller's own. -/
namespace Sys2Proof.Machine

/-- One bit step of the reflected CRC-32 (polynomial 0x04C11DB7 reflected is 0xEDB88320). -/
def crc32Bit (c : BitVec 32) : BitVec 32 := if c.getLsbD 0 then (c >>> 1) ^^^ 0xEDB88320#32 else c >>> 1

/-- One byte of the CRC-32 of R37. -/
def crc32Byte (c : BitVec 32) (b : Byte) : BitVec 32 :=
  let x := c ^^^ b.setWidth 32
  crc32Bit (crc32Bit (crc32Bit (crc32Bit (crc32Bit (crc32Bit (crc32Bit (crc32Bit x)))))))

/-- The CRC-32 of R37 over a byte string. -/
def crc32 (b : Bytes) : Nat := ((b.foldl crc32Byte 0xFFFFFFFF#32) ^^^ 0xFFFFFFFF#32).toNat

/-- One bit step of the CRC-8 of R457, polynomial 0x07, not reflected. -/
def crc8Bit (c : BitVec 8) : BitVec 8 := if c.getLsbD 7 then (c <<< 1) ^^^ 0x07#8 else c <<< 1

/-- One byte of the CRC-8 of R457. -/
def crc8Byte (c b : BitVec 8) : BitVec 8 :=
  crc8Bit (crc8Bit (crc8Bit (crc8Bit (crc8Bit (crc8Bit (crc8Bit (crc8Bit (c ^^^ b))))))))

/-- The header check HCRC of R457: initial value 0x00, no final XOR. -/
def crc8 (b : Bytes) : Nat := (b.foldl crc8Byte 0#8).toNat

end Sys2Proof.Machine
end

