-- ==== Sys2Proof/Config.lean ====
section
/-! DEFINITION. What the spec leaves open or one implementation fixes: constants without a value, so that nothing can
be proved of what they are. -/
namespace Sys2Proof.Config

/-- The `n`-th value drawn from the module's TRNG (R46, R49, R517, R521, R664), as 64 bits. PRESUMED, log entry 7. -/
opaque trng : Nat → Nat

/-- The characteristic of an NTC: °C from the reading in µV under R86's bias. The spec gives none: a free function (PRESUMED, log entry 21). -/
opaque ntcTemp : Int → Rat

/-- The pack temperature in °C that R377 takes while no NTC is included: the spec states none (PRESUMED, log entry 25). -/
opaque packTempNone : Rat

/-- The image keys 0 and 1 of the key store (R670): installed at manufacture, returned by no object. PRESUMED, log entry 12. -/
opaque imageKey : Nat → Bytes

/-- The public signing keys 0 to 3 (R670). PRESUMED, log entry 12. -/
opaque signKey : Nat → Nat × Nat

/-- The Service key of the module (R670). PRESUMED, log entry 12. -/
opaque serviceKey : Bytes

/-- The plain image the module left manufacture with, in its first active slot (R673). PRESUMED, log entry 12. -/
opaque shippedImage : Bytes

/-- The factory value in µV of the primary reference of half-stack 1 or 2 (R689). PRESUMED, log entry 12. -/
opaque vRef : Nat → Rat

/-- The TRANSFER a head would give a node in the plan computed at an instant, in 0.1 W: R302 states only the bounds (PRESUMED, log entry 29). -/
opaque transferWish : Nat → Nat → Int

/-- The coefficient bank of shipped instances 0 to 6 (R435): the spec gives their dimensions and no coefficients (PRESUMED, log entry 33). -/
opaque shippedBank : Nat → List Byte

/-- The cooling demand of the NTC rule while no NTC is included, in %: R442 states none (PRESUMED, log entry 34). -/
opaque demandNoNtc : Rat

/-- The measured time of a takeover from step 1 to step 5 in µs (R602), for the `n`-th takeover: the spec gives a bound of 15 ms
and no value (PRESUMED, log entry 36). -/
opaque takeoverMicros : Nat → Nat

/-- BusLoad of a bus in % at an instant, which depends on the frames of other nodes (0x1100.11; PRESUMED, log entry 37). -/
opaque busLoad : Nat → Nat → Rat

/-- The received optical power of a port, and the AUX24 current, which objects show and no rule derives (PRESUMED, log entry 37). -/
opaque portReading : Nat → Nat → Rat

/-- SentLsb of a SENT channel of another node, which no rule says the head reads (PRESUMED, log entry 38). -/
opaque sentUnit : Nat → Nat → Rat

end Sys2Proof.Config
end

