-- ==== Sys2Proof/Machine/F32.lean ====
section
/-! DEFINITION. IEEE 754 binary32 (the F32 of R537): the value of a bit pattern, rounding to nearest even, and the
arithmetic of the loop engine (R412: round to nearest even, subnormals flushed to zero). -/
namespace Sys2Proof.Machine

/-- The power `2^e` as a rational, for any integer exponent. -/
def twoPow (e : Int) : Rat := if 0 ≤ e then ((2 ^ e.toNat : Nat) : Rat) else 1 / ((2 ^ (-e).toNat : Nat) : Rat)

/-- Whether a bit pattern is a finite number. -/
def f32Finite (b : BitVec 32) : Bool := decide (bitsOf 30 23 b.toNat ≠ 255)

/-- The value of a finite bit pattern (0 for a non-finite one). -/
def f32Val (b : BitVec 32) : Rat :=
  let e := bitsOf 30 23 b.toNat
  let m := bitsOf 22 0 b.toNat
  let mag : Rat := if e = 255 then 0 else if e = 0 then (m : Rat) * twoPow (-149) else ((m + 8388608 : Nat) : Rat) * twoPow ((e : Int) - 150)
  if b.toNat < 2147483648 then mag else -mag

/-- The exponent `e` with `2^e ≤ q < 2^(e+1)`, for a positive rational. -/
def floorLog2 (q : Rat) : Int :=
  let e : Int := (Nat.log2 q.num.toNat : Int) - (Nat.log2 q.den : Int)
  if q < twoPow e then e - 1 else e

/-- The magnitude bits of a positive rational rounded to nearest even, with gradual underflow and overflow to
infinity. -/
def f32MagBits (q : Rat) : Nat :=
  let e := floorLog2 q
  let e' := if e < -126 then -126 else e
  let m := (roundHalfEven (q / twoPow (e' - 23))).toNat
  let bits := if m < 8388608 then m else ((e' + 126).toNat) * 8388608 + m
  if bits < 2139095040 then bits else 2139095040

/-- The binary32 nearest to a rational (ties to even); zero is +0. DESIGN CHOICE, log entry 8. -/
def f32Of (q : Rat) : BitVec 32 :=
  if q = 0 then 0#32 else if 0 < q then BitVec.ofNat 32 (f32MagBits q) else BitVec.ofNat 32 (2147483648 + f32MagBits (-q))

/-- A subnormal replaced by a zero of its sign (R412). -/
def f32Flush (b : BitVec 32) : BitVec 32 :=
  if bitsOf 30 23 b.toNat = 0 then (if b.toNat < 2147483648 then 0#32 else 0x80000000#32) else b

/-- The quiet NaN the model uses where an operation has no number (only its being non-finite matters, R428). -/
def f32NaN : BitVec 32 := 0x7FC00000#32

/-- Sign bit of a pattern. -/
def f32Neg (b : BitVec 32) : Bool := decide (2147483648 ≤ b.toNat)

/-- Product under R412. -/
def f32Mul (a b : BitVec 32) : BitVec 32 :=
  let a := f32Flush a
  let b := f32Flush b
  if !(f32Finite a) || !(f32Finite b) then f32NaN
  else
    let q := f32Val a * f32Val b
    if q = 0 then (if f32Neg a == f32Neg b then 0#32 else 0x80000000#32) else f32Flush (f32Of q)

/-- Sum under R412; an exact zero sum is +0 unless both terms are -0. -/
def f32Add (a b : BitVec 32) : BitVec 32 :=
  let a := f32Flush a
  let b := f32Flush b
  if !(f32Finite a) || !(f32Finite b) then f32NaN
  else
    let q := f32Val a + f32Val b
    if q = 0 then (if f32Neg a && f32Neg b then 0x80000000#32 else 0#32) else f32Flush (f32Of q)

/-- The four bytes of a binary32, least significant first. -/
def f32Bytes (b : BitVec 32) : Bytes := leBytes 4 b.toNat

/-- The binary32 at byte `off` of a byte string. -/
def f32At (off : Nat) (b : Bytes) : BitVec 32 := BitVec.ofNat 32 (fieldAt off 4 b)

/-- The integer square root by bisection over `n` halvings. -/
def isqrtIter : Nat → Nat → Nat → Nat → Nat
  | 0, _, lo, _ => lo
  | n + 1, v, lo, hi =>
    let m := (lo + hi + 1) / 2
    if m * m ≤ v then isqrtIter n v m hi else isqrtIter n v lo (m - 1)

/-- The largest `r` with `r * r ≤ v`. -/
def isqrt (v : Nat) : Nat := isqrtIter (Nat.log2 v + 2) v 0 (2 ^ (Nat.log2 v / 2 + 1))

/-- The square root of a rational to a resolution of `2^-40`, rounded down (negative arguments give 0). DESIGN CHOICE, log entry 8. -/
def sqrtQ (q : Rat) : Rat := if q ≤ 0 then 0 else ((isqrt ((q * twoPow 80).floor.toNat) : Nat) : Rat) * twoPow (-40)

end Sys2Proof.Machine
end

