-- ==== Sys2Proof/Machine/KMap.lean ====
section
/-! DEFINITION. A finite table keyed by a number: a list of (key, value) pairs. A key that is not listed reads as the
default its reader names, so a table of fixed size (24 cells, 8 channels) needs no length. -/
namespace Sys2Proof.Machine

/-- A table from numbers to records. -/
abbrev KMap (α : Type) := List (Nat × α)

/-- The record under key `k`, or `d` where none is listed. -/
def KMap.get {α : Type} (m : KMap α) (k : Nat) (d : α) : α :=
  match m with
  | [] => d
  | (a, v) :: r => if a = k then v else KMap.get r k d

/-- The table with `v` under key `k`, keys kept rising. -/
def KMap.set {α : Type} (m : KMap α) (k : Nat) (v : α) : KMap α :=
  match m with
  | [] => [(k, v)]
  | (a, x) :: r => if k < a then (k, v) :: (a, x) :: r else if k = a then (k, v) :: r else (a, x) :: KMap.set r k v

/-- The table without key `k`. -/
def KMap.del {α : Type} (m : KMap α) (k : Nat) : KMap α := m.filter (fun e => e.1 != k)

/-- Whether key `k` is listed. -/
def KMap.has {α : Type} (m : KMap α) (k : Nat) : Bool := m.any (fun e => e.1 == k)

end Sys2Proof.Machine
end

