-- ==== Sys2Proof/Machine/Object.lean ====
section
/-! DEFINITION. What an object of the parameter dictionary is (R537 to R540): its type, access code, default and
range, and the canonical store of object values. -/
namespace Sys2Proof.Machine

/-- The authenticated roles of R540, lowest first. -/
inductive PxRole where | observer | operator | engineer | service
  deriving DecidableEq, Repr

/-- The ROLE code of R567: 0 is no session. -/
def PxRole.code : PxRole → Nat
  | .observer => 1 | .operator => 2 | .engineer => 3 | .service => 4

/-- The access codes of R25. -/
inductive Access where | ro | rw | wo | rwp | rwa (r : PxRole)
  deriving DecidableEq, Repr

/-- The value types of R537; a DOMAIN carries its size. -/
inductive ObjTy where | bool | u8 | u16 | u32 | u64 | i8 | i64 | f32 | str | domain (n : Nat)
  deriving DecidableEq, Repr

/-- The value of an object: an unsigned number, a signed number, a binary32 as written, a computed real (reported as
the nearest binary32), or a byte string. -/
inductive Val where
  | nat (n : Nat)
  | int (i : Int)
  | f32 (b : BitVec 32)
  | real (q : Rat)
  | bytes (b : Bytes)
  deriving DecidableEq, Repr

/-- One row of an object table: first index and subindex, how many indices and subindices it covers, type, access,
defaults (the last one repeats) and the ranges of R538 (none: any value). -/
structure ObjDef where
  index : Nat
  sub : Nat
  idxCount : Nat
  subCount : Nat
  ty : ObjTy
  access : Access
  dflt : List Val
  rng : List (Rat × Rat)
  deriving DecidableEq, Repr

/-- The store of object values: key `index * 256 + sub`, no key listed at its default. -/
abbrev Dict := KMap Val

/-- The key of element (`i`, `j`) of an object row. -/
def ObjDef.key (o : ObjDef) (i j : Nat) : Nat := (o.index + i) * 256 + (o.sub + j)

/-- The default of element `j`. DESIGN CHOICE, log entry 3. -/
def ObjDef.dfltAt (o : ObjDef) (j : Nat) : Val := (o.dflt.getD j (o.dflt.getLastD (.nat 0)))

/-- The type code of R537. -/
def ObjTy.code : ObjTy → Nat
  | .bool => 1 | .u8 => 2 | .u16 => 3 | .u32 => 4 | .u64 => 5 | .i64 => 8 | .f32 => 9 | .str => 10 | .domain _ => 11 | .i8 => 12

/-- The size in bytes of a value of the type (the largest, for a string). -/
def ObjTy.size : ObjTy → Nat
  | .bool => 1 | .u8 => 1 | .u16 => 2 | .u32 => 4 | .u64 => 8 | .i64 => 8 | .f32 => 4 | .str => 32 | .domain n => n | .i8 => 1

/-- The bit width of an unsigned counter of the type. -/
def ObjTy.bits (t : ObjTy) : Nat := 8 * t.size

/-- A value as a number (a signed or byte value's magnitude is not asked of it). -/
def Val.toNat : Val → Nat
  | .nat n => n | .int i => i.toNat | .f32 b => (f32Val b).floor.toNat | .real q => q.floor.toNat | .bytes b => leNat b

/-- A value as an integer. -/
def Val.toInt : Val → Int
  | .nat n => n | .int i => i | .f32 b => (f32Val b).floor | .real q => q.floor | .bytes b => leNat b

/-- A value as a real number. -/
def Val.toRat : Val → Rat
  | .nat n => n | .int i => i | .f32 b => f32Val b | .real q => q | .bytes _ => 0

/-- A value as a byte string. -/
def Val.toBytes : Val → Bytes
  | .bytes b => b | _ => []

/-- The bit pattern a value has as a binary32. -/
def Val.toF32 : Val → BitVec 32
  | .f32 b => b | .real q => f32Of q | .nat n => f32Of n | .int i => f32Of i | .bytes _ => 0#32

/-- A value as the bytes of its type (R537). -/
def Val.encode (t : ObjTy) (v : Val) : Bytes :=
  match t with
  | .bool | .u8 | .u16 | .u32 | .u64 => leBytes t.size v.toNat
  | .i8 | .i64 => leInt t.size v.toInt
  | .f32 => f32Bytes v.toF32
  | .str => v.toBytes
  | .domain n => fitBytes n v.toBytes

/-- The value that bytes of a type stand for. -/
def Val.decode (t : ObjTy) (b : Bytes) : Val :=
  match t with
  | .bool | .u8 | .u16 | .u32 | .u64 => .nat (leNat b)
  | .i8 => .int (signedOf 8 (leNat b))
  | .i64 => .int (signedOf 64 (leNat b))
  | .f32 => .f32 (BitVec.ofNat 32 (leNat b))
  | .str => .bytes b
  | .domain n => .bytes (if b = zeroBytes n then [] else b)

/-- Reading an element of the store. DESIGN CHOICE, log entry 3. DESIGN CHOICE, log entry 106. -/
def Dict.read (d : Dict) (o : ObjDef) (i j : Nat) : Val := KMap.get d (o.key i j) (o.dfltAt j)

/-- Writing an element of the store; the default value is held by listing nothing. DESIGN CHOICE, log entry 106. -/
def Dict.write (d : Dict) (o : ObjDef) (i j : Nat) (v : Val) : Dict :=
  if v = o.dfltAt j then KMap.del d (o.key i j) else KMap.set d (o.key i j) v

end Sys2Proof.Machine
end

