-- ==== Sys2Proof/Machine/Dictionary.lean ====
section
/-! DEFINITION. The object tables of the spec's chapters, one definition per row (R25, R537). The 0x1100 rows cover
CTL-A and CTL-B, the 0x7002 rows EAST and WEST. -/
namespace Sys2Proof.Machine

/-- DescSeq (4000.01), chapter 01: U32, RO. -/
def Obj.descSeq : ObjDef := { index := 0x4000, sub := 0x01, idxCount := 1, subCount := 1, ty := .u32, access := .ro, dflt := [.nat 0], rng := [(0, 4294967294)] }
/-- DescStringId (4000.02), chapter 01: U64, RO. -/
def Obj.descStringId : ObjDef := { index := 0x4000, sub := 0x02, idxCount := 1, subCount := 1, ty := .u64, access := .ro, dflt := [.nat 0], rng := [] }
/-- DescHeadPack (4000.03), chapter 01: U64, RO. -/
def Obj.descHeadPack : ObjDef := { index := 0x4000, sub := 0x03, idxCount := 1, subCount := 1, ty := .u64, access := .ro, dflt := [.nat 0], rng := [] }
/-- DescStandbyPack (4000.04), chapter 01: U64, RO. -/
def Obj.descStandbyPack : ObjDef := { index := 0x4000, sub := 0x04, idxCount := 1, subCount := 1, ty := .u64, access := .ro, dflt := [.nat 0], rng := [] }
/-- DescModuleCount (4000.05), chapter 01: U8, RO. -/
def Obj.descModuleCount : ObjDef := { index := 0x4000, sub := 0x05, idxCount := 1, subCount := 1, ty := .u8, access := .ro, dflt := [.nat 0], rng := [(0, 32)] }
/-- DescFlags (4000.06), chapter 01: U8, RO. -/
def Obj.descFlags : ObjDef := { index := 0x4000, sub := 0x06, idxCount := 1, subCount := 1, ty := .u8, access := .ro, dflt := [.nat 0], rng := [(0, 1)] }
/-- StageStringId (4001.01), chapter 01: U64, RWA Engineer. -/
def Obj.stageStringId : ObjDef := { index := 0x4001, sub := 0x01, idxCount := 1, subCount := 1, ty := .u64, access := (.rwa .engineer), dflt := [.nat 0], rng := [(1, 18446744073709551615)] }
/-- StageHeadPack (4001.02), chapter 01: U64, RWA Engineer. -/
def Obj.stageHeadPack : ObjDef := { index := 0x4001, sub := 0x02, idxCount := 1, subCount := 1, ty := .u64, access := (.rwa .engineer), dflt := [.nat 0], rng := [(1, 18446744073709551615)] }
/-- StageStandbyPack (4001.03), chapter 01: U64, RWA Engineer. -/
def Obj.stageStandbyPack : ObjDef := { index := 0x4001, sub := 0x03, idxCount := 1, subCount := 1, ty := .u64, access := (.rwa .engineer), dflt := [.nat 0], rng := [] }
/-- StageModuleCount (4001.04), chapter 01: U8, RWA Engineer. -/
def Obj.stageModuleCount : ObjDef := { index := 0x4001, sub := 0x04, idxCount := 1, subCount := 1, ty := .u8, access := (.rwa .engineer), dflt := [.nat 0], rng := [(1, 32)] }
/-- StageFlags (4001.05), chapter 01: U8, RWA Engineer. -/
def Obj.stageFlags : ObjDef := { index := 0x4001, sub := 0x05, idxCount := 1, subCount := 1, ty := .u8, access := (.rwa .engineer), dflt := [.nat 1], rng := [(0, 1)] }
/-- DescCommit (4001.06), chapter 01: U8, RWA Engineer. -/
def Obj.descCommit : ObjDef := { index := 0x4001, sub := 0x06, idxCount := 1, subCount := 1, ty := .u8, access := (.rwa .engineer), dflt := [.nat 0], rng := [(90, 90)] }
/-- AdoptPack (4001.07), chapter 01: U64, RWA Engineer. -/
def Obj.adoptPack : ObjDef := { index := 0x4001, sub := 0x07, idxCount := 1, subCount := 1, ty := .u64, access := (.rwa .engineer), dflt := [.nat 0], rng := [(1, 18446744073709551615)] }
/-- DescErase (4001.08), chapter 01: U8, RWA Service. -/
def Obj.descErase : ObjDef := { index := 0x4001, sub := 0x08, idxCount := 1, subCount := 1, ty := .u8, access := (.rwa .service), dflt := [.nat 0], rng := [(229, 229)] }
/-- Role (4002.01), chapter 01: U8, RO. -/
def Obj.role : ObjDef := { index := 0x4002, sub := 0x01, idxCount := 1, subCount := 1, ty := .u8, access := .ro, dflt := [.nat 0], rng := [(0, 2)] }
/-- HeadBasis (4002.02), chapter 01: U8, RO. -/
def Obj.headBasis : ObjDef := { index := 0x4002, sub := 0x02, idxCount := 1, subCount := 1, ty := .u8, access := .ro, dflt := [.nat 0], rng := [(0, 3)] }
/-- HeadEligible (4002.03), chapter 01: BOOL, RO. -/
def Obj.headEligible : ObjDef := { index := 0x4002, sub := 0x03, idxCount := 1, subCount := 1, ty := .bool, access := .ro, dflt := [.nat 0], rng := [(0, 1)] }
/-- MembershipGen (4002.04), chapter 01: U16, RO. -/
def Obj.membershipGen : ObjDef := { index := 0x4002, sub := 0x04, idxCount := 1, subCount := 1, ty := .u16, access := .ro, dflt := [.nat 0], rng := [(0, 65535)] }
/-- ModulesFound (4002.05), chapter 01: U8, RO. -/
def Obj.modulesFound : ObjDef := { index := 0x4002, sub := 0x05, idxCount := 1, subCount := 1, ty := .u8, access := .ro, dflt := [.nat 0], rng := [(0, 32)] }
/-- Configuration (4002.06), chapter 01: U8, RO. -/
def Obj.configuration : ObjDef := { index := 0x4002, sub := 0x06, idxCount := 1, subCount := 1, ty := .u8, access := .ro, dflt := [.nat 0], rng := [(0, 1)] }
/-- OwnPackId (4002.07), chapter 01: U64, RO. -/
def Obj.ownPackId : ObjDef := { index := 0x4002, sub := 0x07, idxCount := 1, subCount := 1, ty := .u64, access := .ro, dflt := [.nat 0], rng := [] }
/-- OwnNodeId (4002.08), chapter 01: U8, RO. -/
def Obj.ownNodeId : ObjDef := { index := 0x4002, sub := 0x08, idxCount := 1, subCount := 1, ty := .u8, access := .ro, dflt := [.nat 0], rng := [(0, 32)] }
/-- ClaimWait (4003.01), chapter 01: U16, RWP. -/
def Obj.claimWait : ObjDef := { index := 0x4003, sub := 0x01, idxCount := 1, subCount := 1, ty := .u16, access := .rwp, dflt := [.nat 1000], rng := [(200, 5000)] }
/-- MemberEntry (4004.01 to 4004.20), chapter 01: DOMAIN, RO. -/
def Obj.memberEntry : ObjDef := { index := 0x4004, sub := 0x01, idxCount := 1, subCount := 32, ty := (.domain 24), access := .ro, dflt := [.bytes []], rng := [] }
/-- Aux24Voltage (1010.01), chapter 02: F32, RO. -/
def Obj.aux24Voltage : ObjDef := { index := 0x1010, sub := 0x01, idxCount := 1, subCount := 1, ty := .f32, access := .ro, dflt := [.f32 0x00000000], rng := [(0, 40)] }
/-- Aux24Current (1010.02), chapter 02: F32, RO. -/
def Obj.aux24Current : ObjDef := { index := 0x1010, sub := 0x02, idxCount := 1, subCount := 1, ty := .f32, access := .ro, dflt := [.f32 0x00000000], rng := [((-3), 10)] }
/-- StackVoltage (1010.03), chapter 02: F32, RO. -/
def Obj.stackVoltage : ObjDef := { index := 0x1010, sub := 0x03, idxCount := 1, subCount := 1, ty := .f32, access := .ro, dflt := [.f32 0x00000000], rng := [(0, 120)] }
/-- J4Present (1010.04), chapter 02: BOOL, RO. -/
def Obj.j4Present : ObjDef := { index := 0x1010, sub := 0x04, idxCount := 1, subCount := 1, ty := .bool, access := .ro, dflt := [.nat 0], rng := [(0, 1)] }
/-- WakeTestPeriod (1010.05), chapter 02: U16, RW. -/
def Obj.wakeTestPeriod : ObjDef := { index := 0x1010, sub := 0x05, idxCount := 1, subCount := 1, ty := .u16, access := .rw, dflt := [.nat 24], rng := [(0, 168)] }
/-- WakeTestResult (1010.06), chapter 02: U8, RO. -/
def Obj.wakeTestResult : ObjDef := { index := 0x1010, sub := 0x06, idxCount := 1, subCount := 1, ty := .u8, access := .ro, dflt := [.nat 0], rng := [(0, 2)] }
/-- TransferExportLimit (1010.07), chapter 02: F32, RW. -/
def Obj.transferExportLimit : ObjDef := { index := 0x1010, sub := 0x07, idxCount := 1, subCount := 1, ty := .f32, access := .rw, dflt := [.f32 0x41F00000], rng := [(26, (63 / 2))] }
/-- TripLoopCurrent (1010.08), chapter 02: F32, RO. -/
def Obj.tripLoopCurrent : ObjDef := { index := 0x1010, sub := 0x08, idxCount := 1, subCount := 1, ty := .f32, access := .ro, dflt := [.f32 0x00000000], rng := [(0, 15)] }
/-- SupplyStatus (1010.09), chapter 02: U16, RO. -/
def Obj.supplyStatus : ObjDef := { index := 0x1010, sub := 0x09, idxCount := 1, subCount := 1, ty := .u16, access := .ro, dflt := [.nat 0], rng := [] }
/-- PopulatedCells (2001.01), chapter 02: U8, RWP. -/
def Obj.populatedCells : ObjDef := { index := 0x2001, sub := 0x01, idxCount := 1, subCount := 1, ty := .u8, access := .rwp, dflt := [.nat 24], rng := [(12, 24)] }
/-- UnusedChannelMax (2001.02), chapter 02: F32, RO. -/
def Obj.unusedChannelMax : ObjDef := { index := 0x2001, sub := 0x02, idxCount := 1, subCount := 1, ty := .f32, access := .ro, dflt := [.f32 0x00000000], rng := [(0, 5)] }
/-- Mode (1020.01), chapter 03: U8, RO. -/
def Obj.mode : ObjDef := { index := 0x1020, sub := 0x01, idxCount := 1, subCount := 1, ty := .u8, access := .ro, dflt := [.nat 2], rng := [(0, 5)] }
/-- ModeCause (1020.02), chapter 03: U8, RO. -/
def Obj.modeCause : ObjDef := { index := 0x1020, sub := 0x02, idxCount := 1, subCount := 1, ty := .u8, access := .ro, dflt := [.nat 0], rng := [(0, 7)] }
/-- MaintPermit (1020.03), chapter 03: U16, RWA Engineer. -/
def Obj.maintPermit : ObjDef := { index := 0x1020, sub := 0x03, idxCount := 1, subCount := 1, ty := .u16, access := (.rwa .engineer), dflt := [.nat 0], rng := [(0, 240)] }
/-- SafeExit (1020.04), chapter 03: U8, RWA Engineer. -/
def Obj.safeExit : ObjDef := { index := 0x1020, sub := 0x04, idxCount := 1, subCount := 1, ty := .u8, access := (.rwa .engineer), dflt := [.nat 0], rng := [(90, 90)] }
/-- ShipArm (1020.05), chapter 03: U8, RWA Service. -/
def Obj.shipArm : ObjDef := { index := 0x1020, sub := 0x05, idxCount := 1, subCount := 1, ty := .u8, access := (.rwa .service), dflt := [.nat 0], rng := [(0, 0), (165, 165)] }
/-- HoldupRemaining (1020.06), chapter 03: U16, RO. -/
def Obj.holdupRemaining : ObjDef := { index := 0x1020, sub := 0x06, idxCount := 1, subCount := 1, ty := .u16, access := .ro, dflt := [.nat 0], rng := [(0, 65535)] }
/-- HoldupCapacitance (1020.07), chapter 03: F32, RO. -/
def Obj.holdupCapacitance : ObjDef := { index := 0x1020, sub := 0x07, idxCount := 1, subCount := 1, ty := .f32, access := .ro, dflt := [.f32 0x00000000], rng := [(0, (3 / 2000))] }
/-- TerminalLatch (1020.08), chapter 03: BOOL, RO. -/
def Obj.terminalLatch : ObjDef := { index := 0x1020, sub := 0x08, idxCount := 1, subCount := 1, ty := .bool, access := .ro, dflt := [.nat 0], rng := [(0, 1)] }
/-- StartSource (1020.09), chapter 03: U8, RO. -/
def Obj.startSource : ObjDef := { index := 0x1020, sub := 0x09, idxCount := 1, subCount := 1, ty := .u8, access := .ro, dflt := [.nat 0], rng := [(0, 3)] }
/-- StartDuration (1020.0A), chapter 03: U16, RO. -/
def Obj.startDuration : ObjDef := { index := 0x1020, sub := 0x0A, idxCount := 1, subCount := 1, ty := .u16, access := .ro, dflt := [.nat 0], rng := [(0, 65535)] }
/-- HoldupSkips (1020.0B), chapter 03: U8, RO. -/
def Obj.holdupSkips : ObjDef := { index := 0x1020, sub := 0x0B, idxCount := 1, subCount := 1, ty := .u8, access := .ro, dflt := [.nat 0], rng := [(0, 255)] }
/-- KaCellOverVoltage (1021.01), chapter 03: F32, RWP. -/
def Obj.kaCellOverVoltage : ObjDef := { index := 0x1021, sub := 0x01, idxCount := 1, subCount := 1, ty := .f32, access := .rwp, dflt := [.f32 0x40700000], rng := [(2, (9 / 2))] }
/-- KaCellUnderVoltage (1021.02), chapter 03: F32, RWP. -/
def Obj.kaCellUnderVoltage : ObjDef := { index := 0x1021, sub := 0x02, idxCount := 1, subCount := 1, ty := .f32, access := .rwp, dflt := [.f32 0x40200000], rng := [((3 / 2), (7 / 2))] }
/-- KaTempHigh (1021.03), chapter 03: F32, RWP. -/
def Obj.kaTempHigh : ObjDef := { index := 0x1021, sub := 0x03, idxCount := 1, subCount := 1, ty := .f32, access := .rwp, dflt := [.f32 0x42700000], rng := [(30, 80)] }
/-- KaTempLow (1021.04), chapter 03: F32, RWP. -/
def Obj.kaTempLow : ObjDef := { index := 0x1021, sub := 0x04, idxCount := 1, subCount := 1, ty := .f32, access := .rwp, dflt := [.f32 0xC1F00000], rng := [((-40), 10)] }
/-- SensorTemp (6800.01 to 6800.0A), chapter 03: F32, RO. -/
def Obj.sensorTemp : ObjDef := { index := 0x6800, sub := 0x01, idxCount := 1, subCount := 10, ty := .f32, access := .ro, dflt := [.f32 0x00000000], rng := [((-50), 150)] }
/-- HotspotTemp (6800.0B), chapter 03: F32, RO. -/
def Obj.hotspotTemp : ObjDef := { index := 0x6800, sub := 0x0B, idxCount := 1, subCount := 1, ty := .f32, access := .ro, dflt := [.f32 0x00000000], rng := [((-50), 150)] }
/-- DerateFraction (6800.0C), chapter 03: F32, RO. -/
def Obj.derateFraction : ObjDef := { index := 0x6800, sub := 0x0C, idxCount := 1, subCount := 1, ty := .f32, access := .ro, dflt := [.f32 0x3F800000], rng := [(0, 1)] }
/-- ThermalStatus (6800.0D), chapter 03: U16, RO. -/
def Obj.thermalStatus : ObjDef := { index := 0x6800, sub := 0x0D, idxCount := 1, subCount := 1, ty := .u16, access := .ro, dflt := [.nat 0], rng := [] }
/-- RingTime (7010.01), chapter 04: U64, RO. -/
def Obj.ringTime : ObjDef := { index := 0x7010, sub := 0x01, idxCount := 1, subCount := 1, ty := .u64, access := .ro, dflt := [.nat 0], rng := [] }
/-- TimeStatus (7010.02), chapter 04: U16, RO. -/
def Obj.timeStatus : ObjDef := { index := 0x7010, sub := 0x02, idxCount := 1, subCount := 1, ty := .u16, access := .ro, dflt := [.nat 0], rng := [] }
/-- LinkDelayEast (7010.03), chapter 04: F32, RO. -/
def Obj.linkDelayEast : ObjDef := { index := 0x7010, sub := 0x03, idxCount := 1, subCount := 1, ty := .f32, access := .ro, dflt := [.f32 0x00000000], rng := [(0, 5000)] }
/-- LinkDelayWest (7010.04), chapter 04: F32, RO. -/
def Obj.linkDelayWest : ObjDef := { index := 0x7010, sub := 0x04, idxCount := 1, subCount := 1, ty := .f32, access := .ro, dflt := [.f32 0x00000000], rng := [(0, 5000)] }
/-- TimeOffset (7010.05), chapter 04: F32, RO. -/
def Obj.timeOffset : ObjDef := { index := 0x7010, sub := 0x05, idxCount := 1, subCount := 1, ty := .f32, access := .ro, dflt := [.f32 0x00000000], rng := [((-1000000000), 1000000000)] }
/-- SpinnerSource (7011.01), chapter 04: U8, RWP. -/
def Obj.spinnerSource : ObjDef := { index := 0x7011, sub := 0x01, idxCount := 1, subCount := 1, ty := .u8, access := .rwp, dflt := [.nat 0], rng := [(0, 3)] }
/-- SpinnerFallback1 (7011.02), chapter 04: U8, RWP. -/
def Obj.spinnerFallback1 : ObjDef := { index := 0x7011, sub := 0x02, idxCount := 1, subCount := 1, ty := .u8, access := .rwp, dflt := [.nat 2], rng := [(0, 3)] }
/-- SpinnerFallback2 (7011.03), chapter 04: U8, RWP. -/
def Obj.spinnerFallback2 : ObjDef := { index := 0x7011, sub := 0x03, idxCount := 1, subCount := 1, ty := .u8, access := .rwp, dflt := [.nat 3], rng := [(0, 3)] }
/-- SpinnerNominalFreq (7011.04), chapter 04: F32, RWP. -/
def Obj.spinnerNominalFreq : ObjDef := { index := 0x7011, sub := 0x04, idxCount := 1, subCount := 1, ty := .f32, access := .rwp, dflt := [.f32 0x467A0000], rng := [(40, 50000)] }
/-- SpinnerActiveSource (7011.05), chapter 04: U8, RO. -/
def Obj.spinnerActiveSource : ObjDef := { index := 0x7011, sub := 0x05, idxCount := 1, subCount := 1, ty := .u8, access := .ro, dflt := [.nat 3], rng := [(0, 3)] }
/-- SpinnerFreq (7011.06), chapter 04: F32, RO. -/
def Obj.spinnerFreq : ObjDef := { index := 0x7011, sub := 0x06, idxCount := 1, subCount := 1, ty := .f32, access := .ro, dflt := [.f32 0x00000000], rng := [(0, 50000)] }
/-- Spinner (7011.07), chapter 04: U32, RO. -/
def Obj.spinner : ObjDef := { index := 0x7011, sub := 0x07, idxCount := 1, subCount := 1, ty := .u32, access := .ro, dflt := [.nat 0], rng := [] }
/-- RippleMinAmplitude (7011.08), chapter 04: F32, RWP. -/
def Obj.rippleMinAmplitude : ObjDef := { index := 0x7011, sub := 0x08, idxCount := 1, subCount := 1, ty := .f32, access := .rwp, dflt := [.f32 0x3F000000], rng := [((1 / 20), 50)] }
/-- SourceChanges (7011.09), chapter 04: U16, RO. -/
def Obj.sourceChanges : ObjDef := { index := 0x7011, sub := 0x09, idxCount := 1, subCount := 1, ty := .u16, access := .ro, dflt := [.nat 0], rng := [(0, 65535)] }
/-- LateEvents (7011.0A), chapter 04: U16, RO. -/
def Obj.lateEvents : ObjDef := { index := 0x7011, sub := 0x0A, idxCount := 1, subCount := 1, ty := .u16, access := .ro, dflt := [.nat 0], rng := [(0, 65535)] }
/-- CrossingStatus (7012.01), chapter 04: U16, RW. -/
def Obj.crossingStatus : ObjDef := { index := 0x7012, sub := 0x01, idxCount := 1, subCount := 1, ty := .u16, access := .rw, dflt := [.nat 0], rng := [] }
/-- CellVoltage (2010.01 to 2010.18), chapter 05: F32, RO. -/
def Obj.cellVoltage : ObjDef := { index := 0x2010, sub := 0x01, idxCount := 1, subCount := 24, ty := .f32, access := .ro, dflt := [.f32 0x00000000], rng := [((-(3 / 10)), 5)] }
/-- CellTag (2011.01 to 2011.18), chapter 05: U8, RO. -/
def Obj.cellTag : ObjDef := { index := 0x2011, sub := 0x01, idxCount := 1, subCount := 24, ty := .u8, access := .ro, dflt := [.nat 0], rng := [] }
/-- CellSource (2012.01 to 2012.18), chapter 05: U8, RO. -/
def Obj.cellSource : ObjDef := { index := 0x2012, sub := 0x01, idxCount := 1, subCount := 24, ty := .u8, access := .ro, dflt := [.nat 2], rng := [(0, 2)] }
/-- CellSampleTime (2013.01 to 2013.18), chapter 05: U64, RO. -/
def Obj.cellSampleTime : ObjDef := { index := 0x2013, sub := 0x01, idxCount := 1, subCount := 24, ty := .u64, access := .ro, dflt := [.nat 0], rng := [] }
/-- PrecisionAveraging (2020.01), chapter 05: U16, RWP. -/
def Obj.precisionAveraging : ObjDef := { index := 0x2020, sub := 0x01, idxCount := 1, subCount := 1, ty := .u16, access := .rwp, dflt := [.nat 0], rng := [(0, 256)] }
/-- PrecisionTurns (2020.02), chapter 05: U16, RO. -/
def Obj.precisionTurns : ObjDef := { index := 0x2020, sub := 0x02, idxCount := 1, subCount := 1, ty := .u16, access := .ro, dflt := [.nat 1], rng := [(1, 256)] }
/-- PrecisionRate (2020.03), chapter 05: F32, RO. -/
def Obj.precisionRate : ObjDef := { index := 0x2020, sub := 0x03, idxCount := 1, subCount := 1, ty := .f32, access := .ro, dflt := [.f32 0x447A0000], rng := [((3 / 20), 2000)] }
/-- WindowAnchorTurn (2020.04), chapter 05: U16, RO. -/
def Obj.windowAnchorTurn : ObjDef := { index := 0x2020, sub := 0x04, idxCount := 1, subCount := 1, ty := .u16, access := .ro, dflt := [.nat 0], rng := [(0, 65535)] }
/-- WindowAnchorTime (2020.05), chapter 05: U64, RO. -/
def Obj.windowAnchorTime : ObjDef := { index := 0x2020, sub := 0x05, idxCount := 1, subCount := 1, ty := .u64, access := .ro, dflt := [.nat 0], rng := [] }
/-- RefDev1 (2030.01), chapter 05: F32, RO. -/
def Obj.refDev1 : ObjDef := { index := 0x2030, sub := 0x01, idxCount := 1, subCount := 1, ty := .f32, access := .ro, dflt := [.f32 0x00000000], rng := [((-10000), 10000)] }
/-- RefDev2 (2030.02), chapter 05: F32, RO. -/
def Obj.refDev2 : ObjDef := { index := 0x2030, sub := 0x02, idxCount := 1, subCount := 1, ty := .f32, access := .ro, dflt := [.f32 0x00000000], rng := [((-10000), 10000)] }
/-- RefDelta (2030.03), chapter 05: F32, RO. -/
def Obj.refDelta : ObjDef := { index := 0x2030, sub := 0x03, idxCount := 1, subCount := 1, ty := .f32, access := .ro, dflt := [.f32 0x00000000], rng := [((-20000), 20000)] }
/-- CalFactoryDate (2040.01), chapter 05: U32, RO. -/
def Obj.calFactoryDate : ObjDef := { index := 0x2040, sub := 0x01, idxCount := 1, subCount := 1, ty := .u32, access := .ro, dflt := [.nat 0], rng := [] }
/-- CalFieldAge (2040.02), chapter 05: U16, RO. -/
def Obj.calFieldAge : ObjDef := { index := 0x2040, sub := 0x02, idxCount := 1, subCount := 1, ty := .u16, access := .ro, dflt := [.nat 0], rng := [(0, 65535)] }
/-- CalDeferred (2040.03), chapter 05: U16, RO. -/
def Obj.calDeferred : ObjDef := { index := 0x2040, sub := 0x03, idxCount := 1, subCount := 1, ty := .u16, access := .ro, dflt := [.nat 0], rng := [(0, 65535)] }
/-- ChannelGain (2041.01 to 2041.18), chapter 05: F32, RO. -/
def Obj.channelGain : ObjDef := { index := 0x2041, sub := 0x01, idxCount := 1, subCount := 24, ty := .f32, access := .ro, dflt := [.f32 0x3F800000], rng := [((99 / 100), (101 / 100))] }
/-- ChannelOffset (2042.01 to 2042.18), chapter 05: F32, RO. -/
def Obj.channelOffset : ObjDef := { index := 0x2042, sub := 0x01, idxCount := 1, subCount := 24, ty := .f32, access := .ro, dflt := [.f32 0x00000000], rng := [((-500), 500)] }
/-- MeasStatus (2050.01), chapter 05: U16, RO. -/
def Obj.measStatus : ObjDef := { index := 0x2050, sub := 0x01, idxCount := 1, subCount := 1, ty := .u16, access := .ro, dflt := [.nat 0], rng := [] }
/-- SettleEvents (2050.02), chapter 05: U16, RO. -/
def Obj.settleEvents : ObjDef := { index := 0x2050, sub := 0x02, idxCount := 1, subCount := 1, ty := .u16, access := .ro, dflt := [.nat 0], rng := [(0, 65535)] }
/-- ClipCount (2050.03), chapter 05: U32, RO. -/
def Obj.clipCount : ObjDef := { index := 0x2050, sub := 0x03, idxCount := 1, subCount := 1, ty := .u32, access := .ro, dflt := [.nat 0], rng := [] }
/-- RoutineEntry (2060.01 to 2060.30), chapter 06: U32, RO. -/
def Obj.routineEntry : ObjDef := { index := 0x2060, sub := 0x01, idxCount := 1, subCount := 48, ty := .u32, access := .ro, dflt := [.nat 0], rng := [] }
/-- RoutinePeriod (2061.01), chapter 06: U16, RW. -/
def Obj.routinePeriod : ObjDef := { index := 0x2061, sub := 0x01, idxCount := 1, subCount := 1, ty := .u16, access := .rw, dflt := [.nat 10], rng := [(5, 100)] }
/-- HostRegTrigger (2061.02), chapter 06: U8, RW. -/
def Obj.hostRegTrigger : ObjDef := { index := 0x2061, sub := 0x02, idxCount := 1, subCount := 1, ty := .u8, access := .rw, dflt := [.nat 0], rng := [(0, 3)] }
/-- HostRegPeriod (2061.03), chapter 06: U16, RW. -/
def Obj.hostRegPeriod : ObjDef := { index := 0x2061, sub := 0x03, idxCount := 1, subCount := 1, ty := .u16, access := .rw, dflt := [.nat 100], rng := [(1, 60000)] }
/-- HostRegAngle (2061.04), chapter 06: U16, RW. -/
def Obj.hostRegAngle : ObjDef := { index := 0x2061, sub := 0x04, idxCount := 1, subCount := 1, ty := .u16, access := .rw, dflt := [.nat 0], rng := [(0, 65535)] }
/-- HostRegStart (2061.05), chapter 06: U8, WO. -/
def Obj.hostRegStart : ObjDef := { index := 0x2061, sub := 0x05, idxCount := 1, subCount := 1, ty := .u8, access := .wo, dflt := [.nat 0], rng := [(1, 1)] }
/-- RoutineResult (2062.01 to 2062.30), chapter 06: U32, RO. -/
def Obj.routineResult : ObjDef := { index := 0x2062, sub := 0x01, idxCount := 1, subCount := 48, ty := .u32, access := .ro, dflt := [.nat 0], rng := [] }
/-- HostRegResult (2063.01 to 2063.10), chapter 06: U32, RO. -/
def Obj.hostRegResult : ObjDef := { index := 0x2063, sub := 0x01, idxCount := 1, subCount := 16, ty := .u32, access := .ro, dflt := [.nat 0], rng := [] }
/-- HostRegEntry (2064.01 to 2064.10), chapter 06: U32, RW. -/
def Obj.hostRegEntry : ObjDef := { index := 0x2064, sub := 0x01, idxCount := 1, subCount := 16, ty := .u32, access := .rw, dflt := [.nat 0], rng := [] }
/-- InjTriggerModule (2065.01 to 2065.02), chapter 06: U32, RO. -/
def Obj.injTriggerModule : ObjDef := { index := 0x2065, sub := 0x01, idxCount := 1, subCount := 2, ty := .u32, access := .ro, dflt := [.nat 0], rng := [] }
/-- InjTrigger (2065.03 to 2065.04), chapter 06: U32, RW. -/
def Obj.injTrigger : ObjDef := { index := 0x2065, sub := 0x03, idxCount := 1, subCount := 2, ty := .u32, access := .rw, dflt := [.nat 0], rng := [] }
/-- InjEntry (2065.05 to 2065.14), chapter 06: U32, RO for IS1, IS2; RW for IS3, IS4. -/
def Obj.injEntryModule : ObjDef := { index := 0x2065, sub := 0x05, idxCount := 1, subCount := 8, ty := .u32, access := .ro, dflt := [.nat 0], rng := [] }
/-- InjEntry (2065.05 to 2065.14), chapter 06: U32, RO for IS1, IS2; RW for IS3, IS4. -/
def Obj.injEntry : ObjDef := { index := 0x2065, sub := 0x0D, idxCount := 1, subCount := 8, ty := .u32, access := .rw, dflt := [.nat 0], rng := [] }
/-- MinAcq (2066.01 to 2066.05), chapter 06: U8, RW. -/
def Obj.minAcq : ObjDef := { index := 0x2066, sub := 0x01, idxCount := 1, subCount := 5, ty := .u8, access := .rw, dflt := [.nat 12, .nat 82, .nat 16, .nat 16, .nat 16], rng := [] }
/-- InjResult (2066.09 to 2066.10), chapter 06: U32, RO. -/
def Obj.injResult : ObjDef := { index := 0x2066, sub := 0x09, idxCount := 1, subCount := 8, ty := .u32, access := .ro, dflt := [.nat 0], rng := [] }
/-- AuxDeferred (2067.01), chapter 06: U16, RO. -/
def Obj.auxDeferred : ObjDef := { index := 0x2067, sub := 0x01, idxCount := 1, subCount := 1, ty := .u16, access := .ro, dflt := [.nat 0], rng := [(0, 65535)] }
/-- InjOverrun (2067.02), chapter 06: U16, RO. -/
def Obj.injOverrun : ObjDef := { index := 0x2067, sub := 0x02, idxCount := 1, subCount := 1, ty := .u16, access := .ro, dflt := [.nat 0], rng := [(0, 65535)] }
/-- RegOverrun (2067.03), chapter 06: U16, RO. -/
def Obj.regOverrun : ObjDef := { index := 0x2067, sub := 0x03, idxCount := 1, subCount := 1, ty := .u16, access := .ro, dflt := [.nat 0], rng := [(0, 65535)] }
/-- AvgOverflow (2067.04), chapter 06: U32, RO. -/
def Obj.avgOverflow : ObjDef := { index := 0x2067, sub := 0x04, idxCount := 1, subCount := 1, ty := .u32, access := .ro, dflt := [.nat 0], rng := [] }
/-- AcqShort (2067.05), chapter 06: U32, RO. -/
def Obj.acqShort : ObjDef := { index := 0x2067, sub := 0x05, idxCount := 1, subCount := 1, ty := .u32, access := .ro, dflt := [.nat 0], rng := [] }
/-- AuxStatus (2067.06), chapter 06: U16, RO. -/
def Obj.auxStatus : ObjDef := { index := 0x2067, sub := 0x06, idxCount := 1, subCount := 1, ty := .u16, access := .ro, dflt := [.nat 0], rng := [] }
/-- LegacyEnable (BF00.01), chapter 06: BOOL, RWP. -/
def Obj.legacyEnable : ObjDef := { index := 0xBF00, sub := 0x01, idxCount := 1, subCount := 1, ty := .bool, access := .rwp, dflt := [.nat 0], rng := [(0, 1)] }
/-- PawnAngle (BF00.02), chapter 06: U16, RWP. -/
def Obj.pawnAngle : ObjDef := { index := 0xBF00, sub := 0x02, idxCount := 1, subCount := 1, ty := .u16, access := .rwp, dflt := [.nat 8192], rng := [(0, 65535)] }
/-- PawnState (BF00.03), chapter 06: U8, RO. -/
def Obj.pawnState : ObjDef := { index := 0xBF00, sub := 0x03, idxCount := 1, subCount := 1, ty := .u8, access := .ro, dflt := [.nat 0], rng := [(0, 4)] }
/-- PawnRounds (BF00.04), chapter 06: U32, RO. -/
def Obj.pawnRounds : ObjDef := { index := 0xBF00, sub := 0x04, idxCount := 1, subCount := 1, ty := .u32, access := .ro, dflt := [.nat 0], rng := [] }
/-- PawnBypassed (BF00.05), chapter 06: U32, RO. -/
def Obj.pawnBypassed : ObjDef := { index := 0xBF00, sub := 0x05, idxCount := 1, subCount := 1, ty := .u32, access := .ro, dflt := [.nat 0], rng := [] }
/-- PawnSkips (BF00.06), chapter 06: U32, RO. -/
def Obj.pawnSkips : ObjDef := { index := 0xBF00, sub := 0x06, idxCount := 1, subCount := 1, ty := .u32, access := .ro, dflt := [.nat 0], rng := [] }
/-- PawnMismatches (BF00.07), chapter 06: U32, RO. -/
def Obj.pawnMismatches : ObjDef := { index := 0xBF00, sub := 0x07, idxCount := 1, subCount := 1, ty := .u32, access := .ro, dflt := [.nat 0], rng := [] }
/-- OwtInterval (2070.01), chapter 07: U16, RW. -/
def Obj.owtInterval : ObjDef := { index := 0x2070, sub := 0x01, idxCount := 1, subCount := 1, ty := .u16, access := .rw, dflt := [.nat 100], rng := [(50, 10000)] }
/-- OwtLimit (2070.02), chapter 07: F32, RW. -/
def Obj.owtLimit : ObjDef := { index := 0x2070, sub := 0x02, idxCount := 1, subCount := 1, ty := .f32, access := .rw, dflt := [.f32 0x3CA3D70A], rng := [((1 / 200), (1 / 2))] }
/-- OwtRounds (2070.03), chapter 07: U32, RO. -/
def Obj.owtRounds : ObjDef := { index := 0x2070, sub := 0x03, idxCount := 1, subCount := 1, ty := .u32, access := .ro, dflt := [.nat 0], rng := [] }
/-- OwtDeferred (2070.04), chapter 07: U16, RO. -/
def Obj.owtDeferred : ObjDef := { index := 0x2070, sub := 0x04, idxCount := 1, subCount := 1, ty := .u16, access := .ro, dflt := [.nat 0], rng := [(0, 65535)] }
/-- IntegrityStatus (2070.05), chapter 07: U16, RO. -/
def Obj.integrityStatus : ObjDef := { index := 0x2070, sub := 0x05, idxCount := 1, subCount := 1, ty := .u16, access := .ro, dflt := [.nat 0], rng := [] }
/-- SenseWireRes (2071.01 to 2071.19), chapter 07: F32, RO. -/
def Obj.senseWireRes : ObjDef := { index := 0x2071, sub := 0x01, idxCount := 1, subCount := 25, ty := .f32, access := .ro, dflt := [.f32 0x00000000], rng := [((-1), (-1)), (0, 50)] }
/-- ForcePathRes (2072.01 to 2072.18), chapter 07: F32, RO. -/
def Obj.forcePathRes : ObjDef := { index := 0x2072, sub := 0x01, idxCount := 1, subCount := 24, ty := .f32, access := .ro, dflt := [.f32 0x00000000], rng := [((-1), (-1)), (0, 10)] }
/-- DualPathLimit (2073.01), chapter 07: F32, RW. -/
def Obj.dualPathLimit : ObjDef := { index := 0x2073, sub := 0x01, idxCount := 1, subCount := 1, ty := .f32, access := .rw, dflt := [.f32 0x3BA3D70A], rng := [((1 / 500), (1 / 10))] }
/-- SumMargin (2073.02), chapter 07: F32, RW. -/
def Obj.sumMargin : ObjDef := { index := 0x2073, sub := 0x02, idxCount := 1, subCount := 1, ty := .f32, access := .rw, dflt := [.f32 0x3DCCCCCD], rng := [((3 / 50), 1)] }
/-- DualPathDiff (2074.01 to 2074.18), chapter 07: F32, RO. -/
def Obj.dualPathDiff : ObjDef := { index := 0x2074, sub := 0x01, idxCount := 1, subCount := 24, ty := .f32, access := .ro, dflt := [.f32 0x00000000], rng := [((-(13 / 2)), (13 / 2))] }
/-- SumDiffSN (2074.19), chapter 07: F32, RO. -/
def Obj.sumDiffSN : ObjDef := { index := 0x2074, sub := 0x19, idxCount := 1, subCount := 1, ty := .f32, access := .ro, dflt := [.f32 0x00000000], rng := [((-130), 130)] }
/-- SumDiffFC (2074.1A), chapter 07: F32, RO. -/
def Obj.sumDiffFC : ObjDef := { index := 0x2074, sub := 0x1A, idxCount := 1, subCount := 1, ty := .f32, access := .ro, dflt := [.f32 0x00000000], rng := [((-130), 130)] }
/-- SenseOpenMask (2075.01), chapter 07: U32, RO. -/
def Obj.senseOpenMask : ObjDef := { index := 0x2075, sub := 0x01, idxCount := 1, subCount := 1, ty := .u32, access := .ro, dflt := [.nat 0], rng := [] }
/-- ForceOpenMask (2075.02), chapter 07: U32, RO. -/
def Obj.forceOpenMask : ObjDef := { index := 0x2075, sub := 0x02, idxCount := 1, subCount := 1, ty := .u32, access := .ro, dflt := [.nat 0], rng := [] }
/-- SubstitutedMask (2075.03), chapter 07: U32, RO. -/
def Obj.substitutedMask : ObjDef := { index := 0x2075, sub := 0x03, idxCount := 1, subCount := 1, ty := .u32, access := .ro, dflt := [.nat 0], rng := [] }
/-- BalInhibitMask (2075.04), chapter 07: U32, RO. -/
def Obj.balInhibitMask : ObjDef := { index := 0x2075, sub := 0x04, idxCount := 1, subCount := 1, ty := .u32, access := .ro, dflt := [.nat 0], rng := [] }
/-- BlankAngle (2076.01), chapter 07: U16, RW. -/
def Obj.blankAngle : ObjDef := { index := 0x2076, sub := 0x01, idxCount := 1, subCount := 1, ty := .u16, access := .rw, dflt := [.nat 49152], rng := [(0, 65535)] }
/-- BlankMax (2076.02), chapter 07: U16, RW. -/
def Obj.blankMax : ObjDef := { index := 0x2076, sub := 0x02, idxCount := 1, subCount := 1, ty := .u16, access := .rw, dflt := [.nat 100], rng := [(25, 500)] }
/-- BlankWindows (2076.03), chapter 07: U32, RO. -/
def Obj.blankWindows : ObjDef := { index := 0x2076, sub := 0x03, idxCount := 1, subCount := 1, ty := .u32, access := .ro, dflt := [.nat 0], rng := [] }
/-- BlankTimeouts (2076.04), chapter 07: U32, RO. -/
def Obj.blankTimeouts : ObjDef := { index := 0x2076, sub := 0x04, idxCount := 1, subCount := 1, ty := .u32, access := .ro, dflt := [.nat 0], rng := [] }
/-- BalLease (3000.01), chapter 08: U16, RWP. -/
def Obj.balLease : ObjDef := { index := 0x3000, sub := 0x01, idxCount := 1, subCount := 1, ty := .u16, access := .rwp, dflt := [.nat 10], rng := [(1, 600)] }
/-- BalPlanPeriod (3000.02), chapter 08: U32, RWP. -/
def Obj.balPlanPeriod : ObjDef := { index := 0x3000, sub := 0x02, idxCount := 1, subCount := 1, ty := .u32, access := .rwp, dflt := [.nat 5000], rng := [(500, 300000)] }
/-- BalDeadband (3000.03), chapter 08: F32, RWP. -/
def Obj.balDeadband : ObjDef := { index := 0x3000, sub := 0x03, idxCount := 1, subCount := 1, ty := .f32, access := .rwp, dflt := [.f32 0x3F000000], rng := [((1 / 10), 5)] }
/-- BalAuxNetMax (3000.04), chapter 08: F32, RWP. -/
def Obj.balAuxNetMax : ObjDef := { index := 0x3000, sub := 0x04, idxCount := 1, subCount := 1, ty := .f32, access := .rwp, dflt := [.f32 0x43480000], rng := [(0, 1280)] }
/-- BalEnable (3000.05), chapter 08: U8, RWA Operator. -/
def Obj.balEnable : ObjDef := { index := 0x3000, sub := 0x05, idxCount := 1, subCount := 1, ty := .u8, access := (.rwa .operator), dflt := [.nat 1], rng := [(0, 1)] }
/-- BalTransferEnable (3000.06), chapter 08: BOOL, RWP. -/
def Obj.balTransferEnable : ObjDef := { index := 0x3000, sub := 0x06, idxCount := 1, subCount := 1, ty := .bool, access := .rwp, dflt := [.nat 1], rng := [(0, 1)] }
/-- BalMaxCellVoltage (3001.01), chapter 08: F32, RWP. -/
def Obj.balMaxCellVoltage : ObjDef := { index := 0x3001, sub := 0x01, idxCount := 1, subCount := 1, ty := .f32, access := .rwp, dflt := [.f32 0x40666666], rng := [(3, (22 / 5))] }
/-- BalMinCellVoltage (3001.02), chapter 08: F32, RWP. -/
def Obj.balMinCellVoltage : ObjDef := { index := 0x3001, sub := 0x02, idxCount := 1, subCount := 1, ty := .f32, access := .rwp, dflt := [.f32 0x40400000], rng := [(2, 4)] }
/-- BalChargeTempMin (3001.03), chapter 08: F32, RWP. -/
def Obj.balChargeTempMin : ObjDef := { index := 0x3001, sub := 0x03, idxCount := 1, subCount := 1, ty := .f32, access := .rwp, dflt := [.f32 0x00000000], rng := [((-20), 20)] }
/-- FlybackCurrentMax (3001.04), chapter 08: F32, RWP. -/
def Obj.flybackCurrentMax : ObjDef := { index := 0x3001, sub := 0x04, idxCount := 1, subCount := 1, ty := .f32, access := .rwp, dflt := [.f32 0x40400000], rng := [((1 / 2), 3)] }
/-- TransferPowerMax (3001.05), chapter 08: F32, RWP. -/
def Obj.transferPowerMax : ObjDef := { index := 0x3001, sub := 0x05, idxCount := 1, subCount := 1, ty := .f32, access := .rwp, dflt := [.f32 0x42200000], rng := [(0, 40)] }
/-- BalFineTrim (3001.06), chapter 08: F32, RWP. -/
def Obj.balFineTrim : ObjDef := { index := 0x3001, sub := 0x06, idxCount := 1, subCount := 1, ty := .f32, access := .rwp, dflt := [.f32 0x40000000], rng := [(0, 50)] }
/-- BalPassiveAssist (3001.07), chapter 08: BOOL, RWP. -/
def Obj.balPassiveAssist : ObjDef := { index := 0x3001, sub := 0x07, idxCount := 1, subCount := 1, ty := .bool, access := .rwp, dflt := [.nat 1], rng := [(0, 1)] }
/-- TransferImportMinAux (3001.08), chapter 08: F32, RW. -/
def Obj.transferImportMinAux : ObjDef := { index := 0x3001, sub := 0x08, idxCount := 1, subCount := 1, ty := .f32, access := .rw, dflt := [.f32 0x41A00000], rng := [((37 / 2), 24)] }
/-- BalPlanRecord (3010.01), chapter 08: DOMAIN, WO. -/
def Obj.balPlanRecord : ObjDef := { index := 0x3010, sub := 0x01, idxCount := 1, subCount := 1, ty := (.domain 64), access := .wo, dflt := [.bytes []], rng := [] }
/-- BalPlanLast (3010.02), chapter 08: DOMAIN, RO. -/
def Obj.balPlanLast : ObjDef := { index := 0x3010, sub := 0x02, idxCount := 1, subCount := 1, ty := (.domain 64), access := .ro, dflt := [.bytes []], rng := [] }
/-- BalReport (3011.01), chapter 08: DOMAIN, RO. -/
def Obj.balReport : ObjDef := { index := 0x3011, sub := 0x01, idxCount := 1, subCount := 1, ty := (.domain 64), access := .ro, dflt := [.bytes []], rng := [] }
/-- PlanRejected (3012.01), chapter 08: U16, RO. -/
def Obj.planRejected : ObjDef := { index := 0x3012, sub := 0x01, idxCount := 1, subCount := 1, ty := .u16, access := .ro, dflt := [.nat 0], rng := [(0, 65535)] }
/-- LeaseRemaining (3012.02), chapter 08: U32, RO. -/
def Obj.leaseRemaining : ObjDef := { index := 0x3012, sub := 0x02, idxCount := 1, subCount := 1, ty := .u32, access := .ro, dflt := [.nat 0], rng := [(0, 600000)] }
/-- BalCurrent (3020.01 to 3020.18), chapter 08: F32, RO. -/
def Obj.balCurrent : ObjDef := { index := 0x3020, sub := 0x01, idxCount := 1, subCount := 24, ty := .f32, access := .ro, dflt := [.f32 0x00000000], rng := [((-(33 / 10)), (31 / 10))] }
/-- BalCharge (3021.01 to 3021.18), chapter 08: I64, RO. -/
def Obj.balCharge : ObjDef := { index := 0x3021, sub := 0x01, idxCount := 1, subCount := 24, ty := .i64, access := .ro, dflt := [.int 0], rng := [] }
/-- FlybackState (3022.01 to 3022.06), chapter 08: U16, RO. -/
def Obj.flybackState : ObjDef := { index := 0x3022, sub := 0x01, idxCount := 1, subCount := 6, ty := .u16, access := .ro, dflt := [.nat 0], rng := [] }
/-- BusVoltage (3023.01), chapter 08: F32, RO. -/
def Obj.busVoltage : ObjDef := { index := 0x3023, sub := 0x01, idxCount := 1, subCount := 1, ty := .f32, access := .ro, dflt := [.f32 0x00000000], rng := [(0, 16)] }
/-- TransferPower (3023.02), chapter 08: F32, RO. -/
def Obj.transferPower : ObjDef := { index := 0x3023, sub := 0x02, idxCount := 1, subCount := 1, ty := .f32, access := .ro, dflt := [.f32 0x00000000], rng := [((-45), 45)] }
/-- BooksResidual (3023.03), chapter 08: F32, RO. -/
def Obj.booksResidual : ObjDef := { index := 0x3023, sub := 0x03, idxCount := 1, subCount := 1, ty := .f32, access := .ro, dflt := [.f32 0x00000000], rng := [] }
/-- BalStatus (3023.04), chapter 08: U16, RO. -/
def Obj.balStatus : ObjDef := { index := 0x3023, sub := 0x04, idxCount := 1, subCount := 1, ty := .u16, access := .ro, dflt := [.nat 0], rng := [] }
/-- BalLimited (3023.05), chapter 08: U32, RO. -/
def Obj.balLimited : ObjDef := { index := 0x3023, sub := 0x05, idxCount := 1, subCount := 1, ty := .u32, access := .ro, dflt := [.nat 0], rng := [] }
/-- StringCurrent (4010.01), chapter 09: F32, RO. -/
def Obj.stringCurrent : ObjDef := { index := 0x4010, sub := 0x01, idxCount := 1, subCount := 1, ty := .f32, access := .ro, dflt := [.f32 0x00000000], rng := [((-1600), 1600)] }
/-- ShuntCurrent (4010.02), chapter 09: F32, RO. -/
def Obj.shuntCurrent : ObjDef := { index := 0x4010, sub := 0x02, idxCount := 1, subCount := 1, ty := .f32, access := .ro, dflt := [.f32 0x00000000], rng := [((-1600), 1600)] }
/-- FluxCurrent (4010.03), chapter 09: F32, RO. -/
def Obj.fluxCurrent : ObjDef := { index := 0x4010, sub := 0x03, idxCount := 1, subCount := 1, ty := .f32, access := .ro, dflt := [.f32 0x00000000], rng := [((-1600), 1600)] }
/-- ShuntResistance (4010.04), chapter 09: F32, RWP. -/
def Obj.shuntResistance : ObjDef := { index := 0x4010, sub := 0x04, idxCount := 1, subCount := 1, ty := .f32, access := .rwp, dflt := [.f32 0x3851B717], rng := [((1 / 100000), (1 / 1000))] }
/-- FluxGain (4010.05), chapter 09: F32, RWP. -/
def Obj.fluxGain : ObjDef := { index := 0x4010, sub := 0x05, idxCount := 1, subCount := 1, ty := .f32, access := .rwp, dflt := [.f32 0x43160000], rng := [(1, 1000)] }
/-- CurrentPrimary (4010.06), chapter 09: U8, RWP. -/
def Obj.currentPrimary : ObjDef := { index := 0x4010, sub := 0x06, idxCount := 1, subCount := 1, ty := .u8, access := .rwp, dflt := [.nat 0], rng := [(0, 1)] }
/-- CurrentInUse (4010.07), chapter 09: U8, RO. -/
def Obj.currentInUse : ObjDef := { index := 0x4010, sub := 0x07, idxCount := 1, subCount := 1, ty := .u8, access := .ro, dflt := [.nat 0], rng := [(0, 2)] }
/-- CurrentCheckFloor (4010.08), chapter 09: F32, RWP. -/
def Obj.currentCheckFloor : ObjDef := { index := 0x4010, sub := 0x08, idxCount := 1, subCount := 1, ty := .f32, access := .rwp, dflt := [.f32 0x40000000], rng := [((1 / 2), 50)] }
/-- ShortCircuitLevel (4010.09), chapter 09: F32, RWP. -/
def Obj.shortCircuitLevel : ObjDef := { index := 0x4010, sub := 0x09, idxCount := 1, subCount := 1, ty := .f32, access := .rwp, dflt := [.f32 0x44960000], rng := [(50, 1000000)] }
/-- StringVoltage (4011.01), chapter 09: F32, RO. -/
def Obj.stringVoltage : ObjDef := { index := 0x4011, sub := 0x01, idxCount := 1, subCount := 1, ty := .f32, access := .ro, dflt := [.f32 0x00000000], rng := [(0, 1600)] }
/-- LinkVoltage (4011.02), chapter 09: F32, RO. -/
def Obj.linkVoltage : ObjDef := { index := 0x4011, sub := 0x02, idxCount := 1, subCount := 1, ty := .f32, access := .ro, dflt := [.f32 0x00000000], rng := [((-50), 1600)] }
/-- MainPosVoltage (4011.03), chapter 09: F32, RO. -/
def Obj.mainPosVoltage : ObjDef := { index := 0x4011, sub := 0x03, idxCount := 1, subCount := 1, ty := .f32, access := .ro, dflt := [.f32 0x00000000], rng := [((-1650), 1650)] }
/-- ModuleSumVoltage (4011.04), chapter 09: F32, RO. -/
def Obj.moduleSumVoltage : ObjDef := { index := 0x4011, sub := 0x04, idxCount := 1, subCount := 1, ty := .f32, access := .ro, dflt := [.f32 0x00000000], rng := [(0, 1600)] }
/-- IsoMode (4020.01), chapter 09: U8, RWP. -/
def Obj.isoMode : ObjDef := { index := 0x4020, sub := 0x01, idxCount := 1, subCount := 1, ty := .u8, access := .rwp, dflt := [.nat 1], rng := [(0, 2)] }
/-- IsoWarn (4020.02), chapter 09: F32, RWP. -/
def Obj.isoWarn : ObjDef := { index := 0x4020, sub := 0x02, idxCount := 1, subCount := 1, ty := .f32, access := .rwp, dflt := [.f32 0x48F42400], rng := [(50000, 10000000)] }
/-- IsoAlarm (4020.03), chapter 09: F32, RWP. -/
def Obj.isoAlarm : ObjDef := { index := 0x4020, sub := 0x03, idxCount := 1, subCount := 1, ty := .f32, access := .rwp, dflt := [.f32 0x48127C00], rng := [(20000, 5000000)] }
/-- IsoAlarmAction (4020.04), chapter 09: U8, RWP. -/
def Obj.isoAlarmAction : ObjDef := { index := 0x4020, sub := 0x04, idxCount := 1, subCount := 1, ty := .u8, access := .rwp, dflt := [.nat 0], rng := [(0, 1)] }
/-- IsoStateMin (4020.05), chapter 09: U16, RWP. -/
def Obj.isoStateMin : ObjDef := { index := 0x4020, sub := 0x05, idxCount := 1, subCount := 1, ty := .u16, access := .rwp, dflt := [.nat 1000], rng := [(500, 10000)] }
/-- IsoStateMax (4020.06), chapter 09: U32, RWP. -/
def Obj.isoStateMax : ObjDef := { index := 0x4020, sub := 0x06, idxCount := 1, subCount := 1, ty := .u32, access := .rwp, dflt := [.nat 30000], rng := [(2000, 120000)] }
/-- IsoRp, IsoRn, IsoRiso (4020.07 to 4020.09), chapter 09: F32, RO. -/
def Obj.isoRp : ObjDef := { index := 0x4020, sub := 0x07, idxCount := 1, subCount := 1, ty := .f32, access := .ro, dflt := [.f32 0x00000000], rng := [(0, 1000000000)] }
/-- IsoRp, IsoRn, IsoRiso (4020.07 to 4020.09), chapter 09: F32, RO. -/
def Obj.isoRn : ObjDef := { index := 0x4020, sub := 0x08, idxCount := 1, subCount := 1, ty := .f32, access := .ro, dflt := [.f32 0x00000000], rng := [(0, 1000000000)] }
/-- IsoRp, IsoRn, IsoRiso (4020.07 to 4020.09), chapter 09: F32, RO. -/
def Obj.isoRiso : ObjDef := { index := 0x4020, sub := 0x09, idxCount := 1, subCount := 1, ty := .f32, access := .ro, dflt := [.f32 0x00000000], rng := [(0, 1000000000)] }
/-- IsoAge (4020.0A), chapter 09: U32, RO. -/
def Obj.isoAge : ObjDef := { index := 0x4020, sub := 0x0A, idxCount := 1, subCount := 1, ty := .u32, access := .ro, dflt := [.nat 4294967295], rng := [] }
/-- ContactorCommand (4030.01), chapter 09: U8, RWA Operator. -/
def Obj.contactorCommand : ObjDef := { index := 0x4030, sub := 0x01, idxCount := 1, subCount := 1, ty := .u8, access := (.rwa .operator), dflt := [.nat 0], rng := [(1, 2)] }
/-- PullInTime (4030.02 to 4030.04), chapter 09: U16, RWP. -/
def Obj.pullInTime : ObjDef := { index := 0x4030, sub := 0x02, idxCount := 1, subCount := 3, ty := .u16, access := .rwp, dflt := [.nat 100], rng := [(50, 500)] }
/-- HoldCurrent (4030.05 to 4030.07), chapter 09: F32, RWP. -/
def Obj.holdCurrent : ObjDef := { index := 0x4030, sub := 0x05, idxCount := 1, subCount := 3, ty := .f32, access := .rwp, dflt := [.f32 0x3E99999A], rng := [((1 / 10), 1)] }
/-- PrechargeResistance (4030.08), chapter 09: F32, RWP. -/
def Obj.prechargeResistance : ObjDef := { index := 0x4030, sub := 0x08, idxCount := 1, subCount := 1, ty := .f32, access := .rwp, dflt := [.f32 0x42480000], rng := [(5, 1000)] }
/-- PrechargeDoneBand (4030.09), chapter 09: F32, RWP. -/
def Obj.prechargeDoneBand : ObjDef := { index := 0x4030, sub := 0x09, idxCount := 1, subCount := 1, ty := .f32, access := .rwp, dflt := [.f32 0x41200000], rng := [(2, 50)] }
/-- PrechargeTimeout (4030.0A), chapter 09: U16, RWP. -/
def Obj.prechargeTimeout : ObjDef := { index := 0x4030, sub := 0x0A, idxCount := 1, subCount := 1, ty := .u16, access := .rwp, dflt := [.nat 3000], rng := [(500, 20000)] }
/-- PrechargeRiseTime (4030.0B), chapter 09: U16, RWP. -/
def Obj.prechargeRiseTime : ObjDef := { index := 0x4030, sub := 0x0B, idxCount := 1, subCount := 1, ty := .u16, access := .rwp, dflt := [.nat 500], rng := [(100, 5000)] }
/-- ContactorOpenWait (4030.0C), chapter 09: U16, RWP. -/
def Obj.contactorOpenWait : ObjDef := { index := 0x4030, sub := 0x0C, idxCount := 1, subCount := 1, ty := .u16, access := .rwp, dflt := [.nat 200], rng := [(50, 1000)] }
/-- OpenWaitMax (4030.0D), chapter 09: U16, RWP. -/
def Obj.openWaitMax : ObjDef := { index := 0x4030, sub := 0x0D, idxCount := 1, subCount := 1, ty := .u16, access := .rwp, dflt := [.nat 500], rng := [(40, 2000)] }
/-- OpenCurrentMax (4030.0E), chapter 09: F32, RWP. -/
def Obj.openCurrentMax : ObjDef := { index := 0x4030, sub := 0x0E, idxCount := 1, subCount := 1, ty := .f32, access := .rwp, dflt := [.f32 0x40A00000], rng := [(1, 100)] }
/-- LinkPrechargedAllowed (4030.0F), chapter 09: BOOL, RWP. -/
def Obj.linkPrechargedAllowed : ObjDef := { index := 0x4030, sub := 0x0F, idxCount := 1, subCount := 1, ty := .bool, access := .rwp, dflt := [.nat 0], rng := [(0, 1)] }
/-- ContactorState (4030.10), chapter 09: U8, RO. -/
def Obj.contactorState : ObjDef := { index := 0x4030, sub := 0x10, idxCount := 1, subCount := 1, ty := .u8, access := .ro, dflt := [.nat 0], rng := [(0, 6)] }
/-- CloseRefusal (4030.11), chapter 09: U8, RO. -/
def Obj.closeRefusal : ObjDef := { index := 0x4030, sub := 0x11, idxCount := 1, subCount := 1, ty := .u8, access := .ro, dflt := [.nat 0], rng := [(0, 11)] }
/-- OpenUnderLoad (4030.12), chapter 09: U32, RO. -/
def Obj.openUnderLoad : ObjDef := { index := 0x4030, sub := 0x12, idxCount := 1, subCount := 1, ty := .u32, access := .ro, dflt := [.nat 0], rng := [] }
/-- LastOpenCurrent (4030.13), chapter 09: F32, RO. -/
def Obj.lastOpenCurrent : ObjDef := { index := 0x4030, sub := 0x13, idxCount := 1, subCount := 1, ty := .f32, access := .ro, dflt := [.f32 0x00000000], rng := [((-1600), 1600)] }
/-- HeadIoStatus (4030.14), chapter 09: U16, RO. -/
def Obj.headIoStatus : ObjDef := { index := 0x4030, sub := 0x14, idxCount := 1, subCount := 1, ty := .u16, access := .ro, dflt := [.nat 0], rng := [] }
/-- CellOvWarn, CellOvOpen, CellOvTrip (4040.01 to 4040.03), chapter 09: F32, RWP. -/
def Obj.cellOvWarn : ObjDef := { index := 0x4040, sub := 0x01, idxCount := 1, subCount := 1, ty := .f32, access := .rwp, dflt := [.f32 0x40633333], rng := [(2, (9 / 2))] }
/-- CellOvWarn, CellOvOpen, CellOvTrip (4040.01 to 4040.03), chapter 09: F32, RWP. -/
def Obj.cellOvOpen : ObjDef := { index := 0x4040, sub := 0x02, idxCount := 1, subCount := 1, ty := .f32, access := .rwp, dflt := [.f32 0x40666666], rng := [(2, (9 / 2))] }
/-- CellOvWarn, CellOvOpen, CellOvTrip (4040.01 to 4040.03), chapter 09: F32, RWP. -/
def Obj.cellOvTrip : ObjDef := { index := 0x4040, sub := 0x03, idxCount := 1, subCount := 1, ty := .f32, access := .rwp, dflt := [.f32 0x4069999A], rng := [(2, (9 / 2))] }
/-- CellUvWarn, CellUvOpen, CellUvTrip (4040.04 to 4040.06), chapter 09: F32, RWP. -/
def Obj.cellUvWarn : ObjDef := { index := 0x4040, sub := 0x04, idxCount := 1, subCount := 1, ty := .f32, access := .rwp, dflt := [.f32 0x40333333], rng := [((3 / 2), (7 / 2))] }
/-- CellUvWarn, CellUvOpen, CellUvTrip (4040.04 to 4040.06), chapter 09: F32, RWP. -/
def Obj.cellUvOpen : ObjDef := { index := 0x4040, sub := 0x05, idxCount := 1, subCount := 1, ty := .f32, access := .rwp, dflt := [.f32 0x40266666], rng := [((3 / 2), (7 / 2))] }
/-- CellUvWarn, CellUvOpen, CellUvTrip (4040.04 to 4040.06), chapter 09: F32, RWP. -/
def Obj.cellUvTrip : ObjDef := { index := 0x4040, sub := 0x06, idxCount := 1, subCount := 1, ty := .f32, access := .rwp, dflt := [.f32 0x40200000], rng := [((3 / 2), (7 / 2))] }
/-- TempHighWarn, TempHighOpen, TempHighTrip (4040.07 to 4040.09), chapter 09: F32, RWP. -/
def Obj.tempHighWarn : ObjDef := { index := 0x4040, sub := 0x07, idxCount := 1, subCount := 1, ty := .f32, access := .rwp, dflt := [.f32 0x42340000], rng := [(20, 80)] }
/-- TempHighWarn, TempHighOpen, TempHighTrip (4040.07 to 4040.09), chapter 09: F32, RWP. -/
def Obj.tempHighOpen : ObjDef := { index := 0x4040, sub := 0x08, idxCount := 1, subCount := 1, ty := .f32, access := .rwp, dflt := [.f32 0x425C0000], rng := [(20, 80)] }
/-- TempHighWarn, TempHighOpen, TempHighTrip (4040.07 to 4040.09), chapter 09: F32, RWP. -/
def Obj.tempHighTrip : ObjDef := { index := 0x4040, sub := 0x09, idxCount := 1, subCount := 1, ty := .f32, access := .rwp, dflt := [.f32 0x42700000], rng := [(20, 80)] }
/-- TempLowWarn, TempLowOpen, TempLowTrip (4040.0A to 4040.0C), chapter 09: F32, RWP. -/
def Obj.tempLowWarn : ObjDef := { index := 0x4040, sub := 0x0A, idxCount := 1, subCount := 1, ty := .f32, access := .rwp, dflt := [.f32 0x00000000], rng := [((-40), 20)] }
/-- TempLowWarn, TempLowOpen, TempLowTrip (4040.0A to 4040.0C), chapter 09: F32, RWP. -/
def Obj.tempLowOpen : ObjDef := { index := 0x4040, sub := 0x0B, idxCount := 1, subCount := 1, ty := .f32, access := .rwp, dflt := [.f32 0xC1A00000], rng := [((-40), 20)] }
/-- TempLowWarn, TempLowOpen, TempLowTrip (4040.0A to 4040.0C), chapter 09: F32, RWP. -/
def Obj.tempLowTrip : ObjDef := { index := 0x4040, sub := 0x0C, idxCount := 1, subCount := 1, ty := .f32, access := .rwp, dflt := [.f32 0xC1F00000], rng := [((-40), 20)] }
/-- ChgTaperStart (4040.0D), chapter 09: F32, RWP. -/
def Obj.chgTaperStart : ObjDef := { index := 0x4040, sub := 0x0D, idxCount := 1, subCount := 1, ty := .f32, access := .rwp, dflt := [.f32 0x405CCCCD], rng := [(2, (9 / 2))] }
/-- DisTaperStart (4040.0E), chapter 09: F32, RWP. -/
def Obj.disTaperStart : ObjDef := { index := 0x4040, sub := 0x0E, idxCount := 1, subCount := 1, ty := .f32, access := .rwp, dflt := [.f32 0x40400000], rng := [((3 / 2), 4)] }
/-- ChargeCurrentMax (4040.0F), chapter 09: F32, RWP. -/
def Obj.chargeCurrentMax : ObjDef := { index := 0x4040, sub := 0x0F, idxCount := 1, subCount := 1, ty := .f32, access := .rwp, dflt := [.f32 0x00000000], rng := [(0, 1400)] }
/-- DischargeCurrentMax (4040.10), chapter 09: F32, RWP. -/
def Obj.dischargeCurrentMax : ObjDef := { index := 0x4040, sub := 0x10, idxCount := 1, subCount := 1, ty := .f32, access := .rwp, dflt := [.f32 0x00000000], rng := [(0, 1400)] }
/-- OvercurrentTrip (4040.11), chapter 09: F32, RWP. -/
def Obj.overcurrentTrip : ObjDef := { index := 0x4040, sub := 0x11, idxCount := 1, subCount := 1, ty := .f32, access := .rwp, dflt := [.f32 0x447A0000], rng := [(10, 1425)] }
/-- StringVoltageMax (4040.12), chapter 09: F32, RWP. -/
def Obj.stringVoltageMax : ObjDef := { index := 0x4040, sub := 0x12, idxCount := 1, subCount := 1, ty := .f32, access := .rwp, dflt := [.f32 0x44BB8000], rng := [(20, 1500)] }
/-- StringVoltageTrip (4040.13), chapter 09: F32, RWP. -/
def Obj.stringVoltageTrip : ObjDef := { index := 0x4040, sub := 0x13, idxCount := 1, subCount := 1, ty := .f32, access := .rwp, dflt := [.f32 0x44BF4000], rng := [(25, 1560)] }
/-- ProtSetCrc (4040.14), chapter 09: U32, RO. -/
def Obj.protSetCrc : ObjDef := { index := 0x4040, sub := 0x14, idxCount := 1, subCount := 1, ty := .u32, access := .ro, dflt := [.nat 0], rng := [] }
/-- LimitRampUp (4041.01), chapter 09: F32, RWP. -/
def Obj.limitRampUp : ObjDef := { index := 0x4041, sub := 0x01, idxCount := 1, subCount := 1, ty := .f32, access := .rwp, dflt := [.f32 0x42480000], rng := [(1, 1000)] }
/-- PcsLimitPeriod (4041.02), chapter 09: U16, RWP. -/
def Obj.pcsLimitPeriod : ObjDef := { index := 0x4041, sub := 0x02, idxCount := 1, subCount := 1, ty := .u16, access := .rwp, dflt := [.nat 100], rng := [(20, 1000)] }
/-- ChargeLimit, DischargeLimit (4041.03, 4041.04), chapter 09: F32, RO. -/
def Obj.chargeLimit : ObjDef := { index := 0x4041, sub := 0x03, idxCount := 1, subCount := 1, ty := .f32, access := .ro, dflt := [.f32 0x00000000], rng := [(0, 1400)] }
/-- ChargeLimit, DischargeLimit (4041.03, 4041.04), chapter 09: F32, RO. -/
def Obj.dischargeLimit : ObjDef := { index := 0x4041, sub := 0x04, idxCount := 1, subCount := 1, ty := .f32, access := .ro, dflt := [.f32 0x00000000], rng := [(0, 1400)] }
/-- TripReset (4042.01), chapter 09: U8, RWA Operator. -/
def Obj.tripReset : ObjDef := { index := 0x4042, sub := 0x01, idxCount := 1, subCount := 1, ty := .u8, access := (.rwa .operator), dflt := [.nat 0], rng := [(90, 90)] }
/-- TripNode (4042.02), chapter 09: U8, RO. -/
def Obj.tripNode : ObjDef := { index := 0x4042, sub := 0x02, idxCount := 1, subCount := 1, ty := .u8, access := .ro, dflt := [.nat 0], rng := [(0, 32)] }
/-- TripCause (4042.03), chapter 09: U8, RO. -/
def Obj.tripCause : ObjDef := { index := 0x4042, sub := 0x03, idxCount := 1, subCount := 1, ty := .u8, access := .ro, dflt := [.nat 0], rng := [(0, 8)] }
/-- NominalCapacity (5000.01), chapter 10: F32, RWP. -/
def Obj.nominalCapacity : ObjDef := { index := 0x5000, sub := 0x01, idxCount := 1, subCount := 1, ty := .f32, access := .rwp, dflt := [.f32 0x00000000], rng := [(0, 0), (1, 600)] }
/-- ChargeEfficiency (5000.02), chapter 10: F32, RWP. -/
def Obj.chargeEfficiency : ObjDef := { index := 0x5000, sub := 0x02, idxCount := 1, subCount := 1, ty := .f32, access := .rwp, dflt := [.f32 0x3F800000], rng := [((19 / 20), 1)] }
/-- SelfDischargeCommon (5000.03), chapter 10: F32, RWP. -/
def Obj.selfDischargeCommon : ObjDef := { index := 0x5000, sub := 0x03, idxCount := 1, subCount := 1, ty := .f32, access := .rwp, dflt := [.f32 0x00000000], rng := [(0, 10)] }
/-- OcvTempCoeff (5000.04), chapter 10: F32, RWP. -/
def Obj.ocvTempCoeff : ObjDef := { index := 0x5000, sub := 0x04, idxCount := 1, subCount := 1, ty := .f32, access := .rwp, dflt := [.f32 0x00000000], rng := [((-1000), 1000)] }
/-- OcvHysteresis (5000.05), chapter 10: F32, RWP. -/
def Obj.ocvHysteresis : ObjDef := { index := 0x5000, sub := 0x05, idxCount := 1, subCount := 1, ty := .f32, access := .rwp, dflt := [.f32 0x00000000], rng := [(0, 50)] }
/-- OcvTable (5000.06), chapter 10: DOMAIN, RWP. -/
def Obj.ocvTable : ObjDef := { index := 0x5000, sub := 0x06, idxCount := 1, subCount := 1, ty := (.domain 164), access := .rwp, dflt := [.bytes []], rng := [] }
/-- SocWritePeriod (5001.01), chapter 10: U16, RW. -/
def Obj.socWritePeriod : ObjDef := { index := 0x5001, sub := 0x01, idxCount := 1, subCount := 1, ty := .u16, access := .rw, dflt := [.nat 60], rng := [(10, 3600)] }
/-- CapLearnGain (5001.02), chapter 10: F32, RWP. -/
def Obj.capLearnGain : ObjDef := { index := 0x5001, sub := 0x02, idxCount := 1, subCount := 1, ty := .f32, access := .rwp, dflt := [.f32 0x3E99999A], rng := [((1 / 20), 1)] }
/-- StepMinFraction (5001.03), chapter 10: F32, RWP. -/
def Obj.stepMinFraction : ObjDef := { index := 0x5001, sub := 0x03, idxCount := 1, subCount := 1, ty := .f32, access := .rwp, dflt := [.f32 0x3DCCCCCD], rng := [((1 / 50), 1)] }
/-- ImpMinExcitation (5001.04), chapter 10: F32, RW. -/
def Obj.impMinExcitation : ObjDef := { index := 0x5001, sub := 0x04, idxCount := 1, subCount := 1, ty := .f32, access := .rw, dflt := [.f32 0x3F000000], rng := [((1 / 20), 100)] }
/-- ImpAverages (5001.05), chapter 10: U8, RW. -/
def Obj.impAverages : ObjDef := { index := 0x5001, sub := 0x05, idxCount := 1, subCount := 1, ty := .u8, access := .rw, dflt := [.nat 8], rng := [(1, 64)] }
/-- BinCycles (5001.06), chapter 10: U8, RW. -/
def Obj.binCycles : ObjDef := { index := 0x5001, sub := 0x06, idxCount := 1, subCount := 1, ty := .u8, access := .rw, dflt := [.nat 16], rng := [(4, 64)] }
/-- SdSettle (5001.07), chapter 10: U16, RWP. -/
def Obj.sdSettle : ObjDef := { index := 0x5001, sub := 0x07, idxCount := 1, subCount := 1, ty := .u16, access := .rwp, dflt := [.nat 2], rng := [(1, 24)] }
/-- SdWindow (5001.08), chapter 10: U16, RWP. -/
def Obj.sdWindow : ObjDef := { index := 0x5001, sub := 0x08, idxCount := 1, subCount := 1, ty := .u16, access := .rwp, dflt := [.nat 24], rng := [(6, 72)] }
/-- SdWarn (5001.09), chapter 10: F32, RWP. -/
def Obj.sdWarn : ObjDef := { index := 0x5001, sub := 0x09, idxCount := 1, subCount := 1, ty := .f32, access := .rwp, dflt := [.f32 0x3C23D70A], rng := [((1 / 1000), 1)] }
/-- SdAlarm (5001.0A), chapter 10: F32, RWP. -/
def Obj.sdAlarm : ObjDef := { index := 0x5001, sub := 0x0A, idxCount := 1, subCount := 1, ty := .f32, access := .rwp, dflt := [.f32 0x3D4CCCCD], rng := [((1 / 500), 5)] }
/-- R0Default (5001.0B), chapter 10: F32, RWP. -/
def Obj.r0Default : ObjDef := { index := 0x5001, sub := 0x0B, idxCount := 1, subCount := 1, ty := .f32, access := .rwp, dflt := [.f32 0x3A03126F], rng := [((1 / 100000), (1 / 10))] }
/-- VoltCheckMaxCurrent (5001.0C), chapter 10: F32, RWP. -/
def Obj.voltCheckMaxCurrent : ObjDef := { index := 0x5001, sub := 0x0C, idxCount := 1, subCount := 1, ty := .f32, access := .rwp, dflt := [.f32 0x3F000000], rng := [((1 / 100), 2)] }
/-- CountOffsetBound (5001.0D), chapter 10: F32, RWP. -/
def Obj.countOffsetBound : ObjDef := { index := 0x5001, sub := 0x0D, idxCount := 1, subCount := 1, ty := .f32, access := .rwp, dflt := [.f32 0x3D4CCCCD], rng := [((1 / 1000), 10)] }
/-- Soc (5010.01 to 5010.18), chapter 10: F32, RO. -/
def Obj.soc : ObjDef := { index := 0x5010, sub := 0x01, idxCount := 1, subCount := 24, ty := .f32, access := .ro, dflt := [.f32 0x00000000], rng := [(0, 100)] }
/-- SocUncertainty (5011.01 to 5011.18), chapter 10: F32, RO. -/
def Obj.socUncertainty : ObjDef := { index := 0x5011, sub := 0x01, idxCount := 1, subCount := 24, ty := .f32, access := .ro, dflt := [.f32 0x42480000], rng := [(0, 100)] }
/-- Capacity (5012.01 to 5012.18), chapter 10: F32, RO. -/
def Obj.capacity : ObjDef := { index := 0x5012, sub := 0x01, idxCount := 1, subCount := 24, ty := .f32, access := .ro, dflt := [.f32 0x00000000], rng := [(0, (13107 / 20))] }
/-- SoH (5013.01 to 5013.18), chapter 10: F32, RO. -/
def Obj.soH : ObjDef := { index := 0x5013, sub := 0x01, idxCount := 1, subCount := 24, ty := .f32, access := .ro, dflt := [.f32 0x00000000], rng := [(0, 200)] }
/-- SocCorrection (5014.01 to 5014.18), chapter 10: F32, RO. -/
def Obj.socCorrection : ObjDef := { index := 0x5014, sub := 0x01, idxCount := 1, subCount := 24, ty := .f32, access := .ro, dflt := [.f32 0x00000000], rng := [((-100), 100)] }
/-- R0Cell (5015.01 to 5015.18), chapter 10: F32, RO. -/
def Obj.r0Cell : ObjDef := { index := 0x5015, sub := 0x01, idxCount := 1, subCount := 24, ty := .f32, access := .ro, dflt := [.f32 0x00000000], rng := [(0, 1)] }
/-- R1Cell (5016.01 to 5016.18), chapter 10: F32, RO. -/
def Obj.r1Cell : ObjDef := { index := 0x5016, sub := 0x01, idxCount := 1, subCount := 24, ty := .f32, access := .ro, dflt := [.f32 0x00000000], rng := [((-1), 1)] }
/-- R2Cell (5017.01 to 5017.18), chapter 10: F32, RO. -/
def Obj.r2Cell : ObjDef := { index := 0x5017, sub := 0x01, idxCount := 1, subCount := 24, ty := .f32, access := .ro, dflt := [.f32 0x00000000], rng := [((-1), 1)] }
/-- ImpSpectrum (5018.01 to 5018.18), chapter 10: DOMAIN, RO. -/
def Obj.impSpectrum : ObjDef := { index := 0x5018, sub := 0x01, idxCount := 1, subCount := 24, ty := (.domain 520), access := .ro, dflt := [.bytes []], rng := [] }
/-- SdCurrent (5019.01 to 5019.18), chapter 10: F32, RO. -/
def Obj.sdCurrent : ObjDef := { index := 0x5019, sub := 0x01, idxCount := 1, subCount := 24, ty := .f32, access := .ro, dflt := [.f32 0x00000000], rng := [((-10), 10)] }
/-- SdUncertainty (501A.01 to 501A.18), chapter 10: F32, RO. -/
def Obj.sdUncertainty : ObjDef := { index := 0x501A, sub := 0x01, idxCount := 1, subCount := 24, ty := .f32, access := .ro, dflt := [.f32 0x00000000], rng := [(0, 10)] }
/-- CellEstStatus (501B.01 to 501B.18), chapter 10: U16, RO. -/
def Obj.cellEstStatus : ObjDef := { index := 0x501B, sub := 0x01, idxCount := 1, subCount := 24, ty := .u16, access := .ro, dflt := [.nat 0], rng := [] }
/-- ChargeCount (501C.01 to 501C.18), chapter 10: I64, RO. -/
def Obj.chargeCount : ObjDef := { index := 0x501C, sub := 0x01, idxCount := 1, subCount := 24, ty := .i64, access := .ro, dflt := [.int 0], rng := [] }
/-- EstStatus (5020.01), chapter 10: U16, RO. -/
def Obj.estStatus : ObjDef := { index := 0x5020, sub := 0x01, idxCount := 1, subCount := 1, ty := .u16, access := .ro, dflt := [.nat 0], rng := [] }
/-- CapWrites (5020.02), chapter 10: U32, RO. -/
def Obj.capWrites : ObjDef := { index := 0x5020, sub := 0x02, idxCount := 1, subCount := 1, ty := .u32, access := .ro, dflt := [.nat 0], rng := [] }
/-- CapWriteSkips (5020.03), chapter 10: U16, RO. -/
def Obj.capWriteSkips : ObjDef := { index := 0x5020, sub := 0x03, idxCount := 1, subCount := 1, ty := .u16, access := .ro, dflt := [.nat 0], rng := [(0, 65535)] }
/-- MissingCurrentWords (5020.04), chapter 10: U32, RO. -/
def Obj.missingCurrentWords : ObjDef := { index := 0x5020, sub := 0x04, idxCount := 1, subCount := 1, ty := .u32, access := .ro, dflt := [.nat 0], rng := [] }
/-- CountGaps (5020.05), chapter 10: U16, RO. -/
def Obj.countGaps : ObjDef := { index := 0x5020, sub := 0x05, idxCount := 1, subCount := 1, ty := .u16, access := .ro, dflt := [.nat 0], rng := [(0, 65535)] }
/-- SocCorrections (5020.06), chapter 10: U32, RO. -/
def Obj.socCorrections : ObjDef := { index := 0x5020, sub := 0x06, idxCount := 1, subCount := 1, ty := .u32, access := .ro, dflt := [.nat 0], rng := [] }
/-- InitialBasis (5020.07), chapter 10: U8, RO. -/
def Obj.initialBasis : ObjDef := { index := 0x5020, sub := 0x07, idxCount := 1, subCount := 1, ty := .u8, access := .ro, dflt := [.nat 2], rng := [(0, 2)] }
/-- StoredStateAge (5020.08), chapter 10: U32, RO. -/
def Obj.storedStateAge : ObjDef := { index := 0x5020, sub := 0x08, idxCount := 1, subCount := 1, ty := .u32, access := .ro, dflt := [.nat 4294967295], rng := [] }
/-- StepCount (5020.09), chapter 10: U32, RO. -/
def Obj.stepCount : ObjDef := { index := 0x5020, sub := 0x09, idxCount := 1, subCount := 1, ty := .u32, access := .ro, dflt := [.nat 0], rng := [] }
/-- CapRecordInForce (5021.01), chapter 10: DOMAIN, RO. -/
def Obj.capRecordInForce : ObjDef := { index := 0x5021, sub := 0x01, idxCount := 1, subCount := 1, ty := (.domain 64), access := .ro, dflt := [.bytes []], rng := [] }
/-- StringSoc (5030.01), chapter 10: F32, RO. -/
def Obj.stringSoc : ObjDef := { index := 0x5030, sub := 0x01, idxCount := 1, subCount := 1, ty := .f32, access := .ro, dflt := [.f32 0x00000000], rng := [(0, 100)] }
/-- StringCapacity (5030.02), chapter 10: F32, RO. -/
def Obj.stringCapacity : ObjDef := { index := 0x5030, sub := 0x02, idxCount := 1, subCount := 1, ty := .f32, access := .ro, dflt := [.f32 0x00000000], rng := [(0, 1200)] }
/-- StringSoH (5030.03), chapter 10: F32, RO. -/
def Obj.stringSoH : ObjDef := { index := 0x5030, sub := 0x03, idxCount := 1, subCount := 1, ty := .f32, access := .ro, dflt := [.f32 0x00000000], rng := [(0, 200)] }
/-- StringCapMin (5030.04), chapter 10: F32, RO. -/
def Obj.stringCapMin : ObjDef := { index := 0x5030, sub := 0x04, idxCount := 1, subCount := 1, ty := .f32, access := .ro, dflt := [.f32 0x00000000], rng := [(0, (13107 / 20))] }
/-- EnergyDischarge (5030.05), chapter 10: F32, RO. -/
def Obj.energyDischarge : ObjDef := { index := 0x5030, sub := 0x05, idxCount := 1, subCount := 1, ty := .f32, access := .ro, dflt := [.f32 0x00000000], rng := [(0, 2000)] }
/-- EnergyCharge (5030.06), chapter 10: F32, RO. -/
def Obj.energyCharge : ObjDef := { index := 0x5030, sub := 0x06, idxCount := 1, subCount := 1, ty := .f32, access := .ro, dflt := [.f32 0x00000000], rng := [(0, 2000)] }
/-- StringEstValid (5030.07), chapter 10: BOOL, RO. -/
def Obj.stringEstValid : ObjDef := { index := 0x5030, sub := 0x07, idxCount := 1, subCount := 1, ty := .bool, access := .ro, dflt := [.nat 0], rng := [(0, 1)] }
/-- LoopLoad (6000.01), chapter 11: F32, RO. -/
def Obj.loopLoad : ObjDef := { index := 0x6000, sub := 0x01, idxCount := 1, subCount := 1, ty := .f32, access := .ro, dflt := [.f32 0x00000000], rng := [(0, (1 / 2))] }
/-- LoopEnable (6010.01 to 601F.01), chapter 11: BOOL, RW. -/
def Obj.loopEnable : ObjDef := { index := 0x6010, sub := 0x01, idxCount := 16, subCount := 1, ty := .bool, access := .rw, dflt := [.nat 0], rng := [(0, 1)] }
/-- RateDivisor (6010.02 to 601F.02), chapter 11: U32, RW. -/
def Obj.rateDivisor : ObjDef := { index := 0x6010, sub := 0x02, idxCount := 16, subCount := 1, ty := .u32, access := .rw, dflt := [.nat 100000], rng := [(2, 100000)] }
/-- BankA (6010.03 to 601F.03), chapter 11: DOMAIN, RW. -/
def Obj.bankA : ObjDef := { index := 0x6010, sub := 0x03, idxCount := 16, subCount := 1, ty := (.domain 1000), access := .rw, dflt := [.bytes []], rng := [] }
/-- BankB (6010.04 to 601F.04), chapter 11: DOMAIN, RW. -/
def Obj.bankB : ObjDef := { index := 0x6010, sub := 0x04, idxCount := 16, subCount := 1, ty := (.domain 1000), access := .rw, dflt := [.bytes []], rng := [] }
/-- BankRequest (6010.05 to 601F.05), chapter 11: U8, RW. -/
def Obj.bankRequest : ObjDef := { index := 0x6010, sub := 0x05, idxCount := 16, subCount := 1, ty := .u8, access := .rw, dflt := [.nat 0], rng := [(0, 1)] }
/-- BankActive (6010.06 to 601F.06), chapter 11: U8, RO. -/
def Obj.bankActive : ObjDef := { index := 0x6010, sub := 0x06, idxCount := 16, subCount := 1, ty := .u8, access := .ro, dflt := [.nat 0], rng := [(0, 1)] }
/-- SwapCount (6010.07 to 601F.07), chapter 11: U16, RO. -/
def Obj.swapCount : ObjDef := { index := 0x6010, sub := 0x07, idxCount := 16, subCount := 1, ty := .u16, access := .ro, dflt := [.nat 0], rng := [(0, 65535)] }
/-- InputBind (6010.08 to 601F.08), chapter 11: DOMAIN, RW. -/
def Obj.inputBind : ObjDef := { index := 0x6010, sub := 0x08, idxCount := 16, subCount := 1, ty := (.domain 16), access := .rw, dflt := [.bytes []], rng := [] }
/-- OutputBind (6010.09 to 601F.09), chapter 11: DOMAIN, RW. -/
def Obj.outputBind : ObjDef := { index := 0x6010, sub := 0x09, idxCount := 16, subCount := 1, ty := (.domain 16), access := .rw, dflt := [.bytes []], rng := [] }
/-- Setpoint (6010.0A to 601F.0D), chapter 11: F32, RW. -/
def Obj.setpoint : ObjDef := { index := 0x6010, sub := 0x0A, idxCount := 16, subCount := 4, ty := .f32, access := .rw, dflt := [.f32 0x00000000], rng := [] }
/-- LoopOutput (6010.0E to 601F.11), chapter 11: F32, RO. -/
def Obj.loopOutput : ObjDef := { index := 0x6010, sub := 0x0E, idxCount := 16, subCount := 4, ty := .f32, access := .ro, dflt := [.f32 0x00000000], rng := [] }
/-- RampConfig (6010.12 to 601F.15), chapter 11: DOMAIN, RW. -/
def Obj.rampConfig : ObjDef := { index := 0x6010, sub := 0x12, idxCount := 16, subCount := 4, ty := (.domain 20), access := .rw, dflt := [.bytes [202, 242, 73, 241, 202, 242, 73, 113, 0, 0, 0, 0, 0, 0, 0, 0, 0, 0, 0, 0]], rng := [] }
/-- FailOutput (6010.16 to 601F.16), chapter 11: DOMAIN, RW. -/
def Obj.failOutput : ObjDef := { index := 0x6010, sub := 0x16, idxCount := 16, subCount := 1, ty := (.domain 16), access := .rw, dflt := [.bytes []], rng := [] }
/-- LoopState (6010.17 to 601F.17), chapter 11: DOMAIN, RO. -/
def Obj.loopState : ObjDef := { index := 0x6010, sub := 0x17, idxCount := 16, subCount := 1, ty := (.domain 32), access := .ro, dflt := [.bytes []], rng := [] }
/-- LoopStatus (6010.18 to 601F.18), chapter 11: U16, RO. -/
def Obj.loopStatus : ObjDef := { index := 0x6010, sub := 0x18, idxCount := 16, subCount := 1, ty := .u16, access := .ro, dflt := [.nat 0], rng := [] }
/-- ThermalMode (6100.01), chapter 11: U8, RWP. -/
def Obj.thermalMode : ObjDef := { index := 0x6100, sub := 0x01, idxCount := 1, subCount := 1, ty := .u8, access := .rwp, dflt := [.nat 1], rng := [(0, 3)] }
/-- ThermalCoreSetpoint (6100.02), chapter 11: F32, RWP. -/
def Obj.thermalCoreSetpoint : ObjDef := { index := 0x6100, sub := 0x02, idxCount := 1, subCount := 1, ty := .f32, access := .rwp, dflt := [.f32 0x420C0000], rng := [(15, 50)] }
/-- ThermalCoreAlarm (6100.03), chapter 11: F32, RWP. -/
def Obj.thermalCoreAlarm : ObjDef := { index := 0x6100, sub := 0x03, idxCount := 1, subCount := 1, ty := .f32, access := .rwp, dflt := [.f32 0x425C0000], rng := [(30, 80)] }
/-- CoolantRefNtc (6100.04), chapter 11: U8, RWP. -/
def Obj.coolantRefNtc : ObjDef := { index := 0x6100, sub := 0x04, idxCount := 1, subCount := 1, ty := .u8, access := .rwp, dflt := [.nat 0], rng := [(0, 16)] }
/-- ThermalActuators (6100.05), chapter 11: U8, RWP. -/
def Obj.thermalActuators : ObjDef := { index := 0x6100, sub := 0x05, idxCount := 1, subCount := 1, ty := .u8, access := .rwp, dflt := [.nat 3], rng := [(0, 7)] }
/-- ThermalManualDemand (6100.06), chapter 11: F32, RWP. -/
def Obj.thermalManualDemand : ObjDef := { index := 0x6100, sub := 0x06, idxCount := 1, subCount := 1, ty := .f32, access := .rwp, dflt := [.f32 0x41F00000], rng := [(0, 100)] }
/-- ThermalFlowSource (6100.07), chapter 11: U8, RWP. -/
def Obj.thermalFlowSource : ObjDef := { index := 0x6100, sub := 0x07, idxCount := 1, subCount := 1, ty := .u8, access := .rwp, dflt := [.nat 0], rng := [(0, 2)] }
/-- ThermalFlowSent (6100.08), chapter 11: U8, RWP. -/
def Obj.thermalFlowSent : ObjDef := { index := 0x6100, sub := 0x08, idxCount := 1, subCount := 1, ty := .u8, access := .rwp, dflt := [.nat 1], rng := [(1, 8)] }
/-- PackHeat (6100.09), chapter 11: F32, RO. -/
def Obj.packHeat : ObjDef := { index := 0x6100, sub := 0x09, idxCount := 1, subCount := 1, ty := .f32, access := .ro, dflt := [.f32 0x00000000], rng := [(0, 10000)] }
/-- CoolingDemand (6100.0A), chapter 11: F32, RO. -/
def Obj.coolingDemand : ObjDef := { index := 0x6100, sub := 0x0A, idxCount := 1, subCount := 1, ty := .f32, access := .ro, dflt := [.f32 0x00000000], rng := [(0, 100)] }
/-- CoolingStatus (6100.0F), chapter 11: U16, RO. -/
def Obj.coolingStatus : ObjDef := { index := 0x6100, sub := 0x0F, idxCount := 1, subCount := 1, ty := .u16, access := .ro, dflt := [.nat 0], rng := [] }
/-- ThermalZoneMap (6101.01 to 6101.10), chapter 11: U8, RWP. -/
def Obj.thermalZoneMap : ObjDef := { index := 0x6101, sub := 0x01, idxCount := 1, subCount := 16, ty := .u8, access := .rwp, dflt := [.nat 0], rng := [(0, 4)] }
/-- ZoneCoreTemp (6102.01 to 6102.04), chapter 11: F32, RO. -/
def Obj.zoneCoreTemp : ObjDef := { index := 0x6102, sub := 0x01, idxCount := 1, subCount := 4, ty := .f32, access := .ro, dflt := [.f32 0x00000000], rng := [((-50), 150)] }
/-- ZoneSurfaceTemp (6102.05 to 6102.08), chapter 11: F32, RO. -/
def Obj.zoneSurfaceTemp : ObjDef := { index := 0x6102, sub := 0x05, idxCount := 1, subCount := 4, ty := .f32, access := .ro, dflt := [.f32 0x00000000], rng := [((-50), 150)] }
/-- CoolantRefTemp (6102.09), chapter 11: F32, RO. -/
def Obj.coolantRefTemp : ObjDef := { index := 0x6102, sub := 0x09, idxCount := 1, subCount := 1, ty := .f32, access := .ro, dflt := [.f32 0x00000000], rng := [((-50), 150)] }
/-- FanPwmFreq (6200.01), chapter 11: U32, RWP. -/
def Obj.fanPwmFreq : ObjDef := { index := 0x6200, sub := 0x01, idxCount := 1, subCount := 1, ty := .u32, access := .rwp, dflt := [.nat 25000], rng := [(1000, 30000)] }
/-- FanMinDuty (6200.02), chapter 11: F32, RWP. -/
def Obj.fanMinDuty : ObjDef := { index := 0x6200, sub := 0x02, idxCount := 1, subCount := 1, ty := .f32, access := .rwp, dflt := [.f32 0x41A00000], rng := [(0, 100)] }
/-- FanRatedSpeed (6200.03), chapter 11: U16, RWP. -/
def Obj.fanRatedSpeed : ObjDef := { index := 0x6200, sub := 0x03, idxCount := 1, subCount := 1, ty := .u16, access := .rwp, dflt := [.nat 3000], rng := [(100, 20000)] }
/-- TachPulses (6200.04), chapter 11: U8, RWP. -/
def Obj.tachPulses : ObjDef := { index := 0x6200, sub := 0x04, idxCount := 1, subCount := 1, ty := .u8, access := .rwp, dflt := [.nat 2], rng := [(1, 4)] }
/-- FanDuty (6200.05, 6200.06), chapter 11: F32, RO. -/
def Obj.fanDuty : ObjDef := { index := 0x6200, sub := 0x05, idxCount := 1, subCount := 2, ty := .f32, access := .ro, dflt := [.f32 0x00000000], rng := [(0, 100)] }
/-- FanSpeed (6200.07, 6200.08), chapter 11: F32, RO. -/
def Obj.fanSpeed : ObjDef := { index := 0x6200, sub := 0x07, idxCount := 1, subCount := 2, ty := .f32, access := .ro, dflt := [.f32 0x00000000], rng := [(0, 60000)] }
/-- ValveZeroMode (6210.01), chapter 11: U8, RWP. -/
def Obj.valveZeroMode : ObjDef := { index := 0x6210, sub := 0x01, idxCount := 1, subCount := 1, ty := .u8, access := .rwp, dflt := [.nat 0], rng := [(0, 1)] }
/-- ValveCommand (6210.02), chapter 11: F32, RO. -/
def Obj.valveCommand : ObjDef := { index := 0x6210, sub := 0x02, idxCount := 1, subCount := 1, ty := .f32, access := .ro, dflt := [.f32 0x00000000], rng := [(0, 20)] }
/-- ValveReadback (6210.03), chapter 11: F32, RO. -/
def Obj.valveReadback : ObjDef := { index := 0x6210, sub := 0x03, idxCount := 1, subCount := 1, ty := .f32, access := .ro, dflt := [.f32 0x00000000], rng := [(0, 25)] }
/-- BusVoltageSetpoint (6300.01), chapter 11: F32, RO. -/
def Obj.busVoltageSetpoint : ObjDef := { index := 0x6300, sub := 0x01, idxCount := 1, subCount := 1, ty := .f32, access := .ro, dflt := [.f32 0x41400000], rng := [(12, 12)] }
/-- RingState (7000.01), chapter 12: U8, RO. -/
def Obj.ringState : ObjDef := { index := 0x7000, sub := 0x01, idxCount := 1, subCount := 1, ty := .u8, access := .ro, dflt := [.nat 0], rng := [(0, 2)] }
/-- OwnSquare (7000.02), chapter 12: I8, RO. -/
def Obj.ownSquare : ObjDef := { index := 0x7000, sub := 0x02, idxCount := 1, subCount := 1, ty := .i8, access := .ro, dflt := [.int 0], rng := [((-33), 33)] }
/-- RingMembers (7000.03), chapter 12: U8, RO. -/
def Obj.ringMembers : ObjDef := { index := 0x7000, sub := 0x03, idxCount := 1, subCount := 1, ty := .u8, access := .ro, dflt := [.nat 0], rng := [(0, 34)] }
/-- TurnAt (7000.04), chapter 12: U8, RO. -/
def Obj.turnAt : ObjDef := { index := 0x7000, sub := 0x04, idxCount := 1, subCount := 1, ty := .u8, access := .ro, dflt := [.nat 255], rng := [(0, 33), (255, 255)] }
/-- CensusNumber (7000.05), chapter 12: U16, RO. -/
def Obj.censusNumber : ObjDef := { index := 0x7000, sub := 0x05, idxCount := 1, subCount := 1, ty := .u16, access := .ro, dflt := [.nat 0], rng := [(0, 65535)] }
/-- CensusFailures (7000.06), chapter 12: U16, RO. -/
def Obj.censusFailures : ObjDef := { index := 0x7000, sub := 0x06, idxCount := 1, subCount := 1, ty := .u16, access := .ro, dflt := [.nat 0], rng := [(0, 65535)] }
/-- RingStatus (7000.07), chapter 12: U16, RO. -/
def Obj.ringStatus : ObjDef := { index := 0x7000, sub := 0x07, idxCount := 1, subCount := 1, ty := .u16, access := .ro, dflt := [.nat 0], rng := [] }
/-- WrapDrops (7000.08), chapter 12: U32, RO. -/
def Obj.wrapDrops : ObjDef := { index := 0x7000, sub := 0x08, idxCount := 1, subCount := 1, ty := .u32, access := .ro, dflt := [.nat 0], rng := [] }
/-- CensusRequest (7000.09), chapter 12: U8, WO. -/
def Obj.censusRequest : ObjDef := { index := 0x7000, sub := 0x09, idxCount := 1, subCount := 1, ty := .u8, access := .wo, dflt := [.nat 0], rng := [(1, 1)] }
/-- StreamWideband (7001.01), chapter 12: BOOL, RWP. -/
def Obj.streamWideband : ObjDef := { index := 0x7001, sub := 0x01, idxCount := 1, subCount := 1, ty := .bool, access := .rwp, dflt := [.nat 1], rng := [(0, 1)] }
/-- StreamStandard (7001.02), chapter 12: BOOL, RWP. -/
def Obj.streamStandard : ObjDef := { index := 0x7001, sub := 0x02, idxCount := 1, subCount := 1, ty := .bool, access := .rwp, dflt := [.nat 0], rng := [(0, 1)] }
/-- UnwrapHoldoff (7001.03), chapter 12: U16, RW. -/
def Obj.unwrapHoldoff : ObjDef := { index := 0x7001, sub := 0x03, idxCount := 1, subCount := 1, ty := .u16, access := .rw, dflt := [.nat 100], rng := [(10, 10000)] }
/-- HeaderErrorLimit (7001.04), chapter 12: U16, RW. -/
def Obj.headerErrorLimit : ObjDef := { index := 0x7001, sub := 0x04, idxCount := 1, subCount := 1, ty := .u16, access := .rw, dflt := [.nat 16], rng := [(1, 1000)] }
/-- PortState (7002.01), chapter 12: U8, RO. -/
def Obj.portState : ObjDef := { index := 0x7002, sub := 0x01, idxCount := 2, subCount := 1, ty := .u8, access := .ro, dflt := [.nat 0], rng := [(0, 4)] }
/-- RxPower (7002.02), chapter 12: F32, RO. -/
def Obj.rxPower : ObjDef := { index := 0x7002, sub := 0x02, idxCount := 2, subCount := 1, ty := .f32, access := .ro, dflt := [.f32 0xC2200000], rng := [((-40), 3)] }
/-- CrcErrors (7002.03), chapter 12: U32, RO. -/
def Obj.crcErrors : ObjDef := { index := 0x7002, sub := 0x03, idxCount := 2, subCount := 1, ty := .u32, access := .ro, dflt := [.nat 0], rng := [] }
/-- HeaderErrors (7002.04), chapter 12: U32, RO. -/
def Obj.headerErrors : ObjDef := { index := 0x7002, sub := 0x04, idxCount := 2, subCount := 1, ty := .u32, access := .ro, dflt := [.nat 0], rng := [] }
/-- StompedSlots (7002.05), chapter 12: U32, RO. -/
def Obj.stompedSlots : ObjDef := { index := 0x7002, sub := 0x05, idxCount := 2, subCount := 1, ty := .u32, access := .ro, dflt := [.nat 0], rng := [] }
/-- PortDowns (7002.06), chapter 12: U16, RO. -/
def Obj.portDowns : ObjDef := { index := 0x7002, sub := 0x06, idxCount := 2, subCount := 1, ty := .u16, access := .ro, dflt := [.nat 0], rng := [(0, 65535)] }
/-- LinkDelay (7002.07), chapter 12: F32, RO. -/
def Obj.linkDelay : ObjDef := { index := 0x7002, sub := 0x07, idxCount := 2, subCount := 1, ty := .f32, access := .ro, dflt := [.f32 0x00000000], rng := [(0, 5000)] }
/-- TokenAlloc (7004.01 to 7004.08), chapter 12: U8, RO. -/
def Obj.tokenAlloc : ObjDef := { index := 0x7004, sub := 0x01, idxCount := 1, subCount := 8, ty := .u8, access := .ro, dflt := [.nat 8, .nat 16, .nat 16, .nat 32, .nat 96, .nat 32, .nat 32, .nat 24], rng := [] }
/-- TokensEast (7005.01 to 7005.08), chapter 12: U8, RO. -/
def Obj.tokensEast : ObjDef := { index := 0x7005, sub := 0x01, idxCount := 1, subCount := 8, ty := .u8, access := .ro, dflt := [.nat 0], rng := [(0, 96)] }
/-- TokensWest (7006.01 to 7006.08), chapter 12: U8, RO. -/
def Obj.tokensWest : ObjDef := { index := 0x7006, sub := 0x01, idxCount := 1, subCount := 8, ty := .u8, access := .ro, dflt := [.nat 0], rng := [(0, 96)] }
/-- QueueSize (7100.01 to 713F.01), chapter 12: U16, RW. -/
def Obj.queueSize : ObjDef := { index := 0x7100, sub := 0x01, idxCount := 64, subCount := 1, ty := .u16, access := .rw, dflt := [.nat 64], rng := [(16, 1024)] }
/-- QueueFree (7100.02 to 713F.02), chapter 12: U16, RO. -/
def Obj.queueFree : ObjDef := { index := 0x7100, sub := 0x02, idxCount := 64, subCount := 1, ty := .u16, access := .ro, dflt := [.nat 64], rng := [(0, 1024)] }
/-- QueueFilled (7100.03 to 713F.03), chapter 12: U16, RO. -/
def Obj.queueFilled : ObjDef := { index := 0x7100, sub := 0x03, idxCount := 64, subCount := 1, ty := .u16, access := .ro, dflt := [.nat 0], rng := [(0, 1024)] }
/-- QueueInTransfer (7100.04 to 713F.04), chapter 12: U16, RO. -/
def Obj.queueInTransfer : ObjDef := { index := 0x7100, sub := 0x04, idxCount := 64, subCount := 1, ty := .u16, access := .ro, dflt := [.nat 0], rng := [(0, 1024)] }
/-- QueueDrops (7100.05 to 713F.05), chapter 12: U32, RO. -/
def Obj.queueDrops : ObjDef := { index := 0x7100, sub := 0x05, idxCount := 64, subCount := 1, ty := .u32, access := .ro, dflt := [.nat 0], rng := [] }
/-- QueueBinding (7100.06 to 713F.06), chapter 12: U8, RO. -/
def Obj.queueBinding : ObjDef := { index := 0x7100, sub := 0x06, idxCount := 64, subCount := 1, ty := .u8, access := .ro, dflt := [.nat 0], rng := [] }
/-- NominalRate (1100.01), chapter 13: U8, RWP. -/
def Obj.nominalRate : ObjDef := { index := 0x1100, sub := 0x01, idxCount := 2, subCount := 1, ty := .u8, access := .rwp, dflt := [.nat 2], rng := [(0, 3)] }
/-- DataRate (1100.02), chapter 13: U8, RWP. -/
def Obj.dataRate : ObjDef := { index := 0x1100, sub := 0x02, idxCount := 2, subCount := 1, ty := .u8, access := .rwp, dflt := [.nat 1], rng := [(0, 4)] }
/-- TripleSample (1100.03), chapter 13: BOOL, RWP. -/
def Obj.tripleSample : ObjDef := { index := 0x1100, sub := 0x03, idxCount := 2, subCount := 1, ty := .bool, access := .rwp, dflt := [.nat 0], rng := [(0, 1)] }
/-- BusOffHoldoff (1100.04), chapter 13: U16, RWP. -/
def Obj.busOffHoldoff : ObjDef := { index := 0x1100, sub := 0x04, idxCount := 2, subCount := 1, ty := .u16, access := .rwp, dflt := [.nat 1000], rng := [(0, 0), (100, 60000)] }
/-- BusEnable (1100.05), chapter 13: BOOL, RWP. -/
def Obj.busEnable : ObjDef := { index := 0x1100, sub := 0x05, idxCount := 2, subCount := 1, ty := .bool, access := .rwp, dflt := [.nat 1], rng := [(0, 1)] }
/-- BusRecover (1100.06), chapter 13: U8, WO. -/
def Obj.busRecover : ObjDef := { index := 0x1100, sub := 0x06, idxCount := 2, subCount := 1, ty := .u8, access := .wo, dflt := [.nat 0], rng := [(1, 1)] }
/-- BusState (1100.07), chapter 13: U8, RO. -/
def Obj.busState : ObjDef := { index := 0x1100, sub := 0x07, idxCount := 2, subCount := 1, ty := .u8, access := .ro, dflt := [.nat 0], rng := [(0, 6)] }
/-- Tec (1100.08), chapter 13: U16, RO. -/
def Obj.tec : ObjDef := { index := 0x1100, sub := 0x08, idxCount := 2, subCount := 1, ty := .u16, access := .ro, dflt := [.nat 0], rng := [(0, 256)] }
/-- Rec (1100.09), chapter 13: U8, RO. -/
def Obj.rec : ObjDef := { index := 0x1100, sub := 0x09, idxCount := 2, subCount := 1, ty := .u8, access := .ro, dflt := [.nat 0], rng := [(0, 255)] }
/-- BusOffCount (1100.0A), chapter 13: U16, RO. -/
def Obj.busOffCount : ObjDef := { index := 0x1100, sub := 0x0A, idxCount := 2, subCount := 1, ty := .u16, access := .ro, dflt := [.nat 0], rng := [(0, 65535)] }
/-- ErrorFrames (1100.0B), chapter 13: U32, RO. -/
def Obj.errorFrames : ObjDef := { index := 0x1100, sub := 0x0B, idxCount := 2, subCount := 1, ty := .u32, access := .ro, dflt := [.nat 0], rng := [] }
/-- AckErrors (1100.0C), chapter 13: U32, RO. -/
def Obj.ackErrors : ObjDef := { index := 0x1100, sub := 0x0C, idxCount := 2, subCount := 1, ty := .u32, access := .ro, dflt := [.nat 0], rng := [] }
/-- TxDiscarded (1100.0D), chapter 13: U32, RO. -/
def Obj.txDiscarded : ObjDef := { index := 0x1100, sub := 0x0D, idxCount := 2, subCount := 1, ty := .u32, access := .ro, dflt := [.nat 0], rng := [] }
/-- RxOverruns (1100.0E), chapter 13: U32, RO. -/
def Obj.rxOverruns : ObjDef := { index := 0x1100, sub := 0x0E, idxCount := 2, subCount := 1, ty := .u32, access := .ro, dflt := [.nat 0], rng := [] }
/-- BusStatus (1100.0F), chapter 13: U16, RO. -/
def Obj.busStatus : ObjDef := { index := 0x1100, sub := 0x0F, idxCount := 2, subCount := 1, ty := .u16, access := .ro, dflt := [.nat 0], rng := [] }
/-- TdcValue (1100.10), chapter 13: U8, RO. -/
def Obj.tdcValue : ObjDef := { index := 0x1100, sub := 0x10, idxCount := 2, subCount := 1, ty := .u8, access := .ro, dflt := [.nat 0], rng := [(0, 255)] }
/-- BusLoad (1100.11), chapter 13: F32, RO. -/
def Obj.busLoad : ObjDef := { index := 0x1100, sub := 0x11, idxCount := 2, subCount := 1, ty := .f32, access := .ro, dflt := [.f32 0x00000000], rng := [(0, 100)] }
/-- VoteRejects (1102.01), chapter 13: U32, RO. -/
def Obj.voteRejects : ObjDef := { index := 0x1102, sub := 0x01, idxCount := 1, subCount := 1, ty := .u32, access := .ro, dflt := [.nat 0], rng := [] }
/-- NodeIdConflicts (1102.02), chapter 13: U16, RO. -/
def Obj.nodeIdConflicts : ObjDef := { index := 0x1102, sub := 0x02, idxCount := 1, subCount := 1, ty := .u16, access := .ro, dflt := [.nat 0], rng := [(0, 65535)] }
/-- VendorName (1000.01), chapter 14: STR, RO. -/
def Obj.vendorName : ObjDef := { index := 0x1000, sub := 0x01, idxCount := 1, subCount := 1, ty := .str, access := .ro, dflt := [.bytes [83, 105, 108, 117, 110, 101]], rng := [] }
/-- ProductName (1000.02), chapter 14: STR, RO. -/
def Obj.productName : ObjDef := { index := 0x1000, sub := 0x02, idxCount := 1, subCount := 1, ty := .str, access := .ro, dflt := [.bytes [86, 88, 75, 45, 83, 50, 52, 65]], rng := [] }
/-- SerialNumber (1000.03), chapter 14: U64, RO. -/
def Obj.serialNumber : ObjDef := { index := 0x1000, sub := 0x03, idxCount := 1, subCount := 1, ty := .u64, access := .ro, dflt := [.nat 0], rng := [] }
/-- HardwareIssue (1000.04), chapter 14: U16, RO. -/
def Obj.hardwareIssue : ObjDef := { index := 0x1000, sub := 0x04, idxCount := 1, subCount := 1, ty := .u16, access := .ro, dflt := [.nat 0], rng := [] }
/-- ManufactureDate (1000.05), chapter 14: U32, RO. -/
def Obj.manufactureDate : ObjDef := { index := 0x1000, sub := 0x05, idxCount := 1, subCount := 1, ty := .u32, access := .ro, dflt := [.nat 0], rng := [] }
/-- FirmwareVersion (1000.06), chapter 14: U32, RO. -/
def Obj.firmwareVersion : ObjDef := { index := 0x1000, sub := 0x06, idxCount := 1, subCount := 1, ty := .u32, access := .ro, dflt := [.nat 0], rng := [] }
/-- ActiveSlot (1000.07), chapter 14: U8, RO. -/
def Obj.activeSlot : ObjDef := { index := 0x1000, sub := 0x07, idxCount := 1, subCount := 1, ty := .u8, access := .ro, dflt := [.nat 0], rng := [(0, 1)] }
/-- DictionaryVersion (1000.08), chapter 14: U16, RO. -/
def Obj.dictionaryVersion : ObjDef := { index := 0x1000, sub := 0x08, idxCount := 1, subCount := 1, ty := .u16, access := .ro, dflt := [.nat 0], rng := [] }
/-- PackLabel (1000.09), chapter 14: STR, RWP. -/
def Obj.packLabel : ObjDef := { index := 0x1000, sub := 0x09, idxCount := 1, subCount := 1, ty := .str, access := .rwp, dflt := [.bytes []], rng := [] }
/-- PxRequests (1001.01), chapter 14: U32, RO. -/
def Obj.pxRequests : ObjDef := { index := 0x1001, sub := 0x01, idxCount := 1, subCount := 1, ty := .u32, access := .ro, dflt := [.nat 0], rng := [] }
/-- PxErrors (1001.02), chapter 14: U32, RO. -/
def Obj.pxErrors : ObjDef := { index := 0x1001, sub := 0x02, idxCount := 1, subCount := 1, ty := .u32, access := .ro, dflt := [.nat 0], rng := [] }
/-- PxDuplicates (1001.03), chapter 14: U32, RO. -/
def Obj.pxDuplicates : ObjDef := { index := 0x1001, sub := 0x03, idxCount := 1, subCount := 1, ty := .u32, access := .ro, dflt := [.nat 0], rng := [] }
/-- PxBlockActive (1001.04), chapter 14: U8, RO. -/
def Obj.pxBlockActive : ObjDef := { index := 0x1001, sub := 0x04, idxCount := 1, subCount := 1, ty := .u8, access := .ro, dflt := [.nat 0], rng := [(0, 4)] }
/-- PxBlockAborts (1001.05), chapter 14: U32, RO. -/
def Obj.pxBlockAborts : ObjDef := { index := 0x1001, sub := 0x05, idxCount := 1, subCount := 1, ty := .u32, access := .ro, dflt := [.nat 0], rng := [] }
/-- PxQueueFull (1001.06), chapter 14: U32, RO. -/
def Obj.pxQueueFull : ObjDef := { index := 0x1001, sub := 0x06, idxCount := 1, subCount := 1, ty := .u32, access := .ro, dflt := [.nat 0], rng := [] }
/-- PxLastError (1001.07), chapter 14: U32, RO. -/
def Obj.pxLastError : ObjDef := { index := 0x1001, sub := 0x07, idxCount := 1, subCount := 1, ty := .u32, access := .ro, dflt := [.nat 0], rng := [] }
/-- PubArea (2F00.01), chapter 14: DOMAIN, RO. -/
def Obj.pubArea : ObjDef := { index := 0x2F00, sub := 0x01, idxCount := 1, subCount := 1, ty := (.domain 276), access := .ro, dflt := [.bytes []], rng := [] }
/-- PointLimits (2F10.01 to 2F10.40), chapter 14: DOMAIN, RWP. -/
def Obj.pointLimits : ObjDef := { index := 0x2F10, sub := 0x01, idxCount := 1, subCount := 64, ty := (.domain 8), access := .rwp, dflt := [.bytes [202, 242, 73, 241, 202, 242, 73, 113]], rng := [] }
/-- PointEntry (4100.01 to 411F.40), chapter 14: DOMAIN, RO. -/
def Obj.pointEntry : ObjDef := { index := 0x4100, sub := 0x01, idxCount := 32, subCount := 64, ty := (.domain 32), access := .ro, dflt := [.bytes []], rng := [] }
/-- HeadPubCopy (4140.01 to 415F.01), chapter 14: DOMAIN, RO. -/
def Obj.headPubCopy : ObjDef := { index := 0x4140, sub := 0x01, idxCount := 32, subCount := 1, ty := (.domain 276), access := .ro, dflt := [.bytes []], rng := [] }
/-- ChangeLog (9200.01), chapter 14: DOMAIN, RO. -/
def Obj.changeLog : ObjDef := { index := 0x9200, sub := 0x01, idxCount := 1, subCount := 1, ty := (.domain 163840), access := .ro, dflt := [.bytes []], rng := [] }
/-- ChangeLogNewest (9200.02), chapter 14: U32, RO. -/
def Obj.changeLogNewest : ObjDef := { index := 0x9200, sub := 0x02, idxCount := 1, subCount := 1, ty := .u32, access := .ro, dflt := [.nat 0], rng := [] }
/-- ChangeLogPackCopied (9200.03), chapter 14: U32, RO. -/
def Obj.changeLogPackCopied : ObjDef := { index := 0x9200, sub := 0x03, idxCount := 1, subCount := 1, ty := .u32, access := .ro, dflt := [.nat 0], rng := [] }
/-- HandoverCommand (4050.01), chapter 15: U8, RWA Engineer. -/
def Obj.handoverCommand : ObjDef := { index := 0x4050, sub := 0x01, idxCount := 1, subCount := 1, ty := .u8, access := (.rwa .engineer), dflt := [.nat 0], rng := [(90, 90)] }
/-- CkptGenSent (4050.02), chapter 15: U32, RO. -/
def Obj.ckptGenSent : ObjDef := { index := 0x4050, sub := 0x02, idxCount := 1, subCount := 1, ty := .u32, access := .ro, dflt := [.nat 0], rng := [] }
/-- CkptGenAcked (4050.03), chapter 15: U32, RO. -/
def Obj.ckptGenAcked : ObjDef := { index := 0x4050, sub := 0x03, idxCount := 1, subCount := 1, ty := .u32, access := .ro, dflt := [.nat 0], rng := [] }
/-- CkptGenAccepted (4050.04), chapter 15: U32, RO. -/
def Obj.ckptGenAccepted : ObjDef := { index := 0x4050, sub := 0x04, idxCount := 1, subCount := 1, ty := .u32, access := .ro, dflt := [.nat 0], rng := [] }
/-- CkptAge (4050.05), chapter 15: U32, RO. -/
def Obj.ckptAge : ObjDef := { index := 0x4050, sub := 0x05, idxCount := 1, subCount := 1, ty := .u32, access := .ro, dflt := [.nat 0], rng := [] }
/-- CkptLength (4050.06), chapter 15: U32, RO. -/
def Obj.ckptLength : ObjDef := { index := 0x4050, sub := 0x06, idxCount := 1, subCount := 1, ty := .u32, access := .ro, dflt := [.nat 1184], rng := [(1, 65536)] }
/-- Failovers (4050.07), chapter 15: U16, RO. -/
def Obj.failovers : ObjDef := { index := 0x4050, sub := 0x07, idxCount := 1, subCount := 1, ty := .u16, access := .ro, dflt := [.nat 0], rng := [(0, 65535)] }
/-- LastTakeover (4050.08), chapter 15: U64, RO. -/
def Obj.lastTakeover : ObjDef := { index := 0x4050, sub := 0x08, idxCount := 1, subCount := 1, ty := .u64, access := .ro, dflt := [.nat 0], rng := [] }
/-- TakeoverCause (4050.09), chapter 15: U8, RO. -/
def Obj.takeoverCause : ObjDef := { index := 0x4050, sub := 0x09, idxCount := 1, subCount := 1, ty := .u8, access := .ro, dflt := [.nat 0], rng := [(0, 5)] }
/-- TakeoverDuration (4050.0A), chapter 15: U16, RO. -/
def Obj.takeoverDuration : ObjDef := { index := 0x4050, sub := 0x0A, idxCount := 1, subCount := 1, ty := .u16, access := .ro, dflt := [.nat 0], rng := [(0, 65535)] }
/-- FirstMoveStatus (8000.01), chapter 15: U16, RO. -/
def Obj.firstMoveStatus : ObjDef := { index := 0x8000, sub := 0x01, idxCount := 1, subCount := 1, ty := .u16, access := .ro, dflt := [.nat 255], rng := [] }
/-- FirstMoveTime (8000.02), chapter 15: U64, RO. -/
def Obj.firstMoveTime : ObjDef := { index := 0x8000, sub := 0x02, idxCount := 1, subCount := 1, ty := .u64, access := .ro, dflt := [.nat 0], rng := [] }
/-- FirstMoveClear (8000.03), chapter 15: U8, RWA Operator. -/
def Obj.firstMoveClear : ObjDef := { index := 0x8000, sub := 0x03, idxCount := 1, subCount := 1, ty := .u8, access := (.rwa .operator), dflt := [.nat 0], rng := [(90, 90)] }
/-- FaultStatus (8000.04), chapter 15: U16, RO. -/
def Obj.faultStatus : ObjDef := { index := 0x8000, sub := 0x04, idxCount := 1, subCount := 1, ty := .u16, access := .ro, dflt := [.nat 7], rng := [] }
/-- FaultRaises (8000.05), chapter 15: U32, RO. -/
def Obj.faultRaises : ObjDef := { index := 0x8000, sub := 0x05, idxCount := 1, subCount := 1, ty := .u32, access := .ro, dflt := [.nat 0], rng := [] }
/-- FaultActive (8001.01 to 8001.05), chapter 15: U32, RO. -/
def Obj.faultActive : ObjDef := { index := 0x8001, sub := 0x01, idxCount := 1, subCount := 5, ty := .u32, access := .ro, dflt := [.nat 0], rng := [] }
/-- FaultPending (8002.01 to 8002.05), chapter 15: U32, RWA Operator. -/
def Obj.faultPending : ObjDef := { index := 0x8002, sub := 0x01, idxCount := 1, subCount := 5, ty := .u32, access := (.rwa .operator), dflt := [.nat 0], rng := [] }
/-- Severity (8010.01 to 8010.A0), chapter 15: U8, RWA Engineer. -/
def Obj.severity : ObjDef := { index := 0x8010, sub := 0x01, idxCount := 1, subCount := 160, ty := .u8, access := (.rwa .engineer), dflt := [.nat 4, .nat 2, .nat 3, .nat 3, .nat 3, .nat 2, .nat 0, .nat 3, .nat 3, .nat 4, .nat 1, .nat 1, .nat 1, .nat 1, .nat 1, .nat 1, .nat 3, .nat 1, .nat 1, .nat 1, .nat 1, .nat 0, .nat 0, .nat 0, .nat 1, .nat 2, .nat 1, .nat 1, .nat 1, .nat 3, .nat 4, .nat 1] ++ [.nat 2, .nat 1, .nat 0, .nat 0, .nat 1, .nat 2, .nat 1, .nat 2, .nat 2, .nat 1, .nat 2, .nat 2, .nat 2, .nat 2, .nat 1, .nat 1, .nat 3, .nat 1, .nat 0, .nat 0, .nat 0, .nat 0, .nat 0, .nat 0, .nat 1, .nat 2, .nat 2, .nat 2, .nat 2, .nat 1, .nat 0, .nat 0] ++ [.nat 1, .nat 2, .nat 2, .nat 2, .nat 1, .nat 1, .nat 1, .nat 3, .nat 2, .nat 1, .nat 2, .nat 3, .nat 0, .nat 0, .nat 0, .nat 0, .nat 1, .nat 1, .nat 1, .nat 1, .nat 0, .nat 1, .nat 2, .nat 1, .nat 1, .nat 1, .nat 1, .nat 0, .nat 0, .nat 0, .nat 0, .nat 0] ++ [.nat 2, .nat 1, .nat 1, .nat 1, .nat 2, .nat 1, .nat 2, .nat 0, .nat 2, .nat 2, .nat 2, .nat 1, .nat 0, .nat 0, .nat 0, .nat 0, .nat 1, .nat 1, .nat 1, .nat 1, .nat 1, .nat 1, .nat 1, .nat 1, .nat 1, .nat 0, .nat 0, .nat 0, .nat 0, .nat 0, .nat 0, .nat 0] ++ [.nat 2, .nat 2, .nat 1, .nat 1, .nat 2, .nat 1, .nat 1, .nat 1, .nat 0, .nat 0, .nat 0, .nat 0, .nat 0, .nat 0, .nat 0, .nat 0, .nat 2, .nat 3, .nat 1, .nat 2, .nat 1, .nat 3, .nat 1, .nat 1, .nat 1, .nat 0, .nat 0, .nat 0, .nat 0, .nat 0, .nat 0, .nat 0], rng := [] }
/-- MinSeverity (8011.01 to 8011.A0), chapter 15: U8, RO. -/
def Obj.minSeverity : ObjDef := { index := 0x8011, sub := 0x01, idxCount := 1, subCount := 160, ty := .u8, access := .ro, dflt := [.nat 4, .nat 2, .nat 3, .nat 3, .nat 3, .nat 2, .nat 0, .nat 3, .nat 3, .nat 3, .nat 0, .nat 1, .nat 1, .nat 0, .nat 0, .nat 1, .nat 3, .nat 1, .nat 1, .nat 1, .nat 0, .nat 0, .nat 0, .nat 0, .nat 1, .nat 1, .nat 1, .nat 0, .nat 1, .nat 3, .nat 4, .nat 1] ++ [.nat 1, .nat 1, .nat 0, .nat 0, .nat 1, .nat 2, .nat 1, .nat 2, .nat 2, .nat 0, .nat 2, .nat 1, .nat 1, .nat 2, .nat 0, .nat 0, .nat 3, .nat 1, .nat 0, .nat 0, .nat 0, .nat 0, .nat 0, .nat 0, .nat 0, .nat 1, .nat 1, .nat 2, .nat 2, .nat 0, .nat 0, .nat 0] ++ [.nat 1, .nat 1, .nat 1, .nat 1, .nat 0, .nat 1, .nat 1, .nat 3, .nat 2, .nat 1, .nat 1, .nat 2, .nat 0, .nat 0, .nat 0, .nat 0, .nat 0, .nat 1, .nat 0, .nat 1, .nat 0, .nat 0, .nat 1, .nat 0, .nat 0, .nat 0, .nat 0, .nat 0, .nat 0, .nat 0, .nat 0, .nat 0] ++ [.nat 1, .nat 0, .nat 1, .nat 0, .nat 2, .nat 0, .nat 1, .nat 0, .nat 1, .nat 1, .nat 2, .nat 1, .nat 0, .nat 0, .nat 0, .nat 0, .nat 0, .nat 0, .nat 0, .nat 0, .nat 0, .nat 0, .nat 0, .nat 0, .nat 0, .nat 0, .nat 0, .nat 0, .nat 0, .nat 0, .nat 0, .nat 0] ++ [.nat 2, .nat 2, .nat 0, .nat 0, .nat 1, .nat 0, .nat 1, .nat 1, .nat 0, .nat 0, .nat 0, .nat 0, .nat 0, .nat 0, .nat 0, .nat 0, .nat 2, .nat 2, .nat 0, .nat 1, .nat 0, .nat 3, .nat 0, .nat 1, .nat 1, .nat 0, .nat 0, .nat 0, .nat 0, .nat 0, .nat 0, .nat 0], rng := [(0, 4)] }
/-- RaiseCount (8012.01 to 8012.A0), chapter 15: U16, RO. -/
def Obj.raiseCount : ObjDef := { index := 0x8012, sub := 0x01, idxCount := 1, subCount := 160, ty := .u16, access := .ro, dflt := [.nat 0], rng := [(0, 65535)] }
/-- LaneState (8020.01 to 8020.03), chapter 15: U8, RO. -/
def Obj.laneState : ObjDef := { index := 0x8020, sub := 0x01, idxCount := 1, subCount := 3, ty := .u8, access := .ro, dflt := [.nat 0], rng := [(0, 3)] }
/-- LaneDisagreements (8020.04), chapter 15: U32, RO. -/
def Obj.laneDisagreements : ObjDef := { index := 0x8020, sub := 0x04, idxCount := 1, subCount := 1, ty := .u32, access := .ro, dflt := [.nat 0], rng := [] }
/-- LaneEccCorrected (8020.05), chapter 15: U32, RO. -/
def Obj.laneEccCorrected : ObjDef := { index := 0x8020, sub := 0x05, idxCount := 1, subCount := 1, ty := .u32, access := .ro, dflt := [.nat 0], rng := [] }
/-- NoMajorityEvents (8020.06), chapter 15: U16, RO. -/
def Obj.noMajorityEvents : ObjDef := { index := 0x8020, sub := 0x06, idxCount := 1, subCount := 1, ty := .u16, access := .ro, dflt := [.nat 0], rng := [(0, 65535)] }
/-- SentEnable (2801.01 to 2808.01), chapter 16: BOOL, RWP. -/
def Obj.sentEnable : ObjDef := { index := 0x2801, sub := 0x01, idxCount := 8, subCount := 1, ty := .bool, access := .rwp, dflt := [.nat 0], rng := [(0, 1)] }
/-- TickNominal (2801.02 to 2808.02), chapter 16: F32, RWP. -/
def Obj.tickNominal : ObjDef := { index := 0x2801, sub := 0x02, idxCount := 8, subCount := 1, ty := .f32, access := .rwp, dflt := [.f32 0x40400000], rng := [(3, 90)] }
/-- DataNibbles (2801.03 to 2808.03), chapter 16: U8, RWP. -/
def Obj.dataNibbles : ObjDef := { index := 0x2801, sub := 0x03, idxCount := 8, subCount := 1, ty := .u8, access := .rwp, dflt := [.nat 6], rng := [(1, 6)] }
/-- PauseMode (2801.04 to 2808.04), chapter 16: U8, RWP. -/
def Obj.pauseMode : ObjDef := { index := 0x2801, sub := 0x04, idxCount := 8, subCount := 1, ty := .u8, access := .rwp, dflt := [.nat 0], rng := [(0, 1)] }
/-- CrcVariant (2801.05 to 2808.05), chapter 16: U8, RWP. -/
def Obj.crcVariant : ObjDef := { index := 0x2801, sub := 0x05, idxCount := 8, subCount := 1, ty := .u8, access := .rwp, dflt := [.nat 1], rng := [(0, 1)] }
/-- SerialFormat (2801.06 to 2808.06), chapter 16: U8, RWP. -/
def Obj.serialFormat : ObjDef := { index := 0x2801, sub := 0x06, idxCount := 8, subCount := 1, ty := .u8, access := .rwp, dflt := [.nat 0], rng := [(0, 2)] }
/-- Fast1Bits (2801.07 to 2808.07), chapter 16: U8, RWP. -/
def Obj.fast1Bits : ObjDef := { index := 0x2801, sub := 0x07, idxCount := 8, subCount := 1, ty := .u8, access := .rwp, dflt := [.nat 12], rng := [(1, 24)] }
/-- Fast1Signed (2801.08 to 2808.08), chapter 16: BOOL, RWP. -/
def Obj.fast1Signed : ObjDef := { index := 0x2801, sub := 0x08, idxCount := 8, subCount := 1, ty := .bool, access := .rwp, dflt := [.nat 0], rng := [(0, 1)] }
/-- SentGain (2801.09 to 2808.09), chapter 16: F32, RWP. -/
def Obj.sentGain : ObjDef := { index := 0x2801, sub := 0x09, idxCount := 8, subCount := 1, ty := .f32, access := .rwp, dflt := [.f32 0x3F800000], rng := [] }
/-- SentOffset (2801.0A to 2808.0A), chapter 16: F32, RWP. -/
def Obj.sentOffset : ObjDef := { index := 0x2801, sub := 0x0A, idxCount := 8, subCount := 1, ty := .f32, access := .rwp, dflt := [.f32 0x00000000], rng := [] }
/-- SentLsb (2801.0B to 2808.0B), chapter 16: F32, RWP. -/
def Obj.sentLsb : ObjDef := { index := 0x2801, sub := 0x0B, idxCount := 8, subCount := 1, ty := .f32, access := .rwp, dflt := [.f32 0x3F800000], rng := [((1 / 1000000), 1000000)] }
/-- SentDiagMask (2801.0C to 2808.0C), chapter 16: U8, RWP. -/
def Obj.sentDiagMask : ObjDef := { index := 0x2801, sub := 0x0C, idxCount := 8, subCount := 1, ty := .u8, access := .rwp, dflt := [.nat 0], rng := [(0, 3)] }
/-- SentTimeout (2801.0D to 2808.0D), chapter 16: U16, RWP. -/
def Obj.sentTimeout : ObjDef := { index := 0x2801, sub := 0x0D, idxCount := 8, subCount := 1, ty := .u16, access := .rwp, dflt := [.nat 100], rng := [(1, 1000)] }
/-- SentWarmup (2801.0E to 2808.0E), chapter 16: U16, RWP. -/
def Obj.sentWarmup : ObjDef := { index := 0x2801, sub := 0x0E, idxCount := 8, subCount := 1, ty := .u16, access := .rwp, dflt := [.nat 100], rng := [(0, 5000)] }
/-- SentValue (2801.0F to 2808.0F), chapter 16: F32, RO. -/
def Obj.sentValue : ObjDef := { index := 0x2801, sub := 0x0F, idxCount := 8, subCount := 1, ty := .f32, access := .ro, dflt := [.f32 0x00000000], rng := [] }
/-- SentRawFast1 (2801.10 to 2808.10), chapter 16: U32, RO. -/
def Obj.sentRawFast1 : ObjDef := { index := 0x2801, sub := 0x10, idxCount := 8, subCount := 1, ty := .u32, access := .ro, dflt := [.nat 0], rng := [] }
/-- SentRawFast2 (2801.11 to 2808.11), chapter 16: U32, RO. -/
def Obj.sentRawFast2 : ObjDef := { index := 0x2801, sub := 0x11, idxCount := 8, subCount := 1, ty := .u32, access := .ro, dflt := [.nat 0], rng := [] }
/-- SentStatus (2801.12 to 2808.12), chapter 16: U16, RO. -/
def Obj.sentStatus : ObjDef := { index := 0x2801, sub := 0x12, idxCount := 8, subCount := 1, ty := .u16, access := .ro, dflt := [.nat 0], rng := [] }
/-- SentFramesOk (2801.13 to 2808.13), chapter 16: U32, RO. -/
def Obj.sentFramesOk : ObjDef := { index := 0x2801, sub := 0x13, idxCount := 8, subCount := 1, ty := .u32, access := .ro, dflt := [.nat 0], rng := [] }
/-- SentErrorCounts (2801.14 to 2808.14), chapter 16: DOMAIN, RO. -/
def Obj.sentErrorCounts : ObjDef := { index := 0x2801, sub := 0x14, idxCount := 8, subCount := 1, ty := (.domain 32), access := .ro, dflt := [.bytes []], rng := [] }
/-- SentSlowTable (2801.15 to 2808.15), chapter 16: DOMAIN, RO. -/
def Obj.sentSlowTable : ObjDef := { index := 0x2801, sub := 0x15, idxCount := 8, subCount := 1, ty := (.domain 1024), access := .ro, dflt := [.bytes []], rng := [] }
/-- SentSlowRestarts (2801.16 to 2808.16), chapter 16: U16, RO. -/
def Obj.sentSlowRestarts : ObjDef := { index := 0x2801, sub := 0x16, idxCount := 8, subCount := 1, ty := .u16, access := .ro, dflt := [.nat 0], rng := [(0, 65535)] }
/-- RecSeq (9000.01), chapter 17: U32, RO. -/
def Obj.recSeq : ObjDef := { index := 0x9000, sub := 0x01, idxCount := 1, subCount := 1, ty := .u32, access := .ro, dflt := [.nat 0], rng := [] }
/-- RecClear (9000.02), chapter 17: U8, RWA Engineer. -/
def Obj.recClear : ObjDef := { index := 0x9000, sub := 0x02, idxCount := 1, subCount := 1, ty := .u8, access := (.rwa .engineer), dflt := [.nat 0], rng := [(1, 15)] }
/-- RecStageTime (9000.03), chapter 17: U64, RO. -/
def Obj.recStageTime : ObjDef := { index := 0x9000, sub := 0x03, idxCount := 1, subCount := 1, ty := .u64, access := .ro, dflt := [.nat 0], rng := [] }
/-- RecStageDelays (9000.04), chapter 17: U32, RO. -/
def Obj.recStageDelays : ObjDef := { index := 0x9000, sub := 0x04, idxCount := 1, subCount := 1, ty := .u32, access := .ro, dflt := [.nat 0], rng := [] }
/-- VoltRangeLow (9010.01), chapter 17: F32, RWP. -/
def Obj.voltRangeLow : ObjDef := { index := 0x9010, sub := 0x01, idxCount := 1, subCount := 1, ty := .f32, access := .rwp, dflt := [.f32 0x40200000], rng := [(0, (49 / 10))] }
/-- VoltRangeHigh (9010.02), chapter 17: F32, RWP. -/
def Obj.voltRangeHigh : ObjDef := { index := 0x9010, sub := 0x02, idxCount := 1, subCount := 1, ty := .f32, access := .rwp, dflt := [.f32 0x406F5C29], rng := [((1 / 10), 5)] }
/-- CurrentSpan (9010.03), chapter 17: F32, RWP. -/
def Obj.currentSpan : ObjDef := { index := 0x9010, sub := 0x03, idxCount := 1, subCount := 1, ty := .f32, access := .rwp, dflt := [.f32 0x44C1C000], rng := [(10, 1600)] }
/-- CellVoltHist (9011.01 to 9011.18), chapter 17: DOMAIN, RO. -/
def Obj.cellVoltHist : ObjDef := { index := 0x9011, sub := 0x01, idxCount := 1, subCount := 24, ty := (.domain 256), access := .ro, dflt := [.bytes []], rng := [] }
/-- NtcHist (9012.01 to 9012.10), chapter 17: DOMAIN, RO. -/
def Obj.ntcHist : ObjDef := { index := 0x9012, sub := 0x01, idxCount := 1, subCount := 16, ty := (.domain 128), access := .ro, dflt := [.bytes []], rng := [] }
/-- CurrentHist (9013.01), chapter 17: DOMAIN, RO. -/
def Obj.currentHist : ObjDef := { index := 0x9013, sub := 0x01, idxCount := 1, subCount := 1, ty := (.domain 256), access := .ro, dflt := [.bytes []], rng := [] }
/-- SocDwellHist (9014.01 to 9014.18), chapter 17: DOMAIN, RO. -/
def Obj.socDwellHist : ObjDef := { index := 0x9014, sub := 0x01, idxCount := 1, subCount := 24, ty := (.domain 80), access := .ro, dflt := [.bytes []], rng := [] }
/-- CellExtremes (9015.01 to 9015.18), chapter 17: DOMAIN, RO. -/
def Obj.cellExtremes : ObjDef := { index := 0x9015, sub := 0x01, idxCount := 1, subCount := 24, ty := (.domain 24), access := .ro, dflt := [.bytes []], rng := [] }
/-- EpisodeList (9020.01), chapter 17: DOMAIN, RO. -/
def Obj.episodeList : ObjDef := { index := 0x9020, sub := 0x01, idxCount := 1, subCount := 1, ty := (.domain 16384), access := .ro, dflt := [.bytes []], rng := [] }
/-- EpisodeNewest (9020.02), chapter 17: U32, RO. -/
def Obj.episodeNewest : ObjDef := { index := 0x9020, sub := 0x02, idxCount := 1, subCount := 1, ty := .u32, access := .ro, dflt := [.nat 0], rng := [] }
/-- DailySummary (9030.01 to 9030.20), chapter 17: DOMAIN, RO. -/
def Obj.dailySummary : ObjDef := { index := 0x9030, sub := 0x01, idxCount := 1, subCount := 32, ty := (.domain 256), access := .ro, dflt := [.bytes []], rng := [] }
/-- CaptureTrigger (9100.01), chapter 17: U8, RWA Operator. -/
def Obj.captureTrigger : ObjDef := { index := 0x9100, sub := 0x01, idxCount := 1, subCount := 1, ty := .u8, access := (.rwa .operator), dflt := [.nat 0], rng := [(1, 1)] }
/-- CapturePreTime (9100.02), chapter 17: U16, RWP. -/
def Obj.capturePreTime : ObjDef := { index := 0x9100, sub := 0x02, idxCount := 1, subCount := 1, ty := .u16, access := .rwp, dflt := [.nat 1000], rng := [(0, 3000)] }
/-- CapturePostTime (9100.03), chapter 17: U16, RWP. -/
def Obj.capturePostTime : ObjDef := { index := 0x9100, sub := 0x03, idxCount := 1, subCount := 1, ty := .u16, access := .rwp, dflt := [.nat 2000], rng := [(10, 3000)] }
/-- CaptureSources (9100.04), chapter 17: U32, RWP. -/
def Obj.captureSources : ObjDef := { index := 0x9100, sub := 0x04, idxCount := 1, subCount := 1, ty := .u32, access := .rwp, dflt := [.nat 4294967295], rng := [] }
/-- CaptureCurrent (9100.05), chapter 17: BOOL, RWP. -/
def Obj.captureCurrent : ObjDef := { index := 0x9100, sub := 0x05, idxCount := 1, subCount := 1, ty := .bool, access := .rwp, dflt := [.nat 1], rng := [(0, 1)] }
/-- CaptureOnTrip (9100.06), chapter 17: BOOL, RWP. -/
def Obj.captureOnTrip : ObjDef := { index := 0x9100, sub := 0x06, idxCount := 1, subCount := 1, ty := .bool, access := .rwp, dflt := [.nat 1], rng := [(0, 1)] }
/-- CaptureOnSeverity (9100.07), chapter 17: U8, RWP. -/
def Obj.captureOnSeverity : ObjDef := { index := 0x9100, sub := 0x07, idxCount := 1, subCount := 1, ty := .u8, access := .rwp, dflt := [.nat 3], rng := [(1, 5)] }
/-- CaptureOverwrite (9100.08), chapter 17: BOOL, RWP. -/
def Obj.captureOverwrite : ObjDef := { index := 0x9100, sub := 0x08, idxCount := 1, subCount := 1, ty := .bool, access := .rwp, dflt := [.nat 0], rng := [(0, 1)] }
/-- CaptureReadout (9100.09), chapter 17: DOMAIN, RWA Observer. -/
def Obj.captureReadout : ObjDef := { index := 0x9100, sub := 0x09, idxCount := 1, subCount := 1, ty := (.domain 16), access := (.rwa .observer), dflt := [.bytes []], rng := [] }
/-- CaptureRelease (9100.0A), chapter 17: U16, RWA Operator. -/
def Obj.captureRelease : ObjDef := { index := 0x9100, sub := 0x0A, idxCount := 1, subCount := 1, ty := .u16, access := (.rwa .operator), dflt := [.nat 0], rng := [] }
/-- CaptureStatus (9100.0B), chapter 17: U16, RO. -/
def Obj.captureStatus : ObjDef := { index := 0x9100, sub := 0x0B, idxCount := 1, subCount := 1, ty := .u16, access := .ro, dflt := [.nat 0], rng := [] }
/-- CaptureRefused (9100.0C), chapter 17: U32, RO. -/
def Obj.captureRefused : ObjDef := { index := 0x9100, sub := 0x0C, idxCount := 1, subCount := 1, ty := .u32, access := .ro, dflt := [.nat 0], rng := [] }
/-- CaptureMerged (9100.0D), chapter 17: U32, RO. -/
def Obj.captureMerged : ObjDef := { index := 0x9100, sub := 0x0D, idxCount := 1, subCount := 1, ty := .u32, access := .ro, dflt := [.nat 0], rng := [] }
/-- CaptureEccCorrected (9100.0E), chapter 17: U32, RO. -/
def Obj.captureEccCorrected : ObjDef := { index := 0x9100, sub := 0x0E, idxCount := 1, subCount := 1, ty := .u32, access := .ro, dflt := [.nat 0], rng := [] }
/-- CaptureEccUncorrectable (9100.0F), chapter 17: U32, RO. -/
def Obj.captureEccUncorrectable : ObjDef := { index := 0x9100, sub := 0x0F, idxCount := 1, subCount := 1, ty := .u32, access := .ro, dflt := [.nat 0], rng := [] }
/-- ScrubAge (9100.10), chapter 17: U32, RO. -/
def Obj.scrubAge : ObjDef := { index := 0x9100, sub := 0x10, idxCount := 1, subCount := 1, ty := .u32, access := .ro, dflt := [.nat 0], rng := [] }
/-- CaptureStoreSeconds (9100.11), chapter 17: F32, RO. -/
def Obj.captureStoreSeconds : ObjDef := { index := 0x9100, sub := 0x11, idxCount := 1, subCount := 1, ty := .f32, access := .ro, dflt := [.f32 0x00000000], rng := [(0, 10000)] }
/-- CaptureAngle (9100.12), chapter 17: U32, RWA Operator. -/
def Obj.captureAngle : ObjDef := { index := 0x9100, sub := 0x12, idxCount := 1, subCount := 1, ty := .u32, access := (.rwa .operator), dflt := [.nat 0], rng := [] }
/-- CaptureRecordHeader (9101.01 to 9101.10), chapter 17: DOMAIN, RO. -/
def Obj.captureRecordHeader : ObjDef := { index := 0x9101, sub := 0x01, idxCount := 1, subCount := 16, ty := (.domain 64), access := .ro, dflt := [.bytes []], rng := [] }
/-- CaptureRecordState (9102.01 to 9102.10), chapter 17: U8, RO. -/
def Obj.captureRecordState : ObjDef := { index := 0x9102, sub := 0x01, idxCount := 1, subCount := 16, ty := .u8, access := .ro, dflt := [.nat 0], rng := [(0, 3)] }
/-- PackIdentity (9300.01), chapter 17: U64, RWA Service. -/
def Obj.packIdentity : ObjDef := { index := 0x9300, sub := 0x01, idxCount := 1, subCount := 1, ty := .u64, access := (.rwa .service), dflt := [.nat 0], rng := [(1, 18446744073709551615)] }
/-- PmQueueDelays (9300.02), chapter 17: U32, RO. -/
def Obj.pmQueueDelays : ObjDef := { index := 0x9300, sub := 0x02, idxCount := 1, subCount := 1, ty := .u32, access := .ro, dflt := [.nat 0], rng := [] }
/-- PackUserArea (9300.03), chapter 17: DOMAIN, RWA Engineer. -/
def Obj.packUserArea : ObjDef := { index := 0x9300, sub := 0x03, idxCount := 1, subCount := 1, ty := (.domain 131072), access := (.rwa .engineer), dflt := [.bytes []], rng := [] }
/-- PackParamVersion (9300.04), chapter 17: U16, RO. -/
def Obj.packParamVersion : ObjDef := { index := 0x9300, sub := 0x04, idxCount := 1, subCount := 1, ty := .u16, access := .ro, dflt := [.nat 0], rng := [] }
/-- MgmtStatus (A000.01), chapter 18: U16, RO. -/
def Obj.mgmtStatus : ObjDef := { index := 0xA000, sub := 0x01, idxCount := 1, subCount := 1, ty := .u16, access := .ro, dflt := [.nat 0], rng := [] }
/-- MgmtRestarts (A000.02), chapter 18: U16, RO. -/
def Obj.mgmtRestarts : ObjDef := { index := 0xA000, sub := 0x02, idxCount := 1, subCount := 1, ty := .u16, access := .ro, dflt := [.nat 0], rng := [(0, 65535)] }
/-- CalendarTime (A000.03), chapter 18: U32, RO. -/
def Obj.calendarTime : ObjDef := { index := 0xA000, sub := 0x03, idxCount := 1, subCount := 1, ty := .u32, access := .ro, dflt := [.nat 0], rng := [] }
/-- CalendarSet (A000.04), chapter 18: DOMAIN, RWA Operator. -/
def Obj.calendarSet : ObjDef := { index := 0xA000, sub := 0x04, idxCount := 1, subCount := 1, ty := (.domain 12), access := (.rwa .operator), dflt := [.bytes []], rng := [] }
/-- BoardTemp (A001.01), chapter 18: F32, RO. -/
def Obj.boardTemp : ObjDef := { index := 0xA001, sub := 0x01, idxCount := 1, subCount := 1, ty := .f32, access := .ro, dflt := [.f32 0x00000000], rng := [((-50), 150)] }
/-- Humidity (A001.02), chapter 18: F32, RO. -/
def Obj.humidity : ObjDef := { index := 0xA001, sub := 0x02, idxCount := 1, subCount := 1, ty := .f32, access := .ro, dflt := [.f32 0x00000000], rng := [(0, 100)] }
/-- HumidityWarn (A001.03), chapter 18: F32, RW. -/
def Obj.humidityWarn : ObjDef := { index := 0xA001, sub := 0x03, idxCount := 1, subCount := 1, ty := .f32, access := .rw, dflt := [.f32 0x428C0000], rng := [(30, 95)] }
/-- RailVoltage (A001.04 to A001.09), chapter 18: F32, RO. -/
def Obj.railVoltage : ObjDef := { index := 0xA001, sub := 0x04, idxCount := 1, subCount := 6, ty := .f32, access := .ro, dflt := [.f32 0x00000000], rng := [(0, 15)] }
/-- SessionChallenge (A010.01), chapter 18: U64, RO. -/
def Obj.sessionChallenge : ObjDef := { index := 0xA010, sub := 0x01, idxCount := 1, subCount := 1, ty := .u64, access := .ro, dflt := [.nat 0], rng := [] }
/-- SessionOpen (A010.02), chapter 18: DOMAIN, WO. -/
def Obj.sessionOpen : ObjDef := { index := 0xA010, sub := 0x02, idxCount := 1, subCount := 1, ty := (.domain 24), access := .wo, dflt := [.bytes []], rng := [] }
/-- SessionClose (A010.03), chapter 18: U16, WO. -/
def Obj.sessionClose : ObjDef := { index := 0xA010, sub := 0x03, idxCount := 1, subCount := 1, ty := .u16, access := .wo, dflt := [.nat 0], rng := [(1, 65535)] }
/-- SessionIdle (A010.04), chapter 18: U16, RW. -/
def Obj.sessionIdle : ObjDef := { index := 0xA010, sub := 0x04, idxCount := 1, subCount := 1, ty := .u16, access := .rw, dflt := [.nat 600], rng := [(60, 3600)] }
/-- SessionMaxAge (A010.05), chapter 18: U32, RW. -/
def Obj.sessionMaxAge : ObjDef := { index := 0xA010, sub := 0x05, idxCount := 1, subCount := 1, ty := .u32, access := .rw, dflt := [.nat 28800], rng := [(600, 86400)] }
/-- SessionCount (A010.06), chapter 18: U8, RO. -/
def Obj.sessionCount : ObjDef := { index := 0xA010, sub := 0x06, idxCount := 1, subCount := 1, ty := .u8, access := .ro, dflt := [.nat 0], rng := [(0, 8)] }
/-- AuthFailures (A010.07), chapter 18: U32, RO. -/
def Obj.authFailures : ObjDef := { index := 0xA010, sub := 0x07, idxCount := 1, subCount := 1, ty := .u32, access := .ro, dflt := [.nat 0], rng := [] }
/-- SessionList (A010.08), chapter 18: DOMAIN, RO. -/
def Obj.sessionList : ObjDef := { index := 0xA010, sub := 0x08, idxCount := 1, subCount := 1, ty := (.domain 128), access := .ro, dflt := [.bytes []], rng := [] }
/-- RoleKeyWrap (A020.01), chapter 18: DOMAIN, RWA Service. -/
def Obj.roleKeyWrap : ObjDef := { index := 0xA020, sub := 0x01, idxCount := 1, subCount := 1, ty := (.domain 64), access := (.rwa .service), dflt := [.bytes []], rng := [] }
/-- SigningKeyRevoke (A020.02), chapter 18: U8, RWA Service. -/
def Obj.signingKeyRevoke : ObjDef := { index := 0xA020, sub := 0x02, idxCount := 1, subCount := 1, ty := .u8, access := (.rwa .service), dflt := [.nat 0], rng := [(0, 3)] }
/-- KeyStatus (A020.03), chapter 18: U16, RO. -/
def Obj.keyStatus : ObjDef := { index := 0xA020, sub := 0x03, idxCount := 1, subCount := 1, ty := .u16, access := .ro, dflt := [.nat 0], rng := [] }
/-- SecurityFloor (A020.04), chapter 18: U16, RO. -/
def Obj.securityFloor : ObjDef := { index := 0xA020, sub := 0x04, idxCount := 1, subCount := 1, ty := .u16, access := .ro, dflt := [.nat 0], rng := [] }
/-- UpdateManifest (A030.01), chapter 18: DOMAIN, RWA Engineer. -/
def Obj.updateManifest : ObjDef := { index := 0xA030, sub := 0x01, idxCount := 1, subCount := 1, ty := (.domain 256), access := (.rwa .engineer), dflt := [.bytes []], rng := [] }
/-- UpdateImage (A030.02), chapter 18: DOMAIN, RWA Engineer. -/
def Obj.updateImage : ObjDef := { index := 0xA030, sub := 0x02, idxCount := 1, subCount := 1, ty := (.domain 8388608), access := (.rwa .engineer), dflt := [.bytes []], rng := [] }
/-- UpdateState (A030.03), chapter 18: U8, RO. -/
def Obj.updateState : ObjDef := { index := 0xA030, sub := 0x03, idxCount := 1, subCount := 1, ty := .u8, access := .ro, dflt := [.nat 0], rng := [(0, 8)] }
/-- UpdateBlocksReceived (A030.04), chapter 18: U16, RO. -/
def Obj.updateBlocksReceived : ObjDef := { index := 0xA030, sub := 0x04, idxCount := 1, subCount := 1, ty := .u16, access := .ro, dflt := [.nat 0], rng := [(0, 2048)] }
/-- UpdateActivate (A030.05), chapter 18: U8, RWA Engineer. -/
def Obj.updateActivate : ObjDef := { index := 0xA030, sub := 0x05, idxCount := 1, subCount := 1, ty := .u8, access := (.rwa .engineer), dflt := [.nat 0], rng := [(90, 90)] }
/-- UpdateAbort (A030.06), chapter 18: U8, RWA Engineer. -/
def Obj.updateAbort : ObjDef := { index := 0xA030, sub := 0x06, idxCount := 1, subCount := 1, ty := .u8, access := (.rwa .engineer), dflt := [.nat 0], rng := [(90, 90)] }
/-- UpdateTrialTime (A030.07), chapter 18: U16, RW. -/
def Obj.updateTrialTime : ObjDef := { index := 0xA030, sub := 0x07, idxCount := 1, subCount := 1, ty := .u16, access := .rw, dflt := [.nat 15], rng := [(5, 300)] }
/-- UpdateReject (A030.08), chapter 18: U8, RO. -/
def Obj.updateReject : ObjDef := { index := 0xA030, sub := 0x08, idxCount := 1, subCount := 1, ty := .u8, access := .ro, dflt := [.nat 0], rng := [(0, 11)] }
/-- SlotInfo (A030.09), chapter 18: DOMAIN, RO. -/
def Obj.slotInfo : ObjDef := { index := 0xA030, sub := 0x09, idxCount := 1, subCount := 1, ty := (.domain 64), access := .ro, dflt := [.bytes []], rng := [] }
/-- RollbackCount (A030.0A), chapter 18: U16, RO. -/
def Obj.rollbackCount : ObjDef := { index := 0xA030, sub := 0x0A, idxCount := 1, subCount := 1, ty := .u16, access := .ro, dflt := [.nat 0], rng := [(0, 65535)] }
/-- TagFailures (A030.0B), chapter 18: U32, RO. -/
def Obj.tagFailures : ObjDef := { index := 0xA030, sub := 0x0B, idxCount := 1, subCount := 1, ty := .u32, access := .ro, dflt := [.nat 0], rng := [] }
/-- CalStart (A040.01), chapter 18: U8, RWA Engineer. -/
def Obj.calStart : ObjDef := { index := 0xA040, sub := 0x01, idxCount := 1, subCount := 1, ty := .u8, access := (.rwa .engineer), dflt := [.nat 0], rng := [(90, 90)] }
/-- CalAbort (A040.02), chapter 18: U8, RWA Engineer. -/
def Obj.calAbort : ObjDef := { index := 0xA040, sub := 0x02, idxCount := 1, subCount := 1, ty := .u8, access := (.rwa .engineer), dflt := [.nat 0], rng := [(90, 90)] }
/-- CalPasses (A040.03), chapter 18: U16, RW. -/
def Obj.calPasses : ObjDef := { index := 0xA040, sub := 0x03, idxCount := 1, subCount := 1, ty := .u16, access := .rw, dflt := [.nat 64], rng := [(8, 1024)] }
/-- CalTurnsPerChannel (A040.04), chapter 18: U8, RW. -/
def Obj.calTurnsPerChannel : ObjDef := { index := 0xA040, sub := 0x04, idxCount := 1, subCount := 1, ty := .u8, access := .rw, dflt := [.nat 32], rng := [(8, 128)] }
/-- CalState (A040.05), chapter 18: U8, RO. -/
def Obj.calState : ObjDef := { index := 0xA040, sub := 0x05, idxCount := 1, subCount := 1, ty := .u8, access := .ro, dflt := [.nat 0], rng := [(0, 5)] }
/-- CalChannel (A040.06), chapter 18: U8, RO. -/
def Obj.calChannel : ObjDef := { index := 0xA040, sub := 0x06, idxCount := 1, subCount := 1, ty := .u8, access := .ro, dflt := [.nat 0], rng := [(0, 24)] }
/-- CalMaxGainChange (A040.07), chapter 18: F32, RW. -/
def Obj.calMaxGainChange : ObjDef := { index := 0xA040, sub := 0x07, idxCount := 1, subCount := 1, ty := .f32, access := .rw, dflt := [.f32 0x3851B717], rng := [((1 / 1000000), (1 / 1000))] }
/-- CalMaxOffsetChange (A040.08), chapter 18: F32, RW. -/
def Obj.calMaxOffsetChange : ObjDef := { index := 0xA040, sub := 0x08, idxCount := 1, subCount := 1, ty := .f32, access := .rw, dflt := [.f32 0x41A00000], rng := [(1, 200)] }
/-- CalResult (A040.09), chapter 18: DOMAIN, RO. -/
def Obj.calResult : ObjDef := { index := 0xA040, sub := 0x09, idxCount := 1, subCount := 1, ty := (.domain 192), access := .ro, dflt := [.bytes []], rng := [] }
/-- UsbState (A050.01), chapter 18: U8, RO. -/
def Obj.usbState : ObjDef := { index := 0xA050, sub := 0x01, idxCount := 1, subCount := 1, ty := .u8, access := .ro, dflt := [.nat 0], rng := [(0, 2)] }
/-- UsbFramesBad (A050.02), chapter 18: U32, RO. -/
def Obj.usbFramesBad : ObjDef := { index := 0xA050, sub := 0x02, idxCount := 1, subCount := 1, ty := .u32, access := .ro, dflt := [.nat 0], rng := [] }

/-- Rows 1 to 40 of the object tables. -/
def Obj.table0 : List ObjDef :=
  [Obj.descSeq, Obj.descStringId, Obj.descHeadPack, Obj.descStandbyPack, Obj.descModuleCount, Obj.descFlags, Obj.stageStringId, Obj.stageHeadPack, Obj.stageStandbyPack, Obj.stageModuleCount, Obj.stageFlags, Obj.descCommit, Obj.adoptPack, Obj.descErase, Obj.role, Obj.headBasis, Obj.headEligible, Obj.membershipGen, Obj.modulesFound, Obj.configuration, Obj.ownPackId, Obj.ownNodeId, Obj.claimWait, Obj.memberEntry, Obj.aux24Voltage, Obj.aux24Current, Obj.stackVoltage, Obj.j4Present, Obj.wakeTestPeriod, Obj.wakeTestResult, Obj.transferExportLimit, Obj.tripLoopCurrent, Obj.supplyStatus, Obj.populatedCells, Obj.unusedChannelMax, Obj.mode, Obj.modeCause, Obj.maintPermit, Obj.safeExit, Obj.shipArm]
/-- Rows 41 to 80 of the object tables. -/
def Obj.table1 : List ObjDef :=
  [Obj.holdupRemaining, Obj.holdupCapacitance, Obj.terminalLatch, Obj.startSource, Obj.startDuration, Obj.holdupSkips, Obj.kaCellOverVoltage, Obj.kaCellUnderVoltage, Obj.kaTempHigh, Obj.kaTempLow, Obj.sensorTemp, Obj.hotspotTemp, Obj.derateFraction, Obj.thermalStatus, Obj.ringTime, Obj.timeStatus, Obj.linkDelayEast, Obj.linkDelayWest, Obj.timeOffset, Obj.spinnerSource, Obj.spinnerFallback1, Obj.spinnerFallback2, Obj.spinnerNominalFreq, Obj.spinnerActiveSource, Obj.spinnerFreq, Obj.spinner, Obj.rippleMinAmplitude, Obj.sourceChanges, Obj.lateEvents, Obj.crossingStatus, Obj.cellVoltage, Obj.cellTag, Obj.cellSource, Obj.cellSampleTime, Obj.precisionAveraging, Obj.precisionTurns, Obj.precisionRate, Obj.windowAnchorTurn, Obj.windowAnchorTime, Obj.refDev1]
/-- Rows 81 to 120 of the object tables. -/
def Obj.table2 : List ObjDef :=
  [Obj.refDev2, Obj.refDelta, Obj.calFactoryDate, Obj.calFieldAge, Obj.calDeferred, Obj.channelGain, Obj.channelOffset, Obj.measStatus, Obj.settleEvents, Obj.clipCount, Obj.routineEntry, Obj.routinePeriod, Obj.hostRegTrigger, Obj.hostRegPeriod, Obj.hostRegAngle, Obj.hostRegStart, Obj.routineResult, Obj.hostRegResult, Obj.hostRegEntry, Obj.injTriggerModule, Obj.injTrigger, Obj.injEntryModule, Obj.injEntry, Obj.minAcq, Obj.injResult, Obj.auxDeferred, Obj.injOverrun, Obj.regOverrun, Obj.avgOverflow, Obj.acqShort, Obj.auxStatus, Obj.legacyEnable, Obj.pawnAngle, Obj.pawnState, Obj.pawnRounds, Obj.pawnBypassed, Obj.pawnSkips, Obj.pawnMismatches, Obj.owtInterval, Obj.owtLimit]
/-- Rows 121 to 160 of the object tables. -/
def Obj.table3 : List ObjDef :=
  [Obj.owtRounds, Obj.owtDeferred, Obj.integrityStatus, Obj.senseWireRes, Obj.forcePathRes, Obj.dualPathLimit, Obj.sumMargin, Obj.dualPathDiff, Obj.sumDiffSN, Obj.sumDiffFC, Obj.senseOpenMask, Obj.forceOpenMask, Obj.substitutedMask, Obj.balInhibitMask, Obj.blankAngle, Obj.blankMax, Obj.blankWindows, Obj.blankTimeouts, Obj.balLease, Obj.balPlanPeriod, Obj.balDeadband, Obj.balAuxNetMax, Obj.balEnable, Obj.balTransferEnable, Obj.balMaxCellVoltage, Obj.balMinCellVoltage, Obj.balChargeTempMin, Obj.flybackCurrentMax, Obj.transferPowerMax, Obj.balFineTrim, Obj.balPassiveAssist, Obj.transferImportMinAux, Obj.balPlanRecord, Obj.balPlanLast, Obj.balReport, Obj.planRejected, Obj.leaseRemaining, Obj.balCurrent, Obj.balCharge, Obj.flybackState]
/-- Rows 161 to 200 of the object tables. -/
def Obj.table4 : List ObjDef :=
  [Obj.busVoltage, Obj.transferPower, Obj.booksResidual, Obj.balStatus, Obj.balLimited, Obj.stringCurrent, Obj.shuntCurrent, Obj.fluxCurrent, Obj.shuntResistance, Obj.fluxGain, Obj.currentPrimary, Obj.currentInUse, Obj.currentCheckFloor, Obj.shortCircuitLevel, Obj.stringVoltage, Obj.linkVoltage, Obj.mainPosVoltage, Obj.moduleSumVoltage, Obj.isoMode, Obj.isoWarn, Obj.isoAlarm, Obj.isoAlarmAction, Obj.isoStateMin, Obj.isoStateMax, Obj.isoRp, Obj.isoRn, Obj.isoRiso, Obj.isoAge, Obj.contactorCommand, Obj.pullInTime, Obj.holdCurrent, Obj.prechargeResistance, Obj.prechargeDoneBand, Obj.prechargeTimeout, Obj.prechargeRiseTime, Obj.contactorOpenWait, Obj.openWaitMax, Obj.openCurrentMax, Obj.linkPrechargedAllowed, Obj.contactorState]
/-- Rows 201 to 240 of the object tables. -/
def Obj.table5 : List ObjDef :=
  [Obj.closeRefusal, Obj.openUnderLoad, Obj.lastOpenCurrent, Obj.headIoStatus, Obj.cellOvWarn, Obj.cellOvOpen, Obj.cellOvTrip, Obj.cellUvWarn, Obj.cellUvOpen, Obj.cellUvTrip, Obj.tempHighWarn, Obj.tempHighOpen, Obj.tempHighTrip, Obj.tempLowWarn, Obj.tempLowOpen, Obj.tempLowTrip, Obj.chgTaperStart, Obj.disTaperStart, Obj.chargeCurrentMax, Obj.dischargeCurrentMax, Obj.overcurrentTrip, Obj.stringVoltageMax, Obj.stringVoltageTrip, Obj.protSetCrc, Obj.limitRampUp, Obj.pcsLimitPeriod, Obj.chargeLimit, Obj.dischargeLimit, Obj.tripReset, Obj.tripNode, Obj.tripCause, Obj.nominalCapacity, Obj.chargeEfficiency, Obj.selfDischargeCommon, Obj.ocvTempCoeff, Obj.ocvHysteresis, Obj.ocvTable, Obj.socWritePeriod, Obj.capLearnGain, Obj.stepMinFraction]
/-- Rows 241 to 280 of the object tables. -/
def Obj.table6 : List ObjDef :=
  [Obj.impMinExcitation, Obj.impAverages, Obj.binCycles, Obj.sdSettle, Obj.sdWindow, Obj.sdWarn, Obj.sdAlarm, Obj.r0Default, Obj.voltCheckMaxCurrent, Obj.countOffsetBound, Obj.soc, Obj.socUncertainty, Obj.capacity, Obj.soH, Obj.socCorrection, Obj.r0Cell, Obj.r1Cell, Obj.r2Cell, Obj.impSpectrum, Obj.sdCurrent, Obj.sdUncertainty, Obj.cellEstStatus, Obj.chargeCount, Obj.estStatus, Obj.capWrites, Obj.capWriteSkips, Obj.missingCurrentWords, Obj.countGaps, Obj.socCorrections, Obj.initialBasis, Obj.storedStateAge, Obj.stepCount, Obj.capRecordInForce, Obj.stringSoc, Obj.stringCapacity, Obj.stringSoH, Obj.stringCapMin, Obj.energyDischarge, Obj.energyCharge, Obj.stringEstValid]
/-- Rows 281 to 320 of the object tables. -/
def Obj.table7 : List ObjDef :=
  [Obj.loopLoad, Obj.loopEnable, Obj.rateDivisor, Obj.bankA, Obj.bankB, Obj.bankRequest, Obj.bankActive, Obj.swapCount, Obj.inputBind, Obj.outputBind, Obj.setpoint, Obj.loopOutput, Obj.rampConfig, Obj.failOutput, Obj.loopState, Obj.loopStatus, Obj.thermalMode, Obj.thermalCoreSetpoint, Obj.thermalCoreAlarm, Obj.coolantRefNtc, Obj.thermalActuators, Obj.thermalManualDemand, Obj.thermalFlowSource, Obj.thermalFlowSent, Obj.packHeat, Obj.coolingDemand, Obj.coolingStatus, Obj.thermalZoneMap, Obj.zoneCoreTemp, Obj.zoneSurfaceTemp, Obj.coolantRefTemp, Obj.fanPwmFreq, Obj.fanMinDuty, Obj.fanRatedSpeed, Obj.tachPulses, Obj.fanDuty, Obj.fanSpeed, Obj.valveZeroMode, Obj.valveCommand, Obj.valveReadback]
/-- Rows 321 to 360 of the object tables. -/
def Obj.table8 : List ObjDef :=
  [Obj.busVoltageSetpoint, Obj.ringState, Obj.ownSquare, Obj.ringMembers, Obj.turnAt, Obj.censusNumber, Obj.censusFailures, Obj.ringStatus, Obj.wrapDrops, Obj.censusRequest, Obj.streamWideband, Obj.streamStandard, Obj.unwrapHoldoff, Obj.headerErrorLimit, Obj.portState, Obj.rxPower, Obj.crcErrors, Obj.headerErrors, Obj.stompedSlots, Obj.portDowns, Obj.linkDelay, Obj.tokenAlloc, Obj.tokensEast, Obj.tokensWest, Obj.queueSize, Obj.queueFree, Obj.queueFilled, Obj.queueInTransfer, Obj.queueDrops, Obj.queueBinding, Obj.nominalRate, Obj.dataRate, Obj.tripleSample, Obj.busOffHoldoff, Obj.busEnable, Obj.busRecover, Obj.busState, Obj.tec, Obj.rec, Obj.busOffCount]
/-- Rows 361 to 400 of the object tables. -/
def Obj.table9 : List ObjDef :=
  [Obj.errorFrames, Obj.ackErrors, Obj.txDiscarded, Obj.rxOverruns, Obj.busStatus, Obj.tdcValue, Obj.busLoad, Obj.voteRejects, Obj.nodeIdConflicts, Obj.vendorName, Obj.productName, Obj.serialNumber, Obj.hardwareIssue, Obj.manufactureDate, Obj.firmwareVersion, Obj.activeSlot, Obj.dictionaryVersion, Obj.packLabel, Obj.pxRequests, Obj.pxErrors, Obj.pxDuplicates, Obj.pxBlockActive, Obj.pxBlockAborts, Obj.pxQueueFull, Obj.pxLastError, Obj.pubArea, Obj.pointLimits, Obj.pointEntry, Obj.headPubCopy, Obj.changeLog, Obj.changeLogNewest, Obj.changeLogPackCopied, Obj.handoverCommand, Obj.ckptGenSent, Obj.ckptGenAcked, Obj.ckptGenAccepted, Obj.ckptAge, Obj.ckptLength, Obj.failovers, Obj.lastTakeover]
/-- Rows 401 to 440 of the object tables. -/
def Obj.table10 : List ObjDef :=
  [Obj.takeoverCause, Obj.takeoverDuration, Obj.firstMoveStatus, Obj.firstMoveTime, Obj.firstMoveClear, Obj.faultStatus, Obj.faultRaises, Obj.faultActive, Obj.faultPending, Obj.severity, Obj.minSeverity, Obj.raiseCount, Obj.laneState, Obj.laneDisagreements, Obj.laneEccCorrected, Obj.noMajorityEvents, Obj.sentEnable, Obj.tickNominal, Obj.dataNibbles, Obj.pauseMode, Obj.crcVariant, Obj.serialFormat, Obj.fast1Bits, Obj.fast1Signed, Obj.sentGain, Obj.sentOffset, Obj.sentLsb, Obj.sentDiagMask, Obj.sentTimeout, Obj.sentWarmup, Obj.sentValue, Obj.sentRawFast1, Obj.sentRawFast2, Obj.sentStatus, Obj.sentFramesOk, Obj.sentErrorCounts, Obj.sentSlowTable, Obj.sentSlowRestarts, Obj.recSeq, Obj.recClear]
/-- Rows 441 to 480 of the object tables. -/
def Obj.table11 : List ObjDef :=
  [Obj.recStageTime, Obj.recStageDelays, Obj.voltRangeLow, Obj.voltRangeHigh, Obj.currentSpan, Obj.cellVoltHist, Obj.ntcHist, Obj.currentHist, Obj.socDwellHist, Obj.cellExtremes, Obj.episodeList, Obj.episodeNewest, Obj.dailySummary, Obj.captureTrigger, Obj.capturePreTime, Obj.capturePostTime, Obj.captureSources, Obj.captureCurrent, Obj.captureOnTrip, Obj.captureOnSeverity, Obj.captureOverwrite, Obj.captureReadout, Obj.captureRelease, Obj.captureStatus, Obj.captureRefused, Obj.captureMerged, Obj.captureEccCorrected, Obj.captureEccUncorrectable, Obj.scrubAge, Obj.captureStoreSeconds, Obj.captureAngle, Obj.captureRecordHeader, Obj.captureRecordState, Obj.packIdentity, Obj.pmQueueDelays, Obj.packUserArea, Obj.packParamVersion, Obj.mgmtStatus, Obj.mgmtRestarts, Obj.calendarTime]
/-- Rows 481 to 519 of the object tables. -/
def Obj.table12 : List ObjDef :=
  [Obj.calendarSet, Obj.boardTemp, Obj.humidity, Obj.humidityWarn, Obj.railVoltage, Obj.sessionChallenge, Obj.sessionOpen, Obj.sessionClose, Obj.sessionIdle, Obj.sessionMaxAge, Obj.sessionCount, Obj.authFailures, Obj.sessionList, Obj.roleKeyWrap, Obj.signingKeyRevoke, Obj.keyStatus, Obj.securityFloor, Obj.updateManifest, Obj.updateImage, Obj.updateState, Obj.updateBlocksReceived, Obj.updateActivate, Obj.updateAbort, Obj.updateTrialTime, Obj.updateReject, Obj.slotInfo, Obj.rollbackCount, Obj.tagFailures, Obj.calStart, Obj.calAbort, Obj.calPasses, Obj.calTurnsPerChannel, Obj.calState, Obj.calChannel, Obj.calMaxGainChange, Obj.calMaxOffsetChange, Obj.calResult, Obj.usbState, Obj.usbFramesBad]
/-- Every row of the object tables. -/
def Obj.all : List ObjDef := Obj.table0 ++ Obj.table1 ++ Obj.table2 ++ Obj.table3 ++ Obj.table4 ++ Obj.table5 ++ Obj.table6 ++ Obj.table7 ++ Obj.table8 ++ Obj.table9 ++ Obj.table10 ++ Obj.table11 ++ Obj.table12

end Sys2Proof.Machine
end

