-- ==== Sys2Proof/Machine/State.lean ====
section
/-! DEFINITION. The state of one module as plain data: one structure per chapter of the spec, each field with its value
at reset; the faults and refusals of a step; `State.reset`. Objects of the dictionary that are plain parameters,
counters or readings live in `State.dict`. -/
namespace Sys2Proof.Machine

/-- Why a step stops with a fault. Both are safe: the model stops where the spec names no location. -/
inductive Fault where
  /-- Raised by PACK_MEMORY_TRANSFER_DONE for an address outside the 256 KiB of R652. Safe: the model stops. -/
  | packMemoryHole (addr : Nat)
  /-- Raised by CAPTURE_MEMORY_ECC for an address outside the 4 GiB of the capture memory (R637). Safe: the model
  stops. -/
  | captureMemoryHole (addr : Nat)
  deriving DecidableEq, Repr

/-- Why a command is refused by the model. -/
inductive Refusal where
  /-- A command that has no meaning in the model, named by its mnemonic. Safe: the model stops. -/
  | notModelled (mnemonic : String)
  deriving DecidableEq, Repr

/-- The modes of R117, start-up, off (R118) and the USB recovery of R124 and R687. -/
inductive Mode where | ship | keepalive | standby | online | maintenance | safe | startup | off | recovery
  deriving DecidableEq, Repr

/-- The roles of R28 and the Role object. -/
inductive Role where | segment | head | standby
  deriving DecidableEq, Repr

/-- A frame queued in a transmit buffer (R522): `kind` 0 notice, 1 newest only, 2 queued, 3 pre-enumeration. -/
structure TxFrame where
  id : Nat
  ext : Bool
  brs : Bool
  data : Bytes
  kind : Nat
  queuedAt : Nat
  deriving DecidableEq, Repr

/-- What the module puts out: a slot on a port (with its CRC inverted where `stomp`, R458), a frame on a bus, a PX frame on USB, an edge on an output, a half of a register handed to a master (R180). -/
inductive Out where
  | slot (p : Port) (h : SlotHdr) (payload : Bytes) (stomp : Bool)
  | frame (b : Bus) (f : TxFrame)
  | usb (frame : Bytes)
  | register (target : RegTarget) (value : Option Nat)
  | half (m : Master) (value : Nat)
  deriving DecidableEq, Repr

/-- The string descriptor (R36), without its fixed FORMAT and LENGTH and its CRC. -/
structure Descriptor where
  seq : Nat := 0
  stringId : Nat := 0
  headPack : Nat := 0
  standbyPack : Nat := 0
  moduleCount : Nat := 0
  flags : Nat := 0
  deriving DecidableEq, Repr

/-- Where the module stands in the start-up election of R48 and in enumeration (R511 to R517). -/
inductive ElecPhase where
  | idle | announcing | claimWait | awaitEnum | rollOff | noHead | lateJoin | enumerated
  deriving DecidableEq, Repr

/-- One entry of the membership list (R69), with what the head keeps about the module beside it. -/
structure Member where
  pack : Nat := 0
  serial : Nat := 0
  square : Int := 0
  role : Nat := 0
  mode : Nat := 0
  state : Nat := 0
  descSeq : Nat := 0
  descString : Nat := 0
  eligible : Bool := false
  counted : Bool := false
  lastStatus : Nat := 0
  linkUp : Bool := false
  locked : Bool := false
  integrity : Nat := 0
  released : Bool := false
  sumC : Int := 0
  deriving DecidableEq, Repr

/-- A descriptor commit in progress (R40 to R42): the record sent, the node IDs not yet heard, the deadline. -/
structure Commit where
  seq : Nat
  waiting : List Nat
  deadline : Nat
  newStandby : Bool
  deriving DecidableEq, Repr

/-- A module to be assigned a node ID (R512, R517). -/
structure Assign where
  serial : Nat
  pack : Nat
  node : Nat
  deriving DecidableEq, Repr

/-- Chapter 1: roles, election, membership. -/
structure IdentSt where
  /-- Role held (0x4002.01, R28). -/
  role : Role := .segment
  /-- Running descriptor (0x4000). -/
  desc : Descriptor := {}
  /-- Election phase (R48). -/
  phase : ElecPhase := .idle
  /-- Announces heard since the election began, own included (R39). -/
  announces : List Announce := []
  /-- Instant of the first own announce (R48 step 2). -/
  firstAnnounce : Option Nat := none
  /-- When the announce is due again (R48). -/
  nextAnnounce : Nat := 0
  /-- End of the claim wait (R48 step 5). -/
  claimWaitEnd : Nat := 0
  /-- Winning announce, if a valid descriptor exists (R39). -/
  winner : Option Announce := none
  /-- Round of the roll-off, 0 none (R49). -/
  round : Nat := 0
  /-- Start of the round (R49). -/
  roundStart : Nat := 0
  /-- Whether the module takes part in the round (R49, R711). -/
  inRound : Bool := false
  /-- Own draw of the round. -/
  ownDraw : Option Nat := none
  /-- Draws heard in the round: pack identity and value. -/
  draws : List (Nat × Nat) := []
  /-- When the election is repeated (R51). -/
  retryAt : Option Nat := none
  /-- Trip switch held open after an election without a head (R51). -/
  electionHold : Bool := false
  /-- Trip switch or loop source held open after a head failure without a new head (R601). -/
  headFailHold : Bool := false
  /-- Bit errors in succession of the own pre-enumeration frame (R46). -/
  bitErrors : Nat := 0
  /-- End of the back-off of R46. -/
  backoffEnd : Option Nat := none
  /-- Node ID bound to each pack identity (R56, R57). -/
  bindings : List (Nat × Nat) := []
  /-- Node ID of the head, as its last heartbeat named it, 0 none yet (R485, R518). -/
  headNode : Nat := 0
  /-- Membership list by node ID (R69). -/
  members : KMap Member := []
  /-- Joiners held as foreign (R60). -/
  foreigners : List JoinFrame := []
  /-- Pack identities an Engineer has admitted (R61). -/
  adopted : List Nat := []
  /-- Highest SEQ known to the head (R40, R61, R62). -/
  highestSeq : Nat := 0
  /-- Commits refused from now on (R63). -/
  seqExhausted : Bool := false
  /-- Commit in progress (R42). -/
  commit : Option Commit := none
  /-- Report of the last commit: none yet, complete, or failed with the node IDs (R42). -/
  commitReport : Option (List Nat) := none
  /-- Whether the host has written StageFlags (R55). -/
  stageFlagsWritten : Bool := false
  /-- Designated standby: its pack identity, 0 none (R54, R598, R698). -/
  standbyPack : Nat := 0
  /-- Whether the designated standby has accepted its first checkpoint (R598). -/
  standbyReady : Bool := false
  /-- Pending standby designation after a commit, by when (R698). -/
  designateBy : Option Nat := none
  /-- Late-join round open until (R517). -/
  joinClose : Option Nat := none
  /-- Joins heard in the round. -/
  joins : List JoinFrame := []
  /-- Own join frame to be sent at (R517). -/
  joinAt : Option Nat := none
  /-- Assigns still to send, the first one waiting for its acknowledge until `assignBy` (R512). -/
  assigns : List Assign := []
  /-- Deadline of the acknowledge of the first assign (R512). -/
  assignBy : Option Nat := none
  /-- Enumeration follows the first census of this head, or its first failure (R48 step 8). -/
  enumDue : Bool := false
  /-- Replies of modules to the census in force (R477). -/
  replies : List CensusReplyRec := []
  /-- Start of step 8 of R48 at the head. -/
  enumStart : Option Nat := none
  /-- Bus rates to switch to and when (R512 step 4). -/
  rateSwitch : Option (Nat × BusRates × BusRates) := none
  /-- Instant of the last valid frame on a bus (R516). -/
  lastFrame : Nat := 0
  /-- Trial of the rate scan: 0 the pack-memory pair, then codes in ascending order (R516). -/
  scan : Nat := 0
  /-- Start of the present trial. -/
  scanSince : Nat := 0
  /-- Modules found at the last census by a large configuration flag (R9). -/
  censusDone : Bool := false
  deriving DecidableEq, Repr

/-- Chapter 2: connectors and supplies. -/
structure SupplySt where
  /-- Consecutive J4 readings that agree with a change of the report (R102). -/
  j4Run : Nat := 0
  /-- Consecutive bad and good readings of the unused channels (R84). -/
  unusedBad : Nat := 0
  unusedGood : Nat := 0
  /-- POPMISMATCH of IntegrityStatus (R84). -/
  popMismatch : Bool := false
  /-- A PopulatedCells value waiting for the next boundary (R85). -/
  popPending : Option Nat := none
  /-- SENT supplies switched on, by channel 1 to 8 (R621). -/
  sentOn : KMap Bool := []
  /-- SENT supplies cut by the current limit, with the number of failed retries (R89). -/
  sentCut : KMap Nat := []
  /-- When the next retry of a cut supply is due (R89). -/
  sentRetryAt : KMap Nat := []
  /-- VALVE_OPEN of SupplyStatus and since when (R90, R446). -/
  valveOpenSince : Option Nat := none
  /-- Transfer export stopped by TransferExportLimit (R112). -/
  exportStopped : Bool := false
  /-- Transfer import stopped by TransferImportMinAux (R290). -/
  importStopped : Bool := false
  /-- WAKE-path loopback test running since (R114, R624). -/
  loopbackSince : Option Nat := none
  /-- When the last loopback test started (R114). -/
  lastLoopback : Option Nat := none
  /-- Loads shed by the hold-up sequence (R130). -/
  loadsShed : Bool := false
  /-- PMSUP of SupplyStatus: pack-memory supply fault (R116). -/
  pmSup : Bool := false
  /-- FLUXSUP of SupplyStatus: fluxgate supply fault (R116). -/
  fluxSup : Bool := false
  deriving DecidableEq, Repr

/-- One of the ten temperature sensors (R145 to R147). -/
structure SensorSt where
  excluded : Bool := false
  okRun : Nat := 0
  deriving DecidableEq, Repr

/-- The record lane A keeps of a KEEPALIVE episode (R137). -/
structure KaRecord where
  entry : Nat
  exit : Nat
  cellMin : KMap Int
  cellMax : KMap Int
  ntcMin : Option Rat
  ntcMax : Option Rat
  firstTrip : Nat
  firstTripAt : Nat
  deriving DecidableEq, Repr

/-- Chapter 3: modes, start-up, hold-up, self-heating. -/
structure ModeSt where
  /-- Mode, or start-up (R117). -/
  mode : Mode := .startup
  /-- Whether the start-up steps have run (START_UP), so that module ready may follow (R122). -/
  started : Bool := false
  /-- The lanes restart in MAINTENANCE (R681). -/
  keepMaint : Bool := false
  /-- The start that runs is a reset of the lanes alone (R681, R682): ring time, spinner and permit go on. -/
  laneReset : Bool := false
  /-- End of the maintenance permit (R121). -/
  permitEnd : Option Nat := none
  /-- Instant at which SHIP was armed (R138). -/
  shipArmedAt : Option Nat := none
  /-- Terminal latch of the always-on domain (R141). -/
  terminalLatch : Bool := false
  /-- End of the running 2 s power-cycle timer (R142). -/
  powerTimerEnd : Option Nat := none
  /-- The last power-cycle timer ran out, or the stack collapsed, with the latch set (R143, R144). -/
  latchTimedOut : Bool := false
  /-- Step of the hold-up sequence, 0 none (R130). -/
  holdup : Nat := 0
  /-- AUX24 present at the module. -/
  aux24 : Bool := true
  /-- The head has sent its abdication notice in this hold-up sequence (R133). -/
  abdicated : Bool := false
  /-- Loop source held on until, after an abdication of code 0 (R605). -/
  loopHoldUntil : Option Nat := none
  /-- KEEPALIVE was entered by WAKE (R126). -/
  kaByWake : Bool := false
  /-- Trip switch held open for the rest of the KEEPALIVE episode (R136, R708). -/
  kaTripped : Bool := false
  /-- Consecutive readings that met each KEEPALIVE trip condition 1 to 4 (R136). -/
  kaRuns : KMap Nat := []
  /-- Instant of the last completed KEEPALIVE reading (R708). -/
  kaLast : Nat := 0
  /-- Record of the KEEPALIVE episode (R137). -/
  ka : Option KaRecord := none
  /-- SAFE carried into KEEPALIVE and the next start-up (R120). -/
  safeCarried : Bool := false
  /-- The ten sensors, 1 to 10 (R145). -/
  sensors : KMap SensorSt := []
  /-- Sensors are read at 1 kHz (R149). -/
  fastRate : Bool := false
  /-- Consecutive readings at or above 125 °C (R152). -/
  hotRun : Nat := 0
  /-- Both firmware slots failed verification: only the USB port runs (R124). -/
  recovery : Bool := false
  deriving DecidableEq, Repr

/-- The states of ring time by the codes of R161. -/
inductive TimeState where | unsynced | acquiring | locked | holdover
  deriving DecidableEq, Repr

/-- What an angle comparator is set for (R171). -/
inductive AngleUser where | hostReg | is3 | is4 | pawn | blank | capture
  deriving DecidableEq, Repr

/-- One angle comparator in use (R171, R172): a one-shot absolute angle, or a fraction of every turn. -/
structure AngleComp where
  unit : AngleUnit
  user : AngleUser
  everyTurn : Bool
  angle : Nat
  deriving DecidableEq, Repr

/-- Chapter 4: ring time, spinner, crossings. -/
structure TimeSt where
  /-- State of ring time (R161). -/
  state : TimeState := .unsynced
  /-- Time master: this module's own counter is ring time (R157). -/
  master : Bool := false
  /-- WRAPPATH: the last time record came over a wrapped path (R182). -/
  wrapPath : Bool := false
  /-- Successive records with offset within ±10 ns (R161). -/
  goodRun : Nat := 0
  /-- TIME count of the last time record (R161). -/
  lastRecord : Option Nat := none
  /-- The offset towards which the counter is slewed, and the TIME count since when (R159). -/
  steerBy : Int := 0
  steerAt : Nat := 0
  /-- Start of holdover (R161). -/
  holdoverSince : Option Nat := none
  /-- The single step of R160 has been taken. -/
  stepped : Bool := false
  /-- Spinner records, newest first (R169). -/
  spin : List SpinnerRec := []
  /-- Active spinner source (R165, SpinnerActiveSource). -/
  source : Nat := 3
  /-- Last rising SYNC edge, in ring time, and the usable periods in succession, newest first (R165, R713). -/
  syncEdge : Option Nat := none
  syncPeriods : List Nat := []
  /-- Mean of the usable SYNC periods, in 1/64 ns (R165, R713). -/
  syncMean : Nat := 1
  /-- PCS angle records in succession: time, angle, period, newest first; the last valid one; its arrival (R165). -/
  pcs : List (Nat × Nat × Nat) := []
  pcsLast : Option (Nat × Nat × Nat) := none
  pcsAt : Nat := 0
  /-- Ripple line: frequency, turns at and above the minimum, turns below half of it (R165). -/
  rippleFreq : Rat := 0
  rippleUp : Nat := 0
  rippleDown : Nat := 0
  /-- Sources locked, with the ring time since when (R165, R166). -/
  lockedSince : KMap Nat := []
  /-- Turn frequency used at the last computation of M, and since when it has differed by more than 10 % (R195). -/
  mFreq : Rat := 0
  mDiffSince : Option Nat := none
  /-- Window record of the head (R196): anchor time, anchor turn, M. -/
  anchorTime : Nat := 0
  anchorTurn : Nat := 0
  anchorM : Nat := 1
  /-- M is to be computed anew (R195, R196); the next record carries CHANGE (R168, R485). -/
  mDue : Bool := false
  changeDue : Bool := false
  /-- Last rising SYNC edge that ended a usable period (R713). -/
  syncUsable : Nat := 0
  /-- Angle comparators in use (R171). -/
  comps : List AngleComp := []
  /-- Comparator events not yet taken by their user, by user number (R173, R178, R179). -/
  fired : KMap Nat := []
  /-- Shadows (R180, R181): key (index × 256 + subindex) × 8 + master, the high half and when it was latched. -/
  shadows : KMap (Nat × Nat) := []
  deriving DecidableEq, Repr

/-- An interval of a tag condition: its start, and its end once it has ended (R203). -/
structure TagSpan where
  start : Nat
  stop : Option Nat
  deriving DecidableEq, Repr

/-- One output kind of one channel: SEQ, SETTLE outputs still to come and the change they count from, the last word with
no CAL, SETTLE or OWT (R205, R207, R209). -/
structure KindSt where
  seq : Nat := 0
  settle : Nat := 0
  since : Nat := 0
  clean : Int := 0
  deriving DecidableEq, Repr

/-- One precision channel (R184): its three output kinds and the spans of its tag conditions, newest first. -/
structure ChanSt where
  prec : KindSt := {}
  std : KindSt := {}
  wide : KindSt := {}
  owt : List TagSpan := []
  cal : List TagSpan := []
  clip : List TagSpan := []
  /-- The latest precision word (R203). -/
  word : Nat := 0
  /-- Its represented instant (R202). -/
  instant : Nat := 0
  measured : Bool := false
  /-- Sum and count of usable precision outputs of the present 100 ms (R268). -/
  sum : Int := 0
  count : Nat := 0
  all : Nat := 0
  deriving DecidableEq, Repr

/-- Chapter 5: precision measurement. -/
structure MeasSt where
  /-- Precision converters of H1 and H2 fenced (R190). -/
  h1Fenced : Bool := false
  h2Fenced : Bool := false
  /-- Converters powered (R122 step 8, R135). -/
  powered : Bool := false
  /-- Consecutive checks in each decision of R188: REFS, faulty 1, faulty 2, undecided. -/
  refRuns : KMap Nat := []
  /-- REFSBAD and REFUNDEC (R188). -/
  refsBad : Bool := false
  refUndec : Bool := false
  /-- Channels 1 to 24. -/
  chans : KMap ChanSt := []
  /-- Local 1 ms windows in use (R198). -/
  localWin : Bool := true
  /-- Start of the window in progress: instant, and turn number where windows run on turns (R196). -/
  winStart : Nat := 0
  winTurn : Nat := 0
  /-- M in use (PrecisionTurns, R194). -/
  m : Nat := 1
  /-- An anchor known but not yet reached: time, turn, M (R196, R197). -/
  anchorPend : Option (Nat × Nat × Nat) := none
  /-- Wideband words waiting for the thirteenth of their slot, by cell; 0 is the current (R490). -/
  wideBuf : KMap (List Nat) := []
  stdBuf : KMap (List Nat) := []
  /-- Change of the channel in use not yet marked on a current output (R326). -/
  currentChanged : Bool := false
  /-- SETTLE outputs still to come on the taps (R330), and end of the bias change window (R331). -/
  tapSettle : Nat := 0
  biasUntil : Nat := 0
  deriving DecidableEq, Repr

/-- The users of the auxiliary converter, in the order of R230. -/
inductive AuxUser where
  | fallback | capture | is1 | is2 | is3 | is4 | pawn0 | pawn1 | routine | hostReg
  deriving DecidableEq, Repr

/-- One entry to convert (R223): its position, channel code, acquisition of the first and of the other conversions,
number of conversions, shift, BLANK. -/
structure AuxEntry where
  pos : Nat
  chan : Nat
  acq1 : Nat
  acq : Nat
  n : Nat
  shift : Nat
  blank : Bool
  deriving DecidableEq, Repr

/-- A pass of a sequence, or one entry of another user, pending or running (R227, R228): entries still to do, and the
accumulator of the first of them. -/
structure AuxPass where
  user : AuxUser
  todo : List AuxEntry
  n : Nat := 0
  sum : Int := 0
  short : Bool := false
  clip : Bool := false
  bal : Bool := false
  cal : Bool := false
  /-- The entry waits for a blanking window since, and may convert without one (R235, R282). -/
  waitSince : Option Nat := none
  forced : Bool := false
  /-- Sample instant of the conversion that stands for the entry (R233, R244). -/
  instant : Nat := 0
  deriving DecidableEq, Repr

/-- The conversion in progress: whose, on which channel, and whether its acquisition is too short (R220, R221). -/
structure AuxConv where
  user : AuxUser
  chan : Nat
  short : Bool
  deriving DecidableEq, Repr

/-- The mean of a channel over the present 100 ms: sum, usable results, all results (R268, R269). -/
structure MeanSt where
  sum : Int := 0
  count : Nat := 0
  all : Nat := 0
  deriving DecidableEq, Repr

/-- A remeasurement that waits for its partner output: position, value in µV, instant (R245). -/
structure PawnPend where
  pos : Nat
  uv : Int
  instant : Nat
  deriving DecidableEq, Repr

/-- The pawn and the passive request of one legacy device (R240 to R251). -/
structure PawnSt where
  en : Bool := true
  window : Nat := 4
  ptr : Nat := 0
  /-- The round has ended; the next turn starts a new one (R243). -/
  ended : Bool := false
  round : Nat := 0
  res : KMap Nat := []
  fail : List Nat := []
  /-- Positions whose last non-SKIP visit was a mismatch (R248). -/
  missed : List Nat := []
  /-- Position under remeasurement, and when it was to be taken (R246). -/
  cur : Option (Nat × Nat) := none
  pend : List PawnPend := []
  /-- Positions whose passive balancing is requested, and until when (R251). -/
  bal : List Nat := []
  balEnd : Option Nat := none
  deriving DecidableEq, Repr

/-- Chapter 6: auxiliary converter and legacy view. -/
structure AuxSt where
  /-- Conversion in progress and the channel converted last (R220). -/
  cur : Option AuxConv := none
  lastChan : Option Nat := none
  /-- Passes pending or running. -/
  passes : List AuxPass := []
  /-- Slot of the capture auxiliary stream, 0 to 3 (R231). -/
  slot : Nat := 0
  /-- SEQ per entry: key user × 64 + position (R226). -/
  seq : KMap Nat := []
  /-- Failed self-checks in succession, the readings of ZERO and REFA_HALF in this pass, and FAILED (R234). -/
  failRun : Nat := 0
  zeroBad : Bool := false
  failed : Bool := false
  /-- Latest result word by channel code of the routine sequence (R236). -/
  words : KMap Nat := []
  /-- Means over the present 100 ms by channel code (R268, R269). -/
  means : KMap MeanSt := []
  /-- Blanking window: open since, and the bleeders it holds off (R280). -/
  blankAt : Option Nat := none
  blankOff : List Nat := []
  /-- Words of the capture auxiliary stream waiting for the thirteenth, by channel code (R640). -/
  capBuf : KMap (List Nat) := []
  /-- When the routine and the host regular sequence were last triggered (R227). -/
  routineAt : Nat := 0
  hostRegAt : Nat := 0
  /-- The two legacy devices. -/
  dev0 : PawnSt := {}
  dev1 : PawnSt := {}
  deriving DecidableEq, Repr

/-- A test of R256 or R259: force or sense, and its index. -/
structure OwtId where
  force : Bool
  k : Nat
  deriving DecidableEq, Repr

/-- An open-wire test in progress (R260): baseline and test readings in µV, in the order of the channels measured. -/
structure OwtTest where
  id : OwtId
  /-- Test current or bleeder on since (step 3). -/
  onSince : Option Nat := none
  base : List Int := []
  /-- Test entries done (step 5). -/
  during : List Int := []
  /-- Balancing current flowed in a measured cell (R258). -/
  bal : Bool := false
  /-- It repeats a test that failed (R272). -/
  retest : Bool := false
  /-- It runs outside the schedule for a held pattern (R271). -/
  extra : Bool := false
  deriving DecidableEq, Repr

/-- What deviates in an interval (R270, R271): cells, their dual-path signs, and the signs of the two sums. -/
structure Pattern where
  cells : List (Nat × Bool)
  sn : Int
  fc : Int
  deriving DecidableEq, Repr

/-- Chapter 7: sense integrity. -/
structure IntegSt where
  /-- ROUNDDONE of IntegrityStatus (R265). -/
  roundDone : Bool := false
  /-- Next test of the round 0 to 2N, its start, and whether it is the fast round (R264, R265). -/
  pos : Nat := 0
  roundStart : Nat := 0
  fast : Bool := false
  /-- When the next test of the fast round is due (R265). -/
  nextAt : Nat := 0
  /-- Test in progress. -/
  test : Option OwtTest := none
  /-- A failed test to be repeated, by when (R272). -/
  retest : Option (OwtId × Bool × Nat) := none
  /-- Tests to run at once for a held pattern (R271). -/
  extra : List OwtId := []
  /-- Tests that failed in the round, for the end of a verdict after MAINTENANCE (R276). -/
  failedIn : List OwtId := []
  /-- Consecutive rounds with a resistance too high: key index for SN, 100 + n for force (R283). -/
  wiring : KMap Nat := []
  wiringHigh : List Nat := []
  /-- Pattern of the last intervals and how many in succession; the one held and being confirmed (R271). -/
  pattern : Option Pattern := none
  patternRun : Nat := 0
  held : Option Pattern := none
  /-- Verdicts: open sense and force wires, substituted cells, balancing inhibited, suspect force paths (R273, R274). -/
  senseOpen : List Nat := []
  forceOpen : List Nat := []
  subst : List Nat := []
  inhibit : List Nat := []
  forceSuspect : List Nat := []
  chanSuspect : List Nat := []
  /-- UNDECIDED, STACKSUP, OVERDUE (R284). -/
  undecided : Bool := false
  stackSup : Bool := false
  overdue : Bool := false
  /-- d_n in µV (R268) and ΣC (R269) of the last interval. -/
  dn : KMap Int := []
  sumC : Option Int := none
  stackSn : Option Int := none
  stackFc : Option Int := none
  deriving DecidableEq, Repr

/-- One flyback converter (R286, R319): `sel` is the connected cell, 0 none. -/
structure FlybackSt where
  fenced : Bool := false
  on : Bool := false
  charge : Bool := false
  blanked : Bool := false
  sel : Nat := 0
  icell : Rat := 0
  /-- Set-point magnitude before the trim (R294), and the end of the 0.5 ms hold after enabling (R436). -/
  limit : Rat := 0
  holdUntil : Nat := 0
  deriving DecidableEq, Repr

/-- A span of balancing current in a cell (R267): its end, once known, includes the tail. -/
structure FlowSpan where
  start : Nat
  flyback : Bool
  stop : Option Nat
  deriving DecidableEq, Repr

/-- Chapter 8: balancing. -/
structure BalSt where
  /-- Bleeders switched on, by cell 1 to 24. -/
  bleeders : List Nat := []
  /-- Flyback converters 1 to 6. -/
  fly : KMap FlybackSt := []
  /-- Transfer converter running, its command in W, fenced (R289, R317). -/
  transferOn : Bool := false
  transferCmd : Rat := 0
  xferFenced : Bool := false
  /-- Balancing current by cell, newest span first (R267). -/
  flow : KMap (List FlowSpan) := []
  /-- Remaining targets in µC by cell (R300, R307). -/
  targets : KMap Rat := []
  /-- Transfer limit in 0.1 W (R304). -/
  transferLimit : Int := 0
  /-- End of the lease, LEASEEXP, and the flags of the record (R303, R310). -/
  leaseEnd : Option Nat := none
  leaseExp : Bool := false
  stop : Bool := false
  legacyOk : Bool := false
  /-- PLAN_SEQ of the last accepted record, when it came, and what was booked under it (R306, R308). -/
  planSeq : Option Nat := none
  planAt : Nat := 0
  done : KMap Rat := []
  xferJ : Rat := 0
  leaseBroken : Bool := false
  /-- Balancing charge in µC and current in A by cell (R314). -/
  charge : KMap Rat := []
  amps : KMap Rat := []
  /-- Measured bus voltage, transfer power, and when the books were last integrated (R314). -/
  busV : Rat := 0
  transferAux : Rat := 0
  /-- Terms of the books of the present 10 s: charge out and in (µC), transfer and loss energy (J), bus voltage at the
  start, sums and counts of cell readings (R315). -/
  qOut : Rat := 0
  qIn : Rat := 0
  eXfer : Rat := 0
  eLoss : Rat := 0
  busStart : Rat := 0
  vSum : Int := 0
  vCount : Nat := 0
  /-- Consecutive failed and passed checks, BOOKS (R316). -/
  bookFails : Nat := 0
  bookPasses : Nat := 0
  books : Bool := false
  /-- Balancing-bus fault until start-up, bleeder banks disconnected (R317, R318). -/
  busFault : Bool := false
  bank1Off : Bool := false
  bank2Off : Bool := false
  /-- Stopped in hardware by the bus voltage: charging with export, discharging with import (R288). -/
  underStop : Bool := false
  overStop : Bool := false
  /-- Cells inhibited by voltage, and TEMPINHIBIT (R293). -/
  noCharge : List Nat := []
  noDischarge : List Nat := []
  tempInhibit : Bool := false
  /-- Trim g of the bus-voltage loop (R438). -/
  trim : Rat := 0
  /-- Head: PLAN_SEQ per node, cells active by node × 32 + cell, TRANSFER_ACT and F per node (R301, R302). -/
  planSeqs : KMap Nat := []
  activeCells : List Nat := []
  xferAct : KMap Int := []
  derates : KMap Rat := []
  /-- When the head last computed a plan, and when the books were last checked, in periods (R301, R315). -/
  computeAt : Nat := 0
  booksAt : Nat := 0
  /-- Second of the last reselection (R296). -/
  selSec : Option Nat := none
  /-- Cells whose remaining target has reached zero or changed sign (R300). -/
  reached : List Nat := []
  /-- Force wires at which R295 scales (BalLimited counts the beginnings). -/
  limited : List Nat := []
  deriving DecidableEq, Repr

/-- Chapter 9: head I/O and protection. -/
structure HeadIoSt where
  /-- Short-circuit latch (R324). -/
  scLatch : Bool := false
  /-- Consecutive deviations and agreements of the channels, and CURDISAGREE (R327). -/
  curDev : Nat := 0
  curAgree : Nat := 0
  curDisagree : Bool := false
  /-- Shunt and fluxgate channel faults, held until start-up (R328). -/
  shuntFault : Bool := false
  fluxFault : Bool := false
  /-- HV tap network connected (R104, R330). -/
  tapsOn : Bool := false
  /-- String-voltage disagreement since (R332). -/
  svDisagreeSince : Option Nat := none
  /-- Insulation monitor: 0 off, 1 state A, 2 state B, and since when (R334). -/
  isoState : Nat := 0
  isoSince : Nat := 0
  /-- Means of the last state A, none when it was unsettled (R335). -/
  isoA : Option (Rat × Rat) := none
  /-- UNSETTLED of HeadIoStatus (R334). -/
  isoUnsettled : Bool := false
  /-- Instant of the last evaluated cycle, with the age it had then in s (R335). -/
  isoEval : Option (Nat × Nat) := none
  /-- Consecutive cycles below and above the thresholds, ISOWARN and ISOALARM (R338). -/
  isoWarnRun : Nat := 0
  isoWarnClr : Nat := 0
  isoWarn : Bool := false
  isoAlarmRun : Nat := 0
  isoAlarmClr : Nat := 0
  isoAlarm : Bool := false
  /-- Loop current at or above 8.0 mA since (R340, R344). -/
  loopOkSince : Option Nat := none
  /-- Hardware coil cut latched (R340). -/
  coilCut : Bool := false
  /-- Waiting for a trip notice after a loop loss until (R343). -/
  tripWaitEnd : Option Nat := none
  /-- Newest trip notice heard or sent: node, cause, when (R343). -/
  tripHeard : Option (Nat × Nat × Nat) := none
  /-- ContactorState (0x4030.10). -/
  contactor : Nat := 0
  /-- Step of the closing sequence, 0 none, and its start (R347). -/
  closeStep : Nat := 0
  /-- Step of the opening sequence, 0 none (R351). -/
  openStep : Nat := 0
  /-- Start of the present sequence step. -/
  stepStart : Nat := 0
  /-- End of the current wait of opening step 3 (R351, R353). -/
  openWaitEnd : Nat := 0
  /-- The running opening was commanded by ContactorCommand (R706). -/
  openOrderly : Bool := false
  /-- Coils driven: MAINPOS, MAINNEG, PRECHG. -/
  mainPos : Bool := false
  mainNeg : Bool := false
  prechg : Bool := false
  /-- LINKHELD (R349). -/
  linkHeld : Bool := false
  /-- Weld verdict held (R348). -/
  weld : Bool := false
  /-- End of the precharge lockout (R350). -/
  lockoutEnd : Option Nat := none
  /-- A coil-driver fault of R364 is held until start-up. -/
  coilFault : Bool := false
  /-- A trip reset has been sent since the trip (R344). -/
  resetSent : Bool := false
  /-- Threshold conditions held (R357). -/
  held : List ProtCond := []
  /-- A trip-level condition holds the switch or loop source open until a trip reset (R342). -/
  tripLatch : Bool := false
  /-- When the own open request is due again (R358). -/
  openReqAt : Option Nat := none
  /-- Last open request of each node (R358). -/
  remoteOpen : KMap Nat := []
  /-- Released to service by the head, in a segment (R345). -/
  released : Bool := false
  /-- SEQ of the last limit record (R361). -/
  limitSeq : Nat := 0
  /-- When the last limit record was computed (R359). -/
  limitAt : Nat := 0
  /-- A factor below 1 was in force (DERATED of R361). -/
  derated : Bool := false
  /-- Node IDs whose copy of the protection set awaits its response (R356). -/
  protPending : List Nat := []
  deriving DecidableEq, Repr

/-- A recorded rest point (R389): s_v, u_r, q in µC, ring time, start-ups and gaps so far. -/
structure RestPt where
  sv : Rat
  ur : Rat
  q : Rat
  time : Nat
  breaks : Nat
  deriving DecidableEq, Repr

/-- The sums of an impedance bin (R397): Σ V·conj(I), Σ |I|², accepted blocks. -/
structure BinSt where
  re : Rat := 0
  im : Rat := 0
  i2 : Rat := 0
  blocks : Nat := 0
  deriving DecidableEq, Repr

/-- A running sum of outputs: sum in µV, usable outputs, all outputs. -/
structure SumSt where
  sum : Rat := 0
  count : Nat := 0
  all : Nat := 0
  deriving DecidableEq, Repr

/-- What the newest outputs of a cell's kinds carried (R393, R397): instant of the newest output with SETTLE, CLIP, OWT
or CAL, by kind, and of the newest with BAL. -/
structure TaintSt where
  std : Nat := 0
  prec : Nat := 0
  wide : Nat := 0
  stdBal : Nat := 0
  wideBal : Nat := 0
  deriving DecidableEq, Repr

/-- The estimation of one cell (R372 to R400). -/
structure EstCell where
  /-- s and u in %, unclamped (R372, R373). -/
  s : Rat := 50
  u : Rat := 50
  /-- q in µC (ChargeCount) and the BalCharge it was last advanced from (R367, R372). -/
  q : Rat := 0
  balPrev : Rat := 0
  /-- Learned capacity in Ah, 0 not learned (R390, R401). -/
  cap : Rat := 0
  initial : Bool := true
  /-- Consecutive checks of R378 and R379: due, below s_lo, above s_hi. -/
  due : Nat := 0
  low : Nat := 0
  high : Nat := 0
  /-- Instants of the last rebase and clamps (R381). -/
  rebasedAt : Option Nat := none
  clampLoAt : Option Nat := none
  clampHiAt : Option Nat := none
  /-- s_v, g and u_v of the last check formed (R377). -/
  check : Option (Rat × Rat × Rat) := none
  /-- Outputs of the present second, with the widening of BAL outputs in V (R377, R279), and of the present minute. -/
  sec : SumSt := {}
  leak : Rat := 0
  min : SumSt := {}
  /-- 1 min means of the outputs, newest first (R388). -/
  minMeans : List Rat := []
  /-- Charge of the cell current in the present second, in As, and 1 s mean currents, newest first (R377). -/
  secCharge : Rat := 0
  curMeans : List Rat := []
  /-- Balancing charge of the present minute, and 1 min means in A, newest first (R388). -/
  minBal : Rat := 0
  balMeans : List Rat := []
  /-- First outputs after start-up (R382). -/
  first : SumSt := {}
  restAt : Option Nat := none
  kept : Option RestPt := none
  /-- Integral of |cell current| since the kept point, in As (R390). -/
  throughput : Rat := 0
  /-- Step values in Ω (R394). -/
  r0 : Option Rat := none
  r1 : Option Rat := none
  r2 : Option Rat := none
  /-- Hour in progress and the relative hourly means of the window, in µV, oldest first (R398). -/
  hour : SumSt := {}
  hours : List Rat := []
  /-- Windows in succession with i_sd − u_sd above SdWarn, and the two flags (R400). -/
  sdRun : Nat := 0
  sdWarn : Bool := false
  sdAlarm : Bool := false
  taint : TaintSt := {}
  /-- Last enabling, disabling or reselection of the cell's converter (R393). -/
  flyAt : Nat := 0
  /-- Bins 0 to 63 and the published spectrum (R397). -/
  bins : KMap BinSt := []
  spectrum : KMap (Rat × Rat) := []
  deriving DecidableEq, Repr

/-- A record write in progress (R403, R404): copy address, bytes, stage (0 waiting, 1 on the bus, 2 read back), when it may
be tried again, mismatches in succession. -/
structure RecWrite where
  addr : Nat
  data : Bytes
  stage : Nat
  due : Nat
  fails : Nat
  deriving DecidableEq, Repr

/-- A load step whose terms are open (R392, R393): instant, I_pre in A, V_pre by cell in µV, the next term (0 to 2), and
R(1 ms), R(100 ms) of the cells whose terms were accepted. -/
structure StepSt where
  ts : Nat
  iPre : Rat
  vPre : KMap Rat
  term : Nat
  r : KMap Rat
  deriving DecidableEq, Repr

/-- An estimate record the head holds of a node (R406): when it came, FLAGS, values. -/
structure EstIn where
  time : Nat
  flags : Nat
  values : List Nat
  deriving DecidableEq, Repr

/-- Chapter 10: estimation. -/
structure EstSt where
  cells : KMap EstCell := []
  /-- Current words of the present millisecond: sum in mA, magnitudes and sum of clipped ones, number (R372, R374). -/
  msSum : Int := 0
  msClip : Nat := 0
  msClipSum : Int := 0
  msWords : Nat := 0
  /-- Mean of the last millisecond with words, in A (R375). -/
  lastMean : Rat := 0
  /-- Last word: grid index of its slot, value in mA, TIME count of its arrival (R366, R375). -/
  lastGrid : Option Nat := none
  lastWord : Int := 0
  wordAt : Nat := 0
  /-- A gap runs, up to where it has been integrated; COUNTGAP and COUNTHOLD (R375). -/
  gap : Bool := false
  filledTo : Nat := 0
  gapSeen : Bool := false
  hold : Bool := false
  /-- Instant of the newest current word that was missing or clipped (R397). -/
  curBad : Nat := 0
  /-- Start-ups and gaps so far (R389). -/
  breaks : Nat := 0
  /-- String current below C/200 since (R388); last activity, and start of the episode and of its hour (R398). -/
  quietSince : Option Nat := none
  activeAt : Nat := 0
  episode : Option Nat := none
  hourAt : Nat := 0
  /-- First usable output since start-up, and the first estimate has been taken (R382, R383). -/
  firstAt : Option Nat := none
  firstDone : Bool := false
  startAt : Nat := 0
  /-- STATEREC, NOCAP, CAPWRITEPEND (R410), LEARNS (R401). -/
  stateRec : Bool := false
  noCap : Bool := false
  capPend : Bool := false
  learns : Nat := 0
  /-- Record writes in progress and when the SoC record was last due (R403). -/
  socWrite : Option RecWrite := none
  capWrite : Option RecWrite := none
  socDue : Nat := 0
  /-- Length in s of the KEEPALIVE from which this start came, and the stack voltage at its entry (R384, R385). -/
  kaSeconds : Option Nat := none
  kaStack : Rat := 0
  step : Option StepSt := none
  /-- SEQ of the two estimate records, and a capacity change to be sent (R406). -/
  socSeq : Nat := 0
  capSeq : Nat := 0
  /-- Records the head holds, by node (R407). -/
  socIn : KMap EstIn := []
  capIn : KMap EstIn := []
  deriving DecidableEq, Repr

/-- One ramp limiter (R426 to R430): output, newest target, direction of its last movement, end of a dwell. -/
structure LimSt where
  out : BitVec 32 := 0
  target : BitVec 32 := 0
  up : Option Bool := none
  dwellEnd : Option Nat := none
  clamped : Bool := false
  deriving DecidableEq, Repr

/-- One loop instance (R411): observer state, limiters, applied outputs, banks and status. -/
structure LoopInst where
  enabled : Bool := false
  active : Nat := 0
  pend : Option Nat := none
  xhat : List (BitVec 32) := []
  lim : KMap LimSt := []
  u : List (BitVec 32) := []
  lastKnown : List (BitVec 32) := []
  badRun : Nat := 0
  inputLost : Bool := false
  numeric : Bool := false
  frozen : Bool := false
  bypass : Bool := false
  outSat : Bool := false
  deriving DecidableEq, Repr

/-- Chapter 11: loop engine and thermal control. -/
structure LoopSt where
  /-- Instances 0 to 15; the shipped ones run from start-up (R435). -/
  insts : KMap LoopInst := []
  /-- Stalled fans, and since when each has run above 20 % again (R445). -/
  stalled : List Nat := []
  stallOkSince : KMap Nat := []
  /-- NTCRULE, COREHOT, VALVEFAULT (R451). -/
  ntcRule : Bool := false
  coreHot : Bool := false
  valveFault : Bool := false
  /-- Squares of the string current words of the present second, their number, and I_rms of the last one (R440). -/
  sqSum : Rat := 0
  sqCount : Nat := 0
  rmsSq : Rat := 0
  rmsAt : Nat := 0
  /-- Mean string current of the last millisecond: sum, count, value (R421 code 0x0F). -/
  msSum : Rat := 0
  msCount : Nat := 0
  msMean : Rat := 0
  msAt : Nat := 0
  deriving DecidableEq, Repr

/-- A slot waiting for a token in a transmit queue (R469, R473). -/
structure QSlot where
  hdr : SlotHdr
  payload : Bytes
  own : Bool
  stomp : Bool := false
  deriving DecidableEq, Repr

/-- One ring port (R453 to R455, R468 to R472). -/
structure PortSt where
  /-- The receiver has light, block lock and SYNC. -/
  rx : Bool := false
  /-- Light lost, lock or SYNC lost since (R455). -/
  lossSince : Option Nat := none
  /-- Up under R455. -/
  up : Bool := false
  /-- Taken down by a received LINK_FAULT (PortState 4). -/
  byFault : Bool := false
  /-- Hold-off of R455 counted since. -/
  holdSince : Option Nat := none
  /-- LINK_FAULT slots are being sent (R454). -/
  sendingFault : Bool := true
  /-- PORTREADY and when the code-2 notice is due again (R483). -/
  ready : Bool := false
  readyRepeat : Nat := 0
  /-- Slots are turned at this port (R465, R482). -/
  turning : Bool := false
  /-- Instant U of the unwrap order (R483). -/
  unwrapAt : Option Nat := none
  /-- Header errors since the last census (R459). -/
  hdrErrors : Nat := 0
  /-- A census has been asked for (HDRERRLIM). -/
  censusAsked : Bool := false
  /-- Tokens spent and not returned, by class (R469): held = allocation − spent. -/
  spent : KMap Nat := []
  /-- Tokens owed upstream, by class, and the rotation (R469). -/
  owed : KMap Nat := []
  rot : Nat := 0
  /-- EPOCH bit sent, and until when token returns are discarded (R471). -/
  epoch : Bool := false
  discardUntil : Int := 0
  /-- Exit instants of the slots in the wrap buffer (R472). -/
  wrapBuf : List Nat := []
  /-- T1 of the DELAY_REQ outstanding (R487). -/
  delayT1 : Option Nat := none
  /-- Slots waiting for a token, in order. -/
  waiting : List QSlot := []
  deriving DecidableEq, Repr

/-- A census the head runs (R477). -/
structure CensusRun where
  no : Nat
  start : Nat
  deriving DecidableEq, Repr

/-- A census result that has not taken effect (R477). -/
structure CensusPend where
  no : Nat
  n : Nat
  turnAt : Nat
  effective : Nat
  deriving DecidableEq, Repr

/-- Chapter 12: the ring. -/
structure RingSt where
  east : PortSt := {}
  west : PortSt := {}
  /-- A census result is held, so the member has a square (R464). -/
  hasSquare : Bool := false
  square : Int := 0
  /-- N, TURN_AT and CENSUS_NO of the census in force. -/
  n : Nat := 0
  turnAt : Nat := 255
  censusNo : Nat := 0
  /-- Own count in a census not yet resolved: number, count, instant (R477, R480). -/
  counted : Option (Nat × Nat × Nat) := none
  /-- Last CENSUS_NO counted (R480). -/
  lastCounted : Option Nat := none
  /-- Census the head runs (R477). -/
  run : Option CensusRun := none
  /-- Next CENSUS_NO of this head. -/
  nextNo : Nat := 1
  /-- Result not yet effective. -/
  pend : Option CensusPend := none
  /-- Consecutive failures, and when the next try is due (R479). -/
  failures : Nat := 0
  retryAt : Option Nat := none
  /-- Another census is to start at the effective instant (R481). -/
  again : Bool := false
  /-- Until when the head waits for replies (R481). -/
  replyBy : Option Nat := none
  /-- The membership changed in the census in progress (R59). -/
  changed : Bool := false
  /-- Unicast withheld until a census of the own head role takes effect (R704). -/
  noUnicast : Bool := false
  /-- Square-0 traffic goes as broadcasts (R604). -/
  sq0Broadcast : Bool := false
  /-- Turned slots pass outside token control (R472). -/
  bypass : Bool := false
  /-- Next SEQ per class and type (R461). -/
  txSeq : KMap Nat := []
  /-- "Both" slots whose first copy has been delivered: source, class and type, SEQ, instant (R462). -/
  seen : List (Int × Nat × Nat × Nat) := []
  /-- Producers stopped by queue-books, per queue (R497). -/
  stopped : List Nat := []
  /-- Transmit queues that refused a TC0 or TC1 slot since the last books check (R475). -/
  refused : List Nat := []
  /-- Head: instant U of its unwrap order (R483). -/
  unwrapAt : Option Nat := none
  /-- Node IDs by square + 64, as STATUS slots have shown them (R485). -/
  nodeOf : KMap Nat := []
  /-- Both ports down since (R497). -/
  downSince : Option Nat := some 0
  /-- PRECISION part waiting for its partner: source, SEQ, part (R492). -/
  precPart : List (Int × Nat × Nat) := []
  deriving DecidableEq, Repr

/-- The states of a CAN controller, by the codes of BusState (R526). -/
inductive CanState where | off | listening | active | passive | busOff | recovering | disabled
  deriving DecidableEq, Repr

/-- One control bus (R499 to R534). -/
structure BusSt where
  st : CanState := .off
  txErr : Nat := 0
  rxErr : Nat := 0
  /-- Queued frames, oldest first (R522). -/
  txq : List TxFrame := []
  /-- PX frames waiting for a buffer (R523). -/
  waitPx : List TxFrame := []
  /-- Consecutive acknowledge errors and LONELY (R530). -/
  ackRun : Nat := 0
  lonely : Bool := false
  lonelyAt : Nat := 0
  /-- TDCFAIL (R503). -/
  tdcFail : Bool := false
  /-- Disabled by the mailbox books until start-up (R525). -/
  booksBad : Bool := false
  /-- Instants of the bus-offs within 600 s (R529). -/
  offTimes : List Nat := []
  /-- Bus-off hold-off started at (R527). -/
  holdSince : Option Nat := none
  /-- Rates the controller runs at. -/
  rates : BusRates := { nominal := 1, data := 4, triple := false }
  /-- Bus-off recovery runs since (R526). -/
  recoverSince : Option Nat := none
  /-- Notice frames sent on this bus, with when, for the copies of R528: node, TYPE and SEQ. -/
  sentNotices : List ((Nat × Nat × Nat) × Nat) := []
  /-- Missed heartbeat periods in succession, heartbeat seen in this period, HBMISS (R531). -/
  hbMissed : Nat := 0
  hbSeen : Bool := false
  hbMiss : Bool := false
  deriving DecidableEq, Repr

/-- A frame whose copies the voter compares (R519): the first copy's instant, the copies, the frame queued. -/
structure VoteSt where
  start : Nat
  copies : List (Lane × VoteFrame)
  queued : Option VoteFrame
  deriving DecidableEq, Repr

/-- Chapter 13: the control buses. -/
structure CanSt where
  a : BusSt := {}
  b : BusSt := {}
  /-- Frame votes in progress, oldest first (R519, R520). -/
  votes : List VoteSt := []
  /-- Notices delivered: sender, TYPE, SEQ, instant (R506). -/
  notices : List (Nat × Nat × Nat × Nat) := []
  /-- Both buses unusable since (R534). -/
  lostSince : Option Nat := none
  /-- Stopped sending under the own node ID until it joins again (R518). -/
  idStopped : Bool := false
  deriving DecidableEq, Repr

/-- The key of a stored response and of a block transfer (R549). -/
structure PxKey where
  kind : Nat
  origin : Int
  session : Nat
  tid : Nat
  service : Nat
  index : Nat
  sub : Nat
  deriving DecidableEq, Repr

/-- A stored response (R549). -/
structure PxStored where
  key : PxKey
  path : PxPath
  node : Nat
  counter : Nat
  since : Nat
  frame : Bytes
  deriving DecidableEq, Repr

/-- An RWP write waiting for its pack-memory copy (R541). -/
structure RwpPending where
  q : PxReq
  key : PxKey
  index : Nat
  sub : Nat
  data : Bytes
  role : Nat
  counter : Nat
  since : Nat
  deriving DecidableEq, Repr

/-- An open block transfer (R551 to R556). -/
structure BlockXfer where
  q : PxReq
  index : Nat
  sub : Nat
  write : Bool
  live : Bool
  offset : Nat
  size : Nat
  segs : KMap Bytes
  next : Nat
  sent : Nat
  resends : Nat
  lastFrame : Nat
  ackDue : Option Nat
  deriving DecidableEq, Repr

/-- A change-log entry (R567). -/
structure ChangeEntry where
  entry : Nat
  time : Nat
  index : Nat
  sub : Nat
  ty : Nat
  path : Nat
  origin : Int
  role : Nat
  result : Nat
  session : Nat
  flags : Nat
  old : Bytes
  new : Bytes
  created : Nat
  deriving DecidableEq, Repr

/-- Chapter 14: Parameter Exchange. -/
structure PxSt where
  /-- Responses to the last 16 requests (R549). -/
  stored : List PxStored := []
  /-- RWP writes awaiting pack memory, oldest first (R541). -/
  rwp : List RwpPending := []
  /-- Open block transfers (R556). -/
  blocks : List BlockXfer := []
  /-- Change log, newest first, at most 4,096 entries (R568). -/
  log : List ChangeEntry := []
  /-- Refusals logged in the present second, by requester key: second, kind and origin, count (R566). -/
  refusals : List (Nat × Nat × Int × Nat) := []
  /-- Instant of the last renewal of each HeadPubCopy (R563, R565). -/
  copyAt : KMap Nat := []
  /-- STALE of each node's directory entries (R565). -/
  stale : List Nat := []
  /-- Last word of a point without SETTLE, CLIP, OWT or CAL (R565): key node * 64 + point. -/
  good : KMap Nat := []
  /-- PointLimits of each node and point known to the head: key node * 64 + point (R565). -/
  limits : KMap (BitVec 32 × BitVec 32) := []
  /-- A PointLimits change of the own points waits to be reported to the head (R565). -/
  limitsDue : List Nat := []
  /-- Precision windows since start-up and GEN of the publication area (R560). -/
  pubWindow : Nat := 0
  pubGen : Nat := 0
  pubInstant : Nat := 0
  /-- Words of the published points (R560). -/
  pub : KMap Nat := []
  deriving DecidableEq, Repr

/-- First move (R588). -/
structure FirstMove where
  source : Nat
  severity : Nat
  time : Nat
  carried : Bool
  deriving DecidableEq, Repr

/-- The checkpoint a standby holds (R597) or collects (R494). -/
structure CkptStore where
  gen : Nat := 0
  content : Bytes := []
  /-- TAKEN of the content: a ring time. -/
  takenAt : Nat := 0
  deriving DecidableEq, Repr

/-- A carried fault record waiting to be written (R700). -/
structure CarryDue where
  source : Nat
  severity : Nat
  time : Nat
  latch : Bool
  carry : Bool
  deriving DecidableEq, Repr

/-- Chapter 15: lanes, faults, failover. -/
structure FaultSt where
  /-- Lanes A to C: 0 running, 1 fenced at self-test, 2 by disagreement, 3 by memory error. -/
  lane : KMap Nat := []
  /-- Lanes whose liveness token is missing (R571). -/
  silent : List Lane := []
  /-- ACTIVE and PENDING bits, by source number (R584). -/
  active : List Nat := []
  pending : List Nat := []
  /-- First move and OVERFLOW (R588). -/
  first : Option FirstMove := none
  overflow : Bool := false
  /-- An S2 reaction is in force (R586). -/
  degraded : Bool := false
  /-- Carried fault record due in pack memory (R700). -/
  carryDue : Option CarryDue := none
  /-- Highest severity of S3 and S4 raised since start-up (R700). -/
  carrySev : Nat := 0
  /-- Loop current flowed while the drive was off: the trip-driver check fails (R583). -/
  tripDriverBad : Bool := false
  /-- The minimum service set is not met (R582). -/
  minSetLost : Bool := false
  /-- Instant of the latest HEARTBEAT of another STRING_ID (R709). -/
  crossAt : Option Nat := none
  /-- Heartbeat seen in this 10 ms period on the ring; periods missed in succession on all sides (R599). -/
  ringHbSeen : Bool := false
  hbMissed : Nat := 0
  /-- Head failure recognised at (R599, R601). -/
  failAt : Option Nat := none
  /-- Last CKPT_GEN heard in a heartbeat (R597, R603). -/
  heardGen : Nat := 0
  /-- Checkpoint held and checkpoint being collected (R494, R597). -/
  ckpt : CkptStore := {}
  inGen : Nat := 0
  inSlots : KMap Bytes := []
  /-- Since when no checkpoint has been accepted (R597). -/
  ckptSince : Nat := 0
  /-- Checkpoints sent without a COMPLETE acknowledge in succession (R598). -/
  unacked : Nat := 0
  /-- Instant of the last COMPLETE acknowledge (R607). -/
  ackAt : Option Nat := none
  /-- Commanded handover running since, 0 none: step (R607). -/
  handoverSince : Option Nat := none
  handoverStep : Nat := 0
  /-- NEWMASTER is sent until (R485). -/
  newMasterUntil : Nat := 0
  /-- The voter itself has just sent the abdication (R580), so that entry into SAFE sends none (R581). -/
  voterOut : Bool := false
  /-- Pack identity of the head whose failure was recognised last, and until when its stragglers are not taken for a
  new head (R599, R601). -/
  deadPack : Nat × Nat := (0, 0)
  /-- After a takeover, until the replies of the first census are in: the former head's pack and whether it handed over
  (R603, R607). -/
  former : Option (Nat × Bool) := none
  deriving DecidableEq, Repr

/-- One SENT channel (R611 to R627). -/
structure SentChan where
  /-- Length of the previous calibration pulse, where it was accepted (R614). -/
  prev : Option Nat := none
  /-- Status nibbles of the serial message in assembly, oldest first (R622). -/
  asm : List Nat := []
  statusNib : Nat := 0
  /-- End of warm-up (R621). -/
  warmUntil : Option Nat := none
  timedOut : Bool := false
  /-- Start of the timeout count (R620). -/
  lastValid : Nat := 0
  /-- CLIP of R619 held since (R625). -/
  clipSince : Option Nat := none
  /-- Valid and rejected frames of the present second (R625). -/
  okSec : Nat := 0
  badSec : Nat := 0
  /-- Counters of R616 and entries of R623. -/
  errs : KMap Nat := []
  slow : KMap Nat := []
  /-- VALUE and tags of the latest valid frame, and SEQ (R618). -/
  value : Int := 0
  clip : Bool := false
  /-- CLIP by the status nibble (R619). -/
  diag : Bool := false
  seq : Nat := 0
  loopback : Bool := false
  deriving DecidableEq, Repr

/-- Chapter 16: SENT sensors. -/
structure SentSt where
  /-- Channels 1 to 8. -/
  ch : KMap SentChan := []
  deriving DecidableEq, Repr

/-- An entry of the episode list (R632). -/
structure Episode where
  start : Nat
  last : Nat
  kind : Nat
  code : Nat
  detail : Nat
  rep : Nat
  value : Int
  entry : Nat
  written : Bool
  deriving DecidableEq, Repr

/-- A capture record descriptor in use (R643, R647): state 1 recording, 2 held, 3 reading. -/
structure CapRec where
  id : Nat
  state : Nat
  cause : Nat
  merged : Bool
  shortPre : Bool
  poison : Bool
  timeFree : Bool
  truncated : Bool
  auxAbsent : Bool
  auxPresent : Bool
  node : Nat
  detail : Nat
  t : Nat
  start : Nat
  stop : Nat
  sources : Nat
  slots : Nat
  merges : Nat
  first : Nat
  deriving DecidableEq, Repr

/-- A slot kept in the capture store (R639): index and what it holds. -/
structure StoredSlot where
  index : Nat
  hdr : SlotHdr
  payload : Bytes
  instant : Nat
  /-- Words that read 0 for a double error (R637). -/
  poison : List Nat := []
  deriving DecidableEq, Repr

/-- A readout in progress (R648). -/
structure ReadoutSt where
  slot : Nat
  dest : Int
  chunk : Nat
  left : Nat
  deriving DecidableEq, Repr

/-- The accumulators of the day in progress (R636). -/
structure DaySt where
  day : Nat := 0
  since : Nat := 0
  partialDay : Bool := true
  vmin : KMap Int := []
  vmax : KMap Int := []
  tmin : KMap Rat := []
  tmax : KMap Rat := []
  throughput : Rat := 0
  onlineS : Nat := 0
  balS : Nat := 0
  raises : Nat := 0
  socMin : Option Rat := none
  socMax : Option Rat := none
  deriving DecidableEq, Repr

/-- Lowest and highest precision output of a cell with their instants (R630). -/
structure Extreme where
  lo : Int
  loAt : Nat
  hi : Int
  hiAt : Nat
  deriving DecidableEq, Repr

/-- A pack-memory transfer waiting for the bus (R655). -/
structure PmJob where
  rank : Nat
  addr : Nat
  data : Bytes
  fails : Nat
  due : Nat := 0
  counted : Bool := false
  deriving DecidableEq, Repr

/-- Chapter 17: recorder, capture memory, pack memory. -/
structure RecSt where
  /-- Episode list, newest first, at most 512 (R631). -/
  episodes : List Episode := []
  /-- Live histogram counts: key histogram * 65536 + unit * 256 + bin (R628). -/
  hist : KMap Nat := []
  /-- Live extremes by cell (R630). -/
  extremes : KMap Extreme := []
  /-- Staged view of both (R633). -/
  histStaged : KMap Nat := []
  extStaged : KMap Extreme := []
  /-- The staged view in NOR, and since when a newer one has not reached it (R633, R638). -/
  histNor : KMap Nat := []
  extNor : KMap Extreme := []
  stageDue : Option Nat := none
  /-- Sums and counts of this second: cell voltages, current (R628). -/
  secCell : KMap (Int × Nat) := []
  secCurrent : Rat × Nat := (0, 0)
  /-- The day in progress (R636), a closed summary not yet written, days closed since start-up. -/
  day : DaySt := {}
  dayDue : Option (Nat × Bytes) := none
  dayCount : Nat := 0
  /-- Capture memory initialised, and capture stopped until start-up (R123, R124, R646). -/
  capInit : Bool := false
  capStopped : Bool := false
  /-- The 16 descriptors (R646). -/
  caps : KMap CapRec := []
  capNextId : Nat := 0
  /-- Slots written since initialisation: the write pointer (R639). -/
  writePtr : Nat := 0
  /-- The slots written since start-up that a record can still hold, newest first (R639, R643). -/
  store : List StoredSlot := []
  /-- Readout in progress (R648). -/
  readout : Option ReadoutSt := none
  /-- Start of the scrub pass and corrected errors in it (R638). -/
  scrubStart : Nat := 0
  scrubEnd : Nat := 0
  scrubCorrected : Nat := 0
  /-- NOR writes that failed verification in succession (R651). -/
  norFails : Nat := 0
  /-- Pack-memory transfers waiting, in order of request (R655). -/
  jobs : List PmJob := []
  /-- Pack memory answers on its bus (R124). -/
  pmPresent : Bool := false
  /-- Pack memory readable and its identity valid (R29, R124). -/
  packOk : Bool := false
  /-- Failed change-log copies in succession (R656). -/
  copyFails : Nat := 0
  /-- HoldupSkips of the last loss await their episode (R131). -/
  skips : Nat := 0
  deriving DecidableEq, Repr

/-- An open session (R665 to R668). -/
structure SessionSt where
  handle : Nat
  role : Nat
  path : PxPath
  origin : Int
  counter : Nat
  opened : Nat
  last : Nat
  key : Bytes
  /-- Closed once the response of the closing write has been sent. -/
  closing : Bool := false
  deriving DecidableEq, Repr

/-- A firmware slot (R673 to R684). -/
structure SlotSt where
  state : Nat := 0
  attempts : Nat := 0
  secVer : Nat := 0
  version : Nat := 0
  /-- TARGET_ID and TARGET_HASH; no hash is the image of manufacture. -/
  buildId : Nat := 0
  hash : Bytes := []
  minPeer : Nat := 0
  dictVersion : Nat := 0
  imageKey : Nat := 0
  length : Nat := 0
  /-- Stored blocks by slot position, as received or as encrypted under TARGET_ID (R674, R677). -/
  blocks : KMap Bytes := []
  deriving DecidableEq, Repr

/-- An update in progress (R676 to R681). -/
structure UpdateSt where
  manifest : Bytes := []
  received : List Nat := []
  /-- Checked blocks waiting to be programmed, oldest first (R678). -/
  buffered : List (Nat × Bytes) := []
  /-- Sectors of the inactive slot erased (R677). -/
  erased : Nat := 0
  tagFails : Nat := 0
  deriving DecidableEq, Repr

/-- Chapter 18: management, security, update, calibration, USB. -/
structure MgmtSt where
  /-- The management processor runs; restarts within the last hour; held in reset (R660). -/
  running : Bool := true
  restarts : List Nat := []
  heldReset : Bool := false
  /-- Calendar: seconds at a local instant, none while not valid (R661). -/
  calendar : Option (Nat × Nat) := none
  /-- Sessions (R665). -/
  sessions : List SessionSt := []
  /-- Challenges by requester: path kind, origin, value, instant (R664). -/
  challenges : List (Nat × Int × Nat × Nat) := []
  /-- Failure instants by requester, and lockouts with their end (R669). -/
  failures : List (Nat × Int × Nat) := []
  lockouts : List (Nat × Int × Nat) := []
  /-- Role keys by role code, image keys, revoked signing keys (R670, R672). -/
  roleKeys : KMap Bytes := []
  revoked : List Nat := []
  keysOk : Bool := true
  /-- Firmware slots A and B, the active one, and the update (R673). -/
  slotA : SlotSt := { state := 2 }
  slotB : SlotSt := {}
  activeB : Bool := false
  update : UpdateSt := {}
  lastRejected : Option (Nat × Nat) := none
  /-- The lanes restart once the response has been sent (R681). -/
  restartDue : Bool := false
  /-- Trial of the active slot runs since (R682, R683). -/
  trialSince : Option Nat := none
  /-- USB attached (R110). -/
  usb : Bool := false
  /-- Bytes of the USB data stream that may begin a frame and wait for the rest (R691). -/
  usbBuf : Bytes := []
  /-- Humidity above HumidityWarn since; condensation readings in succession; rails within 4 % since (R659). -/
  humidSince : Option Nat := none
  humid : Bool := false
  wetRun : Nat := 0
  dryRun : Nat := 0
  condense : Bool := false
  supplyBad : Bool := false
  railsOkSince : Option Nat := none
  /-- Field recalibration: passes completed, a visit that waits for its contender (R210), sums of zero and reference means and visits per channel, new coefficients
  (R689). -/
  calPass : Nat := 0
  calWait : Bool := false
  calSums : KMap (Rat × Rat × Nat) := []
  calNew : KMap (Rat × Rat) := []
  /-- When the last accepted field calibration ended (CalFieldAge, R214). -/
  calAt : Option Nat := none
  deriving DecidableEq, Repr

/-- The state of the module. -/
structure State where
  /-- The module's own TIME count in ns. -/
  now : Nat := 0
  /-- Ring time minus the TIME count (R157 to R161). -/
  ringOffset : Int := 0
  /-- Commands waiting, first in, first out. -/
  pending : List Instr := []
  /-- Object values (R537), only those that differ from their default. -/
  dict : Dict := []
  /-- Pack memory (R652), only the bytes that differ from 0. -/
  pm : List Host.Cell := []
  /-- What the module has put out, oldest first. -/
  out : List Out := []
  /-- Draws taken from the TRNG so far (the model's own counter for its free values). -/
  trngCount : Nat := 0
  ident : IdentSt := {}
  supply : SupplySt := {}
  md : ModeSt := {}
  tm : TimeSt := {}
  meas : MeasSt := {}
  aux : AuxSt := {}
  itg : IntegSt := {}
  bal : BalSt := {}
  hio : HeadIoSt := {}
  est : EstSt := {}
  lp : LoopSt := {}
  ring : RingSt := {}
  can : CanSt := {}
  px : PxSt := {}
  flt : FaultSt := {}
  sent : SentSt := {}
  rcd : RecSt := {}
  mgmt : MgmtSt := {}
  deriving DecidableEq, Repr

/-- The objects of the shipped loop instances that differ from the defaults of a host instance (R435, R436, R438, R441, R443): rate
divisor, bindings, limiter, set-point of the bus voltage, FailOutput. -/
def shippedDict : Dict :=
  [(0x601002, .nat 5),
   (0x601008, .bytes [0x09, 0x02, 0x00, 0x40, 0x00, 0x00, 0x00, 0x00, 0x00, 0x00, 0x00, 0x00, 0x00, 0x00, 0x00, 0x00]),
   (0x601009, .bytes [0x00, 0x01, 0x00, 0x80, 0x00, 0x00, 0x00, 0x00, 0x00, 0x00, 0x00, 0x00, 0x00, 0x00, 0x00, 0x00]),
   (0x601012, .bytes [0x00, 0x00, 0x40, 0xC0, 0x00, 0x00, 0x40, 0x40, 0x00, 0x80, 0xBB, 0x45, 0x00, 0x60, 0xEA, 0x46, 0x00, 0x00, 0x00, 0x00]),
   (0x601102, .nat 5),
   (0x601108, .bytes [0x0A, 0x02, 0x00, 0x40, 0x00, 0x00, 0x00, 0x00, 0x00, 0x00, 0x00, 0x00, 0x00, 0x00, 0x00, 0x00]),
   (0x601109, .bytes [0x00, 0x02, 0x00, 0x80, 0x00, 0x00, 0x00, 0x00, 0x00, 0x00, 0x00, 0x00, 0x00, 0x00, 0x00, 0x00]),
   (0x601112, .bytes [0x00, 0x00, 0x40, 0xC0, 0x00, 0x00, 0x40, 0x40, 0x00, 0x80, 0xBB, 0x45, 0x00, 0x60, 0xEA, 0x46, 0x00, 0x00, 0x00, 0x00]),
   (0x601202, .nat 5),
   (0x601208, .bytes [0x0B, 0x02, 0x00, 0x40, 0x00, 0x00, 0x00, 0x00, 0x00, 0x00, 0x00, 0x00, 0x00, 0x00, 0x00, 0x00]),
   (0x601209, .bytes [0x00, 0x03, 0x00, 0x80, 0x00, 0x00, 0x00, 0x00, 0x00, 0x00, 0x00, 0x00, 0x00, 0x00, 0x00, 0x00]),
   (0x601212, .bytes [0x00, 0x00, 0x40, 0xC0, 0x00, 0x00, 0x40, 0x40, 0x00, 0x80, 0xBB, 0x45, 0x00, 0x60, 0xEA, 0x46, 0x00, 0x00, 0x00, 0x00]),
   (0x601302, .nat 5),
   (0x601308, .bytes [0x0C, 0x02, 0x00, 0x40, 0x00, 0x00, 0x00, 0x00, 0x00, 0x00, 0x00, 0x00, 0x00, 0x00, 0x00, 0x00]),
   (0x601309, .bytes [0x00, 0x04, 0x00, 0x80, 0x00, 0x00, 0x00, 0x00, 0x00, 0x00, 0x00, 0x00, 0x00, 0x00, 0x00, 0x00]),
   (0x601312, .bytes [0x00, 0x00, 0x40, 0xC0, 0x00, 0x00, 0x40, 0x40, 0x00, 0x80, 0xBB, 0x45, 0x00, 0x60, 0xEA, 0x46, 0x00, 0x00, 0x00, 0x00]),
   (0x601402, .nat 5),
   (0x601408, .bytes [0x0D, 0x02, 0x00, 0x40, 0x00, 0x00, 0x00, 0x00, 0x00, 0x00, 0x00, 0x00, 0x00, 0x00, 0x00, 0x00]),
   (0x601409, .bytes [0x00, 0x05, 0x00, 0x80, 0x00, 0x00, 0x00, 0x00, 0x00, 0x00, 0x00, 0x00, 0x00, 0x00, 0x00, 0x00]),
   (0x601412, .bytes [0x00, 0x00, 0x40, 0xC0, 0x00, 0x00, 0x40, 0x40, 0x00, 0x80, 0xBB, 0x45, 0x00, 0x60, 0xEA, 0x46, 0x00, 0x00, 0x00, 0x00]),
   (0x601502, .nat 5),
   (0x601508, .bytes [0x0E, 0x02, 0x00, 0x40, 0x00, 0x00, 0x00, 0x00, 0x00, 0x00, 0x00, 0x00, 0x00, 0x00, 0x00, 0x00]),
   (0x601509, .bytes [0x00, 0x06, 0x00, 0x80, 0x00, 0x00, 0x00, 0x00, 0x00, 0x00, 0x00, 0x00, 0x00, 0x00, 0x00, 0x00]),
   (0x601512, .bytes [0x00, 0x00, 0x40, 0xC0, 0x00, 0x00, 0x40, 0x40, 0x00, 0x80, 0xBB, 0x45, 0x00, 0x60, 0xEA, 0x46, 0x00, 0x00, 0x00, 0x00]),
   (0x601602, .nat 100),
   (0x601608, .bytes [0x01, 0x02, 0x00, 0x40, 0x02, 0x02, 0x00, 0x80, 0x00, 0x00, 0x00, 0x00, 0x00, 0x00, 0x00, 0x00]),
   (0x601609, .bytes [0x00, 0x10, 0x00, 0x80, 0x00, 0x11, 0x00, 0x80, 0x00, 0x00, 0x00, 0x00, 0x00, 0x00, 0x00, 0x00]),
   (0x60160A, .f32 0x41400000#32),
   (0x601708, .bytes [0x04, 0x02, 0x00, 0x40, 0x05, 0x02, 0x00, 0x40, 0x03, 0x02, 0x00, 0x80, 0x00, 0x00, 0x00, 0x00]),
   (0x601709, .bytes [0x01, 0x09, 0x00, 0x50, 0x00, 0x00, 0x00, 0x00, 0x00, 0x00, 0x00, 0x00, 0x00, 0x00, 0x00, 0x00]),
   (0x601712, .bytes [0x00, 0x00, 0x48, 0xC2, 0x00, 0x00, 0xC8, 0x42, 0x00, 0x00, 0x80, 0x3F, 0x00, 0x00, 0x80, 0x3F, 0x00, 0x00, 0x00, 0x00]),
   (0x601716, .bytes [0x00, 0x00, 0xC8, 0x42, 0x00, 0x00, 0x00, 0x00, 0x00, 0x00, 0x00, 0x00, 0x00, 0x00, 0x00, 0x00]),
   (0x601808, .bytes [0x06, 0x02, 0x00, 0x40, 0x07, 0x02, 0x00, 0x40, 0x03, 0x02, 0x00, 0x80, 0x00, 0x00, 0x00, 0x00]),
   (0x601809, .bytes [0x01, 0x09, 0x00, 0x50, 0x00, 0x00, 0x00, 0x00, 0x00, 0x00, 0x00, 0x00, 0x00, 0x00, 0x00, 0x00]),
   (0x601812, .bytes [0x00, 0x00, 0x48, 0xC2, 0x00, 0x00, 0xC8, 0x42, 0x00, 0x00, 0x80, 0x3F, 0x00, 0x00, 0x80, 0x3F, 0x00, 0x00, 0x00, 0x00]),
   (0x601816, .bytes [0x00, 0x00, 0xC8, 0x42, 0x00, 0x00, 0x00, 0x00, 0x00, 0x00, 0x00, 0x00, 0x00, 0x00, 0x00, 0x00]),
   (0x601902, .nat 10000),
   (0x601908, .bytes [0x08, 0x02, 0x00, 0x40, 0x00, 0x00, 0x00, 0x00, 0x00, 0x00, 0x00, 0x00, 0x00, 0x00, 0x00, 0x00]),
   (0x601909, .bytes [0x00, 0x20, 0x00, 0x80, 0x00, 0x00, 0x00, 0x00, 0x00, 0x00, 0x00, 0x00, 0x00, 0x00, 0x00, 0x00]),
   (0x601912, .bytes [0x00, 0x00, 0x00, 0x00, 0x00, 0x00, 0xC8, 0x42, 0x00, 0x00, 0xA0, 0x41, 0x00, 0x00, 0xA0, 0x41, 0x00, 0x00, 0x00, 0x00]),
   (0x601916, .bytes [0x00, 0x00, 0xC8, 0x42, 0x00, 0x00, 0x00, 0x00, 0x00, 0x00, 0x00, 0x00, 0x00, 0x00, 0x00, 0x00]),
   (0x601A02, .nat 1000),
   (0x601A09, .bytes [0x00, 0x30, 0x00, 0x80, 0x00, 0x31, 0x00, 0x80, 0x00, 0x00, 0x00, 0x00, 0x00, 0x00, 0x00, 0x00])]

/-- The module right after reset: every field at the value stated beside it, the dictionary at its defaults and shipped
values, memory
with nothing listed. DESIGN CHOICE, log entries 2 to 4, 10 and 13, where the spec gives no value. -/
def State.reset : State := { dict := shippedDict }

end Sys2Proof.Machine
end

