-- ==== Sys2Proof/Machine/Ops.lean ====
section
/-! DEFINITION. The named operations over the state: time, the dictionary, pack memory, draws, modes and ports. -/
namespace Sys2Proof

/-- The other port. -/
def Port.other : Port → Port
  | .east => .west | .west => .east

/-- The index of a port in the 0x7002 objects. -/
def Port.idx : Port → Nat
  | .east => 0 | .west => 1

/-- The other bus. -/
def Bus.other : Bus → Bus
  | .ctlA => .ctlB | .ctlB => .ctlA

/-- The index of a bus in the 0x1100 objects. -/
def Bus.idx : Bus → Nat
  | .ctlA => 0 | .ctlB => 1

/-- The index of a lane in LaneState. -/
def Lane.idx : Lane → Nat
  | .laneA => 0 | .laneB => 1 | .laneC => 2

end Sys2Proof

namespace Sys2Proof.Machine

/-- The state at the instant `t` of the TIME count, which never runs back. DESIGN CHOICE, log entry 5. DESIGN CHOICE, log entry 6. -/
def State.tick (s : State) (t : Nat) : State := { s with now := max s.now t }

/-- What the counter has been slewed by since the last time record: at most 10 ppm of the time gone by (R159, R160; DESIGN CHOICE, log entry 22). -/
def State.slewed (s : State) : Int :=
  let lim : Int := ((s.now - s.tm.steerAt) / 100000 : Nat)
  max (-lim) (min lim s.tm.steerBy)

/-- Ring time of the module (R19, R157, R159): its TIME count plus the offset and the slew. -/
def State.ringTime (s : State) : Nat := ((s.now : Int) + s.ringOffset + s.slewed).toNat

/-- The slew so far becomes part of the offset; what is still to be slewed from here on is `off` (R159). DESIGN CHOICE, log entry 22. -/
def State.steerTo (s : State) (off : Int) : State :=
  { s with
    ringOffset := s.ringOffset + s.slewed
    tm := { s.tm with steerBy := off, steerAt := s.now } }

/-- Object value. -/
def State.val (s : State) (o : ObjDef) (i j : Nat := 0) : Val := s.dict.read o i j

/-- Object value as a number. -/
def State.nat (s : State) (o : ObjDef) (i j : Nat := 0) : Nat := (s.val o i j).toNat

/-- Object value as an integer. -/
def State.int (s : State) (o : ObjDef) (i j : Nat := 0) : Int := (s.val o i j).toInt

/-- Object value as a real number. -/
def State.rat (s : State) (o : ObjDef) (i j : Nat := 0) : Rat := (s.val o i j).toRat

/-- Whether a BOOL or flag object is 1. -/
def State.flag (s : State) (o : ObjDef) (i j : Nat := 0) : Bool := s.nat o i j == 1

/-- Whether an object row has an element (`i`, `j`). -/
def ObjDef.has (o : ObjDef) (i j : Nat) : Bool := decide (i < o.idxCount) && decide (j < o.subCount)

/-- Stores an object value in the element's own cell; an element that the row does not have is no cell. -/
def State.setVal (s : State) (o : ObjDef) (v : Val) (i j : Nat := 0) : State :=
  if o.has i j then { s with dict := s.dict.write o i j v } else s

/-- Stores a number. -/
def State.setNat (s : State) (o : ObjDef) (n : Nat) (i j : Nat := 0) : State := s.setVal o (.nat n) i j

/-- Stores a signed number. -/
def State.setInt (s : State) (o : ObjDef) (n : Int) (i j : Nat := 0) : State := s.setVal o (.int n) i j

/-- Stores a computed real. -/
def State.setRat (s : State) (o : ObjDef) (q : Rat) (i j : Nat := 0) : State :=
  if (o.dfltAt j).toRat = q then s.setVal o (o.dfltAt j) i j else s.setVal o (.real q) i j

/-- Stores a byte string. -/
def State.setBytes (s : State) (o : ObjDef) (b : Bytes) (i j : Nat := 0) : State := s.setVal o (.bytes b) i j

/-- A counter object advanced by one; it wraps at its width. -/
def State.bump (s : State) (o : ObjDef) (i j : Nat := 0) : State :=
  s.setNat o ((s.nat o i j + 1) % 2 ^ o.ty.bits) i j

/-- A counter object advanced by `n`; it wraps at its width. -/
def State.bumpBy (s : State) (o : ObjDef) (n : Nat) (i j : Nat := 0) : State :=
  s.setNat o ((s.nat o i j + n) % 2 ^ o.ty.bits) i j

/-- A counter object advanced by one that stays at its largest value. -/
def State.bumpSat (s : State) (o : ObjDef) (i j : Nat := 0) : State :=
  s.setNat o (min (s.nat o i j + 1) (2 ^ o.ty.bits - 1)) i j

/-- The next draw of the module's TRNG and the state after it (R521: read once, one common input). PRESUMED, log entry 7. -/
def State.draw (s : State) : Nat × State := (Config.trng s.trngCount, { s with trngCount := s.trngCount + 1 })

/-- One byte of a memory; an address that is not listed reads 0 (R652). DESIGN CHOICE, log entry 4. -/
def Memory.read (m : List Host.Cell) (a : Nat) : Byte := KMap.get m a 0

/-- One byte written; a zero is held by listing nothing. -/
def Memory.write (m : List Host.Cell) (a : Nat) (b : Byte) : List Host.Cell :=
  if b = 0 then KMap.del m a else KMap.set m a b

/-- Bytes written from address `a` upward. -/
def Memory.writeAll (m : List Host.Cell) (a : Nat) : Bytes → List Host.Cell
  | [] => m
  | b :: r => Memory.writeAll (Memory.write m a b) (a + 1) r

/-- Whether the addresses of a memory rise strictly above `lo` and no byte is 0. -/
def Memory.wfFrom (lo : Nat) : List Host.Cell → Bool
  | [] => true
  | (a, b) :: r => decide (lo ≤ a) && decide (b ≠ 0) && Memory.wfFrom (a + 1) r

/-- The canonical form: addresses strictly rising, no entry equal to what an unlisted address reads as. -/
def Memory.wf (m : List Host.Cell) : Bool := Memory.wfFrom 0 m

/-- `n` bytes of pack memory from address `a` (R652). DESIGN CHOICE, log entry 4. -/
def State.pmRead (s : State) (a n : Nat) : Bytes := (List.range n).map (fun k => Memory.read s.pm (a + k))

/-- Bytes written into pack memory from address `a`. -/
def State.pmWrite (s : State) (a : Nat) (b : Bytes) : State := { s with pm := Memory.writeAll s.pm a b }

/-- A number added to a list that holds no repeats. -/
def setInsert (l : List Nat) (k : Nat) : List Nat := if k ∈ l then l else l ++ [k]

/-- A number taken out of a list. -/
def setErase (l : List Nat) (k : Nat) : List Nat := l.filter (fun x => x != k)

/-- The code of a mode in Mode (R117); start-up and off have none and read as the default 2 is not claimed of them. -/
def Mode.code : Mode → Nat
  | .ship => 0 | .keepalive => 1 | .standby => 2 | .online => 3 | .maintenance => 4 | .safe => 5
  | .startup => 2 | .off => 2 | .recovery => 2

/-- The code of a role in Role (0x4002.01). -/
def Role.code : Role → Nat
  | .segment => 0 | .head => 1 | .standby => 2

/-- The modes that run from AUX24 (R117). -/
def Mode.runs : Mode → Bool
  | .standby => true | .online => true | .maintenance => true | .safe => true | _ => false

/-- Whether the module is head. -/
def State.isHead (s : State) : Bool := s.ident.role == .head

/-- The state of a port. -/
def State.port (s : State) (p : Port) : PortSt := match p with | .east => s.ring.east | .west => s.ring.west

/-- The state with a port replaced. -/
def State.setPort (s : State) (p : Port) (x : PortSt) : State :=
  match p with
  | .east => { s with ring := { s.ring with east := x } }
  | .west => { s with ring := { s.ring with west := x } }

/-- The state of a bus. -/
def State.bus (s : State) (b : Bus) : BusSt := match b with | .ctlA => s.can.a | .ctlB => s.can.b

/-- The state with a bus replaced. -/
def State.setBus (s : State) (b : Bus) (x : BusSt) : State :=
  match b with
  | .ctlA => { s with can := { s.can with a := x } }
  | .ctlB => { s with can := { s.can with b := x } }

/-- Lanes not fenced (R576). -/
def State.lanesUp (s : State) : Nat := ((List.range 3).filter (fun k => KMap.get s.flt.lane k 0 == 0)).length

/-- Own node ID, 0 while not enumerated. -/
def State.nodeId (s : State) : Nat := s.nat Obj.ownNodeId

/-- Own pack identity. -/
def State.packId (s : State) : Nat := s.nat Obj.ownPackId

/-- Whether the module counts ring-time multiples on its own local count (R198, R296, R413, R566, R628): ring time is
unsynced. -/
def State.unsynced (s : State) : Bool := s.tm.state == .unsynced && !s.tm.master

/-- Whether a time recorded now is marked as free-running (R705): ring time in state 0, 1 or 3, and not time master. -/
def State.freeRun (s : State) : Bool := s.tm.state != .locked && !s.tm.master

/-- Ring time with bit 63 set on a free-running count (R632). -/
def State.stamp (s : State) : Nat := s.ringTime % 2 ^ 63 + (if s.freeRun then 2 ^ 63 else 0)

/-- Head-eligibility (R29): no lane fenced, pack memory readable with a valid identity, J4 harness present. -/
def State.eligible (s : State) : Bool := s.lanesUp == 3 && s.rcd.packOk && s.flag Obj.j4Present

/-- Whether ring and bus transceivers are on (R117, R130 step 5). -/
def State.commsOn (s : State) : Bool := s.md.mode.runs && s.md.holdup < 5

/-- Whether two lanes at least can agree on an output (R571, R573, R579): unfenced, and their tokens not missing. -/
def State.voteOk (s : State) : Bool :=
  2 ≤ ([Lane.laneA, .laneB, .laneC].filter (fun l => KMap.get s.flt.lane l.idx 0 == 0 && !s.flt.silent.contains l)).length

/-- Populated cells N (R82). -/
def State.cellCount (s : State) : Nat := s.nat Obj.populatedCells

/-- The cell numbers 1 to N. -/
def State.cells (s : State) : List Nat := (List.range s.cellCount).map (· + 1)

end Sys2Proof.Machine
end

