-- ==== Sys2Proof/Machine/Layouts.lean ====
section
/-! DEFINITION. The byte layouts of the spec's records, payloads and frames (R14, R36, R361, R485, R507, R511, R567,
R595, R632, R647, R700). -/
namespace Sys2Proof
open Sys2Proof.Machine

/-- The 64-bit slot header of R456 with its HCRC (R457), least significant byte first. -/
def SlotHdr.bytes (h : SlotHdr) : Bytes :=
  let w := h.cls * 2 ^ 61 + h.typ * 2 ^ 56 + bitOf h.west * 2 ^ 55 + bitOf h.bcast * 2 ^ 54 + bitOf h.turned * 2 ^ 53
    + bitOf h.epoch * 2 ^ 52 + h.hops * 2 ^ 46 + (h.src % 128).toNat * 2 ^ 39 + h.seq * 2 ^ 23 + h.trClass * 2 ^ 20
    + h.trCount * 2 ^ 17 + bitOf h.returned * 2 ^ 16 + h.aux * 2 ^ 8
  let b := leBytes 8 w
  patchBytes 0 [BitVec.ofNat 8 (crc8 (b.drop 1))] b

/-- A whole slot of 64 bytes with the CRC of R458; a stomped slot carries the CRC inverted. -/
def slotBytes (h : SlotHdr) (payload : Bytes) (stomp : Bool) : Bytes :=
  let b := h.bytes ++ fitBytes 52 payload
  b ++ leBytes 4 (if stomp then 0xFFFFFFFF - crc32 b else crc32 b)

/-- Notice payload (R485). -/
def Notice.bytes (n : Notice) : Bytes := leBytes 1 n.node ++ leBytes 1 n.code ++ leBytes 2 n.detail ++ leBytes 8 n.time ++ leBytes 8 n.pack

/-- The 24 bytes of a NOTICE or HEAD_NOTICE frame (R506). -/
def Notice.frame (n : Notice) (seq typ : Nat) : Bytes := n.bytes ++ leBytes 2 seq ++ leBytes 1 typ ++ [0]

/-- Heartbeat payload (R485). -/
def HeartbeatRec.bytes (r : HeartbeatRec) : Bytes :=
  leBytes 1 r.node ++ leBytes 1 r.mode ++ leBytes 1 r.contactor ++ leBytes 1 r.basis ++ leBytes 8 r.stringId
    ++ leBytes 4 r.descSeq ++ leBytes 2 r.membGen ++ leBytes 2 r.censusNo ++ leBytes 4 r.ckptGen ++ leBytes 8 r.pack

/-- Status payload of the ring (R485). -/
def StatusRec.bytes (r : StatusRec) : Bytes :=
  leBytes 1 r.node ++ leBytes 1 r.mode ++ leBytes 1 r.role ++ leBytes 1 r.timeState ++ leBytes 2 r.integrity
    ++ leBytes 2 r.meas ++ leInt 4 r.sumC ++ leInt 4 r.stackSn ++ leInt 2 r.hotspot ++ leBytes 1 r.derate
    ++ leBytes 1 r.firstMove ++ leBytes 2 r.balStat ++ leBytes 8 r.time

/-- Bus status payload (R507). -/
def StatusRec.busBytes (r : StatusRec) : Bytes :=
  leBytes 1 r.node ++ leBytes 1 r.mode ++ leBytes 1 r.role ++ leBytes 1 r.timeState ++ leBytes 1 r.firstMove
    ++ leBytes 1 r.derate ++ leBytes 2 r.linkView ++ leBytes 2 r.integrity ++ leBytes 2 r.balStat
    ++ leBytes 4 (r.time / 1000)

/-- Time payload (R485). -/
def timeBytes (origin corr censusNo flags : Nat) : Bytes := leBytes 8 origin ++ leBytes 8 corr ++ leBytes 2 censusNo ++ leBytes 1 flags

/-- Spinner payload (R485). -/
def spinnerBytes (t0 turn0 p source flags anchorTime anchorTurn m : Nat) : Bytes :=
  leBytes 8 t0 ++ leBytes 2 turn0 ++ leBytes 4 p ++ leBytes 1 source ++ leBytes 1 flags ++ leBytes 8 anchorTime
    ++ leBytes 2 anchorTurn ++ leBytes 2 m

/-- Delay payload (R485). -/
def delayBytes (t1 t2 t3 : Nat) : Bytes := leBytes 8 t1 ++ leBytes 8 t2 ++ leBytes 8 t3

/-- Census payload (R485). -/
def censusBytes (no count turnAt stringId : Nat) : Bytes := leBytes 2 no ++ leBytes 1 count ++ leBytes 1 turnAt ++ leBytes 8 stringId

/-- Result payload (R485). -/
def resultBytes (no n turnAt effective stringId : Nat) : Bytes :=
  leBytes 2 no ++ leBytes 1 n ++ leBytes 1 turnAt ++ leBytes 8 effective ++ leBytes 8 stringId

/-- Reply payload (R485). -/
def CensusReplyRec.bytes (r : CensusReplyRec) : Bytes :=
  leBytes 2 r.censusNo ++ leInt 1 r.square ++ leBytes 1 r.kind ++ leBytes 1 (bitOf r.eligible + 2 * bitOf r.candValid)
    ++ zeroBytes 3 ++ leBytes 8 r.pack ++ leBytes 8 r.serial ++ leBytes 4 r.descSeq ++ leBytes 8 r.descString

/-- Release payload (R485). -/
def releaseBytes (node : Nat) (released : Bool) (membGen time : Nat) : Bytes :=
  leBytes 1 node ++ leBytes 1 (bitOf released) ++ leBytes 2 membGen ++ leBytes 8 time

/-- Checkpoint slot payload (R485). -/
def ckptBytes (gen index : Nat) (data : Bytes) : Bytes := leBytes 4 gen ++ leBytes 2 index ++ fitBytes 46 data

/-- Acknowledge payload (R485). -/
def ckptAckBytes (gen received : Nat) (complete : Bool) : Bytes := leBytes 4 gen ++ leBytes 2 received ++ leBytes 1 (bitOf complete)

/-- A payload of 32-bit words. -/
def wordsBytes (w : List Nat) : Bytes := w.flatMap (leBytes 4)

/-- The bytes 0 to 123 of a descriptor record (R36). -/
def Machine.Descriptor.body (d : Descriptor) : Bytes :=
  leBytes 2 1 ++ leBytes 2 128 ++ leBytes 4 d.seq ++ leBytes 8 d.stringId ++ leBytes 8 d.headPack ++ leBytes 8 d.standbyPack
    ++ leBytes 1 d.moduleCount ++ leBytes 1 d.flags ++ zeroBytes 90

/-- The CRC of a descriptor (R37). -/
def Machine.Descriptor.crc (d : Descriptor) : Nat := crc32 d.body

/-- The 128-byte descriptor record (R36). -/
def Machine.Descriptor.bytes (d : Descriptor) : Bytes := d.body ++ leBytes 4 d.crc

/-- The descriptor a valid copy holds (R38), none where the copy is not valid. -/
def Machine.Descriptor.parse (b : Bytes) : Option Descriptor :=
  let d : Descriptor := {
    seq := fieldAt 4 4 b, stringId := fieldAt 8 8 b, headPack := fieldAt 16 8 b,
    standbyPack := fieldAt 24 8 b, moduleCount := fieldAt 32 1 b, flags := fieldAt 33 1 b }
  if b.length = 128 ∧ fieldAt 0 2 b = 1 ∧ fieldAt 2 2 b = 128 ∧ fieldAt 124 4 b = crc32 (b.take 124)
    ∧ 1 ≤ d.seq ∧ d.seq ≤ 0xFFFFFFFE ∧ d.stringId ≠ 0 ∧ d.headPack ≠ 0 ∧ 1 ≤ d.moduleCount ∧ d.moduleCount ≤ 32
    ∧ d.standbyPack ≠ d.headPack ∧ d.flags ≤ 1 ∧ sliceBytes 34 90 b = zeroBytes 90
  then some d else none

/-- Descriptor announce frame (R46, R47): 32 bytes. -/
def Announce.bytes (a : Announce) : Bytes :=
  fitBytes 32 (leBytes 4 a.seq ++ leBytes 4 a.crc ++ leBytes 8 a.headPack ++ leBytes 8 a.pack
    ++ leBytes 1 (bitOf a.eligible + 2 * bitOf a.valid))

/-- Head claim frame (R47): 16 bytes. -/
def claimBytes (seq pack basis : Nat) : Bytes := fitBytes 16 (leBytes 4 seq ++ leBytes 8 pack ++ leBytes 1 basis)

/-- Roll-off open frame (R47): 12 bytes. -/
def rollOpenBytes (seq pack : Nat) : Bytes := leBytes 4 seq ++ leBytes 8 pack

/-- Roll-off draw frame (R47): 12 bytes. -/
def rollDrawBytes (pack round draw : Nat) : Bytes := fitBytes 12 (leBytes 8 pack ++ leBytes 1 round ++ leBytes 2 draw)

/-- Node assign frame (R511): 20 bytes. -/
def assignBytes (serial pack node membGen : Nat) : Bytes := leBytes 8 serial ++ leBytes 8 pack ++ leBytes 1 node ++ [0] ++ leBytes 2 membGen

/-- Assign acknowledge frame (R511): 12 bytes. -/
def assignAckBytes (serial node : Nat) (ctlB : Bool) : Bytes := fitBytes 12 (leBytes 8 serial ++ leBytes 1 node ++ leBytes 1 (bitOf ctlB))

/-- Enumeration close frame (R511): 8 bytes. -/
def closeBytes (ra rb : BusRates) (membGen : Nat) : Bytes :=
  leBytes 1 ra.nominal ++ leBytes 1 ra.data ++ leBytes 1 (bitOf ra.triple) ++ leBytes 1 rb.nominal ++ leBytes 1 rb.data
    ++ leBytes 1 (bitOf rb.triple) ++ leBytes 2 membGen

/-- Join frame (R511): 32 bytes. -/
def JoinFrame.bytes (j : JoinFrame) : Bytes :=
  leBytes 8 j.pack ++ leBytes 8 j.serial ++ leBytes 8 j.stringId ++ leBytes 4 j.seq ++ leBytes 1 (bitOf j.eligible) ++ zeroBytes 3

/-- Member entry (R69): 24 bytes, all zero while the node ID is free. -/
def Machine.Member.bytes (m : Member) (node : Nat) : Bytes :=
  if m.state = 0 then zeroBytes 24 else
    leBytes 8 m.pack ++ leBytes 8 m.serial ++ leInt 2 m.square ++ leBytes 1 node ++ leBytes 1 m.role ++ leBytes 1 m.mode
      ++ leBytes 1 m.state ++ zeroBytes 2

/-- Limit record (R361): 16 bytes. -/
def limitBytes (seq chg dis vmax vmin flags timeUs : Nat) : Bytes :=
  leBytes 2 seq ++ leBytes 2 chg ++ leBytes 2 dis ++ leBytes 2 vmax ++ leBytes 2 vmin ++ leBytes 1 flags ++ [0] ++ leBytes 4 timeUs

/-- Change-log entry (R567): 40 bytes. -/
def Machine.ChangeEntry.bytes (c : ChangeEntry) : Bytes :=
  leBytes 4 c.entry ++ leBytes 8 c.time ++ leBytes 2 c.index ++ leBytes 1 c.sub ++ leBytes 1 c.ty ++ leBytes 1 c.path
    ++ leInt 1 c.origin ++ leBytes 1 c.role ++ leBytes 1 c.result ++ leBytes 2 c.session ++ leBytes 1 c.flags ++ [0]
    ++ fitBytes 8 c.old ++ fitBytes 8 c.new

/-- Episode entry (R632): 32 bytes. -/
def Machine.Episode.bytes (e : Episode) : Bytes :=
  leBytes 8 e.start ++ leBytes 8 e.last ++ leBytes 1 e.kind ++ leBytes 1 e.code ++ leBytes 2 e.detail ++ leBytes 2 (min e.rep 65535)
    ++ leBytes 1 (if 65535 < e.rep then 1 else 0) ++ [0] ++ leBytes 4 e.entry ++ leInt 4 e.value

/-- Capture record header (R647): 64 bytes. -/
def Machine.CapRec.bytes (c : CapRec) (pack : Nat) : Bytes :=
  let b := leBytes 2 c.id ++ leBytes 1 c.cause
    ++ leBytes 1 (packBits [c.auxPresent, c.merged, c.shortPre, c.poison, c.timeFree, c.truncated, c.auxAbsent])
    ++ leBytes 1 c.node ++ [0] ++ leBytes 2 c.detail ++ leBytes 8 c.t ++ leBytes 8 c.start ++ leBytes 8 c.stop
    ++ leBytes 4 c.sources ++ leBytes 4 c.slots ++ leBytes 2 (min c.merges 65535) ++ zeroBytes 2 ++ leBytes 8 pack
    ++ leBytes 4 (c.first % 50331648) ++ zeroBytes 4
  b ++ leBytes 4 (crc32 b)

/-- Carried fault record (R700): 32 bytes. -/
def carryBytes (seq : Nat) (c : CarryDue) (utc : Nat) : Bytes :=
  let b := leBytes 4 seq ++ leBytes 1 c.source ++ leBytes 1 c.severity ++ leBytes 1 (bitOf c.carry + 2 * bitOf c.latch) ++ [0]
    ++ leBytes 8 c.time ++ leBytes 4 utc ++ zeroBytes 8
  b ++ leBytes 4 (crc32 b)

end Sys2Proof
end

