-- ==== Sys2Proof/Machine/Link.lean ====
section
/-! DEFINITION. Sending: slots on the ring under squares, turning and tokens (R460 to R472), frames on the control
buses under the transmit buffers (R499 to R532), notices on both (R506). -/
namespace Sys2Proof.Machine

/-- Tokens allocated to a class (R468). -/
def tokenAlloc (cls : Nat) : Nat := [8, 16, 16, 32, 96, 32, 32, 24].getD cls 0

/-- Whether a slot type is outside token control (delivery "Link" of R460). -/
def linkType (cls typ : Nat) : Bool :=
  (cls == 0 && (typ == 0 || typ == 8)) || (cls == 1 && (typ == 4 || typ == 5))

/-- Tokens held for a class at a port (R469, R470). -/
def PortSt.held (p : PortSt) (cls : Nat) : Nat := tokenAlloc cls - KMap.get p.spent cls 0

/-- Whether a port carries traffic: up, and not turning (R465, R482, R483). -/
def PortSt.usable (p : PortSt) : Bool := p.up && !p.turning

/-- The class whose owed tokens a slot returns next, and how many (R469: rotation from TC0, at most 7). -/
def PortSt.owedPick (p : PortSt) : Nat × Nat :=
  match ((List.range 8).map (fun k => (p.rot + k) % 8)).find? (fun c => KMap.get p.owed c 0 != 0) with
  | some c => (c, min 7 (KMap.get p.owed c 0))
  | none => (0, 0)

/-- Sends one slot out of a port, with the port's EPOCH and token returns written into its header (R456, R469).
DESIGN CHOICE, log entry 9. -/
def State.emit (s : State) (p : Port) (h : SlotHdr) (payload : Bytes) (stomp : Bool := false) : State :=
  let x := s.port p
  let c := x.owedPick
  let h' := { h with epoch := x.epoch, trClass := c.1, trCount := c.2 }
  let x' := if c.2 = 0 then x else { x with owed := KMap.set x.owed c.1 (KMap.get x.owed c.1 0 - c.2), rot := (c.1 + 1) % 8 }
  let s' := s.setPort p x'
  { s' with out := s'.out ++ [.slot p h' (fitBytes 52 payload) stomp] }

/-- The transmit queue of a class at a port, data-plane owner (R473). -/
def txQueue (p : Port) (cls : Nat) : Nat := p.idx * 16 + cls * 2

/-- Sends a slot at a port that carries traffic, or lets it wait for a token (R469); an own slot that finds its
transmit queue full is refused (R475); a turned slot outside token control passes the wrap buffer (R472). DEDUCED, log entry 16. -/
def State.launch (s : State) (p : Port) (h : SlotHdr) (payload : Bytes) (own : Bool) (stomp : Bool := false) : State :=
  let x := s.port p
  if linkType h.cls h.typ then s.emit p h payload stomp
  else if h.turned && s.ring.bypass then
    let buf := x.wrapBuf.filter (fun e => s.now < e)
    if 64 ≤ buf.length then (s.setPort p { x with wrapBuf := buf }).bump Obj.wrapDrops
    else (s.setPort p { x with wrapBuf := buf ++ [max s.now (buf.getLastD 0) + 52] }).emit p h payload stomp
  else if (if own then 2 else 1) ≤ x.held h.cls && (x.waiting.filter (fun q => q.hdr.cls == h.cls)).isEmpty then
    (s.setPort p { x with spent := KMap.set x.spent h.cls (KMap.get x.spent h.cls 0 + 1) }).emit p h payload stomp
  else if own && (s.nat Obj.queueSize (txQueue p h.cls) ≤ (x.waiting.filter (fun q => q.hdr.cls == h.cls && q.own)).length
      || txQueue p h.cls ∈ s.ring.stopped) then
    let s := s.bump Obj.queueDrops (txQueue p h.cls)
    if h.cls ≤ 1 then { s with ring := { s.ring with refused := setInsert s.ring.refused (txQueue p h.cls) } } else s
  else s.setPort p { x with waiting := x.waiting ++ [{ hdr := h, payload := payload, own := own, stomp := stomp }] }

/-- Routes a slot to the port its DIR names, turning it where that port is down (R465). A slot restored once that
would be turned again is dropped. -/
def State.route (s : State) (h : SlotHdr) (payload : Bytes) (own : Bool) (stomp : Bool := false) : State :=
  let p : Port := if h.west then .west else .east
  if (s.port p).usable then s.launch p h payload own stomp
  else if h.returned then s.bump Obj.wrapDrops
  else if (s.port p.other).usable then s.launch p.other { h with turned := true } payload own stomp
  else s

/-- The waiting slots of a port in sending order: by class, then turned, forwarded, own (R466). -/
def sendRank (q : QSlot) : Nat := q.hdr.cls * 3 + (if q.hdr.turned then 0 else if q.own then 2 else 1)

/-- The waiting slot to be sent first. -/
def firstWaiting : List QSlot → Option QSlot
  | [] => none
  | q :: r => match firstWaiting r with
    | none => some q
    | some q' => if sendRank q' < sendRank q then some q' else some q

/-- The waiting slots of a port that its tokens allow. -/
def PortSt.sendable (x : PortSt) : List QSlot :=
  x.waiting.filter (fun q => (if q.own then 2 else 1) ≤ x.held q.hdr.cls)

/-- Sends waiting slots while tokens allow, at most `n` of them (R466, R469). -/
def State.flush (s : State) (p : Port) : Nat → State
  | 0 => s
  | n + 1 =>
    match firstWaiting (s.port p).sendable with
    | none => s
    | some q =>
      let x := s.port p
      State.flush ((s.setPort p { x with
        waiting := x.waiting.erase q, spent := KMap.set x.spent q.hdr.cls (KMap.get x.spent q.hdr.cls 0 + 1) }).emit p q.hdr q.payload q.stomp) p n

/-- Takes the token returns of a slot that arrived at a port (R469, R471), then sends what they allow. -/
def State.takeTokens (s : State) (p : Port) (h : SlotHdr) : State :=
  let x := s.port p
  if h.trCount = 0 || ((s.ringTime : Int) < x.discardUntil) then s
  else
    let s' := s.setPort p { x with spent := KMap.set x.spent h.trClass (KMap.get x.spent h.trClass 0 - h.trCount) }
    s'.flush p (x.waiting.length)

/-- Frees the receive buffer of a slot, so that its token goes back upstream (R469, R471: only of the present epoch). -/
def State.freeBuffer (s : State) (p : Port) (h : SlotHdr) : State :=
  let x := s.port p
  if linkType h.cls h.typ || (h.turned && s.ring.bypass) || h.epoch != x.epoch then s
  else s.setPort p { x with owed := KMap.set x.owed h.cls (KMap.get x.owed h.cls 0 + 1) }

/-- Own square: 0 in head role (R464). -/
def State.square (s : State) : Int := if s.isHead then 0 else s.ring.square

/-- The next SEQ of a class and type, and the state after it is taken (R461). -/
def State.takeSeq (s : State) (cls typ : Nat) : Nat × State :=
  let k := cls * 32 + typ
  let n := KMap.get s.ring.txSeq k 0
  (n, { s with ring := { s.ring with txSeq := KMap.set s.ring.txSeq k ((n + 1) % 65536) } })

/-- Where a slot of the module's own goes (the Delivery column of R460). -/
inductive Dest where
  | both
  | eastAll
  | square (q : Int)
  | zeroEach
  deriving DecidableEq, Repr

/-- A fresh header of an own slot. -/
def State.hdr (s : State) (cls typ seq aux : Nat) (west bcast : Bool) (hops : Nat) : SlotHdr :=
  { cls := cls, typ := typ, west := west, bcast := bcast, turned := false, epoch := false, hops := hops, src := s.square,
    seq := seq, trClass := 0, trCount := 0, returned := false, aux := aux }

/-- HOPS of the east-bound and the west-bound way to a square (R463). -/
def State.hopsTo (s : State) (q : Int) : Nat × Nat :=
  let a := s.square
  if s.ring.turnAt = 255 then
    let n : Int := max 1 (s.ring.n : Int)
    let d := (q - a) % n
    (d.toNat, (n - d).toNat)
  else ((q - a).toNat, (a - q).toNat)

/-- Sends one own slot with a given SEQ to its destination. Unicast waits for a census of the own head role (R704), and
before the first census result only the head originates slots beyond its links (R464). -/
def State.sendOne (s : State) (cls typ seq aux : Nat) (d : Dest) (payload : Bytes) : State :=
  if !s.commsOn || !s.voteOk || !(s.ring.hasSquare || s.isHead) then s
  else match d with
  | .both => (s.route (s.hdr cls typ seq aux false true 63) payload true).route (s.hdr cls typ seq aux true true 63) payload true
  | .eastAll => s.route (s.hdr cls typ seq aux false true 63) payload true
  | .square q =>
    if s.ring.noUnicast then s
    else if q = 0 && s.ring.sq0Broadcast then s.route (s.hdr cls typ seq aux false true 63) payload true
    else
      let h := s.hopsTo q
      let west := if s.ring.turnAt = 255 then decide (h.2 < h.1) else decide (q < s.square)
      s.route (s.hdr cls typ seq aux west false (if west then h.2 else h.1)) payload true
  | .zeroEach =>
    if s.ring.noUnicast then s
    else if s.ring.sq0Broadcast then s.route (s.hdr cls typ seq aux false true 63) payload true
    else
      let h := s.hopsTo 0
      (s.route (s.hdr cls typ seq aux false false h.1) payload true).route (s.hdr cls typ seq aux true false h.2) payload true

/-- Sends a record of one slot, taking the next SEQ. -/
def State.sendSlot (s : State) (cls typ aux : Nat) (d : Dest) (payload : Bytes) : State :=
  let q := s.takeSeq cls typ
  q.2.sendOne cls typ q.1 aux d payload

/-- Sends the segments of one record, all with one SEQ; AUX gives index and count (R456, R461). -/
def State.sendSegs (s : State) (cls typ : Nat) (d : Dest) (segs : List Bytes) : State :=
  let q := s.takeSeq cls typ
  (segs.zipIdx).foldl (fun st e => st.sendOne cls typ q.1 (e.2 * 16 + (segs.length - 1)) d e.1) q.2

/-- Whether a bus may be used to send (R529, R530, R532): running, not LONELY, enabled. -/
def State.busUsable (s : State) (b : Bus) : Bool :=
  let x := s.bus b
  (x.st == .active || x.st == .passive) && !x.lonely && s.flag Obj.busEnable b.idx

/-- Whether bit-rate switching is used at the running rates (R499, R503). -/
def BusSt.brs (x : BusSt) : Bool := !x.tdcFail && x.rates.data ≠ 4 && !(x.rates.data == 0 && x.rates.nominal == 3)

/-- Puts a voted frame into a controller (R522, R523, R529). -/
def State.queueFrame (s : State) (b : Bus) (f : TxFrame) : State :=
  let x := s.bus b
  if x.st == .off || x.st == .disabled || !s.flag Obj.busEnable b.idx then s.bump Obj.txDiscarded b.idx
  else if f.kind = 1 && x.txq.any (fun g => g.id == f.id) then
    s.setBus b { x with txq := x.txq.map (fun g => if g.id == f.id then f else g) }
  else if (f.kind = 0 && x.txq.length < 16) || (f.kind ≠ 0 && (x.txq.filter (fun g => g.kind != 0)).length < 12 && x.txq.length < 16) then
    s.setBus b { x with txq := x.txq ++ [f] }
  else if f.kind = 2 then s.setBus b { x with waitPx := x.waitPx ++ [f] }
  else s.bump Obj.txDiscarded b.idx

/-- Queues an 11-bit frame after enumeration (R505, R508, R518). -/
def State.sendFrame (s : State) (b : Bus) (id : Nat) (kind : Nat) (data : Bytes) : State :=
  if !s.commsOn || !s.voteOk || s.nodeId = 0 || s.can.idStopped then s
  else s.queueFrame b { id := id, ext := false, brs := (s.bus b).brs, data := data, kind := kind, queuedAt := s.now }

/-- Queues a frame on both buses that are usable (R532). -/
def State.sendBoth (s : State) (id kind : Nat) (data : Bytes) : State :=
  let s := if s.busUsable .ctlA then s.sendFrame .ctlA id kind data else s
  if s.busUsable .ctlB then s.sendFrame .ctlB id kind data else s

/-- The low 24 bits of the serial number, as pre-enumeration identifiers carry them (R45). -/
def State.serial24 (s : State) : Nat := s.nat Obj.serialNumber % 2 ^ 24

/-- Queues a pre-enumeration, enumeration or join frame on CTL-A (R45, R511). -/
def State.sendPre (s : State) (typ : Nat) (data : Bytes) : State :=
  if !s.commsOn || !s.voteOk then s
  else s.queueFrame .ctlA { id := typ * 2 ^ 24 + s.serial24, ext := true, brs := false, data := data, kind := 3, queuedAt := s.now }

/-- A notice of this module, with its node ID and pack identity (R485). -/
def State.notice (s : State) (code detail time : Nat) : Notice :=
  { node := s.nodeId, code := code, detail := detail, time := time, pack := s.packId }

/-- Sends a TC0 notice: on the ring (OPEN_REQ to square 0 one copy each way, the others both ways), and on both buses
the types the frame allocation names (R460, R505, R506). -/
def State.sendNotice (s : State) (typ code detail time : Nat) : State :=
  let n := s.notice code detail time
  let q := s.takeSeq 0 typ
  let s1 := q.2.sendOne 0 typ q.1 0 (if typ = 2 then .zeroEach else .both) n.bytes
  if typ = 4 ∨ typ = 5 then s1.sendBoth 0x010 0 (n.frame q.1 typ)
  else if typ = 1 ∨ typ = 2 ∨ typ = 3 then s1.sendBoth (0x040 + s.nodeId) 0 (n.frame q.1 typ)
  else s1

/-- ABDICATE by the voter itself (R580): both ring directions and both buses, without any lane. -/
def State.voterAbdicate (s : State) : State :=
  let n := s.notice 1 0 s.ringTime
  let q := s.takeSeq 0 4
  let h := s.hdr 0 4 q.1 0 false true 63
  let s1 := (q.2.route h n.bytes true).route { h with west := true } n.bytes true
  let f : TxFrame := { id := 0x010, ext := false, brs := false, data := n.frame q.1 4, kind := 0, queuedAt := s.now }
  let s2 := if s1.busUsable .ctlA then s1.queueFrame .ctlA f else s1
  if s2.busUsable .ctlB then s2.queueFrame .ctlB f else s2

end Sys2Proof.Machine
end

