-- ==== Sys2Proof/Machine/Faults.lean ====
section
/-! DEFINITION. Shared reactions: episodes (R631), mode changes (R118, R706), capture triggers (R641 to R645), the trip
path (R339 to R341), entry into SAFE (R118, R581), and the fault collection unit (R584 to R590). -/
namespace Sys2Proof.Machine

/-- Adds an event to the episode list, folding it into the newest entry where KIND, CODE and DETAIL agree (R631).
RecSeq advances before and after the change (R634). -/
def State.episode (s : State) (kind code detail : Nat) (value : Int) : State :=
  let s := s.bumpBy Obj.recSeq 2
  let fresh : State :=
    let s := s.bump Obj.episodeNewest
    let e : Episode := {
      start := s.stamp, last := s.stamp, kind := kind, code := code, detail := detail, rep := 1, value := value,
      entry := s.nat Obj.episodeNewest, written := false }
    { s with rcd := { s.rcd with episodes := (e :: s.rcd.episodes).take 512 } }
  match s.rcd.episodes with
  | [] => fresh
  | e :: r =>
    if e.kind = kind ∧ e.code = code ∧ e.detail = detail then
      let e' := { e with last := s.stamp, rep := min (e.rep + 1) 65536, value := value, written := false }
      { s with rcd := { s.rcd with episodes := e' :: r } }
    else fresh

/-- A field recalibration stops with CalState 5 (R688). -/
def State.stopCal (s : State) : State :=
  if s.nat Obj.calState = 1 ∨ s.nat Obj.calState = 2 then
    let n := s.nat Obj.calChannel
    let c := KMap.get s.meas.chans n {}
    let c := { c with cal := c.cal.map (fun (x : TagSpan) => if x.stop = none then { x with stop := some s.ringTime } else x) }
    let s := if n = 0 then s else { s with meas := { s.meas with chans := KMap.set s.meas.chans n c } }
    { (s.setNat Obj.calState 5).setNat Obj.calChannel 0 with mgmt := { s.mgmt with calWait := false } }
  else s

/-- The cell-side flow spans of a list of cells brought up to date with the converters and bleeders that are on (R267: the
tail is 100 µs after a flyback converter, 10 µs after a bleeder). -/
def State.flowUpdate (s : State) : State :=
  let bleed := fun n => (decide (n ∈ s.bal.bleeders) && !s.aux.blankOff.contains n) || (match s.itg.test with
    | some x => x.id.force && x.id.k == n && x.onSince.isSome
    | none => false)
  let fly := fun n => s.bal.fly.any (fun e => e.2.on && e.2.sel == n)
  let now := s.ringTime
  let upd := fun (l : List FlowSpan) (n : Nat) =>
    let l := l.map (fun (x : FlowSpan) =>
      let live := if x.flyback then fly n else bleed n
      if x.stop = none && !live then { x with stop := some (now + (if x.flyback then 100000 else 10000)) } else x)
    let has := fun (f : Bool) => l.any (fun x => x.flyback == f && x.stop.isNone)
    let l := if fly n && !has true then { start := now, flyback := true, stop := none } :: l else l
    let l := if bleed n && !has false then { start := now, flyback := false, stop := none } :: l else l
    l.take 8
  let flow := (s.cells).foldl (fun (m : KMap (List FlowSpan)) n =>
    let l := upd (KMap.get m n []) n
    if l.isEmpty then m else KMap.set m n l) s.bal.flow
  { s with bal := { s.bal with flow := flow } }

/-- Balancing and transfer switched off in hardware (R118, R130, R573): bleeders, flyback and transfer converters. -/
def State.stopBalancing (s : State) : State :=
  State.flowUpdate { s with bal := { s.bal with
      bleeders := [], transferOn := false, transferCmd := 0,
      fly := s.bal.fly.map (fun (e : Nat × FlybackSt) => (e.1, { e.2 with on := false, sel := 0, icell := 0, limit := 0 })) } }

/-- The lease and what runs under it end (R292, R310, R311). -/
def State.dropLease (s : State) : State :=
  let s := s.stopBalancing
  { s with bal := { s.bal with leaseEnd := none, targets := [], reached := [], transferLimit := 0 } }

/-- A mode change (R118): ModeCause under R706, the episode of R631, an armed SHIP lapses (R139), a permit ends with
MAINTENANCE (R121), balancing stops and the lease ends outside STANDBY and ONLINE (R292, R311). -/
def State.enterMode (s : State) (m : Mode) (cause : Nat) : State :=
  let keep := m == .maintenance
  let s := if (s.md.mode == .standby && m == .online) || (s.md.mode == .online && m == .standby) then s else s.stopCal
  let s := { s with md := { s.md with mode := m, shipArmedAt := none, permitEnd := if keep then s.md.permitEnd else none } }
  let s := if keep then s else s.setNat Obj.maintPermit 0
  let s := if m == .standby || m == .online then s else s.dropLease
  if m.runs then (s.setNat Obj.modeCause cause).episode 2 m.code cause 0 else s

/-- Every coil output released (R712). -/
def State.releaseCoils (s : State) : State := { s with hio := { s.hio with mainPos := false, mainNeg := false, prechg := false } }

/-- Leaving the head role for segment: coils released, sequences abandoned, taps and insulation monitor off, head work
in progress dropped (R104, R581, R606, R712). -/
def State.leaveHead (s : State) (r : Role) : State :=
  let s := s.releaseCoils
  { s with
    ident := { s.ident with
      role := r, commit := none, assigns := [], assignBy := none, joinClose := none, designateBy := none,
      enumDue := false, enumStart := none }
    tm := { s.tm with master := false, lastRecord := none }
    hio := { s.hio with
      tapsOn := false, isoState := 0, closeStep := 0, openStep := 0, contactor := 0, tripWaitEnd := none, remoteOpen := [] }
    ring := { s.ring with run := none, retryAt := none, replyBy := none, unwrapAt := none }
    flt := { s.flt with handoverSince := none, handoverStep := 0, active := s.flt.active.filter (fun k => k != 0x49 && k != 0x61 && k != 0x62 && (r != .segment || k != 0x0A)) } }

/-- The series trip-loop switch of a module that is not head (R117, R136, R342). -/
def State.switchClosed (s : State) : Bool :=
  match s.md.mode with
  | .standby => !s.hio.tripLatch && !s.ident.electionHold && !s.ident.headFailHold
  | .maintenance => !s.hio.tripLatch && !s.ident.headFailHold
  | .online => !s.hio.tripLatch
  | .keepalive => !s.md.kaTripped
  | _ => false

/-- The loop source of the head (R339). -/
def State.sourceOn (s : State) : Bool :=
  (s.md.mode == .standby || s.md.mode == .online || s.md.mode == .maintenance)
    && !s.hio.scLatch && !s.hio.tripLatch && !s.hio.weld && !s.ident.headFailHold

/-- Whether the module keeps the trip loop closed: its source in head role, its switch otherwise. -/
def State.loopDriven (s : State) : Bool := if s.isHead then s.sourceOn else s.switchClosed

/-- Wideband and current slots per second that the selection of R639 brings, in slots × 13 per second (24 cells a
module: the head knows no other module's cell count). DEDUCED, log entry 15. -/
def State.captureRate13 (s : State) : Nat :=
  let sel := s.nat Obj.captureSources
  let nodes := (List.range 32).filter (fun k => bitsOf k k sel == 1 && (KMap.get s.ident.members (k + 1) {}).state == 1)
  nodes.length * 24 * 256000 + (if s.flag Obj.captureCurrent then 256000 else 0)

/-- Store slots a post-trigger window of `ms` milliseconds needs, the auxiliary stream of three channels included
(R640, R644). -/
def State.captureNeed (s : State) (ms : Nat) : Nat := ((s.captureRate13 + 3 * 256000) * ms + 12999) / 13000

/-- Slots of the capture store (R639). -/
def storeSlots : Nat := 50331648

/-- Slots ahead of the write pointer, up to the first held or read record (R644). -/
def State.captureAhead (s : State) : Nat :=
  (s.rcd.caps.filter (fun e => e.2.state ≠ 1)).foldl (fun a e => min a (e.2.first + storeSlots - s.rcd.writePtr)) storeSlots

/-- The oldest held record, by its first store index (R644). -/
def oldestHeld (caps : KMap CapRec) : Option (Nat × CapRec) :=
  (caps.filter (fun e => e.2.state == 2)).foldl (fun a e => match a with
    | none => some e
    | some b => if e.2.first < b.2.first then some e else some b) none

/-- Releases held records, oldest first, until the window fits (R644, CaptureOverwrite). -/
def State.captureMakeRoom (s : State) (need : Nat) : Nat → State
  | 0 => s
  | n + 1 =>
    if need ≤ s.captureAhead then s
    else match oldestHeld s.rcd.caps with
      | none => s
      | some e => State.captureMakeRoom { s with rcd := { s.rcd with caps := KMap.del s.rcd.caps e.1 } } need n

/-- The descriptor that is recording, if one is. -/
def State.capRecording (s : State) : Option (Nat × CapRec) := s.rcd.caps.find? (fun e => e.2.state == 1)

/-- Opens a capture record for an accepted trigger (R643, R645). -/
def State.captureOpen (s : State) (slot code node detail t : Nat) : State :=
  let pre := s.nat Obj.capturePreTime * 1000000
  let start := t - pre
  let held := s.rcd.caps.foldl (fun a e => max a (e.2.first + e.2.slots)) 0
  let avail := s.rcd.store.filter (fun x => held ≤ x.index)
  let inWin := avail.filter (fun x => start ≤ x.instant)
  let short := avail.all (fun x => start < x.instant)
  let first := inWin.foldl (fun a x => min a x.index) s.rcd.writePtr
  let start' := if short then inWin.foldl (fun a x => min a x.instant) (max start t) else start
  let r : CapRec := {
    id := s.rcd.capNextId, state := 1, cause := code, merged := false, shortPre := short, poison := inWin.any (fun x => !x.poison.isEmpty),
    timeFree := s.freeRun, truncated := false, auxAbsent := false, auxPresent := false,
    node := node, detail := detail, t := t, start := start', stop := t + s.nat Obj.capturePostTime * 1000000,
    sources := s.nat Obj.captureSources, slots := 0, merges := 0, first := first }
  { s with rcd := { s.rcd with caps := KMap.set s.rcd.caps slot r, capNextId := (s.rcd.capNextId + 1) % 65536 } }

/-- A capture trigger at instant `t` (R641 to R645): refused, merged into the record that is recording, or opening a
record. A trigger that originates in the module is also sent as a notice. -/
def State.captureTrigger (s : State) (code node detail t : Nat) (own : Bool) : State :=
  let s := if own then s.sendNotice 7 code detail t else s
  let arrival := s.ringTime
  if !s.rcd.capInit || s.rcd.capStopped || t + 100000000 < arrival || arrival + 1000000 < t then s.bump Obj.captureRefused
  else match s.capRecording with
  | some e =>
    let r := { e.2 with merged := true, merges := min (e.2.merges + 1) 65535 }
    { s with rcd := { s.rcd with caps := KMap.set s.rcd.caps e.1 r } }.bump Obj.captureMerged
  | none =>
    let need := s.captureNeed (s.nat Obj.capturePostTime)
    let s := if s.flag Obj.captureOverwrite then s.captureMakeRoom need 16 else s
    match (List.range 16).find? (fun k => !KMap.has s.rcd.caps k) with
    | none => s.bump Obj.captureRefused
    | some slot => if need ≤ s.captureAhead then s.captureOpen slot code node detail t else s.bump Obj.captureRefused

/-- The notice, episode and capture trigger of a module that opens the trip loop from an AUX24 mode (R341, R631, R641). -/
def State.tripNotice (s : State) (cause : Nat) : State :=
  let s := (s.sendNotice 1 cause 0 s.ringTime).episode 3 s.nodeId cause 0
  let s := if s.isHead then { s with hio := { s.hio with tripHeard := some (s.nodeId, cause, s.now) } } else s
  if s.flag Obj.captureOnTrip then s.captureTrigger 2 s.nodeId cause s.ringTime true else s

/-- Off with the terminal latch set (R142, R292, R311): no hold-up sequence, the 2 s power-cycle timer starts. -/
def State.switchOff (s : State) : State :=
  { s.dropLease with md := { s.md with
      mode := .off, started := false, holdup := 0, aux24 := false, shipArmedAt := none, permitEnd := none,
      powerTimerEnd := some (s.now + 2000000000) } }

/-- The S3 reaction (R118, R120, R581, R586): SAFE from a mode that runs, with balancing off, the trip loop opened and a
head abdicating with code 4; carried over where AUX24 is already lost. -/
def State.enterSafe (s : State) : State :=
  if 0 < s.md.holdup then { s with md := { s.md with safeCarried := true } }
  else match s.md.mode with
  | .standby | .online | .maintenance =>
    let closed := s.loopDriven
    let head := s.isHead
    let s := (s.enterMode .safe 4).stopBalancing
    let s := { s with hio := { s.hio with released := false } }
    let s := if closed then s.tripNotice 8 else s
    if head then (if s.flt.voterOut then s else s.sendNotice 4 4 0 s.ringTime).leaveHead .segment else s
  | _ => s

/-- Reserved source numbers, never raised (R593). -/
def reservedSource (k : Nat) : Bool :=
  160 ≤ k || (0x15 ≤ k && k ≤ 0x17) || k == 0x22 || k == 0x23 || (0x32 ≤ k && k ≤ 0x37) || k == 0x3F
    || (0x4C ≤ k && k ≤ 0x4F) || (0x5C ≤ k && k ≤ 0x5F) || (0x6C ≤ k && k ≤ 0x6F) || (0x79 ≤ k && k ≤ 0x7F)
    || (0x88 ≤ k && k ≤ 0x8F) || (0x9A ≤ k && k ≤ 0x9E)

/-- First move or OVERFLOW of a raising (R588). -/
def FaultSt.move (f : FaultSt) (src sev time : Nat) : FaultSt :=
  if sev = 0 || src = 0x9F then f
  else match f.first with
    | none => { f with first := some { source := src, severity := sev, time := time, carried := false } }
    | some _ => { f with overflow := true }

/-- The carried fault record a raising makes due (R700): the first S3 or S4 since start-up, and an S4 after a first
S3. -/
def FaultSt.carry (f : FaultSt) (src sev time : Nat) : FaultSt :=
  if 3 ≤ sev && (f.carrySev == 0 || (sev == 4 && f.carrySev == 3)) then
    { f with
      carrySev := sev
      carryDue := some { source := src, severity := sev, time := time, latch := sev == 4, carry := true } }
  else f

/-- The books of a raising in the collection unit (R586, R588): PENDING, counters, first move, DEGRADED, carry. DEDUCED, log entry 50. -/
def State.raiseBooks (s : State) (src sev : Nat) (mark : Bool) : State :=
  let f := s.flt
  let f := { f with
    active := if mark then setInsert f.active src else f.active
    pending := setInsert f.pending src, degraded := f.degraded || decide (2 ≤ sev) }
  let s := { s with flt := (f.move src sev s.ringTime).carry src sev s.ringTime }
  let s := (s.bump Obj.raiseCount 0 src).bump Obj.faultRaises
  if src = 0x9F then s
  else ({ s with rcd := { s.rcd with day := { s.rcd.day with raises := s.rcd.day.raises + 1 } } }).episode 1 src sev 0

/-- The lanes are reset and start again from the running slot (R681, R682): sessions close (R668), the lease ends (R311), outputs fall back, the
head role waits for the election; ring time, spinner, permit and always-on domain stay. START_UP brings the module back.
DEDUCED, log entry 47. -/
def State.laneRestart (s : State) : State :=
  let s := ((s.stopCal.dropLease).leaveHead .segment)
  { s with
    md := { s.md with keepMaint := s.md.mode == .maintenance, laneReset := true, mode := .startup, started := false }
    hio := { s.hio with released := false }
    mgmt := { s.mgmt with sessions := [], challenges := [], restartDue := false, trialSince := none } }

/-- The slot that runs. -/
def State.activeSlot (s : State) : SlotSt := if s.mgmt.activeB then s.mgmt.slotB else s.mgmt.slotA

/-- Sources whose raising fails a trial (R682). -/
def trialSource (src : Nat) : Bool := src ≤ 9 || src == 0x90 || src == 0x91 || src == 0x95

/-- One raising (R586): the books, then the reaction of the severity in force, then the capture trigger of R641. A source
that is ACTIVE already does not rise. `mark` leaves ACTIVE set; without it the source is ACTIVE for one sample (R709). -/
def State.raiseWith (s : State) (src : Nat) (mark : Bool) : State :=
  if src ∈ s.flt.active || reservedSource src then s
  else
    let sev := s.nat Obj.severity 0 src
    let s := s.raiseBooks src sev mark
    let s := if sev = 4 then { s with md := { s.md with terminalLatch := true } } else s
    let s := if sev = 4 && 0 < s.md.holdup then s.switchOff else if 3 ≤ sev then s.enterSafe else s
    let s := if s.nat Obj.captureOnSeverity ≤ sev then s.captureTrigger 3 s.nodeId src s.ringTime true else s
    if s.mgmt.trialSince.isSome && trialSource src then s.laneRestart else s

/-- A source with a lasting condition rises (R584). -/
def State.raise (s : State) (src : Nat) : State := s.raiseWith src true

/-- A source raised by an event without a lasting condition (R709). DEDUCED, log entry 110. -/
def State.raiseEvent (s : State) (src : Nat) : State := s.raiseWith src false

/-- A source's condition ends: ACTIVE falls, PENDING stays (R584, R590). -/
def State.lower (s : State) (src : Nat) : State := { s with flt := { s.flt with active := setErase s.flt.active src } }

/-- A source follows a condition. -/
def State.follow (s : State) (src : Nat) (c : Bool) : State := if c then s.raise src else s.lower src

/-- Whether a half-stack has a working precision converter; a pack of 12 cells has no H2 cells (R190). -/
def State.convWorks (s : State) : Bool := !s.meas.h1Fenced || (!s.meas.h2Fenced && decide (12 < s.cellCount))

/-- Whether the minimum service set is met (R582). -/
def State.minSet (s : State) : Bool :=
  decide (2 ≤ s.lanesUp) && !(0 ∈ s.flt.active) && s.convWorks && !s.flt.tripDriverBad

/-- Eligibility-lost (R31): a head or standby head that is not head-eligible. -/
def State.eligibilityCheck (s : State) : State := s.follow 0x0A (s.ident.role != .segment && !s.eligible)

/-- Raises a source in the same sample as minimum-service-set-lost where the set has just been broken, the lower number
first (R582, R588). `mark` as in `raiseWith`. -/
def State.raiseBreak (s : State) (src : Nat) (mark : Bool := true) : State :=
  let ok := { s with flt := { s.flt with active := setInsert s.flt.active src } }.minSet
  if ok || s.flt.minSetLost then s.raiseWith src mark
  else
    let s := { s with flt := { s.flt with minSetLost := true } }
    if src < 4 then (s.raiseWith src mark).raise 4 else (s.raise 4).raiseWith src mark

/-- The minimum service set is met again: its source falls (R582, R584). -/
def State.minSetCheck (s : State) : State :=
  if s.flt.minSetLost && s.minSet then { s with flt := { s.flt with minSetLost := false } }.lower 4 else s

/-- Fences a lane (R576, R577). -/
def State.fenceLane (s : State) (l : Lane) (code : Nat) : State :=
  { s with flt := { s.flt with lane := KMap.set s.flt.lane l.idx code } }

end Sys2Proof.Machine
end

