-- ==== Sys2Proof/Machine/Flags.lean ====
section
/-! DEFINITION. The status words that follow live conditions without latching, computed from the state when they are
read or sent. -/
namespace Sys2Proof.Machine

/-- ThermalStatus (R155). -/
def State.thermalStatus (s : State) : Nat :=
  packBits ((List.range 10).map (fun k => (KMap.get s.md.sensors (k + 1) {}).excluded)
    ++ [s.rat Obj.derateFraction == 0, decide (s.rat Obj.derateFraction < 1), s.md.fastRate])

/-- Whether the ring is closed for this member: both ports up and no turn in force (R498). -/
def State.ringClosed (s : State) : Bool := s.ring.east.up && s.ring.west.up && !s.ring.east.turning && !s.ring.west.turning

/-- RingStatus (R498). -/
def State.ringStatus (s : State) : Nat :=
  packBits [s.ringClosed, s.ring.east.up, s.ring.west.up, s.ring.east.ready || s.ring.west.ready, s.ring.east.turning,
    s.ring.west.turning, s.ring.turnAt != 255, s.ring.run.isSome || s.ring.pend.isSome, s.ring.bypass,
    s.ring.east.censusAsked || s.ring.west.censusAsked]

/-- RingState: 0 no port up, 1 closed, 2 wrapped. -/
def State.ringState (s : State) : Nat := if !s.ring.east.up && !s.ring.west.up then 0 else if s.ringClosed && s.ring.turnAt == 255 then 1 else 2

/-- PortState of a port: 0 dark, 1 locking, 2 hold-off, 3 up, 4 down by LINK_FAULT. -/
def PortSt.code (p : PortSt) : Nat := if p.up then 3 else if p.byFault then 4 else if p.holdSince.isSome then 2 else if p.rx then 1 else 0

/-- BusState of a bus. -/
def BusSt.code (x : BusSt) : Nat :=
  match x.st with
  | .off => 0 | .listening => 1 | .active => 2 | .passive => 3 | .busOff => 4 | .recovering => 5 | .disabled => 6

/-- BusStatus (R536). DESIGN CHOICE, log entry 19. -/
def BusSt.status (x : BusSt) : Nat :=
  packBits [x.st == .active, false, decide (96 ≤ x.txErr) || decide (96 ≤ x.rxErr), x.st == .passive,
    x.st == .busOff || x.st == .recovering, x.holdSince.isSome, x.lonely, x.st == .disabled, x.hbMiss, x.tdcFail]

/-- HeadIoStatus (R365). -/
def State.headIoStatus (s : State) : Nat :=
  packBits [s.hio.mainPos, s.hio.mainNeg, s.hio.prechg, decide (s.hio.openStep ≠ 0), s.hio.linkHeld, s.hio.isoUnsettled, s.hio.isoWarn,
    s.hio.isoAlarm, s.hio.curDisagree, s.hio.coilCut, s.hio.loopOkSince.isSome, s.hio.scLatch]

/-- FirstMoveStatus (R609). -/
def State.firstMoveStatus (s : State) : Nat :=
  match s.flt.first with
  | none => 0x00FF
  | some f => f.source + f.severity * 2 ^ 10 + 2 ^ 13 + bitOf f.carried * 2 ^ 14 + bitOf s.flt.overflow * 2 ^ 15

/-- Severity of a source now. -/
def State.sevOf (s : State) (k : Nat) : Nat := s.nat Obj.severity 0 k

/-- FaultStatus (R610). -/
def State.faultStatus (s : State) : Nat :=
  let sevs := s.flt.active.map s.sevOf
  (if s.flt.active.isEmpty then 7 else sevs.foldl max 0)
    + 8 * packBits [KMap.get s.flt.lane 0 0 != 0, KMap.get s.flt.lane 1 0 != 0, KMap.get s.flt.lane 2 0 != 0, s.lanesUp == 2,
      s.flt.degraded, sevs.any (3 ≤ ·), s.md.terminalLatch, !s.minSet, decide (0 ∈ s.flt.active)]

/-- The word of a 32-bit window of a set of source numbers (FaultActive, FaultPending). -/
def sourceWord (l : List Nat) (j : Nat) : Nat := packBits ((List.range 32).map (fun b => decide (32 * j + b ∈ l)))

/-- IntegrityStatus (R284). -/
def State.integrityStatus (s : State) : Nat :=
  packBits [!s.itg.senseOpen.isEmpty, !s.itg.forceOpen.isEmpty, !s.itg.subst.isEmpty, s.itg.stackSup, s.itg.undecided, s.itg.overdue,
    (match s.itg.test with | some x => x.onSince.isSome | none => false), s.itg.roundDone, s.supply.popMismatch]

/-- CalFieldAge (R214) in days: since the last complete field recalibration, else, with a valid calendar, since the factory
calibration. DEDUCED, log entry 94. -/
def State.calFieldAge (s : State) : Nat :=
  min 65535 (match s.mgmt.calAt, s.mgmt.calendar with
    | some a, _ => (s.now - a) / 86400000000000
    | none, some c => (c.1 + (s.now - c.2) / 1000000000) / 86400 - s.nat Obj.calFactoryDate
    | none, none => 0)

/-- TURNLOCK: windows on spinner source 0, 1 or 2 with the source locked, as the newest spinner record says (R217). -/
def State.turnLock (s : State) : Bool :=
  s.convWorks && !s.meas.localWin && s.tm.source != 3 && (match s.tm.spin.head? with | some r => r.locked | none => false)

/-- FREERUN: windows on spinner source 3 (R217). -/
def State.freeWin (s : State) : Bool := s.convWorks && !s.meas.localWin && s.tm.source == 3

/-- MeasStatus (R217). -/
def State.measStatus (s : State) : Nat :=
  let chan := fun (n : Nat) => KMap.get s.meas.chans n {}
  packBits [s.cells.any (fun n => bitsOf 1 1 (chan n).word == 1),
    s.cells.any (fun n => decide (0 < (chan n).prec.settle) || decide (0 < (chan n).std.settle) || decide (0 < (chan n).wide.settle)),
    s.cells.any (fun n => (chan n).cal.any (fun x => x.stop.isNone)), s.turnLock, s.convWorks && s.meas.localWin, s.freeWin,
    s.meas.h1Fenced, s.meas.h2Fenced, s.meas.refUndec, s.meas.refsBad, decide (365 < s.calFieldAge)]

/-- The derating fraction F (R150). -/
def State.derate (s : State) : Rat := s.rat Obj.derateFraction

/-- Whether a lease is held (R310). -/
def State.leaseValid (s : State) : Bool := match s.bal.leaseEnd with | some e => decide (s.now < e) | none => false

/-- Whether the module may balance (R292, R303: STOP keeps the lease but no balancing). -/
def State.balAllowed (s : State) : Bool :=
  (s.md.mode == .standby || s.md.mode == .online) && s.leaseValid && !s.bal.stop && s.md.holdup == 0

/-- The remaining target of a cell in µC. -/
def State.target (s : State) (n : Nat) : Rat := KMap.get s.bal.targets n 0

/-- The state of a legacy device. -/
def State.dev (s : State) (d : Nat) : PawnSt := if d = 0 then s.aux.dev0 else s.aux.dev1

/-- Whether a legacy device asks for passive balancing of a cell (R251, R313). -/
def State.legacyAsks (s : State) (n : Nat) : Bool :=
  let d := s.dev (if n ≤ 12 then 0 else 1)
  s.bal.legacyOk && d.bal.contains (if n ≤ 12 then n else n - 12) && (match d.balEnd with | some e => decide (s.now < e) | none => false)
    && s.target n == 0

/-- XFERSTOP (R112, R290, R320). -/
def State.xferStop (s : State) : Bool := s.supply.exportStopped || s.supply.importStopped

/-- BalStatus (R320). -/
def State.balStatus (s : State) : Nat :=
  packBits [!s.bal.bleeders.isEmpty || s.bal.fly.any (fun e => e.2.on) || s.bal.transferOn, s.leaseValid, s.bal.leaseExp,
    s.balAllowed && s.cells.any s.legacyAsks, s.bal.tempInhibit, decide (s.derate < 1), s.xferStop, s.bal.xferFenced,
    decide (s.bal.busV < 23 / 2) || decide (25 / 2 < s.bal.busV), s.bal.books, decide (0x3C ∈ s.flt.active)]

/-- The codes of R161. -/
def TimeState.code : TimeState → Nat
  | .unsynced => 0 | .acquiring => 1 | .locked => 2 | .holdover => 3

/-- LINKVIEW of the bus status payload (R507). -/
def State.linkView (s : State) : Nat :=
  packBits [s.ring.east.up, s.ring.west.up, s.can.a.hbMiss, s.can.b.hbMiss, s.can.a.lonely || s.can.b.lonely]

/-- The own STATUS record (R485, R507). -/
def State.statusRec (s : State) : StatusRec :=
  { node := s.nodeId, mode := s.md.mode.code, role := s.ident.role.code, timeState := s.tm.state.code,
    integrity := s.integrityStatus, meas := s.measStatus, sumC := s.itg.sumC.getD 0, stackSn := s.itg.stackSn.getD 0,
    hotspot := roundHalfAway (s.rat Obj.hotspotTemp * 100), derate := (s.rat Obj.derateFraction * 255).floor.toNat,
    firstMove := (s.flt.first.map (·.source)).getD 0xFF, balStat := s.balStatus, linkView := s.linkView, time := s.ringTime }

end Sys2Proof.Machine
end

