-- ==== Sys2Proof/Machine/Crypto.lean ====
section
/-! DEFINITION. The published algorithms the spec names (standards table of the scope chapter): SHA-256 and HMAC-SHA-256,
AES-256-GCM (NIST SP 800-38D), ECDSA on P-256 with SHA-256 (FIPS 186). The spec names them and prints none of their
constants: they are the standards' own. PRESUMED, log entry 11. -/
namespace Sys2Proof.Machine

/-- Right rotation of a 32-bit word. -/
def ror32 (x : BitVec 32) (n : Nat) : BitVec 32 := x.rotateRight n

/-- Round constants of SHA-256, first half. -/
def shaK0 : List (BitVec 32) :=
  [0x428a2f98, 0x71374491, 0xb5c0fbcf, 0xe9b5dba5, 0x3956c25b, 0x59f111f1, 0x923f82a4, 0xab1c5ed5, 0xd807aa98, 0x12835b01,
   0x243185be, 0x550c7dc3, 0x72be5d74, 0x80deb1fe, 0x9bdc06a7, 0xc19bf174, 0xe49b69c1, 0xefbe4786, 0x0fc19dc6, 0x240ca1cc,
   0x2de92c6f, 0x4a7484aa, 0x5cb0a9dc, 0x76f988da, 0x983e5152, 0xa831c66d, 0xb00327c8, 0xbf597fc7, 0xc6e00bf3, 0xd5a79147,
   0x06ca6351, 0x14292967]

/-- Round constants of SHA-256, second half. -/
def shaK1 : List (BitVec 32) :=
  [0x27b70a85, 0x2e1b2138, 0x4d2c6dfc, 0x53380d13, 0x650a7354, 0x766a0abb, 0x81c2c92e, 0x92722c85, 0xa2bfe8a1, 0xa81a664b,
   0xc24b8b70, 0xc76c51a3, 0xd192e819, 0xd6990624, 0xf40e3585, 0x106aa070, 0x19a4c116, 0x1e376c08, 0x2748774c, 0x34b0bcb5,
   0x391c0cb3, 0x4ed8aa4a, 0x5b9cca4f, 0x682e6ff3, 0x748f82ee, 0x78a5636f, 0x84c87814, 0x8cc70208, 0x90befffa, 0xa4506ceb,
   0xbef9a3f7, 0xc67178f2]

/-- The initial hash value of SHA-256. -/
def shaInit : List (BitVec 32) :=
  [0x6a09e667, 0xbb67ae85, 0x3c6ef372, 0xa54ff53a, 0x510e527f, 0x9b05688c, 0x1f83d9ab, 0x5be0cd19]

/-- The number that bytes stored most significant first stand for. -/
def beNat (b : Bytes) : Nat := b.foldl (fun a x => a * 256 + x.toNat) 0

/-- The `n` bytes of `v`, most significant first. -/
def beBytes (n v : Nat) : Bytes := (leBytes n v).reverse

/-- The next message-schedule word from the last sixteen, newest first. -/
def shaWord (w : List (BitVec 32)) : BitVec 32 :=
  let w2 := w.getD 1 0
  let w7 := w.getD 6 0
  let w15 := w.getD 14 0
  let w16 := w.getD 15 0
  (ror32 w2 17 ^^^ ror32 w2 19 ^^^ (w2 >>> 10)) + w7 + (ror32 w15 7 ^^^ ror32 w15 18 ^^^ (w15 >>> 3)) + w16

/-- The message schedule extended by `n` words, newest first. -/
def shaExtend : Nat → List (BitVec 32) → List (BitVec 32)
  | 0, w => w
  | n + 1, w => shaExtend n (shaWord w :: w)

/-- The eight working words of a round. -/
structure Sha where
  (a b c d e f g h : BitVec 32)
  deriving DecidableEq, Repr

/-- One round. -/
def shaRound (v : Sha) (kw : BitVec 32 × BitVec 32) : Sha :=
  let t1 := v.h + (ror32 v.e 6 ^^^ ror32 v.e 11 ^^^ ror32 v.e 25) + ((v.e &&& v.f) ^^^ ((~~~v.e) &&& v.g)) + kw.1 + kw.2
  let t2 := (ror32 v.a 2 ^^^ ror32 v.a 13 ^^^ ror32 v.a 22) + ((v.a &&& v.b) ^^^ (v.a &&& v.c) ^^^ (v.b &&& v.c))
  ⟨t1 + t2, v.a, v.b, v.c, v.d + t1, v.e, v.f, v.g⟩

/-- One block of 64 bytes. -/
def shaBlock (v : Sha) (blk : Bytes) : Sha :=
  let w0 := ((List.range 16).map (fun k => BitVec.ofNat 32 (beNat (sliceBytes (4 * k) 4 blk)))).reverse
  let w := (shaExtend 48 w0).reverse
  let r := ((shaK0 ++ shaK1).zip w).foldl shaRound v
  ⟨v.a + r.a, v.b + r.b, v.c + r.c, v.d + r.d, v.e + r.e, v.f + r.f, v.g + r.g, v.h + r.h⟩

/-- Blocks of a padded message, `n` of them. -/
def shaBlocks : Nat → Sha → Bytes → Sha
  | 0, v, _ => v
  | n + 1, v, m => shaBlocks n (shaBlock v (m.take 64)) (m.drop 64)

/-- SHA-256 of a byte string. PRESUMED, log entry 11. -/
def sha256 (m : Bytes) : Bytes :=
  let p := m ++ [0x80] ++ zeroBytes ((119 - m.length % 64) % 64) ++ beBytes 8 (8 * m.length)
  let v := shaBlocks (p.length / 64) ⟨0x6a09e667, 0xbb67ae85, 0x3c6ef372, 0xa54ff53a, 0x510e527f, 0x9b05688c, 0x1f83d9ab, 0x5be0cd19⟩ p
  [v.a, v.b, v.c, v.d, v.e, v.f, v.g, v.h].flatMap (fun x => beBytes 4 x.toNat)

/-- HMAC-SHA-256. PRESUMED, log entry 11. -/
def hmac256 (key m : Bytes) : Bytes :=
  let k := fitBytes 64 (if 64 < key.length then sha256 key else key)
  sha256 (k.map (· ^^^ 0x5c) ++ sha256 (k.map (· ^^^ 0x36) ++ m))

/-- Doubling in the field of AES. -/
def aesDouble (x : Byte) : Byte := if x.getLsbD 7 then (x <<< 1) ^^^ 0x1b else x <<< 1

/-- Product in the field of AES, by the bits of the second factor. -/
def aesMul (x y : Byte) : Byte :=
  ((List.range 8).foldl (fun (a : Byte × Byte) k => (aesDouble a.1, if y.getLsbD k then a.2 ^^^ a.1 else a.2)) (x, 0)).2

/-- The inverse in the field of AES (0 for 0), as the 254th power. -/
def aesInv (x : Byte) : Byte :=
  let x2 := aesMul x x
  let x3 := aesMul x2 x
  let x6 := aesMul x3 x3
  let x12 := aesMul x6 x6
  let x15 := aesMul x12 x3
  let x30 := aesMul x15 x15
  let x60 := aesMul x30 x30
  let x120 := aesMul x60 x60
  let x126 := aesMul x120 x6
  let x127 := aesMul x126 x
  aesMul x127 x127

/-- The substitution of AES. -/
def aesSub (x : Byte) : Byte :=
  let i := aesInv x
  i ^^^ i.rotateLeft 1 ^^^ i.rotateLeft 2 ^^^ i.rotateLeft 3 ^^^ i.rotateLeft 4 ^^^ 0x63

/-- The next four-byte word of the AES-256 key schedule; `i` is its index, `w` the words so far, newest first. -/
def aesKeyWord (i : Nat) (w : List Bytes) : Bytes :=
  let prev := w.headD []
  let old := w.getD 7 []
  let t := if i % 8 = 0 then
      let r := (prev.drop 1 ++ prev.take 1).map aesSub
      let rcon : Byte := (List.range (i / 8 - 1)).foldl (fun a _ => aesDouble a) 1
      match r with
      | b :: q => (b ^^^ rcon) :: q
      | [] => []
    else if i % 8 = 4 then prev.map aesSub else prev
  List.zipWith (· ^^^ ·) old t

/-- The key schedule extended to `n` more words, newest first. -/
def aesExpand : Nat → Nat → List Bytes → List Bytes
  | 0, _, w => w
  | n + 1, i, w => aesExpand n (i + 1) (aesKeyWord i w :: w)

/-- The fifteen round keys of AES-256. -/
def aesKeys (key : Bytes) : List Bytes :=
  let w0 := ((List.range 8).map (fun k => sliceBytes (4 * k) 4 key)).reverse
  let w := ((aesExpand 52 8 w0).reverse).flatMap id
  (List.range 15).map (fun k => sliceBytes (16 * k) 16 w)

/-- The row shift of AES on a state stored column by column. -/
def aesShift (s : Bytes) : Bytes := (List.range 16).map (fun k => s.getD ((k + 4 * (k % 4)) % 16) 0)

/-- The column mix of AES. -/
def aesMix (s : Bytes) : Bytes :=
  (List.range 16).map (fun k =>
    let c := 4 * (k / 4)
    let g := fun j => s.getD (c + (k + j) % 4) 0
    aesDouble (g 0) ^^^ (aesDouble (g 1) ^^^ g 1) ^^^ g 2 ^^^ g 3)

/-- Exclusive or of two byte strings. -/
def xorBytes (a b : Bytes) : Bytes := List.zipWith (· ^^^ ·) a b

/-- AES-256 of one block. -/
def aesBlock (key blk : Bytes) : Bytes :=
  let ks := aesKeys key
  let s0 := xorBytes blk (ks.headD [])
  let mid := ((ks.drop 1).take 13).foldl (fun st k => xorBytes (aesMix (aesShift (st.map aesSub))) k) s0
  xorBytes (aesShift (mid.map aesSub)) (ks.getLastD [])

/-- Product in the field of GHASH, on 128-bit numbers with the first bit most significant. -/
def ghashMul (x y : BitVec 128) : BitVec 128 :=
  ((List.range 128).foldl (fun (a : BitVec 128 × BitVec 128) k =>
    (if a.1.getLsbD 0 then (a.1 >>> 1) ^^^ 0xe1000000000000000000000000000000#128 else a.1 >>> 1,
     if x.getLsbD (127 - k) then a.2 ^^^ a.1 else a.2)) (y, 0#128)).2

/-- GHASH over `n` blocks of 16 bytes. -/
def ghash (h : BitVec 128) : Nat → BitVec 128 → Bytes → BitVec 128
  | 0, a, _ => a
  | n + 1, a, m => ghash h n (ghashMul (a ^^^ BitVec.ofNat 128 (beNat (m.take 16))) h) (m.drop 16)

/-- A byte string zero-filled to whole blocks of 16. -/
def padBlocks (m : Bytes) : Bytes := m ++ zeroBytes ((16 - m.length % 16) % 16)

/-- The counter-mode key stream of `n` blocks from counter `c`. -/
def gcmStream (key nonce : Bytes) : Nat → Nat → Bytes
  | 0, _ => []
  | n + 1, c => aesBlock key (nonce ++ beBytes 4 c) ++ gcmStream key nonce n (c + 1)

/-- The GCM tag over additional data and ciphertext, for a 12-byte nonce. -/
def gcmTag (key nonce aad ct : Bytes) : Bytes :=
  let h := BitVec.ofNat 128 (beNat (aesBlock key (zeroBytes 16)))
  let m := padBlocks aad ++ padBlocks ct ++ beBytes 8 (8 * aad.length) ++ beBytes 8 (8 * ct.length)
  let g := ghash h (m.length / 16) 0#128 m
  xorBytes (beBytes 16 g.toNat) (aesBlock key (nonce ++ beBytes 4 1))

/-- AES-256-GCM decryption: the plaintext, or none where the tag does not match. PRESUMED, log entry 11. -/
def gcmOpen (key nonce aad ct tag : Bytes) : Option Bytes :=
  if gcmTag key nonce aad ct = tag then some (xorBytes ct (gcmStream key nonce ((ct.length + 15) / 16) 2)) else none

/-- AES-256-GCM encryption: ciphertext and tag. PRESUMED, log entry 11. -/
def gcmSeal (key nonce aad m : Bytes) : Bytes :=
  let ct := xorBytes m (gcmStream key nonce ((m.length + 15) / 16) 2)
  ct ++ gcmTag key nonce aad ct

/-- The prime of P-256. -/
def p256p : Nat := 0xffffffff00000001000000000000000000000000ffffffffffffffffffffffff
/-- The order of its base point. -/
def p256n : Nat := 0xffffffff00000000ffffffffffffffffbce6faada7179e84f3b9cac2fc632551
/-- The coefficient b of P-256. -/
def p256b : Nat := 0x5ac635d8aa3a93e7b3ebbd55769886bc651d06b0cc53b0f63bce3c3e27d2604b
/-- The base point. -/
def p256g : Nat × Nat :=
  (0x6b17d1f2e12c4247f8bce6e563a440f277037d812deb33a0f4a13945d898c296,
   0x4fe342e2fe1a7f9b8ee7eb4a7c0f9e162bce33576b315ececbb6406837bf51f5)

/-- `a^e` modulo `m`, over `k` bits of the exponent. -/
def powMod (m : Nat) : Nat → Nat → Nat → Nat → Nat
  | 0, _, _, acc => acc
  | k + 1, a, e, acc => powMod m k (a * a % m) (e / 2) (if e % 2 = 1 then acc * a % m else acc)

/-- The inverse modulo a prime. -/
def invMod (m a : Nat) : Nat := powMod m 256 (a % m) (m - 2) 1

/-- The sum of two points of P-256; none is the point at infinity. -/
def ecAdd (p q : Option (Nat × Nat)) : Option (Nat × Nat) :=
  match p, q with
  | none, q => q
  | p, none => p
  | some (x1, y1), some (x2, y2) =>
    if x1 = x2 ∧ (y1 + y2) % p256p = 0 then none
    else
      let l := if x1 = x2 then (3 * x1 * x1 + (p256p - 3)) * invMod p256p (2 * y1) % p256p
        else (y2 + p256p - y1) * invMod p256p (x2 + p256p - x1) % p256p
      let x := (l * l + 2 * p256p - x1 - x2) % p256p
      some (x, (l * (x1 + p256p - x) + p256p - y1) % p256p)

/-- A multiple of a point, over `k` bits of the factor. -/
def ecMul : Nat → Nat → Option (Nat × Nat) → Option (Nat × Nat) → Option (Nat × Nat)
  | 0, _, _, acc => acc
  | k + 1, e, p, acc => ecMul k (e / 2) (ecAdd p p) (if e % 2 = 1 then ecAdd acc p else acc)

/-- ECDSA verification on P-256 with SHA-256: signature `r`, `s`, public point, message. PRESUMED, log entry 11. -/
def ecdsaVerify (pub : Nat × Nat) (r s : Nat) (m : Bytes) : Bool :=
  let onCurve := decide ((pub.2 * pub.2) % p256p = (pub.1 * pub.1 * pub.1 + (p256p - 3) * pub.1 + p256b) % p256p)
  if !onCurve || r = 0 || s = 0 || p256n ≤ r || p256n ≤ s || p256p ≤ pub.1 || p256p ≤ pub.2 then false
  else
    let z := beNat (sha256 m)
    let w := invMod p256n s
    match ecAdd (ecMul 256 (z * w % p256n) (some p256g) none) (ecMul 256 (r * w % p256n) (some pub) none) with
    | none => false
    | some (x, _) => x % p256n == r

end Sys2Proof.Machine
end

