-- ==== Sys2Proof/Machine/Px.lean ====
section
/-! DEFINITION. Parameter Exchange as every write row uses it: frames and AUTH (R542, R543, R666), responses and their
store (R549), the checks before a write (R538 to R540, R660, R667, R668), the change log (R566, R567). -/
namespace Sys2Proof

/-- The path kind of R549: control bus, ring or USB. -/
def PxPath.kind : PxPath → Nat
  | .ctlA => 0 | .ctlB => 0 | .ring => 1 | .dist => 1 | .usb => 2

/-- The PATH code of R567. -/
def PxPath.code : PxPath → Nat
  | .ctlA => 0 | .ctlB => 1 | .ring => 2 | .usb => 3 | .dist => 4

end Sys2Proof

namespace Sys2Proof.Machine

/-- Result codes of R546. -/
def pxOk : Nat := 0x00
def pxNoObject : Nat := 0x01
def pxAccess : Nat := 0x02
def pxType : Nat := 0x03
def pxRange : Nat := 0x04
def pxNotAuth : Nat := 0x05
def pxNotHead : Nat := 0x06
def pxState : Nat := 0x07
def pxBusy : Nat := 0x08
def pxStorage : Nat := 0x09
def pxSequence : Nat := 0x0A
def pxCrc : Nat := 0x0B
def pxTimeout : Nat := 0x0C
def pxService : Nat := 0x0D
def pxAborted : Nat := 0x0E

/-- Frame bytes 0 up to the DATA of a PX frame (R542), without AUTH. -/
def pxHead (service tid len code index sub ty : Nat) (origin : Int) (session : Nat) (data : Bytes) : Bytes :=
  leBytes 1 service ++ leBytes 1 tid ++ leBytes 1 len ++ leBytes 1 code ++ leBytes 2 index ++ leBytes 1 sub ++ leBytes 1 ty
    ++ leInt 1 origin ++ [0] ++ leBytes 2 session ++ data

/-- The HMAC input tag and counter of R666. -/
def pxAuth (key : Bytes) (dir counter : Nat) (frame : Bytes) : Bytes :=
  (hmac256 key (leBytes 1 dir ++ leBytes 4 counter ++ frame)).take 8

/-- The session a handle names, if it is open on the request's path kind (R668). -/
def State.session (s : State) (q : PxReq) : Option SessionSt :=
  s.mgmt.sessions.find? (fun x => x.handle == q.session && x.path.kind == q.path.kind)

/-- Whether a request reaches the module (R117, R130, R687): ring, buses and USB are on in the modes that run; in recovery only the
USB port is. -/
def State.pxHears (s : State) (q : PxReq) : Bool :=
  s.commsOn || (s.md.recovery && s.md.mode == .recovery && q.path == .usb)

/-- The key of a request (R549). -/
def PxReqKey (q : PxReq) (service index sub : Nat) : PxKey :=
  { kind := q.path.kind, origin := q.origin, session := q.session, tid := q.tid, service := service, index := index, sub := sub }

/-- The request frame over which AUTH is computed (R543). -/
def pxRequest (q : PxReq) (service index sub ty : Nat) (data : Bytes) : Bytes :=
  pxHead service q.tid (12 + data.length + (if q.session = 0 then 0 else 8)) 0 index sub ty q.origin q.session data

/-- A frame of the module's own in a request's transaction (R543, R545): in a session with the same SESSION and its own AUTH. -/
def State.pxFrame (s : State) (q : PxReq) (service code index sub ty counter : Nat) (data : Bytes) : Bytes :=
  let b := pxHead service q.tid (12 + data.length + (if q.session = 0 then 0 else 8)) code index sub ty q.origin q.session data
  match s.session q with
  | some x => if q.session = 0 then b else b ++ pxAuth x.key 1 counter b
  | none => if q.session = 0 then b else b ++ zeroBytes 8

/-- A response frame (R545): the request's service code plus 0x40. -/
def State.pxResponse (s : State) (q : PxReq) (service code index sub ty counter : Nat) (data : Bytes) : Bytes :=
  s.pxFrame q (service + 0x40) code index sub ty counter data

/-- The smallest CAN FD data length of at least `n` bytes (R544, R47). -/
def canLen (n : Nat) : Nat := ([0, 1, 2, 3, 4, 5, 6, 7, 8, 12, 16, 20, 24, 32, 48, 64].find? (fun l => n ≤ l)).getD 64

/-- Puts a PX frame of the module's own on the path of its request (R509, R532, R544). A head answers no request that
reached it by ring before its census takes effect (R704). -/
def State.pxSend (s : State) (path : PxPath) (node : Nat) (origin : Int) (typ : Nat) (frame : Bytes) : State :=
  match path with
  | .ctlA => s.sendFrame .ctlA (0x6C0 + node) 2 (fitBytes (canLen frame.length) frame)
  | .ctlB => s.sendFrame .ctlB (0x6C0 + node) 2 (fitBytes (canLen frame.length) frame)
  | .ring => s.sendSlot 5 typ 0 (.square origin) frame
  | .dist => s.sendSlot 5 typ 0 (.square 0) frame
  | .usb => { s with out := s.out ++ [.usb frame] }

/-- Whether a request matches a stored response, and which (R549: the last 16, for 2 s). -/
def State.pxStored (s : State) (k : PxKey) : Option PxStored :=
  s.px.stored.find? (fun x => x.key == k && s.now < x.since + 2000000000)

/-- Stores a response and sends it (R549). -/
def State.pxAnswer (s : State) (q : PxReq) (service code index sub ty counter : Nat) (data : Bytes) : State :=
  let f := s.pxResponse q service code index sub ty counter data
  let e : PxStored := {
    key := PxReqKey q service index sub, path := q.path, node := q.node, counter := counter, since := s.now, frame := f }
  let s := { s with px := { s.px with stored := (e :: s.px.stored).take 16 } }
  let s := if code = 0 then s else (s.bump Obj.pxErrors).setNat Obj.pxLastError (code * 2 ^ 24 + index * 2 ^ 8 + sub)
  s.pxSend q.path q.node q.origin 2 f

/-- Failures of a requester within 60 s are counted; ten raise authentication-failures and lock the requester out for
300 s (R669). -/
def State.authFailure (s : State) (q : PxReq) : State :=
  let recent := s.mgmt.failures.filter (fun f => !(f.1 == q.path.kind && f.2.1 == q.origin && f.2.2 + 60000000000 ≤ s.now))
  let fs := (q.path.kind, q.origin, s.now) :: recent
  let n := (fs.filter (fun f => f.1 == q.path.kind && f.2.1 == q.origin)).length
  let s := { s with mgmt := { s.mgmt with failures := fs } }.bump Obj.authFailures
  if n < 10 then s
  else
    let lo := (q.path.kind, q.origin, s.now + 300000000000) :: s.mgmt.lockouts.filter (fun l => !(l.1 == q.path.kind && l.2.1 == q.origin))
    { s with mgmt := { s.mgmt with
        lockouts := lo, failures := fs.filter (fun f => !(f.1 == q.path.kind && f.2.1 == q.origin)) } }.raise 0x94

/-- What the checks of a session find (R540, R543, R667, R668): the role code and the counter that authenticated the
frame, or none where it is answered "not authorised". DEDUCED, log entry 69. -/
def State.pxAuthorise (s : State) (q : PxReq) (service index sub ty : Nat) (data : Bytes) : Option (Nat × Nat) :=
  if q.session = 0 then some (0, 0)
  else match s.session q with
    | none => none
    | some x =>
      let f := pxRequest q service index sub ty data
      match ((List.range 16).map (fun k => x.counter + 1 + k)).find? (fun c => pxAuth x.key 0 c f == q.auth) with
      | some c => some (x.role, c)
      | none => none

/-- The session after it has accepted a counter (R667). -/
def State.pxAccept (s : State) (q : PxReq) (counter : Nat) : State :=
  { s with mgmt := { s.mgmt with sessions := s.mgmt.sessions.map (fun x =>
      if x.handle = q.session ∧ q.session ≠ 0 then { x with counter := counter, last := s.now } else x) } }

/-- Whether a repeated request is the duplicate of a stored one (R549, R667): in a session its AUTH must verify at the
stored number. DEDUCED, log entry 108. -/
def State.pxDuplicate (s : State) (q : PxReq) (service index sub ty : Nat) (data : Bytes) : Option PxStored :=
  match s.pxStored (PxReqKey q service index sub) with
  | none => none
  | some e =>
    if q.session = 0 then some e
    else match s.session q with
      | none => none
      | some x => if pxAuth x.key 0 e.counter (pxRequest q service index sub ty data) == q.auth then some e else none

/-- The seconds in which refusals are counted (R566). -/
def State.logSecond (s : State) : Nat := (if s.unsynced then s.now else s.ringTime) / 1000000000

/-- A change-log entry (R566, R567, R568): refusals at most 16 in each whole second per requester. -/
def State.changeLog (s : State) (q : PxReq) (index sub ty role result : Nat) (old new : Bytes) : State :=
  let sec := s.logSecond
  let cnt := ((s.px.refusals.find? (fun r => r.1 == sec && r.2.1 == q.path.kind && r.2.2.1 == q.origin)).map (fun r => r.2.2.2)).getD 0
  if result ≠ 0 ∧ 16 ≤ cnt then s
  else
    let s := if result = 0 then s else
      { s with px := { s.px with refusals :=
          (sec, q.path.kind, q.origin, cnt + 1)
            :: s.px.refusals.filter (fun r => r.1 == sec && !(r.2.1 == q.path.kind && r.2.2.1 == q.origin)) } }
    let long := 8 < old.length || 8 < new.length
    let short := fun (b : Bytes) => if long then leBytes 4 (crc32 b) else b
    let s := s.bump Obj.changeLogNewest
    let e : ChangeEntry := {
      entry := s.nat Obj.changeLogNewest, time := s.ringTime, index := index, sub := sub, ty := ty, path := q.path.code,
      origin := q.origin, role := role, result := result, session := q.session,
      flags := bitOf long + 2 * bitOf s.freeRun, old := short old, new := short (if result = 0 then new else old),
      created := s.now }
    { s with px := { s.px with log := (e :: s.px.log).take 4096 } }

/-- Whether a real value lies in one of the ranges of R538 (no range: any value). -/
def inRanges (r : List (Rat × Rat)) (q : Rat) : Bool := r.isEmpty || r.any (fun e => decide (e.1 ≤ q) && decide (q ≤ e.2))

/-- The checks of a value against type and range (R537, R538): the code, or 0. -/
def checkValue (o : ObjDef) (ty : Nat) (data : Bytes) : Nat :=
  if ty ≠ o.ty.code then pxType
  else match o.ty with
    | .str => if data.length ≤ 32 then 0 else pxType
    | .domain n => if data.length = n then 0 else pxType
    | .f32 =>
      if data.length ≠ 4 then pxType
      else
        let b := BitVec.ofNat 32 (leNat data)
        if f32Finite b && inRanges o.rng (f32Val b) then 0 else pxRange
    | .bool => if data.length ≠ 1 then pxType else if leNat data ≤ 1 then 0 else pxRange
    | t =>
      if data.length ≠ t.size then pxType
      else if inRanges o.rng (Val.decode t data).toRat then 0 else pxRange

/-- The rank of the role an object needs for a write (R540); 0 needs no session. -/
def Access.rank : Access → Nat
  | .rwa r => r.code
  | _ => 0

/-- Whether an object may be written at all (R540). -/
def Access.writable : Access → Bool
  | .ro => false
  | _ => true

/-- The result of a write's own checks and effect: done, refused with a code (keeping a state where the refusal itself
changes something), or passed to pack memory (R541), its effect to follow once the copy has been read back. -/
inductive PxResult where
  | ok (s : State)
  | refuse (code : Nat)
  | refuseIn (s : State) (code : Nat)
  | defer
  deriving DecidableEq, Repr

/-- A write's own checks and effect. -/
abbrev PxEffect := State → PxResult

/-- What waits for the response of a write: sessions it closed (R668), the restart of an activation (R681). -/
def State.afterAnswer (s : State) : State :=
  let s := { s with mgmt := { s.mgmt with sessions := s.mgmt.sessions.filter (fun x => !x.closing) } }
  if s.mgmt.restartDue then s.laneRestart else s

/-- The end of a write (R541, R547, R566): change-log entry, then the response. -/
def State.pxFinish (s : State) (q : PxReq) (o : ObjDef) (i j service role counter code : Nat) (old new : Bytes) : State :=
  let idx := o.index + i
  let sub := o.sub + j
  ((s.changeLog q idx sub o.ty.code role code old new).pxAnswer q service code idx sub o.ty.code counter []).afterAnswer

/-- The rank a write needs in the present state (R540, R687): in recovery the Service role, SessionOpen excepted. -/
def State.rankFor (s : State) (o : ObjDef) : Nat :=
  if s.md.recovery && !(o.index == 0xA010 && o.sub == 0x02) then 4 else o.access.rank

/-- Whether an object is available (R687: in recovery only identity, session and update objects). -/
def State.available (s : State) (index : Nat) : Bool :=
  !s.md.recovery || index == 0x1000 || index == 0xA010 || index == 0xA030

/-- A request for an object that does not exist (R546); it makes no change-log entry (R566). DEDUCED, log entry 48. -/
def State.pxMissing (s : State) (q : PxReq) (service index sub ty : Nat) (signed : Bytes) : State :=
  if !s.pxHears q then s else
  match s.pxDuplicate q service index sub ty signed with
  | some e => ((s.bump Obj.pxDuplicates).pxSend q.path q.node q.origin 2 e.frame)
  | none => match s.pxAuthorise q service index sub ty signed with
    | none => (s.authFailure q).pxAnswer q service pxNotAuth index sub ty 0 []
    | some (_, counter) => ((s.pxAccept q counter).bump Obj.pxRequests).pxAnswer q service pxNoObject index sub ty counter []

/-- A WRITE (service 0x02) or the END of a block write (service 0x07) of one object (R538 to R541, R543, R549, R551,
R566, R660, R667): duplicate, session and AUTH, management processor down, access, `code` of the checks of the value;
then the write's own effect. `signed` is the DATA of the frame that AUTH covers, `data` the value, `old` the value before.
DEDUCED, log entry 68. -/
def State.pxRun (s : State) (q : PxReq) (o : ObjDef) (i j service ty : Nat) (signed data old : Bytes) (code : Nat)
    (effect : PxEffect) : State :=
  let idx := o.index + i
  let sub := o.sub + j
  if !s.pxHears q then s else
  match s.pxDuplicate q service idx sub ty signed with
  | some e => ((s.bump Obj.pxDuplicates).pxSend q.path q.node q.origin 2 e.frame)
  | none =>
    if s.px.rwp.any (fun r => r.key == PxReqKey q service idx sub) then s.bump Obj.pxDuplicates
    else match s.pxAuthorise q service idx sub ty signed with
    | none => (s.authFailure q).pxFinish q o i j service 0 0 pxNotAuth old old
    | some (role, counter) =>
      let s := (s.pxAccept q counter).bump Obj.pxRequests
      if !s.mgmt.running then s.pxAnswer q service pxBusy idx sub o.ty.code counter []
      else if !s.available idx then s.pxFinish q o i j service role counter pxState old old
      else if !o.access.writable then s.pxFinish q o i j service role counter pxAccess old old
      else if role < s.rankFor o then (s.authFailure q).pxFinish q o i j service role counter pxNotAuth old old
      else if code ≠ 0 then s.pxFinish q o i j service role counter code old old
      else match effect s with
        | .ok s' => s'.pxFinish q o i j service role counter 0 old data
        | .refuse c => s.pxFinish q o i j service role counter c old old
        | .refuseIn s' c => s'.pxFinish q o i j service role counter c old old
        | .defer =>
          if 16 ≤ s.px.rwp.length then (s.bump Obj.pxQueueFull).pxFinish q o i j service role counter pxBusy old old
          else { s with px := { s.px with rwp := s.px.rwp ++ [{
            q := q, key := PxReqKey q service idx sub, index := idx, sub := sub, data := data, role := role,
            counter := counter, since := s.now }] } }

/-- An expedited WRITE of one object whose value before was `old`: an element that the row does not have does not exist (R546); an open
block write of it comes first (R551), then type and range (R538). -/
def State.pxWriteOld (s : State) (q : PxReq) (o : ObjDef) (i j ty : Nat) (data old : Bytes) (effect : PxEffect) : State :=
  let busy := s.px.blocks.any (fun b => b.write && b.index == o.index + i && b.sub == o.sub + j)
  if o.has i j then s.pxRun q o i j 0x02 ty data data old (if busy then pxBusy else checkValue o ty data) effect
  else s.pxMissing q 0x02 (o.index + i) (o.sub + j) ty data

/-- An expedited WRITE of one object held in the dictionary. -/
def State.pxWrite (s : State) (q : PxReq) (o : ObjDef) (i j ty : Nat) (data : Bytes) (effect : PxEffect) : State :=
  s.pxWriteOld q o i j ty data ((s.val o i j).encode o.ty) effect

/-- The END of a block write of one DOMAIN object (R551, R553), its CRC found right. -/
def State.pxBlock (s : State) (q : PxReq) (o : ObjDef) (i j : Nat) (data : Bytes) (effect : PxEffect) : State :=
  if o.has i j then s.pxRun q o i j 0x07 o.ty.code (leBytes 4 (crc32 data)) data ((s.val o i j).encode o.ty) 0 effect
  else s.pxMissing q 0x07 (o.index + i) (o.sub + j) o.ty.code (leBytes 4 (crc32 data))

/-- A write whose data are the bytes of a number of the object's own type. -/
def State.pxWriteNat (s : State) (q : PxReq) (o : ObjDef) (i j v : Nat) (effect : PxEffect) : State :=
  s.pxWrite q o i j o.ty.code (leBytes o.ty.size v) effect

/-- Plain storing of a value (R538). -/
def storeValue (o : ObjDef) (i j : Nat) (data : Bytes) : PxEffect := fun s => .ok (s.setVal o (Val.decode o.ty data) i j)

end Sys2Proof.Machine
end

