-- ==== Sys2Proof/Machine/Operands.lean ====
section
/-! DEFINITION. How a command's operands reach the module: slots under squares, turning and tokens (R462 to R472), notices
by any path (R506), frames on a bus (R518, R524, R526). -/
namespace Sys2Proof.Machine

/-- Slot types delivered "Both" (R460). -/
def bothType (cls typ : Nat) : Bool :=
  (cls == 0 && (typ == 1 || (3 ≤ typ && typ ≤ 7))) || (cls == 1 && (typ == 1 || typ == 2 || typ == 3 || typ == 8))

/-- Slot types addressed to square 0 (R460, R604). -/
def zeroType (cls typ : Nat) : Bool :=
  (cls == 0 && typ == 2) || (cls == 1 && (typ == 6 || typ == 9)) || (cls == 2 && typ == 2) || (cls == 3 && (typ == 4 || typ == 5))
    || (cls == 6 && typ == 2)

/-- Whether this copy of a "Both" slot is the first, and the state that remembers it for 1 s (R462). -/
def State.firstCopy (s : State) (h : SlotHdr) : Bool × State :=
  if !bothType h.cls h.typ then (true, s)
  else
    let live := s.ring.seen.filter (fun e => s.now < e.2.2.2 + 1000000000)
    if live.any (fun e => e.1 == h.src && e.2.1 == h.cls * 32 + h.typ && e.2.2.1 == h.seq) then
      (false, { s with ring := { s.ring with seen := live } })
    else (true, { s with ring := { s.ring with seen := (h.src, h.cls * 32 + h.typ, h.seq, s.now) :: live } })

/-- A slot that arrived, or was restored, in its own direction (R462, R463, R604): forwarded where it goes on; the Bool
says whether this member delivers it. -/
def State.arrive (s : State) (h : SlotHdr) (payload : Bytes) : State × Bool :=
  let h' := { h with hops := h.hops - 1 }
  if h.bcast then
    if (s.ring.hasSquare || s.isHead) && h.src = s.square then (s, false)
    else
      let s := if h.hops ≤ 1 then s else s.route h' payload false
      if zeroType h.cls h.typ then (s, s.isHead)
      else let c := s.firstCopy h; (c.2, c.1)
  else if h.hops ≤ 1 then (s, true)
  else (s.route h' payload false, false)

/-- Whether the ring transceivers are on, so that a slot can arrive (R117, R122 step 9, R130 step 5). DEDUCED, log entry 18. -/
def State.hearsRing (s : State) : Bool := s.commsOn || s.md.mode == .startup

/-- Whether a controller receives (R117, R130 step 5, R515, R525, R527, R529): it listens or is not bus-off, disabled or off.
DEDUCED, log entry 18. -/
def State.busHears (s : State) (b : Bus) : Bool :=
  let x := (s.bus b).st
  (s.commsOn || s.md.mode == .startup) && (x == .listening || x == .active || x == .passive)

/-- A slot received at a port (R462 to R465, R469): its token returns are taken, its buffer is freed, and it is delivered,
forwarded, restored or passed on turned. DESIGN CHOICE, log entry 19. -/
def State.ringRx (s : State) (rx : SlotRx) (payload : Bytes) : State × Bool :=
  if !s.hearsRing then (s, false) else
  let h := rx.hdr
  let s := (s.takeTokens rx.port h).freeBuffer rx.port h
  if linkType h.cls h.typ then (s, true)
  else if !h.turned then s.arrive h payload
  else
    let home : Port := if h.west then .east else .west
    if rx.port ≠ home && !(s.port home).usable then s.arrive { h with turned := false, returned := true } payload
    else if (s.port rx.port.other).usable then (s.launch rx.port.other h payload false, false)
    else (s, false)

/-- Whether a notice is the first copy of its sender, TYPE and SEQ by any path, and the state that remembers it (R506). -/
def State.firstNotice (s : State) (n : Notice) (typ seq : Nat) : Bool × State :=
  let k := n.node * 2 ^ 64 + n.pack
  let live := s.can.notices.filter (fun e => s.now < e.2.2.2 + 1000000000)
  if live.any (fun e => e.1 == k && e.2.1 == typ && e.2.2.1 == seq) then (false, { s with can := { s.can with notices := live } })
  else (true, { s with can := { s.can with notices := (k, typ, seq, s.now) :: live } })

/-- A valid frame received on a bus (R516, R526): the receive error counter falls under ISO 11898-1, and the frame counts
as heard. -/
def State.busHeard (s : State) (b : Bus) : State :=
  let x := s.bus b
  let r := if x.rxErr = 0 then 0 else if x.rxErr ≤ 127 then x.rxErr - 1 else 127
  let s := s.setBus b { x with rxErr := r }
  { s with ident := { s.ident with lastFrame := s.now } }

/-- A frame that carries the own node ID though this module did not send it: it stops sending under the ID and joins again
(R518). -/
def State.idConflict (s : State) : State :=
  let s := (s.bump Obj.nodeIdConflicts).raiseEvent 0x69
  let stop := fun (x : BusSt) => { x with txq := x.txq.filter (fun f => f.ext), waitPx := [] }
  let s := { s with can := { s.can with idStopped := true, a := stop s.can.a, b := stop s.can.b } }
  { s with ident := { s.ident with phase := .lateJoin, lastFrame := s.now } }

/-- A TC0 notice received by ring or bus; the Bool says whether it is delivered (R462, R506, R518). DESIGN CHOICE, log entry 19. -/
def State.noticeRx (s : State) (via : NoticeVia) (typ : Nat) (n : Notice) : State × Bool :=
  match via with
  | .ring rx =>
    let r := s.ringRx rx n.bytes
    if !r.2 then (r.1, false)
    else if 1 ≤ typ && typ ≤ 5 then let c := r.1.firstNotice n typ rx.hdr.seq; (c.2, c.1)
    else (r.1, true)
  | .bus b seq =>
    if !s.busHears b then (s, false) else
    let s := s.busHeard b
    if n.node ≠ 0 ∧ n.node = s.nodeId ∧ typ ≤ 3 then (s.idConflict, false)
    else let c := s.firstNotice n typ seq; (c.2, c.1)

/-- The member at a node ID. -/
def State.member (s : State) (node : Nat) : Member := KMap.get s.ident.members node {}

/-- The state with the entry of a node ID replaced. -/
def State.setMember (s : State) (node : Nat) (m : Member) : State :=
  { s with ident := { s.ident with members := KMap.set s.ident.members node m } }

/-- The node IDs of admitted modules. -/
def State.admitted (s : State) : List Nat := (s.ident.members.filter (fun e => e.2.state == 1)).map (·.1)

/-- The node ID whose entry holds a square, if any. -/
def State.nodeAt (s : State) (sq : Int) : Option Nat :=
  (s.ident.members.find? (fun e => e.2.state == 1 && e.2.square == sq)).map (·.1)

end Sys2Proof.Machine
end

