-- ==== Sys2Proof/Machine/HeadOps.lean ====
section
/-! DEFINITION. Operations of the head that several commands share: descriptor copies (R34 to R38), the limit record (R359
to R362), opening the contactors (R351), the census start (R477), standby designation (R54, R598), taking the role
(R602, R603), checkpoints (R595). -/
namespace Sys2Proof.Machine

/-- The valid descriptor a pack-memory slot holds (R36, R38, R652). -/
def State.descSlot (s : State) (k : Nat) : Option Descriptor := Descriptor.parse (s.pmRead (0x100 + 0x80 * k) 128)

/-- The module's own candidate with its slot (R34). -/
def State.candidate (s : State) : Option (Nat × Descriptor) :=
  match s.descSlot 0, s.descSlot 1 with
  | some a, some b => if a.seq < b.seq then some (1, b) else some (0, a)
  | some a, none => some (0, a)
  | none, some b => some (1, b)
  | none, none => none

/-- A descriptor written to the slot that does not hold the candidate (R35), where pack memory answers. -/
def State.writeDescriptor (s : State) (d : Descriptor) : State :=
  let k := match s.candidate with
    | some (c, _) => 1 - c
    | none => 0
  if s.rcd.pmPresent then s.pmWrite (0x100 + 0x80 * k) d.bytes else s

/-- The running descriptor and its objects 0x4000. -/
def State.setDesc (s : State) (d : Descriptor) : State :=
  let s := { s with ident := { s.ident with desc := d } }
  ((((((s.setNat Obj.descSeq d.seq).setNat Obj.descStringId d.stringId).setNat Obj.descHeadPack d.headPack).setNat
    Obj.descStandbyPack d.standbyPack).setNat Obj.descModuleCount d.moduleCount).setNat Obj.descFlags d.flags)

/-- The own descriptor announce (R46, R48). -/
def State.ownAnnounce (s : State) : Announce :=
  match s.candidate with
  | some (_, d) => { serial := s.serial24, seq := d.seq, crc := d.crc, headPack := d.headPack, pack := s.packId,
                     eligible := s.eligible, valid := true }
  | none => { serial := s.serial24, seq := 0, crc := 0, headPack := 0, pack := s.packId, eligible := s.eligible, valid := false }

/-- Sends a record as a distributed block write on TC5: the opening, its segments of 32 bytes, the END with its CRC
(R557, R552, R553). The object addressed is the model's choice (log entry 14). -/
def State.distribute (s : State) (index sub : Nat) (d : Bytes) : State :=
  let s := s.sendSlot 5 1 0 .eastAll (pxHead 4 0 18 0 index sub 11 0 0 (leBytes 4 0 ++ leBytes 2 d.length))
  let s := (List.range ((d.length + 31) / 32)).foldl (fun (st : State) k =>
    let seg := sliceBytes (32 * k) 32 d
    st.sendSlot 5 3 0 .eastAll ([5, 0] ++ leBytes 1 (8 + seg.length) ++ [0] ++ leBytes 2 k ++ [0, 0] ++ seg)) s
  s.sendSlot 5 3 0 .eastAll (pxHead 7 0 16 0 index sub 11 0 0 (leBytes 4 (crc32 d)))

/-- No rewrite, because SEQ would pass its last value (R63): descriptor-superseded is ACTIVE while the running SEQ is that last
value, for one sample otherwise (R709). -/
def State.seqSpent (s : State) : State :=
  let s := { s with ident := { s.ident with seqExhausted := true } }
  if s.ident.desc.seq = 0xFFFFFFFE then s.raise 0x0E else s.raiseEvent 0x0E

/-- The head rewrites the descriptor with a content and SEQ in every admitted module, itself included (R44, R61, R62), or
makes no rewrite where SEQ would pass its last value (R63). -/
def State.rewriteDescriptor (s : State) (d : Descriptor) : State :=
  if 0xFFFFFFFE < d.seq then s.seqSpent
  else
    let s := (s.writeDescriptor d).setDesc d
    { s with ident := { s.ident with highestSeq := max s.ident.highestSeq d.seq } }.distribute 0x4001 6 d.bytes

/-- A pack is measured while its module is admitted and in STANDBY or ONLINE (R64). -/
def Member.measured (m : Member) : Bool := m.state == 1 && (m.mode == 2 || m.mode == 3)

/-- Whether the own pack is measured (R64). -/
def State.selfMeasured (s : State) : Bool := s.md.mode == .standby || s.md.mode == .online

/-- The members of other packs. -/
def State.others (s : State) : List (Nat × Member) := s.ident.members.filter (fun e => e.2.pack != s.packId)

/-- The packs counted in MODULE_COUNT (R64); without a descriptor, every module found. -/
def State.wanted (s : State) : Nat :=
  if s.ident.desc.moduleCount = 0 then s.nat Obj.modulesFound else s.ident.desc.moduleCount

/-- Whether every pack counted in MODULE_COUNT is measured (R64). -/
def State.allMeasured (s : State) : Bool :=
  s.selfMeasured && decide (s.wanted ≤ (s.others.filter (fun e => e.2.measured)).length + 1)

/-- VALUE of a word of R203: its upper 24 bits as a signed number. -/
def wordValue (w : Nat) : Int := signedOf 24 (w / 256)

/-- The word of a local point in a node's publication area (R560). -/
def pubWord (area : Bytes) (p : Nat) : Nat := fieldAt (16 + 4 * p) 4 area

/-- The word of a local point of a node: the own one, or the copy the head holds (R560, R563). -/
def State.pointWord (s : State) (node p : Nat) : Nat :=
  if node = s.nodeId then KMap.get s.px.pub p 0 else pubWord (s.val Obj.headPubCopy (node - 1)).toBytes p

/-- The node IDs of the measured modules, the own one among them. -/
def State.measuredNodes (s : State) : List Nat :=
  (if s.selfMeasured then [s.nodeId] else []) ++ (s.others.filter (fun e => e.2.measured)).map (·.1)

/-- The usable cell readings of the measured modules in V: words of populated cells without SETTLE, CLIP, OWT or CAL
(R359). -/
def State.cellReadings (s : State) : List Rat :=
  s.measuredNodes.flatMap (fun n =>
    (List.range 24).filterMap (fun p =>
      let w := s.pointWord n p
      if w = 0 || bitsOf 0 0 w = 1 || bitsOf 1 1 w = 1 || bitsOf 3 3 w = 1 || bitsOf 4 4 w = 1 then none
      else some ((wordValue w : Rat) / 1000000)))

/-- The included NTC readings of the measured modules in °C (R359). -/
def State.ntcReadings (s : State) : List Rat :=
  s.measuredNodes.flatMap (fun n =>
    (List.range 16).filterMap (fun p =>
      let w := s.pointWord n (24 + p)
      if w = 0 || bitsOf 0 0 w = 1 || bitsOf 1 1 w = 1 then none else some ((wordValue w : Rat) / 100)))

/-- The cells of the string as the publication areas show them (a populated cell's word is not 0), own cells by
PopulatedCells. -/
def State.stringCells (s : State) : Nat :=
  s.cellCount + ((s.others.filter (fun e => e.2.state == 1)).map (fun e =>
    ((List.range 24).filter (fun p => s.pointWord e.1 p != 0)).length)).foldl (· + ·) 0

/-- The largest of a list, if it has one. -/
def maxOf (l : List Rat) : Option Rat := l.foldl (fun a x => match a with | none => some x | some m => some (maxQ m x)) none

/-- The smallest of a list, if it has one. -/
def minOf (l : List Rat) : Option Rat := l.foldl (fun a x => match a with | none => some x | some m => some (minQ m x)) none

/-- The charge and discharge limit targets and whether a factor is below 1 (R359). -/
def State.limitTargets (s : State) : Rat × Rat × Bool :=
  match maxOf s.cellReadings, minOf s.cellReadings, maxOf s.ntcReadings, minOf s.ntcReadings with
  | some vmax, some vmin, some tmax, some tmin =>
    let fvc := clampQ 0 1 ((s.rat Obj.cellOvWarn - vmax) / (s.rat Obj.cellOvWarn - s.rat Obj.chgTaperStart))
    let fvd := clampQ 0 1 ((vmin - s.rat Obj.cellUvWarn) / (s.rat Obj.disTaperStart - s.rat Obj.cellUvWarn))
    let fth := clampQ 0 1 ((s.rat Obj.tempHighOpen - tmax) / (s.rat Obj.tempHighOpen - s.rat Obj.tempHighWarn))
    let ftc := clampQ 0 1 ((tmin - s.rat Obj.tempLowWarn) / 10)
    let ftd := clampQ 0 1 ((tmin - s.rat Obj.tempLowOpen) / 10)
    let k : Rat := if s.hio.curDisagree then 1 / 2 else 1
    let fc := minQ fvc (minQ fth ftc)
    let fd := minQ fvd (minQ fth ftd)
    if s.hio.contactor ≠ 3 || s.hio.openStep ≠ 0 || !s.allMeasured then (0, 0, fc < 1 || fd < 1)
    else (s.rat Obj.chargeCurrentMax * fc * k, s.rat Obj.dischargeCurrentMax * fd * k, fc < 1 || fd < 1)
  | _, _, _, _ => (0, 0, false)

/-- Sends a limit record (R361, R362): SEQ advances, both buses and TC2; the limits are reported as sent. -/
def State.sendLimit (s : State) (chg dis : Rat) : State :=
  let seq := (s.hio.limitSeq + 1) % 65536
  let s := { s with hio := { s.hio with limitSeq := seq } }
  let s := (s.setRat Obj.chargeLimit chg).setRat Obj.dischargeLimit dis
  let n := (s.stringCells : Rat)
  let flags := packBits [s.hio.contactor == 3, decide (s.hio.openStep ≠ 0), s.hio.derated, s.hio.curDisagree, s.hio.isoWarn]
  let b := limitBytes seq (chg * 10).floor.toNat (dis * 10).floor.toNat (n * s.rat Obj.cellOvWarn * 10).floor.toNat
    (n * s.rat Obj.cellUvWarn * 10).floor.toNat flags (s.ringTime / 1000)
  (s.sendBoth 0x090 1 b).sendSlot 2 3 0 .eastAll b

/-- A prompt open (R351, R353): closing is abandoned, an orderly opening takes the shorter wait, a closed string begins to
open with the 40 ms current wait; otherwise nothing changes. DEDUCED, log entry 90. -/
def State.promptOpen (s : State) : State :=
  if !s.isHead then s
  else if s.hio.openStep = 3 then { s with hio := { s.hio with openWaitEnd := min s.hio.openWaitEnd (s.now + 40000000) } }
  else if s.hio.contactor = 1 ∨ s.hio.contactor = 2 ∨ (s.hio.contactor = 3 ∧ s.hio.openStep = 0) then
    { s with hio := { s.hio with
        contactor := 4, closeStep := 0, openStep := 3, stepStart := s.now, openWaitEnd := s.now + 40000000,
        openOrderly := false } }.sendLimit 0 0
  else s

/-- A commanded, orderly open (R351). -/
def State.orderlyOpen (s : State) : State :=
  if s.hio.contactor = 1 ∨ s.hio.contactor = 2 then
    { s with hio := { s.hio with
        contactor := 4, closeStep := 0, openStep := 3, stepStart := s.now, openWaitEnd := s.now + 40000000,
        openOrderly := true } }.sendLimit 0 0
  else if s.hio.contactor = 3 ∧ s.hio.openStep = 0 then
    { s with hio := { s.hio with
        contactor := 4, openStep := 3, stepStart := s.now, openWaitEnd := s.now + s.nat Obj.openWaitMax * 1000000,
        openOrderly := true } }.sendLimit 0 0
  else s

/-- Sends the CENSUS slot out of the head's EAST port, or turns it at once (R477, R478). -/
def State.sendCensus (s : State) (no : Nat) : State :=
  let q := s.takeSeq 1 7
  let h := q.2.hdr 1 7 q.1 0 false false 63
  if !s.commsOn || !s.voteOk then q.2
  else if (q.2.port .east).usable then q.2.launch .east h (censusBytes no 0 255 s.ident.desc.stringId) true
  else if (q.2.port .west).usable then
    q.2.launch .west { h with turned := true } (censusBytes no 0 0 s.ident.desc.stringId) true
  else q.2

/-- The head starts a census (R476, R477), or remembers to start one when the running one takes effect (R481). -/
def State.startCensus (s : State) : State :=
  if !s.isHead then s
  else if s.ring.run.isSome || s.ring.pend.isSome then { s with ring := { s.ring with again := true } }
  else
    let no := s.ring.nextNo
    let s := { s with ring := { s.ring with
      run := some { no := no, start := s.now }, nextNo := (no + 1) % 65536, retryAt := none, again := false,
      lastCounted := some no } }
    s.sendCensus no

/-- The node ID of a pack identity in the membership list. -/
def State.nodeOfPack (s : State) (pack : Nat) : Option Nat :=
  (s.ident.members.find? (fun e => e.2.state == 1 && e.2.pack == pack)).map (·.1)

/-- The pack the head designates as standby (R54, R598): the named one where its module is admitted, eligible and not in
SAFE, else with AUTO_STANDBY the eligible module with the lowest node ID; never `lost`. -/
def State.pickStandby (s : State) (lost : Nat) : Nat :=
  let ok := fun (m : Member) => m.state == 1 && m.eligible && m.mode != 5 && m.pack != s.packId && m.pack != lost && m.pack != 0
  let named := s.ident.desc.standbyPack
  if named ≠ 0 && s.ident.members.any (fun e => e.2.pack == named && ok e.2) then named
  else if s.ident.desc.flags % 2 = 1 || s.ident.desc.stringId = 0 then
    ((s.ident.members.find? (fun e => ok e.2)).map (fun e => e.2.pack)).getD 0
  else 0

/-- Designates a standby head (R54, R598, R698); the displaced one becomes a segment. -/
def State.designate (s : State) (pack : Nat) : State :=
  if pack = s.ident.standbyPack then s
  else
    let ms := s.ident.members.map (fun e =>
      (e.1, if e.2.pack == pack && pack != 0 then { e.2 with role := 2 } else if e.2.role = 2 then { e.2 with role := 0 } else e.2))
    { s with
      ident := { s.ident with standbyPack := pack, standbyReady := false, members := ms }
      flt := { s.flt with unacked := 0, ackAt := none } }

/-- Whether the configuration is large and lacks a standby (R11, R65). -/
def State.missingStandby (s : State) : Bool := s.nat Obj.configuration == 1 && s.ident.standbyPack == 0

/-- Taking the head role (R52, R330, R335, R602 to R604, R631): HeadBasis, taps, time master without a step, square 0, no
unicast before an own census, and the census. -/
def State.takeHead (s : State) (basis : Nat) : State :=
  let ns := s.ring.hasSquare
  let s := s.steerTo 0
  let s := { s with
    ident := { s.ident with
      role := .head, phase := .enumerated, electionHold := false, headFailHold := false, retryAt := none, backoffEnd := none,
      inRound := false, round := 0, standbyPack := 0, standbyReady := false }
    tm := { s.tm with master := true, state := .locked }
    meas := { s.meas with tapSettle := 12, currentChanged := true }
    hio := { s.hio with tapsOn := true, isoEval := none, isoA := none, isoState := if s.nat Obj.isoMode = 0 then 0 else 1, isoSince := s.now }
    ring := { s.ring with noUnicast := true, hasSquare := ns, sq0Broadcast := false }
    flt := { s.flt with failAt := none, hbMissed := 0, newMasterUntil := s.now + 100000000 } }
  ((s.setNat Obj.headBasis basis).setNat Obj.isoAge 0xFFFFFFFF).episode 9 basis 0 0

/-- The content of a checkpoint (R595). The recorded loop states come from the loop engine's LoopState objects. -/
def State.ckptContent (s : State) (gen : Nat) (loops : Bytes) (planSeq balActive : Bytes) : Bytes :=
  let flags := packBits [s.hio.curDisagree, s.hio.isoWarn, s.hio.isoAlarm, s.hio.scLatch, s.hio.linkHeld, s.hio.weld,
    s.hio.lockoutEnd.isSome, s.flag Obj.balEnable]
  let isoAge := match s.hio.isoEval with
    | some (at0, age) => age + (s.now - at0) / 1000000000
    | none => 0xFFFFFFFF
  leBytes 4 gen ++ leBytes 8 s.ringTime ++ leBytes 4 s.ident.desc.seq ++ leBytes 8 s.ident.desc.stringId
    ++ leBytes 2 (s.nat Obj.membershipGen) ++ leBytes 2 s.ring.censusNo ++ leBytes 1 s.hio.contactor
    ++ leBytes 1 (packBits [s.hio.mainPos, s.hio.mainNeg, s.hio.prechg]) ++ leBytes 1 (s.nat Obj.currentInUse) ++ leBytes 1 flags
    ++ leBytes 4 (((s.hio.lockoutEnd.getD s.now) - s.now) / 1000000)
    ++ f32Bytes (f32Of (s.rat Obj.chargeLimit)) ++ f32Bytes (f32Of (s.rat Obj.dischargeLimit)) ++ leBytes 2 s.hio.limitSeq
    ++ zeroBytes 2 ++ fitBytes 64 planSeq ++ fitBytes 96 balActive
    ++ (List.range 32).flatMap (fun k => (s.member (k + 1)).bytes (k + 1))
    ++ f32Bytes (f32Of (s.rat Obj.isoRp)) ++ f32Bytes (f32Of (s.rat Obj.isoRn)) ++ leBytes 4 isoAge
    ++ leBytes 1 (s.nat Obj.tripNode) ++ leBytes 1 (s.nat Obj.tripCause) ++ zeroBytes 34 ++ fitBytes 160 loops

/-- A member entry read back from its 24 bytes (R69, R595). -/
def Member.ofBytes (b : Bytes) : Member :=
  { pack := fieldAt 0 8 b, serial := fieldAt 8 8 b, square := signedOf 16 (fieldAt 16 2 b), role := fieldAt 19 1 b,
    mode := fieldAt 20 1 b, state := fieldAt 21 1 b }

/-- The head state restored from the checkpoint held (R595, R596, R602 step 3); the contactors follow R353 and R355. -/
def State.restoreCkpt (s : State) : State :=
  let c := s.flt.ckpt.content
  if c = [] then s
  else
    let flags := fieldAt 31 1 c
    let coils := fieldAt 29 1 c
    let cont := fieldAt 28 1 c
    let ms := (List.range 32).filterMap (fun k =>
      let old := s.member (k + 1)
      let m := Member.ofBytes (sliceBytes (208 + 24 * k) 24 c)
      if m.state = 0 then none
      else some (k + 1, { m with eligible := old.eligible, lastStatus := old.lastStatus, linkUp := old.linkUp, locked := old.locked,
                                 integrity := old.integrity, sumC := old.sumC }))
    let weld := bitsOf 5 5 flags = 1
    let (cont', drive) := if weld then (6, false) else if cont = 5 then (5, false)
      else if cont = 3 then (if s.hio.coilCut then (5, false) else (3, true))
      else (0, false)
    let iso := fieldAt 984 4 c
    let s := { s with
      ident := { s.ident with members := ms, bindings := ms.map (fun (e : Nat × Member) => (e.2.pack, e.1)), enumDue := false }
      hio := { s.hio with
        contactor := cont', weld := weld, closeStep := 0, openStep := 0, curDisagree := bitsOf 0 0 flags = 1,
        isoWarn := bitsOf 1 1 flags = 1, isoAlarm := bitsOf 2 2 flags = 1, scLatch := bitsOf 3 3 flags = 1,
        linkHeld := bitsOf 4 4 flags = 1, mainPos := drive && bitsOf 0 0 coils = 1, mainNeg := drive && bitsOf 1 1 coils = 1,
        prechg := drive && bitsOf 2 2 coils = 1, limitSeq := fieldAt 44 2 c,
        lockoutEnd := if bitsOf 6 6 flags = 1 then some (s.now + fieldAt 32 4 c * 1000000) else none,
        isoEval := if iso = 0xFFFFFFFF then none else some (s.now, iso + (s.ringTime - s.flt.ckpt.takenAt) / 1000000000) } }
    let s := (s.setNat Obj.balEnable (bitsOf 7 7 flags)).setNat Obj.currentInUse (fieldAt 30 1 c)
    let s := (s.setRat Obj.chargeLimit (f32Val (f32At 36 c))).setRat Obj.dischargeLimit (f32Val (f32At 40 c))
    let s := (s.setVal Obj.isoRp (.f32 (f32At 976 c))).setVal Obj.isoRn (.f32 (f32At 980 c))
    let s := (s.setNat Obj.tripNode (fieldAt 988 1 c)).setNat Obj.tripCause (fieldAt 989 1 c)
    let s := s.setDesc { s.ident.desc with seq := fieldAt 12 4 c, stringId := fieldAt 16 8 c }
    (s.setNat Obj.membershipGen (fieldAt 24 2 c)).setNat Obj.isoAge iso

/-- The heartbeat payload of this head (R485). -/
def State.heartbeatRec (s : State) : HeartbeatRec :=
  { node := s.nodeId, mode := s.md.mode.code, contactor := s.hio.contactor, basis := s.nat Obj.headBasis,
    stringId := s.ident.desc.stringId, descSeq := s.ident.desc.seq, membGen := s.nat Obj.membershipGen,
    censusNo := s.ring.censusNo, ckptGen := s.nat Obj.ckptGenSent, pack := s.packId }

/-- Sends the heartbeat on the ring and both buses (R485, R505). -/
def State.sendHeartbeat (s : State) : State :=
  let b := s.heartbeatRec.bytes
  (s.sendSlot 1 3 0 .both b).sendBoth 0x080 1 b

end Sys2Proof.Machine
end

