-- ==== Sys2Proof/Machine/Spin.lean ====
section
/-! DEFINITION. The spinner angle (R165 to R172), precision windows and anchors (R191 to R198), settling and the tagged
sample (R203 to R209), balancing spans (R267, R277). -/
namespace Sys2Proof.Machine

/-- The newest spinner record whose t0 is not later than `t` (R169). -/
def State.spinRec (s : State) (t : Nat) : Option SpinnerRec := s.tm.spin.find? (fun r => decide (r.t0 ≤ t))

/-- The angle of a record at ring time `t` (R169). -/
def SpinnerRec.angleAt (r : SpinnerRec) (t : Nat) : Nat :=
  (r.turn0 * 65536 + ((t - r.t0) * 64 * 65536) / r.p) % 2 ^ 32

/-- The present spinner angle, where turns exist (R169, R198). -/
def State.angle (s : State) : Option Nat := (s.spinRec s.ringTime).map (fun r => SpinnerRec.angleAt r s.ringTime)

/-- The ring time of the start of a turn, under a record, for a turn number within half the range of TURN0. -/
def SpinnerRec.turnTime (r : SpinnerRec) (turn : Nat) : Nat :=
  ((r.t0 : Int) + (modDiff 16 turn r.turn0 * r.p) / 64).toNat

/-- The turn frequency of a period in 1/64 ns. -/
def freqOf (p : Nat) : Rat := if p = 0 then 0 else 64000000000 / (p : Rat)

/-- The period in 1/64 ns of a frequency, rounded to the nearest. -/
def periodOf (f : Rat) : Nat := if f ≤ 0 then 1 else max 1 (64000000000 / f + 1 / 2).floor.toNat

/-- M of R194 from PrecisionAveraging and the turn frequency. -/
def calcM (avg : Nat) (f : Rat) : Nat :=
  let m := if avg = 0 then max 1 (f / 1000 + 1 / 2).floor.toNat else avg
  max m (f / 2000).ceil.toNat

/-- Whether a one-shot angle lies in the future of the present angle (R172). -/
def angleFuture (a now : Nat) : Bool :=
  let d := (a + 2 ^ 32 - now % 2 ^ 32) % 2 ^ 32
  decide (1 ≤ d) && decide (d < 2 ^ 31)

/-- The state of a channel. -/
def State.chan (s : State) (n : Nat) : ChanSt := KMap.get s.meas.chans n {}

/-- The state with a channel replaced. -/
def State.setChan (s : State) (n : Nat) (c : ChanSt) : State := { s with meas := { s.meas with chans := KMap.set s.meas.chans n c } }

/-- Whether a cell's half-stack is fenced (R190). -/
def State.cellFenced (s : State) (n : Nat) : Bool := if n ≤ 12 then s.meas.h1Fenced else s.meas.h2Fenced

/-- SETTLE starts on one output kind (R209). -/
def KindSt.startSettle (k : KindSt) (n since : Nat) : KindSt := { k with settle := n, since := since }

/-- A change of R209 on a list of channels at an instant: all three kinds, or the precision output alone. -/
def State.settle (s : State) (cells : List Nat) (precOnly : Bool) (since : Nat) : State :=
  let s := cells.foldl (fun (st : State) n =>
    let c := st.chan n
    let c := { c with prec := c.prec.startSettle 5 since }
    st.setChan n (if precOnly then c else { c with std := c.std.startSettle 12 since, wide := c.wide.startSettle 65 since })) s
  s.bump Obj.settleEvents

/-- The window in progress is discarded and the next one starts at an instant and turn, the five that follow carrying
SETTLE; remeasurements that waited for the discarded window have no partner (R197, R245). -/
def State.discardWindow (s : State) (start turn : Nat) : State :=
  let skip := fun (d : PawnSt) => { d with
    pend := [], res := d.pend.foldl (fun r e => KMap.set r e.pos (2 ^ 15 + (d.round % 4) * 4096)) d.res }
  let n := s.aux.dev0.pend.length + s.aux.dev1.pend.length
  let s := { s with
    meas := { s.meas with winStart := start, winTurn := turn }
    aux := { s.aux with dev0 := skip s.aux.dev0, dev1 := skip s.aux.dev1 } }
  (s.bumpBy Obj.pawnSkips n).settle s.cells true start

/-- The next boundary of the sequence of an anchor at or after an instant: its turn number and its ring time (R196,
R197). Turns since the anchor are counted by time and corrected to the turn number. -/
def nextBoundary (r : SpinnerRec) (anchorTime anchorTurn m now : Nat) : Nat × Nat :=
  let cur := (SpinnerRec.angleAt r now) / 65536
  let est : Int := (((now : Int) - anchorTime) * 64) / r.p
  let turns := est + modDiff 16 (cur + 65536 - anchorTurn % 65536) (est % 65536).toNat
  let k := if turns < 0 then 0 else turns.toNat / m + 1
  let turn := (anchorTurn + k * m) % 65536
  (turn, SpinnerRec.turnTime r turn)

/-- Local windows begin or turn windows end (R198): handled as an anchor at the next whole millisecond. -/
def State.toLocal (s : State) : State :=
  if s.meas.localWin then s
  else { s with meas := { s.meas with localWin := true, anchorPend := none } }.discardWindow (s.ringTime / 1000000 * 1000000 + 1000000) 0

/-- A window record is taken (R196, R197): kept until its anchor is reached, or, where the anchor has passed, the window in
progress is discarded and the next boundary starts a window. -/
def State.takeAnchor (s : State) (at0 turn m : Nat) : State :=
  if s.ringTime < at0 then { s with meas := { s.meas with anchorPend := some (at0, turn, m) } }
  else match s.spinRec s.ringTime with
  | none => s
  | some r =>
    let b := nextBoundary r at0 turn m s.ringTime
    let s := { s with meas := { s.meas with localWin := false, m := m, anchorPend := none } }
    ((s.discardWindow b.2 b.1).setNat Obj.windowAnchorTurn turn).setNat Obj.windowAnchorTime at0

/-- Spinner records kept, newest first: those later than now and the newest not later (R169). -/
def pruneSpin (now : Nat) : List SpinnerRec → List SpinnerRec
  | [] => []
  | r :: rest => if r.t0 ≤ now then [r] else r :: pruneSpin now rest

/-- A spinner record is taken, in a member or in the head that sends it (R169, R193, R196, R197, R198). -/
def State.takeSpinner (s : State) (r : SpinnerRec) : State :=
  if r.p = 0 || r.m = 0 then s
  else
    let known := s.tm.anchorTime == r.anchorTime && s.tm.anchorTurn == r.anchorTurn && s.tm.anchorM == r.m
    let s := { s with tm := { s.tm with
      spin := pruneSpin s.ringTime (r :: s.tm.spin), anchorTime := r.anchorTime, anchorTurn := r.anchorTurn, anchorM := r.m } }
    if s.unsynced then s
    else if r.change && known then s.takeAnchor (min r.anchorTime s.ringTime) r.anchorTurn r.m
    else if !known || (s.meas.localWin && s.meas.anchorPend.isNone) then s.takeAnchor r.anchorTime r.anchorTurn r.m
    else s

/-- Whether a tag span overlaps the span of an output. -/
def spanHits (a b : Nat) (x : TagSpan) : Bool := decide (x.start ≤ b) && (match x.stop with | none => true | some e => decide (a ≤ e))

/-- A tag span opened (none open) or closed, at most eight kept. -/
def openSpan (l : List TagSpan) (t : Nat) : List TagSpan := ({ start := t, stop := none } :: l).take 8

/-- The open span closed at an instant. -/
def closeSpan (l : List TagSpan) (t : Nat) : List TagSpan := l.map (fun x => if x.stop = none then { x with stop := some t } else x)

/-- Whether balancing current flows in a cell within a span (R267). -/
def State.flowIn (s : State) (n a b : Nat) : Bool :=
  (KMap.get s.bal.flow n []).any (fun x => decide (x.start ≤ b) && (match x.stop with | none => true | some e => decide (a ≤ e)))

/-- BAL of an output of cell n over a span (R277). -/
def State.balTag (s : State) (n a b : Nat) : Bool := s.flowIn (n - 1) a b || s.flowIn n a b || s.flowIn (n + 1) a b

/-- A tagged sample (R203). -/
def tagWord (value : Int) (seq : Nat) (legacy cal owt bal clip settle : Bool) : Nat :=
  (value % 2 ^ 24).toNat * 256 + seq * 64 + packBits [settle, clip, bal, owt, cal, legacy]

/-- Whether bit `k` of a word is set. -/
def wordBit (w k : Nat) : Bool := bitsOf k k w == 1

/-- A word without SETTLE, CLIP, OWT or CAL (R208). -/
def wordClean (w : Nat) : Bool := !wordBit w 0 && !wordBit w 1 && !wordBit w 3 && !wordBit w 4

/-- Gain and offset in use on a channel: the new ones while a recalibration is verified (R690). -/
def State.coeffs (s : State) (n : Nat) : Rat × Rat :=
  let d := (s.rat Obj.channelGain 0 (n - 1), s.rat Obj.channelOffset 0 (n - 1))
  if s.nat Obj.calState = 2 then KMap.get s.mgmt.calNew n d else d

/-- The µV value of a raw mean under a channel's gain and offset (R689), to the nearest µV. -/
def State.corrected (s : State) (n : Nat) (uv : Rat) : Int := roundHalfAway (uv * (s.coeffs n).1 + (s.coeffs n).2)

/-- One output of one kind: the word, and the kind's state after it (R203 to R209). `a` to `b` is the span. -/
def State.makeWord (s : State) (c : ChanSt) (k : KindSt) (n : Nat) (uv : Rat) (a b : Nat) (legacy : Bool) : Nat × KindSt :=
  let v := s.corrected n uv
  let clip := decide (v < -300000) || decide (5000000 < v) || c.clip.any (spanHits a b)
  let cal := c.cal.any (spanHits a b)
  let owt := c.owt.any (spanHits a b)
  let counts := decide (k.since < b)
  let settle := decide (0 < k.settle)
  let v := clampI (-300000) 5000000 v
  let v := if cal then k.clean else v
  let w := tagWord v k.seq legacy cal owt (s.balTag n a b) clip settle
  (w, { k with
    seq := (k.seq + 1) % 4, settle := if counts then k.settle - 1 else k.settle,
    clean := if cal || owt || settle then k.clean else v })

/-- Whether a contender holds reference injection off (R210): an open-wire test on the channel, or a capture recording. -/
def State.calHeld (s : State) (n : Nat) : Bool :=
  s.capRecording.isSome || (s.chan n).owt.any (fun x => x.stop.isNone)

/-- A visit of a channel begins, or is moved behind its contender (R210, R689). -/
def State.calBegin (s : State) (n : Nat) (first : Bool) : State :=
  let s := s.setNat Obj.calChannel n
  if s.calHeld n then
    let s := { s with mgmt := { s.mgmt with calWait := true } }
    if first then s.bump Obj.calDeferred else s
  else
    let c := s.chan n
    { s.setChan n { c with cal := openSpan c.cal s.ringTime } with mgmt := { s.mgmt with calWait := false } }

/-- A visit that waited begins once its contender is gone (R210). -/
def State.calResume (s : State) : State :=
  if s.mgmt.calWait && s.nat Obj.calState == 1 && !s.calHeld (s.nat Obj.calChannel) then s.calBegin (s.nat Obj.calChannel) false
  else s

end Sys2Proof.Machine
end

