-- ==== Sys2Proof/Machine/TimeSpin.lean ====
section
/-! DEFINITION. Ring time (R157 to R162, R486, R487), the spinner and its sources (R165 to R170, R713), M and the window
anchor (R194 to R197), angle comparators (R171 to R174), the clearing of CrossingStatus (R183). -/
namespace Sys2Proof.Machine

/-- The link delay of a port in ns. -/
def State.linkDelay (s : State) (p : Port) : Rat := if p = .east then s.rat Obj.linkDelayEast else s.rat Obj.linkDelayWest

/-- TIME_RECORD_SEND (R157, R485): the head's time record in both directions. -/
def execTimeRecordSend (t : Nat) (s : State) : Host.Outcome State Fault Refusal :=
  let s := s.tick t
  if s.isHead then .next (s.sendSlot 1 1 0 .both (timeBytes s.ringTime 0 s.ring.censusNo (bitOf (decide (s.now < s.flt.newMasterUntil)))))
  else .next s

/-- The offset of a time record: received time at arrival minus the module's own, in ns rounded towards zero (R159). -/
def State.timeOffsetOf (s : State) (p : Port) (origin corr : Nat) : Int :=
  truncToZero ((origin : Rat) + (corr : Rat) / 65536 + s.linkDelay p - (s.ringTime : Rat))

/-- A time record's effect on the counter and the state of R161. -/
def State.timeRecord (s : State) (p : Port) (origin corr : Nat) (wrapped : Bool) : State :=
  let off := s.timeOffsetOf p origin corr
  let s := s.setRat Obj.timeOffset (off : Rat)
  let good := decide (-10 ≤ off) && decide (off ≤ 10)
  let run := if good then s.tm.goodRun + 1 else 0
  let done := fun (x : State) (st : TimeState) (r : Nat) => { x with tm := { x.tm with
    state := st, goodRun := r, lastRecord := some x.now, holdoverSince := none, wrapPath := wrapped } }
  match s.tm.state with
  | .unsynced =>
    if s.tm.stepped then done (s.steerTo off) .acquiring 0
    else
      let s := done { s.steerTo 0 with ringOffset := (s.steerTo 0).ringOffset + off } .acquiring 0
      { s with tm := { s.tm with stepped := true } }
  | .acquiring => if 16 ≤ run then done (s.steerTo off) .locked run else done (s.steerTo off) .acquiring run
  | .locked => done (s.steerTo off) .locked run
  | .holdover => if good then done (s.steerTo off) .locked run else done (s.steerTo off) .acquiring 0

/-- TIME (R159 to R161, R486): forwarded with residence and link delay added to CORRECTION; the first copy steers the
counter. -/
def execTime (t : Nat) (rx : SlotRx) (origin corr censusNo flags residence : Nat) (s : State) : Host.Outcome State Fault Refusal :=
  let s := s.tick t
  let fwd := corr + residence + (s.linkDelay rx.port * 65536).floor.toNat
  let r := s.ringRx rx (timeBytes origin fwd censusNo flags)
  if !r.2 || r.1.tm.master then .next r.1
  else .next (r.1.timeRecord rx.port origin corr rx.hdr.returned)

/-- TIME_HOLDOVER (R161): no record for 3 ms while locked. -/
def execTimeHoldover (t : Nat) (s : State) : Host.Outcome State Fault Refusal :=
  let s := s.tick t
  match s.tm.lastRecord with
  | some e =>
    if s.tm.state = .locked ∧ !s.tm.master ∧ e + 3000000 ≤ s.now then
      .next { s with tm := { s.tm with state := .holdover, holdoverSince := some s.now, goodRun := 0 } }
    else .next s
  | none => .next s

/-- TIME_UNSYNCED (R161, R162, R198): holdover has lasted 1 s. -/
def execTimeUnsynced (t : Nat) (s : State) : Host.Outcome State Fault Refusal :=
  let s := s.tick t
  match s.tm.holdoverSince with
  | some e =>
    if s.tm.state = .holdover ∧ e + 1000000000 ≤ s.now then
      .next ({ s with tm := { s.tm with state := .unsynced, holdoverSince := none, goodRun := 0 } }.toLocal.raiseEvent 0x20)
    else .next s
  | none => .next s

/-- A DELAY_REQ on one port (R487). DEDUCED, log entry 23. -/
def State.delayReq (s : State) (p : Port) : State :=
  let x := s.port p
  if !s.commsOn || !x.up then s
  else
    let s := s.setPort p { x with delayT1 := some s.now }
    let q := s.takeSeq 1 4
    q.2.emit p (q.2.hdr 1 4 q.1 0 (p == .west) false 1) (delayBytes s.now 0 0)

/-- DELAY_REQ_SEND (R158, R487). -/
def execDelayReqSend (t : Nat) (s : State) : Host.Outcome State Fault Refusal :=
  let s := s.tick t
  .next ((s.delayReq .east).delayReq .west)

/-- DELAY_REQ (R487): answered out of the same port. T2 and T3 are the same count in the model (DEDUCED, log entry 23). -/
def execDelayReq (t : Nat) (p : Port) (t1 : Nat) (s : State) : Host.Outcome State Fault Refusal :=
  let s := s.tick t
  if !s.commsOn || !(s.port p).up then .next s
  else
    let q := s.takeSeq 1 5
    .next (q.2.emit p (q.2.hdr 1 5 q.1 0 (p == .west) false 1) (delayBytes t1 s.now s.now))

/-- DELAY_RESP (R158, R487): ((T4 − T1) − (T3 − T2)) / 2. -/
def execDelayResp (t : Nat) (p : Port) (t1 t2 t3 : Nat) (s : State) : Host.Outcome State Fault Refusal :=
  let s := s.tick t
  let x := s.port p
  if x.delayT1 ≠ some t1 then .next s
  else
    let d : Rat := (((s.now : Int) - t1 - ((t3 : Int) - t2) : Int) : Rat) / 2
    let s := s.setPort p { x with delayT1 := none }
    .next ((if p = .east then s.setRat Obj.linkDelayEast d else s.setRat Obj.linkDelayWest d).setRat Obj.linkDelay d p.idx)

/-- The sum of a list of numbers. -/
def sumN (l : List Nat) : Nat := l.foldl (· + ·) 0

/-- Sixteen successive periods within ±0.5 % of their mean (R165). -/
def periodsLocked (l : List Nat) : Bool :=
  let w := l.take 16
  let m : Rat := (sumN w : Rat) / 16
  w.length == 16 && w.all (fun p => decide (absQ ((p : Rat) - m) ≤ m / 200))

/-- A source's lock noted with its instant (R165, R166). -/
def State.lockSource (s : State) (k : Nat) (on : Bool) : State :=
  if on then (if KMap.has s.tm.lockedSince k then s else { s with tm := { s.tm with lockedSince := KMap.set s.tm.lockedSince k s.ringTime } })
  else { s with tm := { s.tm with lockedSince := KMap.del s.tm.lockedSince k } }

/-- Whether a source is locked (R165: source 3 always). -/
def State.sourceLocked (s : State) (k : Nat) : Bool := k == 3 || KMap.has s.tm.lockedSince k

/-- Whether a source meets its lost condition now (R165, R713). -/
def State.lostNow (s : State) (k : Nat) : Bool :=
  match k with
  | 0 => decide (s.tm.syncUsable + 4 * s.tm.syncMean / 64 ≤ s.ringTime)
  | 1 => decide (s.tm.pcsAt + 10000000 ≤ s.ringTime)
  | 2 => decide (100 ≤ s.tm.rippleDown)
  | _ => false

/-- A source that has met its lost condition is no longer locked (R165, R166). -/
def State.dropLost (s : State) (k : Nat) : State := if s.lostNow k then s.lockSource k false else s

/-- SYNC_EDGE (R165, R713): only a head uses the input (R99). -/
def execSyncEdge (t : Nat) (s : State) : Host.Outcome State Fault Refusal :=
  let s := s.tick t
  if !s.isHead then .next s
  else
    let now := s.ringTime
    match s.tm.syncEdge with
    | none => .next { s with tm := { s.tm with syncEdge := some now } }
    | some e =>
      let s := s.dropLost 0
      let p := now - e
      if p < 20000 ∨ 500000 < p then .next { s with tm := { s.tm with syncEdge := some now, syncPeriods := [] } }
      else
        let l := (p :: s.tm.syncPeriods).take 16
        let s := { s with tm := { s.tm with
          syncEdge := some now, syncUsable := now, syncPeriods := l, syncMean := max 1 (sumN l * 64 / l.length) } }
        .next (if periodsLocked s.tm.syncPeriods then s.lockSource 0 true else s)

/-- Whether a PCS angle record continues the one before it within ±0.5 % of a period (R165). -/
def pcsConsistent (old new : Nat × Nat × Nat) : Bool :=
  let pred := old.2.1 + ((new.1 - old.1) * 64 * 2 ^ 32) / max 1 old.2.2
  let d := modDiff 32 new.2.1 (pred % 2 ^ 32)
  decide (200 * d ≤ 2 ^ 32) && decide (-(2 ^ 32) ≤ 200 * d)

/-- Eight successive records, each consistent with the one before (R165). -/
def pcsLocked (l : List (Nat × Nat × Nat)) : Bool :=
  let w := l.take 8
  w.length == 8 && ((w.drop 1).zip w).all (fun e => pcsConsistent e.1 e.2)

/-- PCS_ANGLE (R165): delivered to square 0 only. -/
def execPcsAngle (t : Nat) (rx : SlotRx) (time angle period : Nat) (valid : Bool) (s : State) : Host.Outcome State Fault Refusal :=
  let s := s.tick t
  let r := s.ringRx rx (leBytes 8 time ++ leBytes 4 angle ++ leBytes 4 period ++ leBytes 1 (bitOf valid))
  let s := r.1
  if !r.2 || !s.isHead then .next s
  else if !valid then .next { s with tm := { s.tm with pcs := [] } }
  else
    let s := s.dropLost 1
    let s := { s with tm := { s.tm with
      pcs := ((time, angle, period) :: s.tm.pcs).take 8, pcsLast := some (time, angle, period), pcsAt := s.ringTime } }
    .next (if pcsLocked s.tm.pcs then s.lockSource 1 true else s)

/-- The period of a source in 1/64 ns. -/
def State.sourcePeriod (s : State) (k : Nat) : Nat :=
  if k = 0 then max 1 s.tm.syncMean
  else if k = 1 then max 1 ((s.tm.pcsLast.map (fun r => r.2.2)).getD 1)
  else if k = 2 then periodOf s.tm.rippleFreq
  else periodOf (s.rat Obj.spinnerNominalFreq)

/-- A ring time at which a turn of a source starts, where the source has a phase of its own. -/
def State.sourcePhase (s : State) (k : Nat) : Option Nat :=
  if k = 0 then some s.tm.syncUsable
  else if k = 1 then s.tm.pcsLast.map (fun r => r.1 - r.2.1 * r.2.2 / (64 * 2 ^ 32))
  else none

/-- The first boundary of a phase at or after an instant. DESIGN CHOICE, log entry 24. -/
def boundaryFrom (phase p from0 : Nat) : Nat :=
  if from0 ≤ phase then phase else phase + (((from0 - phase) * 64 + p - 1) / p) * p / 64

/-- The record that begins a source change (R167): the next turn number at a turn boundary of the new source, 0.5 to 1.5
old periods after the start of the present turn; where the new source has no boundary there, 1.5 old periods after it (DESIGN CHOICE, log entry 24). -/
def State.changeRecord (s : State) (k : Nat) : SpinnerRec :=
  let now := s.ringTime
  let p := s.sourcePeriod k
  let base : SpinnerRec := {
    t0 := now, turn0 := 0, p := p, source := k, locked := true, change := true, anchorTime := s.tm.anchorTime,
    anchorTurn := s.tm.anchorTurn, m := s.tm.anchorM }
  match s.spinRec now with
  | none => base
  | some r =>
    let turn := SpinnerRec.angleAt r now / 65536
    let start := SpinnerRec.turnTime r turn
    let lo := max now (start + r.p / 128)
    let hi := max now (start + 3 * r.p / 128)
    let t0 := match s.sourcePhase k with
      | some ph => min hi (boundaryFrom ph p lo)
      | none => max now (start + r.p / 64)
    { base with t0 := t0, turn0 := (turn + 1) % 65536 }

/-- A source change at the head (R167, R195): counted, M due, CHANGE in the next record. -/
def State.changeSource (s : State) (k : Nat) : State :=
  let r := s.changeRecord k
  let s := { s with tm := { s.tm with source := k, mDue := true, changeDue := true, spin := pruneSpin s.ringTime (r :: s.tm.spin) } }
  (s.bump Obj.sourceChanges).discardWindow r.t0 r.turn0

/-- Whether the active source is lost (R165, R166, R713). -/
def State.sourceLost (s : State) : Bool := s.tm.source != 3 && (!s.sourceLocked s.tm.source || s.lostNow s.tm.source)

/-- SPINNER_SOURCE_LOST (R166, R167): to the first fallback that is locked, and at last to source 3. -/
def execSpinnerSourceLost (t : Nat) (s : State) : Host.Outcome State Fault Refusal :=
  let s := s.tick t
  if s.isHead ∧ s.sourceLost then
    let lost := s.tm.source
    let s := s.lockSource lost false
    let cand := [s.nat Obj.spinnerFallback1, s.nat Obj.spinnerFallback2].filter (fun k => k != lost && s.sourceLocked k && !s.lostNow k)
    .next (s.changeSource (cand.headD 3))
  else .next s

/-- SPINNER_SOURCE_RETURN (R166): the selected source has stayed locked for 1 s. -/
def execSpinnerSourceReturn (t : Nat) (s : State) : Host.Outcome State Fault Refusal :=
  let s := s.tick t
  let sel := s.nat Obj.spinnerSource
  let s := s.dropLost sel
  let ok := sel == 3 || (KMap.has s.tm.lockedSince sel && decide (KMap.get s.tm.lockedSince sel 0 + 1000000000 ≤ s.ringTime))
  if s.isHead ∧ s.tm.source ≠ sel ∧ ok then .next (s.changeSource sel) else .next s

/-- The record the head sends now (R168, R170): the start of the present turn moved towards the source's phase by at most
one count, and the source's period. DESIGN CHOICE, log entry 22. -/
def State.nextRecord (s : State) : SpinnerRec :=
  let now := s.ringTime
  match s.tm.spin.head? with
  | none => { s.changeRecord s.tm.source with change := false }
  | some r =>
    if now < r.t0 then { r with change := s.tm.changeDue }
    else
      let p := s.sourcePeriod s.tm.source
      let turn := SpinnerRec.angleAt r now / 65536
      let start := SpinnerRec.turnTime r turn
      let want : Int := match s.sourcePhase s.tm.source with
        | some ph => signedOf 64 ((2 ^ 64 + boundaryFrom ph p (start - r.p / 128)) - start)
        | none => 0
      let step := clampI (-((r.p / 4194304 : Nat) : Int)) ((r.p / 4194304 : Nat) : Int) want
      { r with t0 := ((start : Int) + step).toNat, turn0 := turn, p := p, source := s.tm.source,
               locked := s.sourceLocked s.tm.source, change := s.tm.changeDue }

/-- SPINNER_RECORD_SEND (R168, R170, R196, R485). -/
def execSpinnerRecordSend (t : Nat) (s : State) : Host.Outcome State Fault Refusal :=
  let s := s.tick t
  if !s.isHead then .next s
  else
    let r := { s.nextRecord with anchorTime := s.tm.anchorTime, anchorTurn := s.tm.anchorTurn, m := s.tm.anchorM }
    let f := freqOf r.p
    let differs := decide (s.tm.mFreq / 10 < absQ (f - s.tm.mFreq))
    let first := s.tm.spin.isEmpty
    let s := { s with tm := { s.tm with
      spin := pruneSpin s.ringTime (r :: s.tm.spin), changeDue := false, mDue := s.tm.mDue || first,
      mDiffSince := if differs then some (s.tm.mDiffSince.getD s.now) else none } }
    let s := s.setRat Obj.spinnerFreq f
    .next (s.sendSlot 1 2 0 .both (spinnerBytes r.t0 r.turn0 r.p r.source (bitOf r.locked + 2 * bitOf r.change) r.anchorTime r.anchorTurn r.m))

/-- SPINNER (R169, R193, R196 to R198). -/
def execSpinner (t : Nat) (rx : SlotRx) (r : SpinnerRec) (s : State) : Host.Outcome State Fault Refusal :=
  let s := s.tick t
  let x := s.ringRx rx (spinnerBytes r.t0 r.turn0 r.p r.source (bitOf r.locked + 2 * bitOf r.change) r.anchorTime r.anchorTurn r.m)
  let s := x.1
  if !x.2 || s.isHead then .next s
  else
    let s := { s with tm := { s.tm with source := r.source } }
    .next ((s.setRat Obj.spinnerFreq (freqOf r.p)).takeSpinner r)

/-- The first turn boundary at least 2 ms ahead, under the newest record (R196): ring time and turn number. -/
def State.anchorAhead (s : State) : Option (Nat × Nat) :=
  s.tm.spin.head?.map (fun r =>
    let want := max (s.ringTime + 2000000) r.t0
    let k := ((want - r.t0) * 64 + r.p - 1) / r.p
    (r.t0 + k * r.p / 64, (r.turn0 + k) % 65536))

/-- PRECISION_M_RECOMPUTE (R194 to R196). -/
def execPrecisionMRecompute (t : Nat) (s : State) : Host.Outcome State Fault Refusal :=
  let s := s.tick t
  let due := s.tm.mDue || (match s.tm.mDiffSince with | some e => decide (e + 1000000000 ≤ s.now) | none => false)
  match s.isHead && due, s.anchorAhead, s.tm.spin.head? with
  | true, some (at0, turn), some r =>
    let f := freqOf r.p
    let m := calcM (s.nat Obj.precisionAveraging) f
    let s := { s with tm := { s.tm with mDue := false, mDiffSince := none, mFreq := f, anchorTime := at0, anchorTurn := turn, anchorM := m } }
    .next { s with meas := { s.meas with anchorPend := some (at0, turn, m) } }
  | _, _, _ => .next s

/-- WINDOW_ANCHOR (R197, R209): the anchor is reached. -/
def execWindowAnchor (t : Nat) (s : State) : Host.Outcome State Fault Refusal :=
  let s := s.tick t
  match s.meas.anchorPend with
  | some (at0, turn, m) =>
    if at0 ≤ s.ringTime then
      let s := { s with meas := { s.meas with anchorPend := none, localWin := false, m := m } }
      .next (((s.discardWindow at0 turn).setNat Obj.windowAnchorTurn turn).setNat Obj.windowAnchorTime at0)
    else .next s
  | none => .next s

/-- The number of a comparator user. -/
def AngleUser.code : AngleUser → Nat
  | .hostReg => 0 | .is3 => 1 | .is4 => 2 | .pawn => 3 | .blank => 4 | .capture => 5

/-- A comparator armed for a user, which frees the one it had (R171, R172, R174): refused when its unit has sixteen. A
one-shot angle that is not in the future is late. -/
def State.armAngle (s : State) (unit : AngleUnit) (user : AngleUser) (everyTurn : Bool) (angle : Nat) : Option State :=
  let rest := s.tm.comps.filter (fun c => !(c.unit == unit && c.user == user))
  if 16 ≤ (rest.filter (fun c => c.unit == unit)).length then none
  else
    let s' := { s with tm := { s.tm with comps := rest ++ [{ unit := unit, user := user, everyTurn := everyTurn, angle := angle }] } }
    let late := !everyTurn && (match s.angle with | some a => !angleFuture angle a | none => false)
    some (if late then s'.bump Obj.lateEvents else s')

/-- A user's comparator freed. -/
def State.disarmAngle (s : State) (unit : AngleUnit) (user : AngleUser) : State :=
  { s with tm := { s.tm with comps := s.tm.comps.filter (fun c => !(c.unit == unit && c.user == user)) } }

/-- A comparator event counted towards its user (R178, R179): 128 not yet taken overflow the crossing. -/
def State.signalUser (s : State) (u : AngleUser) : State :=
  let n := KMap.get s.tm.fired u.code 0 + 1
  let s := { s with tm := { s.tm with fired := KMap.set s.tm.fired u.code n } }
  if n < 128 then s else (s.setNat Obj.crossingStatus (s.nat Obj.crossingStatus ||| 0x20)).raiseEvent 0x21

/-- An event taken by its user (R178); whether there was one. -/
def State.takeSignal (s : State) (u : AngleUser) : Bool × State :=
  let n := KMap.get s.tm.fired u.code 0
  if n = 0 then (false, s) else (true, { s with tm := { s.tm with fired := KMap.set s.tm.fired u.code (n - 1) } })

/-- ANGLE_COMPARATOR_FIRE (R171 to R173, R179, R641): comparator `k` of a unit reaches its angle; the capture comparator
makes the trigger of CODE 4, every other one signals its user. -/
def execAngleComparatorFire (t : Nat) (u : AngleUnit) (k : Nat) (s : State) : Host.Outcome State Fault Refusal :=
  let s := s.tick t
  match (s.tm.comps.filter (fun c => c.unit == u))[k]?, s.angle with
  | some c, some a =>
    if !c.everyTurn && angleFuture c.angle a then .next s
    else
      let s := if c.everyTurn then s else s.disarmAngle c.unit c.user
      if c.user = .capture then .next ((s.setNat Obj.captureAngle 0).captureTrigger 4 s.nodeId 0 s.ringTime true)
      else .next (s.signalUser c.user)
  | _, _ => .next s

/-- CROSSING_STATUS_CLEAR (R183): writing 1 to a bit clears it. -/
def execCrossingStatusClear (t : Nat) (q : PxReq) (v : Nat) (s : State) : Host.Outcome State Fault Refusal :=
  .next ((s.tick t).pxWriteNat q Obj.crossingStatus 0 0 v
    (fun s => .ok (s.setNat Obj.crossingStatus ((List.range 6).foldl (fun a b =>
      if bitsOf b b (s.nat Obj.crossingStatus) = 1 && bitsOf b b v = 0 then a + 2 ^ b else a) 0))))

end Sys2Proof.Machine
end

