-- ==== Sys2Proof/Machine/AuxOps.lean ====
section
/-! DEFINITION. The auxiliary converter's operations: channels and groups (R219 to R222), entries (R223, R236), passes and
priority (R227 to R235), the abandoning of an open-wire test (R263). -/
namespace Sys2Proof.Machine

/-- The channel codes of R219. -/
def auxChannel (c : Nat) : Bool :=
  c == 0 || (1 ≤ c && c ≤ 0x18) || (0x21 ≤ c && c ≤ 0x38) || c == 0x40 || c == 0x41 || (0x50 ≤ c && c ≤ 0x5F) || (0x60 ≤ c && c ≤ 0x63)

/-- The group of a channel: FP 0, SP 1, STACK 2, NT 3, INT 4 (R219, MinAcq). -/
def auxGroup (c : Nat) : Nat :=
  if 1 ≤ c && c ≤ 0x18 then 0 else if 0x21 ≤ c && c ≤ 0x38 then 1 else if c == 0x40 || c == 0x41 then 2
  else if 0x50 ≤ c && c ≤ 0x5F then 3 else 4

/-- LSB of a channel in µV, and its VALUE count in µV (R219). -/
def auxScale (c : Nat) : Nat × Nat :=
  if c == 0x40 || c == 0x41 then (4000, 100) else if (0x50 ≤ c && c ≤ 0x5F) || c == 0x60 then (80, 1)
  else if c == 0x61 then (500, 10) else (200, 1)

/-- The minimum acquisition of a channel's group (R222). -/
def State.minAcqOf (s : State) (c : Nat) : Nat := s.nat Obj.minAcq 0 (auxGroup c)

/-- The entry a word describes, if it is enabled (R223). -/
def parseEntry (pos w : Nat) : Option AuxEntry :=
  if bitsOf 31 31 w = 0 then none
  else
    let a := max 4 (bitsOf 23 16 w)
    some { pos := pos, chan := bitsOf 30 24 w, acq1 := a, acq := a, n := bitsOf 15 8 w + 1, shift := min 8 (bitsOf 7 4 w), blank := bitsOf 3 3 w == 1 }

/-- The routine entry at a position (R236). -/
def State.routineEntry (s : State) (pos : Nat) : Option AuxEntry :=
  let e := fun (c n sh : Nat) (b : Bool) => some ({ pos := pos, chan := c, acq1 := 16, acq := 16, n := n, shift := sh, blank := b } : AuxEntry)
  if 1 ≤ pos && pos ≤ 24 then (if pos ≤ s.cellCount then e pos 16 4 true else none)
  else if pos == 25 then e 0x40 16 4 false else if pos == 26 then e 0x41 16 4 false
  else if 27 ≤ pos && pos ≤ 42 then e (0x50 + (pos - 27)) 4 2 false
  else if pos == 43 then e 0x60 4 2 false else if pos == 44 then e 0x61 4 2 false else if pos == 45 then e 0 4 2 false
  else if pos == 46 then e 0x62 4 2 false else if pos == 47 then e 0x63 4 2 false else none

/-- The routine sequence (R236). -/
def State.routineEntries (s : State) : List AuxEntry := (List.range 48).filterMap (fun k => s.routineEntry (k + 1))

/-- The word of a routine entry, as RoutineEntry shows it (R223, R236). -/
def State.routineWord (s : State) (pos : Nat) : Nat :=
  match s.routineEntry pos with
  | some e => 2 ^ 31 + e.chan * 2 ^ 24 + 16 * 65536 + (e.n - 1) * 256 + e.shift * 16 + bitOf e.blank * 8
  | none => 0

/-- An entry on the SP channel of a cell: the minimum acquisition first, 16 clocks after (R233, R244, R257). -/
def State.spEntry (s : State) (pos cell n shift : Nat) : AuxEntry :=
  { pos := pos, chan := 0x20 + cell, acq1 := s.minAcqOf (0x20 + cell), acq := 16, n := n, shift := shift, blank := false }

/-- The rank of a user (R230); IS1 to IS4 and the two pawns in their own order. -/
def AuxUser.rank : AuxUser → Nat
  | .fallback => 0 | .capture => 1 | .is1 => 2 | .is2 => 3 | .is3 => 4 | .is4 => 5 | .pawn0 => 6 | .pawn1 => 7
  | .routine => 8 | .hostReg => 9

/-- Whether a user's pass is pending or running. -/
def State.auxBusy (s : State) (u : AuxUser) : Bool := s.aux.passes.any (fun p => p.user == u)

/-- Whether a capture record's post-trigger window runs (R231, R246, R266). -/
def State.capturing (s : State) : Bool := s.capRecording.isSome

/-- Whether balancing current flows on a force pin of FPn now (R235). -/
def State.forceBusy (s : State) (n : Nat) : Bool := s.balTag n s.ringTime s.ringTime

/-- Whether the next entry of a pass must wait for a blanking window (R235, R282); inside an open one it may convert, its
conversions starting 8 µs after the opening (R280). -/
def State.mustWait (s : State) (p : AuxPass) : Bool :=
  match p.todo with
  | [] => false
  | e :: _ => e.blank && auxGroup e.chan == 0 && !p.forced && s.forceBusy e.chan
      && s.aux.blankAt.isNone

/-- The passes of a list inserted by rank. -/
def insertPass (p : AuxPass) : List AuxPass → List AuxPass
  | [] => [p]
  | q :: r => if p.user.rank < q.user.rank then p :: q :: r else q :: insertPass p r

/-- A test in progress is abandoned and its current switched off; its slot comes again (R263). -/
def State.owtAbandon (s : State) : State :=
  match s.itg.test with
  | none => s
  | some x =>
    let now := s.ringTime
    let s := if x.id.force || x.onSince.isNone then s else
      [x.id.k, x.id.k + 1].foldl (fun (st : State) n =>
        let c := st.chan n
        st.setChan n { c with owt := closeSpan c.owt now }) s
    let cells := if x.id.force || x.onSince.isNone then [] else [x.id.k, x.id.k + 1].filter (fun n => 1 ≤ n && n ≤ s.cellCount)
    let s := { s with
      itg := { s.itg with test := none, extra := if x.extra then x.id :: s.itg.extra else s.itg.extra }
      aux := { s.aux with passes := s.aux.passes.filter (fun (p : AuxPass) => p.user != AuxUser.is1) } }
    let s := if cells.isEmpty then s else s.settle cells false now
    s.flowUpdate.bump Obj.owtDeferred

/-- Starts a conversion (R220, R221): a repeat of the channel just converted has unlimited acquisition. -/
def State.auxConvert (s : State) (u : AuxUser) (chan acq : Nat) : State :=
  { s with aux := { s.aux with cur := some { user := u, chan := chan, short := s.aux.lastChan != some chan && decide (acq < s.minAcqOf chan) } } }

/-- The first pass of the list that can convert now. -/
def State.auxPick (s : State) : Option AuxPass := s.aux.passes.find? (fun p => !p.todo.isEmpty && !s.mustWait p)

/-- Marks the entries that have begun to wait for a blanking window (R282). -/
def State.markWaits (s : State) : State :=
  { s with aux := { s.aux with passes := s.aux.passes.map (fun p =>
      if s.mustWait p then { p with waitSince := some (p.waitSince.getD s.ringTime) } else { p with waitSince := none }) } }

/-- Entries at the head of the passes that slot 3 defers (R232). -/
def State.deferLong (s : State) : State :=
  let long := fun (e : AuxEntry) => decide (16 < e.acq1) || decide (16 < s.minAcqOf e.chan)
  let n := (s.aux.passes.filter (fun p => p.user != .fallback)).foldl (fun a p => a + (p.todo.filter long).length) 0
  let s' := { s with aux := { s.aux with passes := (s.aux.passes.map (fun (p : AuxPass) =>
    if p.user = AuxUser.fallback then p else { p with todo := p.todo.filter (fun e => !long e) })).filter (fun p => !p.todo.isEmpty) } }
  s'.bumpBy Obj.auxDeferred n

/-- Gives the idle converter to the highest-priority user (R228, R230 to R232). -/
def State.auxStart (s : State) : State :=
  if s.aux.cur.isSome || s.aux.failed || !s.md.mode.runs then s
  else
    let s := s.markWaits
    let go := fun (st : State) => match st.auxPick with
      | some p => match p.todo with
        | e :: _ => st.auxConvert p.user e.chan (if p.n = 0 then e.acq1 else e.acq)
        | [] => st
      | none => st
    if s.auxBusy .fallback then
      go ({ s.owtAbandon with rcd := { s.owtAbandon.rcd with caps := s.rcd.caps.map (fun (e : Nat × CapRec) =>
        if e.2.state = 1 then (e.1, { e.2 with auxAbsent := true }) else e) } })
    else if s.capturing then
      let s := s.owtAbandon
      if s.aux.slot < 3 then
        { s with aux := { s.aux with slot := s.aux.slot + 1 } }.auxConvert .capture ([0x41, 0x40, 0x61].getD s.aux.slot 0x41) 16
      else
        let s := s.deferLong
        match s.auxPick with
        | some _ => go { s with aux := { s.aux with slot := 0 } }
        | none => { s with aux := { s.aux with slot := 1 } }.auxConvert .capture 0x41 16
    else go s

/-- A user asks for the converter with a list of entries; none while one of its passes is there (R229) or the converter has
failed (R234). -/
def State.auxRequest (s : State) (u : AuxUser) (todo : List AuxEntry) : State :=
  if s.auxBusy u || s.aux.failed || todo.isEmpty then s
  else { s with aux := { s.aux with passes := insertPass { user := u, todo := todo } s.aux.passes } }.auxStart

/-- VALUE of a sum under R224, and whether the 16-bit register overflowed. -/
def auxValue (chan n shift : Nat) (sum : Int) : Int × Bool :=
  let p : Int := (2 ^ shift : Nat)
  let q := if shift = 0 then sum else (sum + p / 2) / p
  let beyond := decide (32767 < q) || decide (q < -32768)
  let q := clampI (-32768) 32767 q
  let sc := auxScale chan
  (roundHalfAway ((q * p : Int) * (sc.1 : Rat) / ((n : Rat) * sc.2)), beyond)

/-- VALUE of an auxiliary word in its count unit. -/
def auxWordValue (w : Nat) : Int := wordValue w

/-- The reading of an NTC in µV, where there is one. -/
def State.ntcUv (s : State) (k : Nat) : Option Int := if KMap.has s.aux.words (0x4F + k) then some (wordValue (KMap.get s.aux.words (0x4F + k) 0)) else none

/-- NTC open or shorted (R87). DESIGN CHOICE, log entry 80. -/
def ntcBad (uv : Int) : Bool := decide (2450000 < uv) || decide (uv < 50000)

/-- The temperature of an NTC that is not excluded (R87). Its characteristic is not given by the spec: a free function
(PRESUMED, log entry 21). -/
def State.ntcTemp (s : State) (k : Nat) : Option Rat :=
  match s.ntcUv k with
  | some uv => if ntcBad uv then none else some (Config.ntcTemp uv)
  | none => none

/-- The included NTC readings of the pack, with their numbers. -/
def State.ntcs (s : State) : List (Nat × Rat) := (List.range 16).filterMap (fun k => (s.ntcTemp (k + 1)).map (fun t => (k + 1, t)))

end Sys2Proof.Machine
end

