-- ==== Sys2Proof/Machine/Estimate.lean ====
section
/-! DEFINITION. State estimation of a module's own cells: OCV curve (R368, R369), charge count (R372 to R375), voltage
check (R377 to R381), first estimate (R382 to R387), rest points and capacity (R388 to R391), impedance (R392 to R397),
self-discharge (R398 to R400), records (R401 to R405), estimate records and string figures (R406, R407). -/
namespace Sys2Proof.Machine

/-- The estimation of a cell. -/
def State.ec (s : State) (n : Nat) : EstCell := KMap.get s.est.cells n {}

/-- The state with the estimation of a cell replaced. -/
def State.setEc (s : State) (n : Nat) (c : EstCell) : State := { s with est := { s.est with cells := KMap.set s.est.cells n c } }

/-- C in Ah. -/
def State.capC (s : State) : Rat := s.rat Obj.nominalCapacity

/-- cap of a cell: learned, or C (R372). -/
def State.capOf (s : State) (n : Nat) : Rat := if (s.ec n).cap = 0 then s.capC else (s.ec n).cap

/-- NOCONFIG (R371). -/
def State.noConfig (s : State) : Bool := decide (s.capC = 0)

/-- The calendar time in s since 2000-01-01, while it is valid (R384, R661). -/
def State.utc (s : State) : Option Nat := s.mgmt.calendar.map (fun c => c.1 + (s.now - c.2) / 1000000000)

/-- The 41 nodes of an OCV table in µV (R368). -/
def ocvNodes (b : Bytes) : List Int := (List.range 41).map (fun k => signedOf 32 (fieldAt (4 * k) 4 b))

/-- Whether the values of a list rise strictly. -/
def risesStrictly : List Int → Bool
  | a :: b :: r => decide (a < b) && risesStrictly (b :: r)
  | _ => true

/-- The OCV nodes in µV, where there is a table (R368). -/
def State.ocv (s : State) : Option (List Int) :=
  let b := (s.val Obj.ocvTable).toBytes
  if b.all (fun x => decide (x = 0)) then none else some (ocvNodes b)

/-- A write of OcvTable (R368): refused unless the values rise strictly. -/
def ocvOk (d : Bytes) : Bool := risesStrictly (ocvNodes d)

/-- Voltage in V at an SoC on the curve. -/
def ocvAt (l : List Int) (sc : Rat) : Rat :=
  let x := clampQ 0 100 sc
  let k := min 39 (x / (5 / 2)).floor.toNat
  let a : Rat := (l.getD k 0 : Int)
  let b : Rat := (l.getD (k + 1) 0 : Int)
  (a + (b - a) * (x - (k : Rat) * (5 / 2)) / (5 / 2)) / 1000000

/-- The SoC of a voltage in V, clamped to 0 to 100 (R377). -/
def ocvInv (l : List Int) (v : Rat) : Rat :=
  let uv := v * 1000000
  match (List.range 40).find? (fun k => decide (uv ≤ (l.getD (k + 1) 0 : Int))) with
  | none => 100
  | some k =>
    let a : Rat := (l.getD k 0 : Int)
    let b : Rat := (l.getD (k + 1) 0 : Int)
    if uv ≤ a then (k : Rat) * (5 / 2) else (k : Rat) * (5 / 2) + (uv - a) / (b - a) * (5 / 2)

/-- Slope of segment `k` in mV per %. -/
def segSlope (l : List Int) (k : Nat) : Rat := (((l.getD (k + 1) 0) - (l.getD k 0) : Int) : Rat) / 2500

/-- The slope at an SoC (R369). -/
def ocvSlope (l : List Int) (sc : Rat) : Rat :=
  let x := clampQ 0 100 sc
  let k := min 39 (x / (5 / 2)).floor.toNat
  if x = (k : Rat) * (5 / 2) ∧ 0 < k then minQ (segSlope l (k - 1)) (segSlope l k) else segSlope l k

/-- R0 of R279 (R395). -/
def State.r0Of (s : State) (n : Nat) : Rat := (s.ec n).r0.getD (s.rat Obj.r0Default)

/-- Balancing current of a cell in A (R314). -/
def State.balAmps (s : State) (n : Nat) : Rat := KMap.get s.bal.amps n 0

/-- The part of it that the bleeder carries. -/
def State.flyAmps (s : State) (n : Nat) : Rat := s.bal.fly.foldl (fun a e => if e.2.on && e.2.sel == n then a + e.2.icell else a) 0

/-- e_bal of R372: the error bounds of R285 and R286 that apply to a cell. -/
def State.balError (s : State) (n : Nat) : Rat :=
  let f := if s.bal.fly.any (fun e => e.2.on && e.2.sel == n) then absQ (s.flyAmps n) / 100 + 1 / 100 else 0
  let b := if n ∈ s.bal.bleeders then absQ (s.balAmps n - s.flyAmps n) / 50 + 2 / 1000 else 0
  f + b

/-- The largest leakage sum of R278 that applies to an output of a cell over a span, in µV. -/
def State.leakUv (s : State) (n a b : Nat) : Rat :=
  let hit := fun (k : Nat) (f : Bool) => (KMap.get s.bal.flow k []).any (fun x =>
    x.flyback == f && decide (x.start ≤ b) && (match x.stop with | none => true | some e => decide (a ≤ e)))
  if hit n true then 26 else if hit (n - 1) true || hit (n + 1) true then 15 else if hit n false then 3
  else if hit (n - 1) false || hit (n + 1) false then 3 / 2 else 0

/-- A running sum with one output. -/
def SumSt.add (x : SumSt) (v : Rat) : SumSt := { x with sum := x.sum + v, count := x.count + 1, all := x.all + 1 }

/-- A running sum with an output that is not usable. -/
def SumSt.miss (x : SumSt) : SumSt := { x with all := x.all + 1 }

/-- The mean of a running sum. -/
def SumSt.mean (x : SumSt) : Option Rat := if x.count = 0 then none else some (x.sum / x.count)

/-- What the estimation takes of a precision output, or of the fallback result that stands for it (R208, R279, R377, R382,
R388, R398). `a` to `b` is its span. -/
def State.estPrecision (s : State) (n word a b : Nat) : State :=
  let c := s.ec n
  let v : Rat := (wordValue word : Int)
  if wordClean word then
    let corr : Rat := if wordBit word 2 then s.balAmps n * s.r0Of n * 1000000 else 0
    let leak : Rat := if wordBit word 2 then (s.leakUv n a b + absQ corr / 5) / 1000000 else 0
    let first := if s.est.firstDone then c.first else c.first.add v
    let s := s.setEc n { c with
      sec := c.sec.add (v + corr), leak := maxQ c.leak leak, min := c.min.add v, hour := c.hour.add v, first := first }
    { s with est := { s.est with firstAt := some (s.est.firstAt.getD s.now) } }
  else s.setEc n { c with sec := c.sec.miss, min := c.min.miss, taint := { c.taint with prec := (a + b) / 2 } }

/-- The tags of a standard output noted for R393 and R397, with its represented instant. -/
def State.estStandard (s : State) (n word at0 : Nat) : State :=
  let c := s.ec n
  let x := c.taint
  let x := if wordClean word then x else { x with std := at0 }
  let x := if wordBit word 2 then { x with stdBal := at0 } else x
  if wordClean word && !wordBit word 2 then s else s.setEc n { c with taint := x }

/-- The tags of a wideband output noted for R397, with its represented instant. -/
def State.estWide (s : State) (n word at0 : Nat) : State :=
  let c := s.ec n
  let x := c.taint
  let x := if wordClean word then x else { x with wide := at0 }
  let x := if wordBit word 2 then { x with wideBal := at0 } else x
  if wordClean word && !wordBit word 2 then s else s.setEc n { c with taint := x }

/-- One current word counted in the millisecond, in the loops' means and in the recorder (R366, R372, R374, R421, R440, R628,
R636). -/
def State.addCurrent (s : State) (v : Int) (clip : Bool) (times : Nat) : State :=
  let a : Rat := (v : Rat) / 1000
  let k : Rat := (times : Nat)
  { s with
    est := { s.est with
      msSum := s.est.msSum + v * times
      msClip := if clip then s.est.msClip + v.natAbs * times else s.est.msClip
      msClipSum := if clip then s.est.msClipSum + v * times else s.est.msClipSum
      msWords := s.est.msWords + times
      lastWord := v, wordAt := s.now }
    lp := { s.lp with
      sqSum := s.lp.sqSum + a * a * k, sqCount := s.lp.sqCount + times, msSum := s.lp.msSum + a * k, msCount := s.lp.msCount + times }
    rcd := { s.rcd with
      secCurrent := (s.rcd.secCurrent.1 + a * k, s.rcd.secCurrent.2 + times)
      day := { s.rcd.day with throughput := s.rcd.day.throughput + absQ a * k / 256000 } } }

/-- The instant of the newest word of a stretch of the current stream that was missing or carries CLIP (R397). -/
def lastBad (grid : Nat) (words : List Nat) (missing : Bool) (old : Nat) : Nat :=
  let at0 := fun (j : Nat) => j * 390625 / 100
  (words.zipIdx).foldl (fun a e => if wordBit e.1 1 then max a (at0 (grid + e.2)) else a) (if missing then max old (at0 (grid - 1)) else old)

/-- Current words of one kind of arrival (R366, R374, R375): the words of the grid indices that never came are replaced by
the word before them; a gap ends. -/
def State.takeCurrent (s : State) (grid : Nat) (words : List Nat) : State :=
  let missing := match s.est.lastGrid with
    | some g => grid - (g + 1)
    | none => 0
  let fill := if s.est.gap then 0 else missing
  let s := if fill = 0 then s else (s.addCurrent s.est.lastWord false fill).bumpBy Obj.missingCurrentWords fill
  let s := { s with est := { s.est with curBad := lastBad grid words (missing != 0) s.est.curBad } }
  let s := if s.est.hold then { s with est := { s.est with hold := false } }.lower 0x55 else s
  let s := { s with est := { s.est with gap := false, lastGrid := some (grid + words.length - 1) } }
  words.foldl (fun (st : State) w => st.addCurrent (wordValue w) (wordBit w 1) 1) s

/-- g of a 13-word stream slot: the value congruent to SEQ nearest to ring time / 13 T (R491); T as a fraction of ns. -/
def State.gridOf (s : State) (seq : Nat) (t13 : Rat) : Nat :=
  let g0 := ((s.ringTime : Rat) / t13).floor.toNat
  ((g0 : Int) + modDiff 16 (seq + 65536 - g0 % 65536) 0).toNat

/-- 13 T of WIDEBAND and CURRENT, in ns (R490). -/
def wide13 : Rat := 50781 + 1 / 4

/-- 13 T of STANDARD, in ns (R490). -/
def std13 : Rat := 1625000

/-- The charge in As that the words of the millisecond stand for, with the clipped ones at their value (R372, R374). -/
def State.msCharge (s : State) (mean : Rat) : Rat := mean / 1000

/-- The mean string current of the millisecond that CHARGE_COUNT closes, in A (R372, R375). -/
def State.msMeanNow (s : State) : Rat :=
  if s.est.hold then 0 else if s.est.gap then s.est.lastMean else (s.est.msSum : Rat) / 256000

/-- One cell's advance over a millisecond (R372 to R374): string charge in As, i_mean, e without e_bal. -/
def State.countCell (s : State) (n : Nat) (str e : Rat) : State :=
  let c := s.ec n
  let bc := KMap.get s.bal.charge n 0
  let bal := (bc - c.balPrev) / 1000000
  let raw := str + bal
  let dq := if 0 < raw then raw * s.rat Obj.chargeEfficiency else raw
  let cap := s.capOf n
  let loss := (s.rat Obj.sdCurrent 0 (n - 1) + cap * s.rat Obj.selfDischargeCommon / 73000) / 1000
  let ebal := e + s.balError n
  let c := { c with
    q := c.q + dq * 1000000, balPrev := bc, secCharge := c.secCharge + raw, minBal := c.minBal + bal
    throughput := c.throughput + absQ raw }
  s.setEc n (if cap = 0 then c else { c with
    s := c.s + 100 * (dq - loss) / (3600 * cap), u := c.u + 100 * ebal / 1000 / (3600 * cap) })

/-- CHARGE_COUNT (R367, R371 to R375, R388, R398): the millisecond's words and balancing charge enter the books of every
populated cell. In a gap the last mean stands for the words, in a hold nothing does. -/
def execChargeCount (t : Nat) (s : State) : Host.Outcome State Fault Refusal :=
  let s := s.tick t
  if !s.md.mode.runs then .next s
  else
    let mean := s.msMeanNow
    let span : Rat := if s.est.gap then ((s.now - s.est.filledTo : Nat) : Rat) / 1000000000 else 1 / 1000
    let str := mean * span
    let e := s.rat Obj.countOffsetBound + absQ (mean - (s.est.msClipSum : Rat) / 256000) / 2000 + (s.est.msClip : Rat) / 256000
      + (if s.est.hold then absQ s.est.lastMean else 0)
    let live := decide (0 < s.est.msWords)
    let quiet := decide (absQ mean < s.capC / 200)
    let busy := !quiet || (s.cells).any (fun n => s.balTag n (s.ringTime - 1000000) s.ringTime)
    let s := (s.cells).foldl (fun (st : State) n => st.countCell n str e) s
    .next { s with est := { s.est with
      msSum := 0, msClip := 0, msClipSum := 0, msWords := 0, lastMean := if live then mean else s.est.lastMean, filledTo := s.now
      quietSince := if quiet then some (s.est.quietSince.getD s.now) else none
      activeAt := if busy then s.now else s.est.activeAt
      episode := if busy then none else s.est.episode } }

/-- COUNT_GAP (R375): no current word for 100 ms. -/
def execCountGap (t : Nat) (s : State) : Host.Outcome State Fault Refusal :=
  let s := s.tick t
  if s.md.mode.runs ∧ !s.est.gap ∧ s.est.wordAt + 100000000 ≤ s.now then
    .next ({ s with est := { s.est with gap := true, gapSeen := true, filledTo := s.est.wordAt, breaks := s.est.breaks + 1 } }.bump
      Obj.countGaps)
  else .next s

/-- COUNT_HOLD (R375, R408): no current word for 10 s. -/
def execCountHold (t : Nat) (s : State) : Host.Outcome State Fault Refusal :=
  let s := s.tick t
  if s.md.mode.runs ∧ !s.est.hold ∧ s.est.wordAt + 10000000000 ≤ s.now then
    .next ({ s with est := { s.est with hold := true, gap := true, gapSeen := true, breaks := s.est.breaks + 1 } }.raise 0x55)
  else .next s

/-- t_pack: the mean of the included NTCs (R377). PRESUMED, log entry 25. -/
def State.packTemp (s : State) : Rat :=
  let l := s.ntcs
  if l.isEmpty then Config.packTempNone else sumQ (l.map (·.2)) / (l.length : Nat)

/-- rv and k of R377 from a cell's step values. -/
def State.stepValues (s : State) (n : Nat) : Rat × Rat :=
  let c := s.ec n
  match c.r0 with
  | some r => (r + c.r1.getD 0 + c.r2.getD 0, 1 / 4)
  | none => (3 * s.rat Obj.r0Default, 1 / 2)

/-- s_v, g, u_v, s_lo and s_hi of a voltage in V and a cell current (R377). -/
def State.voltView (s : State) (l : List Int) (n : Nat) (v i extra : Rat) : Rat × Rat × Rat × Rat × Rat :=
  let rk := s.stepValues n
  let vc := v - i * rk.1 - s.rat Obj.ocvTempCoeff / 1000000 * (s.packTemp - 25)
  let acc : Rat := if s.nat Obj.cellSource 0 (n - 1) = 1 then 1 / 1000 else 0
  let uv := rk.2 * absQ (i * rk.1) + s.rat Obj.ocvHysteresis / 1000 + 2 / 10000 + extra + acc
  let sv := ocvInv l vc
  (sv, ocvSlope l sv, uv, ocvInv l (vc - uv), ocvInv l (vc + uv))

/-- A rebase or clamp of a cell (R381): SocCorrection, the counter, and the source for a change above 10 %. -/
def State.correct (s : State) (n : Nat) (c : EstCell) (target : Rat) : State :=
  let d := target - (s.ec n).s
  let s := ((s.setEc n { c with s := target }).setRat Obj.socCorrection d 0 (n - 1)).bump Obj.socCorrections
  if 10 < absQ d then s.raiseEvent 0x52 else s

/-- The decision of R378 and R379 on a check that was formed. -/
def State.checkCell (s : State) (n : Nat) (x : Rat × Rat × Rat × Rat × Rat) : State :=
  let c := { s.ec n with check := some (x.1, x.2.1, x.2.2.1) }
  let us := 1000 * x.2.2.1 / x.2.1
  if 3 / 2 ≤ x.2.1 then
    let due := decide (c.u * c.u + us * us < (c.s - x.1) * (c.s - x.1))
    let k := if due then c.due + 1 else 0
    let c := { c with due := k, low := 0, high := 0 }
    if 10 ≤ k then s.correct n { c with due := 0, u := us, rebasedAt := some s.now, initial := false } x.1 else s.setEc n c
  else
    let lo := if c.s < x.2.2.2.1 then c.low + 1 else 0
    let hi := if x.2.2.2.2 < c.s then c.high + 1 else 0
    let c := { c with due := 0, low := lo, high := hi }
    if 10 ≤ lo then s.correct n { c with low := 0, clampLoAt := some s.now } x.2.2.2.1
    else if 10 ≤ hi then s.correct n { c with high := 0, clampHiAt := some s.now } x.2.2.2.2
    else s.setEc n c

/-- One cell at a 1 s multiple (R377 to R380): the second's means close; the check is formed where R377 allows. -/
def State.secondCell (s : State) (n : Nat) : State :=
  let c := s.ec n
  let i := c.secCharge
  let means := (i :: c.curMeans).take 10
  let sec := c.sec
  let leak := c.leak
  let s := s.setEc n { c with curMeans := means, secCharge := 0, sec := {}, leak := 0 }
  let lim := maxQ (absQ i / 10) (s.capC / 100)
  let ok := sec.all ≤ 2 * sec.count && 0 < sec.count && decide (absQ i ≤ s.rat Obj.voltCheckMaxCurrent * s.capC)
    && means.length == 10 && means.all (fun x => decide (absQ (x - i) ≤ lim)) && s.est.firstDone && !s.noConfig
  match s.ocv, sec.mean with
  | some l, some v => if ok then s.checkCell n (s.voltView l n (v / 1000000) i leak) else s
  | _, _ => s

/-- One cell at a 1 min multiple (R388). -/
def State.minuteCell (s : State) (n : Nat) : State :=
  let c := s.ec n
  s.setEc n { c with
    minMeans := match c.min.mean with | some m => (m :: c.minMeans).take 10 | none => []
    min := {}, balMeans := ((c.minBal / 60) :: c.balMeans).take 30, minBal := 0 }

/-- A rational put into a rising list. -/
def insertQ (x : Rat) : List Rat → List Rat
  | [] => [x]
  | y :: r => if x ≤ y then x :: y :: r else y :: insertQ x r

/-- The median of a list, the mean of the two middle values for an even count (R398). -/
def medianQ (l : List Rat) : Rat :=
  let z := l.foldl (fun a x => insertQ x a) []
  let k := z.length
  if k % 2 = 1 then z.getD (k / 2) 0 else (z.getD (k / 2 - 1) 0 + z.getD (k / 2) 0) / 2

/-- An hour of an episode closes (R398): each cell's mean against the median; an hour without a usable output cuts the cell's
window short. -/
def State.closeHour (s : State) : State :=
  let med := medianQ ((s.cells).filterMap (fun n => (s.ec n).hour.mean))
  let s := (s.cells).foldl (fun (st : State) n =>
    let c := st.ec n
    st.setEc n { c with hour := {}, hours := match c.hour.mean with | some m => c.hours ++ [m - med] | none => [] }) s
  { s with est := { s.est with hourAt := s.est.hourAt + 3600000000000 } }

/-- VOLTAGE_CHECK (R377 to R381, R387, R388, R398): at each ring-time multiple of 1 s. -/
def execVoltageCheck (t : Nat) (s : State) : Host.Outcome State Fault Refusal :=
  let s := s.tick t
  if !s.md.mode.runs then .next s
  else
    let s := (s.cells).foldl (fun (st : State) n => st.secondCell n) s
    let s := if s.ringTime / 1000000000 % 60 = 0 then (s.cells).foldl (fun (st : State) n => st.minuteCell n) s else s
    .next (if s.est.episode.isSome && decide (s.est.hourAt + 3600000000000 ≤ s.ringTime) then s.closeHour else s)

/-- A record copy of R401 that is valid under R402, with its SEQ. -/
def recordValid (cap : Bool) (b : Bytes) : Bool :=
  let seq := fieldAt 0 4 b
  let fmt := if cap then fieldAt 54 1 b else fieldAt 58 1 b
  let rsv := if cap then decide (fieldAt 55 1 b = 0) else decide (fieldAt 59 1 b < 4)
  fmt == 1 && decide (fieldAt 60 4 b = crc32 (b.take 60)) && decide (1 ≤ seq) && decide (seq ≤ 0xFFFFFFFE) && rsv

/-- Base address of a record's copies (R652). -/
def recordBase (cap : Bool) : Nat := if cap then 0x280 else 0x200

/-- The copies of a record that are valid: index and bytes (R402). -/
def State.recordCopies (s : State) (cap : Bool) : List (Nat × Bytes) :=
  if !s.rcd.pmPresent then []
  else [0, 1].filterMap (fun k => let b := s.pmRead (recordBase cap + 64 * k) 64; if recordValid cap b then some (k, b) else none)

/-- The record in force: the valid copy with the higher SEQ (R402). -/
def State.recordInForce (s : State) (cap : Bool) : Option (Nat × Bytes) :=
  match s.recordCopies cap with
  | [a, b] => if fieldAt 0 4 a.2 < fieldAt 0 4 b.2 then some b else some a
  | [a] => some a
  | _ => none

/-- SEQ and address of the next write of a record (R402). DEDUCED, log entry 41. -/
def State.recordNext (s : State) (cap : Bool) : Nat × Nat :=
  match s.recordInForce cap with
  | some (k, b) => (fieldAt 0 4 b + 1, recordBase cap + 64 * (1 - k))
  | none => (1, recordBase cap)

/-- A value in hundredths, as a record carries it: rounded to the nearest, held between 0 and a bound. -/
def hundredths (q : Rat) (top : Int) : Nat := (clampI 0 top (roundHalfAway (q * 100))).toNat

/-- The SoC record to be written (R401). -/
def State.socRecord (s : State) (holdup : Bool) : Nat × Bytes :=
  let n := s.recordNext false
  let capSeq := match s.recordInForce true with
    | some (_, b) => fieldAt 0 2 b
    | none => 0
  let b := leBytes 4 n.1 ++ (List.range 24).flatMap (fun k =>
      leBytes 2 (if k < s.cellCount && !s.noConfig then hundredths (s.ec (k + 1)).s 10000 else 0))
    ++ leBytes 4 (s.utc.getD 0) ++ leBytes 2 capSeq ++ [1]
    ++ leBytes 1 (bitOf holdup + 2 * bitOf ((s.cells).any (fun k => (s.ec k).initial)))
  (n.2, b ++ leBytes 4 (crc32 b))

/-- The capacity record to be written (R401). -/
def State.capRecord (s : State) : Nat × Bytes :=
  let n := s.recordNext true
  let b := leBytes 4 n.1 ++ (List.range 24).flatMap (fun k => leBytes 2 (if k < s.cellCount then hundredths (s.ec (k + 1)).cap 65535 else 0))
    ++ leBytes 2 (min s.est.learns 65535) ++ [1, 0] ++ leBytes 4 (s.utc.getD 0)
  (n.2, b ++ leBytes 4 (crc32 b))

/-- The write in progress of a record. -/
def State.recWrite (s : State) (cap : Bool) : Option RecWrite := if cap then s.est.capWrite else s.est.socWrite

/-- The state with the write in progress of a record replaced. -/
def State.setRecWrite (s : State) (cap : Bool) (w : Option RecWrite) : State :=
  if cap then { s with est := { s.est with capWrite := w } } else { s with est := { s.est with socWrite := w } }

/-- A write starts where HoldupRemaining shows at least 5 ms (50 units of R128), and is put off by 100 ms otherwise (R403). -/
def State.tryRecord (s : State) (cap : Bool) (w : RecWrite) : State :=
  if 50 ≤ s.nat Obj.holdupRemaining ∧ s.rcd.pmPresent then
    let s := s.setRecWrite cap (some { w with stage := 1 })
    { s with rcd := { s.rcd with jobs := s.rcd.jobs ++ [{ rank := if cap then 1 else 2, addr := w.addr, data := w.data, fails := 0 }] } }
  else (s.setRecWrite cap (some { w with stage := 0, due := s.now + 100000000 })).bump Obj.capWriteSkips

/-- Starts a record write (R402, R403). -/
def State.beginRecord (s : State) (cap holdup : Bool) : State :=
  let r := if cap then s.capRecord else s.socRecord holdup
  s.tryRecord cap { addr := r.1, data := r.2, stage := 0, due := s.now, fails := 0 }

/-- SOC_RECORD_WRITE (R403). -/
def execSocRecordWrite (t : Nat) (s : State) : Host.Outcome State Fault Refusal :=
  let s := s.tick t
  if s.md.mode.runs ∧ s.est.socWrite = none ∧ s.est.socDue + s.nat Obj.socWritePeriod * 1000000000 ≤ s.now then
    .next ({ s with est := { s.est with socDue := s.now } }.beginRecord false false)
  else .next s

/-- CAPACITY_RECORD_WRITE (R391, R403). -/
def execCapacityRecordWrite (t : Nat) (s : State) : Host.Outcome State Fault Refusal :=
  let s := s.tick t
  if s.md.mode.runs ∧ s.est.capPend ∧ s.est.capWrite = none then .next (s.beginRecord true false) else .next s

/-- A waiting write of one record is tried again (R403, R404). -/
def State.retryRecord (s : State) (cap : Bool) : State :=
  match s.recWrite cap with
  | some w => if w.stage = 0 ∧ w.due ≤ s.now then s.tryRecord cap w else s
  | none => s

/-- RECORD_WRITE_RETRY (R403, R404). -/
def execRecordWriteRetry (t : Nat) (s : State) : Host.Outcome State Fault Refusal :=
  .next (((s.tick t).retryRecord true).retryRecord false)

/-- RECORD_READBACK (R403, R404): the four CRC bytes read back. A match completes the write; a mismatch is retried on the
same copy after 100 ms, and three in succession raise estimation-record. -/
def execRecordReadback (t : Nat) (capacity : Bool) (crc : Nat) (s : State) : Host.Outcome State Fault Refusal :=
  let s := s.tick t
  match s.recWrite capacity with
  | none => .next s
  | some w =>
    if w.stage ≠ 2 then .next s
    else if crc = fieldAt 60 4 w.data then
      let s := (s.setRecWrite capacity none)
      if capacity then
        let s := { s with est := { s.est with capPend := false, noCap := false } }
        .next (((s.bump Obj.capWrites).setBytes Obj.capRecordInForce w.data).lower 0x53)
      else .next (if s.est.noCap then s else s.lower 0x53)
    else
      let s := s.setRecWrite capacity (some { w with stage := 0, due := s.now + 100000000, fails := w.fails + 1 })
      .next (if 3 ≤ w.fails + 1 then s.raise 0x53 else s)

/-- The age of the SoC record in s (R384). -/
def State.recordAge (s : State) (soc : Bytes) : Option Nat :=
  let w := fieldAt 52 4 soc
  match s.utc with
  | some u => if w = 0 then s.est.kaSeconds else some (u - w)
  | none => s.est.kaSeconds

/-- The stored state of a cell under R385: s and u. -/
def State.storedCell (s : State) (soc cap : Bytes) (age : Nat) (n : Nat) : Rat × Rat :=
  let c0 : Rat := (fieldAt (4 + 2 * (n - 1)) 2 cap : Nat)
  let cp : Rat := if c0 = 0 then s.capC else c0 / 100
  let s0 : Rat := ((fieldAt (4 + 2 * (n - 1)) 2 soc : Nat) : Rat) / 100
  let ageH : Rat := (age : Rat) / 3600
  let ika : Rat := if s.est.kaStack = 0 then 0 else (12 / 1000) / s.est.kaStack
  let tka : Rat := ((s.est.kaSeconds.getD 0 : Nat) : Rat) / 3600
  let sd := cp * s.rat Obj.selfDischargeCommon / 73000 * ageH
  (s0 - 100 * (sd + ika * tka) / cp, 1 / 2 + (age : Rat) / 86400 / 10)

/-- Whether the stored state may be used (R383). -/
def State.storedOk (s : State) (soc cap : Bytes) (age : Nat) : Bool :=
  fieldAt 56 2 soc == fieldAt 0 2 cap && decide (age < 2592000) && !s.noConfig && (match s.ocv with
    | none => true
    | some l => (s.cells).all (fun n =>
      match (s.ec n).first.mean with
      | none => true
      | some v =>
        let x := s.voltView l n (v / 1000000) (s.est.lastMean + s.balAmps n) 0
        let st := s.storedCell soc cap age n
        let us := 1000 * x.2.2.1 / x.2.1
        x.2.1 < 3 / 2 || decide ((st.1 - x.1) * (st.1 - x.1) ≤ 9 * (st.2 * st.2 + us * us))))

/-- The OCV estimate of a cell: s and u (R386). -/
def State.ocvEstimate (s : State) (n : Nat) : Rat × Rat :=
  match s.ocv, (s.ec n).first.mean with
  | some l, some v =>
    let x := s.voltView l n (v / 1000000) (s.est.lastMean + s.balAmps n) (5 / 1000)
    ((x.2.2.2.1 + x.2.2.2.2) / 2, (x.2.2.2.2 - x.2.2.2.1) / 2)
  | _, _ => (50, 50)

/-- FIRST_ESTIMATE (R382 to R386): 100 ms after the first usable output. -/
def execFirstEstimate (t : Nat) (s : State) : Host.Outcome State Fault Refusal :=
  let s := s.tick t
  match s.est.firstAt with
  | none => .next s
  | some f =>
    if s.est.firstDone ∨ s.now < f + 100000000 then .next s
    else
      let recs := match s.recordInForce false, s.recordInForce true with
        | some a, some b => some (a.2, b.2)
        | _, _ => none
      let age := recs.bind (fun r => s.recordAge r.1)
      let s := s.setNat Obj.storedStateAge (age.getD 0xFFFFFFFF)
      let s := { s with est := { s.est with firstDone := true } }
      match recs, age with
      | some (soc, cap), some a =>
        if s.storedOk soc cap a then
          let s := (s.cells).foldl (fun (st : State) n =>
            let x := s.storedCell soc cap a n
            st.setEc n { st.ec n with s := x.1, u := x.2 }) s
          .next ({ s with est := { s.est with stateRec := true } }.setNat Obj.initialBasis 0)
        else .next (((s.cells).foldl (fun (st : State) n =>
          let x := s.ocvEstimate n
          st.setEc n { st.ec n with s := x.1, u := x.2 }) s).setNat Obj.initialBasis (if s.ocv.isSome then 1 else 2))
      | _, _ => .next (((s.cells).foldl (fun (st : State) n =>
          let x := s.ocvEstimate n
          st.setEc n { st.ec n with s := x.1, u := x.2 }) s).setNat Obj.initialBasis (if s.ocv.isSome then 1 else 2))

/-- INITIAL_TIMEOUT (R387): 24 h after start-up. -/
def execInitialTimeout (t : Nat) (s : State) : Host.Outcome State Fault Refusal :=
  let s := s.tick t
  if s.est.startAt + 86400000000000 ≤ s.now then
    .next ((s.cells).foldl (fun (st : State) n => st.setEc n { st.ec n with initial := false }) s)
  else .next s

/-- Least-squares slope per step of equally spaced values, the first one the newest. -/
def slopeNewest (l : List Rat) : Rat :=
  let n : Rat := (l.length : Nat)
  let xs := (List.range l.length).map (fun (k : Nat) => -((k : Nat) : Rat))
  let mx := sumQ xs / n
  let my := sumQ l / n
  let sxy := sumQ ((xs.zip l).map (fun e => (e.1 - mx) * (e.2 - my)))
  let sxx := sumQ (xs.map (fun x => (x - mx) * (x - mx)))
  if sxx = 0 then 0 else sxy / sxx

/-- Whether a cell holds a rest point (R388). -/
def State.restHolds (s : State) (n : Nat) : Bool :=
  let c := s.ec n
  (match s.est.quietSince with | some q => decide (q + 1800000000000 ≤ s.now) | none => false)
    && c.balMeans.length == 30 && c.balMeans.all (fun x => decide (absQ x < s.capC / 200))
    && c.minMeans.length == 10 && decide (absQ (slopeNewest c.minMeans) < 20) && s.nat Obj.cellSource 0 (n - 1) == 0
    && (match c.check with | some x => decide (3 / 2 ≤ x.2.1) | none => false)

/-- A pair of rest points tested (R390, R391): the capacity learned, or the learning rejected. -/
def State.learn (s : State) (n : Nat) (a b : RestPt) : State :=
  let c := s.ec n
  let ds := b.sv - a.sv
  if absQ ds < 35 ∨ a.breaks ≠ b.breaks ∨ s.noConfig then s
  else
    let dah := (b.q - a.q) / 1000000 / 3600
    let cn := dah / (ds / 100)
    let dt : Rat := ((b.time - a.time : Nat) : Rat) / 3600000000000
    let uq := s.rat Obj.countOffsetBound * dt + c.throughput / 3600 / 2000
    let rel := (a.ur + b.ur) / absQ ds + uq / absQ dah
    if dah ≠ 0 ∧ s.capC / 2 ≤ cn ∧ cn ≤ s.capC * 11 / 10 ∧ rel ≤ 2 / 100 then
      let cap := if c.cap = 0 then cn else c.cap + s.rat Obj.capLearnGain * (cn - c.cap)
      let s := s.setEc n { c with cap := cap }
      { s with est := { s.est with capPend := true, learns := s.est.learns + 1 } }
    else s.raiseEvent 0x54

/-- REST_POINT (R388 to R391): recorded on reaching a rest point and every 10 min while it holds. -/
def execRestPoint (t cell : Nat) (s : State) : Host.Outcome State Fault Refusal :=
  let s := s.tick t
  let c := s.ec cell
  match s.restHolds cell, c.check with
  | true, some x =>
    if (match c.restAt with | some r => decide (s.now < r + 600000000000) | none => false) then .next s
    else
      let p : RestPt := { sv := x.1, ur := 1000 * x.2.2 / x.2.1, q := c.q, time := s.ringTime, breaks := s.est.breaks }
      let s := match c.kept with
        | some k => s.learn cell k p
        | none => s
      .next (s.setEc cell { s.ec cell with kept := some p, throughput := 0, restAt := some s.now })
  | _, _ => .next (s.setEc cell { c with restAt := none })

/-- LOAD_STEP (R392, R393): a later step abandons every term still open; cells whose outputs of the 2 ms before carried a
tag or a converter change take no part. -/
def execLoadStep (t ts : Nat) (m : StepMeas) (s : State) : Host.Outcome State Fault Refusal :=
  let s := s.tick t
  let d := absQ (m.amps - m.iPre)
  if d < s.rat Obj.stepMinFraction * s.capC ∨ d / 50 < m.iPreDev ∨ s.noConfig then .next s
  else
    let ok := fun (n : Nat) => decide ((s.ec n).taint.std + 2000000 < ts) && decide ((s.ec n).flyAt + 2000000 < ts)
    let v := m.cells.filter (fun e => ok e.1)
    .next { s with est := { s.est with step := some {
      ts := ts, iPre := m.iPre, vPre := v.foldl (fun k e => KMap.set k e.1 e.2) [], term := 0, r := [] } } }

/-- Start of the window of each term, after t_s (R393). -/
def stepWindow (term : Nat) : Nat := [875000, 95000000, 9500000000].getD term 0

/-- End of the window of each term, after t_s (R393). -/
def stepWindowEndOf (term : Nat) : Nat := [1125000, 105000000, 10500000000].getD term 0

/-- A filtered step value (R394). -/
def stepFilter (old : Option Rat) (v : Rat) : Option Rat :=
  match old with
  | none => some v
  | some x => some (x + (v - x) / 10)

/-- One cell's term (R393, R394): R(τ) − R of the term below. -/
def State.stepCell (s : State) (x : StepSt) (amps : Rat) (n : Nat) (uv : Rat) : State :=
  let c := s.ec n
  let from0 := x.ts + stepWindow x.term
  let tainted := if x.term < 2 then from0 ≤ c.taint.std else from0 ≤ c.taint.prec
  let below := x.term = 0 ∨ KMap.has x.r n
  if !(KMap.has x.vPre n) || tainted || decide (x.ts ≤ c.flyAt + 2000000) || !decide below || amps = x.iPre then
    { s with est := { s.est with step := s.est.step.map (fun y => { y with vPre := KMap.del y.vPre n }) } }
  else
    let r := (uv - KMap.get x.vPre n 0) / 1000000 / (amps - x.iPre)
    let v := r - (if x.term = 0 then 0 else KMap.get x.r n 0)
    let c := if x.term = 0 then { c with r0 := stepFilter c.r0 v } else if x.term = 1 then { c with r1 := stepFilter c.r1 v }
      else { c with r2 := stepFilter c.r2 v }
    let s := s.setEc n c
    { s with est := { s.est with step := s.est.step.map (fun y => { y with r := KMap.set y.r n r }) } }

/-- STEP_WINDOW_END (R393, R394): the window of a term closes. A current output outside 5 % of I(τ) abandons the step. -/
def execStepWindowEnd (t term : Nat) (amps dev : Rat) (cells : List (Nat × Rat)) (s : State) : Host.Outcome State Fault Refusal :=
  let s := s.tick t
  match s.est.step with
  | none => .next s
  | some x =>
    if x.term ≠ term ∨ s.ringTime < x.ts + stepWindowEndOf term then .next s
    else if absQ amps / 20 < dev then .next { s with est := { s.est with step := none } }
    else
      let s := cells.foldl (fun (st : State) e => st.stepCell x amps e.1 e.2) s
      let any := match s.est.step with | some y => !y.vPre.isEmpty | none => false
      let s := if term = 0 && any then s.bump Obj.stepCount else s
      .next { s with est := { s.est with step := if term = 2 then none else s.est.step.map (fun y => { y with term := term + 1 }) } }

/-- IMPEDANCE_BLOCK (R396, R397): an accepted block is summed; after ImpAverages blocks the bin publishes Z. -/
def execImpedanceBlock (t cell bin : Nat) (b : BinBlock) (s : State) : Host.Outcome State Fault Refusal :=
  let s := s.tick t
  let c := s.ec cell
  let x := c.taint
  let bad := if bin < 56 then max x.std x.stdBal else max x.wide x.wideBal
  let min := s.rat Obj.impMinExcitation
  if 64 ≤ bin ∨ cell = 0 ∨ s.cellCount < cell ∨ b.i2 < min * min ∨ b.since ≤ bad ∨ b.since ≤ s.est.curBad then .next s
  else
    let k := KMap.get c.bins bin {}
    let k := { k with re := k.re + b.re, im := k.im + b.im, i2 := k.i2 + b.i2, blocks := k.blocks + 1 }
    if k.blocks < s.nat Obj.impAverages then .next (s.setEc cell { c with bins := KMap.set c.bins bin k })
    else .next (s.setEc cell { c with bins := KMap.del c.bins bin, spectrum := KMap.set c.spectrum bin (k.re / k.i2, k.im / k.i2) })

/-- SD_EPISODE_START (R398): SdSettle after the last activity. -/
def execSdEpisodeStart (t : Nat) (s : State) : Host.Outcome State Fault Refusal :=
  let s := s.tick t
  if s.est.episode = none ∧ s.md.mode.runs ∧ !s.noConfig ∧ s.est.activeAt + s.nat Obj.sdSettle * 3600000000000 ≤ s.now then
    let s := (s.cells).foldl (fun (st : State) n => st.setEc n { st.ec n with hour := {}, hours := [] }) s
    .next { s with est := { s.est with episode := some s.now, hourAt := s.ringTime } }
  else .next s

/-- The fit of R399 over equally spaced hourly values: slope in µV/h and its standard error (residual deviation over n − 2
degrees of freedom, DESIGN CHOICE, log entry 26). -/
def hourlyFit (l : List Rat) : Rat × Rat :=
  let n : Rat := (l.length : Nat)
  let xs := (List.range l.length).map (fun (k : Nat) => ((k : Nat) : Rat))
  let mx := sumQ xs / n
  let my := sumQ l / n
  let sxx := sumQ (xs.map (fun x => (x - mx) * (x - mx)))
  let b := sumQ ((xs.zip l).map (fun e => (e.1 - mx) * (e.2 - my))) / sxx
  let sse := sumQ ((xs.zip l).map (fun e => let r := e.2 - my - b * (e.1 - mx); r * r))
  (b, sqrtQ (sse / (n - 2) / sxx))

/-- One cell's window of R399 and its indicators (R400). DESIGN CHOICE, log entry 26. -/
def State.sdCell (s : State) (ocv : List Int) (n : Nat) : State :=
  let c := s.ec n
  let f := hourlyFit (c.hours.take (s.nat Obj.sdWindow + 1))
  let g := ocvSlope ocv c.s * 1000
  let cap := s.capOf n
  let i := -f.1 / g * cap / 100
  let u := (3 * f.2 + 2 / 100) / g * cap / 100
  let warn := s.rat Obj.sdWarn
  let alarm := s.rat Obj.sdAlarm
  let run := if warn < i - u then c.sdRun + 1 else 0
  let w := if 2 ≤ run then true else if i + u < warn then false else c.sdWarn
  let a := if alarm < i - u then true else if i + u < alarm then false else c.sdAlarm
  let s := s.setEc n { c with hours := c.hours.drop (s.nat Obj.sdWindow), sdRun := run, sdWarn := w, sdAlarm := a }
  (s.setRat Obj.sdCurrent i 0 (n - 1)).setRat Obj.sdUncertainty u 0 (n - 1)

/-- SD_WINDOW_END (R399, R400): SdWindow hours of an episode have passed. -/
def execSdWindowEnd (t : Nat) (s : State) : Host.Outcome State Fault Refusal :=
  let s := s.tick t
  match s.est.episode, s.ocv with
  | some _, some l =>
    let full := (s.cells).filter (fun n => decide (s.nat Obj.sdWindow + 1 ≤ (s.ec n).hours.length))
    if full.isEmpty then .next s
    else
      let s := full.foldl (fun (st : State) n => st.sdCell l n) s
      let s := s.follow 0x50 ((s.cells).any (fun n => (s.ec n).sdWarn))
      .next (s.follow 0x51 ((s.cells).any (fun n => (s.ec n).sdAlarm)))
  | _, _ => .next s

/-- Soc of a cell as reported (R371, R373, R382). -/
def State.socShown (s : State) (n : Nat) : Rat :=
  if s.noConfig || !s.est.firstDone then 0 else clampQ 0 100 (s.ec n).s

/-- Whether a correction flag is still shown (R381: 60 s). -/
def State.flagHeld (s : State) (x : Option Nat) : Bool := match x with | some e => decide (s.now < e + 60000000000) | none => false

/-- CellEstStatus (R409). -/
def State.cellEstStatus (s : State) (n : Nat) : Nat :=
  let c := s.ec n
  packBits [c.initial, decide (100 < c.s), decide (c.s < 0), s.flagHeld c.rebasedAt, s.flagHeld c.clampLoAt, s.flagHeld c.clampHiAt,
    match c.check with | some x => decide (3 / 2 ≤ x.2.1) | none => false, s.restHolds n, c.sdWarn, c.sdAlarm]

/-- EstStatus (R410). -/
def State.estStatus (s : State) : Nat :=
  packBits [s.est.stateRec, s.est.capPend, false, s.est.hold, s.est.gapSeen, s.est.noCap, s.ocv.isNone, s.noConfig]

/-- FLAGS of an estimate record (R406). -/
def State.estFlags (s : State) : Nat :=
  let any := fun (f : EstCell → Bool) => (s.cells).any (fun n => f (s.ec n))
  packBits [any (·.initial), s.est.gapSeen || s.est.hold,
    any (fun c => s.flagHeld c.rebasedAt || s.flagHeld c.clampLoAt || s.flagHeld c.clampHiAt), s.ocv.isNone, s.noConfig, s.est.noCap]

/-- An estimate record of R406. -/
def estRecord (seq node flags : Nat) (values : List Nat) : Bytes :=
  leBytes 2 seq ++ leBytes 1 node ++ leBytes 1 flags ++ fitBytes 48 (values.flatMap (leBytes 2))

/-- An estimate record taken by the head (R407). -/
def State.keepEst (s : State) (cap : Bool) (record : Bytes) : State :=
  let node := fieldAt 2 1 record
  let e : EstIn := { time := s.now, flags := fieldAt 3 1 record, values := (List.range 24).map (fun k => fieldAt (4 + 2 * k) 2 record) }
  if cap then { s with est := { s.est with capIn := KMap.set s.est.capIn node e } }
  else { s with est := { s.est with socIn := KMap.set s.est.socIn node e } }

/-- Sends an estimate record to square 0; the head keeps its own. -/
def State.sendEst (s : State) (cap : Bool) (values : List Nat) : State :=
  let seq := if cap then s.est.capSeq else s.est.socSeq
  let r := estRecord seq s.nodeId s.estFlags values
  let s := if cap then { s with est := { s.est with capSeq := (seq + 1) % 65536 } }
    else { s with est := { s.est with socSeq := (seq + 1) % 65536 } }
  if s.isHead then s.keepEst cap r else s.sendSlot 3 (if cap then 5 else 4) 0 (.square 0) r

/-- SOC_EST_SEND (R371, R382, R406). -/
def execSocEstSend (t : Nat) (s : State) : Host.Outcome State Fault Refusal :=
  let s := s.tick t
  if !s.est.firstDone ∨ !s.md.mode.runs then .next s
  else .next (s.sendEst false ((List.range 24).map (fun k => if k < s.cellCount then hundredths (s.socShown (k + 1)) 10000 else 0)))

/-- CAP_EST_SEND (R371, R382, R406). -/
def execCapEstSend (t : Nat) (s : State) : Host.Outcome State Fault Refusal :=
  let s := s.tick t
  if !s.est.firstDone ∨ !s.md.mode.runs then .next s
  else .next (s.sendEst true ((List.range 24).map (fun k =>
    if k < s.cellCount && !s.noConfig then hundredths (s.capOf (k + 1)) 65535 else 0)))

/-- SOC_EST (R407). -/
def execSocEst (t : Nat) (rx : SlotRx) (record : Bytes) (s : State) : Host.Outcome State Fault Refusal :=
  let r := (s.tick t).ringRx rx record
  if r.2 && r.1.isHead then .next (r.1.keepEst false record) else .next r.1

/-- CAP_EST (R407). -/
def execCapEst (t : Nat) (rx : SlotRx) (record : Bytes) (s : State) : Host.Outcome State Fault Refusal :=
  let r := (s.tick t).ringRx rx record
  if r.2 && r.1.isHead then .next (r.1.keepEst true record) else .next r.1

/-- The integral of the OCV curve from one SoC to another, in V × %. -/
def ocvIntegral (l : List Int) (a b : Rat) : Rat :=
  let cuts := a :: ((List.range 41).map (fun (k : Nat) => (k : Rat) * (5 / 2))).filter (fun x => decide (a < x) && decide (x < b)) ++ [b]
  sumQ ((cuts.zip (cuts.drop 1)).map (fun e => (e.2 - e.1) * (ocvAt l e.1 + ocvAt l e.2) / 2))

/-- soc in % and cap in Ah of the cells of the string, from the records the head holds (R407). -/
def State.stringCellsEst (s : State) : List (Rat × Rat) :=
  (s.admitted).flatMap (fun node =>
    let a := (KMap.get s.est.socIn node { time := 0, flags := 0, values := [] }).values
    let b := (KMap.get s.est.capIn node { time := 0, flags := 0, values := [] }).values
    (a.zip b).filterMap (fun e => if e.2 = 0 then none else some (((e.1 : Nat) : Rat) / 100, ((e.2 : Nat) : Rat) / 100)))

/-- Whether the string figures may be computed (R407). -/
def State.stringEstOk (s : State) : Bool :=
  s.allMeasured && (s.admitted).all (fun node =>
    KMap.has s.est.capIn node && (match s.est.socIn.find? (fun e => e.1 == node) with
      | some e => decide (s.now < e.2.time + 3000000000) && bitsOf 3 3 e.2.flags == 0 && bitsOf 4 4 e.2.flags == 0
      | none => false))

/-- STRING_ESTIMATE (R407): once a second in the head. -/
def execStringEstimate (t : Nat) (s : State) : Host.Outcome State Fault Refusal :=
  let s := s.tick t
  if !s.isHead then .next s
  else
    let cells := s.stringCellsEst
    match s.stringEstOk, s.ocv, minOf (cells.map (fun e => e.1 / 100 * e.2)), minOf (cells.map (fun e => (100 - e.1) / 100 * e.2)),
      minOf (cells.map (·.2)) with
    | true, some l, some qd, some qc, some cmin =>
      if s.noConfig ∨ qd + qc ≤ 0 then .next (s.setNat Obj.stringEstValid 0)
      else
        let cap := qd + qc
        let ed := sumQ (cells.map (fun e => e.2 / 100 * ocvIntegral l (e.1 - 100 * qd / e.2) e.1)) / 1000
        let eg := sumQ (cells.map (fun e => e.2 / 100 * ocvIntegral l e.1 (e.1 + 100 * qc / e.2))) / 1000
        let s := (((s.setRat Obj.stringCapacity cap).setRat Obj.stringSoc (100 * qd / cap)).setRat Obj.stringSoH (100 * cap / s.capC)).setRat
          Obj.stringCapMin cmin
        .next (((s.setRat Obj.energyDischarge ed).setRat Obj.energyCharge eg).setNat Obj.stringEstValid 1)
    | _, _, _, _, _ => .next (s.setNat Obj.stringEstValid 0)

/-- ImpSpectrum of a cell (R397): the valid mask, then real and imaginary part of each bin. -/
def State.impSpectrum (s : State) (n : Nat) : Bytes :=
  let sp := (s.ec n).spectrum
  leBytes 8 (packBits ((List.range 64).map (fun k => KMap.has sp k)))
    ++ (List.range 64).flatMap (fun k => let z := KMap.get sp k (0, 0); f32Bytes (f32Of z.1) ++ f32Bytes (f32Of z.2))

end Sys2Proof.Machine
end

