-- ==== Sys2Proof/Machine/Recorder.lean ====
section
/-! DEFINITION. The recorder (R628 to R636), the capture memory (R637 to R649), NOR and pack memory (R651 to R656). -/
namespace Sys2Proof
open Sys2Proof.Machine

/-- The object of a range. -/
def RangeObj.obj : RangeObj → ObjDef
  | .voltLow => Obj.voltRangeLow
  | .voltHigh => Obj.voltRangeHigh
  | .currentSpan => Obj.currentSpan

end Sys2Proof

namespace Sys2Proof.Machine

/-- Whether the calendar day counts: the UTC day now (R636). -/
def State.utcDay (s : State) : Option Nat := s.utc.map (· / 86400)

/-- One value against a cell's extremes (R630): equal values leave the earlier one. -/
def mergeExtreme (old : Option Extreme) (v : Int) (time : Nat) : Extreme :=
  match old with
  | none => { lo := v, loAt := time, hi := v, hiAt := time }
  | some e =>
    let e := if v < e.lo then { e with lo := v, loAt := time } else e
    if e.hi < v then { e with hi := v, hiAt := time } else e

/-- The record under a key, if one is listed. -/
def findKey {α : Type} (m : KMap α) (k : Nat) : Option α := (m.find? (fun e => e.1 == k)).map (·.2)

/-- What the recorder takes of a precision output of cell `n` (R628, R630, R636): outputs with SETTLE, OWT or CAL are left
out, CLIP counts at its value. -/
def State.recPrecision (s : State) (n word instant : Nat) : State :=
  if wordBit word 0 || wordBit word 3 || wordBit word 4 || !s.md.mode.runs then s
  else
    let v := wordValue word
    let time := instant % 2 ^ 63 + (if s.freeRun then 2 ^ 63 else 0)
    let sc := KMap.get s.rcd.secCell n (0, 0)
    let d := s.rcd.day
    let vmin := match findKey d.vmin n with | some m => min m v | none => v
    let vmax := match findKey d.vmax n with | some m => max m v | none => v
    { s with rcd := { s.rcd with
      extremes := KMap.set s.rcd.extremes n (mergeExtreme (findKey s.rcd.extremes n) v time)
      secCell := KMap.set s.rcd.secCell n (sc.1 + v, sc.2 + 1)
      day := { d with vmin := KMap.set d.vmin n vmin, vmax := KMap.set d.vmax n vmax } } }

/-- One second added to a bin of a histogram, saturating (R628): histograms 0 cell voltage, 1 temperature, 2 current, 3 SoC
dwell. -/
def State.addBin (s : State) (hist unit bin : Nat) : State :=
  let k := hist * 65536 + unit * 256 + bin
  { s with rcd := { s.rcd with hist := KMap.set s.rcd.hist k (min (KMap.get s.rcd.hist k 0 + 1) 0xFFFFFFFF) } }

/-- The bin of a value: 0 below `lo`, `n + 1` at or above `hi`, `n` bins of equal width between (R628). -/
def binOf (lo hi : Rat) (n : Nat) (v : Rat) : Nat :=
  if v < lo then 0 else if hi ≤ v then n + 1 else min n (((v - lo) * (n : Nat) / (hi - lo)).floor.toNat + 1)

/-- The larger and smaller of an optional extreme and a value. -/
def lowerQ (o : Option Rat) (v : Rat) : Option Rat := some (match o with | some x => minQ x v | none => v)
def upperQ (o : Option Rat) (v : Rat) : Option Rat := some (match o with | some x => maxQ x v | none => v)

/-- RECORDER_SAMPLE (R628, R636): one count to each histogram; the day's own figures. -/
def execRecorderSample (t : Nat) (s : State) : Host.Outcome State Fault Refusal :=
  let s := s.tick t
  if !s.md.mode.runs then .next s
  else
    let s := (s.cells).foldl (fun (st : State) n =>
      let c := KMap.get st.rcd.secCell n (0, 0)
      if c.2 = 0 then st
      else st.addBin 0 n (binOf (st.rat Obj.voltRangeLow) (st.rat Obj.voltRangeHigh) 62 ((c.1 : Rat) / ((c.2 : Nat) : Rat) / 1000000))) s
    let nt := s.ntcs
    let s := nt.foldl (fun (st : State) e => st.addBin 1 e.1 (binOf (-30) 60 30 e.2)) s
    let span := s.rat Obj.currentSpan
    let s := if s.isHead && decide (0 < s.rcd.secCurrent.2) then
        s.addBin 2 0 (binOf (-span) span 62 (s.rcd.secCurrent.1 / ((s.rcd.secCurrent.2 : Nat) : Rat))) else s
    let s := (s.cells).foldl (fun (st : State) n =>
      if (st.ec n).initial || st.noConfig then st
      else
        let x := st.socShown n
        let st := st.addBin 3 n (min 19 (x / 5).floor.toNat)
        let d := st.rcd.day
        { st with rcd := { st.rcd with day := { d with socMin := lowerQ d.socMin x, socMax := upperQ d.socMax x } } }) s
    let d := s.rcd.day
    let d := nt.foldl (fun (d : DaySt) e => { d with
      tmin := KMap.set d.tmin e.1 ((lowerQ (findKey d.tmin e.1) e.2).getD e.2)
      tmax := KMap.set d.tmax e.1 ((upperQ (findKey d.tmax e.1) e.2).getD e.2) }) d
    let active := !s.bal.bleeders.isEmpty || s.bal.fly.any (fun e => e.2.on) || s.bal.transferOn
    let d := { d with
      onlineS := if s.md.mode = .online then d.onlineS + 1 else d.onlineS
      balS := if active then d.balS + 1 else d.balS
      day := if d.day = 0 then (s.utcDay.getD 0) else d.day }
    .next { s with rcd := { s.rcd with day := d, secCell := [], secCurrent := (0, 0) } }

/-- RECORDER_STAGE (R633, R634, R638): the staged view is copied; it reaches NOR unless a NOR write has
failed its verification since the last staging. -/
def execRecorderStage (t : Nat) (s : State) : Host.Outcome State Fault Refusal :=
  let s := s.tick t
  if !s.md.mode.runs then .next s
  else
    let s := { s with rcd := { s.rcd with histStaged := s.rcd.hist, extStaged := s.rcd.extremes } }
    let s := (s.setNat Obj.recStageTime s.ringTime).bumpBy Obj.recSeq 2
    if s.rcd.norFails = 0 then
      .next ({ s with rcd := { s.rcd with histNor := s.rcd.histStaged, extNor := s.rcd.extStaged, stageDue := none } }.lower 0x85)
    else
      let since := s.rcd.stageDue.getD s.now
      let s := { s with rcd := { s.rcd with stageDue := some since, norFails := 0 } }.bump Obj.recStageDelays
      .next (if since + 1200000000000 ≤ s.now then s.raise 0x85 else s)

/-- The bins of some histograms cleared. -/
def State.clearHist (s : State) (hists : List Nat) : State :=
  { s with rcd := { s.rcd with
      hist := s.rcd.hist.filter (fun e => !(hists.contains (e.1 / 65536)))
      histStaged := s.rcd.histStaged.filter (fun e => !(hists.contains (e.1 / 65536)))
      histNor := s.rcd.histNor.filter (fun e => !(hists.contains (e.1 / 65536))) } }

/-- Whether the ranges would stand with one of them at a value (R629). -/
def State.rangeOk (s : State) (o : RangeObj) (v : BitVec 32) : Bool :=
  match o with
  | .voltLow => decide (f32Val v < s.rat Obj.voltRangeHigh)
  | .voltHigh => decide (s.rat Obj.voltRangeLow < f32Val v)
  | .currentSpan => true

/-- The role code of a request's session (R567). -/
def State.roleOf (s : State) (q : PxReq) : Nat := if q.session = 0 then 0 else ((s.session q).map (·.role)).getD 0

/-- What a stored write of a range object does (R629): the histograms that use it are cleared, with a clear episode. -/
def State.rangeCleared (s : State) (current : Bool) (role session : Nat) : State :=
  (s.clearHist (if current then [2] else [0])).episode 7 1 role session

/-- RECORDER_RANGE_WRITE (R629): the write of an RWP object; the histograms are cleared once pack memory holds it (R541). -/
def execRecorderRangeWrite (t : Nat) (q : PxReq) (o : RangeObj) (v : BitVec 32) (s : State) : Host.Outcome State Fault Refusal :=
  .next ((s.tick t).pxWrite q o.obj 0 0 o.obj.ty.code (f32Bytes v) (fun s => if s.rangeOk o v then .defer else .refuse pxRange))

/-- The effect of a write of RecClear (R635). -/
def recClearEffect (q : PxReq) (v : Nat) : PxEffect := fun s =>
  let s := if bitsOf 0 0 v = 1 then s.clearHist [0, 1, 2, 3] else s
  let s := if bitsOf 1 1 v = 1 then { s with rcd := { s.rcd with extremes := [], extStaged := [], extNor := [] } } else s
  let s := if bitsOf 2 2 v = 1 then { s with rcd := { s.rcd with episodes := [] } } else s
  let s := if bitsOf 3 3 v = 1 ∧ s.rcd.pmPresent then s.pmWrite 0x2000 (zeroBytes 8192) else s
  .ok ((s.bumpBy Obj.recSeq 2).episode 7 v (s.roleOf q) q.session)

/-- REC_CLEAR (R635). -/
def execRecClear (t : Nat) (q : PxReq) (v : Nat) (s : State) : Host.Outcome State Fault Refusal :=
  .next ((s.tick t).pxWriteNat q Obj.recClear 0 0 v (recClearEffect q v))

/-- EPISODE_WRITE (R632): new and folded entries reach NOR. -/
def execEpisodeWrite (t : Nat) (s : State) : Host.Outcome State Fault Refusal :=
  let s := s.tick t
  .next { s with rcd := { s.rcd with episodes := s.rcd.episodes.map (fun (e : Episode) => { e with written := true }) } }

/-- A cell voltage in 0.1 mV. -/
def tenthMv (v : Int) : Nat := (clampI 0 65535 (roundHalfAway ((v : Rat) / 100))).toNat

/-- A temperature in 0.1 °C as an I16 pattern; 0x8000 without one (R636). -/
def tenthDeg (v : Option Rat) : Nat := match v with | some x => (clampI (-32767) 32767 (roundHalfAway (x * 10)) % 65536).toNat | none => 0x8000

/-- The summary of the day in progress under a DAY (R636). DEDUCED, log entry 50. -/
def State.daySummary (s : State) (day : Nat) (calBad : Bool) : Bytes :=
  let d := s.rcd.day
  let b := leBytes 4 day ++ leBytes 2 (bitOf d.partialDay + 2 * bitOf calBad) ++ zeroBytes 2
    ++ (List.range 24).flatMap (fun k => leBytes 2 (tenthMv (KMap.get d.vmin (k + 1) 0)))
    ++ (List.range 24).flatMap (fun k => leBytes 2 (tenthMv (KMap.get d.vmax (k + 1) 0)))
    ++ (List.range 16).flatMap (fun k => leBytes 2 (tenthDeg (findKey d.tmin (k + 1))))
    ++ (List.range 16).flatMap (fun k => leBytes 2 (tenthDeg (findKey d.tmax (k + 1))))
    ++ leBytes 4 (d.throughput / 36).floor.toNat ++ leBytes 4 d.onlineS ++ leBytes 4 d.balS ++ leBytes 4 d.raises
    ++ leBytes 2 (hundredths (d.socMin.getD 0) 10000) ++ leBytes 2 (hundredths (d.socMax.getD 0) 10000) ++ zeroBytes 64
  b ++ leBytes 4 (crc32 b)

/-- Transfers of at most 64 bytes put on the pack-memory bus (R655). -/
def State.pmJobs (s : State) (rank addr : Nat) (d : Bytes) : State :=
  let jobs := (List.range ((d.length + 63) / 64)).map (fun k =>
    ({ rank := rank, addr := addr + 64 * k, data := sliceBytes (64 * k) 64 d, fails := 0 } : PmJob))
  { s with rcd := { s.rcd with jobs := s.rcd.jobs ++ jobs } }

/-- The day closes (R636): its summary is due in pack memory, and a new day begins. -/
def State.closeDay (s : State) (day : Nat) (calBad : Bool) : State :=
  let b := s.daySummary day calBad
  let s := { s with rcd := { s.rcd with
    dayDue := some (day % 32, b), dayCount := s.rcd.dayCount + 1
    day := { since := s.ringTime, partialDay := false, day := s.utcDay.getD 0 } } }
  let s := if s.rcd.pmPresent then s.pmJobs 6 (0x2000 + 256 * (day % 32)) b else s
  s.bumpBy Obj.recSeq 2

/-- DAY_CLOSE (R636): after 00:00 UTC, or every 86,400 s of ring time where the calendar is not valid. -/
def execDayClose (t : Nat) (s : State) : Host.Outcome State Fault Refusal :=
  let s := s.tick t
  let d := s.rcd.day
  match s.utcDay with
  | some u => if d.day ≠ 0 ∧ d.day < u then .next (s.closeDay d.day false) else .next s
  | none => if d.since + 86400000000000 ≤ s.ringTime then .next (s.closeDay (0x80000000 + s.rcd.dayCount) true) else .next s

/-- SCRUB_PASS_END (R638). -/
def execScrubPassEnd (t : Nat) (s : State) : Host.Outcome State Fault Refusal :=
  let s := s.tick t
  let many := decide (64 < s.rcd.scrubCorrected)
  let s := { s with rcd := { s.rcd with scrubEnd := s.now, scrubStart := s.now, scrubCorrected := 0 } }
  .next ((s.follow 0x82 many).lower 0x83)

/-- SCRUB_OVERDUE (R638). -/
def execScrubOverdue (t : Nat) (s : State) : Host.Outcome State Fault Refusal :=
  let s := s.tick t
  if s.md.mode.runs ∧ s.rcd.scrubStart + 25200000000000 ≤ s.now then .next (s.raise 0x83) else .next s

/-- CAPTURE_MEMORY_ECC (R637): a read at byte address `addr` of the 4 GiB finds a single or a double error. A poisoned word
of the store reads 0 and marks the records that hold its slot; a poisoned block of the bulk store is rebuilt from its source.
DEDUCED, log entry 107. -/
def execCaptureMemoryEcc (t addr : Nat) (double : Bool) (s : State) : Host.Outcome State Fault Refusal :=
  let s := s.tick t
  if 4294967296 ≤ addr then .fault (.captureMemoryHole addr)
  else if !double then
    .next ({ s with rcd := { s.rcd with scrubCorrected := s.rcd.scrubCorrected + 1 } }.bump Obj.captureEccCorrected)
  else
    let s := (s.bump Obj.captureEccUncorrectable).raiseEvent 0x81
    let slot := addr / 64
    let hit := fun (r : CapRec) => decide ((slot + storeSlots - r.first % storeSlots) % storeSlots < r.slots)
    if addr < 3221225472 then
      .next { s with rcd := { s.rcd with
        store := s.rcd.store.map (fun (x : StoredSlot) =>
          if x.index % storeSlots = slot then { x with poison := setInsert x.poison (addr % 64 / 4) } else x)
        caps := s.rcd.caps.map (fun (e : Nat × CapRec) => if hit e.2 then (e.1, { e.2 with poison := true }) else e) } }
    else .next s

/-- A ring slot put into the capture store, with the represented instant of its first word (R639, R643): nothing is written
over a record that is held or read. -/
def State.captureStore (s : State) (h : SlotHdr) (payload : Bytes) (instant : Nat) : State :=
  if !s.rcd.capInit || s.rcd.capStopped || s.captureAhead = 0 then s
  else
    let x : StoredSlot := { index := s.rcd.writePtr, hdr := h, payload := payload, instant := instant }
    let keep := (x :: s.rcd.store).filter (fun e => decide (s.rcd.writePtr < e.index + storeSlots))
    let caps := s.rcd.caps.map (fun (e : Nat × CapRec) =>
      if e.2.state = 1 && decide (e.2.start ≤ instant) && decide (instant ≤ e.2.stop) then (e.1, { e.2 with slots := e.2.slots + 1 }) else e)
    { s with rcd := { s.rcd with store := keep, writePtr := s.rcd.writePtr + 1, caps := caps } }

/-- Whether the slots of a node are selected (R639). -/
def State.captureNode (s : State) (node : Nat) : Bool := decide (0 < node) && bitsOf (node - 1) (node - 1) (s.nat Obj.captureSources) == 1

/-- The represented instant of the first word of a 13-word slot at 256 kS/s (R490). -/
def State.wideInstant (s : State) (seq : Nat) : Nat := ((s.gridOf seq wide13 : Nat) * wide13).floor.toNat

/-- A WIDEBAND slot of a node offered to the capture store (R639). -/
def State.captureWide (s : State) (node : Nat) (h : SlotHdr) (payload : Bytes) : State :=
  if s.captureNode node then s.captureStore h payload (s.wideInstant h.seq) else s

/-- A CURRENT slot offered to the capture store (R639). -/
def State.captureCurrentSlot (s : State) (h : SlotHdr) (payload : Bytes) : State :=
  if s.flag Obj.captureCurrent then s.captureStore h payload (s.wideInstant h.seq) else s

/-- A word of the capture auxiliary stream, by channel code (R231, R640): thirteen of a channel make a capture-internal
slot. -/
def State.captureAux (s : State) (chan word : Nat) : State :=
  let l := KMap.get s.aux.capBuf chan [] ++ [word]
  if l.length < 13 then { s with aux := { s.aux with capBuf := KMap.set s.aux.capBuf chan l } }
  else
    let g := ((s.ringTime : Rat) / wide13).floor.toNat
    let h : SlotHdr := { s.hdr 4 0x1E (g % 65536) chan false false 0 with hops := 0 }
    let s := { s with aux := { s.aux with capBuf := KMap.del s.aux.capBuf chan } }
    let s := s.captureStore h (wordsBytes l) ((g : Rat) * wide13).floor.toNat
    { s with rcd := { s.rcd with caps := s.rcd.caps.map (fun (e : Nat × CapRec) =>
        if e.2.state = 1 then (e.1, { e.2 with auxPresent := true }) else e) } }

/-- CAPTURE_TRIG (R641, R642): a notice from another module or a gateway is a trigger, and raises no further notice. -/
def execCaptureTrig (t : Nat) (rx : SlotRx) (n : Notice) (s : State) : Host.Outcome State Fault Refusal :=
  let r := (s.tick t).ringRx rx n.bytes
  if r.2 then .next (r.1.captureTrigger (if n.node = 0 then 5 else 6) n.node n.detail n.time false).auxStart else .next r.1

/-- CAPTURE_TRIGGER (R641): a write of 1 triggers now, and the notice goes out. -/
def execCaptureTrigger (t : Nat) (q : PxReq) (v : Nat) (s : State) : Host.Outcome State Fault Refusal :=
  .next ((s.tick t).pxWriteNat q Obj.captureTrigger 0 0 v (fun s =>
    .ok (s.captureTrigger 1 s.nodeId 0 s.ringTime true).auxStart))

/-- The effect of a write of CaptureAngle (R172, R174, R641): 0 disarms. -/
def captureAngleEffect (v : Nat) : PxEffect := fun s =>
  let s := s.setNat Obj.captureAngle v
  if v = 0 then .ok (s.disarmAngle .capture .capture)
  else match s.armAngle .capture .capture false v with
    | some s' => .ok s'
    | none => .refuse pxBusy

/-- CAPTURE_ANGLE_ARM (R641). -/
def execCaptureAngleArm (t : Nat) (q : PxReq) (v : Nat) (s : State) : Host.Outcome State Fault Refusal :=
  .next ((s.tick t).pxWriteNat q Obj.captureAngle 0 0 v (captureAngleEffect v))

/-- A recording record closed (R643, R645, R631): held, the auxiliary stream ends, an episode is written. -/
def State.captureClose (s : State) (slot : Nat) (r : CapRec) (truncated : Bool) : State :=
  let last := s.rcd.store.foldl (fun a x => if r.first ≤ x.index then max a x.instant else a) r.start
  let inWin := s.rcd.store.filter (fun x => decide (r.first ≤ x.index) && decide (r.start ≤ x.instant) && decide (x.instant ≤ r.stop))
  let r := { r with
    state := 2, truncated := truncated, poison := r.poison || inWin.any (fun x => !x.poison.isEmpty), stop := if truncated then last else r.stop, slots := inWin.length }
  let s := { s with
    rcd := { s.rcd with caps := KMap.set s.rcd.caps slot r }
    aux := { s.aux with slot := 0, capBuf := [] } }
  (s.episode 5 r.cause r.id r.slots).calResume

/-- CAPTURE_RECORD_CLOSE (R643, R645): the window has ended, or the write pointer has met a held record. -/
def execCaptureRecordClose (t : Nat) (s : State) : Host.Outcome State Fault Refusal :=
  let s := s.tick t
  match s.capRecording with
  | none => .next s
  | some (slot, r) =>
    if r.stop ≤ s.ringTime then .next (s.captureClose slot r false).auxStart
    else if s.captureAhead = 0 then .next (s.captureClose slot r true).auxStart
    else .next s

/-- CAPTURE_BOOKS_CHECK (R646): the four counts of the descriptors, as read. -/
def execCaptureBooksCheck (t free recording held reading : Nat) (s : State) : Host.Outcome State Fault Refusal :=
  let s := s.tick t
  if free + recording + held + reading = 16 then .next s
  else .next ({ s with rcd := { s.rcd with capStopped := true } }.raise 0x80)

/-- A stored slot as it reads: a poisoned word reads 0 (R637, R639). -/
def StoredSlot.bytes (x : StoredSlot) : Bytes :=
  x.poison.foldl (fun b w => patchBytes (4 * w) (zeroBytes 4) b) (slotBytes x.hdr x.payload false)

/-- The readout stream of a record: header, then its slots in store order (R648). -/
def State.readoutStream (s : State) (r : CapRec) : Bytes :=
  let slots := ((s.rcd.store.filter (fun x => decide (r.first ≤ x.index) && decide (r.start ≤ x.instant) && decide (x.instant ≤ r.stop))).reverse).take
    r.slots
  r.bytes s.packId ++ slots.flatMap StoredSlot.bytes

/-- The payload of a readout chunk (R648). -/
def chunkBytes (id k : Nat) (d : Bytes) : Bytes := leBytes 2 id ++ leBytes 4 k ++ fitBytes 46 d

/-- Chunks sent while the transmit queue of TC7 has room, at most `n` (R475, R648). -/
def State.readoutPump (s : State) (stream : Bytes) (id : Nat) : Nat → State
  | 0 => s
  | n + 1 =>
    match s.rcd.readout with
    | none => s
    | some r =>
      let h := s.hopsTo r.dest
      let p : Port := if (if s.ring.turnAt = 255 then decide (h.2 < h.1) else decide (r.dest < s.square)) then .west else .east
      let queued := ((s.port p).waiting.filter (fun q => q.hdr.cls == 7 && q.own)).length
      if r.left = 0 || s.nat Obj.queueSize (txQueue p 7) ≤ queued then s
      else
        let s := s.sendSlot 7 1 0 (.square r.dest) (chunkBytes id r.chunk (sliceBytes (46 * r.chunk) 46 stream))
        State.readoutPump { s with rcd := { s.rcd with readout := some { r with chunk := r.chunk + 1, left := r.left - 1 } } } stream id n

/-- The effect of a write of CaptureReadout (R648). DEDUCED, log entry 91. -/
def captureReadoutEffect (d : Bytes) : PxEffect := fun s =>
  let id := fieldAt 0 2 d
  if fieldAt 3 1 d ≠ 0 ∨ fieldAt 12 4 d ≠ 0 then .refuse pxRange
  else match s.rcd.caps.find? (fun e => e.2.id == id && (e.2.state == 2 || e.2.state == 3)) with
  | none => .refuse pxRange
  | some (slot, r) =>
    if (match s.rcd.readout with | some o => o.slot != slot | none => false) then .refuse pxBusy
    else
      let stream := s.readoutStream r
      let total := (stream.length + 45) / 46
      let chunk := fieldAt 4 4 d
      let count := fieldAt 8 4 d
      let left := if count = 0 then total - chunk else min count (total - chunk)
      let s := { s with rcd := { s.rcd with
        caps := KMap.set s.rcd.caps slot { r with state := 3 }
        readout := some { slot := slot, dest := signedOf 8 (fieldAt 2 1 d), chunk := chunk, left := left } } }
      .ok (s.readoutPump stream r.id left)

/-- CAPTURE_READOUT (R648). -/
def execCaptureReadout (t : Nat) (q : PxReq) (request : Bytes) (s : State) : Host.Outcome State Fault Refusal :=
  .next ((s.tick t).pxWrite q Obj.captureReadout 0 0 11 request (captureReadoutEffect request))

/-- CAPTURE_READOUT_DONE (R648): chunks that found no room are sent; once the last has gone the record is held again. -/
def execCaptureReadoutDone (t : Nat) (s : State) : Host.Outcome State Fault Refusal :=
  let s := s.tick t
  match s.rcd.readout with
  | none => .next s
  | some o =>
    let r := KMap.get s.rcd.caps o.slot (s.rcd.caps.headD (0, {
      id := 0, state := 0, cause := 0, merged := false, shortPre := false, poison := false, timeFree := false, truncated := false,
      auxAbsent := false, auxPresent := false, node := 0, detail := 0, t := 0, start := 0, stop := 0, sources := 0, slots := 0,
      merges := 0, first := 0 })).2
    let s := s.readoutPump (s.readoutStream r) r.id o.left
    match s.rcd.readout with
    | some x =>
      if x.left = 0 then .next { s with rcd := { s.rcd with readout := none, caps := KMap.set s.rcd.caps o.slot { r with state := 2 } } }
      else .next s
    | none => .next s

/-- The effect of a write of CaptureRelease (R649): a record that is recording is not released (DEDUCED, log entry 27). -/
def captureReleaseEffect (v : Nat) : PxEffect := fun s =>
  match s.rcd.caps.find? (fun e => e.2.id == v) with
  | none => .refuse pxRange
  | some (slot, r) =>
    if r.state = 1 then .refuse pxState
    else
      let ro := match s.rcd.readout with | some o => if o.slot = slot then none else some o | none => none
      .ok { s with rcd := { s.rcd with caps := KMap.del s.rcd.caps slot, readout := ro } }

/-- CAPTURE_RELEASE (R649). -/
def execCaptureRelease (t : Nat) (q : PxReq) (v : Nat) (s : State) : Host.Outcome State Fault Refusal :=
  .next ((s.tick t).pxWriteNat q Obj.captureRelease 0 0 v (captureReleaseEffect v))

/-- NOR_WRITE_FAIL (R651): a program or erase fails its verification; the second time in succession raises NOR-write. -/
def execNorWriteFail (t : Nat) (s : State) : Host.Outcome State Fault Refusal :=
  let s := s.tick t
  let n := s.rcd.norFails + 1
  let s := { s with rcd := { s.rcd with norFails := n } }
  .next (if n % 2 = 0 then s.raiseEvent 0x84 else s)

/-- CHANGE_LOG_NOR_TIMEOUT (R656): an entry has waited 1 s for NOR. -/
def execChangeLogNorTimeout (t : Nat) (s : State) : Host.Outcome State Fault Refusal :=
  let s := s.tick t
  if s.px.log.any (fun e => decide (e.created + 1000000000 ≤ s.now)) then .next (s.raiseEvent 0x86) else .next s

/-- Whether an identity block is valid (R653). -/
def identityValid (b : Bytes) : Bool :=
  decide (fieldAt 0 2 b = 1) && decide (fieldAt 2 2 b = 256) && decide (fieldAt 4 8 b ≠ 0) && between 12 24 (fieldAt 44 1 b)
    && decide (fieldAt 45 3 b = 0) && decide (sliceBytes 52 200 b = zeroBytes 200) && decide (fieldAt 252 4 b = crc32 (b.take 252))

/-- The identity block a write of PackIdentity gives (R653): PACK_TYPE and DESIGN_CELLS stay those of a valid block; without
one they are zero and PopulatedCells (DEDUCED, log entry 28). -/
def State.identityBlock (s : State) (pack : Nat) : Bytes :=
  let old := s.pmRead 0 256
  let keep := identityValid old
  let b := leBytes 2 1 ++ leBytes 2 256 ++ leBytes 8 pack ++ (if keep then sliceBytes 12 32 old else zeroBytes 32)
    ++ leBytes 1 (if keep then fieldAt 44 1 old else s.cellCount) ++ zeroBytes 3 ++ leBytes 4 (s.utcDay.getD 0) ++ zeroBytes 200
  b ++ leBytes 4 (crc32 b)

/-- The effect of a write of PackIdentity (R653). DEDUCED, log entry 28. -/
def packIdentityEffect (v : Nat) : PxEffect := fun s =>
  if !s.rcd.pmPresent then .refuse pxStorage
  else if identityValid (s.pmRead 0 256) ∧ s.md.mode ≠ .maintenance then .refuse pxState
  else .ok ((s.setNat Obj.packIdentity v).pmJobs 5 0 (s.identityBlock v))

/-- PACK_IDENTITY_WRITE (R653). -/
def execPackIdentityWrite (t : Nat) (q : PxReq) (v : Nat) (s : State) : Host.Outcome State Fault Refusal :=
  .next ((s.tick t).pxWriteNat q Obj.packIdentity 0 0 v (packIdentityEffect v))

/-- The waiting transfer of the best rank at an address (R655). -/
def State.jobAt (s : State) (addr : Nat) : Option PmJob :=
  (s.rcd.jobs.filter (fun j => j.addr == addr)).foldl (fun a j => match a with | none => some j | some b => if j.rank < b.rank then some j else some b) none

/-- A record write whose transfer has gone waits for its readback (R403). -/
def RecWrite.sent (w : Option RecWrite) (addr : Nat) : Option RecWrite :=
  w.map (fun x => if x.stage = 1 ∧ x.addr = addr then { x with stage := 2 } else x)

/-- A transfer that has reached pack memory (R403, R568): a change-log copy counts in ChangeLogPackCopied. -/
def State.jobWritten (s : State) (j : PmJob) : State :=
  let s := s.pmWrite j.addr j.data
  let s := { s with est := { s.est with
      socWrite := RecWrite.sent s.est.socWrite j.addr, capWrite := RecWrite.sent s.est.capWrite j.addr } }
  if j.rank = 3 then
    { s with rcd := { s.rcd with copyFails := 0 } }.setNat Obj.changeLogPackCopied
      (max (s.nat Obj.changeLogPackCopied) (fieldAt 0 4 j.data))
  else s

/-- A change-log copy has failed (R656): the third in succession raises the change-log source. -/
def State.copyFailed (s : State) : State :=
  let n := s.rcd.copyFails + 1
  let s := { s with rcd := { s.rcd with copyFails := n } }
  if n = 3 then s.raiseEvent 0x86 else s

/-- PACK_MEMORY_TRANSFER_DONE (R113, R403, R655): the transfer at `addr` has been written (and, other than SoC and capacity
records, read back), or its readback mismatches and it is retried after 100 ms. -/
def execPackMemoryTransferDone (t addr : Nat) (ok : Bool) (s : State) : Host.Outcome State Fault Refusal :=
  let s := s.tick t
  if 262144 ≤ addr then .fault (.packMemoryHole addr)
  else match s.jobAt addr with
  | none => .next s
  | some j =>
    let rest := s.rcd.jobs.erase j
    if ok then
      let s := s.jobWritten j
      let late := rest.filter (fun x => !x.counted && x.rank != 1)
      let rest := if j.rank = 1 then rest.map (fun (x : PmJob) => { x with counted := true }) else rest
      let s := if j.rank = 1 then s.bumpBy Obj.pmQueueDelays late.length else s
      let s := { s with
        rcd := { s.rcd with
          jobs := rest
          dayDue := if j.rank = 6 && !(rest.any (fun x => x.rank == 6)) then none else s.rcd.dayDue } }
      .next (if 3 ≤ j.fails then s.lower 0x87 else s)
    else
      let j' := { j with fails := j.fails + 1, due := s.now + 100000000 }
      let s := { s with rcd := { s.rcd with jobs := rest ++ [j'] } }
      let s := if j.rank = 3 then s.copyFailed else s
      .next (if j'.fails = 3 && j.rank != 1 && !(0x200 ≤ addr && addr < 0x300) then s.raise 0x87 else s)

/-- CaptureStatus (R657). -/
def State.captureStatus (s : State) : Nat :=
  let rcg := s.capRecording
  packBits [s.rcd.capInit && !s.rcd.capStopped && s.captureAhead ≠ 0, rcg.isSome,
    (match rcg with | some e => decide (e.2.t ≤ s.ringTime) | none => false), s.rcd.readout.isSome, 16 ≤ s.rcd.caps.length,
    s.rcd.capInit, !s.rcd.capInit && !s.rcd.capStopped, s.rcd.capStopped]

/-- CaptureStoreSeconds (R640): the span of the store for the present selection and membership. -/
def State.captureSeconds (s : State) : Rat := if s.captureRate13 = 0 then 0 else (storeSlots : Rat) * 13 / (s.captureRate13 : Nat)

/-- The bytes of a histogram of the staged view (R633). -/
def State.histBytes (s : State) (hist unit bins : Nat) : Bytes :=
  (List.range bins).flatMap (fun k => leBytes 4 (KMap.get s.rcd.histStaged (hist * 65536 + unit * 256 + k) 0))

/-- CellExtremes of a cell, staged (R630). -/
def State.extremeBytes (s : State) (n : Nat) : Bytes :=
  match findKey s.rcd.extStaged n with
  | some e => leInt 4 e.lo ++ leBytes 8 e.loAt ++ leInt 4 e.hi ++ leBytes 8 e.hiAt
  | none => zeroBytes 24

/-- EpisodeList: slots 0 to 511 (R632). -/
def State.episodeBytes (s : State) : Bytes :=
  (List.range 512).flatMap (fun k => match s.rcd.episodes.find? (fun e => e.entry % 512 == k) with | some e => e.bytes | none => zeroBytes 32)

end Sys2Proof.Machine
end

