-- ==== Sys2Proof/Machine/IntegOps.lean ====
section
/-! DEFINITION. Sense integrity: open-wire tests (R256 to R266), break verdicts (R272 to R276), substitution (R274), the
patterns of R271 and R273. -/
namespace Sys2Proof.Machine

/-- What a cell reports (R190, R203, R274): its latest word, the source and the represented instant. DEDUCED, log entry 81. -/
def State.publishCell (s : State) (n word source instant : Nat) : State :=
  let c := s.chan n
  let s := s.setChan n { c with word := word, instant := instant, measured := true }
  let s := (s.setRat Obj.cellVoltage ((wordValue word : Int) / 1000000) 0 (n - 1)).setNat Obj.cellTag (word % 256) 0 (n - 1)
  (s.setNat Obj.cellSource source 0 (n - 1)).setNat Obj.cellSampleTime instant 0 (n - 1)

/-- The cells a sense wire touches (R261). -/
def State.wireCells (s : State) (k : Nat) : List Nat := [k, k + 1].filter (fun n => 1 ≤ n && n ≤ s.cellCount)

/-- The channels a test measures, in order, as entries (R257, R259): SPk and SP(k+1), or FPn. -/
def State.owtEntries (s : State) (x : OwtId) (during : Bool) : List AuxEntry :=
  if x.force then [{ pos := 1, chan := x.k, acq1 := 16, acq := 16, n := 4, shift := 2, blank := !during }]
  else (s.wireCells x.k).zipIdx.map (fun e => s.spEntry (e.2 + 1) e.1 4 2)

/-- Starts a test as IS1 (R227, R260). -/
def State.owtBegin (s : State) (x : OwtId) (retest extra : Bool) : State :=
  if s.auxBusy .is1 || s.itg.test.isSome then s.bump Obj.injOverrun
  else if s.aux.failed then s
  else ({ s with itg := { s.itg with test := some { id := x, retest := retest, extra := extra } } }).auxRequest .is1 (s.owtEntries x false)

/-- Step 3 of R260: the test current or the bleeder is on, and the test entries follow. -/
def State.owtCurrentOn (s : State) (x : OwtTest) : State :=
  let now := s.ringTime
  let s := { s with itg := { s.itg with test := some { x with onSince := some now } } }
  let s := if x.id.force then s.flowUpdate else
    (s.wireCells x.id.k).foldl (fun (st : State) n => let c := st.chan n; st.setChan n { c with owt := openSpan c.owt now }) s
  s.auxRequest .is1 (s.owtEntries x.id true)

/-- Whether a test fails on its readings (R257, R259). -/
def State.owtFails (s : State) (x : OwtTest) : Bool :=
  if x.id.force then decide (2 * x.during.headD 0 < x.base.headD 0)
  else (x.base.zip x.during).any (fun e => decide (s.rat Obj.owtLimit * 1000000 < (((e.1 - e.2).natAbs : Nat) : Rat)))

/-- The resistance a passing test gives in Ω (R258: to 0.5 Ω; R259). -/
def OwtTest.ohms (x : OwtTest) : Rat :=
  let drop : Rat := (x.base.headD 0 - x.during.headD 0 : Int)
  if x.id.force then clampQ 0 10 (drop / 250000) else clampQ 0 50 ((roundHalfAway (absQ drop / 100 * 2) : Int) / 2)

/-- The key of a wire in the resistance run of R283. -/
def OwtId.key (x : OwtId) : Nat := if x.force then 100 + x.k else x.k

/-- A result written to SenseWireRes or ForcePathRes (R258, R259), −1 for a failed test; readings too high in three
consecutive rounds raise wiring-resistance (R283). -/
def State.owtResult (s : State) (x : OwtTest) (failed : Bool) : State :=
  if x.bal && !x.id.force && !failed then s
  else
    let v : Rat := if failed then -1 else x.ohms
    let s := if x.id.force then s.setRat Obj.forcePathRes v 0 (x.id.k - 1) else s.setRat Obj.senseWireRes v 0 x.id.k
    if x.extra || x.retest || failed then s
    else
      let high := if x.id.force then decide (1 / 4 < v) else decide (15 < v)
      let n := if high then KMap.get s.itg.wiring x.id.key 0 + 1 else 0
      let hs := if 3 ≤ n then setInsert s.itg.wiringHigh x.id.key else if n = 0 then setErase s.itg.wiringHigh x.id.key else s.itg.wiringHigh
      { s with itg := { s.itg with wiring := KMap.set s.itg.wiring x.id.key n, wiringHigh := hs } }.follow 0x2F (!hs.isEmpty)

/-- The substituted cells and the cells whose balancing is inhibited follow the verdicts held (R273, R274). DEDUCED, log entry 78. -/
def State.verdictCells (s : State) : State :=
  let sub := s.cells.filter (fun n => s.itg.senseOpen.any (fun k => k == n || k + 1 == n) || s.itg.chanSuspect.contains n)
  let inh := s.cells.filter (fun n => s.itg.forceOpen.any (fun k => k == n || k + 1 == n))
  { s with itg := { s.itg with subst := sub, inhibit := inh } }

/-- Sense wire k is open (R272, R273). -/
def State.senseVerdict (s : State) (k : Nat) : State :=
  { s with itg := { s.itg with senseOpen := setInsert s.itg.senseOpen k } }.verdictCells.raise 0x2A

/-- Force wire k is open (R272, R273); at an end of the pack the stack supply is lost with it. -/
def State.forceVerdict (s : State) (k : Nat) : State :=
  let s := { s with itg := { s.itg with forceOpen := setInsert s.itg.forceOpen k } }.verdictCells.raise 0x2B
  if k = 0 ∨ k = s.cellCount then { s with itg := { s.itg with stackSup := true } }.raise 0x2C else s

/-- What the outcome of force test n, failed twice or passed, says of a wire with its neighbour's (R272, R273): the wire
the two tests share, an end wire, or, for a test that fails alone, FCn. DEDUCED, log entry 78. -/
def State.forceOutcome (s : State) (n : Nat) (failed : Bool) : State :=
  let bad := fun (m : Nat) => s.itg.failedIn.contains { force := true, k := m }
  if failed then
    if 2 ≤ n && bad (n - 1) then s.forceVerdict (n - 1) else if n = s.cellCount then s.forceVerdict n else s
  else if 2 ≤ n && bad (n - 1) && !(3 ≤ n && bad (n - 2)) then s.forceVerdict (if n = 2 then 0 else n - 1)
  else s

/-- The test at a position of the round (R264): SN0, force C1, SN1, and so on. -/
def owtAt (pos : Nat) : OwtId := if pos % 2 = 0 then { force := false, k := pos / 2 } else { force := true, k := pos / 2 + 1 }

/-- Wire verdicts whose every test passed in the fast round end (R276). -/
def State.endVerdicts (s : State) : State :=
  let failed := fun (f : Bool) (k : Nat) => s.itg.failedIn.contains { force := f, k := k }
  let sense := s.itg.senseOpen.filter (fun k => failed false k)
  let force := s.itg.forceOpen.filter (fun k => failed true k || failed true (k + 1))
  let sup := s.itg.stackSup && (force.any (fun k => k == 0 || k == s.cellCount) || !(s.itg.forceOpen.any (fun k => k == 0 || k == s.cellCount)))
  let s := { s with itg := { s.itg with senseOpen := sense, forceOpen := force, stackSup := sup } }.verdictCells
  let s := if sense.isEmpty then s.lower 0x2A else s
  let s := if force.isEmpty then s.lower 0x2B else s
  if sup then s else s.lower 0x2C

/-- A round is complete (R264, R265, R266). -/
def State.roundComplete (s : State) : State :=
  let s := if s.itg.fast then s.endVerdicts else s
  ({ s with itg := { s.itg with
      pos := 0, fast := false, roundDone := s.itg.roundDone || s.itg.fast, roundStart := s.ringTime, overdue := false,
      failedIn := [] } }.bump Obj.owtRounds).lower 0x31

/-- The round moves on behind a test that is done (R264). -/
def State.roundAdvance (s : State) : State :=
  if 2 * s.cellCount ≤ s.itg.pos then s.roundComplete else { s with itg := { s.itg with pos := s.itg.pos + 1 } }

/-- The limit in µV beyond which a sum deviates (R270). -/
def State.sumLimit (s : State) : Rat := ((s.itg.stackSn.getD 0 : Int) : Rat) / 1000 + s.rat Obj.sumMargin * 1000000

/-- The verdict of a held pattern whose confirming tests have passed (R272, R273): a precision channel or a force-path
reading in error, else undecided. DEDUCED, log entry 78. DEDUCED, log entry 79. -/
def State.patternVerdict (s : State) (p : Pattern) : State :=
  let s := { s with itg := { s.itg with held := none, pattern := none, patternRun := 0 } }
  let undecided := { s with itg := { s.itg with undecided := true } }.raise 0x30
  match p.cells with
  | [(n, neg)] =>
    let sign : Int := if neg then -1 else 1
    let beyond := decide (s.sumLimit < (((KMap.get s.itg.dn n 0).natAbs : Nat) : Rat))
    if p.sn = p.fc ∧ (p.sn = sign ∨ (p.sn = 0 ∧ !beyond)) then
      { s with itg := { s.itg with chanSuspect := setInsert s.itg.chanSuspect n } }.verdictCells.raise 0x2D
    else if p.sn = 0 ∧ p.fc = 0 then
      { s with itg := { s.itg with forceSuspect := setInsert s.itg.forceSuspect n } }.raise 0x2E
    else undecided
  | _ => undecided

/-- Whether a test may not start now (R266): a capture, or balancing on the cell of a force test. -/
def State.owtBarred (s : State) (x : OwtId) : Bool :=
  s.capturing || (x.force && (s.bal.bleeders.contains x.k || s.bal.fly.any (fun e => e.2.sel == x.k)))

/-- Whether a force test is suspended because the bleeder bank of its half is disconnected (R317). -/
def State.forceSuspended (s : State) (x : OwtId) : Bool := x.force && (if x.k ≤ 12 then s.bal.bank1Off else s.bal.bank2Off)

/-- The next test of a held pattern, or its verdict once all are done: a break found meanwhile is the verdict (R266,
R271, R272). -/
def State.extraNext (s : State) : State :=
  match s.itg.held with
  | none => s
  | some p =>
    match s.itg.extra with
    | x :: rest =>
      if s.forceSuspended x then s
      else if s.owtBarred x then s.bump Obj.owtDeferred
      else { s with itg := { s.itg with extra := rest } }.owtBegin x false true
    | [] =>
      let failed := fun (x : OwtId) => s.itg.failedIn.contains x
      let hit := p.cells.any (fun e => failed { force := false, k := e.1 - 1 } || failed { force := false, k := e.1 } || failed { force := true, k := e.1 })
      if hit then
        let alone := (p.cells.map (·.1)).filter (fun n => failed { force := true, k := n } && !(s.itg.inhibit.contains n))
        let s := alone.foldl (fun (st : State) n => if st.itg.inhibit.contains n then st else st.forceVerdict n) s
        { s with itg := { s.itg with held := none, pattern := none, patternRun := 0 } }
      else s.patternVerdict p

/-- A test is over (R257 to R261, R272): current off, settling, the result; a first failure is repeated, a second is the
verdict. -/
def State.owtEnd (s : State) (x : OwtTest) : State :=
  let now := s.ringTime
  let s := { s with itg := { s.itg with test := none } }
  let cells := if x.id.force then [] else s.wireCells x.id.k
  let s := cells.foldl (fun (st : State) n => let c := st.chan n; st.setChan n { c with owt := closeSpan c.owt now }) s
  let s := if cells.isEmpty then s.flowUpdate else s.settle cells false now
  let s := s.calResume
  let failed := s.owtFails x
  let s := s.owtResult x failed
  if failed && !x.retest then { s with itg := { s.itg with retest := some (x.id, x.extra, s.now + 1000000) } }
  else
    let s := if failed then { s with itg := { s.itg with
        failedIn := if s.itg.failedIn.contains x.id then s.itg.failedIn else s.itg.failedIn ++ [x.id] } } else s
    let s := if x.id.force then s.forceOutcome x.id.k failed else if failed then s.senseVerdict x.id.k else s
    if x.extra then s.extraNext else s.roundAdvance

/-- Tests that a pattern involves (R271): the sense tests of the two pins of each cell and the force tests of the cell, at
an end of the pack with its neighbour's. -/
def State.involved (s : State) (p : Pattern) : List OwtId :=
  let ns := p.cells.map (·.1)
  let sense := (List.range (s.cellCount + 1)).filter (fun k => ns.contains k || ns.contains (k + 1))
  let force := s.cells.filter (fun n => ns.contains n || (n == 2 && ns.contains 1) || (n + 1 == s.cellCount && ns.contains s.cellCount))
  sense.map (fun k => { force := false, k := k }) ++ force.map (fun n => { force := true, k := n })

/-- A legacy cell code (R239): V over 1.220703125 mV. -/
def legacyCode (uv : Int) : Nat := if uv < 0 then 0 else min 4095 ((uv.toNat * 4096) / 5000000)

/-- The state with a legacy device replaced. -/
def State.setDev (s : State) (d : Nat) (x : PawnSt) : State :=
  if d = 0 then { s with aux := { s.aux with dev0 := x } } else { s with aux := { s.aux with dev1 := x } }

/-- A result with SKIP set (R245, R246, R249). -/
def State.pawnSkip (s : State) (d pos : Nat) : State :=
  let x := s.dev d
  (s.setDev d { x with res := KMap.set x.res pos (2 ^ 15 + (x.round % 4) * 4096), cur := none }).bump Obj.pawnSkips

/-- A remeasurement compared with its partner output (R245, R247, R248): the partner's word. DEDUCED, log entry 82. -/
def State.pawnCompare (s : State) (d : Nat) (e : PawnPend) (partner : Nat) : State :=
  let x := s.dev d
  if wordBit partner 0 || wordBit partner 1 || wordBit partner 3 || wordBit partner 4 then s.pawnSkip d e.pos
  else
    let a := legacyCode e.uv
    let b := legacyCode (wordValue partner)
    let miss := decide (x.window < (if a < b then b - a else a - b))
    let res := KMap.set x.res e.pos (bitOf miss * 2 ^ 14 + (x.round % 4) * 4096 + a)
    let again := miss && x.missed.contains e.pos
    let x := { x with
      res := res, fail := if miss then setInsert x.fail e.pos else setErase x.fail e.pos,
      missed := if miss then setInsert x.missed e.pos else setErase x.missed e.pos }
    let s := s.setDev d x
    if again then (s.bump Obj.pawnMismatches).raiseEvent 0x29 else s

end Sys2Proof.Machine
end

