-- ==== Sys2Proof/Machine/AuxConv.lean ====
section
/-! DEFINITION. The auxiliary converter's rows (R218 to R237) and the pawn check (R241 to R249). -/
namespace Sys2Proof.Machine

/-- A sequence is triggered (R227, R229): a trigger that meets its own pass is dropped and counted. -/
def State.seqTrigger (s : State) (u : AuxUser) (todo : List AuxEntry) (overrun : ObjDef) : State :=
  if s.aux.failed then s else if s.auxBusy u then s.bump overrun else s.auxRequest u todo

/-- ROUTINE_TRIGGER (R227, R229, R236). -/
def execRoutineTrigger (t : Nat) (s : State) : Host.Outcome State Fault Refusal :=
  let s := s.tick t
  if !s.md.mode.runs || s.ringTime < s.aux.routineAt + s.nat Obj.routinePeriod * 1000000 then .next s
  else .next ({ s with aux := { s.aux with routineAt := s.ringTime } }.seqTrigger .routine s.routineEntries Obj.regOverrun)

/-- The enabled entries of a list of entry words, positions from 1 (R223). -/
def entriesOf (w : List Nat) : List AuxEntry := w.zipIdx.filterMap (fun e => parseEntry (e.2 + 1) e.1)

/-- The host regular entries (R227). -/
def State.hostRegEntries (s : State) : List AuxEntry := entriesOf ((List.range 16).map (fun k => s.nat Obj.hostRegEntry 0 k))

/-- HOST_REG_TRIGGER (R227, R229): by its period or by its angle. -/
def execHostRegTrigger (t : Nat) (s : State) : Host.Outcome State Fault Refusal :=
  let s := s.tick t
  match s.nat Obj.hostRegTrigger with
  | 1 =>
    if s.ringTime < s.aux.hostRegAt + s.nat Obj.hostRegPeriod * 1000000 then .next s
    else .next ({ s with aux := { s.aux with hostRegAt := s.ringTime } }.seqTrigger .hostReg s.hostRegEntries Obj.regOverrun)
  | 2 =>
    let f := s.takeSignal .hostReg
    .next (if f.1 then f.2.seqTrigger .hostReg s.hostRegEntries Obj.regOverrun else s)
  | _ => .next s

/-- The effect of a write of HostRegStart (R227): it starts a pass where HostRegTrigger is 3. -/
def hostRegStartEffect : PxEffect := fun s =>
  if s.nat Obj.hostRegTrigger = 3 then .ok (s.seqTrigger .hostReg s.hostRegEntries Obj.regOverrun) else .refuse pxState

/-- HOST_REG_START (R227, R229). -/
def execHostRegStart (t : Nat) (q : PxReq) (v : Nat) (s : State) : Host.Outcome State Fault Refusal :=
  .next ((s.tick t).pxWriteNat q Obj.hostRegStart 0 0 v hostRegStartEffect)

/-- The entries of IS3 and IS4 (R227). -/
def State.injEntries (s : State) (k : InjSeq) : List AuxEntry :=
  let o := match k with | .is3 => 0 | .is4 => 4
  entriesOf ((List.range 4).map (fun j => s.nat Obj.injEntry 0 (o + j)))

/-- INJ_TRIGGER (R172, R227, R229): the event of its comparator or of a write (R178) is taken. -/
def execInjTrigger (t : Nat) (k : InjSeq) (s : State) : Host.Outcome State Fault Refusal :=
  let s := s.tick t
  let f := s.takeSignal (match k with | .is3 => .is3 | .is4 => .is4)
  .next (if f.1 then f.2.seqTrigger (match k with | .is3 => .is3 | .is4 => .is4) (s.injEntries k) Obj.injOverrun else s)

/-- CONV clocks in ns (R218: 40.96 MHz). -/
def convNs (clocks : Nat) : Nat := clocks * 100000 / 4096

/-- The cell a channel reads, 0 for none. -/
def auxCell (c : Nat) : Nat := if 1 ≤ c && c ≤ 0x18 then c else if 0x21 ≤ c && c ≤ 0x38 then c - 0x20 else 0

/-- BAL of a conversion (R226, R235, R277): inside an open blanking window a force-path conversion is free of it. -/
def State.auxBal (s : State) (c : Nat) : Bool :=
  auxCell c != 0 && s.balTag (auxCell c) s.ringTime s.ringTime && !(auxGroup c == 0 && s.aux.blankAt.isSome)

/-- The pass that owns the conversion of a user. -/
def State.passOf (s : State) (u : AuxUser) : Option AuxPass := s.aux.passes.find? (fun p => p.user == u)

/-- The state with a user's pass replaced, dropped once it has nothing to do. -/
def State.setPass (s : State) (p : AuxPass) : State :=
  let ps := s.aux.passes.map (fun (x : AuxPass) => if x.user = p.user then p else x)
  { s with aux := { s.aux with passes := ps.filter (fun (x : AuxPass) => !x.todo.isEmpty) } }

/-- The auxiliary self-check of a routine pass (R234): three failed passes in succession stop the converter; a fenced half
without it is unmeasured, and the module enters SAFE. -/
def State.auxSelfCheck (s : State) (chan : Nat) (uv : Int) : State :=
  if chan = 0 then { s with aux := { s.aux with zeroBad := decide (2000 < uv.natAbs) } }
  else if chan = 0x62 then
    let bad := s.aux.zeroBad || decide (2048 < (uv - 2048000).natAbs)
    let n := if bad then s.aux.failRun + 1 else 0
    let s := { s with aux := { s.aux with failRun := n } }
    if n < 3 then s
    else
      let s := s.owtAbandon
      let s := { s with aux := { s.aux with failed := true, passes := [], cur := none } }.raise 0x28
      if s.meas.h1Fenced || s.meas.h2Fenced then s.enterSafe else s
  else s

/-- A mean of the present 100 ms taken forward (R268, R269): results with SETTLE, CLIP or BAL are not usable. -/
def State.addMean (s : State) (chan word : Nat) : State :=
  let m := KMap.get s.aux.means chan {}
  let ok := !wordBit word 0 && !wordBit word 1 && !wordBit word 2
  let m := { m with all := m.all + 1, count := if ok then m.count + 1 else m.count, sum := if ok then m.sum + wordValue word else m.sum }
  { s with aux := { s.aux with means := KMap.set s.aux.means chan m } }

/-- What a routine result feeds (R87, R219, R234, R268, R274). -/
def State.routineResult (s : State) (e : AuxEntry) (word instant : Nat) : State :=
  let v := wordValue word
  let s := { s.setNat Obj.routineResult word 0 (e.pos - 1) with aux := { s.aux with words := KMap.set s.aux.words e.chan word } }
  let s := if auxGroup e.chan = 0 ∨ auxGroup e.chan = 2 then s.addMean e.chan word else s
  let s := if auxGroup e.chan = 0 && s.itg.subst.contains e.chan && !s.cellFenced e.chan then (s.publishCell e.chan word 1 instant).estPrecision e.chan word instant instant else s
  let s := if e.chan = 0x40 then s.setRat Obj.stackVoltage ((v : Int) / 10000) else s
  s.auxSelfCheck e.chan v

/-- A result delivered to its user (R226, R227, R233, R245, R257, R259). DEDUCED, log entry 81. -/
def State.auxDeliver (s : State) (u : AuxUser) (e : AuxEntry) (word instant : Nat) (more : Bool) : State :=
  match u with
  | .routine => s.routineResult e word instant
  | .hostReg => s.setNat Obj.hostRegResult word 0 (e.pos - 1)
  | .is3 => s.setNat Obj.injResult word 0 (e.pos - 1)
  | .is4 => s.setNat Obj.injResult word 0 (e.pos + 3)
  | .fallback => (s.publishCell (auxCell e.chan) word 1 instant).estPrecision (auxCell e.chan) word instant instant
  | .pawn0 | .pawn1 =>
    let d := if u = .pawn0 then 0 else 1
    if s.cellFenced (auxCell e.chan) then s.pawnSkip d e.pos
    else
      let x := s.dev d
      s.setDev d { x with cur := none, pend := x.pend ++ [{ pos := e.pos, uv := wordValue word, instant := instant }] }
  | .is1 =>
    match s.itg.test with
    | none => s
    | some x =>
      let v := wordValue word
      let flow := x.bal || (!x.id.force && s.flowIn (auxCell e.chan) s.ringTime s.ringTime)
      if x.onSince.isNone then
        let x := { x with base := x.base ++ [v], bal := flow }
        if more then { s with itg := { s.itg with test := some x } } else s.owtCurrentOn x
      else
        let x := { x with during := x.during ++ [v], bal := flow }
        if more then { s with itg := { s.itg with test := some x } } else s.owtEnd x
  | .is2 | .capture => s

/-- The open blanking window closes (R281): converters and bleeders resume. -/
def State.blankClose (s : State) : State :=
  State.flowUpdate { s with
    aux := { s.aux with blankAt := none, blankOff := [] }
    bal := { s.bal with fly := s.bal.fly.map (fun (e : Nat × FlybackSt) => (e.1, { e.2 with blanked := false })) } }

/-- The entry that a window serves next: the first that needs one. -/
def State.blankEntry (s : State) : Option AuxEntry :=
  (s.aux.passes.find? (fun p => match p.todo with
    | e :: _ => e.blank && auxGroup e.chan == 0 && !p.forced && s.forceBusy e.chan
    | [] => false)).bind (fun p => p.todo.head?)

/-- Whether an open window must close now (R281): no entry needs it, or the next would not complete in time. -/
def State.blankOver (s : State) : Bool :=
  match s.aux.blankAt, s.blankEntry with
  | some b, some e =>
    let half := match s.spinRec s.ringTime with | some r => r.p / 128 | none => 500000
    let cap := min (s.nat Obj.blankMax * 1000) half
    decide (b + cap < s.ringTime + convNs ((e.acq1 + 24) + (e.n - 1) * (e.acq + 24)))
  | some _, none => true
  | none, _ => false

/-- A conversion of an entry is taken into its accumulator, and the entry's result formed after the last (R224 to R226,
R228, R244). -/
def State.auxAccumulate (s : State) (p : AuxPass) (e : AuxEntry) (code : Int) (short : Bool) : State :=
  let c := e.chan
  let cell := auxCell c
  let n := p.n + 1
  let sample := s.ringTime - convNs 24
  let mark := if p.user = .pawn0 ∨ p.user = .pawn1 then 1 else min 8 e.n
  let cal := cell != 0 && (s.chan cell).cal.any (fun x => x.stop.isNone)
  let p := { p with
    n := n, sum := p.sum + code, short := p.short || short, clip := p.clip || decide (code = 32767) || decide (code = -32768),
    bal := p.bal || s.auxBal c, cal := p.cal || cal, instant := if n = mark then sample else p.instant }
  let s := if short then s.bump Obj.acqShort else s
  let s := if p.forced && s.auxBal c then s.bump Obj.blankTimeouts else s
  if n < e.n then s.setPass p
  else
    let r := auxValue c e.n e.shift p.sum
    let owt := auxGroup c == 1 && (s.chan cell).owt.any (fun x => x.stop.isNone)
    let k := p.user.rank * 64 + e.pos
    let seq := KMap.get s.aux.seq k 0
    let w := tagWord r.1 seq false p.cal owt p.bal (p.clip || r.2) p.short
    let s := if r.2 then s.bump Obj.avgOverflow else s
    let s := { s with aux := { s.aux with seq := KMap.set s.aux.seq k ((seq + 1) % 4) } }
    let rest := p.todo.drop 1
    (s.setPass { user := p.user, todo := rest }).auxDeliver p.user e w p.instant (!rest.isEmpty)

/-- AUX_CONVERSION_DONE (R220 to R235): the conversion in progress ends with `code`; the converter passes to the
highest-priority pending user. -/
def execAuxConversionDone (t : Nat) (code : Int) (s : State) : Host.Outcome State Fault Refusal :=
  let s := s.tick t
  match s.aux.cur with
  | none => .next s
  | some c =>
    let code := clampI (-32768) 32767 code
    let s := { s with aux := { s.aux with cur := none, lastChan := some c.chan } }
    let s := if c.short && c.user == .capture then s.bump Obj.acqShort else s
    let s := match c.user with
      | .capture =>
        let v := auxValue c.chan 1 0 code
        s.captureAux c.chan (tagWord v.1 0 false false false false (code == 32767 || code == -32768) c.short)
      | u => match s.passOf u with
        | some p => match p.todo with
          | e :: _ => if e.chan = c.chan then s.auxAccumulate p e code c.short else s
          | [] => s
        | none => s
    .next (if s.blankOver then s.blankClose else s).auxStart

/-- BLANK_WINDOW_OPEN (R113, R235, R280, R282, R437): switching of every flyback converter pauses, and the bleeders whose
force pins serve a waiting entry are off. -/
def execBlankWindowOpen (t : Nat) (s : State) : Host.Outcome State Fault Refusal :=
  let s := s.tick t
  let s := s.markWaits
  let waiting := s.aux.passes.filter (fun p => p.waitSince.isSome)
  if s.aux.blankAt.isSome || waiting.isEmpty then .next s
  else
    let fps := waiting.filterMap (fun p => (p.todo.head?).map (·.chan))
    let off := s.bal.bleeders.filter (fun m => fps.any (fun n => m == n || m + 1 == n || m == n + 1))
    let s := State.flowUpdate { s with
      aux := { s.aux with blankAt := some s.ringTime, blankOff := off }
      bal := { s.bal with fly := s.bal.fly.map (fun (e : Nat × FlybackSt) => (e.1, { e.2 with blanked := e.2.on })) } }
    .next (s.bump Obj.blankWindows).auxStart

/-- BLANK_WAIT_TIMEOUT (R235, R282): after two turns, or 2 ms without turns, the entry converts at once. -/
def execBlankWaitTimeout (t : Nat) (s : State) : Host.Outcome State Fault Refusal :=
  let s := s.tick t
  let limit := match s.spinRec s.ringTime with | some r => r.p / 32 | none => 2000000
  let late := fun (p : AuxPass) => match p.waitSince with | some w => decide (w + limit ≤ s.ringTime) | none => false
  .next ({ s with aux := { s.aux with passes := s.aux.passes.map (fun (p : AuxPass) =>
      if late p then { p with forced := true } else p) } }).auxStart

/-- The reason a device's pawn is idle, or 1 while it runs (R241, PawnState). -/
def State.pawnIdle (s : State) (d : Nat) : Nat :=
  if !s.flag Obj.legacyEnable || !(s.dev d).en then 0
  else if 16 < s.meas.m then 2
  else if !(s.turnLock || s.freeWin) then 3
  else if s.capturing then 4 else 1

/-- Whether a pawn may stop at a position (R243). -/
def State.pawnFree (s : State) (d pos : Nat) : Bool :=
  let n := 12 * d + pos
  !s.bal.bleeders.contains n && !s.bal.fly.any (fun e => e.2.sel == n)

/-- The populated positions of a half-stack above a position. -/
def State.pawnAbove (s : State) (d pos : Nat) : List Nat :=
  ((List.range 12).map (· + 1)).filter (fun p => pos < p && 12 * d + p ≤ s.cellCount)

/-- The round of a pawn ends (R243); populated positions above its last visit were passed over. DEDUCED, log entry 82. -/
def State.pawnRoundEnd (s : State) (d : Nat) : State :=
  let x := s.dev d
  let n := (s.pawnAbove d x.ptr).length
  ((s.setDev d { x with ended := true }).bump Obj.pawnRounds).bumpBy Obj.pawnBypassed n

/-- A visit of a position (R243 to R246): a remeasurement, or SKIP while a capture runs or the converter has failed. -/
def State.pawnTake (s : State) (d pos : Nat) : State :=
  let x := s.dev d
  let passed := ((s.pawnAbove d x.ptr).filter (· < pos)).length
  let s := (s.setDev d { x with ptr := pos }).bumpBy Obj.pawnBypassed passed
  let u := if d = 0 then AuxUser.pawn0 else AuxUser.pawn1
  let s := if s.capturing || s.aux.failed || s.auxBusy u then s.pawnSkip d pos
    else
      let s := s.setDev d { s.dev d with cur := some (pos, s.ringTime) }
      s.auxRequest u [s.spEntry pos (12 * d + pos) 4 2]
  if (s.pawnAbove d pos).any (s.pawnFree d) then s else s.pawnRoundEnd d

/-- PAWN_VISIT (R241 to R246): the pawn of the device whose turn it is moves to its next position. -/
def execPawnVisit (t : Nat) (s : State) : Host.Outcome State Fault Refusal :=
  let s := s.tick t
  match s.angle with
  | none => .next s
  | some a =>
    let d := (a / 65536) % 2
    if s.pawnIdle d ≠ 1 ∧ s.pawnIdle d ≠ 4 then .next s
    else
      let x := s.dev d
      let s := if x.ended then s.setDev d { x with ptr := 0, ended := false, round := x.round + 1 } else s
      match (s.pawnAbove d (s.dev d).ptr).find? (s.pawnFree d) with
      | some pos => .next (s.pawnTake d pos)
      | none => .next (if (s.pawnAbove d 0).isEmpty then s else s.pawnRoundEnd d)

/-- PAWN_ABANDON (R246): a remeasurement held for more than a quarter turn after the pawn angle. -/
def execPawnAbandon (t dev : Nat) (s : State) : Host.Outcome State Fault Refusal :=
  let s := s.tick t
  let d := dev % 2
  let u := if d = 0 then AuxUser.pawn0 else AuxUser.pawn1
  match (s.dev d).cur, s.spinRec s.ringTime with
  | some (pos, since), some r =>
    let own := match s.aux.cur with | some c => c.user == u | none => false
    if own || s.ringTime ≤ since + r.p / 256 then .next s
    else .next ({ s with aux := { s.aux with passes := s.aux.passes.filter (fun p => p.user != u) } }.pawnSkip d pos)
  | _, _ => .next s

/-- AuxStatus (R252). -/
def State.auxStatus (s : State) : Nat :=
  let inj := s.aux.passes.find? (fun p => p.user == .is1 || p.user == .is2 || p.user == .is3 || p.user == .is4)
  let code := match inj with
    | some p => (match p.user with | .is2 => 1 | .is3 => 2 | .is4 => 3 | _ => 0)
    | none => 0
  bitOf (s.auxBusy .routine || s.auxBusy .hostReg) + 2 * bitOf inj.isSome + 4 * code
    + 16 * packBits [s.pawnIdle 0 == 1 || s.pawnIdle 1 == 1, s.capturing && !s.aux.failed, s.auxBusy .fallback, s.aux.failed]

/-- PawnState: that of device 0, or of device 1 where device 0 is disabled. -/
def State.pawnState (s : State) : Nat := if s.pawnIdle 0 = 0 then s.pawnIdle 1 else s.pawnIdle 0

end Sys2Proof.Machine
end

