-- ==== Sys2Proof/Machine/Integrity.lean ====
section
/-! DEFINITION. Sense integrity: the scheduled open-wire tests, the 100 ms checks and the stack supply (R264 to R275). -/
namespace Sys2Proof.Machine

/-- The next slot of the test schedule (R264, R265): 1 ms on in a fast round, else the next multiple of OwtInterval. -/
def State.owtNextSlot (s : State) : Nat :=
  let p := s.nat Obj.owtInterval * 1000000
  if s.itg.fast then s.ringTime + 1000000 else (s.ringTime / p + 1) * p

/-- Whether open-wire tests run in the present mode (R264). -/
def State.owtMode (s : State) : Bool := s.md.mode == .standby || s.md.mode == .online || s.md.mode == .safe

/-- OWT_TEST_START (R256 to R266): a slot of the schedule starts the next test as IS1, or moves it to the next slot. -/
def execOwtTestStart (t : Nat) (s : State) : Host.Outcome State Fault Refusal :=
  let s := s.tick t
  if !s.owtMode || s.ringTime < s.itg.nextAt then .next s
  else
    let s := { s with itg := { s.itg with nextAt := s.owtNextSlot } }
    if s.itg.held.isSome && !s.itg.extra.isEmpty && !s.capturing && s.itg.test.isNone then .next s.extraNext
    else
      let x := owtAt s.itg.pos
      if s.forceSuspended x then .next s
      else if s.owtBarred x then .next (s.bump Obj.owtDeferred)
      else .next (s.owtBegin x false false)

/-- OWT_RETEST (R272): the repeat of a failed test. -/
def execOwtRetest (t : Nat) (s : State) : Host.Outcome State Fault Refusal :=
  let s := s.tick t
  match s.itg.retest with
  | none => .next s
  | some (x, extra, _) =>
    if s.forceSuspended x then .next s
    else if s.owtBarred x then .next (s.bump Obj.owtDeferred)
    else if s.auxBusy .is1 || s.aux.failed then .next s
    else .next ({ s with itg := { s.itg with retest := none } }.owtBegin x true extra)

/-- The overdue limit of a round in ns (R266). -/
def State.overdueLimit (s : State) : Nat :=
  max 60000000000 (2 * (2 * s.cellCount + 1) * s.nat Obj.owtInterval * 1000000)

/-- OWT_ROUND_OVERDUE (R266, R283). -/
def execOwtRoundOverdue (t : Nat) (s : State) : Host.Outcome State Fault Refusal :=
  let s := s.tick t
  if !s.owtMode || s.itg.overdue || s.ringTime < s.itg.roundStart + s.overdueLimit then .next s
  else .next ({ s with itg := { s.itg with overdue := true } }.raise 0x31)

/-- A mean of a set at least half usable (R268). -/
def halfMean (sum : Int) (count all : Nat) : Option Rat :=
  if 0 < count ∧ all ≤ 2 * count then some ((sum : Rat) / (count : Nat)) else none

/-- The precision mean of a cell over the interval in µV (R268). -/
def State.cellMean (s : State) (n : Nat) : Option Rat := halfMean (s.chan n).sum (s.chan n).count (s.chan n).all

/-- The mean of an auxiliary channel over the interval, in VALUE counts (R268, R269). -/
def State.auxMean (s : State) (c : Nat) : Option Rat :=
  let m := KMap.get s.aux.means c {}
  halfMean m.sum m.count m.all

/-- The sign of a difference beyond a limit, 0 within it. -/
def signBeyond (v limit : Rat) : Int := if limit < v then 1 else if v < -limit then -1 else 0

/-- The differences of the interval (R268, R269): d_n and the two sum differences in µV. -/
def State.formDiffs (s : State) : State :=
  let dn := s.cells.filterMap (fun n => match s.cellMean n, s.auxMean n with
    | some a, some b => some (n, roundHalfAway (a - b))
    | _, _ => none)
  let means := s.cells.filterMap s.cellMean
  let sum := if means.length = s.cellCount then some (roundHalfAway (sumQ means)) else none
  let sn := (s.auxMean 0x41).map (fun v => roundHalfAway (v * 100))
  let fc := (s.auxMean 0x40).map (fun v => roundHalfAway (v * 100))
  let s := { s with itg := { s.itg with dn := dn, sumC := sum, stackSn := sn, stackFc := fc } }
  let s := dn.foldl (fun (st : State) e => st.setRat Obj.dualPathDiff ((e.2 : Int) / 1000000) 0 (e.1 - 1)) s
  let s := match sum, sn with | some a, some b => s.setRat Obj.sumDiffSN ((a - b : Int) / 1000000) | _, _ => s
  match sum, fc with | some a, some b => s.setRat Obj.sumDiffFC ((a - b : Int) / 1000000) | _, _ => s

/-- The accumulators of a new interval (R268). -/
def State.clearMeans (s : State) : State :=
  { s with
    meas := { s.meas with chans := s.meas.chans.map (fun (e : Nat × ChanSt) => (e.1, { e.2 with sum := 0, count := 0, all := 0 })) }
    aux := { s.aux with means := [] } }

/-- The pattern of deviations of the interval (R270, R271), without what a verdict already explains. DEDUCED, log entry 79. -/
def State.classify (s : State) : Option Pattern :=
  let known := fun (n : Nat) => s.itg.subst.contains n || s.itg.inhibit.contains n || s.itg.forceSuspect.contains n
  let lim := s.rat Obj.dualPathLimit * 1000000
  let cells := s.itg.dn.filterMap (fun e =>
    let g := signBeyond (e.2 : Int) lim
    if g ≠ 0 && !known e.1 then some (e.1, decide (g < 0)) else none)
  let held := !s.itg.subst.isEmpty || !s.itg.forceOpen.isEmpty
  let diff := fun (o : Option Int) => match s.itg.sumC, o with
    | some a, some b => if held then 0 else signBeyond (a - b : Int) s.sumLimit
    | _, _ => 0
  let p : Pattern := { cells := cells, sn := diff s.itg.stackSn, fc := diff s.itg.stackFc }
  if cells.isEmpty && p.sn == 0 && p.fc == 0 then none else some p

/-- DUAL_PATH_CHECK (R268 to R274, R283): the differences are formed and classified; a pattern held for three intervals
has every test of its indices run at once. -/
def execDualPathCheck (t : Nat) (s : State) : Host.Outcome State Fault Refusal :=
  let s := s.tick t
  if !s.md.mode.runs then .next s
  else
    let s := s.formDiffs.clearMeans
    if s.itg.held.isSome || s.itg.undecided then .next s
    else match s.classify with
    | none => .next { s with itg := { s.itg with pattern := none, patternRun := 0 } }
    | some p =>
      let n := if s.itg.pattern = some p then s.itg.patternRun + 1 else 1
      let s := { s with itg := { s.itg with pattern := some p, patternRun := n } }
      if n < 3 then .next s
      else
        let s := { s with itg := { s.itg with held := some p, extra := s.involved p } }
        .next (if s.capturing || s.itg.test.isSome then s else s.extraNext)

/-- STACK_SUPPLY_ABSENT (R275, R283): with STACK_SN at 20 V or more. -/
def execStackSupplyAbsent (t : Nat) (s : State) : Host.Outcome State Fault Refusal :=
  let s := s.tick t
  if wordValue (KMap.get s.aux.words 0x41 0) < 200000 then .next s
  else .next ({ s with itg := { s.itg with stackSup := true } }.raise 0x2C)

end Sys2Proof.Machine
end

