-- ==== Sys2Proof/Machine/Sent.lean ====
section
/-! DEFINITION. SENT sensors: frame checks and values (R611 to R620), supplies and warm-up (R89, R621), the slow channel
(R622, R623), the loopback (R624), the channel sources (R625). -/
namespace Sys2Proof.Machine

/-- A channel's state. -/
def State.sentCh (s : State) (k : Nat) : SentChan := KMap.get s.sent.ch k {}

/-- The state with a channel replaced. -/
def State.setSent (s : State) (k : Nat) (c : SentChan) : State := { s with sent := { s.sent with ch := KMap.set s.sent.ch k c } }

/-- Whether a channel is enabled. -/
def State.sentOn (s : State) (k : Nat) : Bool := s.flag Obj.sentEnable (k - 1)

/-- The nominal tick in CONV clocks (R612). -/
def State.sentTick (s : State) (k : Nat) : Rat := s.rat Obj.tickNominal (k - 1) * 4096 / 100

/-- The CRC-4 of SAE J2716 over nibbles, polynomial x⁴ + x³ + x² + 1, seed 5 (PRESUMED, log entry 20). -/
def crc4Step (c n : Nat) : Nat := ([0, 13, 7, 10, 14, 3, 9, 4, 1, 12, 6, 11, 15, 2, 8, 5].getD c 0).xor n

/-- The frame CRC: legacy, or recommended with a zero nibble appended (R611). PRESUMED, log entry 20. -/
def sentCrc (recommended : Bool) (l : List Nat) : Nat :=
  let c := l.foldl crc4Step 5
  if recommended then crc4Step c 0 else c

/-- The CRC-6 of SAE J2716 over bits, most significant first, polynomial x⁶ + x⁴ + x³ + 1, seed 0b010101, six zero bits
appended. PRESUMED, log entry 20. -/
def crc6 (bits : List Bool) : Nat :=
  (bits ++ List.replicate 6 false).foldl (fun (c : Nat) b =>
    let c' := c * 2 + bitOf b
    if 64 ≤ c' then (c' - 64).xor 0x19 else c') 0x15

/-- The number whose bits are given most significant first. -/
def bitsNum (l : List Bool) : Nat := l.foldl (fun a b => a * 2 + bitOf b) 0

/-- A complete short message in the last 16 status nibbles: ID, data, and whether its CRC checks. -/
def shortMessage (l : List Nat) : Option (Nat × Nat × Bool) :=
  let b3 := l.map (fun n => bitsOf 3 3 n == 1)
  let b2 := l.map (fun n => bitsOf 2 2 n == 1)
  if l.length = 16 ∧ b3 = true :: List.replicate 15 false then
    let id := bitsNum (b2.take 4)
    let data := bitsNum ((b2.drop 4).take 8)
    some (id, data, sentCrc true [id, data / 16, data % 16] == bitsNum (b2.drop 12))
  else none

/-- A complete enhanced message in the last 18 status nibbles: FORM, ID, data, and whether its CRC checks. -/
def enhancedMessage (l : List Nat) : Option (Nat × Nat × Nat × Bool) :=
  let b3 := l.map (fun n => bitsOf 3 3 n == 1)
  let b2 := l.map (fun n => bitsOf 2 2 n == 1)
  if l.length = 18 ∧ b3.take 7 = [true, true, true, true, true, true, false] ∧ b3.getD 12 true = false ∧ b3.getD 17 true = false then
    let conf := b3.getD 7 false
    let hi := bitsNum ((b3.drop 8).take 4)
    let lo := bitsNum ((b3.drop 13).take 4)
    let data := bitsNum (b2.drop 6)
    let body := ((b2.drop 6).zip (b3.drop 6)).flatMap (fun e => [e.1, e.2])
    let ok := crc6 body == bitsNum (b2.take 6)
    if conf then some (2, hi, lo * 4096 + data, ok) else some (1, hi * 16 + lo, data, ok)
  else none

/-- What the checks of R613 to R615 say of a frame: the counter of the first that fails, or its nibbles. -/
def State.sentCheck (s : State) (k : Nat) (pulses : List Nat) : Except Nat (List Nat) :=
  let c := s.sentCh k
  let cal := pulses.headD 0
  let nominal := 56 * s.sentTick k
  if (cal : Rat) < nominal * 3 / 4 || nominal * 5 / 4 < (cal : Rat) then .error 0
  else if (match c.prev with | some p => decide (p < 64 * (if cal < p then p - cal else cal - p)) | none => false) then .error 1
  else
    let tick : Rat := (cal : Rat) / 56
    let pause := s.nat Obj.pauseMode (k - 1) == 1
    let body := pulses.drop 1
    let nibs := if pause then body.take (body.length - 1) else body
    let ticks := nibs.map (fun (p : Nat) => ((p : Rat) / tick + 1 / 2).floor.toNat)
    let pauseTicks : Rat := ((body.getLastD 0 : Nat) : Rat) / tick
    let v := ticks.map (· - 12)
    if ticks.any (fun n => n < 12 || 27 < n) then .error 2
    else if nibs.length ≠ s.nat Obj.dataNibbles (k - 1) + 2 then .error 3
    else if pause && (pauseTicks < 12 || 768 < pauseTicks) then .error 4
    else if sentCrc (s.nat Obj.crcVariant (k - 1) == 1) ((v.drop 1).take (s.nat Obj.dataNibbles (k - 1))) ≠ v.getLastD 0 then .error 5
    else .ok v

/-- A serial message in assembly is discarded (R622). -/
def State.sentDiscard (s : State) (k : Nat) : State :=
  let c := s.sentCh k
  if c.asm.isEmpty then s else (s.setSent k { c with asm := [] }).bump Obj.sentSlowRestarts (k - 1)

/-- One error counted (R616). -/
def State.sentError (s : State) (k kind : Nat) : State :=
  let c := s.sentCh k
  s.setSent k { c with errs := KMap.set c.errs kind ((KMap.get c.errs kind 0 + 1) % 2 ^ 32) }

/-- The slow channel takes a status nibble (R622, R623). -/
def State.sentSlow (s : State) (k nib : Nat) : State :=
  let fmt := s.nat Obj.serialFormat (k - 1)
  let c := s.sentCh k
  if fmt = 0 then s
  else
    let len := if fmt = 1 then 16 else 18
    let l := c.asm ++ [nib]
    let l := l.drop (l.length - len)
    let done := if fmt = 1 then (shortMessage l).map (fun m => (0, m)) else enhancedMessage l
    match done with
    | none => s.setSent k { c with asm := l }
    | some (form, id, data, ok) =>
      if ok then s.setSent k { c with asm := [], slow := KMap.set c.slow id (2 ^ 31 + form * 2 ^ 29 + data) }
      else (s.setSent k { c with asm := [] }).sentError k 6

/-- A valid frame's values (R617 to R619). -/
def State.sentValid (s : State) (k : Nat) (v : List Nat) : State :=
  let n := s.nat Obj.dataNibbles (k - 1)
  let data := ((v.drop 1).take n).foldl (fun a x => a * 16 + x) 0
  let f1 := min (s.nat Obj.fast1Bits (k - 1)) (4 * n)
  let raw1 := data / 2 ^ (4 * n - f1)
  let raw2 := data % 2 ^ (4 * n - f1)
  let num : Int := if s.flag Obj.fast1Signed (k - 1) then signedOf f1 raw1 else raw1
  let eng := (num : Rat) * s.rat Obj.sentGain (k - 1) + s.rat Obj.sentOffset (k - 1)
  let val := roundHalfAway (eng / s.rat Obj.sentLsb (k - 1))
  let beyond := decide (val < -8388608) || decide (8388607 < val)
  let diag := (v.headD 0) % 4 &&& s.nat Obj.sentDiagMask (k - 1) != 0
  let c := s.sentCh k
  let clip := beyond || diag
  let s := s.setSent k { c with
    statusNib := v.headD 0, timedOut := false, lastValid := s.now, okSec := c.okSec + 1,
    value := clampI (-8388608) 8388607 val, clip := clip, seq := (c.seq + 1) % 4,
    diag := diag, clipSince := if diag then some (c.clipSince.getD s.now) else none }
  ((((s.setRat Obj.sentValue eng (k - 1)).setNat Obj.sentRawFast1 raw1 (k - 1)).setNat Obj.sentRawFast2 raw2 (k - 1)).bump
    Obj.sentFramesOk (k - 1)).sentSlow k (v.headD 0)

/-- Whether a channel takes frames: enabled, supplied, out of warm-up, its pin connected (R619, R621, R624). -/
def State.sentLive (s : State) (k : Nat) : Bool :=
  s.sentOn k && KMap.get s.supply.sentOn k false && (s.sentCh k).warmUntil.isNone && !(s.sentCh k).loopback

/-- SENT_FRAME (R612 to R619, R622): checked in the order of R616, decoded or counted. -/
def execSentFrame (t k : Nat) (pulses : List Nat) (s : State) : Host.Outcome State Fault Refusal :=
  let s := s.tick t
  if !s.sentLive k then .next s
  else
    let r := s.sentCheck k pulses
    let cal := pulses.headD 0
    let c := s.sentCh k
    let accepted := match r with | .error 0 => false | _ => true
    let s := s.setSent k { c with prev := if accepted then some cal else none }
    match r with
    | .error e =>
      let s := (s.sentError k e).sentDiscard k
      let c := s.sentCh k
      .next (s.setSent k { c with badSec := c.badSec + 1 })
    | .ok v => .next (s.sentValid k v)

/-- SENT_TIMEOUT (R619, R620, R622). -/
def execSentTimeout (t k : Nat) (s : State) : Host.Outcome State Fault Refusal :=
  let s := s.tick t
  let c := s.sentCh k
  if s.sentLive k ∧ !c.timedOut ∧ c.lastValid + s.nat Obj.sentTimeout (k - 1) * 1000000 ≤ s.now then
    .next ((((s.setSent k { c with timedOut := true }).setRat Obj.sentValue 0 (k - 1)).sentError k 7).sentDiscard k)
  else .next s

/-- SENT_WARMUP_END (R621): frames are accepted from now on. -/
def execSentWarmupEnd (t k : Nat) (s : State) : Host.Outcome State Fault Refusal :=
  let s := s.tick t
  let c := s.sentCh k
  match c.warmUntil with
  | some e => if e ≤ s.now then .next (s.setSent k { c with warmUntil := none, lastValid := s.now }) else .next s
  | none => .next s

/-- A channel's supply goes on and its warm-up starts (R621). -/
def State.sentSupplyOn (s : State) (k : Nat) : State :=
  let s := { s with supply := { s.supply with sentOn := KMap.set s.supply.sentOn k true } }
  let c := s.sentCh k
  (s.setSent k { c with
    warmUntil := some (s.now + s.nat Obj.sentWarmup (k - 1) * 1000000), timedOut := false, prev := none, asm := [], clipSince := none }).setRat
      Obj.sentValue 0 (k - 1)

/-- A channel's supply goes off (R89, R619, R621). -/
def State.sentSupplyOff (s : State) (k : Nat) : State :=
  let c := s.sentCh k
  ({ s with supply := { s.supply with sentOn := KMap.del s.supply.sentOn k } }.setSent k
    { c with warmUntil := none, timedOut := false, prev := none, asm := [], clipSince := none }).setRat Obj.sentValue 0 (k - 1)

/-- What a stored write of SentEnable does (R89, R621, R623): the supply, the cut and its retries, the slow table. -/
def State.sentEnabled (s : State) (k : Nat) (on : Bool) : State :=
  let s := { s with supply := { s.supply with sentCut := KMap.del s.supply.sentCut k, sentRetryAt := KMap.del s.supply.sentRetryAt k } }
  let s := (s.lower 0x78).lower (0x6F + k)
  if on then
    let c := s.sentCh k
    let s := s.setSent k { c with slow := [], okSec := 0, badSec := 0 }
    if s.md.mode.runs && !s.supply.loadsShed then s.sentSupplyOn k else s
  else s.sentSupplyOff k

/-- SENT_ENABLE (R621): the write of an RWP object, which takes effect once pack memory holds it (R541). -/
def execSentEnable (t : Nat) (q : PxReq) (k v : Nat) (s : State) : Host.Outcome State Fault Refusal :=
  .next ((s.tick t).pxWriteNat q Obj.sentEnable (k - 1) 0 v (fun _ => .defer))

/-- SENT_CHANNEL_CHECK (R625): once a second, the channel source follows its three conditions. -/
def execSentChannelCheck (t k : Nat) (s : State) : Host.Outcome State Fault Refusal :=
  let s := s.tick t
  let c := s.sentCh k
  let live := s.sentOn k && c.warmUntil.isNone
  let clip := match c.clipSince with | some e => decide (e + 1000000000 ≤ s.now) | none => false
  let many := decide (c.okSec + c.badSec < 10 * c.badSec)
  let s := s.setSent k { c with okSec := 0, badSec := 0 }
  .next (s.follow (0x6F + k) (live && (c.timedOut || clip || many)))

/-- The point word of a channel (R618, R619). -/
def State.sentWord (s : State) (k : Nat) : Nat :=
  let c := s.sentCh k
  let ok := s.sentOn k && KMap.get s.supply.sentOn k false && c.warmUntil.isNone && !c.timedOut
  if ok then tagWord c.value c.seq false false false false c.clip false else tagWord 0 c.seq false false false false false true

/-- SentStatus (R627). -/
def State.sentStatus (s : State) (k : Nat) : Nat :=
  let c := s.sentCh k
  c.statusNib + 16 * packBits [s.sentOn k && c.warmUntil.isNone && !c.timedOut && KMap.get s.supply.sentOn k false, c.warmUntil.isSome,
    !c.asm.isEmpty, c.diag, c.timedOut, s.sentOn k && !KMap.get s.supply.sentOn k false, c.loopback]

end Sys2Proof.Machine
end

