-- ==== Sys2Proof/Machine/Points.lean ====
section
/-! DEFINITION. The local points and the publication area (R559 to R561). -/
namespace Sys2Proof.Machine

/-- A point word without a value (R560). -/
def noPoint : Nat := 1

/-- A point word of a value in its count unit. -/
def pointOf (v : Int) : Nat := tagWord (clampI (-8388608) 8388607 v) 0 false false false false false false

/-- The word of a cell: 0 unused, SETTLE before its first value (R560). -/
def State.cellPoint (s : State) (n : Nat) : Nat :=
  if s.cellCount < n then 0 else if (s.chan n).measured then (s.chan n).word else noPoint

/-- The word of an NTC in 0.01 °C (R559, R560): excluded, it carries CLIP, clamped to the cold end where it is open and to
the hot end where it is shorted. DESIGN CHOICE, log entry 80. -/
def State.ntcPoint (s : State) (k : Nat) : Nat :=
  match s.ntcUv k with
  | none => noPoint
  | some uv =>
    if ntcBad uv then tagWord (if 2450000 < uv then -4000 else 12500) 0 false false false false true false
    else pointOf (clampI (-4000) 12500 (roundHalfAway (Config.ntcTemp uv * 100)))

/-- The measured populated cells by word value. -/
def State.cellWords (s : State) : List Nat := (s.cells.filter (fun n => (s.chan n).measured)).map (fun n => (s.chan n).word)

/-- The word of a value in µV shown in 100 µV, or none. -/
def stackPoint (o : Option Int) : Nat := match o with | some v => pointOf (roundHalfAway ((v : Rat) / 100)) | none => noPoint

/-- The word of local point `p` (R559). -/
def State.point (s : State) (p : Nat) : Nat :=
  if p < 24 then s.cellPoint (p + 1)
  else if p < 40 then s.ntcPoint (p - 23)
  else if p < 48 then s.sentWord (p - 39)
  else match p with
    | 48 => stackPoint s.itg.stackSn
    | 49 => stackPoint s.itg.stackFc
    | 50 => stackPoint s.itg.sumC
    | 51 => (s.cellWords.foldl (fun a w => match a with
        | none => some w
        | some b => if wordValue w < wordValue b then some w else some b) none).getD noPoint
    | 52 => (s.cellWords.foldl (fun a w => match a with
        | none => some w
        | some b => if wordValue b < wordValue w then some w else some b) none).getD noPoint
    | 53 => pointOf (roundHalfAway (s.rat Obj.hotspotTemp * 100))
    | 54 => pointOf (roundHalfAway (s.rat Obj.derateFraction * 10000))
    | 55 => KMap.get s.aux.words 0x61 noPoint
    | 56 => pointOf (roundHalfAway (s.bal.transferAux * 1000))
    | 57 => pointOf (roundHalfAway (s.rat Obj.packHeat * 100))
    | 58 | 59 | 60 | 61 => pointOf (roundHalfAway (s.rat Obj.zoneCoreTemp 0 (p - 58) * 100))
    | 62 => pointOf (roundHalfAway (s.rat Obj.coolantRefTemp * 100))
    | _ =>
      let l := s.cells.map s.socShown
      pointOf (roundHalfAway (sumQ l / (l.length : Nat) * 100))

/-- The area is rewritten once per precision window (R561). -/
def State.publish (s : State) (instant : Nat) : State :=
  { s with px := { s.px with
      pubWindow := s.px.pubWindow + 1, pubGen := (s.px.pubGen + 1) % 65536, pubInstant := instant,
      pub := (List.range 64).map (fun p => (p, s.point p)) } }

/-- PubArea (R560). -/
def State.pubBytes (s : State) : Bytes :=
  let h := (if s.px.pubWindow = 0 then 0 else 2 ^ 31) + s.px.pubGen
  leBytes 4 h ++ leBytes 4 s.px.pubWindow ++ leBytes 8 s.px.pubInstant
    ++ (List.range 64).flatMap (fun p => leBytes 4 (KMap.get s.px.pub p 0)) ++ leBytes 4 h

end Sys2Proof.Machine
end

