-- ==== Sys2Proof/Machine/Precision.lean ====
section
/-! DEFINITION. Precision cell measurement: the reference cross-check, fences, overloads and the three outputs of every
channel (R187 to R208), with the head's current and tap channels (R321 to R331). -/
namespace Sys2Proof.Machine

/-- A half-stack's precision converter fenced until start-up (R188 to R190), the source raised with what it breaks
(R582); a fence without the auxiliary converter leaves the half unmeasured (R234). -/
def State.fenceHalf (s : State) (h2 : Bool) (src : Nat) : State :=
  let fenced := if h2 then { s with meas := { s.meas with h2Fenced := true } } else { s with meas := { s.meas with h1Fenced := true } }
  let lost := s.minSet && !fenced.minSet
  let s := if lost && !s.flt.minSetLost then
      let s := { fenced with flt := { fenced.flt with minSetLost := true } }
      (s.raise 4).raise src
    else fenced.raise src
  if s.aux.failed then s.enterSafe else s

/-- One decision of R188 counted: it takes effect on three consecutive checks. -/
def refDecision (d1 d2 : Rat) (refsBad : Bool) : Nat :=
  let delta := absQ (d1 - d2)
  let hi := maxQ (absQ d1) (absQ d2)
  let lo := minQ (absQ d1) (absQ d2)
  if delta ≤ 12 then (if 200 < lo then 1 else 0)
  else if !refsBad && decide (lo + 6 ≤ hi) then (if absQ d2 < absQ d1 then 2 else 3) else 4

/-- REF_CROSS_CHECK (R187, R188, R190): d1 and d2 in ppm, as converted. -/
def execRefCrossCheck (t : Nat) (d1 d2 : Rat) (s : State) : Host.Outcome State Fault Refusal :=
  let s := s.tick t
  if !s.md.mode.runs then .next s
  else
    let s := ((s.setRat Obj.refDev1 d1).setRat Obj.refDev2 d2).setRat Obj.refDelta (d1 - d2)
    let k := refDecision d1 d2 s.meas.refsBad
    let n := KMap.get s.meas.refRuns k 0 + 1
    let s := { s with meas := { s.meas with refRuns := [(k, n)] } }
    if n < 3 then .next s
    else match k with
      | 1 => .next ({ s with meas := { s.meas with refsBad := true } }.raise 0x24)
      | 2 => .next (if s.meas.h1Fenced then s else s.fenceHalf false 0x25)
      | 3 => .next (if s.meas.h2Fenced then s else s.fenceHalf true 0x25)
      | 4 => .next ({ s with meas := { s.meas with refUndec := true } }.raise 0x26)
      | _ => .next s

/-- PRECISION_CHANNEL_FAIL (R189, R190). -/
def execPrecisionChannelFail (t cell : Nat) (s : State) : Host.Outcome State Fault Refusal :=
  let s := s.tick t
  if !s.meas.powered || s.cellFenced cell then .next s else .next (s.fenceHalf (12 < cell) 0x27)

/-- MODULATOR_OVERLOAD (R206, R209): it has lasted from `since` until now. -/
def execModulatorOverload (t cell since : Nat) (s : State) : Host.Outcome State Fault Refusal :=
  let s := s.tick t
  let c := s.chan cell
  let now := s.ringTime
  let span : TagSpan := { start := now - (s.now - since), stop := some now }
  .next ((s.setChan cell { c with clip := (span :: c.clip).take 8 }).settle [cell] false now)

/-- The end of the window in progress and the turn number there (R192, R196, R198). -/
def State.windowEnd (s : State) : Nat × Nat :=
  if s.meas.localWin then (s.meas.winStart + 1000000, 0)
  else match s.spinRec s.ringTime with
    | none => (s.meas.winStart + 1000000, s.meas.winTurn)
    | some r => (SpinnerRec.turnTime r (s.meas.winTurn + s.meas.m), (s.meas.winTurn + s.meas.m) % 65536)

/-- A word usable in the dual-path check (R268): no SETTLE, CLIP, BAL, OWT, CAL. -/
def dualUsable (w : Nat) : Bool := bitsOf 4 0 w == 0

/-- The remeasurements of a cell that the window holds (R245). -/
def State.pawnIn (s : State) (d n a b : Nat) : List PawnPend :=
  (s.dev d).pend.filter (fun e => 12 * d + e.pos == n && decide (a ≤ e.instant) && decide (e.instant < b))

/-- The precision output of one cell (R190, R202 to R208, R245, R268, R274). -/
def State.precisionOut (s : State) (a b n : Nat) (uv : Rat) : State :=
  let d := if n ≤ 12 then 0 else 1
  let pend := s.pawnIn d n a b
  let c := s.chan n
  let r := s.makeWord c c.prec n uv a b (!pend.isEmpty)
  let w := r.1
  let ok := dualUsable w
  let s := s.setChan n { c with
    prec := r.2, all := c.all + 1, count := if ok then c.count + 1 else c.count, sum := if ok then c.sum + wordValue w else c.sum }
  let s := if wordBit w 1 then s.bump Obj.clipCount else s
  let mid := (a + b) / 2
  let s := if s.itg.subst.contains n then s else (s.publishCell n w 0 mid).estPrecision n w a b
  let s := s.recPrecision n w mid
  let s := { s with bal := { s.bal with vSum := s.bal.vSum + wordValue w, vCount := s.bal.vCount + 1 } }
  let x := s.dev d
  let s := s.setDev d { x with pend := x.pend.filter (fun e => !pend.contains e) }
  pend.foldl (fun (st : State) e => st.pawnCompare d e w) s

/-- Remeasurements whose window has gone without a partner give SKIP (R245). -/
def State.pawnStale (s : State) (b d : Nat) : State :=
  let x := s.dev d
  let old := x.pend.filter (fun e => decide (e.instant < b))
  let s := s.setDev d { x with pend := x.pend.filter (fun e => decide (b ≤ e.instant)) }
  old.foldl (fun (st : State) e => st.pawnSkip d e.pos) s

/-- The PRECISION slots of a window: part 0 and part 1 under one SEQ (R460, R485, R492). -/
def State.sendPrecision (s : State) (instant : Nat) : State :=
  let w := fun (n : Nat) => if n ≤ s.cellCount then (s.chan n).word else 0
  let q := s.takeSeq 3 2
  (q.2.sendOne 3 2 q.1 0 .eastAll (wordsBytes ((List.range 13).map (fun k => w (k + 1))))).sendOne 3 2 q.1 1 .eastAll
    (wordsBytes ((List.range 11).map (fun k => w (k + 14))) ++ leBytes 8 instant)

/-- The cells of the fenced halves, as entries of the fallback (R233). -/
def State.fallbackEntries (s : State) : List AuxEntry :=
  (s.cells.filter s.cellFenced).map (fun n => s.spEntry n n 16 4)

/-- PRECISION_WINDOW_END (R191, R192, R198, R202 to R208, R217, R233, R245, R268, R492, R561, R630): the outputs of the window
that ends, by channel; a window that has not reached its end yields none. -/
def execPrecisionWindowEnd (t : Nat) (raw : List ChanRaw) (s : State) : Host.Outcome State Fault Refusal :=
  let s := s.tick t
  let e := s.windowEnd
  if !s.meas.powered || !s.md.mode.runs || s.ringTime < e.1 then .next s
  else
    let a := s.meas.winStart
    let b := e.1
    let mid := (a + b) / 2
    let use := raw.filter (fun x => 1 ≤ x.cell && x.cell ≤ s.cellCount && !s.cellFenced x.cell)
    let s := use.foldl (fun (st : State) x => st.precisionOut a b x.cell x.uv) s
    let s := (s.pawnStale b 0).pawnStale b 1
    let s := { s with meas := { s.meas with winStart := b, winTurn := e.2 } }
    let s := (s.setNat Obj.precisionTurns s.meas.m).setRat Obj.precisionRate (if b ≤ a then 1000 else 1000000000 / ((b - a : Nat) : Rat))
    .next (((s.sendPrecision mid).publish mid).auxRequest .fallback s.fallbackEntries)

/-- Half-widths in ns of the spans of wideband and standard outputs about their represented instant (R191). -/
def wideHalf : Nat := 128711
def stdHalf : Nat := 755664

/-- The represented instant of a grid index (R202, R490). -/
def wideAt (j : Nat) : Nat := j * 390625 / 100

/-- The raw value of a cell in a list. -/
def rawOf (raw : List ChanRaw) (n : Nat) : Option Rat := (raw.find? (fun x => x.cell == n)).map (·.uv)

/-- A word put into a 13-word buffer at grid index `j` (R490): the words of the slot, once the thirteenth is there and the
other twelve came before it. -/
def fill13 (buf : List Nat) (j w : Nat) : List Nat × Option (List Nat) :=
  let l := if j % 13 = 0 then [w] else if buf.length = j % 13 then buf ++ [w] else []
  if l.length = 13 then ([], some l) else (l, none)

/-- One wideband output of a cell (R191, R203, R489, R490), streamed while StreamWideband is 1 and offered to the own
capture store (R639). -/
def State.wideOut (s : State) (j n : Nat) (uv : Rat) : State :=
  let at0 := wideAt j
  let c := s.chan n
  let r := s.makeWord c c.wide n uv (at0 - wideHalf) (at0 + wideHalf) false
  let s := (s.setChan n { c with wide := r.2 }).estWide n r.1 at0
  let f := fill13 (KMap.get s.meas.wideBuf n []) j r.1
  let s := { s with meas := { s.meas with wideBuf := KMap.set s.meas.wideBuf n f.1 } }
  match f.2 with
  | some l =>
    if s.flag Obj.streamWideband then
      let seq := (j / 13) % 65536
      let s := s.sendOne 4 1 seq n .eastAll (wordsBytes l)
      s.captureWide s.nodeId (s.hdr 4 1 seq n false true 63) (wordsBytes l)
    else s
  | none => s

/-- The head's current on both channels (R322), and CLIP of each (R323). -/
def State.shuntAmps (s : State) (x : TapRaw) : Rat := x.volts / s.rat Obj.shuntResistance
def State.fluxAmps (s : State) (x : TapRaw) : Rat := x.volts * s.rat Obj.fluxGain
def shuntClip (x : TapRaw) : Bool := x.clip || decide (755 / 10000 < absQ x.volts)
def fluxClip (x : TapRaw) : Bool := x.clip || decide (101 / 10 < absQ x.volts)

/-- The channel in use (R328): 0 shunt, 1 fluxgate, 2 none. -/
def State.currentChannel (s : State) : Nat :=
  if s.hio.shuntFault && s.hio.fluxFault then 2 else if s.hio.shuntFault then 1 else if s.hio.fluxFault then 0
  else s.nat Obj.currentPrimary

/-- A ripple line at the end of a turn (R165): the lock of source 2. -/
def State.takeRipple (s : State) (f amp : Rat) : State :=
  let min0 := s.rat Obj.rippleMinAmplitude
  let up := if min0 ≤ amp then s.tm.rippleUp + 1 else 0
  let down := if amp < min0 / 2 then s.tm.rippleDown + 1 else 0
  let inBand := decide (100 ≤ f) && decide (f ≤ 50000)
  let s := { s with tm := { s.tm with rippleFreq := f, rippleUp := up, rippleDown := down } }
  if inBand && decide (64 ≤ up) then s.lockSource 2 true else if 100 ≤ down then s.lockSource 2 false else s

/-- The head's current output (R321, R326, R328, R489, R490): the word of the channel in use, sent, counted and captured
thirteen at a time. -/
def State.currentOut (s : State) (j : Nat) (x : CurrentRaw) : State :=
  let ch := s.currentChannel
  let amps := if ch = 0 then s.shuntAmps x.shunt else s.fluxAmps x.flux
  let clip := if ch = 0 then shuntClip x.shunt else fluxClip x.flux
  let s := match x.ripple with | some r => s.takeRipple r.1 r.2 | none => s
  if ch = 2 then s
  else
    let c := s.chan 0
    let v := clampI (-8388608) 8388607 (roundHalfAway (amps * 1000))
    let w := tagWord v c.wide.seq false false false false clip s.meas.currentChanged
    let s := s.setChan 0 { c with wide := { c.wide with seq := (c.wide.seq + 1) % 4 } }
    let s := { s.setRat Obj.stringCurrent amps with meas := { s.meas with currentChanged := false } }
    let f := fill13 (KMap.get s.meas.wideBuf 0 []) j w
    let s := { s with meas := { s.meas with wideBuf := KMap.set s.meas.wideBuf 0 f.1 } }
    match f.2 with
    | some l =>
      let seq := (j / 13) % 65536
      let s := s.sendOne 3 1 seq 0x80 .eastAll (wordsBytes l)
      (s.takeCurrent (j - 12) l).captureCurrentSlot (s.hdr 3 1 seq 0x80 false true 63) (wordsBytes l)
    | none => s

/-- WIDEBAND_OUTPUT (R165, R191, R202 to R207, R321, R326, R489, R490): grid index `j`, once its group delay is over. -/
def execWidebandOutput (t j : Nat) (raw : List ChanRaw) (cur : Option CurrentRaw) (s : State) : Host.Outcome State Fault Refusal :=
  let s := s.tick t
  if !s.md.mode.runs || s.ringTime < wideAt j + wideHalf then .next s
  else
    let s := s.cells.foldl (fun (st : State) n =>
      match rawOf raw n with
      | some uv => if st.cellFenced n || !st.meas.powered then st else st.wideOut j n uv
      | none => st) s
    match cur with
    | some x => .next (if s.isHead then s.currentOut j x else s)
    | none => .next s

/-- One standard output of a cell (R191, R203, R489, R490). -/
def State.stdOut (s : State) (j n : Nat) (uv : Rat) : State :=
  let at0 := j * 125000
  let c := s.chan n
  let r := s.makeWord c c.std n uv (at0 - stdHalf) (at0 + stdHalf) false
  let s := (s.setChan n { c with std := r.2 }).estStandard n r.1 at0
  let f := fill13 (KMap.get s.meas.stdBuf n []) j r.1
  let s := { s with meas := { s.meas with stdBuf := KMap.set s.meas.stdBuf n f.1 } }
  match f.2 with
  | some l => if s.flag Obj.streamStandard then s.sendOne 3 3 ((j / 13) % 65536) n .eastAll (wordsBytes l) else s
  | none => s

/-- The head's standard outputs (R322, R329 to R331): both currents; the taps, unless they carry SETTLE. -/
def State.tapsOut (s : State) (j : Nat) (x : TapsRaw) : State :=
  let s := (s.setRat Obj.shuntCurrent (s.shuntAmps x.shunt)).setRat Obj.fluxCurrent (s.fluxAmps x.flux)
  if !s.hio.tapsOn then s
  else
    let biased := decide (j * 125000 - stdHalf < s.meas.biasUntil)
    let settling := decide (0 < s.meas.tapSettle)
    let s := { s with meas := { s.meas with tapSettle := s.meas.tapSettle - 1 } }
    if biased || settling then s
    else ((s.setRat Obj.stringVoltage x.stringV.volts).setRat Obj.linkVoltage x.linkV.volts).setRat Obj.mainPosVoltage
      (x.stringV.volts - x.linkV.volts)

/-- STANDARD_OUTPUT (R191, R202 to R207, R321, R329, R489, R490): grid index `j`, once its group delay is over. -/
def execStandardOutput (t j : Nat) (raw : List ChanRaw) (taps : Option TapsRaw) (s : State) : Host.Outcome State Fault Refusal :=
  let s := s.tick t
  if !s.md.mode.runs || s.ringTime < j * 125000 + stdHalf then .next s
  else
    let s := s.cells.foldl (fun (st : State) n =>
      match rawOf raw n with
      | some uv => if st.cellFenced n || !st.meas.powered then st else st.stdOut j n uv
      | none => st) s
    match taps with
    | some x => .next (if s.isHead then s.tapsOut j x else s)
    | none => .next s

end Sys2Proof.Machine
end

