-- ==== Sys2Proof/Machine/BalOps.lean ====
section
/-! DEFINITION. Operations of balancing: where it may run (R292), inhibits (R293), bleeders (R299, R313), set-points (R294,
R295), plan and report records (R303, R306 to R308), the charge books of a sample (R291, R314, R315). -/
namespace Sys2Proof.Machine

/-- Whether flyback and transfer converters may run (R318). -/
def State.convAllowed (s : State) : Bool := s.balAllowed && !s.bal.busFault

/-- The flyback converter of a cell (R286). -/
def flyOf (n : Nat) : Nat := (n + 3) / 4

/-- A converter's record. -/
def State.fly (s : State) (k : Nat) : FlybackSt := KMap.get s.bal.fly k {}

/-- The state with a converter's record replaced. -/
def State.setFly (s : State) (k : Nat) (f : FlybackSt) : State := { s with bal := { s.bal with fly := KMap.set s.bal.fly k f } }

/-- The voltage and temperature inhibits of R293, with 20 mV of hysteresis on the latest CellVoltage. -/
def State.balInhibits (s : State) : State :=
  let v := fun (n : Nat) => wordValue (s.chan n).word
  let seen := s.cells.filter (fun n => (s.chan n).measured)
  let hi := s.rat Obj.balMaxCellVoltage * 1000000
  let lo := s.rat Obj.balMinCellVoltage * 1000000
  let cold := match minOf (s.ntcs.map (·.2)) with
    | some t => decide (t < s.rat Obj.balChargeTempMin)
    | none => false
  { s with bal := { s.bal with
      noCharge := seen.filter (fun n => decide (hi < (v n : Int)) || (s.bal.noCharge.contains n && decide (hi - 20000 < (v n : Int))))
      noDischarge := seen.filter (fun n => decide ((v n : Int) < lo) || (s.bal.noDischarge.contains n && decide ((v n : Int) < lo + 20000)))
      tempInhibit := cold } }

/-- Whether all balancing of a cell is inhibited (R273, R293). -/
def State.balBarred (s : State) (n : Nat) : Bool := s.itg.inhibit.contains n || s.cellFenced n

/-- Whether a cell may be charged, or discharged (R288, R293). -/
def State.mayMove (s : State) (n : Nat) (charge : Bool) : Bool :=
  !s.balBarred n && (if charge then !s.bal.noCharge.contains n && !s.bal.tempInhibit && !s.bal.underStop
    else !s.bal.noDischarge.contains n && !s.bal.overStop)

/-- BalInhibitMask (R273, R293): cells with all balancing inhibited, and those inhibited by voltage. -/
def State.inhibitMask (s : State) : Nat :=
  packBits ((List.range 24).map (fun k =>
    s.itg.inhibit.contains (k + 1) || s.bal.noCharge.contains (k + 1) || s.bal.noDischarge.contains (k + 1)))

/-- Whether a flyback converter is on for a cell. -/
def State.flyOn (s : State) (n : Nat) : Bool := let f := s.fly (flyOf n); f.on && f.sel == n

/-- Whether a cell's bleeder is to be on (R150, R299, R313, R317). -/
def State.bleedWanted (s : State) (n : Nat) : Bool :=
  let t := s.target n
  let plan := decide (t < 0) && !s.bal.reached.contains n
    && (decide (-t ≤ s.rat Obj.balFineTrim * 3600000) || s.flag Obj.balPassiveAssist)
  let phase := decide (((s.ringTime % 1000000000 : Nat) : Rat) < s.derate * 1000000000)
  let bank := if n ≤ 12 then !s.bal.bank1Off else !s.bal.bank2Off
  s.balAllowed && bank && phase && !s.flyOn n && !s.balBarred n && !s.bal.noDischarge.contains n && (plan || s.legacyAsks n)

/-- The magnitude of a converter's set-point before R295 (R294 items 1 to 3 and 5). -/
def State.flyLimit (s : State) (f : FlybackSt) : Rat :=
  if !f.on || s.target f.sel = 0 || s.bal.reached.contains f.sel || !s.mayMove f.sel (decide (0 < s.target f.sel)) then 0
  else minQ (s.rat Obj.flybackCurrentMax) (3 * s.derate)

/-- The factor that brings the difference of two neighbours' currents to 4.0 A (R295): flyback parts `a`, `b`, bleeder
parts `p`, `q`. -/
def r295Factor (a b p q : Rat) : Option Rat :=
  let d := a - b
  let e := p - q
  if absQ (d + e) ≤ 4 ∨ d = 0 then none else some ((4 - (if 0 < d then e else -e)) / absQ d)

/-- R295 at one force wire: the flyback set-points (signed, by cell) after scaling, and the wires at which it acted. -/
def State.scaleWire (s : State) (x : KMap Rat × List Nat) (k : Nat) : KMap Rat × List Nat :=
  let bleed := fun (n : Nat) => if s.bal.bleeders.contains n then (-1 / 4 : Rat) else 0
  let i := fun (n : Nat) => KMap.get x.1 n 0
  match r295Factor (i k) (i (k + 1)) (bleed k) (bleed (k + 1)) with
  | none => x
  | some f =>
    let f := clampQ 0 1 f
    (KMap.set (KMap.set x.1 k (i k * f)) (k + 1) (i (k + 1) * f), x.2 ++ [k])

/-- The set-points of R294 and R295; BalLimited counts each wire at which scaling begins. -/
def State.flySetpoints (s : State) : State :=
  let raw : KMap Rat := s.bal.fly.foldl (fun (m : KMap Rat) e =>
    let l := s.flyLimit e.2
    if l = 0 then m else KMap.set m e.2.sel (if 0 < s.target e.2.sel then l else -l)) []
  let r := (List.range (s.cellCount + 1)).foldl s.scaleWire (raw, [])
  let fresh := r.2.filter (fun k => !s.bal.limited.contains k)
  let s := { s with bal := { s.bal with
    limited := r.2,
    fly := s.bal.fly.map (fun (e : Nat × FlybackSt) =>
      let v := if e.2.on then KMap.get r.1 e.2.sel 0 else 0
      (e.1, { e.2 with limit := absQ v, charge := if v = 0 then e.2.charge else decide (0 < v) })) } }
  s.bumpBy Obj.balLimited fresh.length

/-- Balancing brought up to date with plan, lease, inhibits and derating (R292 to R295, R299, R302): what is not allowed is
off, bleeders and set-points follow. -/
def State.balUpdate (s : State) : State :=
  let s := s.balInhibits
  let s := if s.balAllowed then s else s.stopBalancing
  let s := if s.convAllowed then s else
    { s with bal := { s.bal with
        transferOn := false, transferCmd := 0,
        fly := s.bal.fly.map (fun (e : Nat × FlybackSt) => (e.1, { e.2 with on := false, sel := 0, limit := 0 })) } }
  let s := { s with bal := { s.bal with bleeders := s.cells.filter s.bleedWanted } }
  s.flySetpoints.flowUpdate

/-- TARGET of a plan record for a cell, in 0.1 mAh (R303). -/
def planTarget (b : Bytes) (n : Nat) : Int := signedOf 16 (fieldAt (14 + 2 * n) 2 b)

/-- Whether a plan record is one this module takes (R306): its own NODE_ID, every field in range. -/
def State.planOk (s : State) (b : Bytes) : Bool :=
  let lease := fieldAt 4 2 b
  let tr := signedOf 16 (fieldAt 6 2 b)
  decide (b.length = 64) && decide (fieldAt 2 1 b = s.nodeId) && decide (fieldAt 3 1 b ≤ 3) && decide (1 ≤ lease) && decide (lease ≤ 600)
    && decide (-400 ≤ tr) && decide (tr ≤ 400) && (List.range 24).all (fun k => decide (k + 1 ≤ s.cellCount) || planTarget b (k + 1) == 0)

/-- The report on the plan in force (R308). -/
def State.reportRecord (s : State) (seq : Nat) : Bytes :=
  let secs : Rat := ((s.now - s.bal.planAt : Nat) : Rat) / 1000000000
  let mean := if secs = 0 then 0 else s.bal.xferJ / secs
  leBytes 2 seq ++ leBytes 1 s.nodeId ++ leBytes 1 (packBits [!s.bal.leaseBroken, decide (s.derate < 1), s.bal.books, s.xferStop])
    ++ leBytes 1 (s.derate * 255).floor.toNat ++ [0] ++ leInt 2 (clampI (-32768) 32767 (roundHalfAway (mean * 10))) ++ leBytes 8 s.ringTime
    ++ (List.range 24).flatMap (fun k => leInt 2 (clampI (-32768) 32767 (roundHalfAway (KMap.get s.bal.done (k + 1) 0 / 360000))))

/-- A report taken by the head (R301, R302): TRANSFER_ACT and F of the node. -/
def State.keepReport (s : State) (b : Bytes) : State :=
  let node := fieldAt 2 1 b
  { s with bal := { s.bal with
      xferAct := KMap.set s.bal.xferAct node (signedOf 16 (fieldAt 6 2 b))
      derates := KMap.set s.bal.derates node (((fieldAt 4 1 b : Nat) : Rat) / 255) } }

/-- Sends the report on the plan that is being replaced (R308); the head takes its own. -/
def State.sendReport (s : State) : State :=
  match s.bal.planSeq with
  | none => s
  | some seq =>
    let b := s.reportRecord seq
    let s := s.setBytes Obj.balReport b
    if s.isHead then s.keepReport b else s.sendSegs 2 2 (.square 0) [b.take 52, b.drop 52]

/-- An accepted plan record (R303, R306 to R308, R310): report, targets, transfer limit, lease. -/
def State.acceptPlan (s : State) (b : Bytes) : State :=
  let s := s.sendReport
  let targets : KMap Rat := (List.range s.cellCount).foldl (fun (m : KMap Rat) k =>
    let v := planTarget b (k + 1)
    if v = 0 then m else KMap.set m (k + 1) ((v : Rat) * 360000)) []
  let flags := fieldAt 3 1 b
  let s := { s with bal := { s.bal with
    targets := targets, reached := [], transferLimit := signedOf 16 (fieldAt 6 2 b),
    leaseEnd := some (s.now + fieldAt 4 2 b * 1000000000), leaseExp := false, leaseBroken := false,
    stop := bitsOf 0 0 flags == 1, legacyOk := bitsOf 1 1 flags == 1,
    planSeq := some (fieldAt 0 2 b), planAt := s.now, done := [], xferJ := 0 } }
  ((s.setBytes Obj.balPlanLast b).lower 0x38).balUpdate

/-- A discarded plan record (R306, R318). -/
def State.rejectPlan (s : State) : State := (s.bump Obj.planRejected).raiseEvent 0x3E

/-- The shares of one sample of 50 µs in the books (R291, R314, R315). -/
structure BookShare where
  qOut : Rat := 0
  qIn : Rat := 0
  loss : Rat := 0

/-- One cell's charge of a sample of 50 µs (R300, R314): BalCharge, DONE, the remaining target, which is reached where it
gets to zero or changes sign. -/
def State.bookCell (s : State) (n : Nat) (amps : Rat) : State :=
  let q := amps * 50
  let old := s.target n
  let rest := old - q
  let hit := old ≠ 0 && q ≠ 0 && (rest == 0 || decide (0 < old) != decide (0 < rest))
  { s with bal := { s.bal with
      amps := KMap.set s.bal.amps n amps
      charge := if q = 0 then s.bal.charge else KMap.set s.bal.charge n (KMap.get s.bal.charge n 0 + q)
      done := if q = 0 then s.bal.done else KMap.set s.bal.done n (KMap.get s.bal.done n 0 + q)
      targets := if old = 0 || q = 0 then s.bal.targets else KMap.set s.bal.targets n rest
      reached := if hit then setInsert s.bal.reached n else s.bal.reached
      qOut := s.bal.qOut + (if q < 0 then -q else 0)
      qIn := s.bal.qIn + (if 0 < q then q else 0) } }

/-- The measurements of a sample and its books (R288, R291, R314, R315). The measured bleeder current drains its cell. -/
def State.bookSample (s : State) (m : LoopMeas) : State :=
  let flyI := fun (k : Nat) => ((m.fly.getD (k - 1) (0, 0)).1 : Rat)
  let bleedI := fun (n : Nat) => ((m.bleed.find? (fun e => e.1 == n)).map (·.2)).getD 0
  let s := { s with bal := { s.bal with
    busV := m.busV, transferAux := m.transferAux,
    fly := s.bal.fly.map (fun (e : Nat × FlybackSt) => (e.1, { e.2 with icell := if e.2.on then flyI e.1 else 0 })),
    underStop := s.bal.underStop && decide (m.busV < 10), overStop := s.bal.overStop && decide (14 < m.busV) } }
  let lossFly := sumQ (s.bal.fly.map (fun e => if e.2.on then 1 / 10 + 121 / 1000 * e.2.icell * e.2.icell else 0))
  let lossX := if s.bal.transferOn then 1 / 2 + 656 / 10000 * absQ m.transferBus else 0
  let lossB := sumQ (s.cells.map (fun n => (wordValue (s.chan n).word : Int) / 1000000 * bleedI n))
  let s := s.cells.foldl (fun (st : State) n =>
    st.bookCell n ((if st.flyOn n then (st.fly (flyOf n)).icell else 0) - bleedI n)) s
  { s with bal := { s.bal with
      eXfer := s.bal.eXfer + m.transferAux * (50 / 1000000), eLoss := s.bal.eLoss + (lossFly + lossX + lossB) * (50 / 1000000)
      xferJ := s.bal.xferJ + m.transferAux * (50 / 1000000) } }

/-- FlybackState of a converter (R319). -/
def FlybackSt.code (f : FlybackSt) (k : Nat) : Nat :=
  min 1023 (absQ f.icell * 200).floor.toNat + 2 ^ 10 * (if f.sel = 0 then 0 else (f.sel - (4 * k - 3)) % 4)
    + 2 ^ 12 * bitOf f.blanked + 2 ^ 13 * bitOf f.charge + 2 ^ 14 * bitOf f.on + 2 ^ 15 * bitOf f.fenced

end Sys2Proof.Machine
end

