-- ==== Sys2Proof/Machine/Balance.lean ====
section
/-! DEFINITION. Balancing: plans and reports, the lease, cell selection, charge books, plausibility (R251, R285 to R320). -/
namespace Sys2Proof.Machine

/-- F last reported by a node (R301); the head's own is its own. Before a first report F counts as 1 (DESIGN CHOICE, log entry 30). -/
def State.nodeDerate (s : State) (node : Nat) : Rat := if node = s.nodeId then s.derate else KMap.get s.bal.derates node 1

/-- soc in % and cap in Ah of the cells of a node, with their numbers (R301, R407). -/
def State.nodeCells (s : State) (node : Nat) : List (Nat × Rat × Rat) :=
  let a := (KMap.get s.est.socIn node { time := 0, flags := 0, values := [] }).values
  let b := (KMap.get s.est.capIn node { time := 0, flags := 0, values := [] }).values
  ((a.zip b).zipIdx).filterMap (fun e => if e.1.2 = 0 then none else some (e.2 + 1, ((e.1.1 : Nat) : Rat) / 100, ((e.1.2 : Nat) : Rat) / 100))

/-- The modules a plan is computed for (R301): admitted, in STANDBY or ONLINE. -/
def State.planNodes (s : State) : List Nat := (s.ident.members.filter (fun e => e.2.measured)).map (·.1)

/-- active[i] of R301 after an error `e` against the deadband. -/
def activeNext (old : Bool) (e band : Rat) : Bool := if band < absQ e then true else if absQ e ≤ band / 4 then false else old

/-- TARGET of a cell in 0.1 mAh (R301). -/
def planTargetFor (active : Bool) (e cap qmax : Rat) : Int :=
  roundHalfAway (clampQ (-qmax) qmax (if active then -e / 100 * cap * 1000 else 0) * 10)

/-- TRANSFER of a node within R302, given what is left of the positive budget; the value within the bounds is free (PRESUMED, log entry 29). -/
def State.transferFor (s : State) (node : Nat) (left : Int) : Int :=
  if !s.flag Obj.balTransferEnable then 0
  else
    let m := (400 * s.nodeDerate node).floor
    min (clampI (-m) m (Config.transferWish s.bal.computeAt node)) (max 0 left)

/-- What the positive TRANSFER values may come to, in 0.1 W (R302). -/
def State.transferBudget (s : State) : Int :=
  (s.rat Obj.balAuxNetMax * 10).floor + (s.bal.xferAct.map (fun e => if e.2 < 0 then -e.2 else 0)).foldl (· + ·) 0

/-- A plan record (R303, R309). DESIGN CHOICE, log entry 32. -/
def State.planRecord (s : State) (seq node : Nat) (transfer : Int) (targets : List Int) : Bytes :=
  leBytes 2 seq ++ leBytes 1 node ++ leBytes 1 2 ++ leBytes 2 (s.nat Obj.balLease) ++ leInt 2 transfer ++ leBytes 8 s.ringTime
    ++ targets.flatMap (leInt 2)

/-- Whether a ring path to another member's square exists (R305, R704). -/
def State.ringPath (s : State) : Bool := !s.ring.noUnicast && ((s.port .east).usable || (s.port .west).usable)

/-- A block write of a record as the head's own PX request on one bus (R305, R544, R552, R553). -/
def State.pxBlockOut (s : State) (b : Bus) (node tid index sub : Nat) (d : Bytes) : State :=
  let put := fun (st : State) (f : Bytes) => st.sendFrame b (0x640 + node) 2 (fitBytes (canLen f.length) f)
  let s := put s (pxHead 4 tid 18 0 index sub 11 s.nodeId 0 (leBytes 4 0 ++ leBytes 2 d.length))
  let s := (List.range ((d.length + 31) / 32)).foldl (fun (st : State) k =>
    let seg := sliceBytes (32 * k) 32 d
    put st ([5] ++ leBytes 1 tid ++ leBytes 1 (8 + seg.length) ++ [0] ++ leBytes 2 k ++ [0, 0] ++ seg)) s
  put s (pxHead 7 tid 16 0 index sub 11 s.nodeId 0 (leBytes 4 (crc32 d)))

/-- Delivers a plan record to a node (R305); the head takes its own. DEDUCED, log entry 88. -/
def State.deliverPlan (s : State) (node : Nat) (b : Bytes) : State :=
  if node = s.nodeId then (if s.planOk b then s.acceptPlan b else s.rejectPlan)
  else if s.ringPath then s.sendSegs 2 1 (.square (s.member node).square) [b.take 52, b.drop 52]
  else (s.pxBlockOut .ctlA node (fieldAt 0 1 b) 0x3010 1 b).pxBlockOut .ctlB node (fieldAt 0 1 b) 0x3010 1 b

/-- The plan of one node (R301 to R303): hysteresis of its cells, the record, its delivery; the budget that is left. -/
def State.planNode (s : State) (ref : Rat) (x : State × Int) (node : Nat) : State × Int :=
  let st := x.1
  let cells := s.nodeCells node
  let band := s.rat Obj.balDeadband
  let f := s.nodeDerate node
  let qmax := 3 * f * ((s.nat Obj.balPlanPeriod : Nat) : Rat) / 1000 / (36 / 10)
  let key := fun (n : Nat) => node * 32 + n
  let act := fun (c : Nat × Rat × Rat) => activeNext (s.bal.activeCells.contains (key c.1)) (c.2.1 - ref) band
  let active := cells.foldl (fun (l : List Nat) c => if act c then setInsert l (key c.1) else setErase l (key c.1)) st.bal.activeCells
  let targets := (List.range 24).map (fun k => match cells.find? (fun c => c.1 == k + 1) with
    | some c => planTargetFor (act c) (c.2.1 - ref) c.2.2 qmax
    | none => 0)
  let transfer := st.transferFor node x.2
  let seq := (KMap.get st.bal.planSeqs node 0 + 1) % 65536
  let st := { st with bal := { st.bal with activeCells := active, planSeqs := KMap.set st.bal.planSeqs node seq } }
  (st.deliverPlan node (st.planRecord seq node transfer targets), x.2 - max 0 transfer)

/-- BAL_PLAN_COMPUTE (R301, R302, R305, R312): a plan for every measured module, every BalPlanPeriod, in the head. -/
def execBalPlanCompute (t : Nat) (s : State) : Host.Outcome State Fault Refusal :=
  let s := s.tick t
  if !s.isHead || !s.flag Obj.balEnable
      || (s.bal.computeAt ≠ 0 && s.now < s.bal.computeAt + s.nat Obj.balPlanPeriod * 1000000) then .next s
  else
    let s := { s with bal := { s.bal with computeAt := s.now } }
    let all := s.planNodes.flatMap (fun node => (s.nodeCells node).map (fun c => c.2.1))
    let ref := if all.isEmpty then 0 else sumQ all / (all.length : Nat)
    .next (s.planNodes.foldl (s.planNode ref) (s, s.transferBudget)).1

/-- What a plan record does at the module (R306, R307, R310): taken, repeated without effect, or discarded and counted. -/
def State.takePlan (s : State) (fromHead : Bool) (b : Bytes) : State × Bool :=
  if !fromHead || !s.planOk b then (s.rejectPlan, false)
  else if s.bal.planSeq = some (fieldAt 0 2 b) then (s, true)
  else (s.acceptPlan b, true)

/-- Whether a PX request comes from the module that holds the head role (R306, R542). -/
def State.pxFromHead (s : State) (q : PxReq) : Bool :=
  match q.path with
  | .ctlA | .ctlB => s.ident.headNode != 0 && q.origin == (s.ident.headNode : Nat)
  | .ring => q.origin == 0
  | .dist => true
  | .usb => false

/-- A write of BalPlanRecord (R305, R306). DEDUCED, log entry 88. -/
def planEffect (q : PxReq) (b : Bytes) : PxEffect := fun s =>
  let r := s.takePlan (s.pxFromHead q) b
  if r.2 then .ok r.1 else .refuseIn r.1 pxRange

/-- PLAN (R303, R305 to R308, R310): by ring, or by BalPlanRecord. -/
def execPlan (t : Nat) (via : PlanVia) (record : Bytes) (s : State) : Host.Outcome State Fault Refusal :=
  let s := s.tick t
  match via with
  | .ring rx =>
    let r := s.ringRx rx (record.take 52)
    if r.2 then .next (r.1.takePlan (rx.hdr.src == 0) record).1 else .next r.1
  | .px q => .next (s.pxBlock q Obj.balPlanRecord 0 0 record (planEffect q record))

/-- REPORT (R302). -/
def execReport (t : Nat) (rx : SlotRx) (record : Bytes) (s : State) : Host.Outcome State Fault Refusal :=
  let r := (s.tick t).ringRx rx (record.take 52)
  if r.2 && r.1.isHead then .next (r.1.keepReport record) else .next r.1

/-- BALANCE_LEASE_EXPIRY (R292, R310, R318). -/
def execBalanceLeaseExpiry (t : Nat) (s : State) : Host.Outcome State Fault Refusal :=
  let s := s.tick t
  match s.bal.leaseEnd with
  | none => .next s
  | some e =>
    if s.now < e then .next s
    else .next (({ s.dropLease with bal := { s.dropLease.bal with leaseExp := true, leaseBroken := true } }).raise 0x38)

/-- The cells a converter may select: those of its group in C1 to CN with a remaining target and no inhibit on its
direction (R83, R287, R293, R296). -/
def State.flyCandidates (s : State) (k : Nat) : List Nat :=
  [4 * k - 3, 4 * k - 2, 4 * k - 1, 4 * k].filter (fun n =>
    decide (n ≤ s.cellCount) && s.target n != 0 && s.mayMove n (decide (0 < s.target n)))

/-- The cell with the largest remaining target in magnitude, the lowest number on a tie (R296). -/
def State.largestTarget (s : State) : List Nat → Option Nat
  | [] => none
  | n :: r => match s.largestTarget r with
    | none => some n
    | some m => if absQ (s.target n) < absQ (s.target m) then some m else some n

/-- The cell a converter selects (R296): the present one unless another exceeds it by more than 10 %. -/
def State.flySelect (s : State) (k : Nat) : Option Nat :=
  let l := s.flyCandidates k
  let cur := (s.fly k).sel
  match s.largestTarget l with
  | none => none
  | some n => if (s.fly k).on && l.contains cur && absQ (s.target n) ≤ absQ (s.target cur) * (11 / 10) then some cur else some n

/-- Sets a converter to a cell, or disables it (R297, R436, R437): xhat and limiter of its instance at 0 on a change, the
limiter held for 0.5 ms after enabling. -/
def State.flyConnect (s : State) (k : Nat) : State :=
  let f := s.fly k
  let want := if s.convAllowed && !f.fenced then s.flySelect k else none
  let sel := want.getD 0
  if (f.on && f.sel = sel) || (!f.on && sel = 0) then s
  else
    let i := KMap.get s.lp.insts (k - 1) {}
    let s := s.setFly k { f with on := sel != 0, sel := sel, icell := 0, limit := 0, holdUntil := s.now + 500000 }
    let s := { s with lp := { s.lp with insts := KMap.set s.lp.insts (k - 1) { i with
      xhat := i.xhat.map (fun _ => 0), lim := i.lim.map (fun (e : Nat × LimSt) => (e.1, { e.2 with out := 0, up := none, dwellEnd := none })) } } }
    let touch := fun (st : State) (n : Nat) => if n = 0 then st else st.setEc n { st.ec n with flyAt := s.ringTime }
    touch (touch s f.sel) sel

/-- FLYBACK_RESELECT (R83, R287, R293, R294, R296, R297, R299): once at each 1 s multiple; an open blanking window holds
it. DEDUCED, log entry 83. -/
def execFlybackReselect (t : Nat) (s : State) : Host.Outcome State Fault Refusal :=
  let s := s.tick t
  let sec := (if s.unsynced then s.now else s.ringTime) / 1000000000
  if s.bal.selSec = some sec || s.aux.blankAt.isSome then .next s
  else
    let s := { s with bal := { s.bal with selSec := some sec } }.balInhibits
    .next ([1, 2, 3, 4, 5, 6].foldl State.flyConnect s).balUpdate

/-- BAL_TARGET_REACHED (R300): the cell's action stops. -/
def execBalTargetReached (t cell : Nat) (s : State) : Host.Outcome State Fault Refusal :=
  let s := s.tick t
  if !s.bal.reached.contains cell then .next s
  else
    let f := s.fly (flyOf cell)
    let s := if f.on && f.sel = cell then
      (s.setFly (flyOf cell) { f with on := false, sel := 0, icell := 0, limit := 0 }).setEc cell { s.ec cell with flyAt := s.ringTime }
      else s
    let s := { s with bal := { s.bal with bleeders := setErase s.bal.bleeders cell, reached := setErase s.bal.reached cell } }
    .next s.flowUpdate

/-- Residual and tolerance of the books in As (R315), given the mean cell voltage. DESIGN CHOICE, log entry 31. -/
def State.bookResidual (s : State) (v : Rat) : Rat × Rat :=
  let out := s.bal.qOut / 1000000
  let inn := s.bal.qIn / 1000000
  let x := s.bal.eXfer / v
  let loss := s.bal.eLoss / v
  let bus := (470 / 2000000 : Rat) * (s.bal.busV * s.bal.busV - s.bal.busStart * s.bal.busStart) / v
  (out - inn + x - loss - bus, 3 / 100 * (out + inn + absQ x) + 5)

/-- One result of the check (R316, R318). -/
def State.bookResult (s : State) (r tol : Rat) : State :=
  let s := s.setRat Obj.booksResidual r
  if tol < absQ r then
    let n := s.bal.bookFails + 1
    let s := { s with bal := { s.bal with bookFails := n, bookPasses := 0 } }
    if n < 3 || s.bal.books then s else { s with bal := { s.bal with books := true } }.raise 0x3D
  else
    let n := s.bal.bookPasses + 1
    let s := { s with bal := { s.bal with bookFails := 0, bookPasses := n } }
    if n < 3 || !s.bal.books then s else { s with bal := { s.bal with books := false } }.lower 0x3D

/-- BAL_BOOKS_CHECK (R315, R316): at each ring-time multiple of 10 s; without a cell reading in the 10 s no result is
formed (DESIGN CHOICE, log entry 31). -/
def execBalBooksCheck (t : Nat) (s : State) : Host.Outcome State Fault Refusal :=
  let s := s.tick t
  let k := s.ringTime / 10000000000
  if k = s.bal.booksAt then .next s
  else
    let v : Rat := if s.bal.vCount = 0 then 0 else (s.bal.vSum : Rat) / (s.bal.vCount : Nat) / 1000000
    let r := s.bookResidual v
    let s := if v ≤ 0 then s else s.bookResult r.1 r.2
    .next { s with bal := { s.bal with
      booksAt := k, qOut := 0, qIn := 0, eXfer := 0, eLoss := 0, busStart := s.bal.busV, vSum := 0, vCount := 0 } }

/-- Converters of one direction stopped in hardware (R288). -/
def State.stopDirection (s : State) (charge : Bool) : State :=
  State.flowUpdate { s with bal := { s.bal with
      fly := s.bal.fly.map (fun (e : Nat × FlybackSt) =>
        (e.1, if e.2.on && e.2.charge == charge then { e.2 with on := false, sel := 0, icell := 0, limit := 0 } else e.2))
      transferCmd := if charge then maxQ 0 s.bal.transferCmd else minQ 0 s.bal.transferCmd } }

/-- BAL_BUS_UNDERVOLTAGE (R288). -/
def execBalBusUndervoltage (t : Nat) (s : State) : Host.Outcome State Fault Refusal :=
  let s := s.tick t
  .next (({ s with bal := { s.bal with underStop := true } }).stopDirection true)

/-- BAL_BUS_OVERVOLTAGE (R288). -/
def execBalBusOvervoltage (t : Nat) (s : State) : Host.Outcome State Fault Refusal :=
  let s := s.tick t
  .next (({ s with bal := { s.bal with overStop := true } }).stopDirection false)

/-- BAL_BUS_FAULT (R288, R318): all flyback converters and the transfer converter off until the next start-up. -/
def execBalBusFault (t : Nat) (s : State) : Host.Outcome State Fault Refusal :=
  let s := s.tick t
  .next (({ s with bal := { s.bal with busFault := true } }).balUpdate.raise 0x3C)

/-- FLYBACK_IMPLAUSIBLE (R317, R318). -/
def execFlybackImplausible (t k : Nat) (s : State) : Host.Outcome State Fault Refusal :=
  let s := s.tick t
  .next ((s.setFly k { s.fly k with fenced := true, on := false, sel := 0, icell := 0, limit := 0 }).balUpdate.raise 0x39)

/-- TRANSFER_IMPLAUSIBLE (R317, R318). -/
def execTransferImplausible (t : Nat) (s : State) : Host.Outcome State Fault Refusal :=
  let s := s.tick t
  .next (({ s with bal := { s.bal with xferFenced := true, transferOn := false, transferCmd := 0 } }).raise 0x3A)

/-- BLEEDER_IMPLAUSIBLE (R317, R318): the half's bank is disconnected, its force tests are suspended. -/
def execBleederImplausible (t : Nat) (half2 : Bool) (s : State) : Host.Outcome State Fault Refusal :=
  let s := s.tick t
  let s := if half2 then { s with bal := { s.bal with bank2Off := true } } else { s with bal := { s.bal with bank1Off := true } }
  .next (s.balUpdate.raise 0x3B)

/-- BALCTRL of a legacy device (R238, R240). DEDUCED, log entry 95. -/
def balctrlObj (dev : Nat) : ObjDef :=
  { index := 0xB03F + 0x100 * dev, sub := 1, idxCount := 1, subCount := 1, ty := .u16, access := .rwa .operator, dflt := [.nat 0], rng := [(0, 4095)] }

/-- BALCTRL of a legacy device as it reads: the positions requested, while the request lasts (R251). -/
def State.balctrl (s : State) (dev : Nat) : Nat :=
  if (match (s.dev dev).balEnd with | some e => decide (s.now < e) | none => false) then
    packBits ((List.range 12).map (fun k => (s.dev dev).bal.contains (k + 1))) else 0

/-- A write of BALCTRL (R251): replaces the device's request for 10 s. -/
def balctrlEffect (dev v : Nat) : PxEffect := fun s =>
  .ok ((s.setDev dev { s.dev dev with
    bal := (List.range 12).filterMap (fun k => if bitsOf k k v = 1 then some (k + 1) else none),
    balEnd := some (s.now + 10000000000) }).balUpdate)

/-- BALCTRL_WRITE (R238, R251, R313). DEDUCED, log entry 95. -/
def execBalctrlWrite (t : Nat) (q : PxReq) (dev v : Nat) (s : State) : Host.Outcome State Fault Refusal :=
  let s := s.tick t
  if s.flag Obj.legacyEnable then
    .next (s.pxWriteOld q (balctrlObj dev) 0 0 3 (leBytes 2 v) (leBytes 2 (s.balctrl dev)) (balctrlEffect dev v))
  else .next (s.pxMissing q 0x02 (balctrlObj dev).index 1 3 (leBytes 2 v))

/-- BALCTRL_EXPIRY (R251). -/
def execBalctrlExpiry (t dev : Nat) (s : State) : Host.Outcome State Fault Refusal :=
  let s := s.tick t
  match (s.dev dev).balEnd with
  | none => .next s
  | some e => if s.now < e then .next s else .next ((s.setDev dev { s.dev dev with bal := [], balEnd := none }).balUpdate)

end Sys2Proof.Machine
end

