-- ==== Sys2Proof/Machine/LoopOps.lean ====
section
/-! DEFINITION. The loop engine's operations: banks (R418), bindings (R421, R422), inputs (R421, R432), ramp limiters (R426 to
R430), one sample of an instance (R411, R412, R414), engine load (R431). -/
namespace Sys2Proof.Machine

/-- An instance's record. -/
def State.inst (s : State) (i : Nat) : LoopInst := KMap.get s.lp.insts i {}

/-- The state with an instance's record replaced. -/
def State.setInst (s : State) (i : Nat) (x : LoopInst) : State := { s with lp := { s.lp with insts := KMap.set s.lp.insts i x } }

/-- A bank of an instance (R418, R435): those of instances 0 to 6 are as shipped. -/
def State.bank (s : State) (i : Nat) (b : Nat) : Bytes :=
  if i ≤ 6 then Config.shippedBank i else (s.val (if b = 0 then Obj.bankA else Obj.bankB) i).toBytes

/-- n, m, p and k of a bank. -/
def bankN (b : Bytes) : Nat := fieldAt 2 1 b
def bankM (b : Bytes) : Nat := fieldAt 3 1 b
def bankP (b : Bytes) : Nat := fieldAt 4 1 b
def bankK (b : Bytes) : Nat := fieldAt 5 1 b

/-- Whether a bank is usable (R411, R418). -/
def bankUsable (b : Bytes) : Bool :=
  fieldAt 0 2 b == 1 && decide (1 ≤ bankN b) && decide (bankN b ≤ 8) && decide (1 ≤ bankM b) && decide (bankM b ≤ 4)
    && decide (bankP b + bankK b ≤ 4)

/-- Whether the shipped instances 0 to 6 and 10 have their bank (they are shipped usable). PRESUMED, log entry 33. -/
def shippedInst (i : Nat) : Bool := i ≤ 10

/-- Whether an instance's active bank is usable; instances 0 to 6 and 10 are shipped so. DEDUCED, log entry 85. -/
def State.instUsable (s : State) (i : Nat) : Bool := i ≤ 6 || i == 10 || bankUsable (s.bank i (s.inst i).active)

/-- The dimensions n, m, p, k of an instance (R411, R435). -/
def State.dims (s : State) (i : Nat) : Nat × Nat × Nat × Nat :=
  if i ≤ 5 then (2, 1, 1, 0) else if i = 6 then (2, 2, 1, 1) else if i = 10 then (1, 2, 0, 0)
  else
    let b := s.bank i (s.inst i).active
    if bankUsable b then (bankN b, bankM b, bankP b, bankK b)
    else if i = 7 ∨ i = 8 then (4, 1, 2, 1) else if i = 9 then (2, 1, 1, 0) else (0, 0, 0, 0)

/-- RateDivisor D of an instance (R413). -/
def State.rateD (s : State) (i : Nat) : Nat := s.nat Obj.rateDivisor i

/-- The `j`-th entry of InputBind or OutputBind (R421, R422). -/
def State.bindAt (s : State) (o : ObjDef) (i j : Nat) : Nat := fieldAt (4 * j) 4 (s.val o i).toBytes

/-- The inputs bound with a role, in order (R421): kind and index. -/
def inputsOf (b : Bytes) (role : Nat) : List (Nat × Nat) :=
  (List.range 4).filterMap (fun j =>
    let e := fieldAt (4 * j) 4 b
    if bitsOf 31 30 e = role then some (bitsOf 15 8 e, bitsOf 7 0 e) else none)

/-- T_ref (R439): the reading of CoolantRefNtc, else the lowest included NTC. -/
def State.tRef (s : State) : Option Rat :=
  match s.ntcTemp (s.nat Obj.coolantRefNtc) with
  | some t => some t
  | none => minOf (s.ntcs.map (·.2))

/-- The rise of a zone in K (R439), none while it is invalid. -/
def State.zoneRise (s : State) (z : Nat) : Option Rat :=
  let l := (s.ntcs.filter (fun e => s.nat Obj.thermalZoneMap 0 (e.1 - 1) == z)).map (·.2)
  match s.tRef with
  | some r => if l.isEmpty then none else some (sumQ l / (l.length : Nat) - r)
  | none => none

/-- Pack heat in W (R440). -/
def State.heat (s : State) : Rat :=
  s.lp.rmsSq * sumQ (s.cells.map (fun n => let c := s.ec n; c.r0.getD (s.rat Obj.r0Default) + c.r1.getD 0))

/-- The speed of a fan in rpm from its tach frequency (R445). -/
def State.fanRpm (s : State) (hz : Rat) : Rat := hz * 60 / ((s.nat Obj.tachPulses : Nat) : Rat)

/-- The flow feedback in % (R443, R626), none while it is invalid or absent. -/
def State.flow (s : State) (m : LoopMeas) : Option Rat :=
  let sel := s.nat Obj.thermalActuators
  let rated : Rat := (s.nat Obj.fanRatedSpeed : Nat)
  if s.nat Obj.thermalFlowSource = 1 then
    let l := (if bitsOf 0 0 sel = 1 then [m.tach1] else []) ++ (if bitsOf 1 1 sel = 1 then [m.tach2] else [])
    if l.isEmpty then none else some (sumQ (l.map (fun f => s.fanRpm f / rated * 100)) / (l.length : Nat))
  else if s.nat Obj.thermalFlowSource = 2 then
    let k := s.nat Obj.thermalFlowSent
    let w := s.sentWord k
    let v := s.rat Obj.sentValue (k - 1)
    if bitsOf 0 0 w = 1 || bitsOf 1 1 w = 1 || v < 0 || 150 < v then none else some v
  else none

/-- The unit of a local point's VALUE in V, A, W, °C, % or the sensor's own unit (R559). -/
def State.pointUnit (s : State) (p : Nat) : Rat :=
  if p < 24 then 1 / 1000000 else if p < 40 then 1 / 100 else if p < 48 then s.rat Obj.sentLsb (p - 40)
  else [1 / 10000, 1 / 10000, 1 / 10000, 1 / 1000000, 1 / 1000000, 1 / 100, 1 / 10000, 1 / 100000, 1 / 1000, 1 / 100,
    1 / 100, 1 / 100, 1 / 100, 1 / 100, 1 / 100, 1 / 100].getD (p - 48) 1

/-- The value of an input, none while it is invalid (R421, R432). -/
def State.input (s : State) (m : LoopMeas) (kind index : Nat) : Option Rat :=
  if kind = 1 then
    let w := s.point index
    if 63 < index || w == 0 || bitsOf 0 0 w = 1 || bitsOf 1 1 w = 1 || bitsOf 3 3 w = 1 || bitsOf 4 4 w = 1 then none
    else some ((wordValue w : Rat) * s.pointUnit index)
  else if kind = 2 then
    match index with
    | 0x01 => some m.busV
    | 0x02 => some (sumQ (m.fly.map (·.2)))
    | 0x03 => some s.heat
    | 0x04 | 0x05 | 0x06 | 0x07 => s.zoneRise (index - 3)
    | 0x08 => s.flow m
    | 0x09 | 0x0A | 0x0B | 0x0C | 0x0D | 0x0E => some ((m.fly.getD (index - 9) (0, 0)).1)
    | 0x0F => if s.est.hold then none else some s.lp.msMean
    | 0x10 => some (s.rat Obj.hotspotTemp)
    | _ => none
  else none

/-- A limiter's settings (R425): MIN, MAX, both slews, DWELL in s. -/
structure Ramp where
  lo : Rat
  hi : Rat
  away : Rat
  toward : Rat
  dwell : Rat
  deriving DecidableEq, Repr

/-- RampConfig of a slot (R425, R436, R448). -/
def State.ramp (s : State) (i j : Nat) : Ramp :=
  if i = 10 then { lo := 0, hi := s.rat (if j = 0 then Obj.chargeCurrentMax else Obj.dischargeCurrentMax), away := s.rat Obj.limitRampUp,
                   toward := 0, dwell := 0 }
  else
    let b := (s.val Obj.rampConfig i j).toBytes
    let f := fun (k : Nat) => f32Val (f32At (4 * k) b)
    { lo := f 0, hi := f 1, away := f 2, toward := f 3, dwell := f 4 }

/-- The move of a limiter output within `dt` seconds (R426, R429): towards zero at one slew, away from it at the other, a
crossing split at zero; a slew of 0 is unlimited. -/
def rampMove (r : Ramp) (dt x target : Rat) : Rat :=
  let away := fun (from0 goal : Rat) (dt : Rat) =>
    if r.away = 0 then goal else if from0 ≤ goal then minQ goal (from0 + r.away * dt) else maxQ goal (from0 - r.away * dt)
  let opposite := (0 < x && decide (target < 0)) || (x < 0 && decide (0 < target))
  if opposite then
    let t0 := if r.toward = 0 then 0 else absQ x / r.toward
    if dt ≤ t0 then (if 0 < x then x - r.toward * dt else x + r.toward * dt) else away 0 target (dt - t0)
  else if absQ x ≤ absQ target then away x target dt
  else if r.toward = 0 then target
  else if target ≤ x then maxQ target (x - r.toward * dt) else minQ target (x + r.toward * dt)

/-- One sample of a limiter (R426 to R430): `dlo`, `dhi` the dynamic bounds, `now` in ns, `hold` keeps it at 0 (R436).
DEDUCED, log entry 84. -/
def LimSt.sample (l : LimSt) (r : Ramp) (dlo dhi dt : Rat) (now : Nat) (target : BitVec 32) : LimSt :=
  let lo := maxQ r.lo dlo
  let hi := minQ r.hi dhi
  let raw := f32Val target
  let tgt := if raw < lo then lo else if hi < raw then hi else raw
  let l := { l with target := f32Of tgt, clamped := decide (tgt ≠ raw) }
  let x := f32Val l.out
  if hi < x then { l with out := f32Of hi, up := some false, dwellEnd := none }
  else if x < lo then { l with out := f32Of lo, up := some true, dwellEnd := none }
  else
    let dir := decide (x < tgt)
    let held := match l.dwellEnd with
      | some e => decide (now < e)
      | none => false
    if tgt = x then (if held then l else { l with dwellEnd := none })
    else
      let back := l.up == some (!dir)
      if back && l.dwellEnd.isNone && 0 < r.dwell then { l with dwellEnd := some (now + (r.dwell * 1000000000).ceil.toNat) }
      else if back && held then l
      else { l with out := f32Of (rampMove r dt x tgt), up := some dir, dwellEnd := none }

/-- A row of a matrix in a bank times a vector (R412): products and sums in ascending column order, from +0. -/
def rowDot (b : Bytes) (off stride row : Nat) (v : List (Nat × BitVec 32)) : BitVec 32 :=
  v.foldl (fun a e => f32Add a (f32Mul (f32At (off + 4 * (row * stride + e.1)) b) e.2)) 0#32

/-- A vector with its column numbers, from `c` on. -/
def cols (c : Nat) (v : List (BitVec 32)) : List (Nat × BitVec 32) := v.zipIdx.map (fun e => (e.2 + c, e.1))

/-- The negative of a number (R412). -/
def f32Minus (a : BitVec 32) : BitVec 32 := a ^^^ 0x80000000#32

/-- The outputs of the control law before their bounds: u = −K·xhat + N·r (R411). DEDUCED, log entry 84. -/
def lawOut (b : Bytes) (m : Nat) (xhat r : List (BitVec 32)) : List (BitVec 32) :=
  (List.range m).map (fun j => f32Add (f32Minus (rowDot b 776 8 j (cols 0 xhat))) (rowDot b 904 4 j (cols 0 r)))

/-- The observer's next state (R411, R432): y holds, for each valid measured input, its number and value. -/
def observe (b : Bytes) (n : Nat) (xhat u w : List (BitVec 32)) (y : List (Nat × BitVec 32)) : List (BitVec 32) :=
  let innov := y.map (fun e => (e.1, f32Add e.2 (f32Minus (rowDot b 648 8 e.1 (cols 0 xhat)))))
  (List.range n).map (fun j =>
    f32Add (f32Add (rowDot b 8 8 j (cols 0 xhat)) (rowDot b 264 8 j (cols 0 u ++ cols 4 w))) (rowDot b 520 4 j innov))

/-- Dynamic bounds of a set-point slot (R436, R438, R448): those of a flyback instance are its R294 limit with the trim. -/
def State.slotBounds (s : State) (i : Nat) : Rat × Rat :=
  if i ≤ 5 then
    let f := s.fly (i + 1)
    let g := s.bal.trim
    let k := if f.charge then (if g < 0 then 1 + g else 1) else (if 0 < g then 1 - g else 1)
    let b := if f.on && decide (f.holdUntil ≤ s.now) then f.limit * k else 0
    (-b, b)
  else (-(2 : Rat) ^ 100, (2 : Rat) ^ 100)

/-- The bounds of an output beyond its bank's (R438): transfer power and trim of instance 6. DEDUCED, log entry 89. -/
def State.outBounds (s : State) (i j : Nat) : Option (Rat × Rat) :=
  if i = 6 then
    if j = 0 then
      let t : Rat := (s.bal.transferLimit : Int) / 10
      let p := s.rat Obj.transferPowerMax * s.derate
      if !s.convAllowed || s.bal.xferFenced then some (0, 0)
      else
        let lo := if s.supply.exportStopped || s.bal.underStop then 0 else maxQ (-p) (minQ 0 t)
        let hi := if s.supply.importStopped || s.bal.overStop then 0 else minQ p (maxQ 0 t)
        some (lo, hi)
    else some (-1, 1)
  else none

/-- An output clamped to UMIN, UMAX and its dynamic bounds (R411); a non-finite one is left for R434. DEDUCED, log entry 84. -/
def State.bound (s : State) (b : Bytes) (i j : Nat) (u : BitVec 32) : BitVec 32 × Bool :=
  let lo := f32Val (f32At (968 + 4 * j) b)
  let hi := f32Val (f32At (984 + 4 * j) b)
  let d := (s.outBounds i j).getD (lo, hi)
  let l := maxQ lo d.1
  let h := minQ hi d.2
  if !f32Finite u then (u, false)
  else if f32Val u < l then (f32Of l, true) else if h < f32Val u then (f32Of h, true) else (u, false)

/-- FailOutput of an instance's outputs (R433, R434). -/
def State.failOut (s : State) (i m : Nat) : List (BitVec 32) := (List.range m).map (fun j => f32At (4 * j) (s.val Obj.failOutput i).toBytes)

/-- Instances whose outputs feed a slot, with output number and COMBINE (R422, R424, R425). DEDUCED, log entry 87. -/
def State.writers (s : State) (i slot : Nat) : List (Nat × Nat × Nat) :=
  (List.range 16).flatMap (fun a => (List.range 4).filterMap (fun j =>
    let e := s.bindAt Obj.outputBind a j
    if bitsOf 31 30 e = 1 && bitsOf 15 8 e = i && bitsOf 7 0 e = slot + 1 then some (a, j, bitsOf 29 28 e) else none))

/-- Whether an instance is enabled (R417, R442, R448): the shipped ones by mode and role, a host instance by its host. -/
def State.instOn (s : State) (i : Nat) : Bool :=
  let mode := s.nat Obj.thermalMode
  let runs := s.md.mode.runs && s.md.holdup < 2
  if i ≤ 6 then runs
  else if i ≤ 8 then runs && mode == 1
  else if i = 9 then runs && (mode == 1 || mode == 3)
  else if i = 10 then runs && s.isHead
  else (s.inst i).enabled && runs

/-- The newest target of a slot (R425, R427, R436, R442, R448). -/
def State.slotTarget (s : State) (i j : Nat) : BitVec 32 :=
  if i ≤ 5 then
    let f := s.fly (i + 1)
    if !f.on then 0#32 else f32Of (if f.charge then f.limit else -f.limit)
  else if i = 10 then let l := s.limitTargets; f32Of (if j = 0 then l.1 else l.2.1)
  else if i = 9 && s.nat Obj.thermalMode = 3 then (s.val Obj.thermalManualDemand).toF32
  else
    let w := (s.writers i j).filter (fun e => s.instOn e.1 && !(s.inst e.1).numeric && (s.inst e.1).u.length != 0)
    let out := fun (e : Nat × Nat × Nat) => (s.inst e.1).u.getD e.2.1 0#32
    match w with
    | [] => if (s.writers i j).isEmpty then (s.val Obj.setpoint i j).toF32 else (KMap.get (s.inst i).lim j {}).target
    | e :: r => r.foldl (fun a x =>
        let v := out x
        if x.2.2 = 2 then (if f32Val v < f32Val a then v else a) else (if f32Val a < f32Val v then v else a)) (out e)

/-- Enabling (R417, R448): xhat 0 (thermal outer: the measured rises), limiters at their present target within bounds,
status cleared. -/
def State.instStart (s : State) (i : Nat) : State :=
  let x := s.inst i
  let d := s.dims i
  let rise := fun (z : Nat) => f32Of ((s.zoneRise z).getD 0)
  let xhat := if i = 7 then [rise 1, rise 1, rise 2, rise 2] else if i = 8 then [rise 3, rise 3, rise 4, rise 4]
    else List.replicate d.1 0#32
  let lim : KMap LimSt := (List.range d.2.1).map (fun j =>
    let r := s.ramp i j
    let b := s.slotBounds i
    let v := f32Val (s.slotTarget i j)
    let v := if i = 10 then s.rat (if j = 0 then Obj.chargeLimit else Obj.dischargeLimit) else v
    let v := clampQ (maxQ r.lo b.1) (minQ r.hi b.2) v
    (j, { out := f32Of v, target := s.slotTarget i j }))
  s.setInst i { x with
    enabled := true, xhat := xhat, lim := lim, u := [], lastKnown := List.replicate d.2.2.2 0#32, badRun := 0, inputLost := false,
    numeric := x.numeric && shippedInst i, frozen := false, bypass := false, outSat := false }

/-- A pending swap taken at a sample boundary (R420). -/
def State.takeSwap (s : State) (i : Nat) : State :=
  match (s.inst i).pend with
  | none => s
  | some b => ((s.setInst i { s.inst i with active := b, pend := none }).setNat Obj.bankActive b i).bump Obj.swapCount i

/-- The limiters of an instance advanced by one sample (R414, R426). -/
def State.stepLimiters (s : State) (i m : Nat) : State :=
  let x := s.inst i
  let dt : Rat := (s.rateD i : Nat) / 100000
  let b := s.slotBounds i
  let now := if s.unsynced then s.now else s.ringTime
  s.setInst i { x with lim := (List.range m).map (fun j =>
    (j, (KMap.get x.lim j {}).sample (s.ramp i j) b.1 b.2 dt now (s.slotTarget i j))) }

/-- An instance stopped by a non-finite number (R434, R449). -/
def State.instNumeric (s : State) (i m : Nat) : State :=
  (s.setInst i { s.inst i with numeric := true, u := s.failOut i m }).raise 0x56

/-- The measured inputs of a sample lost ten times in succession (R433). -/
def State.instLost (s : State) (i m : Nat) : State :=
  (s.setInst i { s.inst i with inputLost := true, u := s.failOut i m }).raise 0x57

/-- The outputs of one sample (R411, R412, R432 to R434) once limiters have moved. DEDUCED, log entry 89. -/
def State.instCompute (s : State) (i : Nat) (m : LoopMeas) : State :=
  let x := s.inst i
  let d := s.dims i
  let b := s.bank i x.active
  let bind := (s.val Obj.inputBind i).toBytes
  let ys := (inputsOf bind 1).map (fun e => s.input m e.1 e.2)
  let y := (ys.zipIdx.filterMap (fun e => e.1.map (fun v => (e.2, f32Of v))))
  let ws := ((inputsOf bind 2).zipIdx).map (fun e => match s.input m e.1.1 e.1.2 with
    | some v => f32Of v
    | none => x.lastKnown.getD e.2 0#32)
  let bad := decide (1 ≤ d.2.2.1) && y.isEmpty
  let run := if bad then x.badRun + 1 else 0
  let alone := !s.lp.insts.any (fun e => e.1 != i && e.2.inputLost)
  let s := if x.inputLost && !bad then
    let s := s.setInst i { x with inputLost := false }
    if alone then s.lower 0x57 else s else s
  let x := { s.inst i with badRun := run, lastKnown := ws }
  let s := s.setInst i x
  if bad && 10 ≤ run then (if x.inputLost then s else s.instLost i d.2.1)
  else
    let r := (List.range d.2.1).map (fun j => (KMap.get x.lim j {}).out)
    let raw := lawOut b d.2.1 x.xhat r
    let bounded := raw.zipIdx.map (fun e => s.bound b i e.2 e.1)
    let u := bounded.map (·.1)
    let next := observe b d.1 x.xhat u ws y
    if !((u ++ next).all f32Finite) then s.instNumeric i d.2.1
    else s.setInst i { x with xhat := next, u := u, outSat := bounded.any (·.2) }

/-- The sample boundary of an instance (R414, R437, R443, R448): swap, limiters, outputs. A frozen instance executes
nothing; instance 9 without flow feedback and instance 10 pass their limiters' outputs. DEDUCED, log entry 85. -/
def State.instSample (s : State) (m : LoopMeas) (i : Nat) : State :=
  let frozen := decide (i ≤ 5) && (s.fly (i + 1)).blanked
  if !s.instOn i then (if (s.inst i).enabled && shippedInst i then s.setInst i { s.inst i with enabled := false, u := [] } else s)
  else if frozen then s.setInst i { s.inst i with frozen := true }
  else
    let s := if (s.inst i).enabled && (s.inst i).lim.length != 0 then s else s.instStart i
    let s := s.setInst i { s.inst i with frozen := false }
    if (s.inst i).numeric then s
    else
      let s := s.takeSwap i
      let d := s.dims i
      let s := s.stepLimiters i d.2.1
      let pass := i == 10 || (i == 9 && (s.nat Obj.thermalFlowSource == 0 || !s.instUsable 9))
      let s := s.setInst i { s.inst i with bypass := i == 9 && s.nat Obj.thermalFlowSource == 0 }
      if pass then s.setInst i { s.inst i with u := (List.range d.2.1).map (fun j => (KMap.get (s.inst i).lim j {}).out) }
      else if s.instUsable i then s.instCompute i m
      else s

/-- The count on which samples are taken (R413): ring time, or the local count while unsynced. -/
def State.loopClock (s : State) : Nat := if s.unsynced then s.now else s.ringTime

/-- The instances that share the present boundary, in running order (R413, R415): descending D, then ascending number. -/
def State.dueInsts (s : State) : List Nat :=
  let due := (List.range 16).filter (fun i => s.loopClock % (s.rateD i * 10000) == 0)
  let add := fun (l : List Nat) (i : Nat) =>
    l.takeWhile (fun j => decide (s.rateD i ≤ s.rateD j)) ++ [i] ++ l.dropWhile (fun j => decide (s.rateD i ≤ s.rateD j))
  due.foldl add []

/-- What an instance costs per sample in engine cycles (R431). -/
def instCost (n m p k : Nat) : Nat := 64 + n * n + n * (m + k) + 2 * n * p + m * n + m * m

/-- Engine cycles per second of a list of instances (R431). -/
def State.loopCycles (s : State) (l : List Nat) : Rat :=
  sumQ (l.map (fun i => let d := s.dims i; ((instCost d.1 d.2.1 d.2.2.1 d.2.2.2 : Nat) : Rat) * 100000 / (s.rateD i : Nat)))

/-- LoopLoad (R431): the present sum as a fraction of 300 MHz. -/
def State.loopLoadNow (s : State) : Rat := s.loopCycles ((List.range 16).filter s.instOn) / 300000000

/-- LoopStatus (R450). -/
def State.loopStatusOf (s : State) (i : Nat) : Nat :=
  let x := s.inst i
  let lims := x.lim.map (·.2)
  packBits [s.instOn i && !x.numeric && !x.frozen, x.outSat, lims.any (fun l => l.out != l.target), lims.any (·.clamped),
    lims.any (fun l => l.dwellEnd.isSome), x.pend.isSome, x.inputLost, x.numeric, x.frozen, x.bypass]

end Sys2Proof.Machine
end

