-- ==== Sys2Proof/Machine/Loops.lean ====
section
/-! DEFINITION. The loop engine and pack thermal control (R411 to R451). -/
namespace Sys2Proof.Machine

/-- The means of the string current that the engine takes (R421, R440): the last millisecond and the last second. -/
def State.loopMeans (s : State) : State :=
  let s := if s.now < s.lp.msAt + 1000000 then s else
    { s with lp := { s.lp with
      msMean := if s.lp.msCount = 0 then s.lp.msMean else s.lp.msSum / (s.lp.msCount : Nat), msSum := 0, msCount := 0, msAt := s.now } }
  if s.now < s.lp.rmsAt + 1000000000 then s
  else { s with lp := { s.lp with
    rmsSq := if s.lp.sqCount = 0 then 0 else s.lp.sqSum / (s.lp.sqCount : Nat), sqSum := 0, sqCount := 0, rmsAt := s.now } }

/-- What instance 6 commands (R288, R304, R438): transfer power and trim; all converters stop while its input is lost, the
transfer converter while condensation lasts (R692). -/
def State.applyBus (s : State) : State :=
  let x := s.inst 6
  if x.inputLost then
    State.flowUpdate { s with bal := { s.bal with
      transferOn := false, transferCmd := 0,
      fly := s.bal.fly.map (fun (e : Nat × FlybackSt) => (e.1, { e.2 with on := false, sel := 0, icell := 0, limit := 0 })) } }
  else
    let cmd := f32Val (x.u.getD 0 0#32)
    let room := (s.outBounds 6 0).getD (0, 0)
    let on := s.convAllowed && !s.bal.xferFenced && !s.mgmt.condense && s.bal.transferLimit != 0 && room != (0, 0)
    { s with bal := { s.bal with
      transferOn := on, transferCmd := if on then cmd else 0, trim := f32Val (x.u.getD 1 0#32) } }

/-- The cooling demand in % of the mode in force (R442), the NTC rule included. PRESUMED, log entry 34. -/
def State.demandNow (s : State) : Rat :=
  let of := fun (i : Nat) => match (s.inst i).u with
    | [] => s.rat Obj.coolingDemand
    | u :: _ => f32Val u
  let mode := s.nat Obj.thermalMode
  if mode = 0 then 0
  else if mode = 1 then
    if s.lp.ntcRule then
      match maxOf (s.ntcs.map (·.2)) with
      | some t => clampQ 0 100 ((t - s.rat Obj.thermalCoreSetpoint) * 10)
      | none => clampQ 0 100 Config.demandNoNtc
    else clampQ 0 100 (of 9)
  else if mode = 2 then
    match (List.range 5).find? (fun k => s.instOn (11 + k) && (List.range 4).any (fun j =>
        let e := s.bindAt Obj.outputBind (11 + k) j
        bitsOf 31 30 e == 2 && bitsOf 15 8 e == 0x20)) with
    | some k =>
      let j := ((List.range 4).find? (fun j => let e := s.bindAt Obj.outputBind (11 + k) j; bitsOf 31 30 e == 2 && bitsOf 15 8 e == 0x20)).getD 0
      clampQ 0 100 (f32Val ((s.inst (11 + k)).u.getD j 0#32))
    | none => 0
  else clampQ 0 100 (of 9)

/-- Fan duties and valve current of a demand (R444, R446, R447). -/
def State.driveActuators (s : State) (demand : Rat) : State :=
  let sel := s.nat Obj.thermalActuators
  let on := s.md.mode.runs && s.md.holdup < 2
  let duty := if demand = 0 then 0 else maxQ demand (s.rat Obj.fanMinDuty)
  let fan := fun (k : Nat) => if on && bitsOf k k sel = 1 then duty else 0
  let valve := if !on || bitsOf 2 2 sel = 0 then 0
    else if demand = 0 then (if s.nat Obj.valveZeroMode = 1 then 4 else 0) else 4 + 16 / 100 * demand
  ((s.setRat Obj.fanDuty (fan 0) 0 0).setRat Obj.fanDuty (fan 1) 0 1).setRat Obj.valveCommand valve

/-- A stalled fan clears after 5 s above 20 % of rated speed (R445). -/
def State.fanRecover (s : State) (fan : Nat) : State :=
  if !s.lp.stalled.contains fan then s
  else if s.rat Obj.fanSpeed 0 (fan - 1) ≤ ((s.nat Obj.fanRatedSpeed : Nat) : Rat) / 5 then
    { s with lp := { s.lp with stallOkSince := KMap.del s.lp.stallOkSince fan } }
  else if !KMap.has s.lp.stallOkSince fan then { s with lp := { s.lp with stallOkSince := KMap.set s.lp.stallOkSince fan s.now } }
  else if s.now < KMap.get s.lp.stallOkSince fan 0 + 5000000000 then s
  else
    let rest := setErase s.lp.stalled fan
    let s := { s with lp := { s.lp with stalled := rest, stallOkSince := KMap.del s.lp.stallOkSince fan } }
    if rest.isEmpty then s.lower 0x58 else s

/-- Zone temperatures from the thermal outer instances (R441), COREHOT (R447). -/
def State.zoneTemps (s : State) : State :=
  let s := match s.tRef with
    | some r => s.setRat Obj.coolantRefTemp r
    | none => s
  let live := fun (i : Nat) => s.instOn i && s.instUsable i && !(s.inst i).xhat.isEmpty
  let put := fun (st : State) (z : Nat) =>
    let i := if z ≤ 2 then 7 else 8
    let k := if z % 2 = 1 then 0 else 2
    match s.tRef with
    | some r => if live i then
        (st.setRat Obj.zoneCoreTemp (r + f32Val ((s.inst i).xhat.getD k 0#32)) 0 (z - 1)).setRat Obj.zoneSurfaceTemp
          (r + f32Val ((s.inst i).xhat.getD (k + 1) 0#32)) 0 (z - 1)
      else st
    | none => st
  let hot := [1, 2, 3, 4].any (fun z =>
    let i := if z ≤ 2 then 7 else 8
    match s.tRef with
    | some r => live i && (s.zoneRise z).isSome
        && decide (s.rat Obj.thermalCoreAlarm ≤ r + f32Val ((s.inst i).xhat.getD (if z % 2 = 1 then 0 else 2) 0#32))
    | none => false)
  let s := [1, 2, 3, 4].foldl put s
  { s with lp := { s.lp with coreHot := hot } }.follow 0x5A hot

/-- Thermal control at a sample (R439 to R447): heat, speeds, demand, actuators, status. -/
def State.thermal (s : State) (m : LoopMeas) : State :=
  let s := ((s.setRat Obj.fanSpeed (s.fanRpm m.tach1) 0 0).setRat Obj.fanSpeed (s.fanRpm m.tach2) 0 1).setRat Obj.valveReadback m.valve
  let s := s.setRat Obj.packHeat s.heat
  let rule := s.nat Obj.thermalMode == 1 && !(s.instUsable 7 && s.instUsable 8 && s.instUsable 9)
  let s := { s with lp := { s.lp with ntcRule := rule } }.follow 0x5B rule
  let d := s.demandNow
  let s := (s.setRat Obj.coolingDemand d).driveActuators d
  ((s.fanRecover 1).fanRecover 2).zoneTemps

/-- LOOP_SAMPLE (R411 to R416, R420, R425 to R430, R432 to R434, R436 to R448): the instances whose boundary it is, in
order; at multiples of 50 µs the balancing set-points and books (R294, R295, R298, R314). -/
def execLoopSample (t : Nat) (m : LoopMeas) (s : State) : Host.Outcome State Fault Refusal :=
  let s := s.tick t
  if !s.md.mode.runs then .next s
  else
    let s := s.loopMeans
    let s := if s.loopClock % 50000 = 0 then (s.bookSample m).balUpdate else s
    let s := s.dueInsts.foldl (fun (st : State) i => st.instSample m i) s
    .next (s.applyBus.thermal m)

/-- An object of an instance with the access R435 gives it. -/
def instObj (o : ObjDef) (i : Nat) (rwp : Bool) : ObjDef :=
  { o with access := if 11 ≤ i then .rw else if 7 ≤ i && i ≤ 9 && rwp then .rwp else .ro }

/-- Whether two writers of a slot or actuator conflict (R423, R425): they do unless both combine alike by MAX or MIN. -/
def bindsClash (a b : Nat) : Bool :=
  let same := bitsOf 31 30 a == bitsOf 31 30 b && bitsOf 15 8 a == bitsOf 15 8 b && bitsOf 7 0 a == bitsOf 7 0 b
  let comb := bitsOf 31 30 a == 1 && bitsOf 29 28 a == bitsOf 29 28 b && bitsOf 29 28 a != 0
  (bitsOf 31 30 a == 1 || bitsOf 31 30 a == 2) && same && !comb

/-- The entries of an OutputBind. -/
def bindWords (b : Bytes) : List Nat := (List.range 4).map (fun j => fieldAt (4 * j) 4 b)

/-- Whether another enabled instance holds what a binding of instance `i` names (R423). -/
def State.bindHeld (s : State) (i : Nat) (b : Bytes) : Bool :=
  (List.range 16).any (fun a => a != i && s.instOn a
    && (bindWords (s.val Obj.outputBind a).toBytes).any (fun x => (bindWords b).any (fun y => bindsClash x y)))

/-- A write of LoopEnable (R417, R425, R431, R434). DEDUCED, log entry 86. -/
def loopEnableEffect (i v : Nat) : PxEffect := fun s =>
  if v = 0 then .ok ((s.setInst i { s.inst i with enabled := false }).setNat Obj.loopEnable 0 i)
  else if (s.inst i).enabled then .ok s
  else if s.bindHeld i (s.val Obj.outputBind i).toBytes then .refuse pxBusy
  else if 150000000 < s.loopCycles (((List.range 16).filter s.instOn) ++ [i]) then .refuse pxBusy
  else .ok ((s.instStart i).setNat Obj.loopEnable 1 i)

/-- LOOP_ENABLE (R417, R431, R434). -/
def execLoopEnable (t : Nat) (q : PxReq) (inst v : Nat) (s : State) : Host.Outcome State Fault Refusal :=
  .next ((s.tick t).pxWriteOld q (instObj Obj.loopEnable inst false) inst 0 1 (leBytes 1 v) (leBytes 1 (bitOf (s.instOn inst)))
    (loopEnableEffect inst v))

/-- LOOP_DISABLE (R417). -/
def execLoopDisable (t : Nat) (q : PxReq) (inst v : Nat) (s : State) : Host.Outcome State Fault Refusal :=
  let s := s.tick t
  .next (s.pxWriteOld q (instObj Obj.loopEnable inst false) inst 0 1 (leBytes 1 v) (leBytes 1 (bitOf (s.instOn inst)))
    (loopEnableEffect inst v))

/-- Whether a bank's values may be stored for an instance (R418, R419, R421): finite, UMIN not above UMAX, matching the
bindings where the bank is usable. -/
def State.bankFits (s : State) (i : Nat) (d : Bytes) : Bool :=
  let bind := (s.val Obj.inputBind i).toBytes
  (List.range 248).all (fun k => f32Finite (f32At (8 + 4 * k) d))
    && (List.range (min 4 (bankM d))).all (fun j => decide (f32Val (f32At (968 + 4 * j) d) ≤ f32Val (f32At (984 + 4 * j) d)))
    && (fieldAt 0 2 d != 1 || (bankUsable d && bankP d == (inputsOf bind 1).length && bankK d == (inputsOf bind 2).length))

/-- A write of a bank (R419, R435). -/
def bankEffect (i : Nat) (b : Bool) (d : Bytes) : PxEffect := fun s =>
  let k := if b then 1 else 0
  if (s.instOn i && (s.inst i).active = k) || (s.inst i).pend = some k then .refuse pxState
  else if !s.bankFits i d then .refuse pxRange
  else if i ≤ 9 then .defer
  else storeValue (if b then Obj.bankB else Obj.bankA) i 0 d s

/-- BANK_WRITE (R419). -/
def execBankWrite (t : Nat) (q : PxReq) (inst : Nat) (bankB : Bool) (d : Bytes) (s : State) : Host.Outcome State Fault Refusal :=
  .next ((s.tick t).pxBlock q (instObj (if bankB then Obj.bankB else Obj.bankA) inst true) inst 0 d (bankEffect inst bankB d))

/-- A write of BankRequest (R420). DEDUCED, log entry 86. -/
def bankRequestEffect (i v : Nat) : PxEffect := fun s =>
  if (s.inst i).active = v then .ok (s.setNat Obj.bankRequest v i)
  else if !bankUsable (s.bank i v) then .refuse pxRange
  else .ok ((s.setInst i { s.inst i with pend := some v }).setNat Obj.bankRequest v i)

/-- BANK_REQUEST (R420). -/
def execBankRequest (t : Nat) (q : PxReq) (inst v : Nat) (s : State) : Host.Outcome State Fault Refusal :=
  .next ((s.tick t).pxWriteNat q (instObj Obj.bankRequest inst false) inst 0 v (bankRequestEffect inst v))

/-- Whether an input binding entry is one of R421. -/
def inputEntryOk (e : Nat) : Bool :=
  let role := bitsOf 31 30 e
  let kind := bitsOf 15 8 e
  let idx := bitsOf 7 0 e
  bitsOf 29 16 e == 0 && (role == 0 || (role != 3 && ((kind == 1 && decide (idx ≤ 63)) || (kind == 2 && decide (1 ≤ idx) && decide (idx ≤ 0x10)))))

/-- A write of InputBind (R421, R423). -/
def inputBindEffect (i : Nat) (d : Bytes) : PxEffect := fun s =>
  let fits := fun (b : Bytes) => !bankUsable b || (bankP b == (inputsOf d 1).length && bankK b == (inputsOf d 2).length)
  if (s.inst i).enabled then .refuse pxState
  else if !(bindWords d).all inputEntryOk || !fits (s.bank i 0) || !fits (s.bank i 1) then .refuse pxRange
  else storeValue Obj.inputBind i 0 d s

/-- INPUT_BIND_WRITE (R421, R423). -/
def execInputBindWrite (t : Nat) (q : PxReq) (inst : Nat) (d : Bytes) (s : State) : Host.Outcome State Fault Refusal :=
  .next ((s.tick t).pxWrite q (instObj Obj.inputBind inst false) inst 0 11 d (inputBindEffect inst d))

/-- Actuator codes of R422. -/
def actuatorCode (c : Nat) : Bool := (1 ≤ c && c ≤ 6) || c == 0x10 || c == 0x11 || c == 0x20 || c == 0x30 || c == 0x31

/-- Whether an output binding entry is well formed (R422): a set-point of an instance, an actuator, publication only. -/
def outputEntryOk (e : Nat) : Bool :=
  let kind := bitsOf 31 30 e
  let tgt := bitsOf 15 8 e
  let slot := bitsOf 7 0 e
  kind != 3 && bitsOf 27 16 e == 0 && bitsOf 29 28 e != 3
    && (kind != 1 || (decide (tgt < 16) && decide (1 ≤ slot) && decide (slot ≤ 4))) && (kind != 2 || (actuatorCode tgt && slot == 0))

/-- The length of the longest chain of set-point bindings from an instance, at most `n` long (R424). -/
def chainLen (bind : Nat → Bytes) : Nat → Nat → Nat
  | 0, _ => 0
  | n + 1, i =>
    1 + ((bindWords (bind i)).map (fun e => if bitsOf 31 30 e = 1 then chainLen bind n (bitsOf 15 8 e) else 0)).foldl max 0

/-- Whether the cascades of a binding hold R424. -/
def State.cascadeOk (s : State) (i : Nat) (d : Bytes) : Bool :=
  let bind := fun (a : Nat) => if a = i then d else (s.val Obj.outputBind a).toBytes
  (bindWords d).all (fun e => bitsOf 31 30 e != 1 || (
      let inner := s.rateD (bitsOf 15 8 e)
      s.rateD i % inner == 0 && decide (1 ≤ s.rateD i / inner) && decide (s.rateD i / inner ≤ 256)))
    && (List.range 16).all (fun a => decide (chainLen bind 5 a ≤ 4))

/-- Whether a binding names what belongs to the shipped instances (R423, R441, R448). -/
def shippedTarget (e : Nat) : Bool :=
  (bitsOf 31 30 e == 2 && bitsOf 15 8 e != 0x20) || (bitsOf 31 30 e == 1 && decide (bitsOf 15 8 e ≤ 10) && bitsOf 15 8 e != 9)

/-- A write of OutputBind (R422 to R425). -/
def outputBindEffect (i : Nat) (d : Bytes) : PxEffect := fun s =>
  if (s.inst i).enabled then .refuse pxState
  else if !(bindWords d).all outputEntryOk || !s.cascadeOk i d then .refuse pxRange
  else if (bindWords d).any shippedTarget || s.bindHeld i d then .refuse pxBusy
  else if (bindWords d).any (fun e => bitsOf 31 30 e == 2 && bitsOf 15 8 e == 0x20) && s.nat Obj.thermalMode != 2 then .refuse pxState
  else storeValue Obj.outputBind i 0 d s

/-- OUTPUT_BIND_WRITE (R422 to R425). -/
def execOutputBindWrite (t : Nat) (q : PxReq) (inst : Nat) (d : Bytes) (s : State) : Host.Outcome State Fault Refusal :=
  .next ((s.tick t).pxWrite q (instObj Obj.outputBind inst false) inst 0 11 d (outputBindEffect inst d))

/-- A write of a set-point slot (R424, R426). DEDUCED, log entry 87. -/
def setpointEffect (i j : Nat) (v : BitVec 32) : PxEffect := fun s =>
  if !(s.writers i j).isEmpty then .refuse pxBusy else .ok (s.setVal Obj.setpoint (.f32 v) i j)

/-- SETPOINT_WRITE (R424, R426). -/
def execSetpointWrite (t : Nat) (q : PxReq) (inst slot : Nat) (v : BitVec 32) (s : State) : Host.Outcome State Fault Refusal :=
  .next ((s.tick t).pxWrite q (instObj Obj.setpoint inst false) inst (slot - 1) 9 (f32Bytes v) (setpointEffect inst (slot - 1) v))

/-- THERMAL_SETPOINT_UPDATE (R441): once a second, while T_ref exists. -/
def execThermalSetpointUpdate (t : Nat) (s : State) : Host.Outcome State Fault Refusal :=
  let s := s.tick t
  match s.tRef with
  | none => .next s
  | some r =>
    let v := f32Of (s.rat Obj.thermalCoreSetpoint - r)
    .next ((s.setVal Obj.setpoint (.f32 v) 7 0).setVal Obj.setpoint (.f32 v) 8 0)

/-- FAN_STALL (R445, R449). -/
def execFanStall (t fan : Nat) (s : State) : Host.Outcome State Fault Refusal :=
  let s := s.tick t
  .next ({ s with lp := { s.lp with stalled := setInsert s.lp.stalled fan, stallOkSince := KMap.del s.lp.stallOkSince fan } }.raise 0x58)

/-- CoolingStatus (R451). -/
def State.coolingStatus (s : State) : Nat :=
  let fail := [7, 8, 9].any (fun i => s.instOn i && ((s.inst i).inputLost || (s.inst i).numeric))
  s.nat Obj.thermalMode % 4 + 4 * packBits [fail, s.lp.ntcRule, s.lp.coreHot, s.lp.stalled.contains 1, s.lp.stalled.contains 2, s.lp.valveFault]

end Sys2Proof.Machine
end

