-- ==== Sys2Proof/Machine/Supplies.lean ====
section
/-! DEFINITION. Connectors and supplies: the J4 harness, unused channels, populated cells, SENT supplies, the valve loop, transfer
cut-offs, the WAKE-path test, the USB port (R82 to R90, R102, R110 to R116). -/
namespace Sys2Proof.Machine

/-- J4_PRESENCE_CHECK (R3, R29, R31, R102): the report changes after three readings in succession that agree. -/
def execJ4PresenceCheck (t : Nat) (ohms : Rat) (s : State) : Host.Outcome State Fault Refusal :=
  let s := s.tick t
  let now := s.flag Obj.j4Present
  let agrees := if now then decide (1000 < ohms) else decide (ohms < 100)
  let n := if agrees then s.supply.j4Run + 1 else 0
  if n < 3 then .next { s with supply := { s.supply with j4Run := n } }
  else .next ({ s with supply := { s.supply with j4Run := 0 } }.setNat Obj.j4Present (bitOf (!now))).eligibilityCheck

/-- UNUSED_CHANNEL_CHECK (R84): readings in µV of the unused channels; the source and POPMISMATCH rise after three bad
readings and fall after three good ones. -/
def execUnusedChannelCheck (t : Nat) (readings : List Int) (s : State) : Host.Outcome State Fault Refusal :=
  let s := s.tick t
  let s := s.setRat Obj.unusedChannelMax (((readings.foldl (fun a v => max a v.natAbs) 0 : Nat) : Rat) / 1000000)
  let bad := readings.any (fun v => decide (5000 < v.natAbs))
  let nb := if bad then s.supply.unusedBad + 1 else 0
  let ng := if bad then 0 else s.supply.unusedGood + 1
  let s := { s with supply := { s.supply with unusedBad := nb, unusedGood := ng } }
  if 3 ≤ nb then .next ({ s with supply := { s.supply with popMismatch := true } }.raise 0x1A)
  else if 3 ≤ ng then .next ({ s with supply := { s.supply with popMismatch := false } }.lower 0x1A)
  else .next s

/-- A write of PopulatedCells (R85): only in STANDBY or MAINTENANCE; pack memory first (R541), then the boundary. -/
def populatedCellsEffect : PxEffect := fun s =>
  if s.md.mode == .standby || s.md.mode == .maintenance then .defer else .refuse pxState

/-- POPULATED_CELLS_WRITE (R85). -/
def execPopulatedCellsWrite (t : Nat) (q : PxReq) (v : Nat) (s : State) : Host.Outcome State Fault Refusal :=
  .next ((s.tick t).pxWriteNat q Obj.populatedCells 0 0 v populatedCellsEffect)

/-- POPULATED_CELLS_APPLY (R83, R85, R209): the value waiting takes effect and every populated channel settles; the round of
tests begins anew (DEDUCED, log entry 35). -/
def execPopulatedCellsApply (t : Nat) (s : State) : Host.Outcome State Fault Refusal :=
  let s := s.tick t
  match s.supply.popPending with
  | none => .next s
  | some n =>
    let s := { s with supply := { s.supply with popPending := none } }.setNat Obj.populatedCells n
    let s := { s with
      itg := { s.itg with pos := 0, failedIn := [] }
      bal := { s.bal with
        targets := s.bal.targets.filter (fun e => decide (e.1 ≤ n))
        fly := s.bal.fly.map (fun (e : Nat × FlybackSt) =>
          (e.1, if n < e.2.sel then { e.2 with on := false, sel := 0, icell := 0, limit := 0 } else e.2)) } }
    .next ((s.settle s.cells false s.ringTime).balUpdate)

/-- SENT_SUPPLY_LIMIT (R89, R116). -/
def execSentSupplyLimit (t k : Nat) (s : State) : Host.Outcome State Fault Refusal :=
  let s := s.tick t
  if !KMap.get s.supply.sentOn k false then .next s
  else
    let fails := if KMap.has s.supply.sentCut k then KMap.get s.supply.sentCut k 0 else 0
    .next (({ s with supply := { s.supply with
      sentCut := KMap.set s.supply.sentCut k fails, sentRetryAt := KMap.set s.supply.sentRetryAt k (s.now + 1000000000) } }).sentSupplyOff k)

/-- SENT_SUPPLY_RETRY (R89, R621): `limiting` says that the supply reached its limit again; the fifth failure is final. -/
def execSentSupplyRetry (t k : Nat) (limiting : Bool) (s : State) : Host.Outcome State Fault Refusal :=
  let s := s.tick t
  if !KMap.has s.supply.sentCut k || 5 ≤ KMap.get s.supply.sentCut k 0 || !s.sentOn k || !s.md.mode.runs || s.supply.loadsShed
      || s.now < KMap.get s.supply.sentRetryAt k 0 then .next s
  else if limiting then
    let n := KMap.get s.supply.sentCut k 0 + 1
    let s := { s with supply := { s.supply with
      sentCut := KMap.set s.supply.sentCut k n, sentRetryAt := KMap.set s.supply.sentRetryAt k (s.now + 1000000000) } }
    .next (if n = 5 then s.raise 0x78 else s)
  else
    .next (({ s with supply := { s.supply with
      sentCut := KMap.del s.supply.sentCut k, sentRetryAt := KMap.del s.supply.sentRetryAt k } }).sentSupplyOn k)

/-- VALVE_OPEN_DETECT (R90, R116): the readback in mA of the last 100 ms; the bit follows the condition. -/
def execValveOpenDetect (t : Nat) (readback : Rat) (s : State) : Host.Outcome State Fault Refusal :=
  let s := (s.tick t).setRat Obj.valveReadback readback
  let cmd := s.rat Obj.valveCommand
  if 4 ≤ cmd ∧ readback < cmd * (9 / 10) then
    .next { s with supply := { s.supply with valveOpenSince := some (s.supply.valveOpenSince.getD s.now) } }
  else
    .next ({ s with supply := { s.supply with valveOpenSince := none }, lp := { s.lp with valveFault := false } }.lower 0x59)

/-- VALVE_LOOP_FAULT (R446, R449): VALVE_OPEN held for 10 s, with the valve selected. -/
def execValveLoopFault (t : Nat) (s : State) : Host.Outcome State Fault Refusal :=
  let s := s.tick t
  match s.supply.valveOpenSince with
  | none => .next s
  | some e =>
    if s.now < e + 10000000000 ∨ bitsOf 2 2 (s.nat Obj.thermalActuators) = 0 then .next s
    else .next ({ s with lp := { s.lp with valveFault := true } }.raise 0x59)

/-- TRANSFER_EXPORT_CUTOFF (R112): AUX24 in V. -/
def execTransferExportCutoff (t : Nat) (aux24 : Rat) (s : State) : Host.Outcome State Fault Refusal :=
  let s := (s.tick t).setRat Obj.aux24Voltage aux24
  let lim := s.rat Obj.transferExportLimit
  let stop := if s.supply.exportStopped then decide (lim - 1 / 2 < aux24) else decide (lim ≤ aux24)
  .next { s with
    supply := { s.supply with exportStopped := stop }
    bal := { s.bal with
      transferCmd := if stop then maxQ 0 s.bal.transferCmd else s.bal.transferCmd
      transferOn := s.bal.transferOn && !(stop && decide (s.bal.transferLimit < 0)) } }

/-- TRANSFER_IMPORT_CUTOFF (R290): AUX24 in V. -/
def execTransferImportCutoff (t : Nat) (aux24 : Rat) (s : State) : Host.Outcome State Fault Refusal :=
  let s := (s.tick t).setRat Obj.aux24Voltage aux24
  let lim := s.rat Obj.transferImportMinAux
  let stop := if s.supply.importStopped then decide (aux24 < lim + 1 / 2) else decide (aux24 < lim)
  .next { s with
    supply := { s.supply with importStopped := stop }
    bal := { s.bal with
      transferCmd := if stop then minQ 0 s.bal.transferCmd else s.bal.transferCmd
      transferOn := s.bal.transferOn && !(stop && decide (0 < s.bal.transferLimit)) } }

/-- Whether a loopback test is due (R114): at start-up, then every WakeTestPeriod hours in STANDBY, ONLINE and
MAINTENANCE. -/
def State.loopbackDue (s : State) : Bool :=
  let p := s.nat Obj.wakeTestPeriod * 3600000000000
  match s.supply.lastLoopback with
  | none => true
  | some e => p != 0 && decide (e + p ≤ s.now) && (s.md.mode == .standby || s.md.mode == .online || s.md.mode == .maintenance)

/-- WAKE_LOOPBACK_TEST (R113, R114, R624): SE8 gives up its comparator, its frame in progress and its message in assembly. -/
def execWakeLoopbackTest (t : Nat) (s : State) : Host.Outcome State Fault Refusal :=
  let s := s.tick t
  if s.supply.loopbackSince.isSome || !s.loopbackDue || !(s.md.mode.runs || s.md.mode == .startup) then .next s
  else
    let c := s.sentCh 8
    let s := { s with supply := { s.supply with loopbackSince := some s.now, lastLoopback := some s.now } }
    .next ((s.setSent 8 { c with loopback := true, prev := none }).sentDiscard 8)

/-- WAKE_LOOPBACK_END (R114, R624): the result; SE8 decodes again from its next calibration pulse, its timeout count goes on. -/
def execWakeLoopbackEnd (t : Nat) (ok : Bool) (s : State) : Host.Outcome State Fault Refusal :=
  let s := s.tick t
  match s.supply.loopbackSince with
  | none => .next s
  | some e =>
    let c := s.sentCh 8
    let s := { s with supply := { s.supply with loopbackSince := none } }
    let s := s.setSent 8 { c with loopback := false, prev := none, lastValid := c.lastValid + (s.now - e) }
    let s := s.setNat Obj.wakeTestResult (if ok then 1 else 2)
    .next (s.follow 0x1B (!ok))

/-- USB_ATTACH (R110): in the modes where the port runs. -/
def execUsbAttach (t : Nat) (s : State) : Host.Outcome State Fault Refusal :=
  let s := s.tick t
  if s.md.mode.runs || s.md.recovery then .next { s with mgmt := { s.mgmt with usb := true } } else .next s

/-- USB_DETACH (R110). -/
def execUsbDetach (t : Nat) (s : State) : Host.Outcome State Fault Refusal :=
  let s := s.tick t
  .next { s with mgmt := { s.mgmt with usb := false } }

/-- SupplyStatus (R116). DEDUCED, log entry 99. -/
def State.supplyStatus (s : State) : Nat :=
  packBits ((List.range 8).map (fun k => KMap.has s.supply.sentCut (k + 1))
    ++ [s.supply.valveOpenSince.isSome, s.supply.pmSup, s.supply.fluxSup])

end Sys2Proof.Machine
end

