-- ==== Sys2Proof/Machine/HeadIo.lean ====
section
/-! DEFINITION. String head I/O and protection: current channels, taps, insulation monitor, trip loop, contactor sequences,
protection conditions, release to service, limits for the PCS, the protection set (R321 to R365, R706, R709, R710). -/
namespace Sys2Proof.Machine

/-- The end of a capture trigger's command: the stream of the auxiliary converter may start (R231). -/
def State.afterTrigger (s : State) : State := s.auxStart

/-- SHORT_CIRCUIT_TRIP (R324, R339, R341): the comparator latches, the loop source goes off, the notice and the source follow. -/
def execShortCircuitTrip (t : Nat) (amps : Rat) (s : State) : Host.Outcome State Fault Refusal :=
  let s := s.tick t
  if !s.isHead || s.hio.scLatch || !s.md.mode.runs || absQ amps ≤ s.rat Obj.shortCircuitLevel then .next s
  else
    let closed := s.loopDriven
    let s := { s with hio := { s.hio with scLatch := true } }
    let s := if closed then s.tripNotice 6 else s
    .next (s.raise 0x4B).afterTrigger

/-- CURRENT_CHECK (R327, R328): means of both channels over 100 ms, none where every output was left out. -/
def execCurrentCheck (t : Nat) (shunt flux : Option Rat) (s : State) : Host.Outcome State Fault Refusal :=
  let s := s.tick t
  if !s.isHead then .next s
  else if s.hio.shuntFault || s.hio.fluxFault then
    .next ({ s with hio := { s.hio with curDev := 0, curAgree := 0, curDisagree := false } }.lower 0x40)
  else match shunt, flux with
  | some a, some b =>
    let dev := decide (absQ a / 50 + s.rat Obj.currentCheckFloor < absQ (a - b))
    let nd := if dev then s.hio.curDev + 1 else 0
    let na := if dev then 0 else s.hio.curAgree + 1
    let dis := if 3 ≤ nd then true else if 3 ≤ na then false else s.hio.curDisagree
    let s := { s with hio := { s.hio with curDev := min nd 3, curAgree := min na 3, curDisagree := dis } }
    .next ((s.follow 0x40 dis).afterTrigger)
  | _, _ => .next s

/-- The channel in use after a change (R326, R328): its first output will carry SETTLE. -/
def State.selectChannel (s : State) : State :=
  let c := s.currentChannel
  if c = s.nat Obj.currentInUse then s
  else { s with meas := { s.meas with currentChanged := true } }.setNat Obj.currentInUse c

/-- CURRENT_CHANNEL_FAULT (R326, R327, R328): held until start-up; the other channel, or a prompt open where both have failed. -/
def execCurrentChannelFault (t : Nat) (flux : Bool) (s : State) : Host.Outcome State Fault Refusal :=
  let s := s.tick t
  if !s.isHead then .next s
  else
    let s := { s with hio := { s.hio with
      shuntFault := s.hio.shuntFault || !flux, fluxFault := s.hio.fluxFault || flux, curDev := 0, curAgree := 0,
      curDisagree := false } }.lower 0x40
    let s := s.selectChannel
    let s := if s.currentChannel = 2 then s.promptOpen else s
    .next (s.raise (if flux then 0x42 else 0x41)).afterTrigger

/-- ModuleSumVoltage in V (R332): ΣC of the own pack and of every measured one. -/
def State.moduleSum (s : State) : Rat :=
  let own : Int := s.itg.sumC.getD 0
  let sum : Int := (s.others.filter (fun e => e.2.measured)).foldl (fun a e => a + e.2.sumC) own
  (sum : Rat) / 1000000

/-- STRING_VOLTAGE_CHECK (R332): a disagreement that lasts 1 s raises its source and opens promptly. -/
def execStringVoltageCheck (t : Nat) (stringVoltage : Rat) (s : State) : Host.Outcome State Fault Refusal :=
  let s := s.tick t
  if !s.isHead || !s.allMeasured then .next { s with hio := { s.hio with svDisagreeSince := none } }
  else
    let sum := s.moduleSum
    let s := s.setRat Obj.moduleSumVoltage sum
    if sum / 200 + 5 < absQ (stringVoltage - sum) then
      let since := s.hio.svDisagreeSince.getD s.now
      let s := { s with hio := { s.hio with svDisagreeSince := some since } }
      if since + 1000000000 ≤ s.now ∧ 0x43 ∉ s.flt.active then .next (s.promptOpen.raise 0x43).afterTrigger else .next s
    else .next ({ s with hio := { s.hio with svDisagreeSince := none } }.lower 0x43)

/-- Whether the monitor runs (R337). -/
def State.isoAllowed (s : State) : Bool :=
  s.isHead && s.md.mode.runs &&
    (match s.nat Obj.isoMode with
      | 0 => false
      | 1 => true
      | _ => s.hio.contactor == 0 || s.hio.contactor == 5)

/-- A switching of the bias (R331). -/
def State.biasSwitch (s : State) (st : Nat) : State :=
  if s.hio.isoState = st then s
  else
    { s with
      hio := { s.hio with isoState := st, isoSince := s.now }
      meas := { s.meas with biasUntil := s.ringTime + 50000000 } }

/-- Stops the monitor where its mode no longer lets it run; the cycle in progress is not evaluated (R337). -/
def State.isoGate (s : State) : State :=
  if s.isoAllowed then s else { (s.biasSwitch 0) with hio := { (s.biasSwitch 0).hio with isoA := none } }

/-- The two pole resistances of a cycle in Ω, at most 1e9, none where it is not evaluated (R335). DEDUCED, log entry 58. -/
def isoSolve (vp1 vn1 vp2 vn2 : Rat) : Option (Rat × Rat) :=
  let u1 := vp1 + vn1
  let u2 := vp2 + vn2
  let d := vn1 * vp2 - vp1 * vn2
  if u1 < 50 ∨ u2 < 50 ∨ d ≤ 0 then none
  else
    let rb : Rat := 2000000
    let rm : Rat := 4000000
    let pole := fun (g : Rat) => if g - 1 / rm ≤ 0 then (1000000000 : Rat) else minQ 1000000000 (1 / (g - 1 / rm))
    some (pole (1 / rb * vn2 * u1 / d), pole (1 / rb * vp1 * u2 / d))

/-- Riso of two pole resistances (R335); a pole at infinity leaves the other alone. -/
def isoPar (rp rn : Rat) : Rat :=
  if rp = 1000000000 then rn else if rn = 1000000000 then rp else if rp + rn = 0 then 0 else rp * rn / (rp + rn)

/-- The flags of R338 after an evaluated cycle, with the sources. -/
def State.isoJudge (s : State) (r : Rat) : State :=
  let w := s.rat Obj.isoWarn
  let a := s.rat Obj.isoAlarm
  let nw := if r < w then s.hio.isoWarnRun + 1 else 0
  let cw := if w * 6 / 5 < r then s.hio.isoWarnClr + 1 else 0
  let na := if r < a then s.hio.isoAlarmRun + 1 else 0
  let ca := if a * 6 / 5 < r then s.hio.isoAlarmClr + 1 else 0
  let warn := if 2 ≤ nw then true else if 2 ≤ cw then false else s.hio.isoWarn
  let alarm := if 2 ≤ na then true else if 2 ≤ ca then false else s.hio.isoAlarm
  let fresh := alarm && !s.hio.isoAlarm
  let s := { s with hio := { s.hio with
    isoWarnRun := min nw 2, isoWarnClr := min cw 2, isoAlarmRun := min na 2, isoAlarmClr := min ca 2, isoWarn := warn,
    isoAlarm := alarm } }
  let s := if fresh && s.flag Obj.isoAlarmAction then s.promptOpen else s
  (s.follow 0x44 warn).follow 0x45 alarm

/-- ISO_STATE_END (R331, R334, R335, R337, R338): means of Vp and Vn over the last 100 ms of the state; the bias goes to the
other pole, and at the end of B the cycle is evaluated. -/
def execIsoStateEnd (t : Nat) (settled : Bool) (vp vn : Rat) (s : State) : Host.Outcome State Fault Refusal :=
  let s := s.tick t
  if !s.isoAllowed then .next s.isoGate
  else if s.hio.isoState = 0 then .next ({ s with hio := { s.hio with isoA := none } }.biasSwitch 1)
  else if s.now < s.hio.isoSince + (if settled then s.nat Obj.isoStateMin else s.nat Obj.isoStateMax) * 1000000 then .next s
  else if s.hio.isoState = 1 then
    .next ({ s with hio := { s.hio with isoA := if settled then some (vp, vn) else none, isoUnsettled := !settled } }.biasSwitch 2)
  else
    let first := s.hio.isoA
    let s := { s with hio := { s.hio with isoA := none, isoUnsettled := s.hio.isoUnsettled || !settled } }.biasSwitch 1
    match first, settled with
    | some (vp1, vn1), true => match isoSolve vp1 vn1 vp vn with
      | some (rp, rn) =>
        let r := isoPar rp rn
        let s := ((s.setRat Obj.isoRp rp).setRat Obj.isoRn rn).setRat Obj.isoRiso r
        let s := { s with hio := { s.hio with isoEval := some (s.now, 0) } }
        .next (s.isoJudge r).afterTrigger
      | none => .next s
    | _, _ => .next s

/-- TRIP_LOOP_LOSS (R340, R343, R353, R706): every coil cut in hardware and latched; in the head the sequence is abandoned,
the string is tripped, zero limits go out and the notice is awaited for 10 ms. -/
def execTripLoopLoss (t : Nat) (s : State) : Host.Outcome State Fault Refusal :=
  let s := s.tick t
  if s.ident.role == .segment || !s.md.mode.runs then .next s
  else
    let s := { s with hio := { s.hio with coilCut := true, loopOkSince := none } }.releaseCoils
    if !s.isHead then .next s
    else
      let s := { s with hio := { s.hio with
        closeStep := 0, openStep := 0, contactor := if s.hio.weld then 6 else 5, resetSent := false } }
      let s := if s.md.mode == .online then s.enterMode .standby 4 else s
      let s := s.sendLimit 0 0
      match s.hio.tripHeard with
      | some (n, c, at0) =>
        if s.now ≤ at0 + 10000000 then
          .next ({ s with hio := { s.hio with tripWaitEnd := none } }.setNat Obj.tripNode n |>.setNat Obj.tripCause c)
        else .next { s with hio := { s.hio with tripWaitEnd := some (s.now + 10000000) } }
      | none => .next { s with hio := { s.hio with tripWaitEnd := some (s.now + 10000000) } }

/-- TRIP_NOTICE_WAIT_EXPIRY (R343): no notice came in 10 ms; an unexplained loop loss, tripped, zero limits. -/
def execTripNoticeWaitExpiry (t : Nat) (s : State) : Host.Outcome State Fault Refusal :=
  let s := s.tick t
  match s.hio.tripWaitEnd with
  | none => .next s
  | some e =>
    if s.now < e then .next s
    else
      let s := { s with hio := { s.hio with tripWaitEnd := none, contactor := if s.hio.weld then 6 else 5 } }
      .next (((s.setNat Obj.tripNode 0).setNat Obj.tripCause 0).sendLimit 0 0)

/-- What a TRIP notice does, by ring or bus (R343, R506, R631, R641): a first copy is an episode and may trigger a capture;
the head records it in its wait after a loop loss. -/
def State.takeTrip (s : State) (via : NoticeVia) (n : Notice) : State :=
  let r := s.noticeRx via 1 n
  if !r.2 then r.1
  else
    let s := r.1.episode 3 n.node n.code 0
    let s := if s.flag Obj.captureOnTrip then s.captureTrigger 2 n.node n.code n.time false else s
    let s := if !s.isHead then s
      else match s.hio.tripWaitEnd with
      | some e =>
        if s.now ≤ e then
          ({ s with hio := { s.hio with tripWaitEnd := none } }.setNat Obj.tripNode n.node).setNat Obj.tripCause n.code
        else s
      | none => { s with hio := { s.hio with tripHeard := some (n.node, n.code, s.now) } }
    s.afterTrigger

/-- TRIP (R343, R506, R631, R641). -/
def execTrip (t : Nat) (via : NoticeVia) (n : Notice) (s : State) : Host.Outcome State Fault Refusal :=
  .next ((s.tick t).takeTrip via n)

/-- The cause code of a condition's quantity (R341). -/
def protCause (c : ProtCond) : Nat :=
  match c.qty with
  | .cellHigh => 1 | .cellLow => 2 | .tempHigh => 3 | .tempLow => 4 | .chargeCurrent => 5 | .dischargeCurrent => 5
  | .stringVoltage => 7

/-- Whether the module evaluates a quantity (R357): current and string voltage in the head only. -/
def State.evaluates (s : State) (c : ProtCond) : Bool :=
  s.md.mode.runs &&
    (match c.qty with
      | .chargeCurrent | .dischargeCurrent | .stringVoltage => s.isHead
      | _ => true)

/-- An own open-level condition is held. -/
def State.openHeld (s : State) : Bool := s.hio.held.any (fun c => c.level == .open)

/-- An own trip-level condition is held. -/
def State.tripHeld (s : State) : Bool := s.hio.held.any (fun c => c.level == .trip)

/-- Protection-open follows the own and the remote open-level conditions in the head (R358, R709). -/
def State.followOpen (s : State) : State := s.follow 0x49 (s.isHead && (s.openHeld || !s.hio.remoteOpen.isEmpty))

/-- PROTECTION_DELAY_EXPIRY (R341, R357, R358): a condition has held for its delay: a warn level acts through the limits
only, an open level asks for a prompt open, a trip level opens the loop. -/
def execProtectionDelayExpiry (t : Nat) (c : ProtCond) (s : State) : Host.Outcome State Fault Refusal :=
  let s := s.tick t
  if !s.evaluates c || s.hio.held.contains c then .next s
  else
    let closed := s.loopDriven
    let s := { s with hio := { s.hio with held := s.hio.held ++ [c] } }
    match c.level with
    | .warn => .next s
    | .open =>
      let s := { s with hio := { s.hio with openReqAt := some (s.now + 1000000000) } }
      .next ((if s.isHead then s.promptOpen.followOpen else s.sendNotice 2 (protCause c) 0 s.ringTime).afterTrigger)
    | .trip =>
      let s := { s with hio := { s.hio with tripLatch := true } }
      let s := if closed then s.tripNotice (protCause c) else s
      .next (s.raise 0x4A).afterTrigger

/-- PROTECTION_RELEASE (R342, R357, R709): the condition is released; a switch held open waits for the trip reset. -/
def execProtectionRelease (t : Nat) (c : ProtCond) (s : State) : Host.Outcome State Fault Refusal :=
  let s := s.tick t
  let s := { s with hio := { s.hio with held := s.hio.held.filter (fun x => x != c) } }
  let s := if s.openHeld then s else { s with hio := { s.hio with openReqAt := none } }
  let s := if s.tripHeld then s else s.lower 0x4A
  .next s.followOpen

/-- OPEN_REQ_REPEAT (R358): the request goes out again every 1 s while an open level is held. -/
def execOpenReqRepeat (t : Nat) (s : State) : Host.Outcome State Fault Refusal :=
  let s := s.tick t
  match s.hio.openReqAt with
  | none => .next s
  | some e =>
    if s.now < e || s.isHead || !s.openHeld then .next s
    else
      let s := { s with hio := { s.hio with openReqAt := some (s.now + 1000000000) } }
      .next ((s.hio.held.filter (fun c => c.level == .open)).foldl (fun (st : State) c => st.sendNotice 2 (protCause c) 0 st.ringTime) s)

/-- What an OPEN_REQ notice does (R351, R353, R358): the head opens promptly, and counts the remote condition as held. -/
def State.takeOpenReq (s : State) (via : NoticeVia) (n : Notice) : State :=
  let r := s.noticeRx via 2 n
  if !r.2 || !r.1.isHead then r.1
  else
    let s := { r.1 with hio := { r.1.hio with remoteOpen := KMap.set r.1.hio.remoteOpen n.node r.1.now } }
    s.promptOpen.followOpen.afterTrigger

/-- OPEN_REQ (R351, R353, R358). -/
def execOpenReq (t : Nat) (via : NoticeVia) (n : Notice) (s : State) : Host.Outcome State Fault Refusal :=
  .next ((s.tick t).takeOpenReq via n)

/-- OPEN_REQ_HOLD_EXPIRY (R358, R709): 2 s without a request of the module. -/
def execOpenReqHoldExpiry (t node : Nat) (s : State) : Host.Outcome State Fault Refusal :=
  let s := s.tick t
  if KMap.has s.hio.remoteOpen node && decide (KMap.get s.hio.remoteOpen node 0 + 2000000000 ≤ s.now) then
    .next { s with hio := { s.hio with remoteOpen := KMap.del s.hio.remoteOpen node } }.followOpen
  else .next s

/-- What a trip reset does in a module (R324, R342): a switch or source held by a released condition closes again, the
short-circuit latch clears. -/
def State.takeReset (s : State) : State :=
  let s := if s.hio.scLatch then { s with hio := { s.hio with scLatch := false } }.lower 0x4B else s
  if s.tripHeld then s else { s with hio := { s.hio with tripLatch := false } }

/-- The effect of an accepted write of TripReset (R342, R710). -/
def tripResetEffect : PxEffect := fun s =>
  if !s.isHead then .refuse pxNotHead
  else
    let s := s.sendNotice 5 0 0 s.ringTime
    .ok { s with hio := { s.hio with resetSent := true } }.takeReset

/-- TRIP_RESET_COMMAND (R342, R710). -/
def execTripResetCommand (t : Nat) (q : PxReq) (v : Nat) (s : State) : Host.Outcome State Fault Refusal :=
  .next ((s.tick t).pxWriteNat q Obj.tripReset 0 0 v tripResetEffect)

/-- What a TRIP_RESET notice does (R324, R339, R342). -/
def State.takeTripReset (s : State) (via : NoticeVia) (n : Notice) : State :=
  let r := s.noticeRx via 5 n
  if r.2 then r.1.takeReset else r.1

/-- TRIP_RESET (R324, R339, R342): a trip reset of the head arrived. -/
def execTripReset (t : Nat) (via : NoticeVia) (n : Notice) (s : State) : Host.Outcome State Fault Refusal :=
  .next ((s.tick t).takeTripReset via n)

/-- Whether the loop current has stayed at or above 8.0 mA for 100 ms (R340, R344). -/
def State.loopGood (s : State) : Bool :=
  match s.hio.loopOkSince with
  | some e => decide (e + 100000000 ≤ s.now)
  | none => false

/-- TRIPPED_CLEAR (R344): reset sent, loop current back for 100 ms, every coil released. -/
def execTrippedClear (t : Nat) (s : State) : Host.Outcome State Fault Refusal :=
  let s := s.tick t
  if s.isHead && s.hio.contactor == 5 && s.hio.resetSent && s.loopGood && !s.hio.mainPos && !s.hio.mainNeg && !s.hio.prechg then
    .next { s with hio := { s.hio with contactor := 0 } }
  else .next s

/-- Seconds since the last evaluated insulation cycle, none where none is known (R335). -/
def State.isoAgeNow (s : State) : Option Nat := s.hio.isoEval.map (fun e => e.2 + (s.now - e.1) / 1000000000)

/-- The own pack meets the conditions of R345 other than release. -/
def State.selfReady (s : State) : Bool := s.itg.roundDone && !s.supply.popMismatch

/-- The refusal code of a close command, 0 where it is accepted (R346); a standby counts once it has accepted a checkpoint
(R598). -/
def State.closeCode (s : State) : Nat :=
  let released := (s.others.filter (fun e => e.2.state == 1 && e.2.released && e.2.mode == 3)).length
  let iso := s.nat Obj.isoMode == 0 || (match s.isoAgeNow with | some a => decide (a < 300) | none => false)
  if s.md.mode != .standby then 9
  else if s.hio.contactor ≠ 0 then 10
  else if s.flt.handoverStep ≠ 0 then 11
  else if released + 1 < s.wanted || !s.selfReady then 1
  else if !s.loopGood then 2
  else if s.openHeld || s.tripHeld || !s.hio.remoteOpen.isEmpty then 3
  else if s.hio.isoAlarm || !iso then 4
  else if s.currentChannel = 2 then 5
  else if s.hio.weld || s.hio.lockoutEnd.isSome || s.hio.coilFault then 6
  else if s.rat Obj.stringVoltageMax < (s.stringCells : Nat) * s.rat Obj.cellOvTrip then 7
  else if s.nat Obj.configuration == 1 && (s.ident.standbyPack == 0 || !s.ident.standbyReady) then 8
  else 0

/-- The effect of a write of 1 to ContactorCommand (R346, R347, R710). -/
def closeEffect : PxEffect := fun s =>
  if !s.isHead then .refuse pxNotHead
  else
    let c := s.closeCode
    let s := s.setNat Obj.closeRefusal c
    if c ≠ 0 then .refuseIn s pxState
    else
      let s := { s with hio := { s.hio with
        contactor := 1, closeStep := 2, openStep := 0, stepStart := s.now, linkHeld := false, coilCut := false } }
      .ok (s.isoGate.sendLimit 0 0)

/-- The effect of a write of 2 to ContactorCommand (R351, R353, R710): accepted without change while open, tripped, welded or
opening; refused while a handover runs (R607). -/
def openEffect : PxEffect := fun s =>
  if !s.isHead then .refuse pxNotHead
  else if s.flt.handoverStep ≠ 0 then .refuse pxState
  else .ok s.orderlyOpen

/-- The effect of a write of ContactorCommand. -/
def contactorEffect (v : Nat) : PxEffect := if v = 1 then closeEffect else openEffect

/-- CONTACTOR_CLOSE (R346, R347, R353). -/
def execContactorClose (t : Nat) (q : PxReq) (v : Nat) (s : State) : Host.Outcome State Fault Refusal :=
  .next ((s.tick t).pxWriteNat q Obj.contactorCommand 0 0 v (contactorEffect v))

/-- CONTACTOR_OPEN (R351, R353). -/
def execContactorOpen (t : Nat) (q : PxReq) (v : Nat) (s : State) : Host.Outcome State Fault Refusal :=
  .next ((s.tick t).pxWriteNat q Obj.contactorCommand 0 0 v (contactorEffect v))

/-- The next step of a sequence begins now. -/
def State.closeTo (s : State) (k : Nat) : State := { s with hio := { s.hio with closeStep := k, stepStart := s.now } }

/-- A weld verdict (R348): the source is raised, the loop source opens, ContactorState stays welded until start-up. -/
def State.weldFound (s : State) : State :=
  let s := s.raise 0x47
  { s with hio := { s.hio with weld := true, contactor := 6, closeStep := 0, openStep := 0 } }.releaseCoils.isoGate

/-- A failed precharge or closure (R350): coils released, closing refused for 60 s. -/
def State.prechargeFail (s : State) : State :=
  let s := s.releaseCoils
  { s with hio := { s.hio with contactor := 0, closeStep := 0, lockoutEnd := some (s.now + 60000000000) } }.raise 0x46

/-- CLOSING_SEQUENCE_STEP (R347 to R350): the present step's time has ended, or its condition has come. -/
def execClosingSequenceStep (t : Nat) (m : SeqMeas) (s : State) : Host.Outcome State Fault Refusal :=
  let s := s.tick t
  let el := s.now - s.hio.stepStart
  let ms := fun (n : Nat) => decide (n * 1000000 ≤ el)
  let bound := 3 / 2 * m.stringV / s.rat Obj.prechargeResistance
  let rel := !s.isHead || s.hio.contactor == 0
  if rel then .next s
  else match s.hio.closeStep with
  | 2 =>
    if !ms 100 then .next s
    else if 1 ≤ m.ampsMax then .next s.weldFound.afterTrigger
    else .next ({ s with hio := { s.hio with prechg := true } }.closeTo 3)
  | 3 => if ms (s.nat Obj.pullInTime 0 2) then .next (s.closeTo 4) else .next s
  | 4 =>
    if !ms 50 then .next s
    else if 2 ≤ m.ampsMax then .next s.weldFound.afterTrigger
    else .next ({ s with hio := { s.hio with prechg := false } }.closeTo 6)
  | 6 => if ms (s.nat Obj.contactorOpenWait) then .next ({ s with hio := { s.hio with mainNeg := true } }.closeTo 7) else .next s
  | 7 => if ms (s.nat Obj.pullInTime 0 1) then .next (s.closeTo 8) else .next s
  | 8 =>
    if !ms 50 then .next s
    else if 2 ≤ m.ampsMax then .next s.weldFound.afterTrigger
    else if absQ m.mainPosV ≤ s.rat Obj.prechargeDoneBand then
      let s := { s with hio := { s.hio with linkHeld := true } }
      if s.flag Obj.linkPrechargedAllowed then .next ({ s with hio := { s.hio with mainPos := true } }.closeTo 11)
      else .next (({ s.releaseCoils with hio := { s.releaseCoils.hio with contactor := 0, closeStep := 0 } }.raiseEvent 0x46).afterTrigger)
    else .next ({ s with hio := { s.hio with prechg := true, contactor := 2 } }.closeTo 9)
  | 9 => if ms (s.nat Obj.pullInTime 0 2) then .next (s.closeTo 10) else .next s
  | 10 =>
    if bound < absQ m.amps then .next s.prechargeFail.afterTrigger
    else if m.bandHeld && ms 50 then .next ({ s with hio := { s.hio with mainPos := true, contactor := 1 } }.closeTo 11)
    else if ms (s.nat Obj.prechargeRiseTime) && decide (m.linkV < m.stringV / 5) then .next s.prechargeFail.afterTrigger
    else if ms (s.nat Obj.prechargeTimeout) then .next s.prechargeFail.afterTrigger
    else .next s
  | 11 =>
    if ms (s.nat Obj.pullInTime 0 0) then .next ({ s with hio := { s.hio with prechg := false } }.closeTo 12) else .next s
  | 12 =>
    if m.bandHeld && ms 50 then
      let s := { s with hio := { s.hio with contactor := 3, closeStep := 0 } }
      .next (if s.md.mode == .standby then s.enterMode .online 1 else s)
    else if ms 52 then .next s.prechargeFail.afterTrigger
    else .next s
  | _ => .next s

/-- PRECHARGE_LOCKOUT_EXPIRY (R350, R709). -/
def execPrechargeLockoutExpiry (t : Nat) (s : State) : Host.Outcome State Fault Refusal :=
  let s := s.tick t
  match s.hio.lockoutEnd with
  | none => .next s
  | some e => if s.now < e then .next s else .next ({ s with hio := { s.hio with lockoutEnd := none } }.lower 0x46)

/-- OPENING_SEQUENCE_STEP (R348, R351, R352, R706): current wait, releases, confirmation. -/
def execOpeningSequenceStep (t : Nat) (m : SeqMeas) (s : State) : Host.Outcome State Fault Refusal :=
  let s := s.tick t
  let el := s.now - s.hio.stepStart
  let ms := fun (n : Nat) => decide (n * 1000000 ≤ el)
  if !s.isHead then .next s
  else match s.hio.openStep with
  | 3 =>
    if (m.bandHeld && ms 20) || decide (s.hio.openWaitEnd ≤ s.now) then
      let load := decide (s.rat Obj.openCurrentMax ≤ absQ m.amps) && (s.hio.mainPos || s.hio.prechg)
      let s := if load then (s.bump Obj.openUnderLoad).setRat Obj.lastOpenCurrent m.amps else s
      .next { s with hio := { s.hio with mainPos := false, prechg := false, openStep := 5, stepStart := s.now } }
    else .next s
  | 5 => if ms 20 then .next { s with hio := { s.hio with mainNeg := false, openStep := 6, stepStart := s.now } } else .next s
  | 6 =>
    if !ms (s.nat Obj.contactorOpenWait) then .next s
    else
      let welded := decide (1 ≤ absQ m.amps)
      let s := { s with hio := { s.hio with openStep := 0, contactor := 0 } }
      let s := if s.md.mode == .online then s.enterMode .standby (if s.hio.openOrderly then 7 else 4) else s
      let s := s.sendLimit 0 0
      .next (if welded then s.weldFound.afterTrigger else s)
  | _ => .next s

/-- A coil-driver finding (R105, R364): closing is refused until start-up, a prompt open follows. -/
def State.coilFaultFound (s : State) : State := ({ s with hio := { s.hio with coilFault := true } }.promptOpen.raise 0x48).afterTrigger

/-- Whether a coil is driven. -/
def State.driven (s : State) (c : Coil) : Bool :=
  match c with | .mainPos => s.hio.mainPos | .mainNeg => s.hio.mainNeg | .prechg => s.hio.prechg

/-- One coil off. -/
def State.coilOff (s : State) (c : Coil) : State :=
  match c with
  | .mainPos => { s with hio := { s.hio with mainPos := false } }
  | .mainNeg => { s with hio := { s.hio with mainNeg := false } }
  | .prechg => { s with hio := { s.hio with prechg := false } }

/-- COIL_SHORT_CIRCUIT (R105, R364): the output goes off. -/
def execCoilShortCircuit (t : Nat) (c : Coil) (s : State) : Host.Outcome State Fault Refusal :=
  let s := s.tick t
  if s.driven c then .next (s.coilOff c).coilFaultFound else .next s

/-- COIL_OPEN_LOAD (R105, R364). -/
def execCoilOpenLoad (t : Nat) (c : Coil) (s : State) : Host.Outcome State Fault Refusal :=
  let s := s.tick t
  if s.driven c then .next s.coilFaultFound else .next s

/-- Whether the head releases a member (R65, R345). -/
def State.releases (s : State) (m : Member) : Bool :=
  m.state == 1 && (m.mode == 2 || m.mode == 3) && m.locked && bitsOf 7 7 m.integrity == 1 && bitsOf 8 8 m.integrity == 0
    && (m.released || !s.missingStandby)

/-- Sends RELEASE to one member, with what the head decides of it (R345). -/
def State.sendRelease (s : State) (node : Nat) : State :=
  let m := s.member node
  let r := s.releases m
  (s.setMember node { m with released := r }).sendSlot 2 4 0 (.square m.square) (releaseBytes node r (s.nat Obj.membershipGen) s.ringTime)

/-- RELEASE_SEND (R345): to every admitted module, at a change and every 1 s. -/
def execReleaseSend (t : Nat) (s : State) : Host.Outcome State Fault Refusal :=
  let s := s.tick t
  if !s.isHead || !s.md.mode.runs then .next s
  else .next (((s.others.filter (fun e => e.2.state == 1)).map (·.1)).foldl State.sendRelease s)

/-- RELEASE (R118, R706): a segment enters ONLINE on release and STANDBY on its withdrawal. -/
def execRelease (t : Nat) (rx : SlotRx) (node : Nat) (released : Bool) (membGen time : Nat) (s : State) :
    Host.Outcome State Fault Refusal :=
  let r := (s.tick t).ringRx rx (releaseBytes node released membGen time)
  if !r.2 || node ≠ r.1.nodeId || r.1.isHead || rx.hdr.src ≠ 0 then .next r.1
  else
    let s := { r.1 with hio := { r.1.hio with released := released } }
    if released && s.md.mode == .standby then .next (s.enterMode .online 1)
    else if !released && s.md.mode == .online then .next (s.enterMode .standby 7)
    else .next s

/-- A limit after its ramp (R360): a decrease at once, an increase through the limiter of loop instance 10. -/
def State.rampedLimit (s : State) (j : Nat) (target now : Rat) : Rat :=
  if target ≤ now then target else match (s.inst 10).u[j]? with
    | some u => maxQ now (minQ target (f32Val u))
    | none => now

/-- PCS_LIMIT_PERIOD (R359, R360, R362): every PcsLimitPeriod the limits are computed and sent. -/
def execPcsLimitPeriod (t : Nat) (s : State) : Host.Outcome State Fault Refusal :=
  let s := s.tick t
  if !s.isHead || !s.md.mode.runs || decide (s.now < s.hio.limitAt + s.nat Obj.pcsLimitPeriod * 1000000) then .next s
  else
    let l := s.limitTargets
    let chg := s.rampedLimit 0 l.1 (s.rat Obj.chargeLimit)
    let dis := s.rampedLimit 1 l.2.1 (s.rat Obj.dischargeLimit)
    .next ({ s with hio := { s.hio with limitAt := s.now, derated := l.2.2 } }.sendLimit chg dis)

/-- The objects of the protection set in index order (R356). -/
def protSet : List (ObjDef × Nat) :=
  [(Obj.pullInTime, 0), (Obj.pullInTime, 1), (Obj.pullInTime, 2), (Obj.holdCurrent, 0), (Obj.holdCurrent, 1), (Obj.holdCurrent, 2),
   (Obj.cellOvWarn, 0), (Obj.cellOvOpen, 0), (Obj.cellOvTrip, 0), (Obj.cellUvWarn, 0), (Obj.cellUvOpen, 0), (Obj.cellUvTrip, 0),
   (Obj.tempHighWarn, 0), (Obj.tempHighOpen, 0), (Obj.tempHighTrip, 0), (Obj.tempLowWarn, 0), (Obj.tempLowOpen, 0),
   (Obj.tempLowTrip, 0), (Obj.chgTaperStart, 0), (Obj.disTaperStart, 0), (Obj.chargeCurrentMax, 0), (Obj.dischargeCurrentMax, 0),
   (Obj.overcurrentTrip, 0), (Obj.stringVoltageMax, 0), (Obj.stringVoltageTrip, 0), (Obj.limitRampUp, 0)]

/-- The bytes of the protection set. -/
def State.protBytes (s : State) : Bytes := protSet.flatMap (fun e => (s.val e.1 0 e.2).encode e.1.ty)

/-- ProtSetCrc (R356). -/
def State.protCrc (s : State) : Nat := crc32 s.protBytes

/-- The conditions of R356 on a set. -/
def State.protOrdered (s : State) : Bool :=
  let r := s.rat
  decide (r Obj.cellUvTrip < r Obj.cellUvOpen) && decide (r Obj.cellUvOpen < r Obj.cellUvWarn)
    && decide (r Obj.cellUvWarn < r Obj.disTaperStart) && decide (r Obj.chgTaperStart < r Obj.cellOvWarn)
    && decide (r Obj.cellOvWarn < r Obj.cellOvOpen) && decide (r Obj.cellOvOpen < r Obj.cellOvTrip)
    && decide (r Obj.tempLowTrip < r Obj.tempLowOpen) && decide (r Obj.tempLowOpen < r Obj.tempLowWarn)
    && decide (r Obj.tempHighWarn < r Obj.tempHighOpen) && decide (r Obj.tempHighOpen < r Obj.tempHighTrip)
    && decide (r Obj.stringVoltageMax < r Obj.stringVoltageTrip)
    && decide (6 / 5 * maxQ (r Obj.chargeCurrentMax) (r Obj.dischargeCurrentMax) ≤ r Obj.overcurrentTrip)
    && decide (r Obj.overcurrentTrip < r Obj.shortCircuitLevel)

/-- The member of the protection set at an index and subindex. -/
def protAt (index sub : Nat) : Option (ObjDef × Nat) := protSet.find? (fun e => e.1.index == index && e.1.sub + e.2 == sub)

/-- A write to the protection set (R356, R541): accepted by the head only, or as the head's distribution or copy; refused
where it would break a condition; then passed to pack memory. -/
def protEffect (o : ObjDef) (j : Nat) (fromHead : Bool) (d : Bytes) : PxEffect := fun s =>
  if fromHead then .defer
  else if !s.isHead then .refuse pxNotHead
  else if !(s.setVal o (Val.decode o.ty d) 0 j).protOrdered then .refuse pxRange
  else .defer

/-- Whether a request is the head's own (R557): from square 0 by ring, to a module that is not head. -/
def State.pxHeadCopy (s : State) (q : PxReq) : Bool :=
  !s.isHead && q.session = 0 && (q.path == .dist || (q.path == .ring && q.origin == 0))

/-- PROTECTION_SET_WRITE (R356, R557). -/
def execProtectionSetWrite (t : Nat) (q : PxReq) (index sub : Nat) (v : PxValue) (s : State) : Host.Outcome State Fault Refusal :=
  let s := s.tick t
  match protAt index sub with
  | some (o, j) => .next (s.pxWrite q o 0 j v.ty v.data (protEffect o j (s.pxHeadCopy q) v.data))
  | none => .next (s.pxMissing q 0x02 index sub v.ty v.data)

/-- An expedited WRITE the head sends of its own (R544, R557). -/
def State.sendWrite (s : State) (d : Dest) (o : ObjDef) (i j : Nat) : State :=
  let b := (s.val o i j).encode o.ty
  s.sendSlot 5 1 0 d (pxHead 2 0 (12 + b.length) 0 (o.index + i) (o.sub + j) o.ty.code 0 0 b)

/-- The head rewrites the whole set in one module (R356). -/
def State.rewriteSet (s : State) (node : Nat) : State :=
  protSet.foldl (fun (st : State) e => st.sendWrite (.square (st.member node).square) e.1 0 e.2)
    { s with hio := { s.hio with protPending := setInsert s.hio.protPending node } }

/-- PROT_SET_CRC_CHECK (R356): the ProtSetCrc that each node answers; a copy whose CRC differs is rewritten. -/
def execProtSetCrcCheck (t : Nat) (crcs : List (Nat × Nat)) (s : State) : Host.Outcome State Fault Refusal :=
  let s := s.tick t
  if !s.isHead then .next s
  else
    let own := s.protCrc
    .next (crcs.foldl (fun (st : State) e =>
      if e.2 = own then { st with hio := { st.hio with protPending := setErase st.hio.protPending e.1 } }
      else if st.admitted.contains e.1 && e.1 != st.nodeId then st.rewriteSet e.1 else st) s)

end Sys2Proof.Machine
end

