-- ==== Sys2Proof/Machine/Lanes.lean ====
section
/-! DEFINITION. Lanes, the voter and the fault collection unit as commands meet them (R569 to R593, R700, R708): votes on frames
(R519, R520) and registers (R574), fences, duplex, the checks of the unit, first move, PENDING, severities, the carried fault
record. -/
namespace Sys2Proof.Machine

/-- Whether a lane's copies count: unfenced, token not missing (R571, R576). -/
def State.laneLive (s : State) (l : Lane) : Bool := KMap.get s.flt.lane l.idx 0 == 0 && !s.flt.silent.contains l

/-- The three lanes. -/
def allLanes : List Lane := [.laneA, .laneB, .laneC]

/-- A lane dissents from two agreeing ones in triplex (R31, R576): fenced, counted, lane-disagree raised. -/
def State.dissent (s : State) (l : Lane) : State :=
  (((s.bump Obj.laneDisagreements).fenceLane l 2).raiseBreak 0x01 false).eligibilityCheck

/-- An output without a majority (R578 to R580): counted; a head's voter abdicates by itself; then the source of duplex or of
triplex with its severity. -/
def State.noMajority (s : State) (triplex : Bool) : State :=
  let s := (s.bump Obj.laneDisagreements).bump Obj.noMajorityEvents
  let head := s.isHead
  let s := if head then { s.voterAbdicate with flt := { s.voterAbdicate.flt with voterOut := true } } else s
  let s := s.raiseEvent (if triplex then 0x03 else 0x02)
  { s with flt := { s.flt with voterOut := false } }

/-- What comes of copies that do not all agree, where no two agree (R578, R579); a module of one lane has left service. -/
def State.voteFails (s : State) : State :=
  if s.lanesUp = 3 then s.noMajority true else if s.lanesUp = 2 then s.noMajority false else s

/-- LANE_TOKEN_TIMEOUT (R571, R576, R578): the lane counts as having produced no copy, which the next output meets. DEDUCED, log entry 59. -/
def execLaneTokenTimeout (t : Nat) (lane : Lane) (s : State) : Host.Outcome State Fault Refusal :=
  let s := s.tick t
  if !s.md.mode.runs || !s.laneLive lane then .next s
  else
    let s := { s with flt := { s.flt with silent := s.flt.silent ++ [lane] } }
    .next (if s.lanesUp = 3 then (if s.voteOk then s.dissent lane else s.noMajority true)
      else if s.lanesUp = 2 then s.noMajority false else s).afterTrigger

/-- CLOCK_MONITOR (R572): the crystal and the always-on oscillator differ. DEDUCED, log entry 62. -/
def execClockMonitor (t : Nat) (s : State) : Host.Outcome State Fault Refusal := .next ((s.tick t).raise 0x09).afterTrigger

/-- The copies of a register output that count. -/
def State.regCopies (s : State) (a b c : Option Nat) : List (Lane × Nat) :=
  ([(Lane.laneA, a), (.laneB, b), (.laneC, c)] : List (Lane × Option Nat)).filterMap (fun e =>
    if s.laneLive e.1 then e.2.map (fun v => (e.1, v)) else none)

/-- The value that two copies hold (R574). -/
def majority (l : List (Lane × Nat)) : Option Nat :=
  (l.find? (fun e => 2 ≤ (l.filter (fun x => x.2 == e.2)).length)).map (·.2)

/-- The state of an output without a majority (R573). -/
def State.withoutMajority (s : State) (g : RegTarget) : State :=
  let s := { s with out := s.out ++ [.register g none] }
  match g with
  | .coils => s.releaseCoils
  | .balancing => s.stopBalancing
  | .switches => { s with
      supply := { s.supply with sentOn := [] }, hio := { s.hio with tapsOn := false, isoState := 0 } }
  | .loopSource | .tripSwitch | .actuators | .other _ => s

/-- REGISTER_VOTE (R573, R574, R576 to R580): the value of two copies passes; a dissenter is fenced in triplex; without a
majority the output takes its state of R573. -/
def execRegisterVote (t : Nat) (target : RegTarget) (a b c : Option Nat) (s : State) : Host.Outcome State Fault Refusal :=
  let s := s.tick t
  let l := s.regCopies a b c
  match majority l with
  | some v =>
    let s := { s with out := s.out ++ [.register target (some v)] }
    .next (if s.lanesUp = 3 then
        (allLanes.filter (fun x => !l.contains (x, v))).foldl State.dissent s
      else s).afterTrigger
  | none => .next ((s.withoutMajority target).voteFails).afterTrigger

/-- The kind of a frame by its identifier (R505). -/
def frameKind (id : Nat) (ext : Bool) : Nat :=
  if ext then 3 else if id < 0x080 then 0 else if id < 0x640 then 1 else 2

/-- A voted frame goes to the controller or to the ring port (R519, R573). -/
def State.sendVoted (s : State) (f : VoteFrame) : State :=
  match f with
  | .can b id ext brs data =>
    s.queueFrame b { id := id, ext := ext, brs := brs, data := data, kind := frameKind id ext, queuedAt := s.now }
  | .slot h payload => s.route h payload true

/-- A frame vote closes (R519, R520, R576, R578, R579): a lane whose copy is missing dissents; no agreement discards the
frame. -/
def State.closeVote (s : State) (v : VoteSt) : State :=
  match v.queued with
  | some _ =>
    if s.lanesUp = 3 then
      (allLanes.filter (fun x => !v.copies.any (fun e => e.1 == x))).foldl State.dissent s
    else s
  | none => (s.bump Obj.voteRejects).voteFails

/-- Votes whose 50 µs are over are closed (R519, R520). -/
def State.closeExpired (s : State) : State :=
  let beyond := fun (v : VoteSt) => decide (v.start + 50000 ≤ s.now)
  let old := s.can.votes.filter beyond
  old.foldl State.closeVote { s with can := { s.can with votes := s.can.votes.filter (fun v => !beyond v) } }

/-- One more copy of a frame vote (R519, R520): the second identical copy queues the frame, a copy that differs from the queued
frame dissents. The Bool says that the vote is over. -/
def State.addCopy (s : State) (v : VoteSt) (lane : Lane) (f : VoteFrame) : State × VoteSt × Bool :=
  let v' := { v with copies := v.copies ++ [(lane, f)] }
  let full := decide (s.lanesUp ≤ v'.copies.length)
  match v.queued with
  | some g => (if f == g || s.lanesUp ≠ 3 then s else s.dissent lane, v', full)
  | none =>
    if v.copies.any (fun e => e.2 == f) then
      let s := s.sendVoted f
      let odd := v.copies.filter (fun e => e.2 != f)
      (if s.lanesUp = 3 then odd.foldl (fun (st : State) e => st.dissent e.1) s else s, { v' with queued := some f }, full)
    else if full then ((s.bump Obj.voteRejects).voteFails, v', true)
    else (s, v', false)

/-- The frame votes after a lane's copy: it joins the oldest vote in which the lane has no copy, or begins one. DEDUCED, log entry 60. -/
def State.castCopy (s : State) (lane : Lane) (f : VoteFrame) : List VoteSt → State × List VoteSt
  | [] => (s, [{ start := s.now, copies := [(lane, f)], queued := none }])
  | v :: r =>
    if v.copies.any (fun e => e.1 == lane) then
      let x := State.castCopy s lane f r
      (x.1, v :: x.2)
    else
      let x := s.addCopy v lane f
      (x.1, if x.2.2 then r else x.2.1 :: r)

/-- LANE_FRAME_COPY (R519, R520, R573, R576 to R580). DEDUCED, log entry 60. -/
def execLaneFrameCopy (t : Nat) (lane : Lane) (f : VoteFrame) (s : State) : Host.Outcome State Fault Refusal :=
  let s := (s.tick t).closeExpired
  if !s.commsOn || !s.laneLive lane then .next s.afterTrigger
  else
    let x := s.castCopy lane f s.can.votes
    .next { x.1 with can := { x.1.can with votes := x.2 } }.afterTrigger

/-- VOTE_WINDOW_EXPIRY (R519, R520). -/
def execVoteWindowExpiry (t : Nat) (s : State) : Host.Outcome State Fault Refusal := .next (s.tick t).closeExpired.afterTrigger

/-- VOTER_SELF_TEST (R575): the source follows the test's last result. DEDUCED, log entry 62. -/
def execVoterSelfTest (t : Nat) (ok : Bool) (s : State) : Host.Outcome State Fault Refusal := .next ((s.tick t).follow 0x07 (!ok)).afterTrigger

/-- KEEPALIVE's trip switch opened for the rest of the episode, as its first trip condition where none was met before (R708). -/
def State.kaTrip (s : State) (code : Nat) : State :=
  let ka := s.md.ka.map (fun (k : KaRecord) => if k.firstTrip = 0 then { k with firstTrip := code, firstTripAt := s.ringTime } else k)
  { s with md := { s.md with kaTripped := true, ka := ka } }

/-- LANE_ECC_ERROR (R31, R577, R708): a corrected error is counted; an uncorrectable one fences the lane, and in KEEPALIVE
lane A's opens the trip switch. -/
def execLaneEccError (t : Nat) (lane : Lane) (corrected : Bool) (s : State) : Host.Outcome State Fault Refusal :=
  let s := s.tick t
  if s.md.mode == .keepalive then .next (if lane == .laneA && !corrected then s.kaTrip 6 else s)
  else if !s.md.mode.runs || KMap.get s.flt.lane lane.idx 0 ≠ 0 then .next s
  else if corrected then .next ((s.bump Obj.laneEccCorrected).raiseEvent 0x06).afterTrigger
  else .next ((s.fenceLane lane 3).raiseBreak 0x05 false).eligibilityCheck.afterTrigger

/-- TRIP_DRIVER_CHECK (R340, R344, R582, R583): the loop current in mA as it has held for 1 ms, against the drive. -/
def execTripDriverCheck (t : Nat) (milliamps : Rat) (s : State) : Host.Outcome State Fault Refusal :=
  let s := s.tick t
  if !s.md.mode.runs then .next s
  else
    let s := s.setRat Obj.tripLoopCurrent (clampQ 0 15 milliamps)
    let good := if 8 ≤ milliamps then some (s.hio.loopOkSince.getD s.now) else none
    let s := { s with hio := { s.hio with loopOkSince := good } }
    if !s.loopDriven && decide (6 ≤ milliamps) then
      if 0x08 ∈ s.flt.active then .next s
      else .next ({ s with flt := { s.flt with tripDriverBad := true } }.raiseBreak 0x08).afterTrigger
    else .next ({ s with flt := { s.flt with tripDriverBad := false } }.lower 0x08).minSetCheck

/-- Sources whose own rule names an event and no lasting condition (R709). DEDUCED, log entry 110. -/
def eventSources : List Nat :=
  [0x01, 0x02, 0x03, 0x05, 0x06, 0x0C, 0x0F, 0x11, 0x14, 0x21, 0x29, 0x3E, 0x52, 0x54, 0x69, 0x81, 0x84, 0x86, 0x96, 0x98]

/-- SOURCE_RAISE (R584, R586): the condition of a source has come, and the unit takes its reaction. -/
def execSourceRaise (t source : Nat) (s : State) : Host.Outcome State Fault Refusal :=
  let s := s.tick t
  if source = 0x9F then .next (s.raise source)
  else .next (s.raiseBreak source (!eventSources.contains source)).afterTrigger

/-- The copies of the carried fault record that are valid (R700): index and SEQ. -/
def State.carryCopies (s : State) : List (Nat × Bytes) :=
  [0, 1].filterMap (fun k =>
    let b := s.pmRead (0x300 + 32 * k) 32
    let seq := fieldAt 0 4 b
    if fieldAt 28 4 b = crc32 (b.take 28) ∧ 1 ≤ seq ∧ seq ≤ 0xFFFFFFFE ∧ 3 ≤ fieldAt 5 1 b ∧ fieldAt 5 1 b ≤ 4
      ∧ fieldAt 6 1 b < 4 ∧ fieldAt 7 1 b = 0 ∧ sliceBytes 20 8 b = zeroBytes 8 then some (k, b) else none)

/-- The carried fault record in force (R700): the newer valid copy. -/
def State.carryInForce (s : State) : Option (Nat × Bytes) :=
  match s.carryCopies with
  | [a, b] =>
    let d := (fieldAt 0 4 b.2 + 2 ^ 32 - fieldAt 0 4 a.2) % 2 ^ 32
    if 1 ≤ d ∧ d < 2 ^ 31 then some b else some a
  | [a] => some a
  | _ => none

/-- A carried fault record put on the pack-memory bus (R655, R700): the SEQ that follows, to the copy not in force. DEDUCED, log entry 41. -/
def State.writeCarry (s : State) (c : CarryDue) : State :=
  let (k, seq) := match s.carryInForce with
    | some (k, b) => (1 - k, if fieldAt 0 4 b = 0xFFFFFFFE then 1 else fieldAt 0 4 b + 1)
    | none => (0, 1)
  if s.rcd.pmPresent then s.pmJobs 2 (0x300 + 32 * k) (carryBytes seq c (s.utc.getD 0)) else s

/-- CARRIED_FAULT_WRITE (R700). -/
def execCarriedFaultWrite (t : Nat) (s : State) : Host.Outcome State Fault Refusal :=
  let s := s.tick t
  match s.flt.carryDue with
  | none => .next s
  | some c => .next { (s.writeCarry c) with flt := { (s.writeCarry c).flt with carryDue := none } }

/-- FCU_SCAN (R582, R591): a parity or ECC fault of the unit opens the loop, sets the terminal latch and enters SAFE. -/
def execFcuScan (t : Nat) (ok : Bool) (s : State) : Host.Outcome State Fault Refusal :=
  let s := s.tick t
  if ok then .next s else .next ((s.raiseBreak 0x00).afterTrigger)

/-- COLLECTOR_TEST (R592): the management processor raises collector-test; a unit that does not show it PENDING is faulty. -/
def execCollectorTest (t : Nat) (shown : Bool) (s : State) : Host.Outcome State Fault Refusal :=
  let s := s.tick t
  if !s.mgmt.running then .next s
  else
    let s := s.raise 0x9F
    if shown then .next s else .next (s.raiseBreak 0x00).afterTrigger

/-- COLLECTOR_TEST_RELEASE (R592). -/
def execCollectorTestRelease (t : Nat) (s : State) : Host.Outcome State Fault Refusal := .next ((s.tick t).lower 0x9F)

/-- The effect of a write of FirstMoveClear (R589, R631). -/
def firstMoveEffect : PxEffect := fun s =>
  if s.md.terminalLatch then .refuse pxState
  else
    let s := match s.flt.first with
      | some f => s.episode 6 f.source f.severity 0
      | none => s
    .ok { s with flt := { s.flt with first := none, overflow := false } }

/-- FIRST_MOVE_CLEAR (R589). -/
def execFirstMoveClear (t : Nat) (q : PxReq) (v : Nat) (s : State) : Host.Outcome State Fault Refusal :=
  .next ((s.tick t).pxWriteNat q Obj.firstMoveClear 0 0 v firstMoveEffect)

/-- The effect of a write of FaultPending, `j` counted from 0 (R590): bits written 1 clear where the source is not ACTIVE. -/
def pendingEffect (j v : Nat) : PxEffect := fun s =>
  .ok { s with flt := { s.flt with pending := s.flt.pending.filter (fun k =>
    !(k / 32 == j && bitsOf (k % 32) (k % 32) v == 1 && !s.flt.active.contains k)) } }

/-- FAULT_PENDING_CLEAR (R590). The old value that the change log shows is the live word. -/
def execFaultPendingClear (t : Nat) (q : PxReq) (sub v : Nat) (s : State) : Host.Outcome State Fault Refusal :=
  let s := s.tick t
  let j := sub - 1
  .next (s.pxWriteOld q Obj.faultPending 0 j Obj.faultPending.ty.code (leBytes 4 v) (leBytes 4 (sourceWord s.flt.pending j))
    (pendingEffect j v))

/-- The effect of a write of Severity (R585, R593): at least the minimum, at most 4, none for a reserved source; then passed to
pack memory (R541). -/
def severityEffect (source v : Nat) : PxEffect := fun s =>
  if reservedSource source || decide (v < s.nat Obj.minSeverity 0 source) || decide (4 < v) then .refuse pxRange else .defer

/-- SEVERITY_WRITE (R585). -/
def execSeverityWrite (t : Nat) (q : PxReq) (source v : Nat) (s : State) : Host.Outcome State Fault Refusal :=
  .next ((s.tick t).pxWriteNat q Obj.severity 0 source v (severityEffect source v))

end Sys2Proof.Machine
end

