-- ==== Sys2Proof/Machine/Election.lean ====
section
/-! DEFINITION. The string's formation: election (R39 to R55, R711), descriptor commits (R40 to R44, R61 to R63, R698),
enumeration and late join (R56, R57, R511 to R517). -/
namespace Sys2Proof.Machine

/-- Among valid announces, those of the highest SEQ (R39, R40). -/
def topAnnounces (l : List Announce) : List Announce :=
  let v := l.filter (·.valid)
  let m := v.foldl (fun a x => max a x.seq) 0
  v.filter (fun x => x.seq == m)

/-- The winning content: announced by more modules than every other content of the highest SEQ (R39). -/
def winningAnnounce (l : List Announce) : Option Announce :=
  let t := topAnnounces l
  let n := fun (a : Announce) => (t.filter (fun x => x.crc == a.crc)).length
  t.find? (fun a => t.all (fun b => b.crc == a.crc || n b < n a))

/-- An announce kept, replacing an earlier one of the same serial bits. DEDUCED, log entry 51. -/
def keepAnnounce (l : List Announce) (a : Announce) : List Announce := l.filter (fun x => x.serial != a.serial) ++ [a]

/-- Sends the own announce and keeps it (R48 step 2). -/
def State.announce (s : State) : State :=
  let a := s.ownAnnounce
  let s := { s with ident := { s.ident with
    announces := keepAnnounce s.ident.announces a, nextAnnounce := s.now + 100000000,
    firstAnnounce := some (s.ident.firstAnnounce.getD s.now) } }
  s.sendPre 0x1B a.bytes

/-- Begins the election at step 2 of R48. -/
def State.beginElection (s : State) : State :=
  { s with ident := { s.ident with
      phase := .announcing, announces := [], firstAnnounce := none, winner := none, round := 0, inRound := false,
      ownDraw := none, draws := [], retryAt := none } }.announce

/-- Whether the module may claim or draw (R29, R30). -/
def State.mayLead (s : State) : Bool := s.eligible && s.md.mode != .safe

/-- The descriptor a new head runs with: its own candidate, with SEQ and HEAD_PACK of the winning announce (R44, R52). -/
def State.headDescriptor (s : State) : Descriptor :=
  match s.ident.winner with
  | none => {}
  | some w =>
    match s.candidate with
    | some (_, d) => { d with seq := w.seq, headPack := w.headPack }
    | none => { seq := w.seq, headPack := w.headPack, flags := 1 }

/-- Claims the head role (R48 step 4, R49, R52): the claim frame, the role, and the census of step 7. -/
def State.claim (s : State) (basis : Nat) : State :=
  let seq := if basis = 0 then (s.ident.winner.map (·.seq)).getD 0 else 0
  let s := s.sendPre 0x18 (claimBytes seq s.packId basis)
  let d := s.headDescriptor
  let top := s.ident.announces.foldl (fun a x => if x.valid then max a x.seq else a) 0
  let s := (s.takeHead basis).setDesc d
  let s := { s with ident := { s.ident with highestSeq := top, enumStart := none, members := [], bindings := [], standbyPack := 0, enumDue := true, replies := [] } }
  (s.setNat Obj.balEnable 1).startCensus

/-- DESCRIPTOR_ANNOUNCE (R39): an announce is kept for the decision. -/
def execDescriptorAnnounce (t : Nat) (a : Announce) (s : State) : Host.Outcome State Fault Refusal :=
  let s := s.tick t
  if !s.busHears .ctlA then .next s else
  let s := s.busHeard .ctlA
  if s.ident.phase = .announcing ∨ s.ident.phase = .idle then
    .next { s with ident := { s.ident with announces := keepAnnounce s.ident.announces a } }
  else .next s

/-- DESCRIPTOR_ANNOUNCE_REPEAT (R48): the announce again, until a head claim is heard; held while a back-off of R46
runs. -/
def execDescriptorAnnounceRepeat (t : Nat) (s : State) : Host.Outcome State Fault Refusal :=
  let s := s.tick t
  if (s.ident.phase = .announcing ∨ s.ident.phase = .claimWait) ∧ s.ident.nextAnnounce ≤ s.now ∧ s.ident.backoffEnd = none then
    .next s.announce
  else .next s

/-- DESCRIPTOR_DECISION (R39, R48): 600 ms after the first announce; the named and eligible module claims, the others
begin their claim wait. -/
def execDescriptorDecision (t : Nat) (s : State) : Host.Outcome State Fault Refusal :=
  let s := s.tick t
  match s.ident.phase, s.ident.firstAnnounce with
  | .announcing, some t0 =>
    if s.now < t0 + 600000000 then .next s
    else
      let w := winningAnnounce s.ident.announces
      let s := { s with ident := { s.ident with
        winner := w, phase := .claimWait, claimWaitEnd := s.now + s.nat Obj.claimWait * 1000000 } }
      match w with
      | some a => if a.headPack = s.packId ∧ s.mayLead then .next (s.claim 0) else .next s
      | none => .next s
  | _, _ => .next s

/-- HEAD_CLAIM (R48): announcing stops, the claim wait is skipped, enumeration is awaited; a trip loop held open for want
of a head is released (R51, R601). -/
def execHeadClaim (t serial seq pack basis : Nat) (s : State) : Host.Outcome State Fault Refusal :=
  let s := s.tick t
  if !s.busHears .ctlA then .next s else
  let s := s.busHeard .ctlA
  let _ := (serial, seq, pack, basis)
  match s.ident.phase with
  | .announcing | .claimWait | .rollOff | .noHead | .idle =>
    .next { s with ident := { s.ident with
      phase := .awaitEnum, round := 0, inRound := false, retryAt := none, backoffEnd := none, electionHold := false,
      headFailHold := false } }
  | .awaitEnum | .lateJoin | .enumerated => .next s

/-- Starts a roll-off round; a module that takes part draws and sends (R49). -/
def State.startRound (s : State) (r : Nat) (part : Bool) : State :=
  let s := { s with ident := { s.ident with
    phase := .rollOff, round := r, roundStart := s.now, inRound := part, ownDraw := none, draws := [] } }
  if part then
    let d := s.draw
    let v := d.1 % 65536
    { d.2 with ident := { d.2.ident with ownDraw := some v } }.sendPre 0x1A (rollDrawBytes s.packId r v)
  else s

/-- An election that ends without a head (R50, R51). -/
def State.electionFailed (s : State) : State :=
  { s with ident := { s.ident with
      phase := .noHead, round := 0, inRound := false, retryAt := some (s.now + 10000000000), electionHold := true } }.raiseEvent 0x0C

/-- CLAIM_WAIT_EXPIRY (R48 step 5, R711): an eligible module sends roll-off open and takes part from round 1; any other
follows the rounds without drawing. -/
def execClaimWaitExpiry (t : Nat) (s : State) : Host.Outcome State Fault Refusal :=
  let s := s.tick t
  if s.ident.phase = .claimWait ∧ s.ident.claimWaitEnd ≤ s.now then
    if s.mayLead then
      .next ((s.sendPre 0x19 (rollOpenBytes ((s.ident.winner.map (·.seq)).getD 0) s.packId)).startRound 1 true)
    else .next (s.startRound 1 false)
  else .next s

/-- ROLL_OFF_OPEN (R711): the first one heard starts round 1. -/
def execRollOffOpen (t serial seq pack : Nat) (s : State) : Host.Outcome State Fault Refusal :=
  let s := s.tick t
  if !s.busHears .ctlA then .next s else
  let s := s.busHeard .ctlA
  let _ := (serial, seq, pack)
  if s.ident.phase = .announcing ∨ s.ident.phase = .claimWait then .next (s.startRound 1 s.mayLead) else .next s

/-- ROLL_OFF_DRAW (R49): kept when it belongs to the round and lies inside the 20 ms window. -/
def execRollOffDraw (t pack round draw : Nat) (s : State) : Host.Outcome State Fault Refusal :=
  let s := s.tick t
  if !s.busHears .ctlA then .next s else
  let s := s.busHeard .ctlA
  if s.ident.phase = .rollOff ∧ round = s.ident.round ∧ s.now ≤ s.ident.roundStart + 20000000 then
    .next { s with ident := { s.ident with draws := s.ident.draws ++ [(pack, draw)] } }
  else .next s

/-- ROLL_OFF_ROUND_CLOSE (R49, R50): lowest draw claims, ties go to the next round, no draw or an eighth tie ends the
election. -/
def execRollOffRoundClose (t : Nat) (s : State) : Host.Outcome State Fault Refusal :=
  let s := s.tick t
  if s.ident.phase = .rollOff ∧ s.ident.roundStart + 50000000 ≤ s.now then
    let own := match s.ident.ownDraw with
      | some v => [(s.packId, v)]
      | none => []
    let all := own ++ s.ident.draws
    match all with
    | [] => .next s.electionFailed
    | e :: r =>
      let low := r.foldl (fun a x => min a x.2) e.2
      let holders := all.filter (fun x => x.2 == low)
      let mine := s.ident.ownDraw = some low
      if holders.length = 1 then
        if mine then .next (s.claim 1)
        else .next { s with ident := { s.ident with phase := .awaitEnum, round := 0, inRound := false } }
      else if s.ident.round = 8 then .next s.electionFailed
      else .next (s.startRound (s.ident.round + 1) (decide mine))
  else .next s

/-- ELECTION_RETRY (R51): the election again from step 2. -/
def execElectionRetry (t : Nat) (s : State) : Host.Outcome State Fault Refusal :=
  let s := s.tick t
  match s.ident.phase, s.ident.retryAt with
  | .noHead, some r => if r ≤ s.now then .next s.beginElection else .next s
  | _, _ => .next s

/-- PRE_ENUM_BACKOFF_EXPIRY (R46): the frame, still queued, may be attempted again. -/
def execPreEnumBackoffExpiry (t : Nat) (s : State) : Host.Outcome State Fault Refusal :=
  let s := s.tick t
  match s.ident.backoffEnd with
  | some e => if e ≤ s.now then .next { s with ident := { s.ident with backoffEnd := none, bitErrors := 0 } } else .next s
  | none => .next s

/-- The descriptor that the staged objects give with a SEQ (R40, R55). -/
def State.staged (s : State) (seq : Nat) : Descriptor :=
  { seq := seq, stringId := s.nat Obj.stageStringId, headPack := s.nat Obj.stageHeadPack,
    standbyPack := s.nat Obj.stageStandbyPack, moduleCount := s.nat Obj.stageModuleCount,
    flags := if s.ident.stageFlagsWritten then s.nat Obj.stageFlags else 1 }

/-- The effect of a commit on the head (R40 to R43). -/
def commitEffect : PxEffect := fun s =>
  if !s.isHead then .refuse pxNotHead
  else
    let seq := s.ident.highestSeq + 1
    let d := s.staged seq
    if s.ident.seqExhausted ∨ 0xFFFFFFFE < seq ∨ Descriptor.parse d.bytes = none then .refuse pxRange
    else
      let others := s.admitted.filter (fun k => (s.member k).pack != s.packId)
      let newStandby := d.standbyPack != s.ident.desc.standbyPack
      let s := (s.writeDescriptor d).setDesc d
      let s := { s with ident := { s.ident with highestSeq := seq } }
      let s := s.distribute 0x4001 6 d.bytes
      if others.isEmpty then
        .ok { s with ident := { s.ident with
          commit := none, commitReport := some [], designateBy := if newStandby then some (s.now + 1000000000) else none } }
      else
        .ok { s with ident := { s.ident with
          commit := some { seq := seq, waiting := others, deadline := s.now + 2000000000, newStandby := newStandby },
          commitReport := none } }

/-- DESC_COMMIT (R40, R41): a write of 0x5A to DescCommit. -/
def execDescCommit (t : Nat) (q : PxReq) (v : Nat) (s : State) : Host.Outcome State Fault Refusal :=
  .next ((s.tick t).pxWriteNat q Obj.descCommit 0 0 v commitEffect)

/-- A descriptor content that the head has sent is written to the non-candidate slot and acknowledged (R35, R42, R557).
DEDUCED, log entry 14. -/
def State.takeDescriptor (s : State) (q : PxReq) (record : Bytes) : State :=
  match Descriptor.parse record with
  | none => (s.changeLog q 0x4001 6 11 0 pxRange [] []).pxAnswer q 7 pxRange 0x4001 6 11 0 []
  | some d =>
    if s.rcd.pmPresent then
      let s := (s.writeDescriptor d).setDesc d
      (s.changeLog q 0x4001 6 11 0 0 [] record).pxAnswer q 7 0 0x4001 6 11 0 []
    else (s.changeLog q 0x4001 6 11 0 pxStorage [] []).pxAnswer q 7 pxStorage 0x4001 6 11 0 []

/-- DESC_DISTRIBUTION (R35, R557): a descriptor distributed by square 0. -/
def execDescDistribution (t : Nat) (rx : SlotRx) (tid : Nat) (record : Bytes) (s : State) : Host.Outcome State Fault Refusal :=
  let s := s.tick t
  let r := s.ringRx rx (pxHead 7 tid 16 0 0x4001 6 11 0 0 (leBytes 4 (crc32 record)))
  let s := r.1
  if !r.2 || rx.hdr.src ≠ 0 || s.isHead then .next s
  else .next (s.takeDescriptor { path := .dist, origin := 0, node := s.nodeId, tid := tid, session := 0, auth := [] } record)

/-- DESC_WRITE_ACK (R42): the commit is complete once every admitted module has acknowledged. -/
def execDescWriteAck (t node : Nat) (ok : Bool) (s : State) : Host.Outcome State Fault Refusal :=
  let s := s.tick t
  match s.ident.commit with
  | none => .next s
  | some c =>
    let w := if ok then setErase c.waiting node else c.waiting
    if w.isEmpty then
      .next { s with ident := { s.ident with
        commit := none, commitReport := some [], designateBy := if c.newStandby then some (s.now + 1000000000) else s.ident.designateBy } }
    else .next { s with ident := { s.ident with commit := some { c with waiting := w } } }

/-- DESC_COMMIT_TIMEOUT (R42): after 2 s the commit is reported failed with the node IDs that did not acknowledge. -/
def execDescCommitTimeout (t : Nat) (s : State) : Host.Outcome State Fault Refusal :=
  let s := s.tick t
  match s.ident.commit with
  | none => .next s
  | some c =>
    if c.deadline ≤ s.now then .next { s with ident := { s.ident with commit := none, commitReport := some c.waiting } } else .next s

/-- Sends a descriptor to one square as a block write on TC5 (R61). DEDUCED, log entry 14. -/
def State.sendDescTo (s : State) (sq : Int) (d : Descriptor) : State :=
  let s := s.sendSlot 5 1 0 (.square sq) (pxHead 4 0 18 0 0x4001 6 11 0 0 (leBytes 4 0 ++ leBytes 2 128))
  let s := (List.range 4).foldl (fun (st : State) k =>
    st.sendSlot 5 3 0 (.square sq) ([5, 0, 40, 0] ++ leBytes 2 k ++ [0, 0] ++ sliceBytes (32 * k) 32 d.bytes)) s
  s.sendSlot 5 3 0 (.square sq) (pxHead 7 0 16 0 0x4001 6 11 0 0 (leBytes 4 (crc32 d.bytes)))

/-- The effect of AdoptPack on the head (R61, R63). -/
def adoptEffect (v : Nat) : PxEffect := fun s =>
  if !s.isHead then .refuse pxNotHead
  else
    let s := s.setNat Obj.adoptPack v
    let s := { s with ident := { s.ident with
      adopted := setInsert s.ident.adopted v, foreigners := s.ident.foreigners.filter (fun j => j.pack != v) } }
    let s := if s.ident.foreigners.isEmpty then s.lower 0x0D else s
    let seq := s.ident.highestSeq + 1
    if 0xFFFFFFFE < seq then .ok s.seqSpent
    else
      let s := { s with ident := { s.ident with highestSeq := seq } }
      match s.ident.replies.find? (fun r => r.pack == v) with
      | some r => .ok (s.sendDescTo r.square { s.ident.desc with seq := seq })
      | none => .ok s

/-- ADOPT_PACK (R61). -/
def execAdoptPack (t : Nat) (q : PxReq) (v : Nat) (s : State) : Host.Outcome State Fault Refusal :=
  .next ((s.tick t).pxWriteNat q Obj.adoptPack 0 0 v (adoptEffect v))

/-- The effect of DescErase (R63): in MAINTENANCE, zeros over the slot a write would go to, then over the other. -/
def descEraseEffect : PxEffect := fun s =>
  if s.md.mode ≠ .maintenance then .refuse pxState
  else if !s.rcd.pmPresent then .refuse pxStorage
  else
    let k := match s.candidate with
      | some (c, _) => 1 - c
      | none => 0
    .ok ((s.pmWrite (0x100 + 0x80 * k) (zeroBytes 128)).pmWrite (0x100 + 0x80 * (1 - k)) (zeroBytes 128))

/-- DESC_ERASE (R63). -/
def execDescErase (t : Nat) (q : PxReq) (v : Nat) (s : State) : Host.Outcome State Fault Refusal :=
  .next ((s.tick t).pxWriteNat q Obj.descErase 0 0 v descEraseEffect)

/-- STANDBY_DESIGNATE (R54, R698): at the head, the named module becomes standby and the displaced one a segment; at any
other module, its own role follows the running descriptor. -/
def execStandbyDesignate (t : Nat) (s : State) : Host.Outcome State Fault Refusal :=
  let s := s.tick t
  if s.isHead then
    let s := s.designate (s.pickStandby 0)
    .next { s with ident := { s.ident with designateBy := none } }
  else if s.ident.desc.standbyPack ≠ 0 ∧ s.ident.desc.standbyPack = s.packId ∧ s.mayLead then
    .next { s with ident := { s.ident with role := .standby }, flt := { s.flt with ckptSince := s.now } }
  else .next { s with ident := { s.ident with role := .segment } }

/-- The node IDs free for a new pack (R57). -/
def State.freeNodes (s : State) : List Nat :=
  ((List.range 32).map (· + 1)).filter (fun k => !(s.ident.bindings.any (fun b => b.2 == k)) && k ≠ s.nodeId)

/-- LATE_JOIN_ROUND (R517): the head sends JOIN_OPEN and hears joins for 25 ms. -/
def execLateJoinRound (t : Nat) (s : State) : Host.Outcome State Fault Refusal :=
  let s := s.tick t
  if !s.isHead then .next s
  else
    let s := { s with ident := { s.ident with joinClose := some (s.now + 25000000), joins := [] } }
    .next (s.sendFrame .ctlA 0x088 1 (fitBytes 8 (leBytes 2 (s.nat Obj.membershipGen) ++ leBytes 1 s.freeNodes.length)))

/-- The own join frame (R511). -/
def State.ownJoin (s : State) : JoinFrame :=
  match s.candidate with
  | some (_, d) => { pack := s.packId, serial := s.nat Obj.serialNumber, stringId := d.stringId, seq := d.seq, eligible := s.eligible }
  | none => { pack := s.packId, serial := s.nat Obj.serialNumber, stringId := 0, seq := 0, eligible := s.eligible }

/-- JOIN_OPEN (R517): a waiting module sends a join frame after a delay of 0 ms to 20 ms drawn from its TRNG. -/
def execJoinOpen (t membGen freeIds : Nat) (s : State) : Host.Outcome State Fault Refusal :=
  let s := s.tick t
  if !s.busHears .ctlA then .next s else
  let s := s.busHeard .ctlA
  let _ := (membGen, freeIds)
  if s.ident.phase ≠ .lateJoin ∨ !s.commsOn ∨ !s.voteOk then .next s
  else
    let d := s.draw
    let due := s.now + d.1 % 20000001
    let s := { d.2 with ident := { d.2.ident with joinAt := some due } }
    .next (s.queueFrame .ctlA {
      id := 0x1F * 2 ^ 24 + s.serial24, ext := true, brs := false, data := s.ownJoin.bytes, kind := 3, queuedAt := due })

/-- JOIN (R511): kept by the head while its round is open. -/
def execJoin (t : Nat) (j : JoinFrame) (s : State) : Host.Outcome State Fault Refusal :=
  let s := s.tick t
  if !s.busHears .ctlA then .next s else
  let s := s.busHeard .ctlA
  match s.isHead, s.ident.joinClose with
  | true, some e =>
    if s.now ≤ e then .next { s with ident := { s.ident with joins := s.ident.joins.filter (fun x => x.serial != j.serial) ++ [j] } }
    else .next s
  | _, _ => .next s

/-- Joiners in ascending serial order (R517). -/
def insertJoin (j : JoinFrame) : List JoinFrame → List JoinFrame
  | [] => [j]
  | x :: r => if j.serial < x.serial then j :: x :: r else x :: insertJoin j r

/-- The node ID a pack gets: the one bound to it, else the lowest free one (R56, R57). -/
def State.nodeFor (s : State) (pack : Nat) : Option Nat :=
  match s.ident.bindings.find? (fun b => b.1 == pack) with
  | some b => some b.2
  | none => s.freeNodes.head?

/-- Sends the first assign of the list and starts its 5 ms (R512). -/
def State.sendAssign (s : State) : State :=
  match s.ident.assigns with
  | [] => { s with ident := { s.ident with assignBy := none } }
  | a :: _ =>
    let s := { s with ident := { s.ident with assignBy := some (s.now + 5000000) } }
    s.sendPre 0x1C (assignBytes a.serial a.pack a.node (s.nat Obj.membershipGen))

/-- Admission of one joiner (R57, R60, R62, R65): foreign, held back for want of a standby, or put on the assign list. -/
def State.admitJoiner (s : State) (j : JoinFrame) : State :=
  let own := decide (j.stringId = s.ident.desc.stringId)
  let s := { s with ident := { s.ident with highestSeq := max s.ident.highestSeq j.seq } }
  if !own && j.seq ≠ 0 && !(j.pack ∈ s.ident.adopted) then
    { s with ident := { s.ident with foreigners := (s.ident.foreigners.filter (fun (x : JoinFrame) => x.pack != j.pack)) ++ [j] } }.raise 0x0D
  else if 16 ≤ s.admitted.length ∧ s.nodeOfPack j.pack = none ∧ s.ident.standbyPack = 0 then s.raise 0x0B
  else
    let s := if own && s.ident.desc.seq < j.seq && j.seq ≠ 0 then
        let x := s.rewriteDescriptor { s.ident.desc with seq := j.seq + 1 }
        if x.ident.seqExhausted then x else x.raiseEvent 0x0E
      else s
    match s.nodeFor j.pack with
    | none => s
    | some k =>
      { s with ident := { s.ident with
          bindings := s.ident.bindings.filter (fun b => b.1 != j.pack) ++ [(j.pack, k)],
          assigns := s.ident.assigns ++ [{ serial := j.serial, pack := j.pack, node := k }] } }

/-- LATE_JOIN_ROUND_CLOSE (R517): node IDs to the admitted joiners, in ascending serial order. -/
def execLateJoinRoundClose (t : Nat) (s : State) : Host.Outcome State Fault Refusal :=
  let s := s.tick t
  match s.isHead, s.ident.joinClose with
  | true, some e =>
    if s.now < e then .next s
    else
      let js := s.ident.joins.foldl (fun a j => insertJoin j a) []
      let s := { s with ident := { s.ident with joinClose := none, joins := [] } }
      .next (js.foldl State.admitJoiner s).sendAssign
  | _, _ => .next s

/-- NODE_ASSIGN (R511, R512, R517): the addressed module adopts the node ID and acknowledges. -/
def execNodeAssign (t serial pack node membGen : Nat) (s : State) : Host.Outcome State Fault Refusal :=
  let s := s.tick t
  if !s.busHears .ctlA then .next s else
  let s := s.busHeard .ctlA
  if serial ≠ s.nat Obj.serialNumber ∨ pack ≠ s.packId then .next s
  else
    let s : State := (s.setNat Obj.ownNodeId node).setNat Obj.membershipGen membGen
    let ph : ElecPhase := if s.ident.phase = ElecPhase.lateJoin then .enumerated else s.ident.phase
    let s : State := { s with
      can := { s.can with idStopped := false }
      ident := { s.ident with phase := ph, joinAt := none } }
    .next (s.sendPre 0x1D (assignAckBytes serial node (s.can.b.st != CanState.off)))

/-- The rate settings of this module for a bus (R511, R514). -/
def State.ownRates (s : State) (b : Bus) : BusRates :=
  { nominal := s.nat Obj.nominalRate b.idx, data := s.nat Obj.dataRate b.idx, triple := s.flag Obj.tripleSample b.idx }

/-- Sends the enumeration close (R512 step 3); the rates change 10 ms later. -/
def State.sendClose (s : State) : State :=
  let ra := s.ownRates .ctlA
  let rb := s.ownRates .ctlB
  let s := { s with ident := { s.ident with
    enumStart := none, assigns := [], assignBy := none, rateSwitch := some (s.now + 10000000, ra, rb) } }
  s.sendPre 0x1E (closeBytes ra rb (s.nat Obj.membershipGen))

/-- The next assign, or the close when enumeration has none left (R512). -/
def State.nextAssign (s : State) : State :=
  if s.ident.assigns.isEmpty && s.ident.enumStart.isSome then s.sendClose else s.sendAssign

/-- ASSIGN_ACK (R512, R56): the module is enumerated, and its member entry admitted. -/
def execAssignAck (t serial node : Nat) (ctlB : Bool) (s : State) : Host.Outcome State Fault Refusal :=
  let s := s.tick t
  if !s.busHears .ctlA then .next s else
  let s := s.busHeard .ctlA
  let _ := ctlB
  match s.isHead, s.ident.assigns with
  | true, a :: r =>
    if a.serial ≠ serial ∨ a.node ≠ node then .next s
    else
      let m := s.member node
      let s := s.setMember node { m with pack := a.pack, serial := serial, state := 1, mode := if m.pack = a.pack then m.mode else 2 }
      let s := { s with ident := { s.ident with assigns := r }, ring := { s.ring with changed := true } }
      .next s.nextAssign
  | _, _ => .next s

/-- ASSIGN_ACK_TIMEOUT (R512, R513): no acknowledge in 5 ms; the module is left to late join. -/
def execAssignAckTimeout (t : Nat) (s : State) : Host.Outcome State Fault Refusal :=
  let s := s.tick t
  match s.ident.assignBy with
  | none => .next s
  | some e =>
    if e ≤ s.now then .next { s with ident := { s.ident with assigns := s.ident.assigns.drop 1, assignBy := none } }.nextAssign
    else .next s

/-- ENUMERATION_CLOSE_DEADLINE (R512 step 3): step 8 of R48 has lasted 180 ms. -/
def execEnumerationCloseDeadline (t : Nat) (s : State) : Host.Outcome State Fault Refusal :=
  let s := s.tick t
  match s.ident.enumStart with
  | none => .next s
  | some e => if s.isHead ∧ e + 180000000 ≤ s.now then .next s.sendClose else .next s

/-- ENUMERATION_CLOSE (R512, R513, R514): the rates are adopted 10 ms later; a module without a node ID waits for late
join. -/
def execEnumerationClose (t : Nat) (ra rb : BusRates) (membGen : Nat) (s : State) : Host.Outcome State Fault Refusal :=
  let s := s.tick t
  if !s.busHears .ctlA then .next s else
  let s := s.busHeard .ctlA
  if s.isHead ∨ s.ident.phase = .enumerated then .next s
  else
    let s := if s.nodeId = 0 then s else s.setNat Obj.membershipGen membGen
    .next { s with ident := { s.ident with
      rateSwitch := some (s.now + 10000000, ra, rb), phase := if s.nodeId = 0 then .lateJoin else .enumerated } }

/-- Sends STATUS on the ring and both buses (R485, R505). -/
def State.sendStatus (s : State) : State :=
  let r := s.statusRec
  (s.sendSlot 3 6 0 .eastAll r.bytes).sendBoth (0x100 + s.nodeId) 1 r.busBytes

/-- The head's standby after enumeration (R11, R54): designated where one can be, missing-standby otherwise. -/
def State.settleStandby (s : State) : State :=
  let s := s.designate (s.pickStandby 0)
  if s.missingStandby then s.raise 0x0B else s.lower 0x0B

/-- BUS_RATE_SWITCH (R512 steps 4 and 5): both buses at the rates of the close frame; heartbeat and STATUS begin. -/
def execBusRateSwitch (t : Nat) (s : State) : Host.Outcome State Fault Refusal :=
  let s := s.tick t
  match s.ident.rateSwitch with
  | none => .next s
  | some (e, ra, rb) =>
    if s.now < e then .next s
    else
      let act := fun (x : BusSt) (r : BusRates) => { x with rates := r, st := if x.st = .listening then .active else x.st }
      let s := { s with
        can := { s.can with a := act s.can.a ra, b := act s.can.b rb }
        ident := { s.ident with rateSwitch := none } }
      if s.isHead then .next (s.settleStandby.sendHeartbeat.sendStatus)
      else if s.nodeId = 0 then .next s
      else .next s.sendStatus

/-- The rate pair of a trial: 0 the pack-memory pair, then the twenty pairs of R500 and R502 in ascending code order. -/
def State.scanRates (s : State) (b : Bus) (k : Nat) : BusRates :=
  if k = 0 then s.ownRates b else { nominal := (k - 1) / 5, data := (k - 1) % 5, triple := false }

/-- RATE_SCAN (R516): a waiting module that hears nothing tries the next rate pair. -/
def execRateScan (t : Nat) (s : State) : Host.Outcome State Fault Refusal :=
  let s := s.tick t
  let due := if s.ident.scan = 0 then s.ident.lastFrame + 1000000000 ≤ s.now
    else s.ident.scanSince + 200000000 ≤ s.now ∧ s.ident.lastFrame + 200000000 ≤ s.now
  if s.ident.phase = .lateJoin ∧ due then
    let k := (s.ident.scan + 1) % 21
    let s := { s with ident := { s.ident with scan := k, scanSince := s.now } }
    .next { s with can := { s.can with
      a := { s.can.a with rates := s.scanRates .ctlA k }, b := { s.can.b with rates := s.scanRates .ctlB k } } }
  else .next s

end Sys2Proof.Machine
end

