-- ==== Sys2Proof/Machine/Ring.lean ====
section
/-! DEFINITION. The optical ring: ports, wrap and unwrap, census, damaged slots, queues, streams of other members (R452 to
R498). -/
namespace Sys2Proof.Machine

/-- A port's state changed in place. -/
def State.editPort (s : State) (p : Port) (f : PortSt → PortSt) : State := s.setPort p (f (s.port p))

/-- A WRAP notice of this member (R485): both ways. -/
def State.sendWrap (s : State) (code : Nat) (p : Port) (time : Nat) : State := s.sendNotice 6 code p.idx time

/-- A new token epoch at a port (R471): EPOCH inverted, the full allocation, returns discarded for the link delay plus
0.2 µs. -/
def State.newEpoch (s : State) (p : Port) : State :=
  let d := (s.linkDelay p).floor + 200
  let n := (s.port p).waiting.length
  (s.editPort p (fun x => { x with epoch := !x.epoch, spent := [], owed := [], discardUntil := (s.ringTime : Int) + d })).flush p n

/-- The slots that wait at a port that went down leave by the other one, turned (R465). -/
def State.turnWaiting (s : State) (p : Port) : State :=
  let w := (s.port p).waiting
  let s := s.editPort p (fun x => { x with waiting := [] })
  w.foldl (fun (st : State) q =>
    if q.hdr.returned then st.bump Obj.wrapDrops
    else if (st.port p.other).usable then
      st.launch p.other { q.hdr with turned := !q.hdr.turned, returned := q.hdr.turned } q.payload q.own q.stomp
    else st) s

/-- A port goes down and wraps (R455, R472, R482): slots turn, a WRAP notice of code 1 goes out, the head starts a
census. -/
def State.portDown (s : State) (p : Port) (fault : Bool) : State :=
  let s := s.editPort p (fun x => { x with
    up := false, turning := true, ready := false, unwrapAt := none, holdSince := none, byFault := fault, wrapBuf := [],
    sendingFault := !x.rx, delayT1 := none })
  let s := s.bump Obj.portDowns p.idx
  let s := { s with ring := { s.ring with
    bypass := true, downSince := if (s.port p.other).up then none else some s.now } }
  let s := (s.turnWaiting p).sendWrap 1 p s.ringTime
  if s.isHead then s.startCensus else s

/-- LIGHT_LOSS (R109, R453, R454): the receiver lacks light, block lock or SYNC; a port that is down sends LINK_FAULT. -/
def execLightLoss (t : Nat) (p : Port) (s : State) : Host.Outcome State Fault Refusal :=
  let s := s.tick t
  .next (s.editPort p (fun x => { x with
    rx := false, lossSince := some (x.lossSince.getD s.now), holdSince := none, sendingFault := x.sendingFault || !x.up }))

/-- PORT_DOWN (R454, R455, R482): 20 µs without interruption. -/
def execPortDown (t : Nat) (p : Port) (s : State) : Host.Outcome State Fault Refusal :=
  let s := s.tick t
  match (s.port p).lossSince, (s.port p).up with
  | some e, true => if s.now < e + 20000 then .next s else .next (s.portDown p false)
  | _, _ => .next s

/-- LINK_FAULT (R455, R482): the port goes down at once; on a port that is down the hold-off begins anew. -/
def execLinkFault (t : Nat) (p : Port) (s : State) : Host.Outcome State Fault Refusal :=
  let s := s.tick t
  let s := if (s.port p).up then s.portDown p true else s.editPort p (fun x => { x with byFault := true })
  .next (s.editPort p (fun x => { x with holdSince := if x.rx then some s.now else none }))

/-- SLOT_SYNC_REACHED (R453, R454, R455): the receiver has light, lock and SYNC; LINK_FAULT stops and the hold-off counts. -/
def execSlotSyncReached (t : Nat) (p : Port) (s : State) : Host.Outcome State Fault Refusal :=
  let s := s.tick t
  .next (s.editPort p (fun x => { x with
    rx := true, lossSince := none, sendingFault := false, byFault := false,
    holdSince := if x.up then none else some (x.holdSince.getD s.now) }))

/-- The head orders an unwrap for 2 ms from now (R483); its own ready ports follow the order too. DEDUCED, log entry 57. -/
def State.orderUnwrap (s : State) (p : Port) : State :=
  let u := s.ringTime + 2000000
  let mark := fun (x : PortSt) => if x.ready then { x with unwrapAt := some (x.unwrapAt.getD u) } else x
  let s := ((s.editPort .east mark).editPort .west mark).sendWrap 3 p u
  { s with ring := { s.ring with unwrapAt := some (s.ring.unwrapAt.getD u) } }

/-- PORT_UP (R455, R483): the hold-off has run; with a census result held the port waits for the unwrap order. -/
def execPortUp (t : Nat) (p : Port) (s : State) : Host.Outcome State Fault Refusal :=
  let s := s.tick t
  let x := s.port p
  match x.holdSince with
  | none => .next s
  | some e =>
    if x.up || !x.rx || decide (s.now < e + s.nat Obj.unwrapHoldoff * 1000000) then .next s
    else
      let wait := s.ring.hasSquare
      let s := s.editPort p (fun x => { x with
        up := true, holdSince := none, byFault := false, sendingFault := false, turning := wait, ready := wait,
        readyRepeat := s.now + 100000000, spent := [], owed := [] })
      let s := { s with ring := { s.ring with downSince := none } }.lower 0x60
      if wait then
        let s := s.sendWrap 2 p s.ringTime
        .next (if s.isHead then s.orderUnwrap p else s)
      else .next (if s.isHead then s.startCensus else s)

/-- PORT_READY_REPEAT (R483): the code-2 notice again every 100 ms. -/
def execPortReadyRepeat (t : Nat) (p : Port) (s : State) : Host.Outcome State Fault Refusal :=
  let s := s.tick t
  let x := s.port p
  if !x.ready || decide (s.now < x.readyRepeat) then .next s
  else
    let s := (s.editPort p (fun x => { x with readyRepeat := s.now + 100000000 })).sendWrap 2 p s.ringTime
    .next (if s.isHead then s.orderUnwrap p else s)

/-- A WRAP notice that reaches the head (R476, R483). -/
def State.wrapNotice (s : State) (rx : SlotRx) (n : Notice) (f : State → State) : State :=
  let r := s.noticeRx (.ring rx) 6 n
  if r.2 && r.1.isHead then f r.1 else r.1

/-- WRAP_PORT_DOWN (R476). -/
def execWrapPortDown (t : Nat) (rx : SlotRx) (n : Notice) (s : State) : Host.Outcome State Fault Refusal :=
  .next ((s.tick t).wrapNotice rx n State.startCensus)

/-- WRAP_PORT_READY (R483): the head orders the unwrap. -/
def execWrapPortReady (t : Nat) (rx : SlotRx) (n : Notice) (s : State) : Host.Outcome State Fault Refusal :=
  .next ((s.tick t).wrapNotice rx n (fun s => s.orderUnwrap (if n.detail = 1 then .west else .east)))

/-- CENSUS_REQUEST_NOTICE (R459, R476). -/
def execCensusRequestNotice (t : Nat) (rx : SlotRx) (n : Notice) (s : State) : Host.Outcome State Fault Refusal :=
  .next ((s.tick t).wrapNotice rx n State.startCensus)

/-- UNWRAP_ORDER (R483): a member with PORTREADY set stops turning at the instant U of the notice. DEDUCED, log entry 57. -/
def execUnwrapOrder (t : Nat) (rx : SlotRx) (n : Notice) (s : State) : Host.Outcome State Fault Refusal :=
  let r := (s.tick t).noticeRx (.ring rx) 6 n
  if !r.2 then .next r.1
  else
    let mark := fun (x : PortSt) => if x.ready then { x with unwrapAt := some n.time } else x
    .next ((r.1.editPort .east mark).editPort .west mark)

/-- The turn at a port ends at its instant U (R483). -/
def State.endTurn (s : State) (p : Port) : State :=
  match (s.port p).unwrapAt with
  | some u =>
    if s.ringTime < u then s
    else (s.editPort p (fun x => { x with turning := false, ready := false, unwrapAt := none })).newEpoch p
  | none => s

/-- UNWRAP_INSTANT (R471, R476, R483): both ends carry traffic again under a new epoch; the head starts a census. -/
def execUnwrapInstant (t : Nat) (s : State) : Host.Outcome State Fault Refusal :=
  let s := ((s.tick t).endTurn .east).endTurn .west
  match s.ring.unwrapAt with
  | some u =>
    if s.ringTime < u then .next s
    else
      let s := { s with ring := { s.ring with unwrapAt := none } }
      .next (if s.isHead then s.startCensus else s)
  | none => .next s

/-- A written census request (R476, R710). -/
def censusRequestEffect : PxEffect := fun s => if s.isHead then .ok s.startCensus else .refuse pxNotHead

/-- CENSUS_REQUEST (R710). -/
def execCensusRequest (t : Nat) (q : PxReq) (v : Nat) (s : State) : Host.Outcome State Fault Refusal :=
  .next ((s.tick t).pxWriteNat q Obj.censusRequest 0 0 v censusRequestEffect)

/-- The census has come back to the head (R477 step 5, R497): the result goes out, effective 2 ms later. -/
def State.censusEnd (s : State) (no count turnAt : Nat) : State :=
  let eff := s.ringTime + 2000000
  let s := { s with ring := { s.ring with
    run := none, failures := 0, pend := some { no := no, n := count + 1, turnAt := turnAt, effective := eff } } }
  (s.sendSlot 1 8 0 .both (resultBytes no (count + 1) turnAt eff s.ident.desc.stringId)).follow 0x61 (turnAt != 255)

/-- A census slot at a member with TURNED 0 (R477 step 3, R465, R480): counted in, then sent on or turned. -/
def State.countIn (s : State) (h : SlotHdr) (no count turnAt stringId : Nat) : State :=
  if s.ring.lastCounted = some no then s
  else
    let c := count + 1
    let s := { s with ring := { s.ring with counted := some (no, c, s.now), lastCounted := some no } }
    let h := { h with hops := h.hops - 1 }
    if (s.port .east).usable then s.launch .east h (censusBytes no c turnAt stringId) false
    else if h.returned then s.bump Obj.wrapDrops
    else if (s.port .west).usable then s.launch .west { h with turned := true } (censusBytes no c c stringId) false
    else s

/-- CENSUS (R465, R477, R480): counted in, turned, restored or passed on; at the head its return ends the count. -/
def execCensus (t : Nat) (rx : SlotRx) (no count turnAt stringId : Nat) (s : State) : Host.Outcome State Fault Refusal :=
  let s := ((s.tick t).takeTokens rx.port rx.hdr).freeBuffer rx.port rx.hdr
  let h := rx.hdr
  let restore := h.turned && rx.port == .east && !(s.port .west).usable
  if h.turned && !restore then
    if (s.port rx.port.other).usable then .next (s.launch rx.port.other h (censusBytes no count turnAt stringId) false)
    else .next s
  else
    let h := if restore then { h with turned := false, returned := true } else h
    if !s.isHead then .next (s.countIn h no count turnAt stringId)
    else match s.ring.run with
    | some r => if r.no = no then .next (s.censusEnd no count turnAt) else .next s
    | none => .next s

/-- Sends the own descriptor content to one module, as a block write to its square (R44, R557). -/
def State.sendDescriptorTo (s : State) (sq : Int) (d : Bytes) : State :=
  let s := s.sendSlot 5 1 0 (.square sq) (pxHead 4 0 18 0 0x4001 6 11 0 0 (leBytes 4 0 ++ leBytes 2 d.length))
  let s := (List.range ((d.length + 31) / 32)).foldl (fun (st : State) k =>
    let seg := sliceBytes (32 * k) 32 d
    st.sendSlot 5 3 0 (.square sq) ([5, 0] ++ leBytes 1 (8 + seg.length) ++ [0] ++ leBytes 2 k ++ [0, 0] ++ seg)) s
  s.sendSlot 5 3 0 (.square sq) (pxHead 7 0 16 0 0x4001 6 11 0 0 (leBytes 4 (crc32 d)))

/-- The running descriptor to every module that answered with an invalid candidate or a lower SEQ (R44). -/
def State.refreshDescriptors (s : State) : State :=
  let d := s.ident.desc
  if d.seq = 0 || d.stringId = 0 then s
  else (s.ident.replies.filter (fun r => r.kind == 0 && r.pack != s.packId
      && ((s.nodeOfPack r.pack).isSome || s.ident.assigns.any (fun (a : Assign) => a.pack == r.pack))
      && (!r.candValid || decide (r.descSeq < d.seq)))).foldl
    (fun (st : State) r => st.sendDescriptorTo r.square d.bytes) s

/-- The rewrite of the winning content after start-up (R44). -/
def State.settleDescriptors (s : State) : State :=
  let d := s.ident.desc
  if d.seq = 0 || d.stringId = 0 then s
  else
    let crc := d.crc
    let twin := s.ident.announces.any (fun a => a.valid && a.seq == d.seq && a.crc != crc && s.ident.replies.any (fun r => r.pack == a.pack))
    if twin then s.rewriteDescriptor { d with seq := d.seq + 1 }
    else
      let s := match s.candidate with
        | some (_, c) => if c.seq < d.seq then s.writeDescriptor d else s
        | none => s.writeDescriptor d
      s.refreshDescriptors

/-- The reply of a module as a joiner. -/
def joinOfReply (r : CensusReplyRec) : JoinFrame :=
  { pack := r.pack, serial := r.serial, stringId := if r.candValid then r.descString else 0,
    seq := if r.candValid then r.descSeq else 0, eligible := r.eligible }

/-- Replies in census order (R56): by square modulo N. -/
def insertReply (n : Int) (r : CensusReplyRec) : List CensusReplyRec → List CensusReplyRec
  | [] => [r]
  | x :: l => if r.square % n < x.square % n then r :: x :: l else x :: insertReply n r l

/-- The own entry of the membership list (R56, R69): the head is the first in census order. -/
def State.ownEntry (s : State) : State :=
  match s.nodeFor s.packId with
  | none => s
  | some k =>
    let k := if s.nodeId = 0 then k else s.nodeId
    let m : Member := {
      pack := s.packId, serial := s.nat Obj.serialNumber, square := 0, role := 1, mode := s.md.mode.code, state := 1,
      descSeq := s.ident.desc.seq, descString := s.ident.desc.stringId, eligible := s.eligible, counted := true, locked := true }
    let s := (s.setNat Obj.ownNodeId k).setMember k m
    { s with ident := { s.ident with bindings := s.ident.bindings.filter (fun (b : Nat × Nat) => b.1 != s.packId) ++ [(s.packId, k)] } }

/-- Step 8 of R48 begins (R512): assigns in census order, then the modules heard on CTL-A alone in ascending serial order.
DEDUCED, log entry 52. -/
def State.startEnumeration (s : State) : State :=
  let s := { s with
    can := { s.can with idStopped := false }
    ident := { s.ident with enumDue := false, enumStart := some s.now, assigns := [] }
    ring := { s.ring with changed := true } }.ownEntry
  let n : Int := max 1 (s.ring.n : Int)
  let rs := (s.ident.replies.filter (fun r => r.kind == 0 && r.pack != s.packId)).foldl (fun l r => insertReply n r l) []
  let rest := (s.ident.announces.filter (fun a => a.pack != s.packId && !(rs.any (fun r => r.pack == a.pack)))).foldl
    (fun l a => insertJoin {
      pack := a.pack, serial := a.serial, stringId := s.ident.desc.stringId, seq := if a.valid then min a.seq s.ident.desc.seq else 0,
      eligible := a.eligible } l) []
  let s := (rs.map joinOfReply ++ rest).foldl State.admitJoiner s
  let s := s.settleDescriptors
  s.nextAssign

/-- The number of modules found sets the configuration (R9, R66). -/
def State.foundModules (s : State) (n : Nat) : State :=
  let s := s.setNat Obj.modulesFound n
  let large := decide (17 ≤ n) || (s.ident.censusDone && s.nat Obj.configuration == 1)
  let s := { s with ident := { s.ident with censusDone := true } }
  s.setNat Obj.configuration (bitOf large)

/-- A member that has sent STATUS on a bus within 1 s with a ring port up (R484). -/
def State.lit (s : State) (m : Member) : Bool := m.state == 1 && m.linkUp && decide (s.now < m.lastStatus + 1000000000)

/-- A head without a standby designates one from what the replies show (R54, R598, R603, R607): after a handover the former head,
after a failover never the failed one. DEDUCED, log entry 97. -/
def State.recruitStandby (s : State) : State :=
  let fresh : State := { s with flt := { s.flt with former := none } }
  if s.ident.standbyPack ≠ 0 then fresh
  else match s.flt.former with
  | some (p, true) =>
    if s.ident.members.any (fun e => e.2.pack == p && e.2.state == 1 && e.2.eligible && e.2.mode != 5) then fresh.designate p
    else fresh.designate (s.pickStandby p)
  | some (p, false) => fresh.designate (s.pickStandby p)
  | none => fresh.designate (s.pickStandby 0)

/-- The replies of a census are in, or 5 ms have passed (R9, R58, R59, R64, R481, R484). DEDUCED, log entry 53. DEDUCED, log entry 54. -/
def State.closeReplies (s : State) : State :=
  let s := { s with ring := { s.ring with replyBy := none } }
  let s := s.foundModules ((s.ident.replies.filter (fun r => r.kind == 0 && r.pack != s.packId)).length + 1)
  if s.ident.enumDue then
    let s := (s.lower 0x62).startEnumeration
    { s.bump Obj.membershipGen with ring := { s.ring with changed := false } }
  else
    let gone := fun (e : Nat × Member) => e.2.state == 1 && e.2.pack != s.packId && !e.2.counted
    let lost := s.ident.members.filter gone
    let dark := s.ring.turnAt != 255 && lost.any (fun e => s.lit e.2)
    let ms := s.ident.members.map (fun e => if gone e then (e.1, { e.2 with state := 3, released := false }) else e)
    let s := { s with ident := { s.ident with members := ms } }
    let s := s.follow 0x62 dark
    let s := if s.ring.changed then s.refreshDescriptors else s
    let s := if s.ring.changed || !lost.isEmpty then
        { s.bump Obj.membershipGen with ring := { s.ring with changed := false } }
      else s
    let s := s.recruitStandby
    let s := s.follow 0x0B s.missingStandby
    if s.allMeasured then s else s.promptOpen

/-- CENSUS_TIMEOUT (R479): not returned 1 ms after step 2; a new one at once, after three failures every 100 ms. A head whose
census fails before it has enumerated goes on with CTL-A alone (R124). DEDUCED, log entry 52. -/
def execCensusTimeout (t : Nat) (s : State) : Host.Outcome State Fault Refusal :=
  let s := s.tick t
  match s.isHead, s.ring.run with
  | true, some r =>
    if s.now < r.start + 1000000 then .next s
    else
      let n := s.ring.failures + 1
      let s := { s with ring := { s.ring with run := none, failures := n, again := false } }.bump Obj.censusFailures
      let s := if s.ident.enumDue then s.startEnumeration else s
      if n < 3 then .next s.startCensus
      else .next ({ s with ring := { s.ring with retryAt := some (s.now + 100000000) } }.raise 0x62).afterTrigger
  | _, _ => .next s

/-- CENSUS_RETRY (R479). -/
def execCensusRetry (t : Nat) (s : State) : Host.Outcome State Fault Refusal :=
  let s := s.tick t
  match s.ring.retryAt with
  | some e => if s.isHead && decide (e ≤ s.now) then .next s.startCensus else .next s
  | none => .next s

/-- CENSUS_RESULT (R477, R478): kept for its effective instant by a member that counted itself into it. -/
def execCensusResult (t : Nat) (rx : SlotRx) (no n turnAt effective stringId : Nat) (s : State) : Host.Outcome State Fault Refusal :=
  let r := (s.tick t).ringRx rx (resultBytes no n turnAt effective stringId)
  if !r.2 || r.1.isHead then .next r.1
  else match r.1.ring.counted with
  | some (k, _, _) =>
    if k = no then
      .next { r.1 with ring := { r.1.ring with pend := some { no := no, n := n, turnAt := turnAt, effective := effective } } }
    else .next r.1
  | none => .next r.1

/-- CENSUS_RESULT_TIMEOUT (R480): no result 5 ms after counting; the previous square stays. -/
def execCensusResultTimeout (t : Nat) (s : State) : Host.Outcome State Fault Refusal :=
  let s := s.tick t
  match s.ring.counted with
  | some (k, _, at0) =>
    if decide (s.now < at0 + 5000000) || (match s.ring.pend with | some p => p.no == k | none => false) then .next s
    else .next { s with ring := { s.ring with counted := none } }
  | none => .next s

/-- The square of a count (R478). -/
def squareOf (count n turnAt : Nat) : Int := if turnAt = 255 ∨ count ≤ turnAt then (count : Int) else (count : Int) - n

/-- The own reply (R477, R485). -/
def State.ownReply (s : State) : CensusReplyRec :=
  let c := s.candidate
  { censusNo := s.ring.censusNo, square := s.square, kind := 0, eligible := s.eligible, candValid := c.isSome, pack := s.packId,
    serial := s.nat Obj.serialNumber, descSeq := (c.map (·.2.seq)).getD 0, descString := (c.map (·.2.stringId)).getD 0 }

/-- The census in force from now on (R464, R471, R472, R604): squares, routes, epochs. -/
def State.takeCensus (s : State) (p : CensusPend) : State :=
  let count := match s.ring.counted with
    | some (k, c, _) => if k = p.no then c else 0
    | none => 0
  let s := { s with ring := { s.ring with
    pend := none, counted := none, hasSquare := true, square := if s.isHead then 0 else squareOf count p.n p.turnAt, n := p.n,
    turnAt := p.turnAt, censusNo := p.no, bypass := false, sq0Broadcast := false, noUnicast := false } }
  let s := (((s.setNat Obj.ringMembers p.n).setNat Obj.turnAt p.turnAt).setNat Obj.censusNumber p.no).lower 0x63
  let calm := fun (x : PortSt) => { x with hdrErrors := 0, censusAsked := false, wrapBuf := [] }
  let s := (s.editPort .east calm).editPort .west calm
  let s := if (s.port .east).up then s.newEpoch .east else s
  if (s.port .west).up then s.newEpoch .west else s

/-- CENSUS_EFFECTIVE (R48, R464, R471, R477, R481, R604, R704): squares, routes and epochs take effect; members reply, the head
waits 5 ms for the replies and starts the next census where one is due. -/
def execCensusEffective (t : Nat) (s : State) : Host.Outcome State Fault Refusal :=
  let s := s.tick t
  match s.ring.pend with
  | none => .next s
  | some p =>
    if s.ringTime < p.effective then .next s
    else
      let s := s.takeCensus p
      if !s.isHead then .next (s.sendSlot 1 9 0 (.square 0) s.ownReply.bytes)
      else
        let ms := s.ident.members.map (fun (e : Nat × Member) => (e.1, { e.2 with counted := false }))
        let s := { s with
          ident := { s.ident with members := ms, replies := [] }
          ring := { s.ring with replyBy := some (s.now + 5000000) } }
        .next (if s.ring.again then s.startCensus else s)

/-- CENSUS_REPLY (R9, R44, R59, R60, R69, R477): the head updates the entry of the pack; once every member has replied, the list
is complete. DEDUCED, log entry 53. -/
def execCensusReply (t : Nat) (rx : SlotRx) (r : CensusReplyRec) (s : State) : Host.Outcome State Fault Refusal :=
  let x := (s.tick t).ringRx rx r.bytes
  let s := x.1
  if !x.2 || !s.isHead || s.ring.replyBy = none || r.censusNo ≠ s.ring.censusNo then .next s
  else
    let rs := s.ident.replies.filter (fun y => !(y.square == r.square)) ++ [r]
    let s := { s with ident := { s.ident with replies := rs } }
    let s := match s.ident.members.find? (fun e => r.kind == 0 && e.2.pack == r.pack && (e.2.state == 1 || e.2.state == 3)) with
      | some (k, m) =>
        let back := decide (m.state = 3) || decide (m.serial ≠ r.serial)
        let s := s.setMember k { m with
          square := r.square, state := 1, counted := true, serial := r.serial, eligible := r.eligible, descSeq := r.descSeq,
          descString := r.descString }
        { s with ring := { s.ring with changed := s.ring.changed || back } }
      | none => s
    .next ((if rs.length + 1 = s.ring.n then s.closeReplies else s).afterTrigger)

/-- CENSUS_REPLY_TIMEOUT (R58, R64, R481): a member missing from the replies 5 ms after EFFECTIVE is lost. -/
def execCensusReplyTimeout (t : Nat) (s : State) : Host.Outcome State Fault Refusal :=
  let s := s.tick t
  match s.ring.replyBy with
  | some e => if s.isHead && decide (e ≤ s.now) then .next s.closeReplies.afterTrigger else .next s
  | none => .next s

/-- SLOT_FORWARD (R157, R462 to R469, R472, R486): a slot not addressed to this member; a TIME slot gains residence (2⁻¹⁶ ns)
and link delay in CORRECTION. -/
def execSlotForward (t : Nat) (rx : SlotRx) (payload : Bytes) (residence : Nat) (s : State) : Host.Outcome State Fault Refusal :=
  let s := s.tick t
  let time := rx.hdr.cls == 1 && rx.hdr.typ == 1
  let corr := fieldAt 8 8 payload + residence + (s.linkDelay rx.port * 65536).floor.toNat
  let b := if time then patchBytes 8 (leBytes 8 corr) payload else payload
  .next (s.ringRx rx b).1

/-- A damaged slot passed on stomped where it goes on, by the routes of an intact one (R458, R459). -/
def State.stompOn (s : State) (rx : SlotRx) (payload : Bytes) : State :=
  let h := rx.hdr
  let on := fun (st : State) (h : SlotHdr) =>
    let h' := { h with hops := h.hops - 1 }
    if h.hops ≤ 1 || (h.bcast && (st.ring.hasSquare || st.isHead) && h.src == st.square) then st
    else st.route h' payload false true
  if linkType h.cls h.typ then s
  else if !h.turned then on s h
  else
    let home : Port := if h.west then .east else .west
    if rx.port ≠ home && !(s.port home).usable then on s { h with turned := false, returned := true }
    else if (s.port rx.port.other).usable then s.launch rx.port.other h payload false true
    else s

/-- HeaderErrorLimit reached (R459, R497): the head is asked for a census. -/
def State.askCensus (s : State) (p : Port) : State :=
  let x := s.port p
  if x.censusAsked || decide (x.hdrErrors < s.nat Obj.headerErrorLimit) then s
  else
    let s := ((s.editPort p (fun x => { x with censusAsked := true })).raise 0x63).sendWrap 4 p s.ringTime
    if s.isHead then s.startCensus else s

/-- DAMAGED_SLOT (R453, R458 to R460): dropped or passed on stomped, and counted. -/
def execDamagedSlot (t : Nat) (rx : SlotRx) (payload : Bytes) (damage : SlotDamage) (s : State) : Host.Outcome State Fault Refusal :=
  let s := s.tick t
  let back := fun (st : State) => (st.takeTokens rx.port rx.hdr).freeBuffer rx.port rx.hdr
  match damage with
  | .hcrc =>
    let s := (s.bump Obj.headerErrors rx.port.idx).editPort rx.port (fun x => { x with hdrErrors := x.hdrErrors + 1 })
    .next (s.askCensus rx.port).afterTrigger
  | .crc => .next ((back (s.bump Obj.crcErrors rx.port.idx)).stompOn rx payload)
  | .stomped => .next ((back (s.bump Obj.stompedSlots rx.port.idx)).stompOn rx payload)
  | .unlisted => .next (back (s.bump Obj.crcErrors rx.port.idx))

/-- QUEUE_BOOKS_CHECK (R474, R475, R497): every 1 ms; the queues that refused a TC0 or TC1 slot have their producer stopped.
DEDUCED, log entry 56. -/
def execQueueBooksCheck (t : Nat) (s : State) : Host.Outcome State Fault Refusal :=
  let s := s.tick t
  if s.ring.refused.isEmpty then .next s
  else
    let s := { s with ring := { s.ring with refused := [], stopped := s.ring.refused.foldl setInsert s.ring.stopped } }
    .next (s.raise 0x64).afterTrigger

/-- RING_DOWN_TIMEOUT (R497): both ports down for 1 s. -/
def execRingDownTimeout (t : Nat) (s : State) : Host.Outcome State Fault Refusal :=
  let s := s.tick t
  match s.ring.downSince with
  | some e =>
    if s.md.mode.runs && decide (e + 1000000000 ≤ s.now) && !(s.port .east).up && !(s.port .west).up then .next (s.raise 0x60).afterTrigger
    else .next s
  | none => .next s

/-- PRECISION (R492): a part waits for its partner; one without it is discarded when another SEQ of its source comes. -/
def execPrecision (t : Nat) (rx : SlotRx) (words : List Nat) (s : State) : Host.Outcome State Fault Refusal :=
  let r := (s.tick t).ringRx rx (wordsBytes words)
  if !r.2 then .next r.1
  else
    let h := rx.hdr
    let part := h.aux % 2
    let rest := r.1.ring.precPart.filter (fun e => e.1 != h.src)
    let pair := r.1.ring.precPart.any (fun e => e.1 == h.src && e.2.1 == h.seq && e.2.2 != part)
    .next { r.1 with ring := { r.1.ring with precPart := if pair then rest else rest ++ [(h.src, h.seq, part)] } }

/-- CURRENT (R366, R375, R491, R639): the words of the head's string current, and the capture store. -/
def execCurrent (t : Nat) (rx : SlotRx) (words : List Nat) (s : State) : Host.Outcome State Fault Refusal :=
  let r := (s.tick t).ringRx rx (wordsBytes words)
  if !r.2 || r.1.isHead then .next r.1
  else .next ((r.1.takeCurrent (13 * r.1.gridOf rx.hdr.seq wide13) words).captureCurrentSlot rx.hdr (wordsBytes words))

/-- The node ID at a square, as the membership list or STATUS slots have shown it. DEDUCED, log entry 55. -/
def State.nodeOfSquare (s : State) (sq : Int) : Nat :=
  if s.isHead then (s.nodeAt sq).getD 0 else KMap.get s.ring.nodeOf (sq + 64).toNat 0

/-- WIDEBAND (R639): a WIDEBAND slot goes into the capture store where its node is selected; STANDARD slots do not. -/
def execWideband (t : Nat) (rx : SlotRx) (words : List Nat) (s : State) : Host.Outcome State Fault Refusal :=
  let r := (s.tick t).ringRx rx (wordsBytes words)
  if !r.2 || rx.hdr.cls ≠ 4 then .next r.1
  else .next (r.1.captureWide (r.1.nodeOfSquare rx.hdr.src) rx.hdr (wordsBytes words))

/-- BULK (R648): delivered to its consumer, or sent on to its square. -/
def execBulk (t : Nat) (rx : SlotRx) (payload : Bytes) (s : State) : Host.Outcome State Fault Refusal :=
  .next ((s.tick t).ringRx rx payload).1

end Sys2Proof.Machine
end

