-- ==== Sys2Proof/Machine/Takeover.lean ====
section
/-! DEFINITION. Checkpoints, the detection of head failure, failover and commanded handover (R594 to R608), with the notices of a
head that leaves and of a module whose AUX24 is lost (R64, R130, R599). -/
namespace Sys2Proof.Machine

/-- Whether generation `b` is newer than `a` (R594: the modular difference of R178 over 32 bits). -/
def genNewer (a b : Nat) : Bool :=
  let d := (b + 2 ^ 32 - a) % 2 ^ 32
  decide (1 ≤ d) && decide (d < 2 ^ 31)

/-- The GEN after one (R594). -/
def genNext (g : Nat) : Nat := if 0xFFFFFFFF ≤ g then 1 else g + 1

/-- LoopState of an instance: x̂ as eight F32 (0x6010.17). -/
def State.loopStateBytes (s : State) (i : Nat) : Bytes := fitBytes 32 ((s.inst i).xhat.flatMap f32Bytes)

/-- The checkpoint content of this head (R595). -/
def State.ckptNow (s : State) (gen : Nat) : Bytes :=
  s.ckptContent gen ((List.range 5).flatMap (fun k => s.loopStateBytes (11 + k)))
    ((List.range 32).flatMap (fun k => leBytes 2 (KMap.get s.bal.planSeqs (k + 1) 0)))
    ((List.range 96).map (fun k => BitVec.ofNat 8 (packBits ((List.range 8).map (fun b =>
      let i := 8 * k + b
      s.bal.activeCells.contains ((i / 24 + 1) * 32 + i % 24 + 1))))))

/-- The square of the designated standby. DEDUCED, log entry 64. -/
def State.standbySquare (s : State) : Option Int := (s.nodeOfPack s.ident.standbyPack).map (fun n => (s.member n).square)

/-- Sends one checkpoint of the next GEN to the standby (R493, R594). DEDUCED, log entry 64. -/
def State.sendCkpt (s : State) : State :=
  match s.standbySquare with
  | none => s
  | some q =>
    if s.ring.noUnicast then s
    else
      let gen := genNext (s.nat Obj.ckptGenSent)
      let c := s.ckptNow gen
      let stream := leBytes 4 c.length ++ leBytes 4 (crc32 c) ++ c
      let s := { s.setNat Obj.ckptGenSent gen with flt := { (s.setNat Obj.ckptGenSent gen).flt with unacked := s.flt.unacked + 1 } }
      (List.range ((stream.length + 45) / 46)).foldl (fun (st : State) k =>
        st.sendSlot 6 1 0 (.square q) (ckptBytes gen k (sliceBytes (46 * k) 46 stream))) s

/-- A standby that does not acknowledge is lost: raised, and another one designated (R54, R65, R598). -/
def State.loseStandby (s : State) : State :=
  let lost := s.ident.standbyPack
  let s := (s.raise 0x12).designate (s.pickStandby lost)
  s.follow 0x0B s.missingStandby

/-- Whether this head serves: in head role, on AUX24, not abdicated (R130, R605). -/
def State.serves (s : State) : Bool := s.isHead && s.md.mode.runs && !s.md.abdicated

/-- CHECKPOINT_SEND (R493, R594, R598): every 100 ms while a standby is designated. -/
def execCheckpointSend (t : Nat) (s : State) : Host.Outcome State Fault Refusal :=
  let s := s.tick t
  if !s.serves || s.ident.standbyPack = 0 then .next s
  else
    let s := if 3 ≤ s.flt.unacked then s.loseStandby else s
    .next s.sendCkpt.afterTrigger

/-- What a collected checkpoint holds (R493, R494): its content where every INDEX is there and the CRC matches. -/
def ckptAssemble (slots : KMap Bytes) : Option Bytes :=
  match findKey slots 0 with
  | none => none
  | some first =>
    let len := fieldAt 0 4 first
    let n := (len + 8 + 45) / 46
    if len = 0 ∨ 65536 < len ∨ !(List.range n).all (fun k => KMap.has slots k) then none
    else
      let c := sliceBytes 8 len ((List.range n).flatMap (fun k => fitBytes 46 (KMap.get slots k [])))
      if fieldAt 4 4 first = crc32 c then some c else none

/-- The INDEX of the last slot of a checkpoint in collection (R493). -/
def ckptLast (slots : KMap Bytes) : Nat :=
  match findKey slots 0 with
  | some first => (fieldAt 0 4 first + 8 + 45) / 46 - 1
  | none => 25

/-- Whether the accepted GEN lags the heartbeat's by more than 2 (R597). -/
def State.genLag (s : State) : Bool :=
  let a := s.nat Obj.ckptGenAccepted
  genNewer a s.flt.heardGen && decide (2 < (s.flt.heardGen + 2 ^ 32 - a) % 2 ^ 32)

/-- The lag check of a standby (R597). -/
def State.lagCheck (s : State) : State :=
  if s.ident.role == .standby then s.follow 0x13 (s.genLag || decide (s.flt.ckptSince + 300000000 ≤ s.now)) else s

/-- CHECKPOINT (R30, R494, R597): the standby collects the slots, accepts a complete checkpoint whose CRC matches, and answers.
The first checkpoint of a head shows a module that it is standby. DEDUCED, log entry 63. -/
def execCheckpoint (t : Nat) (rx : SlotRx) (gen index : Nat) (data : Bytes) (s : State) : Host.Outcome State Fault Refusal :=
  let r := (s.tick t).ringRx rx (ckptBytes gen index data)
  let s := r.1
  if !r.2 || rx.hdr.src ≠ 0 || s.isHead || s.md.mode == .safe then .next s
  else if s.ident.role == .segment && !s.mayLead then .next s
  else
    let s := if s.ident.role == .standby then s
      else { s with ident := { s.ident with role := .standby }, flt := { s.flt with ckptSince := s.now } }
    let slots := KMap.set (if s.flt.inGen = gen then s.flt.inSlots else []) index (fitBytes 46 data)
    let s := { s with flt := { s.flt with inGen := gen, inSlots := slots } }
    match ckptAssemble slots with
    | some c =>
      let s := { s with flt := { s.flt with ckpt := { gen := gen, content := c, takenAt := fieldAt 4 8 c }, ckptSince := s.now, inSlots := [] } }
      let s := (s.setNat Obj.ckptGenAccepted gen).sendSlot 6 2 0 (.square 0) (ckptAckBytes gen slots.length true)
      .next s.lagCheck
    | none =>
      if index = ckptLast slots then
        .next ({ s with flt := { s.flt with inSlots := [] } }.sendSlot 6 2 0 (.square 0) (ckptAckBytes gen slots.length false))
      else .next s

/-- CHECKPOINT_ACK (R598, R607, R709): a COMPLETE acknowledge of a generation sent; a handover that waits for it goes on. -/
def execCheckpointAck (t : Nat) (rx : SlotRx) (gen received : Nat) (complete : Bool) (s : State) : Host.Outcome State Fault Refusal :=
  let r := (s.tick t).ringRx rx (ckptAckBytes gen received complete)
  let s := r.1
  if !r.2 || !s.isHead || !complete || genNewer (s.nat Obj.ckptGenSent) gen then .next s
  else
    let s := { s with
      flt := { s.flt with unacked := 0, ackAt := some s.now }
      ident := { s.ident with standbyReady := true } }
    let s := (s.setNat Obj.ckptGenAcked gen).lower 0x12
    if s.flt.handoverStep = 2 ∧ gen = s.nat Obj.ckptGenSent then
      .next { (s.sendNotice 4 2 0 s.ringTime) with flt := { (s.sendNotice 4 2 0 s.ringTime).flt with handoverStep := 4 } }
    else .next s

/-- CHECKPOINT_LAG (R597). -/
def execCheckpointLag (t : Nat) (s : State) : Host.Outcome State Fault Refusal := .next (s.tick t).lagCheck.afterTrigger

/-- The effect of a write of HandoverCommand (R607, R710). -/
def handoverEffect : PxEffect := fun s =>
  if !s.isHead then .refuse pxNotHead
  else
    let fresh := match s.flt.ackAt with
      | some a => decide (s.now ≤ a + 200000000)
      | none => false
    if s.standbySquare.isNone || !fresh || s.flt.handoverStep ≠ 0 || !(s.hio.contactor = 0 || s.hio.contactor = 3) then .refuse pxState
    else
      let s := s.sendCkpt
      .ok { s with flt := { s.flt with handoverSince := some s.now, handoverStep := 2 } }

/-- HANDOVER_COMMAND (R607). -/
def execHandoverCommand (t : Nat) (q : PxReq) (v : Nat) (s : State) : Host.Outcome State Fault Refusal :=
  .next ((s.tick t).pxWriteNat q Obj.handoverCommand 0 0 v handoverEffect)

/-- HANDOVER_TIMEOUT (R608, R709). -/
def execHandoverTimeout (t : Nat) (s : State) : Host.Outcome State Fault Refusal :=
  let s := s.tick t
  match s.flt.handoverSince with
  | none => .next s
  | some e =>
    if s.now < e + 100000000 ∨ 4 ≤ s.flt.handoverStep then .next s
    else .next ({ s with flt := { s.flt with handoverSince := none, handoverStep := 0 } }.raiseEvent 0x14).afterTrigger

/-- The recorded loop, limiter and balancing state of a checkpoint put back (R448, R595). -/
def State.restoreLoops (s : State) : State :=
  let c := s.flt.ckpt.content
  if c = [] then s
  else
    let s := (List.range 5).foldl (fun (st : State) k =>
      let x := st.inst (11 + k)
      st.setInst (11 + k) { x with xhat := (List.range 8).map (fun j => f32At (1024 + 32 * k + 4 * j) c) }) s
    let chg := f32At 36 c
    let dis := f32At 40 c
    let x := s.inst 10
    let s := s.setInst 10 { x with
      u := [chg, dis], lim := [(0, { out := chg, target := chg }), (1, { out := dis, target := dis })] }
    { s with bal := { s.bal with
      planSeqs := (List.range 32).filterMap (fun k =>
        let v := fieldAt (48 + 2 * k) 2 c
        if v = 0 then none else some (k + 1, v))
      activeCells := ((List.range 768).filter (fun i => bitsOf (i % 8) (i % 8) (fieldAt (112 + i / 8) 1 c) = 1)).map (fun i =>
        (i / 24 + 1) * 32 + i % 24 + 1) } }

/-- The mode in which an abdicated head is known to be: KEEPALIVE on its way after code 0, SAFE after codes 1 and 4. -/
def goneMode (cause mode : Nat) : Nat := if cause = 1 then 1 else if cause = 2 ∨ cause = 5 then 5 else mode

/-- The membership list after a takeover: this module head, the former head as its failure shows it or, after a handover,
standby (R602, R603, R607). -/
def State.takeoverMembers (s : State) (former cause : Nat) : State :=
  let own := s.member s.nodeId
  let s := if own.state = 0 then s else s.setMember s.nodeId { own with role := 1 }
  let m := s.member former
  if m.state = 0 || former = s.nodeId then s
  else s.setMember former { m with role := 0, mode := goneMode cause m.mode, released := m.released && cause == 4 }

/-- Steps 2 to 4 of R602: head duties, the checkpoint restored, coils driven, GEN continued (R603), the members as they are now, the
running census abandoned (R606). -/
def State.takeoverRole (s : State) (basis cause : Nat) : State :=
  let accepted := s.nat Obj.ckptGenAccepted
  let gen := if genNewer accepted s.flt.heardGen then s.flt.heardGen else accepted
  let s' := ((s.takeHead basis).restoreCkpt).restoreLoops
  let s' := { s' with
    ring := { s'.ring with run := none, nextNo := (s'.ring.censusNo + 1) % 65536 }
    ident := { s'.ident with headNode := s'.nodeId } }
  (s'.takeoverMembers s.ident.headNode cause).setNat Obj.ckptGenSent gen

/-- The standby of a new head is designated once the replies of its first census show who is eligible (R598, R603, R607).
DEDUCED, log entry 97. -/
def State.takeoverStandby (s : State) (basis former : Nat) : State :=
  let s := { s with flt := { s.flt with former := some ((s.member former).pack, basis == 3) } }
  s.follow 0x0B s.missingStandby

/-- The books of a takeover (R603): duration, count, instant, cause, the source. PRESUMED, log entry 36. -/
def State.takeoverBooks (s : State) (cause : Nat) : State :=
  let n := s.nat Obj.failovers
  (((((s.setNat Obj.takeoverDuration (Config.takeoverMicros n % 65536)).bump Obj.failovers).setNat Obj.lastTakeover
    s.ringTime).setNat Obj.takeoverCause cause).raiseEvent 0x11)

/-- Steps 5 to 7 of R602: heartbeat, census, limit record; a prompt open where a pack is unmeasured (R64). -/
def State.takeoverServe (s : State) : State :=
  let s1 := if s.md.mode == .online && s.hio.contactor != 3 then s.enterMode .standby 4 else s
  let s2 := s1.sendHeartbeat.startCensus
  let s3 := if s2.allMeasured then s2 else s2.promptOpen
  if s3.hio.openStep ≠ 0 then s3 else s3.sendLimit (s3.rat Obj.chargeLimit) (s3.rat Obj.dischargeLimit)

/-- A standby head takes the role (R602 to R604, R607). -/
def State.takeover (s : State) (basis cause : Nat) : State :=
  ((((s.takeoverRole basis cause).takeoverStandby basis s.ident.headNode).takeoverBooks cause).takeoverServe)

/-- Whether a path is left to a standby: a ring port up, or a bus error active (R600). -/
def State.reachable (s : State) : Bool := s.ring.east.up || s.ring.west.up || s.can.a.st == .active || s.can.b.st == .active

/-- Head failure is recognised (R599 to R602, R604): a standby with a checkpoint takes over, but not in SAFE (R30); one isolated on
every path does nothing on a heartbeat detection. `cause` is the code of TakeoverCause. DEDUCED, log entry 61. -/
def State.recognise (s : State) (cause : Nat) : State :=
  if s.isHead || !s.md.mode.runs || s.flt.failAt.isSome then s
  else if s.ident.role == .standby && cause == 3 && !s.reachable then s
  else
    let s := { s with
      flt := { s.flt with
        failAt := some s.now, hbMissed := 0, inSlots := [],
        deadPack := if cause = 3 then s.flt.deadPack else ((s.member s.ident.headNode).pack, s.now + 100000000) }
      ring := { s.ring with sq0Broadcast := true } }
    if s.ident.role == .standby && s.md.mode != .safe && s.flt.ckpt.content != [] then s.takeover 2 cause else s

/-- What an ABDICATE notice does (R599, R602, R607): codes 0, 1 and 4 of the head are its failure, code 2 hands the role to the
standby, code 3 is that of a duplicate head that lost (R67). DEDUCED, log entry 61. DEDUCED, log entry 67. -/
def State.takeAbdicate (s : State) (via : NoticeVia) (n : Notice) : State :=
  let r := s.noticeRx via 4 n
  let s := r.1
  if !r.2 || s.isHead || (s.ident.headNode ≠ 0 && n.node ≠ s.ident.headNode) then s
  else
    let s := if n.code = 3 then s else { s with flt := { s.flt with deadPack := (n.pack, s.now + 100000000) } }
    match n.code with
    | 0 => (s.recognise 1).afterTrigger
    | 1 => (s.recognise 2).afterTrigger
    | 4 => (s.recognise 5).afterTrigger
    | 2 =>
      if s.ident.role == .standby && s.md.mode != .safe && s.flt.ckpt.content != [] then (s.takeover 3 4).afterTrigger else s
    | _ => s

/-- ABDICATE (R599, R602, R607). -/
def execAbdicate (t : Nat) (via : NoticeVia) (n : Notice) (s : State) : Host.Outcome State Fault Refusal :=
  .next ((s.tick t).takeAbdicate via n)

/-- What an AUX_LOSS notice does (R64, R130): the head counts the pack as unmeasured. -/
def State.takeAuxLoss (s : State) (via : NoticeVia) (n : Notice) : State :=
  let r := s.noticeRx via 3 n
  let s := r.1
  if !r.2 || !s.isHead || (s.member n.node).state = 0 then s
  else
    let m := s.member n.node
    let s := s.setMember n.node { m with mode := 1, released := false }
    if s.allMeasured then s else s.promptOpen

/-- AUX_LOSS (R64, R130). -/
def execAuxLoss (t : Nat) (via : NoticeVia) (n : Notice) (s : State) : Host.Outcome State Fault Refusal :=
  .next ((s.tick t).takeAuxLoss via n)

/-- HEAD_FAILURE_WAIT_EXPIRY (R45, R601): 100 ms after the recognition no new head has been heard: the trip switch opens, the module
is in STANDBY, and the election runs from step 2. -/
def execHeadFailureWaitExpiry (t : Nat) (s : State) : Host.Outcome State Fault Refusal :=
  let s := s.tick t
  match s.flt.failAt with
  | none => .next s
  | some e =>
    if s.now < e + 100000000 || s.isHead then .next s
    else
      let s := { s with
        flt := { s.flt with failAt := none }
        ident := { s.ident with headFailHold := true, role := .segment, headNode := 0 } }
      let s := if s.md.mode == .online then s.enterMode .standby 4 else s
      let pre := fun (x : BusSt) => { x with rates := { nominal := 1, data := 4, triple := false } }
      let s := { s.setNat Obj.ownNodeId 0 with can := { s.can with a := pre s.can.a, b := pre s.can.b } }
      .next s.beginElection

/-- ABDICATE_LOOP_HOLD_EXPIRY (R605): the loop source of a head that abdicated with code 0 becomes the closed series switch. -/
def execAbdicateLoopHoldExpiry (t : Nat) (s : State) : Host.Outcome State Fault Refusal :=
  let s := s.tick t
  match s.md.loopHoldUntil with
  | none => .next s
  | some e =>
    if s.now < e then .next s
    else
      let s := { s with md := { s.md with loopHoldUntil := none } }
      .next (if s.isHead then s.leaveHead .segment else s)

end Sys2Proof.Machine
end

