-- ==== Sys2Proof/Machine/Buses.lean ====
section
/-! DEFINITION. The control buses: attempts and their results, error states, bus-off and LONELY, notices, STATUS and heartbeats
(R499 to R536, R599), with what a heartbeat means to a head (R67, R68, R607). -/
namespace Sys2Proof.Machine

/-- What arbitration compares: an 11-bit identifier ranks by its 18 further bits at 0. -/
def TxFrame.rank (f : TxFrame) : Nat := if f.ext then 2 * f.id + 1 else 2 * (f.id * 2 ^ 18)

/-- The frame the controller offers: the lowest identifier, the oldest among equals (R522). -/
def offered : List TxFrame → Option TxFrame
  | [] => none
  | f :: r => match offered r with
    | none => some f
    | some g => if g.rank < f.rank then some g else some f

/-- Sender, TYPE and SEQ of a notice frame (R506). -/
def noticeKey (f : TxFrame) : Nat × Nat × Nat := (fieldAt 0 1 f.data, fieldAt 22 1 f.data, fieldAt 20 2 f.data)

/-- The bus does not serve: bus-off, recovering, disabled or LONELY (R532, R534). -/
def BusSt.lost (x : BusSt) : Bool := x.st == .busOff || x.st == .recovering || x.st == .disabled || x.lonely

/-- Whether a bus is bus-off or recovering. -/
def BusSt.isOff (x : BusSt) : Bool := x.st == .busOff || x.st == .recovering

/-- The sources and the clock that follow the states of both buses (R534, R535). -/
def State.busFollow (s : State) : State :=
  let both := s.can.a.lost && s.can.b.lost
  let s := { s with can := { s.can with lostSince := if both then some (s.can.lostSince.getD s.now) else none } }
  let s := if both then s else s.lower 0x68
  let s := if s.can.a.isOff || s.can.b.isOff then s else s.lower 0x65
  let s := if s.can.a.lonely || s.can.b.lonely then s else s.lower 0x67
  if s.can.a.st == .disabled || s.can.b.st == .disabled then s else s.lower 0x66

/-- PX frames that wait take free buffers (R523). -/
def BusSt.refill (x : BusSt) : BusSt :=
  match x.waitPx with
  | f :: r =>
    if (x.txq.filter (fun g => g.kind != 0)).length < 12 && decide (x.txq.length < 16) then { x with txq := x.txq ++ [f], waitPx := r } else x
  | [] => x

/-- A frame went out and was acknowledged (R503, R522, R526, R530). -/
def State.frameDone (s : State) (b : Bus) (f : TxFrame) (delay : Nat) : State :=
  let x := s.bus b
  let te := x.txErr - 1
  let brs := f.brs && x.brs
  let x' : BusSt := { x with
    txq := x.txq.erase f, txErr := te, ackRun := 0, lonely := false
    st := if x.st == .passive && decide (te < 128) && decide (x.rxErr < 128) then .active else x.st
    tdcFail := x.tdcFail || (brs && decide (63 < delay))
    sentNotices := if f.kind = 0 then (noticeKey f, s.now) :: x.sentNotices.filter (fun e => s.now < e.2 + 5000000000) else x.sentNotices }
  let s1 := { s.setBus b x'.refill with out := s.out ++ [Out.frame b { f with brs := brs }] }
  let s2 := if f.kind = 3 then { s1 with ident := { s1.ident with bitErrors := 0 } } else s1
  let s3 := if brs then s2.setNat Obj.tdcValue (min delay 255) b.idx else s2
  (if brs && decide (63 < delay) then s3.raise 0x6B else s3).busFollow

/-- An attempt ended in an acknowledge error: in error passive the counter stays (R530). -/
def State.frameUnacked (s : State) (b : Bus) : State :=
  let x := s.bus b
  let s := s.setBus b { x with ackRun := min (x.ackRun + 1) 16, txErr := if x.st == .passive then x.txErr else min (x.txErr + 8) 256 }
  (s.bump Obj.ackErrors b.idx).bump Obj.errorFrames b.idx

/-- An attempt ended in a bit error; the third in succession of an own pre-enumeration frame starts a random wait (R46). -/
def State.frameBad (s : State) (b : Bus) (f : TxFrame) : State :=
  let x := s.bus b
  let s := (s.setBus b { x with ackRun := 0, txErr := min (x.txErr + 8) 256 }).bump Obj.errorFrames b.idx
  if f.kind ≠ 3 then s
  else if s.ident.bitErrors + 1 < 3 then { s with ident := { s.ident with bitErrors := s.ident.bitErrors + 1 } }
  else
    let d := s.draw
    { d.2 with ident := { d.2.ident with bitErrors := 0, backoffEnd := some (s.now + d.1 % 50000001) } }

/-- FRAME_SENT (R46, R503, R522, R526, R530): how the attempt of the frame offered ended. -/
def execFrameSent (t : Nat) (b : Bus) (r : SendResult) (s : State) : Host.Outcome State Fault Refusal :=
  let s := s.tick t
  let x := s.bus b
  if x.st ≠ .active ∧ x.st ≠ .passive then .next s
  else match offered x.txq, r with
  | none, _ => .next s
  | some _, .lostArbitration => .next s
  | some f, .sent d => .next (s.frameDone b f d).afterTrigger
  | some _, .ackError => .next (s.frameUnacked b)
  | some f, .bitError => .next (s.frameBad b f)

/-- BUS_NOTICE (R358, R505, R506, R518, R599): a NOTICE or HEAD_NOTICE frame; one of another identifier or TYPE is ignored. -/
def execBusNotice (t : Nat) (b : Bus) (id typ seq : Nat) (n : Notice) (s : State) : Host.Outcome State Fault Refusal :=
  let s := s.tick t
  let via : NoticeVia := .bus b seq
  if id = 0x010 then
    if typ = 4 then .next (s.takeAbdicate via n)
    else if typ = 5 then .next (s.takeTripReset via n)
    else .next s
  else if 0x041 ≤ id ∧ id ≤ 0x060 ∧ n.node = id - 0x040 then
    if typ = 1 then .next (s.takeTrip via n)
    else if typ = 2 then .next (s.takeOpenReq via n)
    else if typ = 3 then .next (s.takeAuxLoss via n)
    else .next s
  else .next s

/-- Every pending notice of a bus is queued on the other bus where that one has no copy queued or sent (R528). -/
def State.copyNotices (s : State) (b : Bus) : State :=
  ((s.bus b).txq.filter (fun f => f.kind == 0)).foldl (fun (st : State) f =>
    let o := st.bus b.other
    if o.txq.any (fun g => g.kind == 0 && noticeKey g == noticeKey f) || o.sentNotices.any (fun e => e.1 == noticeKey f) then st
    else st.queueFrame b.other { f with brs := o.brs }) s

/-- ERROR_PASSIVE (R526, R528). DEDUCED, log entry 66. -/
def execErrorPassive (t : Nat) (b : Bus) (s : State) : Host.Outcome State Fault Refusal :=
  let s := s.tick t
  let x := s.bus b
  if x.st ≠ .active then .next s else .next ((s.setBus b { x with st := .passive, ackRun := 0 }).copyNotices b)

/-- Every frame of a bus discarded and counted (R529). -/
def State.dropFrames (s : State) (b : Bus) : State :=
  let x := s.bus b
  (s.setBus b { x with txq := [], waitPx := [] }).bumpBy Obj.txDiscarded (x.txq.length + x.waitPx.length) b.idx

/-- BUS_OFF (R527 to R529, R535): queues trimmed, hold-off started; the third within 600 s disables the bus. DEDUCED, log entry 66. -/
def execBusOff (t : Nat) (b : Bus) (s : State) : Host.Outcome State Fault Refusal :=
  let s := s.tick t
  let x := s.bus b
  if x.st ≠ .active ∧ x.st ≠ .passive then .next s
  else
    let s := (s.copyNotices b).bump Obj.busOffCount b.idx
    let offs := s.now :: x.offTimes.filter (fun e => s.now < e + 600000000000)
    let px := (x.txq.filter (fun f => f.kind == 2)).length + x.waitPx.length
    let x' : BusSt := { x with st := .busOff, txErr := 256, ackRun := 0, lonely := false, offTimes := offs }
    if 3 ≤ offs.length then
      let s := (s.setBus b { x' with st := .disabled }).dropFrames b
      .next (((s.raise 0x65).raise 0x66).busFollow).afterTrigger
    else
      let s := (s.setBus b { x' with
        txq := x.txq.filter (fun f => f.kind != 2), waitPx := [], holdSince := some s.now }).bumpBy Obj.txDiscarded px b.idx
      .next ((s.raise 0x65).busFollow).afterTrigger

/-- The recovery of R526 starts. -/
def State.startRecovery (s : State) (b : Bus) : State :=
  let x := s.bus b
  s.setBus b { x with st := .recovering, holdSince := none, recoverSince := some s.now }

/-- BUS_OFF_HOLDOFF_EXPIRY (R527). -/
def execBusOffHoldoffExpiry (t : Nat) (b : Bus) (s : State) : Host.Outcome State Fault Refusal :=
  let s := s.tick t
  match (s.bus b).holdSince with
  | none => .next s
  | some e =>
    let h := s.nat Obj.busOffHoldoff b.idx
    if (s.bus b).st ≠ .busOff ∨ h = 0 ∨ s.now < e + h * 1000000 then .next s else .next (s.startRecovery b)

/-- The effect of a write of BusRecover (R527); where no recovery can start it has none. DEDUCED, log entry 65. -/
def recoverEffect (b : Bus) : PxEffect := fun s =>
  if (s.bus b).st == .busOff && s.nat Obj.busOffHoldoff b.idx == 0 then .ok (s.startRecovery b) else .ok s

/-- BUS_RECOVER (R527). -/
def execBusRecover (t : Nat) (b : Bus) (q : PxReq) (v : Nat) (s : State) : Host.Outcome State Fault Refusal :=
  .next ((s.tick t).pxWriteNat q Obj.busRecover b.idx 0 v (recoverEffect b))

/-- BUS_OFF_RECOVERY_DONE (R526, R527): error active again with both counters at 0; notices older than 5 s are gone. -/
def execBusOffRecoveryDone (t : Nat) (b : Bus) (s : State) : Host.Outcome State Fault Refusal :=
  let s := s.tick t
  let x := s.bus b
  if x.st ≠ .recovering then .next s
  else
    .next (s.setBus b { x with
      st := .active, txErr := 0, rxErr := 0, recoverSince := none
      txq := x.txq.filter (fun f => f.kind != 0 || decide (s.now < f.queuedAt + 5000000000)) }).busFollow

/-- BUS_ENABLE (R529, R541): an RWP write; it acts once its pack-memory copy has been read back. -/
def execBusEnable (t : Nat) (b : Bus) (q : PxReq) (v : Nat) (s : State) : Host.Outcome State Fault Refusal :=
  .next ((s.tick t).pxWriteNat q Obj.busEnable b.idx 0 v (fun _ => .defer))

/-- What a BusEnable that has been stored does (R529): 0 the bus is not used, 0 then 1 clears DISABLED. -/
def State.busEnableApply (s : State) (b : Bus) (on : Bool) : State :=
  let x := s.bus b
  if on then
    if (x.st == .off || x.st == .disabled) && !x.booksBad then
      (s.setBus b { x with st := if s.commsOn then .active else .off, txErr := 0, rxErr := 0, offTimes := [], lonely := false }).busFollow
    else s
  else
    let s := s.dropFrames b
    (s.setBus b { s.bus b with st := if (s.bus b).booksBad then .disabled else .off, holdSince := none, recoverSince := none, lonely := false }).busFollow

/-- LONELY (R530): error passive, and the last 16 attempts ended in acknowledge errors. -/
def execLonely (t : Nat) (b : Bus) (s : State) : Host.Outcome State Fault Refusal :=
  let s := s.tick t
  let x := s.bus b
  if x.st ≠ .passive ∨ x.ackRun < 16 ∨ x.lonely then .next s
  else .next (((s.setBus b { x with lonely := true, lonelyAt := s.now }).raise 0x67).busFollow).afterTrigger

/-- LONELY_RETRY (R530): the lowest identifier is offered once every 100 ms; FRAME_SENT tells how it went. -/
def execLonelyRetry (t : Nat) (b : Bus) (s : State) : Host.Outcome State Fault Refusal :=
  let s := s.tick t
  let x := s.bus b
  if x.lonely && decide (x.lonelyAt + 100000000 ≤ s.now) then .next (s.setBus b { x with lonelyAt := s.now }) else .next s

/-- MAILBOX_BOOKS_CHECK (R525): the sums of the transmit buffers and of the receive queue as found. -/
def execMailboxBooksCheck (t : Nat) (b : Bus) (tx rx : Nat) (s : State) : Host.Outcome State Fault Refusal :=
  let s := s.tick t
  let x := s.bus b
  if (tx = 16 ∧ rx = 64) ∨ x.booksBad then .next s
  else .next ((((s.setBus b { x with st := .disabled, booksBad := true }).dropFrames b).raise 0x6A).busFollow).afterTrigger

/-- CONTROL_BUSES_LOST (R534). -/
def execControlBusesLost (t : Nat) (s : State) : Host.Outcome State Fault Refusal :=
  let s := s.tick t
  match s.can.lostSince with
  | none => .next s
  | some e => if s.now < e + 1000000000 then .next s else .next (s.raise 0x68).afterTrigger

/-- What the head takes from a STATUS (R64, R162, R345, R351, R484): only the bus form carries LINKVIEW, only the ring form ΣC.
DEDUCED, log entry 54. -/
def State.noteStatus (s : State) (r : StatusRec) (bus : Bool) : State :=
  let m := s.member r.node
  if !s.isHead || m.state ≠ 1 || r.node = s.nodeId then s
  else
    let m' : Member := { m with mode := r.mode, locked := r.timeState == 2, integrity := r.integrity }
    let m' := if bus then { m' with lastStatus := s.now, linkUp := bitsOf 0 1 r.linkView != 0 } else { m' with sumC := r.sumC }
    let s := s.setMember r.node m'
    let s := { s with bal := { s.bal with derates := KMap.set s.bal.derates r.node ((r.derate : Rat) / 255) } }
    let s := if s.releases m' != m.released then s.sendRelease r.node else s
    if s.allMeasured then s else s.promptOpen

/-- STATUS (R64, R162, R345, R351, R484, R518): on the ring it also shows the node ID of its square. DEDUCED, log entry 55. -/
def execStatus (t : Nat) (via : FrameVia) (r : StatusRec) (s : State) : Host.Outcome State Fault Refusal :=
  let s := s.tick t
  match via with
  | .ring rx =>
    let x := s.ringRx rx r.bytes
    if !x.2 then .next x.1
    else
      let s := x.1
      let s := { s with ring := { s.ring with nodeOf := KMap.set s.ring.nodeOf (rx.hdr.src + 64).toNat r.node } }
      .next (s.noteStatus r false)
  | .bus b =>
    if !s.busHears b then .next s else
    let s := s.busHeard b
    if r.node = s.nodeId ∧ s.nodeId ≠ 0 then .next s.idConflict.afterTrigger else .next (s.noteStatus r true)

/-- STATUS_SEND (R485, R505, R507): every 100 ms, with a node ID. -/
def execStatusSend (t : Nat) (s : State) : Host.Outcome State Fault Refusal :=
  let s := s.tick t
  if s.nodeId = 0 || !s.md.mode.runs then .next s else .next s.sendStatus

/-- HEARTBEAT_SEND (R485, R581, R607): every 10 ms, by a head that has not abdicated. -/
def execHeartbeatSend (t : Nat) (s : State) : Host.Outcome State Fault Refusal :=
  let s := s.tick t
  if !s.serves || 4 ≤ s.flt.handoverStep || s.nodeId = 0 then .next s else .next s.sendHeartbeat

/-- A head hears a heartbeat of another head: the standby's after a handover (R607), one of another string (R68), or a duplicate,
which the higher DESC_SEQ, then the lower pack identity wins (R67). -/
def State.headHears (s : State) (r : HeartbeatRec) : State :=
  if s.md.abdicated then { s with ident := { s.ident with headNode := r.node } }
  else if 4 ≤ s.flt.handoverStep && r.pack = s.ident.standbyPack then
    let s := s.leaveHead (if s.mayLead then .standby else .segment)
    { s with ident := { s.ident with headNode := r.node }, flt := { s.flt with ckptSince := s.now, heardGen := r.ckptGen } }
  else if r.stringId ≠ s.ident.desc.stringId then
    { s with flt := { s.flt with crossAt := some s.now } }.raise 0x10
  else if s.ident.desc.seq < r.descSeq || (s.ident.desc.seq = r.descSeq && r.pack < s.packId) then
    let s := (s.sendNotice 4 3 0 s.ringTime).leaveHead .segment
    { s with ident := { s.ident with headNode := r.node } }
  else s.raiseEvent 0x0F

/-- A module that is not head hears the head (R515, R597, R599, R601): pre-enumeration stops, detection begins anew. -/
def State.hears (s : State) (r : HeartbeatRec) : State :=
  let late := s.nodeId = 0 && s.ident.phase != .lateJoin
  let s := if late then
      { s with
        ident := { s.ident with phase := .lateJoin, round := 0, inRound := false, retryAt := none, backoffEnd := none }
        can := { s.can with a := { s.can.a with txq := s.can.a.txq.filter (fun f => f.kind != 3) } } }
    else s
  let s := { s.setNat Obj.membershipGen r.membGen with
    ident := { s.ident with headNode := r.node, headFailHold := false, electionHold := false }
    flt := { s.flt with heardGen := r.ckptGen, failAt := none, hbMissed := 0 } }
  s.lagCheck

/-- What a heartbeat does (R67, R68, R515, R599, R607); stragglers of a head that has left count for nothing. -/
def State.takeHeartbeat (s : State) (r : HeartbeatRec) : State :=
  if r.pack = s.packId || (r.pack = s.flt.deadPack.1 && decide (s.now < s.flt.deadPack.2)) then s
  else if s.isHead then (s.headHears r).afterTrigger
  else (s.hears r).afterTrigger

/-- HEARTBEAT (R67, R68, R515, R518, R531, R599, R607). -/
def execHeartbeat (t : Nat) (via : FrameVia) (r : HeartbeatRec) (s : State) : Host.Outcome State Fault Refusal :=
  let s := s.tick t
  match via with
  | .ring rx =>
    let x := s.ringRx rx r.bytes
    if !x.2 then .next x.1 else .next ({ x.1 with flt := { x.1.flt with ringHbSeen := true } }.takeHeartbeat r)
  | .bus b =>
    if !s.busHears b then .next s else
    let s := s.busHeard b
    let x := s.bus b
    .next ((s.setBus b { x with hbSeen := true, hbMiss := false, hbMissed := 0 }).takeHeartbeat r)

/-- The end of a heartbeat period on one bus (R531). -/
def BusSt.periodEnd (x : BusSt) : BusSt :=
  let n := if x.hbSeen then 0 else min (x.hbMissed + 1) 3
  { x with hbMissed := n, hbSeen := false, hbMiss := decide (3 ≤ n) }

/-- Cross-string falls 1 s after the last heartbeat of another STRING_ID (R709). -/
def State.crossFollow (s : State) : State :=
  match s.flt.crossAt with
  | some e => if e + 1000000000 ≤ s.now then { s with flt := { s.flt with crossAt := none } }.lower 0x10 else s
  | none => s

/-- Periods missed in succession on all sides, with the one that ends (R531, R599). -/
def State.periodsMissed (s : State) : Nat :=
  if s.flt.ringHbSeen || s.can.a.hbSeen || s.can.b.hbSeen then 0 else min (s.flt.hbMissed + 1) 3

/-- HEARTBEAT_PERIOD_END (R531, R599, R709): the head, which sends the heartbeat, misses none; three periods missed on the ring and on both buses are head failure.
DEDUCED, log entry 98. -/
def execHeartbeatPeriodEnd (t : Nat) (s : State) : Host.Outcome State Fault Refusal :=
  let s := (s.tick t).crossFollow
  if s.isHead || !s.md.mode.runs then
    let none := fun (x : BusSt) => { x with hbMissed := 0, hbSeen := false, hbMiss := false }
    .next { s with can := { s.can with a := none s.can.a, b := none s.can.b } }
  else
    let n := s.periodsMissed
    let s := { s with
      can := { s.can with a := s.can.a.periodEnd, b := s.can.b.periodEnd }
      flt := { s.flt with hbMissed := n, ringHbSeen := false } }
    if n = 3 ∧ s.ident.headNode ≠ 0 ∧ s.nodeId ≠ 0 then .next (s.recognise 3).afterTrigger else .next s

end Sys2Proof.Machine
end

