-- ==== Sys2Proof/Machine/Mgmt.lean ====
section
/-! DEFINITION. Management, security and update (R659 to R692): sensors, calendar, sessions, key store, images, trial and
field recalibration. -/
namespace Sys2Proof.Machine

/-- Nominal voltages of the six rails of R659. -/
def railNominal : List Rat := [4 / 5, 6 / 5, 9 / 5, 33 / 10, 5, 12]

/-- Whether a rail lies within a fraction of its nominal voltage. -/
def railWithin (k : Nat) (v frac : Rat) : Bool := decide (absQ (v - railNominal.getD k 0) ≤ railNominal.getD k 0 * frac)

/-- A supply-monitor condition ends once every rail has stayed within 4 % for 1 s (R659). -/
def State.railCheck (s : State) (rails : List Rat) : State :=
  if rails.zipIdx.all (fun e => railWithin e.2 e.1 (1 / 25)) then
    let since := s.mgmt.railsOkSince.getD s.now
    if since + 1000000000 ≤ s.now then
      { s with mgmt := { s.mgmt with railsOkSince := some since, supplyBad := false } }.lower 0x91
    else { s with mgmt := { s.mgmt with railsOkSince := some since } }
  else { s with mgmt := { s.mgmt with railsOkSince := none } }

/-- Humidity above the limit for 10 min, until 5 %RH below it (R659). -/
def State.humidityCheck (s : State) (rh : Rat) : State :=
  let warn := s.rat Obj.humidityWarn
  if warn < rh then
    let since := s.mgmt.humidSince.getD s.now
    let s := { s with mgmt := { s.mgmt with humidSince := some since } }
    if since + 600000000000 ≤ s.now then { s with mgmt := { s.mgmt with humid := true } }.raise 0x92 else s
  else
    let s := { s with mgmt := { s.mgmt with humidSince := none } }
    if rh < warn - 5 then { s with mgmt := { s.mgmt with humid := false } }.lower 0x92 else s

/-- Condensation on three readings above 1 µS, until ten below 0.5 µS (R659); the transfer converter stops (R692). -/
def State.gridCheck (s : State) (g : Rat) : State :=
  let wet := if 1 < g then s.mgmt.wetRun + 1 else 0
  let dry := if g < 1 / 2 then s.mgmt.dryRun + 1 else 0
  let s := { s with mgmt := { s.mgmt with wetRun := wet, dryRun := dry } }
  if 3 ≤ wet then
    { s with
      mgmt := { s.mgmt with condense := true }
      bal := { s.bal with transferOn := false, transferCmd := 0 } }.raise 0x93
  else if 10 ≤ dry then { s with mgmt := { s.mgmt with condense := false } }.lower 0x93
  else s

/-- MGMT_SENSOR_READ (R659). -/
def execMgmtSensorRead (t : Nat) (r : MgmtReading) (s : State) : Host.Outcome State Fault Refusal :=
  let s := s.tick t
  if !s.mgmt.running then .next s
  else
    let s := (s.setRat Obj.humidity r.humidity).setRat Obj.boardTemp r.board
    let s := (r.rails.take 6).zipIdx.foldl (fun (st : State) e => st.setRat Obj.railVoltage e.1 0 e.2) s
    .next (((s.railCheck r.rails).humidityCheck r.humidity).gridCheck r.grid)

/-- SUPPLY_MONITOR (R659): a rail (0 to 5) has been off for 1 ms at `volts`. -/
def execSupplyMonitor (t rail : Nat) (volts : Rat) (s : State) : Host.Outcome State Fault Refusal :=
  let s := s.tick t
  if railWithin rail volts (1 / 20) then .next s
  else .next ({ s with mgmt := { s.mgmt with supplyBad := true, railsOkSince := none } }.raise 0x91)

/-- MGMT_TOKEN_TIMEOUT (R660, R668): reset, sessions closed; a fourth restart within 1 h holds the reset. -/
def execMgmtTokenTimeout (t : Nat) (s : State) : Host.Outcome State Fault Refusal :=
  let s := s.tick t
  if !s.mgmt.running then .next s
  else
    let recent := s.now :: s.mgmt.restarts.filter (fun x => s.now < x + 3600000000000)
    let s := { s with mgmt := { s.mgmt with
        running := false, restarts := recent, heldReset := decide (4 ≤ recent.length), sessions := [], challenges := [] } }
    .next ((s.bump Obj.mgmtRestarts).raise 0x90)

/-- MGMT_RESTART_DONE (R660). -/
def execMgmtRestartDone (t : Nat) (s : State) : Host.Outcome State Fault Refusal :=
  let s := s.tick t
  if s.mgmt.running || s.mgmt.heldReset then .next s
  else .next ({ s with mgmt := { s.mgmt with running := true } }.lower 0x90)

/-- The effect of a write of CalendarSet (R661, R662). DEDUCED, log entry 93. -/
def calendarEffect (d : Bytes) : PxEffect := fun s =>
  let rt := fieldAt 4 8 d
  if s.ringTime < rt ∨ rt + 10000000000 < s.ringTime then .refuse pxRange
  else .ok ({ s with mgmt := { s.mgmt with calendar := some (fieldAt 0 4 d, s.now - (s.ringTime - rt)) } }.lower 0x99)

/-- CALENDAR_SET (R661). -/
def execCalendarSet (t : Nat) (q : PxReq) (d : Bytes) (s : State) : Host.Outcome State Fault Refusal :=
  .next ((s.tick t).pxWrite q Obj.calendarSet 0 0 Obj.calendarSet.ty.code d (calendarEffect d))

/-- The challenge stored for a requester and still valid (R664). -/
def State.challenge (s : State) (q : PxReq) : Option Nat :=
  (s.mgmt.challenges.find? (fun c => c.1 == q.path.kind && c.2.1 == q.origin && s.now < c.2.2.2 + 10000000000)).map (fun c => c.2.2.1)

/-- The requester's challenge taken away (R664, R665). -/
def State.dropChallenge (s : State) (q : PxReq) : State :=
  { s with mgmt := { s.mgmt with
      challenges := s.mgmt.challenges.filter (fun c => !(c.1 == q.path.kind && c.2.1 == q.origin)) } }

/-- A new challenge drawn from the TRNG and stored for the requester (R664). -/
def State.newChallenge (s : State) (q : PxReq) : Nat × State :=
  let d := s.draw
  let s := d.2.dropChallenge q
  (d.1 % 2 ^ 64, { s with mgmt := { s.mgmt with
      challenges := (q.path.kind, q.origin, d.1 % 2 ^ 64, s.now) :: s.mgmt.challenges } })

/-- SESSION_CHALLENGE (R539, R549, R664): a READ; a duplicate is answered from the store and draws nothing. -/
def execSessionChallenge (t : Nat) (q : PxReq) (s : State) : Host.Outcome State Fault Refusal :=
  let s := s.tick t
  let o := Obj.sessionChallenge
  if !s.pxHears q then .next s else
  match s.pxDuplicate q 0x01 o.index o.sub o.ty.code [] with
  | some e => .next ((s.bump Obj.pxDuplicates).pxSend q.path q.node q.origin 2 e.frame)
  | none =>
    match s.pxAuthorise q 0x01 o.index o.sub o.ty.code [] with
    | none => .next ((s.authFailure q).pxAnswer q 0x01 pxNotAuth o.index o.sub o.ty.code 0 [])
    | some (_, counter) =>
      let s := (s.pxAccept q counter).bump Obj.pxRequests
      let c := s.newChallenge q
      .next (c.2.pxAnswer q 0x01 0 o.index o.sub o.ty.code counter (leBytes 8 c.1))

/-- The bytes of an ASCII string. -/
def asciiBytes (x : String) : Bytes := x.toList.map (fun c => BitVec.ofNat 8 c.toNat)

/-- The key of a role (R670): none while absent. -/
def State.roleKey (s : State) (role : Nat) : Option Bytes :=
  match findKey s.mgmt.roleKeys role with
  | some k => some k
  | none => if role = 4 then some Config.serviceKey else none

/-- The token of R665. -/
def State.loginToken (s : State) (key : Bytes) (challenge role handle : Nat) : Bytes :=
  (hmac256 key (asciiBytes "VXK-LOGIN" ++ leBytes 8 (s.nat Obj.serialNumber) ++ leBytes 8 challenge ++ leBytes 1 role
    ++ leBytes 2 handle)).take 16

/-- Whether SessionOpen is refused to a requester (R669). -/
def State.lockedOut (s : State) (q : PxReq) : Bool :=
  s.mgmt.lockouts.any (fun l => l.1 == q.path.kind && l.2.1 == q.origin && s.now < l.2.2)

/-- The effect of a write of SessionOpen (R665, R666, R669, R671). DEDUCED, log entry 93. -/
def sessionOpenEffect (q : PxReq) (d : Bytes) : PxEffect := fun s =>
  let role := fieldAt 0 1 d
  let handle := fieldAt 2 2 d
  let no := fun (s : State) => PxResult.refuseIn (s.authFailure q) pxNotAuth
  let ch := s.challenge q
  let s := s.dropChallenge q
  if q.session ≠ 0 then .refuseIn s pxState
  else if fieldAt 1 1 d ≠ 0 ∨ fieldAt 20 4 d ≠ 0 then .refuseIn s pxRange
  else if s.lockedOut q || !s.mgmt.keysOk || (role == 4 && q.path != .usb) then no s
  else match ch, s.roleKey role with
    | some c, some key =>
      if s.loginToken key c role handle ≠ sliceBytes 4 16 d then no s
      else if handle = 0 ∨ s.mgmt.sessions.any (fun x => x.handle == handle) ∨ 8 ≤ s.mgmt.sessions.length then .refuseIn s pxBusy
      else .ok { s with mgmt := { s.mgmt with sessions := s.mgmt.sessions ++ [{
          handle := handle, role := role, path := q.path, origin := q.origin, counter := 0, opened := s.now, last := s.now,
          key := hmac256 key (asciiBytes "VXK-SESSION" ++ leBytes 8 c ++ leBytes 2 handle) }] } }
    | _, _ => no s

/-- SESSION_OPEN (R665). -/
def execSessionOpen (t : Nat) (q : PxReq) (d : Bytes) (s : State) : Host.Outcome State Fault Refusal :=
  .next ((s.tick t).pxWrite q Obj.sessionOpen 0 0 Obj.sessionOpen.ty.code d (sessionOpenEffect q d))

/-- The effect of a write of SessionClose (R668): the session closes once the response is sent. -/
def sessionCloseEffect (q : PxReq) (v : Nat) : PxEffect := fun s =>
  match s.session q with
  | none => .refuseIn (s.authFailure q) pxNotAuth
  | some own =>
    match s.mgmt.sessions.find? (fun x => x.handle == v) with
    | none => .refuse pxRange
    | some x =>
      if v = q.session ∨ x.role ≤ own.role then
        .ok { s with mgmt := { s.mgmt with sessions := s.mgmt.sessions.map (fun (y : SessionSt) =>
            if y.handle = v then { y with closing := true } else y) } }
      else .refuseIn (s.authFailure q) pxNotAuth

/-- SESSION_CLOSE (R668). -/
def execSessionClose (t : Nat) (q : PxReq) (v : Nat) (s : State) : Host.Outcome State Fault Refusal :=
  .next ((s.tick t).pxWriteNat q Obj.sessionClose 0 0 v (sessionCloseEffect q v))

/-- Whether a session has run out (R668). -/
def State.sessionOver (s : State) (x : SessionSt) : Bool :=
  x.last + s.nat Obj.sessionIdle * 1000000000 ≤ s.now || x.opened + s.nat Obj.sessionMaxAge * 1000000000 ≤ s.now

/-- SESSION_TIMEOUT (R668). -/
def execSessionTimeout (t handle : Nat) (s : State) : Host.Outcome State Fault Refusal :=
  let s := s.tick t
  .next { s with mgmt := { s.mgmt with
      sessions := s.mgmt.sessions.filter (fun x => !(x.handle == handle && s.sessionOver x)) } }

/-- AUTH_LOCKOUT_EXPIRY (R669). -/
def execAuthLockoutExpiry (t : Nat) (s : State) : Host.Outcome State Fault Refusal :=
  let s := s.tick t
  let left := s.mgmt.lockouts.filter (fun l => s.now < l.2.2)
  let s := { s with mgmt := { s.mgmt with lockouts := left } }
  .next (if left.isEmpty then s.lower 0x94 else s)

/-- The effect of a block write of RoleKeyWrap (R672). -/
def roleKeyEffect (q : PxReq) (d : Bytes) : PxEffect := fun s =>
  let role := fieldAt 0 1 d
  if role = 0 ∨ 4 < role ∨ fieldAt 1 3 d ≠ 0 then .refuse pxRange
  else match s.session q with
  | none => .refuseIn (s.authFailure q) pxNotAuth
  | some x =>
    match gcmOpen (hmac256 x.key (asciiBytes "VXK-WRAP")) (sliceBytes 4 12 d) (d.take 4) (sliceBytes 16 32 d) (sliceBytes 48 16 d) with
    | none => .refuseIn (s.authFailure q) pxNotAuth
    | some key =>
      if key = zeroBytes 32 then
        if role = 4 then .refuse pxRange
        else .ok { s with mgmt := { s.mgmt with roleKeys := KMap.del s.mgmt.roleKeys role } }
      else .ok { s with mgmt := { s.mgmt with roleKeys := KMap.set s.mgmt.roleKeys role key } }

/-- ROLE_KEY_WRAP (R672). -/
def execRoleKeyWrap (t : Nat) (q : PxReq) (d : Bytes) (s : State) : Host.Outcome State Fault Refusal :=
  .next ((s.tick t).pxBlock q Obj.roleKeyWrap 0 0 d (roleKeyEffect q d))

/-- The effect of a write of SigningKeyRevoke (R672). -/
def revokeEffect (v : Nat) : PxEffect := fun s =>
  let after := setInsert s.mgmt.revoked v
  if after.length = 4 then .refuse pxRange else .ok { s with mgmt := { s.mgmt with revoked := after } }

/-- Bit k set for every revoked signing key k (R672). -/
def keyMask (l : List Nat) : Nat := packBits ((List.range 4).map (fun k => l.contains k))

/-- SIGNING_KEY_REVOKE (R672). -/
def execSigningKeyRevoke (t : Nat) (q : PxReq) (v : Nat) (s : State) : Host.Outcome State Fault Refusal :=
  .next ((s.tick t).pxWriteOld q Obj.signingKeyRevoke 0 0 2 (leBytes 1 v) (leBytes 1 (keyMask s.mgmt.revoked)) (revokeEffect v))

/-- The inactive slot. -/
def State.idleSlot (s : State) : SlotSt := if s.mgmt.activeB then s.mgmt.slotA else s.mgmt.slotB

/-- The state with the inactive slot replaced. -/
def State.setIdle (s : State) (x : SlotSt) : State :=
  if s.mgmt.activeB then { s with mgmt := { s.mgmt with slotA := x } } else { s with mgmt := { s.mgmt with slotB := x } }

/-- The state with the active slot replaced. -/
def State.setActive (s : State) (x : SlotSt) : State :=
  if s.mgmt.activeB then { s with mgmt := { s.mgmt with slotB := x } } else { s with mgmt := { s.mgmt with slotA := x } }

/-- The nonce of a block (R674). -/
def blockNonce (ident i : Nat) : Bytes := leBytes 8 ident ++ leBytes 4 i

/-- The plain bytes of stored blocks `from` to `from + n - 1`, numbered from 0 under an identity (R674). -/
def plainOf (blocks : KMap Bytes) (key ident start n : Nat) : Bytes :=
  (List.range n).flatMap (fun i =>
    let b := KMap.get blocks (start + i) (zeroBytes 4096)
    xorBytes (b.take 4080) (gcmStream (Config.imageKey key) (blockNonce ident i) 255 2))

/-- The plain image of a slot: what manufacture left, or its stored blocks (R673, R674). -/
def SlotSt.plain (x : SlotSt) : Bytes :=
  if x.hash = [] then Config.shippedImage
  else (plainOf x.blocks x.imageKey x.buildId 0 ((x.length + 4079) / 4080)).take x.length

/-- TARGET_HASH of a slot. -/
def SlotSt.imageHash (x : SlotSt) : Bytes := if x.hash = [] then sha256 Config.shippedImage else x.hash

/-- Fields of a manifest (R673). -/
def manKind (m : Bytes) : Nat := fieldAt 2 1 m
def manBlocks (m : Bytes) : Nat := fieldAt 6 2 m
def manImageId (m : Bytes) : Nat := fieldAt 8 8 m
def manTargetId (m : Bytes) : Nat := fieldAt 16 8 m
def manTargetLen (m : Bytes) : Nat := fieldAt 40 4 m
def manPayload (m : Bytes) : Nat := fieldAt 44 4 m

/-- Whether the form of a manifest is in range (R673, R674, code 1 of R676). -/
def manFormOk (m : Bytes) (recovery : Bool) : Bool :=
  let k := manKind m
  let n := manBlocks m
  decide (fieldAt 0 2 m = 1) && (k == 1 || (k == 2 && !recovery)) && decide (fieldAt 4 1 m ≤ 1) && decide (fieldAt 5 1 m = 0)
    && decide (1 ≤ n) && decide (n ≤ if k = 1 then 2048 else 512) && decide ((n - 1) * 4080 < manPayload m)
    && decide (manPayload m ≤ n * 4080) && (if k = 1 then manTargetLen m == manPayload m else decide (manTargetLen m ≤ 6266880))
    && decide (manImageId m ≠ 0) && ((k == 1) == (manTargetId m == manImageId m))
    && (k == 2 || sliceBytes 80 32 m == zeroBytes 32) && decide (sliceBytes 112 80 m = zeroBytes 80)

/-- Whether the signature of a manifest verifies (R673). -/
def manSigned (m : Bytes) : Bool :=
  ecdsaVerify (Config.signKey (fieldAt 3 1 m)) (beNat (sliceBytes 192 32 m)) (beNat (sliceBytes 224 32 m)) (m.take 192)

/-- Whether an identity is that of a slot or of the last rejected image (code 6 of R676). DEDUCED, log entry 92. -/
def State.knownImage (s : State) (ident : Nat) : Bool :=
  (s.mgmt.slotA.state != 0 && s.mgmt.slotA.buildId == ident) || (s.mgmt.slotB.state != 0 && s.mgmt.slotB.buildId == ident)
    || (match s.mgmt.lastRejected with | some r => r.1 == ident || r.2 == ident | none => false)

/-- The UpdateReject code of a manifest, 0 where it passes (R676, R671, R687). DEDUCED, log entry 92. -/
def State.manifestCode (s : State) (m : Bytes) : Nat :=
  if !manFormOk m s.md.recovery then 1
  else if 4 ≤ fieldAt 3 1 m ∨ fieldAt 3 1 m ∈ s.mgmt.revoked then 2
  else if !s.mgmt.keysOk || !manSigned m then 3
  else if s.nat Obj.hardwareIssue < fieldAt 36 2 m ∨ fieldAt 38 2 m < s.nat Obj.hardwareIssue then 4
  else if fieldAt 32 2 m < s.nat Obj.securityFloor then 5
  else if s.knownImage (manImageId m) || s.knownImage (manTargetId m) then 6
  else if !s.md.recovery && manKind m == 2 && sliceBytes 80 32 m != s.activeSlot.imageHash then 7
  else 0

/-- An image is rejected with a code of R676: UpdateState 8, the update discarded; codes 1 to 10 raise image-rejected
(R692). DEDUCED, log entry 92. -/
def State.rejectImage (s : State) (code : Nat) : State :=
  let m := s.mgmt.update.manifest
  let s := (s.setNat Obj.updateState 8).setNat Obj.updateReject code
  let s := if code < 8 then s else
    { s.setIdle { state := 4 } with mgmt := { (s.setIdle { state := 4 }).mgmt with
        lastRejected := some (manImageId m, manTargetId m), update := {} } }
  s.raiseEvent 0x96

/-- The effect of a block write of UpdateManifest (R676, R677). -/
def manifestEffect (d : Bytes) : PxEffect := fun s =>
  let st := s.nat Obj.updateState
  if st ≠ 0 ∧ st ≠ 7 ∧ st ≠ 8 then .refuse pxState
  else
    let code := s.manifestCode d
    if code ≠ 0 then .refuseIn (s.rejectImage code) pxRange
    else
      let s := ((s.setNat Obj.updateState 1).setNat Obj.updateReject 0).setNat Obj.updateBlocksReceived 0
      let s := s.setIdle {}
      .ok ({ s with mgmt := { s.mgmt with update := { manifest := d } } }.setBytes Obj.updateManifest d)

/-- UPDATE_MANIFEST (R676). -/
def execUpdateManifest (t : Nat) (q : PxReq) (d : Bytes) (s : State) : Host.Outcome State Fault Refusal :=
  .next ((s.tick t).pxBlock q Obj.updateManifest 0 0 d (manifestEffect d))

/-- SECTOR_ERASE_DONE (R677): the slot has 128 sectors of 64 KiB. -/
def execSectorEraseDone (t : Nat) (s : State) : Host.Outcome State Fault Refusal :=
  let s := s.tick t
  let st := s.nat Obj.updateState
  if (st = 1 ∨ st = 2) ∧ s.mgmt.update.erased < 128 then
    let s := { s with mgmt := { s.mgmt with update := { s.mgmt.update with erased := s.mgmt.update.erased + 1 } } }
    .next (s.setNat Obj.updateState 2)
  else .next s

/-- The slot position of a transfer block (R677). -/
def blockPos (m : Bytes) (i : Nat) : Nat := if manKind m = 2 then 1536 + i else i

/-- The effect of a block write of UpdateImage at block `i` (R677, R678). -/
def imageEffect (i : Nat) (d : Bytes) : PxEffect := fun s =>
  let u := s.mgmt.update
  let m := u.manifest
  let st := s.nat Obj.updateState
  if st ≠ 1 ∧ st ≠ 2 then .refuse pxState
  else if manBlocks m ≤ i ∨ d.length ≠ 4096 then .refuse pxRange
  else if u.erased ≤ blockPos m i / 16 then .refuse pxBusy
  else if i ∈ u.received then .ok s
  else if 4 ≤ u.buffered.length then .refuse pxBusy
  else match gcmOpen (Config.imageKey (fieldAt 4 1 m)) (blockNonce (manImageId m) i) [] (d.take 4080) (d.drop 4080) with
    | none =>
      let s := { s with mgmt := { s.mgmt with update := { u with tagFails := u.tagFails + 1 } } }.bump Obj.tagFailures
      .refuseIn (if 16 ≤ u.tagFails + 1 then s.rejectImage 8 else s) pxRange
    | some _ =>
      let s := { s with mgmt := { s.mgmt with
          update := { u with received := u.received ++ [i], buffered := u.buffered ++ [(i, d)] } } }
      .ok (s.setNat Obj.updateBlocksReceived (u.received.length + 1))

/-- UPDATE_BLOCK (R678). -/
def execUpdateBlock (t : Nat) (q : PxReq) (i : Nat) (d : Bytes) (s : State) : Host.Outcome State Fault Refusal :=
  .next ((s.tick t).pxBlock q Obj.updateImage 0 0 d (imageEffect i d))

/-- BLOCK_PROGRAM_DONE (R678, R679): the oldest waiting block is in the slot; a patch with every block present is
applied. -/
def execBlockProgramDone (t : Nat) (s : State) : Host.Outcome State Fault Refusal :=
  let s := s.tick t
  match s.mgmt.update.buffered with
  | [] => .next s
  | e :: rest =>
    let x := s.idleSlot
    let m := s.mgmt.update.manifest
    let s := s.setIdle { x with blocks := KMap.set x.blocks (blockPos m e.1) e.2 }
    let s := { s with mgmt := { s.mgmt with update := { s.mgmt.update with buffered := rest } } }
    .next (if rest.isEmpty && s.mgmt.update.received.length == manBlocks m && manKind m == 2 then s.setNat Obj.updateState 3 else s)

/-- The target a patch builds, or none for a patch record error (R675): records applied in order, at most `fuel`. -/
def applyPatch (base : Bytes) (len : Nat) : Nat → Bytes → Bytes → Option Bytes
  | 0, _, _ => none
  | fuel + 1, p, out =>
    match p with
    | [] => none
    | r :: rest =>
      if r = 3 then (if out.length = len then some out else none)
      else if r = 1 then
        let off := fieldAt 0 4 rest
        let n := fieldAt 4 4 rest
        if rest.length < 8 ∨ base.length < off + n ∨ len < out.length + n then none
        else applyPatch base len fuel (rest.drop 8) (out ++ sliceBytes off n base)
      else if r = 2 then
        let n := fieldAt 0 4 rest
        if rest.length < 4 + n ∨ len < out.length + n then none
        else applyPatch base len fuel (rest.drop (4 + n)) (out ++ sliceBytes 4 n rest)
      else none

/-- The slot record of a manifest whose image is complete (R673, R679). -/
def slotOf (m : Bytes) (blocks : KMap Bytes) : SlotSt :=
  { state := 1, attempts := 0, secVer := fieldAt 32 2 m, version := fieldAt 24 4 m, buildId := manTargetId m,
    hash := sliceBytes 48 32 m, minPeer := fieldAt 28 4 m, dictVersion := fieldAt 34 2 m, imageKey := fieldAt 4 1 m,
    length := manTargetLen m, blocks := blocks }

/-- The stored target blocks of a built image (R674). -/
def sealBlocks (key ident : Nat) (img : Bytes) : KMap Bytes :=
  (List.range ((img.length + 4079) / 4080)).map (fun i =>
    (i, gcmSeal (Config.imageKey key) (blockNonce ident i) [] (fitBytes 4080 (sliceBytes (i * 4080) 4080 img))))

/-- UPDATE_VERIFY_DONE (R675, R679). -/
def execUpdateVerifyDone (t : Nat) (s : State) : Host.Outcome State Fault Refusal :=
  let s := s.tick t
  let u := s.mgmt.update
  let m := u.manifest
  let st := s.nat Obj.updateState
  let complete := u.received.length == manBlocks m && u.buffered.isEmpty
  let x := s.idleSlot
  if !complete then .next s
  else if st = 2 ∧ manKind m = 1 then
    let img := (plainOf x.blocks (fieldAt 4 1 m) (manImageId m) 0 (manBlocks m)).take (manTargetLen m)
    if sha256 img = sliceBytes 48 32 m then .next ((s.setIdle (slotOf m x.blocks)).setNat Obj.updateState 4)
    else .next (s.rejectImage 9)
  else if st = 3 then
    let p := (plainOf x.blocks (fieldAt 4 1 m) (manImageId m) 1536 (manBlocks m)).take (manPayload m)
    match applyPatch s.activeSlot.plain (manTargetLen m) (manPayload m + 1) p [] with
    | none => .next (s.rejectImage 10)
    | some img =>
      if sha256 img = sliceBytes 48 32 m then
        .next ((s.setIdle (slotOf m (sealBlocks (fieldAt 4 1 m) (manTargetId m) img))).setNat Obj.updateState 4)
      else .next (s.rejectImage 9)
  else .next s

/-- The update is discarded and the inactive slot left empty (R680). -/
def State.discardUpdate (s : State) : State :=
  let s := s.setIdle {}
  ({ s with mgmt := { s.mgmt with update := {} } }.setNat Obj.updateState 0).setNat Obj.updateBlocksReceived 0

/-- The effect of a write of UpdateAbort (R680). -/
def abortEffect : PxEffect := fun s =>
  let st := s.nat Obj.updateState
  if 1 ≤ st ∧ st ≤ 4 then .ok s.discardUpdate else .refuse pxState

/-- UPDATE_ABORT (R680). -/
def execUpdateAbort (t : Nat) (q : PxReq) (v : Nat) (s : State) : Host.Outcome State Fault Refusal :=
  .next ((s.tick t).pxWriteNat q Obj.updateAbort 0 0 v abortEffect)

/-- RWA objects that return to their default at a start-up and at the restart of an activation (R701). -/
def State.dropRwa (s : State) : State :=
  let keep := fun (o : ObjDef) => o.index == 0x8010 || o.index == 0x1020 || o.index == 0xA030 || o.index == Obj.packIdentity.index
  let gone := (Obj.all.filter (fun o => match o.access with | .rwa _ => !keep o | _ => false))
  { s with dict := s.dict.filter (fun e => !(gone.any (fun o =>
      decide (o.index * 256 ≤ e.1) && (List.range o.idxCount).any (fun i => (List.range o.subCount).any (fun j => o.key i j == e.1))))) }

/-- The effect of a write of UpdateActivate (R681): staged view, episodes and change log go to NOR and the SoC record to
pack memory, the new slot is put in trial, and the lanes restart once the response is sent. DEDUCED, log entry 42. -/
def activateEffect : PxEffect := fun s =>
  if s.nat Obj.updateState ≠ 4 ∨ !(s.md.mode == .maintenance || s.md.recovery) then .refuse pxState
  else
    let s := s.setNat Obj.updateState 5
    let s := if s.md.recovery then s else (s.beginRecord false false)
    let s := { s with rcd := { s.rcd with
        histNor := s.rcd.histStaged, extNor := s.rcd.extStaged, stageDue := none,
        episodes := s.rcd.episodes.map (fun (e : Episode) => { e with written := true }) } }
    let old := s.activeSlot
    let new := { s.idleSlot with state := 3, attempts := 0 }
    let s := (s.setActive { old with state := 1 }).setIdle new
    .ok { s with mgmt := { s.mgmt with activeB := !s.mgmt.activeB, restartDue := true, update := {} } }

/-- UPDATE_ACTIVATE (R681). -/
def execUpdateActivate (t : Nat) (q : PxReq) (v : Nat) (s : State) : Host.Outcome State Fault Refusal :=
  let s := s.tick t
  let s' := s.pxWriteNat q Obj.updateActivate 0 0 v activateEffect
  .next (if s.nat Obj.updateState = 4 ∧ s'.nat Obj.updateState = 5 then s'.dropRwa else s')

/-- TRIAL_CONFIRM (R683): UpdateTrialTime without a failure in a mode that counts. -/
def execTrialConfirm (t : Nat) (s : State) : Host.Outcome State Fault Refusal :=
  let s := s.tick t
  match s.mgmt.trialSince with
  | none => .next s
  | some since =>
    if s.now < since + s.nat Obj.updateTrialTime * 1000000000
        ∨ !(s.md.mode == .standby || s.md.mode == .online || s.md.mode == .maintenance) then .next s
    else
      let x := s.activeSlot
      let s := s.setActive { x with state := 2 }
      let s := { s with mgmt := { s.mgmt with trialSince := none } }
      .next ((s.setNat Obj.securityFloor (max (s.nat Obj.securityFloor) x.secVer)).setNat Obj.updateState 7)

/-- The channels a recalibration visits, in cell order (R689): populated, and not fenced (R210). -/
def State.calCells (s : State) : List Nat := s.cells.filter (fun n => !s.cellFenced n)

/-- All passes are done: the new coefficients (R689), CalState 2. -/
def State.calSolve (s : State) : State :=
  let new := s.mgmt.calSums.map (fun e =>
    let n : Rat := (e.2.2.2 : Nat)
    let zero := e.2.1 / n
    let gain := Config.vRef (if e.1 ≤ 12 then 1 else 2) / (e.2.2.1 / n - zero)
    (e.1, (gain, -gain * zero)))
  let s := { s with mgmt := { s.mgmt with calNew := new, calWait := false } }
  (s.setNat Obj.calState 2).setNat Obj.calChannel 0

/-- The effect of a write of CalStart (R688, R689). -/
def calStartEffect : PxEffect := fun s =>
  let st := s.nat Obj.calState
  if st = 1 ∨ st = 2 ∨ !(s.turnLock || s.freeWin) ∨ !(s.md.mode == .standby || s.md.mode == .online || s.md.mode == .maintenance) then .refuse pxState
  else
    let s := { s with mgmt := { s.mgmt with calPass := 0, calSums := [], calNew := [], calWait := false } }.setNat Obj.calState 1
    match s.calCells with
    | [] => .ok s.calSolve
    | n :: _ => .ok (s.calBegin n true)

/-- CAL_START (R688). -/
def execCalStart (t : Nat) (q : PxReq) (v : Nat) (s : State) : Host.Outcome State Fault Refusal :=
  .next ((s.tick t).pxWriteNat q Obj.calStart 0 0 v calStartEffect)

/-- The effect of a write of CalAbort (R688). -/
def calAbortEffect : PxEffect := fun s => .ok s.stopCal

/-- CAL_ABORT (R688). -/
def execCalAbort (t : Nat) (q : PxReq) (v : Nat) (s : State) : Host.Outcome State Fault Refusal :=
  .next ((s.tick t).pxWriteNat q Obj.calAbort 0 0 v calAbortEffect)

/-- CAL_VISIT_END (R209, R210, R689): a visit has ended with the means of its two halves; the channel settles and the next
is visited. -/
def execCalVisitEnd (t cell : Nat) (zero ref : Rat) (s : State) : Host.Outcome State Fault Refusal :=
  let s := s.tick t
  if s.nat Obj.calState ≠ 1 ∨ s.nat Obj.calChannel ≠ cell ∨ s.mgmt.calWait then .next s
  else
    let c := s.chan cell
    let s := (s.setChan cell { c with cal := closeSpan c.cal s.ringTime }).settle [cell] false s.ringTime
    let old := KMap.get s.mgmt.calSums cell (0, 0, 0)
    let s := { s with mgmt := { s.mgmt with
        calSums := KMap.set s.mgmt.calSums cell (old.1 + zero, old.2.1 + ref, old.2.2 + 1) } }
    match s.calCells.find? (fun n => cell < n) with
    | some n => .next (s.calBegin n true)
    | none =>
      let s := { s with mgmt := { s.mgmt with calPass := s.mgmt.calPass + 1 } }
      if s.nat Obj.calPasses ≤ s.mgmt.calPass then .next s.calSolve
      else match s.calCells with
        | [] => .next s.calSolve
        | n :: _ => .next (s.calBegin n true)

/-- Whether the new coefficients of a channel are accepted (R690). -/
def State.calAccept (s : State) (checks : List CalCheck) (n : Nat) (g : Rat × Rat) : Bool :=
  let old := s.rat Obj.channelGain 0 (n - 1)
  decide (absQ (g.1 / old - 1) ≤ s.rat Obj.calMaxGainChange)
    && decide (absQ (g.2 - s.rat Obj.channelOffset 0 (n - 1)) ≤ s.rat Obj.calMaxOffsetChange)
    && checks.any (fun c => c.cell == n && decide (absQ (c.precision - c.sp) ≤ 2000))

/-- CalResult (R690): gain change in ppm and offset change in µV of C1 to C24. -/
def State.calResultBytes (s : State) : Bytes :=
  (List.range 24).flatMap (fun k => match findKey s.mgmt.calNew (k + 1) with
    | some g => f32Bytes (f32Of ((g.1 / s.rat Obj.channelGain 0 k - 1) * 1000000)) ++ f32Bytes (f32Of (g.2 - s.rat Obj.channelOffset 0 k))
    | none => zeroBytes 8)

/-- CAL_VERIFY_DONE (R690, R214): accepted coefficients take effect; every other channel keeps its own. DEDUCED, log entry 94. -/
def execCalVerifyDone (t : Nat) (checks : List CalCheck) (s : State) : Host.Outcome State Fault Refusal :=
  let s := s.tick t
  if s.nat Obj.calState ≠ 2 then .next s
  else
    let good := s.mgmt.calNew.filter (fun e => s.calAccept checks e.1 e.2)
    let all := s.cells.all (fun n => good.any (fun e => e.1 == n))
    let s := s.setBytes Obj.calResult s.calResultBytes
    let s := good.foldl (fun (st : State) e =>
      (st.setRat Obj.channelGain e.2.1 0 (e.1 - 1)).setRat Obj.channelOffset e.2.2 0 (e.1 - 1)) s
    let s := s.setNat Obj.calState (if all then 3 else 4)
    if all then .next { s with mgmt := { s.mgmt with calAt := some s.now } }
    else .next (s.raiseEvent 0x98)

/-- MgmtStatus (R693). -/
def State.mgmtStatus (s : State) : Nat :=
  let st := s.nat Obj.updateState
  packBits [s.mgmt.running, 1 ≤ st && st ≤ 5, s.activeSlot.state == 3, s.mgmt.keysOk, s.mgmt.calendar.isSome, s.mgmt.supplyBad,
    s.mgmt.humid, s.mgmt.condense, s.mgmt.lockouts.any (fun l => s.now < l.2.2), s.md.recovery]

/-- KeyStatus. -/
def State.keyStatus (s : State) : Nat :=
  packBits ((List.range 4).map (fun k => (s.roleKey (k + 1)).isSome) ++ [true, true, false, false]
    ++ (List.range 4).map (fun k => !s.mgmt.revoked.contains k))

/-- One slot of SlotInfo. -/
def SlotSt.info (x : SlotSt) : Bytes :=
  leBytes 1 x.state ++ leBytes 1 x.attempts ++ leBytes 2 x.secVer ++ leBytes 4 x.version ++ leBytes 8 x.buildId
    ++ (if x.state = 0 then zeroBytes 16 else x.imageHash.take 16)

/-- SessionList: 8 × 16 bytes. -/
def State.sessionListBytes (s : State) : Bytes :=
  fitBytes 128 (s.mgmt.sessions.flatMap (fun x =>
    leBytes 2 x.handle ++ leBytes 1 x.role ++ leBytes 1 x.path.kind ++ leBytes 2 ((s.now - x.last) / 1000000000) ++ zeroBytes 2
      ++ leBytes 4 ((s.now - x.opened) / 1000000000) ++ leBytes 4 x.counter))

/-- UsbState. -/
def State.usbState (s : State) : Nat :=
  if !s.mgmt.usb then 0 else if s.mgmt.sessions.any (fun x => x.path == .usb) then 2 else 1

end Sys2Proof.Machine
end

