-- ==== Sys2Proof/Machine/Views.lean ====
section
/-! DEFINITION. What a read of a dictionary object gives (R537, R539): the object addressed, the value computed from the
state where the object follows a live condition, the legacy registers (R238 to R240), the directory (R564, R565). -/
namespace Sys2Proof.Machine

/-- A legacy register object (R238, R240): device `d`, register `r`. -/
def legacyObj (d r : Nat) : ObjDef := {
  index := 0xB000 + 0x100 * d + r, sub := 1, idxCount := 1, subCount := 1, ty := .u16,
  access := if r = 0x30 ∨ r = 0x3F then .rwa .operator else .ro, dflt := [.nat 0],
  rng := if r = 0x3F then [(0, 4095)] else if r = 0x30 then [(0, 511)] else [] }

/-- The object row, and the element of it, at an index and subindex of the tables. -/
def tableAt (index sub : Nat) : Option (ObjDef × Nat × Nat) :=
  (Obj.all.find? (fun o => decide (o.index ≤ index) && decide (index < o.index + o.idxCount) && decide (o.sub ≤ sub)
    && decide (sub < o.sub + o.subCount))).map (fun o => (o, index - o.index, sub - o.sub))

/-- The highest subindex in use of an index (R537), none where the index is not in use. -/
def highestSub (index : Nat) : Option Nat :=
  let l := Obj.all.filter (fun o => decide (o.index ≤ index) && decide (index < o.index + o.idxCount))
  if l.isEmpty then none else some (l.foldl (fun m o => max m (o.sub + o.subCount - 1)) 0)

/-- The implicit object at subindex 0 (R537), its value as its default. -/
def subZeroObj (index n : Nat) : ObjDef :=
  { index := index, sub := 0, idxCount := 1, subCount := 1, ty := .u8, access := .ro, dflt := [.nat n], rng := [] }

/-- The access a loop object has in its instance (R435): shipped instances 0 to 6 and 10 are read-only, 7 to 9 but for banks,
RampConfig and FailOutput. -/
def loopAccess (o : ObjDef) (i : Nat) : ObjDef :=
  if o.index = 0x6010 ∧ o.access = .rw then
    instObj o i (o.sub = 0x03 || o.sub = 0x04 || o.sub = 0x12 || o.sub = 0x16)
  else o

/-- The object at an address (R537, R238), with the element of its row. DEDUCED, log entry 48. -/
def State.objAt (s : State) (index sub : Nat) : Option (ObjDef × Nat × Nat) :=
  if 0xB000 ≤ index ∧ index < 0xB200 then
    if s.flag Obj.legacyEnable then
      (if sub = 1 then some (legacyObj ((index - 0xB000) / 256) (index % 256), 0, 0)
       else if sub = 0 then some (subZeroObj index 1, 0, 0) else none)
    else none
  else if sub = 0 then (highestSub index).map (fun n => (subZeroObj index n, 0, 0))
  else (tableAt index sub).map (fun e => (loopAccess e.1 e.2.1, e.2.1, e.2.2))

/-- The cell reading in µV of a position of a legacy device (R239), none where it is unpopulated. -/
def State.legacyUv (s : State) (d k : Nat) : Option Rat :=
  let n := 12 * d + k
  if 1 ≤ n ∧ n ≤ s.cellCount then some (s.rat Obj.cellVoltage 0 (n - 1) * 1000000) else none

/-- A voltage in µV over a code step, clamped to a legacy code. -/
def legacyCodeOf (uv step : Rat) : Nat := (clampI 0 4095 (uv / step).floor).toNat

/-- PAWNRES of a position (R249). -/
def PawnSt.resOf (x : PawnSt) (k : Nat) : Nat := KMap.get x.res k 0

/-- A legacy register (R239, R240, R248 to R250). -/
def State.legacyReg (s : State) (d r : Nat) : Nat :=
  let x := s.dev d
  let half := s.cells.filter (fun n => if d = 0 then decide (n ≤ 12) else decide (12 < n))
  if r = 0 then 0x0C12
  else if r = 1 then packBits [half.any (fun n => wordBit (s.chan n).word 1), s.cellFenced (12 * d + 1), decide (s.pawnIdle d ≠ 0),
    !x.fail.isEmpty]
  else if r = 2 then s.nat Obj.precisionTurns % 512
  else if 0x10 ≤ r ∧ r ≤ 0x1B then ((s.legacyUv d (r - 0x0F)).map (fun v => legacyCodeOf v (9765625 / 8000))).getD 0
  else if 0x20 ≤ r ∧ r ≤ 0x27 then ((s.ntcUv (8 * d + r - 0x1F)).map (fun v => legacyCodeOf ((v : Int) : Rat) (2500000 / 4096))).getD 0
  else if r = 0x28 then
    legacyCodeOf (sumQ (half.map (fun n => s.rat Obj.cellVoltage 0 (n - 1))) * 1000000) (146484375 / 10000)
  else if r = 0x30 then x.window + 256 * bitOf x.en
  else if r = 0x31 then x.ptr
  else if 0x32 ≤ r ∧ r ≤ 0x3D then x.resOf (r - 0x31)
  else if r = 0x3E then packBits ((List.range 12).map (fun k => x.fail.contains (k + 1)))
  else if r = 0x3F then s.balctrl d
  else 0

/-- The mask with bit n − 1 set for every cell n of a list (0x2075). -/
def cellMask (l : List Nat) : Nat := packBits ((List.range 24).map (fun k => l.contains (k + 1)))

/-- The TYPE of a local point (R564). DEDUCED, log entry 96. -/
def pointType (p : Nat) : Nat :=
  if p < 24 then 1 else if p < 40 then 2 else if p < 48 then 3 else [4, 4, 4, 1, 1, 2, 6, 4, 5, 5, 2, 2, 2, 2, 2, 7].getD (p - 48) 0

/-- SCALE of a point of a node (R564): the unit of R559; another node's SENT unit is not stated to the head (PRESUMED, log entry 38). -/
def State.pointScale (s : State) (node p : Nat) : Rat :=
  if 40 ≤ p ∧ p < 48 ∧ node ≠ s.nodeId then Config.sentUnit node (p - 39) else s.pointUnit p

/-- The limits of a point as the head knows them (R565). -/
def State.pointLimit (s : State) (node p : Nat) : BitVec 32 × BitVec 32 :=
  KMap.get s.px.limits (node * 64 + p) (0xF149F2CA#32, 0x7149F2CA#32)

/-- A directory entry (R564, R565), zero-filled in other roles and for a node without a member. -/
def State.pointEntryBytes (s : State) (node p : Nat) : Bytes :=
  let m := s.member node
  if !s.isHead || m.state == 0 then zeroBytes 32
  else
    let w := s.pointWord node p
    let lim := s.pointLimit node p
    let v := KMap.get s.px.good (node * 64 + p) 0
    let eng := ((wordValue v : Int) : Rat) * s.pointScale node p
    let known := KMap.has s.px.good (node * 64 + p)
    let flags := packBits [m.state == 1, s.px.stale.contains node, known && decide (f32Val lim.2 < eng), known && decide (eng < f32Val lim.1),
      wordBit w 0 || wordBit w 1 || wordBit w 3 || wordBit w 4]
    leBytes 1 (pointType p) ++ leBytes 1 flags ++ leInt 1 m.square ++ leBytes 1 p ++ leBytes 1 node ++ zeroBytes 3
      ++ f32Bytes (f32Of (s.pointScale node p)) ++ f32Bytes 0#32 ++ f32Bytes lim.1 ++ f32Bytes lim.2
      ++ leBytes 2 (16 + 4 * p) ++ leBytes 2 (0x413F + node) ++ zeroBytes 4

/-- Slot `k` of the change log (R568). -/
def State.logSlot (s : State) (k : Nat) : Bytes :=
  match s.px.log.find? (fun e => e.entry % 4096 == k) with | some e => e.bytes | none => zeroBytes 40

/-- `len` bytes of ChangeLog from byte `off` (R568). -/
def State.logBytes (s : State) (off len : Nat) : Bytes :=
  sliceBytes (off % 40) len ((List.range (len / 40 + 2)).flatMap (fun k => if off / 40 + k < 4096 then s.logSlot (off / 40 + k) else []))

/-- Slots of a class the module's own producers have waiting at a port. -/
def State.ownWaiting (s : State) (queue : Nat) : Nat :=
  ((s.port (if queue / 16 = 0 then .east else .west)).waiting.filter (fun q => q.own && q.hdr.cls == queue / 2 % 8)).length

/-- Filled descriptors of a queue (R473, R474): waiting own slots; receive queues are drained at once. -/
def State.queueFilledOf (s : State) (q : Nat) : Nat := if q < 32 ∧ q % 2 = 0 then s.ownWaiting q else 0

/-- QueueBinding (R473). -/
def queueBindingOf (q : Nat) : Nat := 128 * (q / 32) + 64 * (q % 32 / 16) + 8 * (q / 2 % 8) + q % 2

/-- The computed objects of chapters 1 to 6. -/
def views1 : List (ObjDef × (State → Nat → Nat → Val)) := [
  (Obj.role, fun s _ _ => .nat s.ident.role.code),
  (Obj.headEligible, fun s _ _ => .nat (bitOf s.eligible)),
  (Obj.memberEntry, fun s _ j => .bytes ((s.member (j + 1)).bytes (j + 1))),
  (Obj.aux24Current, fun s _ _ => .real (Config.portReading 2 s.now)),
  (Obj.supplyStatus, fun s _ _ => .nat s.supplyStatus),
  (Obj.mode, fun s _ _ => .nat s.md.mode.code),
  (Obj.terminalLatch, fun s _ _ => .nat (bitOf s.md.terminalLatch)),
  (Obj.shipArm, fun s _ _ => .nat (bitOf s.md.shipArmedAt.isSome)),
  (Obj.thermalStatus, fun s _ _ => .nat s.thermalStatus),
  (Obj.ringTime, fun s _ _ => .nat s.ringTime),
  (Obj.timeStatus, fun s _ _ => .nat (s.tm.state.code + 4 * bitOf s.tm.wrapPath + 8 * bitOf s.tm.master)),
  (Obj.spinnerActiveSource, fun s _ _ => .nat s.tm.source),
  (Obj.spinner, fun s _ _ => .nat (s.angle.getD 0)),
  (Obj.measStatus, fun s _ _ => .nat s.measStatus),
  (Obj.calFieldAge, fun s _ _ => .nat s.calFieldAge),
  (Obj.routineEntry, fun s _ j => .nat (s.routineWord (j + 1))),
  (Obj.auxStatus, fun s _ _ => .nat s.auxStatus),
  (Obj.pawnState, fun s _ _ => .nat s.pawnState)]

/-- The computed objects of chapters 7 to 9. -/
def views2 : List (ObjDef × (State → Nat → Nat → Val)) := [
  (Obj.integrityStatus, fun s _ _ => .nat s.integrityStatus),
  (Obj.senseOpenMask, fun s _ _ => .nat (packBits ((List.range 25).map (fun k => s.itg.senseOpen.contains k)))),
  (Obj.forceOpenMask, fun s _ _ => .nat (packBits ((List.range 25).map (fun k => s.itg.forceOpen.contains k)))),
  (Obj.substitutedMask, fun s _ _ => .nat (cellMask s.itg.subst)),
  (Obj.balInhibitMask, fun s _ _ => .nat s.inhibitMask),
  (Obj.leaseRemaining, fun s _ _ => .nat (match s.bal.leaseEnd with | some e => (e - s.now) / 1000000 | none => 0)),
  (Obj.balCurrent, fun s _ j => .real (s.balAmps (j + 1))),
  (Obj.balCharge, fun s _ j => .int (truncToZero (KMap.get s.bal.charge (j + 1) 0))),
  (Obj.flybackState, fun s _ j => .nat ((s.fly (j + 1)).code (j + 1))),
  (Obj.busVoltage, fun s _ _ => .real s.bal.busV),
  (Obj.transferPower, fun s _ _ => .real s.bal.transferAux),
  (Obj.balStatus, fun s _ _ => .nat s.balStatus),
  (Obj.contactorState, fun s _ _ => .nat s.hio.contactor),
  (Obj.isoAge, fun s _ _ => .nat (s.isoAgeNow.getD 0xFFFFFFFF)),
  (Obj.headIoStatus, fun s _ _ => .nat s.headIoStatus),
  (Obj.protSetCrc, fun s _ _ => .nat s.protCrc)]

/-- The computed objects of chapters 10 and 11. -/
def views3 : List (ObjDef × (State → Nat → Nat → Val)) := [
  (Obj.soc, fun s _ j => .real (s.socShown (j + 1))),
  (Obj.socUncertainty, fun s _ j => .real (clampQ 0 100 (s.ec (j + 1)).u)),
  (Obj.capacity, fun s _ j => .real (s.capOf (j + 1))),
  (Obj.soH, fun s _ j => .real (if s.capC = 0 then 0 else s.capOf (j + 1) / s.capC * 100)),
  (Obj.r0Cell, fun s _ j => .real ((s.ec (j + 1)).r0.getD 0)),
  (Obj.r1Cell, fun s _ j => .real ((s.ec (j + 1)).r1.getD 0)),
  (Obj.r2Cell, fun s _ j => .real ((s.ec (j + 1)).r2.getD 0)),
  (Obj.impSpectrum, fun s _ j => .bytes (s.impSpectrum (j + 1))),
  (Obj.cellEstStatus, fun s _ j => .nat (s.cellEstStatus (j + 1))),
  (Obj.chargeCount, fun s _ j => .int (truncToZero (s.ec (j + 1)).q)),
  (Obj.estStatus, fun s _ _ => .nat s.estStatus),
  (Obj.loopLoad, fun s _ _ => .real s.loopLoadNow),
  (Obj.loopEnable, fun s i _ => .nat (bitOf (s.instOn i))),
  (Obj.loopOutput, fun s i j => .f32 ((s.inst i).u.getD j 0#32)),
  (Obj.loopState, fun s i _ => .bytes (s.loopStateBytes i)),
  (Obj.loopStatus, fun s i _ => .nat (s.loopStatusOf i)),
  (Obj.coolingStatus, fun s _ _ => .nat s.coolingStatus)]

/-- The computed objects of chapters 12 to 14. -/
def views4 : List (ObjDef × (State → Nat → Nat → Val)) := [
  (Obj.ringState, fun s _ _ => .nat s.ringState),
  (Obj.ownSquare, fun s _ _ => .int s.square),
  (Obj.ringStatus, fun s _ _ => .nat s.ringStatus),
  (Obj.portState, fun s i _ => .nat (s.port (if i = 0 then .east else .west)).code),
  (Obj.rxPower, fun s i _ => .real (Config.portReading i s.now)),
  (Obj.tokensEast, fun s _ j => .nat (s.ring.east.held j)),
  (Obj.tokensWest, fun s _ j => .nat (s.ring.west.held j)),
  (Obj.queueFree, fun s i _ => .nat (s.nat Obj.queueSize i - s.queueFilledOf i)),
  (Obj.queueFilled, fun s i _ => .nat (s.queueFilledOf i)),
  (Obj.queueBinding, fun _ i _ => .nat (queueBindingOf i)),
  (Obj.busState, fun s i _ => .nat (s.bus (if i = 0 then .ctlA else .ctlB)).code),
  (Obj.tec, fun s i _ => .nat (s.bus (if i = 0 then .ctlA else .ctlB)).txErr),
  (Obj.rec, fun s i _ => .nat (min 255 (s.bus (if i = 0 then .ctlA else .ctlB)).rxErr)),
  (Obj.busStatus, fun s i _ => .nat (s.bus (if i = 0 then .ctlA else .ctlB)).status),
  (Obj.busLoad, fun s i _ => .real (Config.busLoad i s.now)),
  (Obj.firmwareVersion, fun s _ _ => .nat s.activeSlot.version),
  (Obj.activeSlot, fun s _ _ => .nat (bitOf s.mgmt.activeB)),
  (Obj.dictionaryVersion, fun s _ _ => .nat s.activeSlot.dictVersion),
  (Obj.pxBlockActive, fun s _ _ => .nat s.px.blocks.length),
  (Obj.pubArea, fun s _ _ => .bytes s.pubBytes),
  (Obj.pointEntry, fun s i j => .bytes (s.pointEntryBytes (i + 1) j)),
  (Obj.headPubCopy, fun s i _ => if s.isHead then s.val Obj.headPubCopy i else .bytes []),
  (Obj.changeLog, fun s _ _ => .bytes (s.logBytes 0 163840))]

/-- The computed objects of chapters 15 to 18. -/
def views5 : List (ObjDef × (State → Nat → Nat → Val)) := [
  (Obj.ckptAge, fun s _ _ => .nat (if s.ident.role == .standby && s.flt.ckpt.gen != 0 then (s.ringTime - s.flt.ckpt.takenAt) / 1000000 else 0)),
  (Obj.firstMoveStatus, fun s _ _ => .nat s.firstMoveStatus),
  (Obj.firstMoveTime, fun s _ _ => .nat ((s.flt.first.map (·.time)).getD 0)),
  (Obj.faultStatus, fun s _ _ => .nat s.faultStatus),
  (Obj.faultActive, fun s _ j => .nat (sourceWord s.flt.active j)),
  (Obj.faultPending, fun s _ j => .nat (sourceWord s.flt.pending j)),
  (Obj.laneState, fun s _ j => .nat (KMap.get s.flt.lane j 0)),
  (Obj.sentStatus, fun s i _ => .nat (s.sentStatus (i + 1))),
  (Obj.sentErrorCounts, fun s i _ => .bytes ((List.range 8).flatMap (fun k => leBytes 4 (KMap.get (s.sentCh (i + 1)).errs k 0)))),
  (Obj.sentSlowTable, fun s i _ => .bytes ((List.range 256).flatMap (fun k => leBytes 4 (KMap.get (s.sentCh (i + 1)).slow k 0)))),
  (Obj.cellVoltHist, fun s _ j => .bytes (s.histBytes 0 (j + 1) 64)),
  (Obj.ntcHist, fun s _ j => .bytes (s.histBytes 1 (j + 1) 32)),
  (Obj.currentHist, fun s _ _ => .bytes (s.histBytes 2 0 64)),
  (Obj.socDwellHist, fun s _ j => .bytes (s.histBytes 3 (j + 1) 20)),
  (Obj.cellExtremes, fun s _ j => .bytes (s.extremeBytes (j + 1))),
  (Obj.episodeList, fun s _ _ => .bytes s.episodeBytes),
  (Obj.dailySummary, fun s _ j => .bytes (s.pmRead (0x2000 + 256 * j) 256)),
  (Obj.captureStatus, fun s _ _ => .nat s.captureStatus),
  (Obj.scrubAge, fun s _ _ => .nat ((s.now - s.rcd.scrubEnd) / 1000000000)),
  (Obj.captureStoreSeconds, fun s _ _ => .real s.captureSeconds),
  (Obj.captureRecordHeader, fun s _ j => .bytes (match s.rcd.caps.find? (fun e => e.1 == j) with | some e => e.2.bytes s.packId | none => [])),
  (Obj.captureRecordState, fun s _ j => .nat (match s.rcd.caps.find? (fun e => e.1 == j) with | some e => e.2.state | none => 0)),
  (Obj.mgmtStatus, fun s _ _ => .nat s.mgmtStatus),
  (Obj.calendarTime, fun s _ _ => .nat (s.utc.getD 0)),
  (Obj.sessionCount, fun s _ _ => .nat s.mgmt.sessions.length),
  (Obj.sessionList, fun s _ _ => .bytes s.sessionListBytes),
  (Obj.keyStatus, fun s _ _ => .nat s.keyStatus),
  (Obj.signingKeyRevoke, fun s _ _ => .nat (keyMask s.mgmt.revoked)),
  (Obj.slotInfo, fun s _ _ => .bytes (s.mgmt.slotA.info ++ s.mgmt.slotB.info)),
  (Obj.usbState, fun s _ _ => .nat s.usbState)]

/-- Every object whose value is computed when it is read. PRESUMED, log entry 37. -/
def views : List (ObjDef × (State → Nat → Nat → Val)) := views1 ++ views2 ++ views3 ++ views4 ++ views5

/-- The value of an element of an object as a read gives it. -/
def State.live (s : State) (o : ObjDef) (i j : Nat) : Val :=
  if 0xB000 ≤ o.index ∧ o.index < 0xB200 ∧ o.sub = 1 then .nat (s.legacyReg ((o.index - 0xB000) / 256) (o.index % 256))
  else match views.find? (fun e => e.1.index == o.index && e.1.sub == o.sub) with
    | some e => e.2 s i j
    | none => s.val o i j

/-- The bytes of an element of an object as a read gives them. -/
def State.liveBytes (s : State) (o : ObjDef) (i j : Nat) : Bytes := (s.live o i j).encode o.ty

end Sys2Proof.Machine
end

