-- ==== Sys2Proof/Machine/ParamArea.lean ====
section
/-! DEFINITION. The parameter area of pack memory (R654): where each RWP object and each Severity has its two copies, which
copy is in force, and what a write puts there. -/
namespace Sys2Proof.Machine

/-- An element of the parameter area: its key, object row and element. -/
abbrev ParamElem := Nat × ObjDef × Nat × Nat

/-- The elements of an object row that the parameter area holds (R435, R654): RWP objects and Severity. -/
def paramElems (o : ObjDef) : List ParamElem :=
  (List.range o.idxCount).flatMap (fun i =>
    let o' := loopAccess o i
    if o'.access == .rwp || o.index == 0x8010 then (List.range o.subCount).map (fun j => (o.key i j, o', i, j)) else [])

/-- An element put into its place by ascending Index.Sub. -/
def insertParam (e : ParamElem) : List ParamElem → List ParamElem
  | [] => [e]
  | x :: r => if e.1 < x.1 then e :: x :: r else x :: insertParam e r

/-- Every element of the parameter area in ascending Index.Sub order (R654). -/
def paramList : List ParamElem := (Obj.all.flatMap paramElems).foldl (fun l e => insertParam e l) []

/-- The length of one copy of an element: 8 bytes, the value padded to a multiple of 4, the CRC (R654). -/
def copySize (o : ObjDef) : Nat := 12 + (o.ty.size + 3) / 4 * 4

/-- The elements with the address of their copy A (R652, R654: copy B follows it). -/
def paramTable : List (ParamElem × Nat) :=
  (paramList.foldl (fun (x : List (ParamElem × Nat) × Nat) e => ((e, x.2) :: x.1, x.2 + 2 * copySize e.2.1)) ([], 0x4010)).1.reverse

/-- The address of copy A of an element, none where the area does not hold it. -/
def paramAddr (o : ObjDef) (i j : Nat) : Option Nat := (paramTable.find? (fun e => e.1.1 == o.key i j)).map (·.2)

/-- A copy (R654). -/
def paramCopy (o : ObjDef) (i j seq : Nat) (d : Bytes) : Bytes :=
  let b := leBytes 2 (o.index + i) ++ leBytes 1 (o.sub + j) ++ leBytes 1 o.ty.code ++ leBytes 2 d.length ++ leBytes 2 seq
    ++ fitBytes ((d.length + 3) / 4 * 4) d
  b ++ leBytes 4 (crc32 b)

/-- SEQ and value of a copy, where it is valid (R654). -/
def paramParse (o : ObjDef) (i j : Nat) (b : Bytes) : Option (Nat × Bytes) :=
  let n := fieldAt 4 2 b
  let pad := (n + 3) / 4 * 4
  if fieldAt 0 2 b = o.index + i ∧ fieldAt 2 1 b = o.sub + j ∧ fieldAt 3 1 b = o.ty.code
      ∧ (if o.ty = .str then n ≤ 32 else n = o.ty.size) ∧ fieldAt (8 + pad) 4 b = crc32 (b.take (8 + pad)) then
    some (fieldAt 6 2 b, sliceBytes 8 n b)
  else none

/-- Whether SEQ b is newer than SEQ a (R654). -/
def seqNewer (a b : Nat) : Bool :=
  let d := (b + 65536 - a) % 65536
  decide (1 ≤ d) && decide (d ≤ 32767)

/-- The copy in force of an element at an address: which one, its SEQ and value (R654). -/
def State.paramInForce (s : State) (o : ObjDef) (i j addr : Nat) : Option (Nat × Nat × Bytes) :=
  let n := copySize o
  match paramParse o i j (s.pmRead addr n), paramParse o i j (s.pmRead (addr + n) n) with
  | some a, some b => if seqNewer a.1 b.1 then some (1, b) else some (0, a)
  | some a, none => some (0, a)
  | none, some b => some (1, b)
  | none, none => none

/-- A value written to the copy that does not hold the newer valid SEQ (R654); the first copy written carries SEQ 1.
DEDUCED, log entry 41. -/
def State.paramStore (s : State) (o : ObjDef) (i j : Nat) (d : Bytes) : State :=
  match paramAddr o i j with
  | none => s
  | some addr =>
    match s.paramInForce o i j addr with
    | some (k, seq, _) => s.pmWrite (addr + (1 - k) * copySize o) (paramCopy o i j ((seq + 1) % 65536) d)
    | none => s.pmWrite addr (paramCopy o i j 1 d)

/-- The values of the parameter area put into a dictionary; an object without a valid copy keeps what it has there (R654). -/
def State.loadParams (s : State) (d : Dict) : Dict :=
  paramTable.foldl (fun (d : Dict) e =>
    let (_, o, i, j) := e.1
    match s.paramInForce o i j e.2 with
    | some (_, _, b) => d.write o i j (Val.decode o.ty b)
    | none => d) d

/-- The header of the parameter area (R654). -/
def paramHeader (version : Nat) : Bytes :=
  let b := leBytes 2 1 ++ leBytes 2 version ++ leBytes 2 paramTable.length ++ zeroBytes 6
  b ++ leBytes 4 (crc32 b)

/-- DictionaryVersion of a valid header (R654). -/
def State.headerVersion (s : State) : Option Nat :=
  let b := s.pmRead 0x4000 16
  if fieldAt 0 2 b = 1 ∧ fieldAt 12 4 b = crc32 (b.take 12) then some (fieldAt 2 2 b) else none

/-- The header rewritten for the image that runs, where it differs (R654): every image has this dictionary, so each value stays in
its place. -/
def State.paramVersion (s : State) : State :=
  let v := s.activeSlot.dictVersion
  (if s.headerVersion = some v then s else s.pmWrite 0x4000 (paramHeader v)).setNat Obj.packParamVersion v

end Sys2Proof.Machine
end

