-- ==== Sys2Proof/Machine/Modes.lean ====
section
/-! DEFINITION. Modes, start-up, hold-up, KEEPALIVE and self-heating (R117 to R155). -/
namespace Sys2Proof.Machine

/-- The pack-memory transfers that wait take place, in order of request (R130 step 4, R681 step 2). DEDUCED, log entry 17. -/
def State.finishJobs (s : State) : State :=
  let s := s.rcd.jobs.foldl (fun (st : State) j => st.jobWritten j) s
  { s with rcd := { s.rcd with jobs := [], dayDue := none } }

/-- A fast round begins (R265). -/
def State.fastRound (s : State) : State :=
  { s with itg := { s.itg with roundDone := false, pos := 0, fast := true, nextAt := s.now, failedIn := [], test := none, retest := none } }

/-- The module leaves MAINTENANCE for STANDBY (R118, R119, R265, R706). -/
def State.leaveMaint (s : State) : State := (s.enterMode .standby 3).fastRound

/-- The effect of a write of MaintPermit (R118, R121, R706): 0 ends MAINTENANCE, a number of minutes enters it or starts the count
anew. DEDUCED, log entry 90. -/
def maintPermitEffect (v : Nat) : PxEffect := fun s =>
  if v = 0 then .ok (if s.md.mode = .maintenance then s.leaveMaint else s)
  else
    let run := fun (s : State) =>
      ({ s with md := { s.md with permitEnd := some (s.now + v * 60000000000) } } : State).setNat Obj.maintPermit v
    match s.md.mode with
    | .maintenance => .ok (run s)
    | .standby | .online =>
      let s := run (s.enterMode .maintenance 2)
      .ok ({ s with hio := { s.hio with released := false } }.promptOpen)
    | _ => .refuse pxState

/-- MAINT_PERMIT_GRANT (R118, R121). -/
def execMaintPermitGrant (t : Nat) (q : PxReq) (v : Nat) (s : State) : Host.Outcome State Fault Refusal :=
  .next ((s.tick t).pxWriteNat q Obj.maintPermit 0 0 v (maintPermitEffect v))

/-- MAINT_PERMIT_END (R119). -/
def execMaintPermitEnd (t : Nat) (q : PxReq) (v : Nat) (s : State) : Host.Outcome State Fault Refusal :=
  .next ((s.tick t).pxWriteNat q Obj.maintPermit 0 0 v (maintPermitEffect v))

/-- MAINT_PERMIT_EXPIRY (R121): a permit that runs out while the lanes restart ends with that start-up in STANDBY. -/
def execMaintPermitExpiry (t : Nat) (s : State) : Host.Outcome State Fault Refusal :=
  let s := s.tick t
  match s.md.permitEnd with
  | none => .next s
  | some e =>
    if s.now < e then .next s
    else if s.md.mode = .maintenance then .next s.leaveMaint
    else .next ({ s with md := { s.md with permitEnd := none, keepMaint := false } }.setNat Obj.maintPermit 0)

/-- Whether a source of S3 or S4 is ACTIVE (R707). -/
def State.severeActive (s : State) : Bool := s.flt.active.any (fun k => decide (3 ≤ s.sevOf k))

/-- CARRY cleared in the carried fault record (R700). -/
def State.clearCarry (s : State) : State :=
  let s := { s with md := { s.md with safeCarried := false } }
  match s.flt.carryDue with
  | some c => { s.writeCarry { c with carry := false } with flt := { (s.writeCarry { c with carry := false }).flt with carryDue := none } }
  | none =>
    match s.carryInForce with
    | some (_, b) =>
      if fieldAt 6 1 b % 2 = 1 then
        s.writeCarry { source := fieldAt 4 1 b, severity := fieldAt 5 1 b, time := fieldAt 8 8 b, latch := bitsOf 1 1 (fieldAt 6 1 b) = 1,
                       carry := false }
      else s
    | none => s

/-- The effect of a write of SafeExit (R118, R700, R706, R707). -/
def safeExitEffect : PxEffect := fun s =>
  if s.md.mode ≠ .safe ∨ s.severeActive ∨ s.md.terminalLatch ∨ !s.minSet then .refuse pxState
  else .ok ((s.enterMode .standby 5).clearCarry)

/-- SAFE_EXIT (R707). -/
def execSafeExit (t : Nat) (q : PxReq) (v : Nat) (s : State) : Host.Outcome State Fault Refusal :=
  .next ((s.tick t).pxWriteNat q Obj.safeExit 0 0 v safeExitEffect)

/-- The effect of a write of ShipArm (R138, R139). -/
def shipArmEffect (v : Nat) : PxEffect := fun s =>
  if v = 0 then .ok { s with md := { s.md with shipArmedAt := none } }
  else if (s.md.mode == .standby || s.md.mode == .maintenance) && !(s.isHead && (s.hio.mainPos || s.hio.mainNeg || s.hio.prechg)) then
    .ok { s with md := { s.md with shipArmedAt := some s.now } }
  else .refuse pxState

/-- SHIP_ARM (R138). -/
def execShipArm (t : Nat) (q : PxReq) (v : Nat) (s : State) : Host.Outcome State Fault Refusal :=
  .next ((s.tick t).pxWriteNat q Obj.shipArm 0 0 v (shipArmEffect v))

/-- SHIP_DISARM (R139). -/
def execShipDisarm (t : Nat) (q : PxReq) (v : Nat) (s : State) : Host.Outcome State Fault Refusal :=
  .next ((s.tick t).pxWriteNat q Obj.shipArm 0 0 v (shipArmEffect v))

/-- Whether SHIP is armed now (R139). -/
def State.shipArmed (s : State) : Bool := match s.md.shipArmedAt with | some a => decide (s.now < a + 600000000000) | none => false

/-- SHIP_ARM_LAPSE (R139). -/
def execShipArmLapse (t : Nat) (s : State) : Host.Outcome State Fault Refusal :=
  let s := s.tick t
  if s.md.shipArmedAt.isSome && !s.shipArmed then .next { s with md := { s.md with shipArmedAt := none } } else .next s

/-- CAPTURE_INIT_DONE (R123, R124). -/
def execCaptureInitDone (t : Nat) (ok : Bool) (s : State) : Host.Outcome State Fault Refusal :=
  let s := s.tick t
  if s.rcd.capInit || s.rcd.capStopped || !(s.md.mode.runs || (s.md.mode == .startup && s.md.started)) then .next s
  else if ok then .next { s with rcd := { s.rcd with capInit := true, scrubStart := s.now, scrubEnd := s.now } }
  else .next (({ s with rcd := { s.rcd with capStopped := true } }.raise 0x80).afterTrigger)

/-- KEEPALIVE begins (R118, R136, R137): its record, the trip switch closed unless SAFE is carried in. -/
def State.enterKeepalive (s : State) (byWake : Bool) : State :=
  let k : KaRecord := {
    entry := s.ringTime, exit := s.ringTime, cellMin := [], cellMax := [], ntcMin := none, ntcMax := none,
    firstTrip := if s.md.safeCarried then 5 else 0, firstTripAt := if s.md.safeCarried then s.ringTime else 0 }
  { s with
    md := { s.md with
      mode := .keepalive, started := false, holdup := 0, shipArmedAt := none, permitEnd := none, kaByWake := byWake,
      kaTripped := s.md.safeCarried, kaRuns := [], kaLast := s.now, ka := some k }
    est := { s.est with kaStack := s.rat Obj.stackVoltage } }

/-- AUX24 present for 20 ms in KEEPALIVE, SHIP or off (R118, R125, R126, R143): start-up begins; a terminal latch whose power-cycle
timer has run out is clear. -/
def State.wakeAux (s : State) : State :=
  let src := match s.md.mode with
    | .ship => 1
    | .keepalive => if s.md.kaByWake then 3 else 2
    | _ => 0
  let out := match s.md.powerTimerEnd with | some e => decide (e ≤ s.now) | none => false
  let ka := if s.md.mode = .keepalive then s.md.ka.map (fun (k : KaRecord) => { k with exit := s.ringTime }) else none
  { s with md := { s.md with
      mode := .startup, started := false, holdup := 0, aux24 := true, keepMaint := false, laneReset := false, ka := ka,
      kaTripped := false, powerTimerEnd := none, terminalLatch := s.md.terminalLatch && !out,
      latchTimedOut := s.md.latchTimedOut || (s.md.terminalLatch && out) } }.setNat Obj.startSource src

/-- WAKE (R100, R118, R125, R126): held high for 50 ms. -/
def execWake (t : Nat) (s : State) : Host.Outcome State Fault Refusal :=
  let s := s.tick t
  if s.md.mode = .ship then .next (if s.md.aux24 then s.wakeAux else s.enterKeepalive true) else .next s

/-- The SENT channels whose SentEnable is 1. -/
def State.sentWanted (s : State) : List Nat := ((List.range 8).map (· + 1)).filter (fun k => s.sentOn k)

/-- The hold-up sequence cancelled before its step 5 (R133, R706): loads restored, mode kept; a head that has abdicated is a segment
in STANDBY. -/
def State.cancelHoldup (s : State) : State :=
  let gone := s.md.abdicated
  let s := { s with
    md := { s.md with holdup := 0, aux24 := true, abdicated := false, loopHoldUntil := none }
    supply := { s.supply with loadsShed := false, fluxSup := false }
    rcd := { s.rcd with skips := 0 } }
  let s := if s.md.mode.runs then s.sentWanted.foldl (fun st k => st.sentSupplyOn k) s else s
  if !gone then s
  else
    let s := if s.isHead then s.leaveHead .segment else s
    if s.md.mode = .online ∨ s.md.mode = .maintenance then s.enterMode .standby 6 else s

/-- AUX24_PRESENT (R92, R118, R125, R133, R143). -/
def execAux24Present (t : Nat) (s : State) : Host.Outcome State Fault Refusal :=
  let s := s.tick t
  if 1 ≤ s.md.holdup ∧ s.md.holdup ≤ 4 then .next s.cancelHoldup
  else match s.md.mode with
  | .keepalive | .ship | .off => .next s.wakeAux
  | _ => .next { s with md := { s.md with aux24 := true } }

/-- Loads shed (R88, R130 step 2, R134): balancing, transfer, SENT supplies, fans, valve, fluxgate supply, coils. -/
def State.shedLoads (s : State) : State :=
  let s := (s.stopBalancing.releaseCoils)
  let s := { s with
    supply := { s.supply with loadsShed := true, fluxSup := true }
    hio := { s.hio with closeStep := 0, openStep := 0, contactor := if s.hio.contactor = 6 then 6 else 0 } }
  let s := ((List.range 8).map (· + 1)).foldl (fun st k => if KMap.get st.supply.sentOn k false then st.sentSupplyOff k else st) s
  ((s.setRat Obj.fanDuty 0 0 0).setRat Obj.fanDuty 0 0 1).setRat Obj.valveCommand 0

/-- A pack-memory write of hold-up step 4 (R131): it starts only while HoldupRemaining shows at least 5 ms, else it is skipped.
DEDUCED, log entry 17. -/
def State.holdupWrite (s : State) (go : State → State) : State :=
  if 50 ≤ s.nat Obj.holdupRemaining ∧ s.rcd.pmPresent then go s else { s with rcd := { s.rcd with skips := s.rcd.skips + 1 } }

/-- The change-log entries not yet copied to pack memory, oldest first, the last 64 of them (R130, R568). -/
def State.uncopied (s : State) : List ChangeEntry :=
  ((s.px.log.filter (fun e => decide (s.nat Obj.changeLogPackCopied < e.entry))).take 64).reverse

/-- The address of a change-log entry in pack memory (R652). -/
def logCopyAddr (entry : Nat) : Nat := 0x1000 + 40 * (entry % 64)

/-- The daily summary that is due, as the last write of hold-up step 4 (R130, R633). -/
def State.holdupDay (s : State) : State :=
  match s.rcd.dayDue with
  | none => s
  | some (k, b) =>
    if s.rcd.jobs.any (fun j => j.rank == 6) then s else s.holdupWrite (fun s => s.pmJobs 6 (0x2000 + 256 * k) b)

/-- The pack-memory writes of hold-up step 4 (R130, R131, R405): SoC record with its hold-up flag, capacity record if due,
change-log entries, daily summary if due. -/
def State.holdupWrites (s : State) : State :=
  let s := s.holdupWrite (fun s => s.beginRecord false true)
  let s := if s.est.capPend then s.holdupWrite (fun s => s.beginRecord true false) else s
  let s := s.uncopied.foldl (fun (st : State) e => st.holdupWrite (fun s => s.pmJobs 3 (logCopyAddr e.entry) e.bytes)) s
  s.holdupDay

/-- The notices of hold-up step 3 (R130, R605): AUX24 loss both ways; a head abdicates with code 0 and holds its loop source on for
20 ms. -/
def State.holdupNotices (s : State) : State :=
  let s := s.sendNotice 3 0 0 s.ringTime
  if s.isHead then
    let s := s.sendNotice 4 0 0 s.ringTime
    { s with md := { s.md with abdicated := true, loopHoldUntil := some (s.now + 20000000) } }
  else s

/-- AUX24_LOSS (R118, R120, R130, R131, R134, R142, R649, R680): below 16.0 V for 200 µs, with HoldupRemaining in 0.1 ms as it then
reads. DEDUCED, log entry 17. -/
def execAux24Loss (t holdup : Nat) (s : State) : Host.Outcome State Fault Refusal :=
  let s := s.tick t
  if !s.md.aux24 || 1 ≤ s.md.holdup then .next s
  else
    let st := s.nat Obj.updateState
    let s := if 1 ≤ st ∧ st ≤ 3 then s.discardUpdate else s
    let s := { s.setNat Obj.holdupRemaining holdup with
      rcd := { s.rcd with caps := [], store := [], readout := none, capInit := false, skips := 0 } }
    if s.md.terminalLatch then .next s.switchOff
    else if s.md.mode = .recovery then .next { s with md := { s.md with mode := .off, started := false, aux24 := false } }
    else if s.md.mode.runs then
      let s := { s with md := { s.md with aux24 := false, safeCarried := s.md.safeCarried || s.md.mode == Mode.safe } }
      let s := (s.shedLoads.holdupNotices).holdupWrites
      .next { s with md := { s.md with holdup := 4 } }
    else if s.md.mode = .startup then
      .next { s.shedLoads with md := { s.md with aux24 := false, holdup := 4 } }
    else .next { s with md := { s.md with aux24 := false } }

/-- Ring and bus transceivers off (R130 step 5), and what hangs on them and on the lanes: ports, buses, sessions, PX. -/
def State.commsOff (s : State) : State :=
  let off := fun (x : BusSt) => ({ st := .off, rates := x.rates, booksBad := x.booksBad } : BusSt)
  { s with
    ring := { s.ring with east := {}, west := {}, run := none, pend := none, noUnicast := false }
    can := { s.can with a := off s.can.a, b := off s.can.b, votes := [], idStopped := false }
    px := { s.px with stored := [], rwp := [], blocks := [] }
    mgmt := { s.mgmt with sessions := [], challenges := [] } }

/-- HOLDUP_STEP4_END (R118, R130 to R132, R139, R275, R311, R605): the writes have completed, or HoldupRemaining (in 0.1 ms) has reached
5 ms and the rest is skipped; transceivers off, then KEEPALIVE, SHIP, or off with STACKSUP set. DEDUCED, log entry 17. -/
def execHoldupStep4End (t holdup : Nat) (s : State) : Host.Outcome State Fault Refusal :=
  let s := (s.tick t).setNat Obj.holdupRemaining holdup
  if s.md.holdup ≠ 4 then .next s
  else
    let early := match s.md.loopHoldUntil with | some e => decide (s.now < e) | none => false
    if 50 < holdup && early then .next s.finishJobs
    else
      let s := if 50 < holdup then s.finishJobs
        else { s with rcd := { s.rcd with skips := s.rcd.skips + s.rcd.jobs.length, jobs := [] } }
      let s := s.setNat Obj.holdupSkips (min s.rcd.skips 255)
      let s := if s.isHead then s.leaveHead .segment else s
      let ship := s.shipArmed
      let s := { s.commsOff.dropLease with md := { s.md with abdicated := false, loopHoldUntil := none, holdup := 0, started := false } }
      if s.itg.stackSup then .next { s with md := { s.md with mode := .off, shipArmedAt := none, permitEnd := none } }
      else if ship then .next { s with md := { s.md with mode := .ship, shipArmedAt := none, permitEnd := none } }
      else .next (s.enterKeepalive false)

/-- Whether a condition of the KEEPALIVE trip-condition table holds (R136): 1 to 4 in its order. -/
def State.kaCond (s : State) (cells : List Int) (ntcs : List Rat) (k : Nat) : Bool :=
  match k with
  | 1 => cells.any (fun v => decide (s.rat Obj.kaCellOverVoltage * 1000000 < (v : Rat)))
  | 2 => cells.any (fun v => decide ((v : Rat) < s.rat Obj.kaCellUnderVoltage * 1000000))
  | 3 => ntcs.any (fun v => decide (s.rat Obj.kaTempHigh < v))
  | 4 => ntcs.any (fun v => decide (v < s.rat Obj.kaTempLow))
  | _ => false

/-- The record of R137 after a reading: lowest and highest of each cell, of the NTCs. DEDUCED, log entry 45. -/
def KaRecord.add (k : KaRecord) (cells : List Int) (ntcs : List Rat) : KaRecord :=
  let lo := cells.zipIdx.foldl (fun (m : KMap Int) e => KMap.set m (e.2 + 1) (min e.1 ((findKey m (e.2 + 1)).getD e.1))) k.cellMin
  let hi := cells.zipIdx.foldl (fun (m : KMap Int) e => KMap.set m (e.2 + 1) (max e.1 ((findKey m (e.2 + 1)).getD e.1))) k.cellMax
  { k with
    cellMin := lo, cellMax := hi
    ntcMin := ntcs.foldl (fun o v => lowerQ o v) k.ntcMin
    ntcMax := ntcs.foldl (fun o v => upperQ o v) k.ntcMax }

/-- KEEPALIVE_READING (R135 to R137): cell readings in µV from C1 up, NTC readings in °C, none where excluded under R87. -/
def execKeepaliveReading (t : Nat) (cells : List Int) (ntcs : List (Option Rat)) (s : State) : Host.Outcome State Fault Refusal :=
  let s := s.tick t
  if s.md.mode ≠ .keepalive then .next s
  else
    let cells := cells.take s.cellCount
    let nt := ntcs.filterMap id
    let runs := [1, 2, 3, 4].foldl (fun (m : KMap Nat) k =>
      KMap.set m k (if s.kaCond cells nt k then KMap.get m k 0 + 1 else 0)) s.md.kaRuns
    let s := { s with md := { s.md with kaRuns := runs, kaLast := s.now, ka := s.md.ka.map (fun k => k.add cells nt) } }
    .next ([1, 2, 3, 4].foldl (fun (st : State) k => if 2 ≤ KMap.get runs k 0 then st.kaTrip k else st) s)

/-- KEEPALIVE_WATCHDOG (R708): no reading for 3 s; lane A is reset. -/
def execKeepaliveWatchdog (t : Nat) (s : State) : Host.Outcome State Fault Refusal :=
  let s := s.tick t
  if s.md.mode = .keepalive ∧ s.md.kaLast + 3000000000 ≤ s.now then
    .next ({ s with md := { s.md with kaRuns := [], kaLast := s.now } }.kaTrip 6)
  else .next s

/-- POWER_CYCLE_TIMER_EXPIRY (R141, R143, R699). -/
def execPowerCycleTimerExpiry (t : Nat) (s : State) : Host.Outcome State Fault Refusal :=
  let s := s.tick t
  match s.md.powerTimerEnd with
  | none => .next s
  | some e =>
    if s.now < e then .next s
    else .next { s with md := { s.md with
      powerTimerEnd := none, terminalLatch := false, latchTimedOut := s.md.latchTimedOut || s.md.terminalLatch } }

/-- STACK_COLLAPSE (R144, R662): the always-on domain stops; what runs from the stack alone is off. -/
def execStackCollapse (t : Nat) (s : State) : Host.Outcome State Fault Refusal :=
  let s := s.tick t
  let s := { s with
    md := { s.md with
      powerTimerEnd := none, terminalLatch := false, latchTimedOut := s.md.latchTimedOut || s.md.terminalLatch,
      mode := if s.md.mode == Mode.keepalive || s.md.mode == Mode.ship then .off else s.md.mode }
    mgmt := { s.mgmt with calendar := none } }
  .next (if s.md.mode.runs then (s.raise 0x99).afterTrigger else s)

/-- The next included sensor from `k` in a direction round its group (R145, R146): D1 to D6 are 1 to 6, B1 to B4 7 to 10. -/
def nextSensor (excluded : Nat → Bool) (k : Nat) (up : Bool) : Option Nat :=
  let first := if k ≤ 6 then 1 else 7
  let n := if k ≤ 6 then 6 else 4
  let at0 := k - first
  ((List.range (n - 1)).map (fun d => first + (if up then (at0 + d + 1) % n else (at0 + n - d - 1) % n))).find? (fun x => !excluded x)

/-- One sensor judged against its neighbours as they stood before the reading (R146, R147). -/
def judgeSensor (excluded : Nat → Bool) (temp : Nat → Rat) (k : Nat) (x : SensorSt) : SensorSt :=
  match nextSensor excluded k true, nextSensor excluded k false with
  | some a, some b =>
    let da := absQ (temp k - temp a)
    let db := absQ (temp k - temp b)
    if x.excluded then
      if da ≤ 6 ∨ db ≤ 6 then (if 10 ≤ x.okRun + 1 then {} else { x with okRun := x.okRun + 1 }) else { x with okRun := 0 }
    else if 8 < da ∧ 8 < db then { excluded := true, okRun := 0 } else x
  | _, _ => x

/-- The hotspot's consequences (R149 to R152): reading rate, derating fraction, sources, shutdown. -/
def State.hotspot (s : State) (h : Rat) (die board : Nat) : State :=
  let lost := die < 4 || board < 2
  let f := if lost then 0 else clampQ 0 1 ((115 - h) / 10)
  let run := if 125 ≤ h then s.md.hotRun + 1 else 0
  let s := { s with md := { s.md with fastRate := if 95 ≤ h then true else if h < 93 then false else s.md.fastRate, hotRun := run } }
  let s := (s.setRat Obj.hotspotTemp h).setRat Obj.derateFraction f
  let s := s.balUpdate
  let s := (s.follow 0x1C lost).follow 0x1D (decide (die < 2))
  if 2 ≤ run then s.raise 0x1E else if run = 0 then s.lower 0x1E else s

/-- THERMAL_SENSOR_READ (R146 to R152): readings in °C of D1 to D6, B1 to B4. -/
def execThermalSensorRead (t : Nat) (temps : List Rat) (s : State) : Host.Outcome State Fault Refusal :=
  let s := s.tick t
  if !s.md.mode.runs then .next s
  else
    let temp := fun k => temps.getD (k - 1) 0
    let ks := (List.range 10).map (· + 1)
    let exc := fun k => (KMap.get s.md.sensors k {}).excluded
    let sens := ks.foldl (fun (m : KMap SensorSt) k => KMap.set m k (judgeSensor exc temp k (KMap.get s.md.sensors k {}))) []
    let s := { s with md := { s.md with sensors := sens } }
    let s := ks.foldl (fun (st : State) k => st.setRat Obj.sensorTemp (temp k) 0 (k - 1)) s
    let inc := ks.filter (fun k => !(KMap.get sens k {}).excluded)
    let h := ((inc.map temp).foldl (fun (o : Option Rat) v => upperQ o v) none).getD (s.rat Obj.hotspotTemp)
    .next ((s.hotspot h (inc.filter (fun k => decide (k ≤ 6))).length (inc.filter (fun k => decide (7 ≤ k))).length).afterTrigger)

end Sys2Proof.Machine
end

