-- ==== Sys2Proof/Machine/Shadows.lean ====
section
/-! DEFINITION. Reading a 64-bit register as two halves (R180, R181): one shadow per register and master, valid for 1 ms. -/
namespace Sys2Proof

/-- The bit of a master in UNPAIRED of CrossingStatus (R183). -/
def Master.idx : Master → Nat
  | .laneA => 0 | .laneB => 1 | .laneC => 2 | .mgmt => 3 | .dma => 4

/-- The lane a master is, if it is one. -/
def Master.lane : Master → Option Lane
  | .laneA => some .laneA | .laneB => some .laneB | .laneC => some .laneC | _ => none

end Sys2Proof

namespace Sys2Proof.Machine

/-- Whether a master reads at all: lanes that are not fenced, the management processor while it runs, the ring DMA. -/
def State.masterRuns (s : State) (m : Master) : Bool :=
  match m.lane with
  | some l => KMap.get s.flt.lane l.idx 0 == 0
  | none => m != .mgmt || s.mgmt.running

/-- Whether an object is a 64-bit register. -/
def wide64 (o : ObjDef) : Bool := o.ty == .u64 || o.ty == .i64

/-- The key of the shadow of a register for a master. -/
def shadowKey (m : Master) (index sub : Nat) : Nat := (index * 256 + sub) * 8 + m.idx

/-- The shadow of a register for a master, while it is valid (R180). -/
def State.shadow (s : State) (m : Master) (index sub : Nat) : Option Nat :=
  match s.tm.shadows.find? (fun e => e.1 == shadowKey m index sub) with
  | some e => if s.now < e.2.2 + 1000000 then some e.2.1 else none
  | none => none

/-- A low half read (R180): the high half is latched, and latched again by a later low read. -/
def State.latchShadow (s : State) (m : Master) (index sub : Nat) (b : Bytes) : State :=
  { s with tm := { s.tm with shadows := KMap.set s.tm.shadows (shadowKey m index sub) (fieldAt 4 4 b, s.now) } }

/-- SHADOW_LOW_READ (R180). -/
def execShadowLowRead (t : Nat) (m : Master) (index sub : Nat) (s : State) : Host.Outcome State Fault Refusal :=
  let s := s.tick t
  match s.objAt index sub with
  | some (o, i, j) =>
    if wide64 o && s.masterRuns m then
      let b := s.liveBytes o i j
      let s := s.latchShadow m index sub b
      .next { s with out := s.out ++ [.half m (fieldAt 0 4 b)] }
    else .next s
  | none => .next s

/-- SHADOW_HIGH_READ (R180, R181). -/
def execShadowHighRead (t : Nat) (m : Master) (index sub : Nat) (s : State) : Host.Outcome State Fault Refusal :=
  let s := s.tick t
  match s.objAt index sub with
  | some (o, i, j) =>
    if wide64 o && s.masterRuns m then
      match s.shadow m index sub with
      | some h => .next { s with out := s.out ++ [.half m h] }
      | none =>
        let h := fieldAt 4 4 (s.liveBytes o i j)
        let st := s.nat Obj.crossingStatus
        let s := s.setNat Obj.crossingStatus (if bitsOf m.idx m.idx st = 1 then st else st + 2 ^ m.idx)
        .next { s with out := s.out ++ [.half m h] }
    else .next s
  | none => .next s

/-- SHADOW_EXPIRY (R180): the shadows of a master that are 1 ms old are no longer valid. -/
def execShadowExpiry (t : Nat) (m : Master) (s : State) : Host.Outcome State Fault Refusal :=
  let s := s.tick t
  .next { s with tm := { s.tm with shadows := s.tm.shadows.filter (fun e => !(e.1 % 8 == m.idx && decide (e.2.2 + 1000000 ≤ s.now))) } }

end Sys2Proof.Machine
end

