-- ==== Sys2Proof/Machine/StartUp.lean ====
section
/-! DEFINITION. The start from AUX24 (R122 to R124): what a start-up keeps, slot verification (R684), self-test, pack-memory read,
module ready. -/
namespace Sys2Proof.Machine

/-- Read-only objects that outlive a start-up: factory data and boot record in NOR (R650), the log and episode numbers (R568, R632),
what AUX24_PRESENT and the hold-up sequence have left for it (R126, R131). DEDUCED, log entry 49. -/
def keptRo : List ObjDef := [
  Obj.serialNumber, Obj.hardwareIssue, Obj.manufactureDate, Obj.vendorName, Obj.productName, Obj.calFactoryDate, Obj.calFieldAge,
  Obj.channelGain, Obj.channelOffset, Obj.securityFloor, Obj.updateState, Obj.updateReject, Obj.updateBlocksReceived,
  Obj.rollbackCount, Obj.episodeNewest, Obj.changeLogNewest, Obj.changeLogPackCopied, Obj.recStageTime, Obj.startSource,
  Obj.holdupSkips]

/-- Whether the value under a key of the dictionary outlives a start-up: RW objects in NOR (R650), what `keptRo` lists, the update
manifest (R701), and with a reset of the lanes alone the permit (R681). The status bits of CrossingStatus do not. -/
def keptKey (laneReset : Bool) (k : Nat) : Bool :=
  match Obj.all.find? (fun o => decide (o.index * 256 ≤ k) && decide (k < (o.index + o.idxCount) * 256) && decide (o.sub ≤ k % 256)
      && decide (k % 256 < o.sub + o.subCount)) with
  | none => false
  | some o =>
    if o.index = 0x6010 ∧ k / 256 < 0x601B then false
    else match o.access with
      | .rw => o.index != 0x7012
      | .rwa _ => o.index == 0xA030 || (laneReset && o.index == 0x1020 && o.sub == 3)
      | .ro => keptRo.any (fun p => p.index == o.index && p.sub == o.sub)
      | _ => false

/-- The dictionary after a start-up before pack memory is read (R650, R701, R702): kept values over the shipped ones. -/
def State.keptDict (s : State) : Dict :=
  (s.dict.filter (fun e => keptKey s.md.laneReset e.1)).foldl (fun (d : Dict) e => KMap.set d e.1 e.2) shippedDict

/-- Whether a slot passes step 4 (R122, R684): it holds an image that verifies, of a security version that is not too low. -/
def State.slotPasses (s : State) (x : SlotSt) (verified : Bool) : Bool :=
  verified && x.state != 0 && x.state != 4 && decide (s.nat Obj.securityFloor ≤ x.secVer)

/-- The slots decided (R124, R684): a trial slot started three times gives way to the other one, a slot that fails step 4 too;
neither passing is recovery (none). The sources to raise come with the state. DEDUCED, log entry 43. -/
def State.chooseSlot (s : State) (okA okB : Bool) : Option (State × List Nat) :=
  let okAct := if s.mgmt.activeB then okB else okA
  let okIdle := if s.mgmt.activeB then okA else okB
  let act := s.activeSlot
  let swap := fun (s : State) (old : Nat) =>
    let s := (s.setActive { s.activeSlot with state := old }).setIdle { s.idleSlot with state := 2 }
    { s with mgmt := { s.mgmt with activeB := !s.mgmt.activeB } }
  if act.state = 3 ∧ 3 ≤ act.attempts then
    let s1 := ((s.setNat Obj.updateState 8).setNat Obj.updateReject 11).bump Obj.rollbackCount
    let s1 := { s1 with mgmt := { s1.mgmt with lastRejected := some (act.buildId, act.buildId) } }
    if s.slotPasses s.idleSlot okIdle then some (swap s1 4, [0x97]) else none
  else if s.slotPasses act okAct then some (s, [])
  else if s.slotPasses s.idleSlot okIdle then
    let s := if act.state = 3 then s.setNat Obj.updateState 8 else s
    some (swap s 1, [0x18])
  else none

/-- A trial begins another pass of step 6 (R681, R682): ATTEMPTS advances, UpdateState is 6. -/
def State.trialPass (s : State) : State :=
  let x := s.activeSlot
  if x.state = 3 then (s.setActive { x with attempts := x.attempts + 1 }).setNat Obj.updateState 6 else s

/-- The state at the release of the lanes (R122 step 5): everything volatile as after reset, what the always-on domain, NOR, the key
store, the boot record and pack memory hold kept (R650, R661, R670, R673); time, spinner and permit where the lanes alone are
reset (R681); with the terminal latch set, first move (R143). DEDUCED, log entry 49. -/
def State.released (s : State) (r : StartRec) : State :=
  let keep := s.md.laneReset
  let rt := if keep then s.ringTime else s.now
  let ka := match s.md.ka with
    | some k => some ((k.exit - k.entry) / 1000000000)
    | none => none
  { now := s.now, ringOffset := if keep then s.ringOffset else 0, pending := s.pending, dict := s.keptDict, pm := s.pm, out := s.out,
    trngCount := s.trngCount
    ident := { lastFrame := s.now, scanSince := s.now }
    md := {
      mode := .startup, started := true, keepMaint := s.md.keepMaint, permitEnd := if keep then s.md.permitEnd else none,
      terminalLatch := s.md.terminalLatch, powerTimerEnd := s.md.powerTimerEnd, latchTimedOut := s.md.latchTimedOut, aux24 := s.md.aux24,
      holdup := s.md.holdup, kaByWake := s.md.kaByWake, ka := s.md.ka, safeCarried := s.md.safeCarried }
    tm := if keep then { s.tm with comps := [], fired := [], shadows := [] } else {}
    meas := { h1Fenced := !r.h1Ok, h2Fenced := !r.h2Ok, powered := true, winStart := rt }
    aux := { routineAt := rt, hostRegAt := rt }
    itg := { roundStart := rt, nextAt := s.now }
    est := { breaks := s.est.breaks + 1, startAt := s.now, socDue := s.now, hourAt := rt, activeAt := rt, kaSeconds := ka,
             kaStack := s.est.kaStack }
    lp := { insts := (s.lp.insts.filter (fun e => decide (11 ≤ e.1) && e.2.enabled)).map (fun (e : Nat × LoopInst) => (e.1, { enabled := true })) }
    ring := { downSince := some s.now }
    can := { a := { rates := s.can.a.rates }, b := { rates := s.can.b.rates } }
    px := { log := s.px.log }
    flt := {
      first := if s.md.terminalLatch then s.flt.first.map (fun (x : FirstMove) => { x with carried := true }) else none
      lane := [(0, bitOf (!r.laneA)), (1, bitOf (!r.laneB)), (2, bitOf (!r.laneC))].filter (fun e => e.2 != 0)
      ckptSince := s.now }
    rcd := {
      episodes := s.rcd.episodes.filter (fun e => e.written), hist := s.rcd.histNor, histStaged := s.rcd.histNor, histNor := s.rcd.histNor,
      extremes := s.rcd.extNor, extStaged := s.rcd.extNor, extNor := s.rcd.extNor, scrubStart := s.now, scrubEnd := s.now,
      pmPresent := r.packReadable, skips := s.rcd.skips, day := { since := rt } }
    mgmt := {
      calendar := if r.calendarOk then s.mgmt.calendar else none, roleKeys := s.mgmt.roleKeys, revoked := s.mgmt.revoked, keysOk := r.keysOk,
      slotA := s.mgmt.slotA, slotB := s.mgmt.slotB, activeB := s.mgmt.activeB, update := { s.mgmt.update with buffered := [] },
      lastRejected := s.mgmt.lastRejected, usb := s.mgmt.usb, calAt := s.mgmt.calAt } }

/-- The two buses listen at their rates (R515): those of the pack memory where it is readable; a bus without BusEnable is off. -/
def State.busesListen (s : State) : State :=
  let st := fun (b : Bus) => if s.flag Obj.busEnable b.idx then CanState.listening else CanState.off
  let rates := fun (b : Bus) => if s.rcd.pmPresent then s.ownRates b else (s.bus b).rates
  (s.setBus .ctlA { s.can.a with st := st .ctlA, rates := rates .ctlA }).setBus .ctlB { s.can.b with st := st .ctlB, rates := rates .ctlB }

/-- The capacity record read at start-up (R382, R401, R404): learned capacities, or NOCAP with its source. -/
def State.readCapacity (s : State) : State :=
  match s.recordInForce true with
  | some (_, b) =>
    let cells : KMap EstCell := (List.range 24).map (fun k => (k + 1, { cap := ((fieldAt (4 + 2 * k) 2 b : Nat) : Rat) / 100 }))
    { s with est := { s.est with cells := cells, learns := fieldAt 52 2 b } }.setBytes Obj.capRecordInForce b
  | none => { s with est := { s.est with noCap := true } }.raise 0x53

/-- The carried fault record at start-up (R143, R589, R700): latched again as first move where CARRY is set, or CARRY cleared where the
power-cycle timer has run out. -/
def State.readCarried (s : State) : State :=
  if s.md.latchTimedOut then { s.clearCarry with md := { s.clearCarry.md with latchTimedOut := false } }
  else match s.carryInForce with
    | some (_, b) =>
      if fieldAt 6 1 b % 2 = 1 then
        { s with
          flt := { s.flt with first := some { source := fieldAt 4 1 b, severity := fieldAt 5 1 b, time := fieldAt 8 8 b, carried := true } }
          md := { s.md with safeCarried := true } }
      else s
    | none => s

/-- Step 7 of R122: pack memory read (R29, R34, R124, R404, R654, R700), or defaults and the pack-memory source. -/
def State.readPack (s : State) : State :=
  let b := s.pmRead 0 256
  if !s.rcd.pmPresent then (s.readCapacity).raise 0x19
  else
    let s := { s with dict := s.loadParams s.dict }.paramVersion
    let s := match s.candidate with
      | some (_, d) => s.setDesc d
      | none => s
    let s := (s.readCapacity).readCarried
    if identityValid b then
      ({ s with rcd := { s.rcd with packOk := true } }.setNat Obj.ownPackId (fieldAt 4 8 b)).setNat Obj.packIdentity (fieldAt 4 8 b)
    else s.raise 0x19

/-- What the self-test and the later steps raise (R124, R575, R591, R662, R671): voter, collector, ports, key store, calendar, hold-up
store. DEDUCED, log entry 44. -/
def State.startSources (s : State) (r : StartRec) : State :=
  let s := if r.fcuOk then s else s.raise 0x00
  let s := if r.voterOk then s else s.raise 0x07
  let s := if r.capacitance < 800 then s.raise 0x1F else s
  let s := if r.portLock then s else s.raise 0x60
  let s := if r.keysOk then s else s.raise 0x95
  if s.mgmt.calendar = none then s.raise 0x99 else s

/-- Whether a start of a slot in trial fails (R682): a fenced lane, or one of the sources that count. -/
def trialFails (r : StartRec) : Bool :=
  !r.laneA || !r.laneB || !r.laneC || !r.voterOk || !r.fcuOk || !r.keysOk

/-- Steps 5 to 9 of R122 from a slot that has passed step 4. DEDUCED, log entry 44. -/
def State.startSteps (s : State) (r : StartRec) (srcs : List Nat) : State :=
  let s := (s.released r).trialPass
  let s := (s.setRat Obj.holdupCapacitance (r.capacitance / 1000000)).setNat Obj.startDuration (min r.duration 65535)
  let s := s.readPack
  let s := srcs.foldl (fun (st : State) k => st.raise k) s
  let s := (s.startSources r).busesListen
  let s := s.settle s.cells false s.ringTime
  if s.activeSlot.state = 3 && trialFails r then s.laneRestart else s

/-- START_UP (R122 to R124, R684, R687): steps 3 to 9 of the start from AUX24, with what they find; without a slot that passes, the USB
port alone serves. -/
def execStartUp (t : Nat) (r : StartRec) (s : State) : Host.Outcome State Fault Refusal :=
  let s := s.tick t
  if s.md.mode ≠ .startup ∨ s.md.started then .next s
  else
    let s := if s.md.laneReset then s.finishJobs else s
    match s.chooseSlot r.slotA r.slotB with
    | some (s', srcs) => .next (s'.startSteps r srcs)
    | none =>
      let s := s.released r
      .next { s with md := { s.md with mode := .recovery, started := false, recovery := true } }

/-- The KEEPALIVE record handed to the recorder (R137, R630, R631): its episode, and the extremes with bit 63 of their time set.
DEDUCED, log entry 45. -/
def State.handKa (s : State) : State :=
  match s.md.ka with
  | none => s
  | some k =>
    let time := k.exit % 2 ^ 63 + 2 ^ 63
    let m := (k.cellMin ++ k.cellMax).foldl (fun (m : KMap Extreme) e => KMap.set m e.1 (mergeExtreme (findKey m e.1) e.2 time)) s.rcd.extremes
    let s := { s with rcd := { s.rcd with extremes := m }, md := { s.md with ka := none } }
    s.episode 4 k.firstTrip 0 ((k.exit - k.entry) / 1000000000 : Nat)

/-- The episodes of a start-up (R131, R631). DEDUCED, log entry 46. -/
def State.startEpisodes (s : State) : State :=
  let s := s.handKa
  let s := if s.rcd.skips = 0 then s else s.episode 8 s.rcd.skips 0 0
  let s := { s with rcd := { s.rcd with skips := 0 } }
  s.episode 10 (s.nat Obj.startSource) 0 (s.nat Obj.startDuration)

/-- The buses at module ready (R45, R48, R515): CTL-A in the pre-enumeration format for the election; a module that has heard a head
meanwhile stays at the string's rates and joins late. -/
def State.joinString (s : State) : State :=
  let up := fun (x : BusSt) => if x.st = .listening then { x with st := CanState.active } else x
  if s.ident.phase = .lateJoin then { s with can := { s.can with a := up s.can.a, b := up s.can.b } }
  else { s with can := { s.can with a := { up s.can.a with rates := { nominal := 1, data := 4, triple := false } } } }.beginElection

/-- The mode a start-up ends in (R118, R120, R143, R582, R681). -/
def State.readyMode (s : State) : Mode :=
  if s.md.safeCarried || s.md.terminalLatch || s.severeActive || !s.minSet then .safe
  else if s.md.keepMaint && s.md.permitEnd.isSome then .maintenance
  else .standby

/-- MODULE_READY (R118, R122 step 10, R129, R265, R582, R621, R682, R706): HoldupRemaining, in 0.1 ms, covers 20 ms. -/
def execModuleReady (t holdup : Nat) (s : State) : Host.Outcome State Fault Refusal :=
  let s := (s.tick t).setNat Obj.holdupRemaining holdup
  if s.md.mode ≠ .startup ∨ !s.md.started ∨ s.md.holdup ≠ 0 ∨ holdup < 200 then .next s
  else
    let lost := !s.minSet
    let s := if lost then { s with flt := { s.flt with minSetLost := true } }.raise 0x04 else s
    if lost && s.activeSlot.state == 3 then .next s.laneRestart
    else
      let m := s.readyMode
      let s := { s with md := { s.md with safeCarried := false, keepMaint := false, laneReset := false } }
      let s := (s.startEpisodes.enterMode m 0).fastRound
      let s := { s with mgmt := { s.mgmt with trialSince := if s.activeSlot.state = 3 then some s.now else none } }
      let s := s.sentWanted.foldl (fun (st : State) k => st.sentSupplyOn k) s
      .next s.joinString.afterTrigger

end Sys2Proof.Machine
end

