-- ==== Sys2Proof/Machine/Writes.lean ====
section
/-! DEFINITION. What a write of each object of the dictionary does (R15, R25, R219, R222, R238, R250, R309, R325, R356, R368, R504,
R538, R541, R611, R617, R620, R643): the conditions of its chapter, its effect, and what follows once pack memory holds it. -/
namespace Sys2Proof.Machine

/-- A write accepted where a condition holds, then passed to pack memory (R541). -/
def deferIf (ok : Bool) : PxEffect := fun _ => if ok then .defer else .refuse pxRange

/-- The F32 that the bytes of a write carry. -/
def f32Data (d : Bytes) : Rat := f32Val (BitVec.ofNat 32 (leNat d))

/-- The comparator of the host regular sequence: lane A stands for the lanes, which run alike (R171, R569). It is armed while
HostRegTrigger is 2 (R227). -/
def State.hostRegArm (s : State) (mode frac : Nat) : Option State :=
  if mode = 2 then s.armAngle (.lane .laneA) .hostReg true frac else some (s.disarmAngle (.lane .laneA) .hostReg)

/-- A state with a number stored, or the refusal of a seventeenth comparator (R174). -/
def armed (r : Option State) (o : ObjDef) (v j : Nat) : PxResult :=
  match r with | some s => .ok (s.setNat o v 0 j) | none => .refuse pxBusy

/-- A write of HostRegTrigger or HostRegAngle (R171, R174, R227). DEDUCED, log entry 75. -/
def hostRegEffect (angle : Bool) (v : Nat) : PxEffect := fun s =>
  if angle then armed (s.hostRegArm (s.nat Obj.hostRegTrigger) v) Obj.hostRegAngle v 0
  else armed (s.hostRegArm v (s.nat Obj.hostRegAngle)) Obj.hostRegTrigger v 0

/-- Whether a sequence entry may be stored (R219, R223): a listed channel, a listed shift, ACQ from 4 where it converts.
DEDUCED, log entry 76. -/
def entryOk (w : Nat) : Bool :=
  auxChannel (bitsOf 30 24 w) && decide (bitsOf 7 4 w ≤ 8) && (bitsOf 31 31 w == 0 || decide (4 ≤ bitsOf 23 16 w))

/-- A write of a sequence entry (R219, R223): bits 2 to 0 read 0. DEDUCED, log entry 76. -/
def entryEffect (o : ObjDef) (j w : Nat) : PxEffect := fun s =>
  if entryOk w then .ok (s.setNat o (w / 8 * 8) 0 j) else .refuse pxRange

/-- The absolute angle whose low 30 bits a one-shot InjTrigger gives (R172, R227): the nearest one ahead of now. DEDUCED, log entry 75. -/
def State.injAngle (s : State) (a : Nat) : Nat :=
  let now := s.angle.getD 0
  (now + ((a + 2 ^ 30) - now % 2 ^ 30) % 2 ^ 30) % 2 ^ 32

/-- A write of InjTrigger of IS3 or IS4 (R171, R172, R174, R227): off, one-shot, every turn, or now. DEDUCED, log entry 75. -/
def injEffect (j v : Nat) : PxEffect := fun s =>
  let u : AngleUser := if j = 0 then .is3 else .is4
  match bitsOf 31 30 v with
  | 1 => armed (s.armAngle (.lane .laneA) u false (s.injAngle (bitsOf 29 0 v))) Obj.injTrigger v j
  | 2 => armed (s.armAngle (.lane .laneA) u true (bitsOf 15 0 v)) Obj.injTrigger v j
  | 3 => .ok (((s.disarmAngle (.lane .laneA) u).signalUser u).setNat Obj.injTrigger v 0 j)
  | _ => .ok ((s.disarmAngle (.lane .laneA) u).setNat Obj.injTrigger v 0 j)

/-- A write of QueueSize (R474): a power of two, while the queue is empty and its producer stopped. -/
def queueSizeEffect (i v : Nat) : PxEffect := fun s =>
  if !([16, 32, 64, 128, 256, 512, 1024].contains v) then .refuse pxRange
  else if s.queueFilledOf i ≠ 0 ∨ i ∉ s.ring.stopped then .refuse pxState
  else .ok (s.setNat Obj.queueSize v i)

/-- The `k`-th F32 of a byte string. -/
def f32Nth (d : Bytes) (k : Nat) : BitVec 32 := f32At (4 * k) d

/-- Whether a RampConfig is in range: finite, MIN not above MAX, no negative slew, DWELL 0 to 60 s. -/
def rampOk (d : Bytes) : Bool :=
  (List.range 5).all (fun k => f32Finite (f32Nth d k)) && decide (f32Val (f32Nth d 0) ≤ f32Val (f32Nth d 1))
    && decide (0 ≤ f32Val (f32Nth d 2)) && decide (0 ≤ f32Val (f32Nth d 3)) && decide (0 ≤ f32Val (f32Nth d 4))
    && decide (f32Val (f32Nth d 4) ≤ 60)

/-- A write of RampConfig or FailOutput (R435, R538): instances 7 to 9 hold them in pack memory. -/
def loopDataEffect (o : ObjDef) (i j : Nat) (ok : Bool) (d : Bytes) : PxEffect := fun s =>
  if !ok then .refuse pxRange else if i ≤ 9 then .defer else storeValue o i j d s

/-- The least SentTimeout in ms that a channel's options allow (R620). -/
def State.sentFloor (s : State) (i : Nat) : Nat :=
  let nib := s.nat Obj.dataNibbles i
  let ticks := 56 + 27 * (nib + 2) + 768 * s.nat Obj.pauseMode i
  (5 / 2 * ((ticks : Nat) : Rat) * s.rat Obj.tickNominal i / 1000).ceil.toNat

/-- A write of a SENT frame option (R611, R617): only while the channel is off. -/
def sentOptionEffect (i : Nat) (ok : Bool) : PxEffect := fun s =>
  if s.flag Obj.sentEnable i then .refuse pxState else if ok then .defer else .refuse pxRange

/-- A write of ShuntResistance or ShortCircuitLevel (R325): both conditions hold with the two values. -/
def shortCircuitEffect (shunt level : Rat) : PxEffect := fun s =>
  deferIf (decide (level * shunt ≤ 95 / 100 * (75 / 1000)) && decide (s.rat Obj.overcurrentTrip < level)) s

/-- A write of a KEEPALIVE threshold (R154), given all four. -/
def kaEffect (ov uv hi lo : Rat) : PxEffect := deferIf (decide (uv + 1 / 2 ≤ ov) && decide (lo + 20 < hi || lo + 20 = hi))

/-- A write of PackUserArea at an offset (R652, R655): transfers of the lowest rank. -/
def userAreaEffect (off : Nat) (d : Bytes) : PxEffect := fun s =>
  if s.rcd.pmPresent then .ok (s.pmJobs 7 (0x20000 + off) d) else .refuse pxStorage

/-- A write of one row of the dictionary: the request, the element, the offset in an offset-addressed DOMAIN, the value's bytes. -/
abbrev WriteRule := PxReq → Nat → Nat → Nat → Bytes → PxEffect

/-- Writes of chapters 1 to 6. -/
def writes1 : List (ObjDef × WriteRule) := [
  (Obj.stageStandbyPack, fun _ _ _ _ d s =>
    if leNat d ≠ 0 ∧ leNat d = s.nat Obj.stageHeadPack then .refuse pxRange else .ok (s.setNat Obj.stageStandbyPack (leNat d))),
  (Obj.stageFlags, fun _ _ _ _ d s => .ok { s.setNat Obj.stageFlags (leNat d) with ident := { s.ident with stageFlagsWritten := true } }),
  (Obj.descCommit, fun _ _ _ _ _ => commitEffect),
  (Obj.adoptPack, fun _ _ _ _ d => adoptEffect (leNat d)),
  (Obj.descErase, fun _ _ _ _ _ => descEraseEffect),
  (Obj.populatedCells, fun _ _ _ _ _ => populatedCellsEffect),
  (Obj.maintPermit, fun _ _ _ _ d => maintPermitEffect (leNat d)),
  (Obj.safeExit, fun _ _ _ _ _ => safeExitEffect),
  (Obj.shipArm, fun _ _ _ _ d => shipArmEffect (leNat d)),
  (Obj.kaCellOverVoltage, fun _ _ _ _ d s => kaEffect (f32Data d) (s.rat Obj.kaCellUnderVoltage) (s.rat Obj.kaTempHigh) (s.rat Obj.kaTempLow) s),
  (Obj.kaCellUnderVoltage, fun _ _ _ _ d s => kaEffect (s.rat Obj.kaCellOverVoltage) (f32Data d) (s.rat Obj.kaTempHigh) (s.rat Obj.kaTempLow) s),
  (Obj.kaTempHigh, fun _ _ _ _ d s => kaEffect (s.rat Obj.kaCellOverVoltage) (s.rat Obj.kaCellUnderVoltage) (f32Data d) (s.rat Obj.kaTempLow) s),
  (Obj.kaTempLow, fun _ _ _ _ d s => kaEffect (s.rat Obj.kaCellOverVoltage) (s.rat Obj.kaCellUnderVoltage) (s.rat Obj.kaTempHigh) (f32Data d) s),
  (Obj.crossingStatus, fun _ _ _ _ d s => .ok (s.setNat Obj.crossingStatus (s.nat Obj.crossingStatus &&& (0xFFFF ^^^ leNat d)))),
  (Obj.hostRegTrigger, fun _ _ _ _ d => hostRegEffect false (leNat d)),
  (Obj.hostRegAngle, fun _ _ _ _ d => hostRegEffect true (leNat d)),
  (Obj.hostRegStart, fun _ _ _ _ _ => hostRegStartEffect),
  (Obj.hostRegEntry, fun _ _ j _ d => entryEffect Obj.hostRegEntry j (leNat d)),
  (Obj.injTrigger, fun _ _ j _ d => injEffect j (leNat d)),
  (Obj.injEntry, fun _ _ j _ d => entryEffect Obj.injEntry j (leNat d)),
  (Obj.minAcq, fun _ _ j _ d s =>
    if leNat d < [12, 82, 16, 16, 16].getD j 0 then .refuse pxRange else .ok (s.setNat Obj.minAcq (leNat d) 0 j))]

/-- Writes of chapters 7 to 11. -/
def writes2 : List (ObjDef × WriteRule) := [
  (Obj.balLease, fun _ _ _ _ d s => deferIf (decide (s.nat Obj.balPlanPeriod * 2 ≤ leNat d * 1000)) s),
  (Obj.balPlanPeriod, fun _ _ _ _ d s => deferIf (decide (leNat d * 2 ≤ s.nat Obj.balLease * 1000)) s),
  (Obj.balPlanRecord, fun q _ _ _ d => planEffect q d),
  (Obj.shuntResistance, fun _ _ _ _ d s => shortCircuitEffect (f32Data d) (s.rat Obj.shortCircuitLevel) s),
  (Obj.shortCircuitLevel, fun _ _ _ _ d s => shortCircuitEffect (s.rat Obj.shuntResistance) (f32Data d) s),
  (Obj.isoWarn, fun _ _ _ _ d s => deferIf (decide (s.rat Obj.isoAlarm < f32Data d)) s),
  (Obj.isoAlarm, fun _ _ _ _ d s => deferIf (decide (f32Data d < s.rat Obj.isoWarn)) s),
  (Obj.contactorCommand, fun _ _ _ _ d => contactorEffect (leNat d)),
  (Obj.tripReset, fun _ _ _ _ _ => tripResetEffect),
  (Obj.ocvTable, fun _ _ _ _ d => deferIf (ocvOk d || d.all (fun b => b == 0))),
  (Obj.sdWarn, fun _ _ _ _ d s => deferIf (decide (f32Data d < s.rat Obj.sdAlarm)) s),
  (Obj.sdAlarm, fun _ _ _ _ d s => deferIf (decide (s.rat Obj.sdWarn < f32Data d)) s),
  (Obj.loopEnable, fun _ i _ _ d => loopEnableEffect i (leNat d)),
  (Obj.bankA, fun _ i _ _ d => bankEffect i false d),
  (Obj.bankB, fun _ i _ _ d => bankEffect i true d),
  (Obj.bankRequest, fun _ i _ _ d => bankRequestEffect i (leNat d)),
  (Obj.inputBind, fun _ i _ _ d => inputBindEffect i d),
  (Obj.outputBind, fun _ i _ _ d => outputBindEffect i d),
  (Obj.setpoint, fun _ i j _ d => setpointEffect i j (BitVec.ofNat 32 (leNat d))),
  (Obj.rampConfig, fun _ i j _ d => loopDataEffect Obj.rampConfig i j (rampOk d) d),
  (Obj.failOutput, fun _ i j _ d => loopDataEffect Obj.failOutput i j ((List.range 4).all (fun k => f32Finite (f32Nth d k))) d)]

/-- Writes of chapters 12 to 16. -/
def writes3 : List (ObjDef × WriteRule) := [
  (Obj.censusRequest, fun _ _ _ _ _ => censusRequestEffect),
  (Obj.queueSize, fun _ i _ _ d => queueSizeEffect i (leNat d)),
  (Obj.tripleSample, fun _ i _ _ d s => deferIf (leNat d == 0 || s.nat Obj.nominalRate i == 0) s),
  (Obj.busRecover, fun _ i _ _ _ => recoverEffect (if i = 0 then .ctlA else .ctlB)),
  (Obj.pointLimits, fun _ _ _ _ d => deferIf (f32Finite (f32Nth d 0) && f32Finite (f32Nth d 1) && decide (f32Val (f32Nth d 0) ≤ f32Val (f32Nth d 1)))),
  (Obj.handoverCommand, fun _ _ _ _ _ => handoverEffect),
  (Obj.firstMoveClear, fun _ _ _ _ _ => firstMoveEffect),
  (Obj.faultPending, fun _ _ j _ d => pendingEffect j (leNat d)),
  (Obj.severity, fun _ _ j _ d => severityEffect j (leNat d)),
  (Obj.tickNominal, fun _ i _ _ _ => sentOptionEffect i true),
  (Obj.dataNibbles, fun _ i _ _ d s => sentOptionEffect i (decide (s.nat Obj.fast1Bits i ≤ 4 * leNat d)) s),
  (Obj.pauseMode, fun _ i _ _ _ => sentOptionEffect i true),
  (Obj.crcVariant, fun _ i _ _ _ => sentOptionEffect i true),
  (Obj.serialFormat, fun _ i _ _ _ => sentOptionEffect i true),
  (Obj.fast1Bits, fun _ i _ _ d s => deferIf (decide (leNat d ≤ 4 * s.nat Obj.dataNibbles i)) s),
  (Obj.sentTimeout, fun _ i _ _ d s => deferIf (decide (s.sentFloor i ≤ leNat d)) s)]

/-- Writes of chapters 17 and 18. -/
def writes4 : List (ObjDef × WriteRule) := [
  (Obj.recClear, fun q _ _ _ d => recClearEffect q (leNat d)),
  (Obj.voltRangeLow, fun _ _ _ _ d s => deferIf (s.rangeOk .voltLow (BitVec.ofNat 32 (leNat d))) s),
  (Obj.voltRangeHigh, fun _ _ _ _ d s => deferIf (s.rangeOk .voltHigh (BitVec.ofNat 32 (leNat d))) s),
  (Obj.captureTrigger, fun _ _ _ _ _ s => .ok (s.captureTrigger 1 s.nodeId 0 s.ringTime true).auxStart),
  (Obj.capturePreTime, fun _ _ _ _ d s => deferIf (decide (leNat d + s.nat Obj.capturePostTime ≤ 3200)) s),
  (Obj.capturePostTime, fun _ _ _ _ d s => deferIf (decide (leNat d + s.nat Obj.capturePreTime ≤ 3200)) s),
  (Obj.captureReadout, fun _ _ _ _ d => captureReadoutEffect d),
  (Obj.captureRelease, fun _ _ _ _ d => captureReleaseEffect (leNat d)),
  (Obj.captureAngle, fun _ _ _ _ d => captureAngleEffect (leNat d)),
  (Obj.packIdentity, fun _ _ _ _ d => packIdentityEffect (leNat d)),
  (Obj.packUserArea, fun _ _ _ off d => userAreaEffect off d),
  (Obj.calendarSet, fun _ _ _ _ d => calendarEffect d),
  (Obj.sessionOpen, fun q _ _ _ d => sessionOpenEffect q d),
  (Obj.sessionClose, fun q _ _ _ d => sessionCloseEffect q (leNat d)),
  (Obj.roleKeyWrap, fun q _ _ _ d => roleKeyEffect q d),
  (Obj.signingKeyRevoke, fun _ _ _ _ d => revokeEffect (leNat d)),
  (Obj.updateManifest, fun _ _ _ _ d => manifestEffect d),
  (Obj.updateImage, fun _ _ _ off d s => if off % 4096 = 0 then imageEffect (off / 4096) d s else .refuse pxRange),
  (Obj.updateActivate, fun _ _ _ _ _ => activateEffect),
  (Obj.updateAbort, fun _ _ _ _ _ => abortEffect),
  (Obj.calStart, fun _ _ _ _ _ => calStartEffect),
  (Obj.calTurnsPerChannel, fun _ i j _ d s =>
    if leNat d % 2 = 1 then .refuse pxRange else storeValue Obj.calTurnsPerChannel i j d s),
  (Obj.calAbort, fun _ _ _ _ _ => calAbortEffect)]

/-- Every write with conditions or effects of its own. -/
def writeRules : List (ObjDef × WriteRule) := writes1 ++ writes2 ++ writes3 ++ writes4

/-- A write of a legacy register (R240, R250, R251). -/
def legacyEffect (dev r v : Nat) : PxEffect := fun s =>
  if r = 0x3F then balctrlEffect dev v s
  else if bitsOf 7 0 v = 0 then .refuse pxRange
  else .ok (s.setDev dev { s.dev dev with window := bitsOf 7 0 v, en := bitsOf 8 8 v == 1 })

/-- The checks and effect of a write of an object (R538 to R541): its own rule, the protection set's (R356), pack memory for an RWP
object, plain storing. -/
def effectOf (q : PxReq) (o : ObjDef) (i j off : Nat) (d : Bytes) : PxEffect := fun s =>
  if 0xB000 ≤ o.index ∧ o.index < 0xB200 then legacyEffect ((o.index - 0xB000) / 256) (o.index % 256) (leNat d) s
  else match writeRules.find? (fun e => e.1.index == o.index && e.1.sub == o.sub) with
  | some e => e.2 q i j off d s
  | none =>
    match protAt (o.index + i) (o.sub + j) with
    | some (p, k) => protEffect p k (s.pxHeadCopy q) d s
    | none => if o.access == .rwp then .defer else storeValue o i j d s

/-- Whether a row of the dictionary is the object `x`. -/
def isObj (o x : ObjDef) : Bool := o.index == x.index && o.sub == x.sub

/-- The thermal instances that a new ThermalMode leaves disabled (R442). -/
def State.thermalDrop (s : State) : State :=
  [7, 8, 9].foldl (fun (st : State) i => if st.instOn i then st else st.setInst i { st.inst i with enabled := false }) s

/-- A change of the own limits (R565): the head knows it at once, another module will report it. -/
def State.limitsChanged (s : State) (p : Nat) (d : Bytes) : State :=
  if s.isHead then { s with px := { s.px with limits := KMap.set s.px.limits (s.nodeId * 64 + p) (f32Nth d 0, f32Nth d 1) } }
  else { s with px := { s.px with limitsDue := setInsert s.px.limitsDue p } }

/-- What a stored RWP write sets going (R85, R193, R326, R337, R356, R442, R529, R565, R621, R629). -/
def State.rwpFollow (s : State) (r : RwpPending) (o : ObjDef) (i j : Nat) : State :=
  if isObj o Obj.sentEnable then s.sentEnabled (i + 1) (leNat r.data == 1)
  else if isObj o Obj.thermalMode then s.thermalDrop
  else if isObj o Obj.isoMode then s.isoGate
  else if isObj o Obj.currentPrimary then s.selectChannel
  else if isObj o Obj.busEnable then s.busEnableApply (if i = 0 then .ctlA else .ctlB) (leNat r.data == 1)
  else if isObj o Obj.voltRangeLow || isObj o Obj.voltRangeHigh then s.rangeCleared false r.role r.q.session
  else if isObj o Obj.currentSpan then s.rangeCleared true r.role r.q.session
  else if isObj o Obj.pointLimits then s.limitsChanged j r.data
  else if isObj o Obj.precisionAveraging then
    (if s.isHead then { s with tm := { s.tm with mDue := true } } else s)
  else match protAt (o.index + i) (o.sub + j) with
  | some (p, k) => if s.isHead then s.sendWrite .eastAll p 0 k else s
  | none => s

/-- A stored RWP write takes effect (R541): PopulatedCells waits for its boundary (R85). -/
def State.rwpApply (s : State) (r : RwpPending) (o : ObjDef) (i j : Nat) : State :=
  let s := s.paramStore o i j r.data
  if isObj o Obj.populatedCells then { s with supply := { s.supply with popPending := some (leNat r.data) } }
  else (s.setVal o (Val.decode o.ty r.data) i j).rwpFollow r o i j

end Sys2Proof.Machine
end

