-- ==== Sys2Proof/Machine/Params.lean ====
section
/-! DEFINITION. Parameter Exchange at work (R537 to R568, R691): expedited reads and writes, block transfers, pack-memory completion,
the head's copies of publication areas, the directory, change-log copies, and the USB framing. -/
namespace Sys2Proof.Machine

/-- Whether a frame with this much service data is taken at all (R544): DATA at most 32 bytes, AUTH of 8 in a session. -/
def frameOk (q : PxReq) (data : Bytes) : Bool := decide (data.length ≤ 32) && (q.session == 0 || q.auth.length == 8)

/-- A frame discarded without a response (R544). -/
def State.pxDiscard (s : State) (q : PxReq) : State := if s.pxHears q then s.bump Obj.pxErrors else s

/-- A distribution is taken from square 0 by a module that is not head (R557). -/
def State.distOk (s : State) (q : PxReq) : Bool := q.path != .dist || (!s.isHead && q.origin == 0)

/-- Objects that no read gives though they may be written: WO, and those whose table refuses reads (R540, R648, R661, R672, R677). -/
def noRead (o : ObjDef) : Bool :=
  o.access == .wo || isObj o Obj.calendarSet || isObj o Obj.roleKeyWrap || isObj o Obj.updateImage || isObj o Obj.captureReadout

/-- The result code of a read for a role (R539, R540, R687), 0 where it is given. -/
def State.readCode (s : State) (o : ObjDef) (i role : Nat) : Nat :=
  if !s.available (o.index + i) then pxState
  else if noRead o then pxAccess
  else if isObj o Obj.sessionList && decide (role < 3) then pxNotAuth
  else 0

/-- The shadow of a 64-bit object latched for each lane that serves the read (R548, R558). -/
def State.latchLanes (s : State) (o : ObjDef) (i j : Nat) : State :=
  if wide64 o then
    [Master.laneA, .laneB, .laneC].foldl (fun (st : State) m =>
      if st.masterRuns m then st.latchShadow m (o.index + i) (o.sub + j) (st.liveBytes o i j) else st) s
  else s

/-- A READ of an object (R539, R540, R545, R547, R549, R558, R664): objects above 32 bytes need a block read. DEDUCED, log entry 69. -/
def State.pxReadOp (s : State) (q : PxReq) (index sub : Nat) : State :=
  if !s.pxHears q || !s.distOk q then s
  else if !frameOk q [] then s.pxDiscard q
  else match s.objAt index sub with
  | none => s.pxMissing q 0x01 index sub 0 []
  | some (o, i, j) =>
    match s.pxDuplicate q 0x01 index sub o.ty.code [] with
    | some e => (s.bump Obj.pxDuplicates).pxSend q.path q.node q.origin 2 e.frame
    | none => match s.pxAuthorise q 0x01 index sub o.ty.code [] with
      | none => (s.authFailure q).pxAnswer q 0x01 pxNotAuth index sub o.ty.code 0 []
      | some (role, counter) =>
        let s := (s.pxAccept q counter).bump Obj.pxRequests
        let code := s.readCode o i role
        let no := fun (st : State) (c : Nat) => st.pxAnswer q 0x01 c index sub o.ty.code counter []
        if code = pxNotAuth then no (s.authFailure q) code
        else if code ≠ 0 then no s code
        else if 32 < o.ty.size then no s pxType
        else if isObj o Obj.sessionChallenge then
          let c := s.newChallenge q
          c.2.pxAnswer q 0x01 0 index sub o.ty.code counter (leBytes 8 c.1)
        else
          let b := s.liveBytes o i j
          (s.latchLanes o i j).pxAnswer q 0x01 0 index sub o.ty.code counter b

/-- PX_READ (R539, R547). -/
def execPxRead (t : Nat) (q : PxReq) (index sub : Nat) (s : State) : Host.Outcome State Fault Refusal :=
  .next ((s.tick t).pxReadOp q index sub)

/-- An expedited WRITE of any object (R538 to R541, R551): objects with rows of their own have the same effect by either row. -/
def State.pxWriteOp (s : State) (q : PxReq) (index sub ty : Nat) (data : Bytes) : State :=
  if !s.distOk q then s
  else if !frameOk q data then s.pxDiscard q
  else match s.objAt index sub with
  | none => s.pxMissing q 0x02 index sub ty data
  | some (o, i, j) =>
    let s' := s.pxWriteOld q o i j ty data (s.liveBytes o i j) (effectOf q o i j 0 data)
    if isObj o Obj.updateActivate && s.nat Obj.updateState == 4 && s'.nat Obj.updateState == 5 then s'.dropRwa else s'

/-- PX_WRITE (R538, R540, R541, R547). -/
def execPxWrite (t : Nat) (q : PxReq) (index sub : Nat) (v : PxValue) (s : State) : Host.Outcome State Fault Refusal :=
  .next ((s.tick t).pxWriteOp q index sub v.ty v.data)

/-- REGISTER_WRITE (R194, R442, R538): the write of an object that has no row of its own. -/
def execRegisterWrite (t : Nat) (q : PxReq) (index sub : Nat) (v : PxValue) (s : State) : Host.Outcome State Fault Refusal :=
  let s := s.tick t
  .next (s.pxWriteOp q index sub v.ty v.data)

/-- RWP_WRITE_DONE (R541, R654): the oldest RWP write has its copy read back, or cannot have it. -/
def execRwpWriteDone (t : Nat) (ok : Bool) (s : State) : Host.Outcome State Fault Refusal :=
  let s := s.tick t
  match s.px.rwp with
  | [] => .next s
  | r :: rest =>
    let s := { s with px := { s.px with rwp := rest } }
    match s.objAt r.index r.sub with
    | none => .next s
    | some (o, i, j) =>
      let old := s.liveBytes o i j
      if ok && s.rcd.pmPresent then
        .next ((s.rwpApply r o i j).pxFinish r.q o i j r.key.service r.role r.counter 0 old r.data)
      else .next (s.pxFinish r.q o i j r.key.service r.role r.counter pxStorage old old)

/-- Offset-addressed objects (R538, R568, R677; EpisodeList: DEDUCED, log entry 40). -/
def byOffset (o : ObjDef) : Bool :=
  isObj o Obj.changeLog || isObj o Obj.packUserArea || isObj o Obj.updateImage || isObj o Obj.episodeList

/-- Objects read live as each segment is sent (R555). -/
def readLive (o : ObjDef) : Bool := isObj o Obj.changeLog || isObj o Obj.pubArea

/-- Bytes of a DOMAIN object from an offset. DEDUCED, log entry 40. DEDUCED, log entry 71. -/
def State.rangeBytes (s : State) (o : ObjDef) (i j off n : Nat) : Bytes :=
  if isObj o Obj.changeLog then s.logBytes off n
  else if isObj o Obj.packUserArea then s.pmRead (0x20000 + off) n
  else if isObj o Obj.updateImage then []
  else sliceBytes off n (s.liveBytes o i j)

/-- Whether a range of an object may be moved as a block (R538, R552). -/
def blockRange (o : ObjDef) (off n : Nat) : Bool :=
  match o.ty with
  | .domain size => decide (1 ≤ n) && decide (n ≤ 4096) && decide (off + n ≤ size) && (byOffset o || (off == 0 && n == size))
  | _ => false

/-- Whether a transfer belongs to a requester (R549, R556). -/
def BlockXfer.isOf (b : BlockXfer) (q : PxReq) : Bool := b.q.path.kind == q.path.kind && b.q.origin == q.origin

/-- The open transfer of a requester with its TID, in a direction. -/
def State.blockOf (s : State) (q : PxReq) (write : Bool) : Option BlockXfer :=
  s.px.blocks.find? (fun b => b.isOf q && b.q.tid == q.tid && b.write == write)

/-- A requester's transfer replaced. -/
def State.setBlock (s : State) (b : BlockXfer) : State :=
  { s with px := { s.px with blocks := s.px.blocks.map (fun (x : BlockXfer) => if x.isOf b.q then b else x) } }

/-- A requester's transfer closed. -/
def State.dropBlock (s : State) (q : PxReq) : State :=
  { s with px := { s.px with blocks := s.px.blocks.filter (fun b => !b.isOf q) } }

/-- Whether no further transfer may be opened (R551, R556). -/
def State.blockBusy (s : State) (q : PxReq) (write : Bool) (index sub : Nat) : Bool :=
  decide (4 ≤ s.px.blocks.length) || s.px.blocks.any (fun b => b.isOf q || (write && b.write && b.index == index && b.sub == sub))

/-- The number of segments of a transfer (R552). -/
def BlockXfer.count (b : BlockXfer) : Nat := (b.size + 31) / 32

/-- A segment in the short layout of R552. -/
def segFrame (tid k : Nat) (d : Bytes) : Bytes :=
  leBytes 1 5 ++ leBytes 1 tid ++ leBytes 1 (8 + d.length) ++ [0] ++ leBytes 2 k ++ [0, 0] ++ d

/-- The bytes of segment `k` of a block read: of the snapshot, or live (R555). -/
def State.segBytes (s : State) (b : BlockXfer) (k : Nat) : Bytes :=
  if b.live then
    match s.objAt b.index b.sub with
    | some (o, i, j) => s.rangeBytes o i j (b.offset + 32 * k) (min 32 (b.size - 32 * k))
    | none => []
  else KMap.get b.segs k []

/-- One segment sent; a block read keeps what it has sent, for the CRC of END. -/
def sendSegment (x : State × BlockXfer) (k : Nat) : State × BlockXfer :=
  let d := x.1.segBytes x.2 k
  (x.1.pxSend x.2.q.path x.2.q.node x.2.q.origin 3 (segFrame x.2.q.tid k d), { x.2 with segs := KMap.set x.2.segs k d })

/-- The counter last accepted in the session of a request. DEDUCED, log entry 70. -/
def State.sessionCounter (s : State) (q : PxReq) : Nat := ((s.session q).map (·.counter)).getD 0

/-- The whole block of a transfer. -/
def BlockXfer.bytes (b : BlockXfer) : Bytes := (List.range b.count).flatMap (fun k => KMap.get b.segs k [])

/-- A frame of the module's own within a transfer. -/
def State.sendInBlock (s : State) (b : BlockXfer) (service code : Nat) (data : Bytes) : State :=
  s.pxSend b.q.path b.q.node b.q.origin 3 (s.pxFrame b.q service code b.index b.sub 11 (s.sessionCounter b.q) data)

/-- What the sender of a block read sends next (R553): segments up to WINDOW beyond NEXT, or END once NEXT is the segment count.
DEDUCED, log entry 70. -/
def State.pumpBlock (s : State) (b : BlockXfer) : State :=
  if b.next = b.count then
    (s.sendInBlock b 7 0 (leBytes 4 (crc32 b.bytes))).setBlock { b with sent := b.count + 1, ackDue := some (s.now + 100000000) }
  else
    let top := min b.count (b.next + 16)
    let x := ((List.range top).filter (fun k => decide (b.sent ≤ k))).foldl sendSegment (s, b)
    x.1.setBlock { x.2 with sent := max b.sent top, ackDue := some (s.now + 100000000) }

/-- A new transfer of a requester. -/
def State.openBlock (s : State) (q : PxReq) (index sub off size : Nat) (write live : Bool) (segs : KMap Bytes) : BlockXfer :=
  { q := q, index := index, sub := sub, write := write, live := live, offset := off, size := size, segs := segs, next := 0, sent := 0,
    resends := 0, lastFrame := s.now, ackDue := none }

/-- The segments of a snapshot (R555). -/
def snapshot (d : Bytes) : KMap Bytes := (List.range ((d.length + 31) / 32)).map (fun k => (k, sliceBytes (32 * k) 32 d))

/-- The SIZE and OFFSET fields of a request to open a transfer (R545). -/
def openData (off size : Nat) : Bytes := leBytes 4 off ++ leBytes 2 size

/-- BLOCK_READ (R545, R553, R555, R556): the grant, then the first window of segments. DEDUCED, log entry 69. -/
def State.blockReadOp (s : State) (q : PxReq) (index sub off size : Nat) : State :=
  if !s.pxHears q || !s.distOk q then s
  else if !frameOk q [] then s.pxDiscard q
  else match s.objAt index sub with
  | none => s.pxMissing q 0x03 index sub 0 (openData off size)
  | some (o, i, j) =>
    match s.pxDuplicate q 0x03 index sub o.ty.code (openData off size) with
    | some e => (s.bump Obj.pxDuplicates).pxSend q.path q.node q.origin 2 e.frame
    | none => match s.pxAuthorise q 0x03 index sub o.ty.code (openData off size) with
      | none => (s.authFailure q).pxAnswer q 0x03 pxNotAuth index sub o.ty.code 0 []
      | some (role, counter) =>
        let s := (s.pxAccept q counter).bump Obj.pxRequests
        let code := s.readCode o i role
        let no := fun (st : State) (c : Nat) => st.pxAnswer q 0x03 c index sub o.ty.code counter []
        if code = pxNotAuth then no (s.authFailure q) code
        else if code ≠ 0 then no s code
        else if !blockRange o off size then no s pxType
        else if s.blockBusy q false index sub then no s pxBusy
        else
          let segs := if readLive o then [] else snapshot (s.rangeBytes o i j off size)
          let b := s.openBlock q index sub off size false (readLive o) segs
          let s := s.pxAnswer q 0x03 0 index sub o.ty.code counter (leBytes 2 size ++ [16])
          { s with px := { s.px with blocks := s.px.blocks ++ [b] } }.pumpBlock b

/-- PX_BLOCK_READ (R553, R555, R556). -/
def execPxBlockRead (t : Nat) (q : PxReq) (index sub offset size : Nat) (s : State) : Host.Outcome State Fault Refusal :=
  .next ((s.tick t).blockReadOp q index sub offset size)

/-- Whether a block write is the head's own transfer of a descriptor (R44, R61, R557; DEDUCED, log entry 14). -/
def State.descXfer (s : State) (q : PxReq) (index sub : Nat) : Bool := s.pxHeadCopy q && index == 0x4001 && sub == 6

/-- A block write opened: WINDOW is granted, but to a distribution, which is not acknowledged (R553, R557). -/
def State.grantWrite (s : State) (q : PxReq) (index sub off size counter : Nat) : State :=
  let b := s.openBlock q index sub off size true false []
  let s := { s with px := { s.px with blocks := s.px.blocks ++ [b] } }
  if q.path == .dist then s else s.pxAnswer q 0x04 0 index sub 11 counter [16]

/-- The result code of opening a block write (R540, R551, R552, R556, R660, R687), 0 where it opens. -/
def State.openCode (s : State) (q : PxReq) (o : ObjDef) (i j role off size : Nat) : Nat :=
  if !s.available (o.index + i) then pxState
  else if !o.access.writable then pxAccess
  else if role < s.rankFor o then pxNotAuth
  else if !blockRange o off size then pxType
  else if s.blockBusy q true (o.index + i) (o.sub + j) then pxBusy
  else 0

/-- BLOCK_WRITE (R551, R553, R556). -/
def State.blockWriteOp (s : State) (q : PxReq) (index sub off size : Nat) : State :=
  if !s.pxHears q || !s.distOk q then s
  else if !frameOk q [] then s.pxDiscard q
  else if s.descXfer q index sub then
    (if off ≠ 0 ∨ size ≠ 128 ∨ s.blockBusy q true index sub then s.pxAnswer q 0x04 (if off = 0 ∧ size = 128 then pxBusy else pxType) index sub 11 0 []
     else (s.bump Obj.pxRequests).grantWrite q index sub off size 0)
  else match s.objAt index sub with
  | none => s.pxMissing q 0x04 index sub 0 (openData off size)
  | some (o, i, j) =>
    match s.pxDuplicate q 0x04 index sub o.ty.code (openData off size) with
    | some e => (s.bump Obj.pxDuplicates).pxSend q.path q.node q.origin 2 e.frame
    | none =>
      let old := s.liveBytes o i j
      match s.pxAuthorise q 0x04 index sub o.ty.code (openData off size) with
      | none => (s.authFailure q).pxFinish q o i j 0x04 0 0 pxNotAuth old old
      | some (role, counter) =>
        let s := (s.pxAccept q counter).bump Obj.pxRequests
        if !s.mgmt.running then s.pxAnswer q 0x04 pxBusy index sub o.ty.code counter []
        else
          let code := s.openCode q o i j role off size
          if code = pxNotAuth then (s.authFailure q).pxFinish q o i j 0x04 role counter code old old
          else if code ≠ 0 then s.pxFinish q o i j 0x04 role counter code old old
          else s.grantWrite q index sub off size counter

/-- PX_BLOCK_WRITE (R551, R553, R556). -/
def execPxBlockWrite (t : Nat) (q : PxReq) (index sub offset size : Nat) (s : State) : Host.Outcome State Fault Refusal :=
  .next ((s.tick t).blockWriteOp q index sub offset size)

/-- The lowest segment not yet received (R553). -/
def BlockXfer.lowest (b : BlockXfer) : Nat := ((List.range b.count).find? (fun k => !KMap.has b.segs k)).getD b.count

/-- A segment of a block write (R552 to R554): kept within the window, acknowledged after every WINDOW segments and after the last. -/
def State.segmentOp (s : State) (q : PxReq) (k : Nat) (d : Bytes) : State :=
  if !s.pxHears q then s
  else match s.blockOf q true with
  | none => s
  | some b =>
    if b.count ≤ k ∨ b.next + 16 ≤ k ∨ d.length ≠ min 32 (b.size - 32 * k) then s.setBlock { b with lastFrame := s.now }
    else
      let b := { b with segs := KMap.set b.segs k d, lastFrame := s.now, sent := b.sent + 1 }
      let b := { b with next := b.lowest }
      if b.q.path == .dist then s.setBlock b
      else if 16 ≤ b.sent ∨ k + 1 = b.count then
        (s.sendInBlock b 6 0 (leBytes 2 b.next)).setBlock { b with sent := 0 }
      else s.setBlock b

/-- PX_SEGMENT (R552 to R554). -/
def execPxSegment (t : Nat) (q : PxReq) (segno : Nat) (data : Bytes) (s : State) : Host.Outcome State Fault Refusal :=
  .next ((s.tick t).segmentOp q segno data)

/-- An ACK in a block read (R553, R554): the second with NEXT equal to the segment count closes the transfer. -/
def State.ackOp (s : State) (q : PxReq) (next : Nat) : State :=
  if !s.pxHears q then s
  else match s.blockOf q false with
  | none => s
  | some b => match s.pxAuthorise q 0x06 b.index b.sub 11 (leBytes 2 next) with
    | none => (s.authFailure q).pxAnswer q 0x06 pxNotAuth b.index b.sub 11 0 []
    | some (_, counter) =>
      let s := s.pxAccept q counter
      let b := { b with lastFrame := s.now }
      if next = b.count ∧ b.count < b.sent then s.dropBlock q
      else if b.next < next ∧ next ≤ min b.count b.sent then s.pumpBlock { b with next := next, resends := 0 }
      else s.setBlock b

/-- PX_ACK (R553, R554). -/
def execPxAck (t : Nat) (q : PxReq) (next : Nat) (s : State) : Host.Outcome State Fault Refusal :=
  .next ((s.tick t).ackOp q next)

/-- The write of a block that has come to its END (R551, R553, R566). DEDUCED, log entry 71. -/
def State.endWrite (s : State) (q : PxReq) (crc code : Nat) (b : BlockXfer) : State :=
  match s.objAt b.index b.sub with
  | none => s
  | some (o, i, j) =>
    let old := if byOffset o then s.rangeBytes o i j b.offset b.size else s.liveBytes o i j
    s.pxRun q o i j 0x07 o.ty.code (leBytes 4 crc) b.bytes old code (effectOf q o i j b.offset b.bytes)

/-- The END of a block write (R551, R553, R554, R557, R566): checked, applied whole and answered; one whose AUTH fails is not
executed (R543); a repeated END of a transfer answered before is a duplicate (R549). -/
def State.endOp (s : State) (q : PxReq) (crc : Nat) : State :=
  if !s.pxHears q then s
  else if !frameOk q [] then s.pxDiscard q
  else match s.blockOf q true with
  | none =>
    match s.px.stored.find? (fun x => x.key.service == 0x07 && x.key.kind == q.path.kind && x.key.origin == q.origin
        && x.key.session == q.session && x.key.tid == q.tid && decide (s.now < x.since + 2000000000)) with
    | none => s
    | some e => (s.bump Obj.pxDuplicates).pxSend q.path q.node q.origin 2 e.frame
  | some b => match s.pxAuthorise q 0x07 b.index b.sub 11 (leBytes 4 crc) with
  | none => (s.authFailure q).pxAnswer q 0x07 pxNotAuth b.index b.sub 11 0 []
  | some _ =>
    let s := s.dropBlock q
    let d := b.bytes
    let code := if b.next < b.count then pxSequence else if crc32 d ≠ crc then pxCrc else 0
    if s.descXfer b.q b.index b.sub then
      (if code = 0 then (s.bump Obj.pxRequests).takeDescriptor q d
       else (s.changeLog q b.index b.sub 11 0 code [] []).pxAnswer q 0x07 code b.index b.sub 11 0 [])
    else s.endWrite q crc code b

/-- PX_END (R553, R554). -/
def execPxEnd (t : Nat) (q : PxReq) (crc : Nat) (s : State) : Host.Outcome State Fault Refusal :=
  .next ((s.tick t).endOp q crc)

/-- A block write that ends without its END is logged once, as any block write is (R566). DEDUCED, log entry 72. -/
def State.logLost (s : State) (b : BlockXfer) (code : Nat) : State :=
  match b.write, s.objAt b.index b.sub with
  | true, some (o, i, j) =>
    let old := if byOffset o then s.rangeBytes o i j b.offset b.size else s.liveBytes o i j
    s.changeLog b.q b.index b.sub o.ty.code (s.roleOf b.q) code old old
  | _, _ => s

/-- An ABORT of the other side closes its transfer (R545, R546). DEDUCED, log entry 72. DEDUCED, log entry 73. -/
def State.abortOp (s : State) (q : PxReq) : State :=
  if !s.pxHears q then s
  else match s.px.blocks.find? (fun b => b.isOf q && b.q.tid == q.tid) with
  | none => s
  | some b => match s.pxAuthorise q 0x08 b.index b.sub 11 [] with
    | none => (s.authFailure q).pxAnswer q 0x08 pxNotAuth b.index b.sub 11 0 []
    | some (_, counter) => ((s.pxAccept q counter).dropBlock q).logLost b pxAborted

/-- PX_ABORT (R546): CODE gives the other side's reason. -/
def execPxAbort (t : Nat) (q : PxReq) (code : Nat) (s : State) : Host.Outcome State Fault Refusal :=
  let _ := code
  .next ((s.tick t).abortOp q)

/-- PX_RESPONSE (R42, R356, R557): the head repeats a distributed descriptor to a module that lacks a segment. -/
def execPxResponse (t node tid code : Nat) (s : State) : Host.Outcome State Fault Refusal :=
  let s := s.tick t
  if !s.isHead || tid ≠ 0 || !s.admitted.contains node then .next s
  else if code = 0 then .next { s with hio := { s.hio with protPending := setErase s.hio.protPending node } }
  else if code = pxSequence then .next (s.sendDescTo (s.member node).square s.ident.desc)
  else .next s

/-- A block read whose ACK is overdue (R554): resent from NEXT three times, then aborted with "timeout". -/
def State.ackOverdue (s : State) (b : BlockXfer) : State :=
  if b.resends < 3 then s.pumpBlock { b with sent := b.next, resends := b.resends + 1 }
  else (s.sendInBlock b 8 pxTimeout []).dropBlock b.q

/-- BLOCK_ACK_TIMEOUT (R554). -/
def execBlockAckTimeout (t : Nat) (s : State) : Host.Outcome State Fault Refusal :=
  let s := s.tick t
  let due := s.px.blocks.filter (fun b => match b.ackDue with | some e => decide (e ≤ s.now) | none => false)
  .next (due.foldl (fun (st : State) b => st.ackOverdue b) s)

/-- BLOCK_IDLE_TIMEOUT (R554). DEDUCED, log entry 72. DEDUCED, log entry 73. -/
def execBlockIdleTimeout (t : Nat) (s : State) : Host.Outcome State Fault Refusal :=
  let s := s.tick t
  let due := s.px.blocks.filter (fun b => decide (b.lastFrame + 1000000000 ≤ s.now))
  .next (due.foldl (fun (st : State) b => ((st.dropBlock b.q).bump Obj.pxBlockAborts).logLost b pxTimeout) s)

/-- PX_RESPONSE_STORE_EXPIRY (R549). -/
def execPxResponseStoreExpiry (t : Nat) (s : State) : Host.Outcome State Fault Refusal :=
  let s := s.tick t
  .next { s with px := { s.px with stored := s.px.stored.filter (fun x => decide (s.now < x.since + 2000000000)) } }

/-- Whether a reader accepts a publication area (R562). -/
def areaOk (a : Bytes) : Bool :=
  decide (a.length = 276) && bitsOf 31 31 (fieldAt 0 4 a) == 1 && bitsOf 31 31 (fieldAt 272 4 a) == 1
    && fieldAt 0 2 a == fieldAt 272 2 a

/-- A renewed copy of a node's area (R563, R565): the last untagged word of each point is kept. DEDUCED, log entry 74. -/
def State.keepArea (s : State) (node : Nat) (a : Bytes) : State :=
  let good := (List.range 64).foldl (fun (m : KMap Nat) p =>
    let w := pubWord a p
    if w != 0 && wordClean w then KMap.set m (node * 64 + p) w else m) s.px.good
  { s.setBytes Obj.headPubCopy a (node - 1) with px := { s.px with
      good := good, copyAt := KMap.set s.px.copyAt node s.now, stale := setErase s.px.stale node } }

/-- PUB_AREA_POLL (R562, R563): what the block read of a node's area gives; the own area is read directly. DEDUCED, log entry 74. -/
def execPubAreaPoll (t node : Nat) (area : Bytes) (s : State) : Host.Outcome State Fault Refusal :=
  let s := s.tick t
  if !s.isHead then .next s
  else if node = s.nodeId then .next (if areaOk s.pubBytes then s.keepArea node s.pubBytes else s)
  else if !s.admitted.contains node then .next s
  else
    let sq := (s.member node).square
    let s := s.sendSlot 5 1 0 (.square sq) (pxHead 3 0 18 0 0x2F00 1 11 0 0 (openData 0 276))
    let s := s.sendSlot 5 3 0 (.square sq) (pxHead 6 0 14 0 0x2F00 1 11 0 0 (leBytes 2 9))
    .next (if areaOk area then s.keepArea node area else s)

/-- DIRECTORY_STALE (R565): a copy not renewed for 300 ms. -/
def execDirectoryStale (t node : Nat) (s : State) : Host.Outcome State Fault Refusal :=
  let s := s.tick t
  if s.isHead ∧ KMap.has s.px.copyAt node ∧ KMap.get s.px.copyAt node 0 + 300000000 ≤ s.now then
    .next { s with px := { s.px with stale := setInsert s.px.stale node } }
  else .next s

/-- POINT_LIMITS_REPORT (R565): the own change is reported to square 0 (DESIGN CHOICE, log entry 39); the head takes a node's limits. -/
def execPointLimitsReport (t node point : Nat) (lo hi : BitVec 32) (s : State) : Host.Outcome State Fault Refusal :=
  let s := s.tick t
  if s.isHead then
    .next (if node = s.nodeId || s.admitted.contains node then
      { s with px := { s.px with limits := KMap.set s.px.limits (node * 64 + point) (lo, hi) } } else s)
  else if node = s.nodeId ∧ point ∈ s.px.limitsDue then
    let s := s.sendSlot 5 2 0 (.square 0) (pxHead 0x41 0 20 0 0x2F10 (point + 1) 11 s.square 0 (f32Bytes lo ++ f32Bytes hi))
    .next { s with px := { s.px with limitsDue := setErase s.px.limitsDue point } }
  else .next s

/-- CHANGE_LOG_COPY (R568, R656): entries without a copy go to the pack-memory bus; without a pack memory the copy fails. -/
def execChangeLogCopy (t : Nat) (s : State) : Host.Outcome State Fault Refusal :=
  let s := s.tick t
  let due := s.uncopied.filter (fun e => !(s.rcd.jobs.any (fun j => j.rank == 3 && fieldAt 0 4 j.data == e.entry)))
  if due.isEmpty then .next s
  else if s.rcd.pmPresent then .next (due.foldl (fun (st : State) e => st.pmJobs 3 (logCopyAddr e.entry) e.bytes) s)
  else .next s.copyFailed

/-- What a reader of the USB stream finds at its front (R691): nothing to do, a byte that begins no frame, a frame, a bad frame, or
the beginning of a frame whose rest is still to come. -/
inductive UsbFront where
  | skip
  | frame (f : Bytes)
  | bad
  | wait
  deriving DecidableEq, Repr

/-- The front of a non-empty stream (R691). DEDUCED, log entry 77. -/
def usbFront (b : Bytes) : UsbFront :=
  if b.take 1 ≠ [0xA5] then .skip
  else if b.length < 2 then .wait
  else if sliceBytes 1 1 b ≠ [0x5A] then .skip
  else if b.length < 3 then .wait
  else
    let n := fieldAt 2 1 b
    if n < 12 ∨ 52 < n then .bad
    else if b.length < 7 + n then .wait
    else if fieldAt (3 + n) 4 b = crc32 (sliceBytes 2 (1 + n) b) then .frame (sliceBytes 3 n b)
    else .bad

/-- The frames of a stream, the number of bad ones, and the bytes that wait, with `fuel` bytes to look at. DEDUCED, log entry 77. -/
def usbScan : Nat → Bytes → List Bytes × Nat × Bytes
  | 0, b => ([], 0, b)
  | fuel + 1, b =>
    if b = [] then ([], 0, [])
    else match usbFront b with
    | .wait => ([], 0, b)
    | .skip => usbScan fuel (b.drop 1)
    | .bad => let r := usbScan fuel (b.drop 1); (r.1, r.2.1 + 1, r.2.2)
    | .frame f => let r := usbScan fuel (b.drop (7 + f.length)); (f :: r.1, r.2.1, r.2.2)

/-- A PX frame handed over by the USB port (R542 to R546, R691). -/
def State.usbPx (s : State) (f : Bytes) : State :=
  let service := fieldAt 0 1 f
  let len := fieldAt 2 1 f
  let seg := service == 5
  let session := if seg then 0 else fieldAt 10 2 f
  let q : PxReq := {
    path := .usb, origin := 0, node := s.nodeId, tid := fieldAt 1 1 f, session := session,
    auth := if session = 0 then [] else sliceBytes (len - 8) 8 f }
  if f.length < len ∨ (if seg then len < 9 ∨ 40 < len else len < 12 ∨ 52 < len ∨ (session ≠ 0 ∧ len < 20)) then s.pxDiscard q
  else
    let index := fieldAt 4 2 f
    let sub := fieldAt 6 1 f
    let ty := fieldAt 7 1 f
    let d := sliceBytes 12 ((if session = 0 then len else len - 8) - 12) f
    match service with
    | 1 => s.pxReadOp q index sub
    | 2 => s.pxWriteOp q index sub ty d
    | 3 => s.blockReadOp q index sub (fieldAt 0 4 d) (fieldAt 4 2 d)
    | 4 => s.blockWriteOp q index sub (fieldAt 0 4 d) (fieldAt 4 2 d)
    | 5 => s.segmentOp q (fieldAt 4 2 f) (sliceBytes 8 (len - 8) f)
    | 6 => s.ackOp q (fieldAt 0 2 d)
    | 7 => s.endOp q (fieldAt 0 4 d)
    | 8 => s.abortOp q
    | _ => s.pxAnswer q service pxService index sub ty 0 []

/-- USB_FRAME (R110, R687, R691): the bytes that arrive on the data stream; frames found are handed to PX in their order. -/
def execUsbFrame (t : Nat) (stream : Bytes) (s : State) : Host.Outcome State Fault Refusal :=
  let s := s.tick t
  if !(s.md.mode.runs || (s.md.recovery && s.md.mode == .recovery)) then .next s
  else
    let all := s.mgmt.usbBuf ++ stream
    let r := usbScan (all.length + 1) all
    let s := { s with mgmt := { s.mgmt with usbBuf := r.2.2 } }
    let s := (s.bumpBy Obj.usbFramesBad r.2.1).bumpBy Obj.pxErrors r.2.1
    .next (r.1.foldl (fun (st : State) f => st.usbPx f) s)

end Sys2Proof.Machine
end

