-- ==== Sys2Proof/Machine/Dispatch.lean ====
section
/-! DEFINITION. The meaning of every command: one arm per constructor of `Instr`. -/
namespace Sys2Proof.Machine

/-- A command's effect on everything but the queue. -/
def exec (i : Instr) (s : State) : Host.Outcome State Fault Refusal :=
  match i with
  | .descriptorAnnounce t a => Sys2Proof.Machine.execDescriptorAnnounce t a s
  | .descriptorAnnounceRepeat t => Sys2Proof.Machine.execDescriptorAnnounceRepeat t s
  | .descriptorDecision t => Sys2Proof.Machine.execDescriptorDecision t s
  | .headClaim t serial seq pack basis => Sys2Proof.Machine.execHeadClaim t serial seq pack basis s
  | .claimWaitExpiry t => Sys2Proof.Machine.execClaimWaitExpiry t s
  | .rollOffOpen t serial seq pack => Sys2Proof.Machine.execRollOffOpen t serial seq pack s
  | .rollOffDraw t pack round draw => Sys2Proof.Machine.execRollOffDraw t pack round draw s
  | .rollOffRoundClose t => Sys2Proof.Machine.execRollOffRoundClose t s
  | .electionRetry t => Sys2Proof.Machine.execElectionRetry t s
  | .preEnumBackoffExpiry t => Sys2Proof.Machine.execPreEnumBackoffExpiry t s
  | .descCommit t q v => Sys2Proof.Machine.execDescCommit t q v s
  | .descDistribution t rx tid record => Sys2Proof.Machine.execDescDistribution t rx tid record s
  | .descWriteAck t node ok => Sys2Proof.Machine.execDescWriteAck t node ok s
  | .descCommitTimeout t => Sys2Proof.Machine.execDescCommitTimeout t s
  | .adoptPack t q v => Sys2Proof.Machine.execAdoptPack t q v s
  | .descErase t q v => Sys2Proof.Machine.execDescErase t q v s
  | .standbyDesignate t => Sys2Proof.Machine.execStandbyDesignate t s
  | .lateJoinRound t => Sys2Proof.Machine.execLateJoinRound t s
  | .joinOpen t membGen freeIds => Sys2Proof.Machine.execJoinOpen t membGen freeIds s
  | .join t j => Sys2Proof.Machine.execJoin t j s
  | .lateJoinRoundClose t => Sys2Proof.Machine.execLateJoinRoundClose t s
  | .nodeAssign t serial pack node membGen => Sys2Proof.Machine.execNodeAssign t serial pack node membGen s
  | .assignAck t serial node ctlB => Sys2Proof.Machine.execAssignAck t serial node ctlB s
  | .assignAckTimeout t => Sys2Proof.Machine.execAssignAckTimeout t s
  | .enumerationCloseDeadline t => Sys2Proof.Machine.execEnumerationCloseDeadline t s
  | .enumerationClose t ra rb membGen => Sys2Proof.Machine.execEnumerationClose t ra rb membGen s
  | .busRateSwitch t => Sys2Proof.Machine.execBusRateSwitch t s
  | .rateScan t => Sys2Proof.Machine.execRateScan t s
  | .j4PresenceCheck t ohms => Sys2Proof.Machine.execJ4PresenceCheck t ohms s
  | .unusedChannelCheck t readings => Sys2Proof.Machine.execUnusedChannelCheck t readings s
  | .populatedCellsWrite t q v => Sys2Proof.Machine.execPopulatedCellsWrite t q v s
  | .populatedCellsApply t => Sys2Proof.Machine.execPopulatedCellsApply t s
  | .sentSupplyLimit t k => Sys2Proof.Machine.execSentSupplyLimit t k s
  | .sentSupplyRetry t k limiting => Sys2Proof.Machine.execSentSupplyRetry t k limiting s
  | .valveOpenDetect t readback => Sys2Proof.Machine.execValveOpenDetect t readback s
  | .valveLoopFault t => Sys2Proof.Machine.execValveLoopFault t s
  | .transferExportCutoff t aux24 => Sys2Proof.Machine.execTransferExportCutoff t aux24 s
  | .transferImportCutoff t aux24 => Sys2Proof.Machine.execTransferImportCutoff t aux24 s
  | .wakeLoopbackTest t => Sys2Proof.Machine.execWakeLoopbackTest t s
  | .wakeLoopbackEnd t ok => Sys2Proof.Machine.execWakeLoopbackEnd t ok s
  | .usbAttach t => Sys2Proof.Machine.execUsbAttach t s
  | .usbDetach t => Sys2Proof.Machine.execUsbDetach t s
  | .moduleReady t holdup => Sys2Proof.Machine.execModuleReady t holdup s
  | .startUp t r => Sys2Proof.Machine.execStartUp t r s
  | .captureInitDone t ok => Sys2Proof.Machine.execCaptureInitDone t ok s
  | .wake t => Sys2Proof.Machine.execWake t s
  | .aux24Present t => Sys2Proof.Machine.execAux24Present t s
  | .aux24Loss t holdup => Sys2Proof.Machine.execAux24Loss t holdup s
  | .holdupStep4End t holdup => Sys2Proof.Machine.execHoldupStep4End t holdup s
  | .maintPermitGrant t q v => Sys2Proof.Machine.execMaintPermitGrant t q v s
  | .maintPermitEnd t q v => Sys2Proof.Machine.execMaintPermitEnd t q v s
  | .maintPermitExpiry t => Sys2Proof.Machine.execMaintPermitExpiry t s
  | .safeExit t q v => Sys2Proof.Machine.execSafeExit t q v s
  | .shipArm t q v => Sys2Proof.Machine.execShipArm t q v s
  | .shipDisarm t q v => Sys2Proof.Machine.execShipDisarm t q v s
  | .shipArmLapse t => Sys2Proof.Machine.execShipArmLapse t s
  | .keepaliveReading t cells ntcs => Sys2Proof.Machine.execKeepaliveReading t cells ntcs s
  | .keepaliveWatchdog t => Sys2Proof.Machine.execKeepaliveWatchdog t s
  | .powerCycleTimerExpiry t => Sys2Proof.Machine.execPowerCycleTimerExpiry t s
  | .stackCollapse t => Sys2Proof.Machine.execStackCollapse t s
  | .thermalSensorRead t temps => Sys2Proof.Machine.execThermalSensorRead t temps s
  | .timeRecordSend t => Sys2Proof.Machine.execTimeRecordSend t s
  | .time t rx origin corr censusNo flags residence => Sys2Proof.Machine.execTime t rx origin corr censusNo flags residence s
  | .timeHoldover t => Sys2Proof.Machine.execTimeHoldover t s
  | .timeUnsynced t => Sys2Proof.Machine.execTimeUnsynced t s
  | .delayReqSend t => Sys2Proof.Machine.execDelayReqSend t s
  | .delayReq t p t1 => Sys2Proof.Machine.execDelayReq t p t1 s
  | .delayResp t p t1 t2 t3 => Sys2Proof.Machine.execDelayResp t p t1 t2 t3 s
  | .syncEdge t => Sys2Proof.Machine.execSyncEdge t s
  | .pcsAngle t rx time angle period valid => Sys2Proof.Machine.execPcsAngle t rx time angle period valid s
  | .spinnerSourceLost t => Sys2Proof.Machine.execSpinnerSourceLost t s
  | .spinnerSourceReturn t => Sys2Proof.Machine.execSpinnerSourceReturn t s
  | .spinnerRecordSend t => Sys2Proof.Machine.execSpinnerRecordSend t s
  | .spinner t rx r => Sys2Proof.Machine.execSpinner t rx r s
  | .precisionMRecompute t => Sys2Proof.Machine.execPrecisionMRecompute t s
  | .windowAnchor t => Sys2Proof.Machine.execWindowAnchor t s
  | .angleComparatorFire t u k => Sys2Proof.Machine.execAngleComparatorFire t u k s
  | .shadowLowRead t m index sub => Sys2Proof.Machine.execShadowLowRead t m index sub s
  | .shadowHighRead t m index sub => Sys2Proof.Machine.execShadowHighRead t m index sub s
  | .shadowExpiry t m => Sys2Proof.Machine.execShadowExpiry t m s
  | .crossingStatusClear t q v => Sys2Proof.Machine.execCrossingStatusClear t q v s
  | .refCrossCheck t d1 d2 => Sys2Proof.Machine.execRefCrossCheck t d1 d2 s
  | .precisionChannelFail t cell => Sys2Proof.Machine.execPrecisionChannelFail t cell s
  | .modulatorOverload t cell since => Sys2Proof.Machine.execModulatorOverload t cell since s
  | .precisionWindowEnd t raw => Sys2Proof.Machine.execPrecisionWindowEnd t raw s
  | .widebandOutput t j raw cur => Sys2Proof.Machine.execWidebandOutput t j raw cur s
  | .standardOutput t j raw taps => Sys2Proof.Machine.execStandardOutput t j raw taps s
  | .routineTrigger t => Sys2Proof.Machine.execRoutineTrigger t s
  | .hostRegTrigger t => Sys2Proof.Machine.execHostRegTrigger t s
  | .hostRegStart t q v => Sys2Proof.Machine.execHostRegStart t q v s
  | .injTrigger t k => Sys2Proof.Machine.execInjTrigger t k s
  | .auxConversionDone t code => Sys2Proof.Machine.execAuxConversionDone t code s
  | .blankWindowOpen t => Sys2Proof.Machine.execBlankWindowOpen t s
  | .blankWaitTimeout t => Sys2Proof.Machine.execBlankWaitTimeout t s
  | .pawnVisit t => Sys2Proof.Machine.execPawnVisit t s
  | .pawnAbandon t dev => Sys2Proof.Machine.execPawnAbandon t dev s
  | .balctrlWrite t q dev v => Sys2Proof.Machine.execBalctrlWrite t q dev v s
  | .balctrlExpiry t dev => Sys2Proof.Machine.execBalctrlExpiry t dev s
  | .owtTestStart t => Sys2Proof.Machine.execOwtTestStart t s
  | .owtRetest t => Sys2Proof.Machine.execOwtRetest t s
  | .owtRoundOverdue t => Sys2Proof.Machine.execOwtRoundOverdue t s
  | .dualPathCheck t => Sys2Proof.Machine.execDualPathCheck t s
  | .stackSupplyAbsent t => Sys2Proof.Machine.execStackSupplyAbsent t s
  | .balPlanCompute t => Sys2Proof.Machine.execBalPlanCompute t s
  | .plan t via record => Sys2Proof.Machine.execPlan t via record s
  | .report t rx record => Sys2Proof.Machine.execReport t rx record s
  | .balanceLeaseExpiry t => Sys2Proof.Machine.execBalanceLeaseExpiry t s
  | .flybackReselect t => Sys2Proof.Machine.execFlybackReselect t s
  | .balTargetReached t cell => Sys2Proof.Machine.execBalTargetReached t cell s
  | .balBooksCheck t => Sys2Proof.Machine.execBalBooksCheck t s
  | .balBusUndervoltage t => Sys2Proof.Machine.execBalBusUndervoltage t s
  | .balBusOvervoltage t => Sys2Proof.Machine.execBalBusOvervoltage t s
  | .balBusFault t => Sys2Proof.Machine.execBalBusFault t s
  | .flybackImplausible t k => Sys2Proof.Machine.execFlybackImplausible t k s
  | .transferImplausible t => Sys2Proof.Machine.execTransferImplausible t s
  | .bleederImplausible t half2 => Sys2Proof.Machine.execBleederImplausible t half2 s
  | .shortCircuitTrip t amps => Sys2Proof.Machine.execShortCircuitTrip t amps s
  | .currentCheck t shunt flux => Sys2Proof.Machine.execCurrentCheck t shunt flux s
  | .currentChannelFault t flux => Sys2Proof.Machine.execCurrentChannelFault t flux s
  | .stringVoltageCheck t stringVoltage => Sys2Proof.Machine.execStringVoltageCheck t stringVoltage s
  | .isoStateEnd t settled vp vn => Sys2Proof.Machine.execIsoStateEnd t settled vp vn s
  | .tripLoopLoss t => Sys2Proof.Machine.execTripLoopLoss t s
  | .tripNoticeWaitExpiry t => Sys2Proof.Machine.execTripNoticeWaitExpiry t s
  | .protectionDelayExpiry t c => Sys2Proof.Machine.execProtectionDelayExpiry t c s
  | .protectionRelease t c => Sys2Proof.Machine.execProtectionRelease t c s
  | .openReqRepeat t => Sys2Proof.Machine.execOpenReqRepeat t s
  | .openReq t via n => Sys2Proof.Machine.execOpenReq t via n s
  | .openReqHoldExpiry t node => Sys2Proof.Machine.execOpenReqHoldExpiry t node s
  | .trip t via n => Sys2Proof.Machine.execTrip t via n s
  | .tripResetCommand t q v => Sys2Proof.Machine.execTripResetCommand t q v s
  | .tripReset t via n => Sys2Proof.Machine.execTripReset t via n s
  | .trippedClear t => Sys2Proof.Machine.execTrippedClear t s
  | .contactorClose t q v => Sys2Proof.Machine.execContactorClose t q v s
  | .contactorOpen t q v => Sys2Proof.Machine.execContactorOpen t q v s
  | .closingSequenceStep t m => Sys2Proof.Machine.execClosingSequenceStep t m s
  | .prechargeLockoutExpiry t => Sys2Proof.Machine.execPrechargeLockoutExpiry t s
  | .openingSequenceStep t m => Sys2Proof.Machine.execOpeningSequenceStep t m s
  | .coilShortCircuit t c => Sys2Proof.Machine.execCoilShortCircuit t c s
  | .coilOpenLoad t c => Sys2Proof.Machine.execCoilOpenLoad t c s
  | .releaseSend t => Sys2Proof.Machine.execReleaseSend t s
  | .release t rx node released membGen time => Sys2Proof.Machine.execRelease t rx node released membGen time s
  | .pcsLimitPeriod t => Sys2Proof.Machine.execPcsLimitPeriod t s
  | .protectionSetWrite t q index sub v => Sys2Proof.Machine.execProtectionSetWrite t q index sub v s
  | .protSetCrcCheck t crcs => Sys2Proof.Machine.execProtSetCrcCheck t crcs s
  | .chargeCount t => Sys2Proof.Machine.execChargeCount t s
  | .countGap t => Sys2Proof.Machine.execCountGap t s
  | .countHold t => Sys2Proof.Machine.execCountHold t s
  | .voltageCheck t => Sys2Proof.Machine.execVoltageCheck t s
  | .firstEstimate t => Sys2Proof.Machine.execFirstEstimate t s
  | .initialTimeout t => Sys2Proof.Machine.execInitialTimeout t s
  | .restPoint t cell => Sys2Proof.Machine.execRestPoint t cell s
  | .socRecordWrite t => Sys2Proof.Machine.execSocRecordWrite t s
  | .capacityRecordWrite t => Sys2Proof.Machine.execCapacityRecordWrite t s
  | .recordWriteRetry t => Sys2Proof.Machine.execRecordWriteRetry t s
  | .recordReadback t capacity crc => Sys2Proof.Machine.execRecordReadback t capacity crc s
  | .loadStep t ts m => Sys2Proof.Machine.execLoadStep t ts m s
  | .stepWindowEnd t term amps dev cells => Sys2Proof.Machine.execStepWindowEnd t term amps dev cells s
  | .impedanceBlock t cell bin b => Sys2Proof.Machine.execImpedanceBlock t cell bin b s
  | .sdEpisodeStart t => Sys2Proof.Machine.execSdEpisodeStart t s
  | .sdWindowEnd t => Sys2Proof.Machine.execSdWindowEnd t s
  | .socEstSend t => Sys2Proof.Machine.execSocEstSend t s
  | .capEstSend t => Sys2Proof.Machine.execCapEstSend t s
  | .socEst t rx record => Sys2Proof.Machine.execSocEst t rx record s
  | .capEst t rx record => Sys2Proof.Machine.execCapEst t rx record s
  | .stringEstimate t => Sys2Proof.Machine.execStringEstimate t s
  | .loopSample t m => Sys2Proof.Machine.execLoopSample t m s
  | .loopEnable t q inst v => Sys2Proof.Machine.execLoopEnable t q inst v s
  | .loopDisable t q inst v => Sys2Proof.Machine.execLoopDisable t q inst v s
  | .bankWrite t q inst bankB d => Sys2Proof.Machine.execBankWrite t q inst bankB d s
  | .bankRequest t q inst v => Sys2Proof.Machine.execBankRequest t q inst v s
  | .inputBindWrite t q inst d => Sys2Proof.Machine.execInputBindWrite t q inst d s
  | .outputBindWrite t q inst d => Sys2Proof.Machine.execOutputBindWrite t q inst d s
  | .setpointWrite t q inst slot v => Sys2Proof.Machine.execSetpointWrite t q inst slot v s
  | .thermalSetpointUpdate t => Sys2Proof.Machine.execThermalSetpointUpdate t s
  | .fanStall t fan => Sys2Proof.Machine.execFanStall t fan s
  | .lightLoss t p => Sys2Proof.Machine.execLightLoss t p s
  | .portDown t p => Sys2Proof.Machine.execPortDown t p s
  | .linkFault t p => Sys2Proof.Machine.execLinkFault t p s
  | .portUp t p => Sys2Proof.Machine.execPortUp t p s
  | .portReadyRepeat t p => Sys2Proof.Machine.execPortReadyRepeat t p s
  | .wrapPortDown t rx n => Sys2Proof.Machine.execWrapPortDown t rx n s
  | .wrapPortReady t rx n => Sys2Proof.Machine.execWrapPortReady t rx n s
  | .unwrapOrder t rx n => Sys2Proof.Machine.execUnwrapOrder t rx n s
  | .unwrapInstant t => Sys2Proof.Machine.execUnwrapInstant t s
  | .censusRequestNotice t rx n => Sys2Proof.Machine.execCensusRequestNotice t rx n s
  | .censusRequest t q v => Sys2Proof.Machine.execCensusRequest t q v s
  | .census t rx no count turnAt stringId => Sys2Proof.Machine.execCensus t rx no count turnAt stringId s
  | .censusTimeout t => Sys2Proof.Machine.execCensusTimeout t s
  | .censusRetry t => Sys2Proof.Machine.execCensusRetry t s
  | .censusResult t rx no n turnAt effective stringId => Sys2Proof.Machine.execCensusResult t rx no n turnAt effective stringId s
  | .censusResultTimeout t => Sys2Proof.Machine.execCensusResultTimeout t s
  | .censusEffective t => Sys2Proof.Machine.execCensusEffective t s
  | .censusReply t rx r => Sys2Proof.Machine.execCensusReply t rx r s
  | .censusReplyTimeout t => Sys2Proof.Machine.execCensusReplyTimeout t s
  | .slotForward t rx payload residence => Sys2Proof.Machine.execSlotForward t rx payload residence s
  | .damagedSlot t rx payload damage => Sys2Proof.Machine.execDamagedSlot t rx payload damage s
  | .queueBooksCheck t => Sys2Proof.Machine.execQueueBooksCheck t s
  | .slotSyncReached t p => Sys2Proof.Machine.execSlotSyncReached t p s
  | .ringDownTimeout t => Sys2Proof.Machine.execRingDownTimeout t s
  | .precision t rx words => Sys2Proof.Machine.execPrecision t rx words s
  | .current t rx words => Sys2Proof.Machine.execCurrent t rx words s
  | .wideband t rx words => Sys2Proof.Machine.execWideband t rx words s
  | .bulk t rx payload => Sys2Proof.Machine.execBulk t rx payload s
  | .laneFrameCopy t lane f => Sys2Proof.Machine.execLaneFrameCopy t lane f s
  | .voteWindowExpiry t => Sys2Proof.Machine.execVoteWindowExpiry t s
  | .frameSent t b r => Sys2Proof.Machine.execFrameSent t b r s
  | .busNotice t b id typ seq n => Sys2Proof.Machine.execBusNotice t b id typ seq n s
  | .errorPassive t b => Sys2Proof.Machine.execErrorPassive t b s
  | .busOff t b => Sys2Proof.Machine.execBusOff t b s
  | .busOffHoldoffExpiry t b => Sys2Proof.Machine.execBusOffHoldoffExpiry t b s
  | .busRecover t b q v => Sys2Proof.Machine.execBusRecover t b q v s
  | .busOffRecoveryDone t b => Sys2Proof.Machine.execBusOffRecoveryDone t b s
  | .busEnable t b q v => Sys2Proof.Machine.execBusEnable t b q v s
  | .lonely t b => Sys2Proof.Machine.execLonely t b s
  | .lonelyRetry t b => Sys2Proof.Machine.execLonelyRetry t b s
  | .mailboxBooksCheck t b tx rx => Sys2Proof.Machine.execMailboxBooksCheck t b tx rx s
  | .controlBusesLost t => Sys2Proof.Machine.execControlBusesLost t s
  | .status t via r => Sys2Proof.Machine.execStatus t via r s
  | .statusSend t => Sys2Proof.Machine.execStatusSend t s
  | .heartbeatSend t => Sys2Proof.Machine.execHeartbeatSend t s
  | .heartbeat t via r => Sys2Proof.Machine.execHeartbeat t via r s
  | .heartbeatPeriodEnd t => Sys2Proof.Machine.execHeartbeatPeriodEnd t s
  | .pxRead t q index sub => Sys2Proof.Machine.execPxRead t q index sub s
  | .pxWrite t q index sub v => Sys2Proof.Machine.execPxWrite t q index sub v s
  | .registerWrite t q index sub v => Sys2Proof.Machine.execRegisterWrite t q index sub v s
  | .rwpWriteDone t ok => Sys2Proof.Machine.execRwpWriteDone t ok s
  | .pxBlockRead t q index sub offset size => Sys2Proof.Machine.execPxBlockRead t q index sub offset size s
  | .pxBlockWrite t q index sub offset size => Sys2Proof.Machine.execPxBlockWrite t q index sub offset size s
  | .pxSegment t q segno data => Sys2Proof.Machine.execPxSegment t q segno data s
  | .pxAck t q next => Sys2Proof.Machine.execPxAck t q next s
  | .pxEnd t q crc => Sys2Proof.Machine.execPxEnd t q crc s
  | .pxAbort t q code => Sys2Proof.Machine.execPxAbort t q code s
  | .pxResponse t node tid code => Sys2Proof.Machine.execPxResponse t node tid code s
  | .blockAckTimeout t => Sys2Proof.Machine.execBlockAckTimeout t s
  | .blockIdleTimeout t => Sys2Proof.Machine.execBlockIdleTimeout t s
  | .pxResponseStoreExpiry t => Sys2Proof.Machine.execPxResponseStoreExpiry t s
  | .pubAreaPoll t node area => Sys2Proof.Machine.execPubAreaPoll t node area s
  | .directoryStale t node => Sys2Proof.Machine.execDirectoryStale t node s
  | .pointLimitsReport t node point lo hi => Sys2Proof.Machine.execPointLimitsReport t node point lo hi s
  | .changeLogCopy t => Sys2Proof.Machine.execChangeLogCopy t s
  | .auxLoss t via n => Sys2Proof.Machine.execAuxLoss t via n s
  | .abdicate t via n => Sys2Proof.Machine.execAbdicate t via n s
  | .headFailureWaitExpiry t => Sys2Proof.Machine.execHeadFailureWaitExpiry t s
  | .abdicateLoopHoldExpiry t => Sys2Proof.Machine.execAbdicateLoopHoldExpiry t s
  | .checkpointSend t => Sys2Proof.Machine.execCheckpointSend t s
  | .checkpoint t rx gen index data => Sys2Proof.Machine.execCheckpoint t rx gen index data s
  | .checkpointAck t rx gen received complete => Sys2Proof.Machine.execCheckpointAck t rx gen received complete s
  | .checkpointLag t => Sys2Proof.Machine.execCheckpointLag t s
  | .handoverCommand t q v => Sys2Proof.Machine.execHandoverCommand t q v s
  | .handoverTimeout t => Sys2Proof.Machine.execHandoverTimeout t s
  | .laneTokenTimeout t lane => Sys2Proof.Machine.execLaneTokenTimeout t lane s
  | .clockMonitor t => Sys2Proof.Machine.execClockMonitor t s
  | .registerVote t target a b c => Sys2Proof.Machine.execRegisterVote t target a b c s
  | .voterSelfTest t ok => Sys2Proof.Machine.execVoterSelfTest t ok s
  | .laneEccError t lane corrected => Sys2Proof.Machine.execLaneEccError t lane corrected s
  | .tripDriverCheck t milliamps => Sys2Proof.Machine.execTripDriverCheck t milliamps s
  | .sourceRaise t source => Sys2Proof.Machine.execSourceRaise t source s
  | .carriedFaultWrite t => Sys2Proof.Machine.execCarriedFaultWrite t s
  | .fcuScan t ok => Sys2Proof.Machine.execFcuScan t ok s
  | .collectorTest t shown => Sys2Proof.Machine.execCollectorTest t shown s
  | .collectorTestRelease t => Sys2Proof.Machine.execCollectorTestRelease t s
  | .firstMoveClear t q v => Sys2Proof.Machine.execFirstMoveClear t q v s
  | .faultPendingClear t q sub v => Sys2Proof.Machine.execFaultPendingClear t q sub v s
  | .severityWrite t q source v => Sys2Proof.Machine.execSeverityWrite t q source v s
  | .sentFrame t k pulses => Sys2Proof.Machine.execSentFrame t k pulses s
  | .sentTimeout t k => Sys2Proof.Machine.execSentTimeout t k s
  | .sentWarmupEnd t k => Sys2Proof.Machine.execSentWarmupEnd t k s
  | .sentEnable t q k v => Sys2Proof.Machine.execSentEnable t q k v s
  | .sentChannelCheck t k => Sys2Proof.Machine.execSentChannelCheck t k s
  | .captureTrig t rx n => Sys2Proof.Machine.execCaptureTrig t rx n s
  | .recorderSample t => Sys2Proof.Machine.execRecorderSample t s
  | .recorderStage t => Sys2Proof.Machine.execRecorderStage t s
  | .recorderRangeWrite t q o v => Sys2Proof.Machine.execRecorderRangeWrite t q o v s
  | .recClear t q v => Sys2Proof.Machine.execRecClear t q v s
  | .episodeWrite t => Sys2Proof.Machine.execEpisodeWrite t s
  | .dayClose t => Sys2Proof.Machine.execDayClose t s
  | .scrubPassEnd t => Sys2Proof.Machine.execScrubPassEnd t s
  | .scrubOverdue t => Sys2Proof.Machine.execScrubOverdue t s
  | .captureMemoryEcc t addr double => Sys2Proof.Machine.execCaptureMemoryEcc t addr double s
  | .captureTrigger t q v => Sys2Proof.Machine.execCaptureTrigger t q v s
  | .captureAngleArm t q v => Sys2Proof.Machine.execCaptureAngleArm t q v s
  | .captureRecordClose t => Sys2Proof.Machine.execCaptureRecordClose t s
  | .captureBooksCheck t free recording held reading => Sys2Proof.Machine.execCaptureBooksCheck t free recording held reading s
  | .captureReadout t q request => Sys2Proof.Machine.execCaptureReadout t q request s
  | .captureReadoutDone t => Sys2Proof.Machine.execCaptureReadoutDone t s
  | .captureRelease t q v => Sys2Proof.Machine.execCaptureRelease t q v s
  | .norWriteFail t => Sys2Proof.Machine.execNorWriteFail t s
  | .changeLogNorTimeout t => Sys2Proof.Machine.execChangeLogNorTimeout t s
  | .packIdentityWrite t q v => Sys2Proof.Machine.execPackIdentityWrite t q v s
  | .packMemoryTransferDone t addr ok => Sys2Proof.Machine.execPackMemoryTransferDone t addr ok s
  | .mgmtSensorRead t r => Sys2Proof.Machine.execMgmtSensorRead t r s
  | .supplyMonitor t rail volts => Sys2Proof.Machine.execSupplyMonitor t rail volts s
  | .mgmtTokenTimeout t => Sys2Proof.Machine.execMgmtTokenTimeout t s
  | .mgmtRestartDone t => Sys2Proof.Machine.execMgmtRestartDone t s
  | .calendarSet t q d => Sys2Proof.Machine.execCalendarSet t q d s
  | .sessionChallenge t q => Sys2Proof.Machine.execSessionChallenge t q s
  | .sessionOpen t q d => Sys2Proof.Machine.execSessionOpen t q d s
  | .sessionClose t q v => Sys2Proof.Machine.execSessionClose t q v s
  | .sessionTimeout t handle => Sys2Proof.Machine.execSessionTimeout t handle s
  | .authLockoutExpiry t => Sys2Proof.Machine.execAuthLockoutExpiry t s
  | .roleKeyWrap t q d => Sys2Proof.Machine.execRoleKeyWrap t q d s
  | .signingKeyRevoke t q v => Sys2Proof.Machine.execSigningKeyRevoke t q v s
  | .updateManifest t q d => Sys2Proof.Machine.execUpdateManifest t q d s
  | .sectorEraseDone t => Sys2Proof.Machine.execSectorEraseDone t s
  | .updateBlock t q index d => Sys2Proof.Machine.execUpdateBlock t q index d s
  | .blockProgramDone t => Sys2Proof.Machine.execBlockProgramDone t s
  | .updateVerifyDone t => Sys2Proof.Machine.execUpdateVerifyDone t s
  | .updateAbort t q v => Sys2Proof.Machine.execUpdateAbort t q v s
  | .updateActivate t q v => Sys2Proof.Machine.execUpdateActivate t q v s
  | .trialConfirm t => Sys2Proof.Machine.execTrialConfirm t s
  | .calStart t q v => Sys2Proof.Machine.execCalStart t q v s
  | .calAbort t q v => Sys2Proof.Machine.execCalAbort t q v s
  | .calVisitEnd t cell zero ref => Sys2Proof.Machine.execCalVisitEnd t cell zero ref s
  | .calVerifyDone t checks => Sys2Proof.Machine.execCalVerifyDone t checks s
  | .usbFrame t stream => Sys2Proof.Machine.execUsbFrame t stream s

end Sys2Proof.Machine
end

