-- ==== Sys2Proof/Safety.lean ====
section
/-! DEFINITION. What counts as a safe run, and the terms the statements use: the instant and the chapter of a command, the components of
the state, and which of them each command may change. -/
namespace Sys2Proof

/-- The instant at which a command happens. -/
def Instr.instant (i : Instr) : Nat :=
  match i with
  | .descriptorAnnounce t .. => t
  | .descriptorAnnounceRepeat t => t
  | .descriptorDecision t => t
  | .headClaim t .. => t
  | .claimWaitExpiry t => t
  | .rollOffOpen t .. => t
  | .rollOffDraw t .. => t
  | .rollOffRoundClose t => t
  | .electionRetry t => t
  | .preEnumBackoffExpiry t => t
  | .descCommit t .. => t
  | .descDistribution t .. => t
  | .descWriteAck t .. => t
  | .descCommitTimeout t => t
  | .adoptPack t .. => t
  | .descErase t .. => t
  | .standbyDesignate t => t
  | .lateJoinRound t => t
  | .joinOpen t .. => t
  | .join t .. => t
  | .lateJoinRoundClose t => t
  | .nodeAssign t .. => t
  | .assignAck t .. => t
  | .assignAckTimeout t => t
  | .enumerationCloseDeadline t => t
  | .enumerationClose t .. => t
  | .busRateSwitch t => t
  | .rateScan t => t
  | .j4PresenceCheck t .. => t
  | .unusedChannelCheck t .. => t
  | .populatedCellsWrite t .. => t
  | .populatedCellsApply t => t
  | .sentSupplyLimit t .. => t
  | .sentSupplyRetry t .. => t
  | .valveOpenDetect t .. => t
  | .valveLoopFault t => t
  | .transferExportCutoff t .. => t
  | .transferImportCutoff t .. => t
  | .wakeLoopbackTest t => t
  | .wakeLoopbackEnd t .. => t
  | .usbAttach t => t
  | .usbDetach t => t
  | .moduleReady t .. => t
  | .startUp t .. => t
  | .captureInitDone t .. => t
  | .wake t => t
  | .aux24Present t => t
  | .aux24Loss t .. => t
  | .holdupStep4End t .. => t
  | .maintPermitGrant t .. => t
  | .maintPermitEnd t .. => t
  | .maintPermitExpiry t => t
  | .safeExit t .. => t
  | .shipArm t .. => t
  | .shipDisarm t .. => t
  | .shipArmLapse t => t
  | .keepaliveReading t .. => t
  | .keepaliveWatchdog t => t
  | .powerCycleTimerExpiry t => t
  | .stackCollapse t => t
  | .thermalSensorRead t .. => t
  | .timeRecordSend t => t
  | .time t .. => t
  | .timeHoldover t => t
  | .timeUnsynced t => t
  | .delayReqSend t => t
  | .delayReq t .. => t
  | .delayResp t .. => t
  | .syncEdge t => t
  | .pcsAngle t .. => t
  | .spinnerSourceLost t => t
  | .spinnerSourceReturn t => t
  | .spinnerRecordSend t => t
  | .spinner t .. => t
  | .precisionMRecompute t => t
  | .windowAnchor t => t
  | .angleComparatorFire t .. => t
  | .shadowLowRead t .. => t
  | .shadowHighRead t .. => t
  | .shadowExpiry t .. => t
  | .crossingStatusClear t .. => t
  | .refCrossCheck t .. => t
  | .precisionChannelFail t .. => t
  | .modulatorOverload t .. => t
  | .precisionWindowEnd t .. => t
  | .widebandOutput t .. => t
  | .standardOutput t .. => t
  | .routineTrigger t => t
  | .hostRegTrigger t => t
  | .hostRegStart t .. => t
  | .injTrigger t .. => t
  | .auxConversionDone t .. => t
  | .blankWindowOpen t => t
  | .blankWaitTimeout t => t
  | .pawnVisit t => t
  | .pawnAbandon t .. => t
  | .balctrlWrite t .. => t
  | .balctrlExpiry t .. => t
  | .owtTestStart t => t
  | .owtRetest t => t
  | .owtRoundOverdue t => t
  | .dualPathCheck t => t
  | .stackSupplyAbsent t => t
  | .balPlanCompute t => t
  | .plan t .. => t
  | .report t .. => t
  | .balanceLeaseExpiry t => t
  | .flybackReselect t => t
  | .balTargetReached t .. => t
  | .balBooksCheck t => t
  | .balBusUndervoltage t => t
  | .balBusOvervoltage t => t
  | .balBusFault t => t
  | .flybackImplausible t .. => t
  | .transferImplausible t => t
  | .bleederImplausible t .. => t
  | .shortCircuitTrip t .. => t
  | .currentCheck t .. => t
  | .currentChannelFault t .. => t
  | .stringVoltageCheck t .. => t
  | .isoStateEnd t .. => t
  | .tripLoopLoss t => t
  | .tripNoticeWaitExpiry t => t
  | .protectionDelayExpiry t .. => t
  | .protectionRelease t .. => t
  | .openReqRepeat t => t
  | .openReq t .. => t
  | .openReqHoldExpiry t .. => t
  | .trip t .. => t
  | .tripResetCommand t .. => t
  | .tripReset t .. => t
  | .trippedClear t => t
  | .contactorClose t .. => t
  | .contactorOpen t .. => t
  | .closingSequenceStep t .. => t
  | .prechargeLockoutExpiry t => t
  | .openingSequenceStep t .. => t
  | .coilShortCircuit t .. => t
  | .coilOpenLoad t .. => t
  | .releaseSend t => t
  | .release t .. => t
  | .pcsLimitPeriod t => t
  | .protectionSetWrite t .. => t
  | .protSetCrcCheck t .. => t
  | .chargeCount t => t
  | .countGap t => t
  | .countHold t => t
  | .voltageCheck t => t
  | .firstEstimate t => t
  | .initialTimeout t => t
  | .restPoint t .. => t
  | .socRecordWrite t => t
  | .capacityRecordWrite t => t
  | .recordWriteRetry t => t
  | .recordReadback t .. => t
  | .loadStep t .. => t
  | .stepWindowEnd t .. => t
  | .impedanceBlock t .. => t
  | .sdEpisodeStart t => t
  | .sdWindowEnd t => t
  | .socEstSend t => t
  | .capEstSend t => t
  | .socEst t .. => t
  | .capEst t .. => t
  | .stringEstimate t => t
  | .loopSample t .. => t
  | .loopEnable t .. => t
  | .loopDisable t .. => t
  | .bankWrite t .. => t
  | .bankRequest t .. => t
  | .inputBindWrite t .. => t
  | .outputBindWrite t .. => t
  | .setpointWrite t .. => t
  | .thermalSetpointUpdate t => t
  | .fanStall t .. => t
  | .lightLoss t .. => t
  | .portDown t .. => t
  | .linkFault t .. => t
  | .portUp t .. => t
  | .portReadyRepeat t .. => t
  | .wrapPortDown t .. => t
  | .wrapPortReady t .. => t
  | .unwrapOrder t .. => t
  | .unwrapInstant t => t
  | .censusRequestNotice t .. => t
  | .censusRequest t .. => t
  | .census t .. => t
  | .censusTimeout t => t
  | .censusRetry t => t
  | .censusResult t .. => t
  | .censusResultTimeout t => t
  | .censusEffective t => t
  | .censusReply t .. => t
  | .censusReplyTimeout t => t
  | .slotForward t .. => t
  | .damagedSlot t .. => t
  | .queueBooksCheck t => t
  | .slotSyncReached t .. => t
  | .ringDownTimeout t => t
  | .precision t .. => t
  | .current t .. => t
  | .wideband t .. => t
  | .bulk t .. => t
  | .laneFrameCopy t .. => t
  | .voteWindowExpiry t => t
  | .frameSent t .. => t
  | .busNotice t .. => t
  | .errorPassive t .. => t
  | .busOff t .. => t
  | .busOffHoldoffExpiry t .. => t
  | .busRecover t .. => t
  | .busOffRecoveryDone t .. => t
  | .busEnable t .. => t
  | .lonely t .. => t
  | .lonelyRetry t .. => t
  | .mailboxBooksCheck t .. => t
  | .controlBusesLost t => t
  | .status t .. => t
  | .statusSend t => t
  | .heartbeatSend t => t
  | .heartbeat t .. => t
  | .heartbeatPeriodEnd t => t
  | .pxRead t .. => t
  | .pxWrite t .. => t
  | .registerWrite t .. => t
  | .rwpWriteDone t .. => t
  | .pxBlockRead t .. => t
  | .pxBlockWrite t .. => t
  | .pxSegment t .. => t
  | .pxAck t .. => t
  | .pxEnd t .. => t
  | .pxAbort t .. => t
  | .pxResponse t .. => t
  | .blockAckTimeout t => t
  | .blockIdleTimeout t => t
  | .pxResponseStoreExpiry t => t
  | .pubAreaPoll t .. => t
  | .directoryStale t .. => t
  | .pointLimitsReport t .. => t
  | .changeLogCopy t => t
  | .auxLoss t .. => t
  | .abdicate t .. => t
  | .headFailureWaitExpiry t => t
  | .abdicateLoopHoldExpiry t => t
  | .checkpointSend t => t
  | .checkpoint t .. => t
  | .checkpointAck t .. => t
  | .checkpointLag t => t
  | .handoverCommand t .. => t
  | .handoverTimeout t => t
  | .laneTokenTimeout t .. => t
  | .clockMonitor t => t
  | .registerVote t .. => t
  | .voterSelfTest t .. => t
  | .laneEccError t .. => t
  | .tripDriverCheck t .. => t
  | .sourceRaise t .. => t
  | .carriedFaultWrite t => t
  | .fcuScan t .. => t
  | .collectorTest t .. => t
  | .collectorTestRelease t => t
  | .firstMoveClear t .. => t
  | .faultPendingClear t .. => t
  | .severityWrite t .. => t
  | .sentFrame t .. => t
  | .sentTimeout t .. => t
  | .sentWarmupEnd t .. => t
  | .sentEnable t .. => t
  | .sentChannelCheck t .. => t
  | .captureTrig t .. => t
  | .recorderSample t => t
  | .recorderStage t => t
  | .recorderRangeWrite t .. => t
  | .recClear t .. => t
  | .episodeWrite t => t
  | .dayClose t => t
  | .scrubPassEnd t => t
  | .scrubOverdue t => t
  | .captureMemoryEcc t .. => t
  | .captureTrigger t .. => t
  | .captureAngleArm t .. => t
  | .captureRecordClose t => t
  | .captureBooksCheck t .. => t
  | .captureReadout t .. => t
  | .captureReadoutDone t => t
  | .captureRelease t .. => t
  | .norWriteFail t => t
  | .changeLogNorTimeout t => t
  | .packIdentityWrite t .. => t
  | .packMemoryTransferDone t .. => t
  | .mgmtSensorRead t .. => t
  | .supplyMonitor t .. => t
  | .mgmtTokenTimeout t => t
  | .mgmtRestartDone t => t
  | .calendarSet t .. => t
  | .sessionChallenge t .. => t
  | .sessionOpen t .. => t
  | .sessionClose t .. => t
  | .sessionTimeout t .. => t
  | .authLockoutExpiry t => t
  | .roleKeyWrap t .. => t
  | .signingKeyRevoke t .. => t
  | .updateManifest t .. => t
  | .sectorEraseDone t => t
  | .updateBlock t .. => t
  | .blockProgramDone t => t
  | .updateVerifyDone t => t
  | .updateAbort t .. => t
  | .updateActivate t .. => t
  | .trialConfirm t => t
  | .calStart t .. => t
  | .calAbort t .. => t
  | .calVisitEnd t .. => t
  | .calVerifyDone t .. => t
  | .usbFrame t .. => t

/-- The chapter of the spec whose opcode table has the command (its file number). -/
def Instr.chapter (i : Instr) : Nat :=
  match i with
  | .descriptorAnnounce .. => 1
  | .descriptorAnnounceRepeat .. => 1
  | .descriptorDecision .. => 1
  | .headClaim .. => 1
  | .claimWaitExpiry .. => 1
  | .rollOffOpen .. => 1
  | .rollOffDraw .. => 1
  | .rollOffRoundClose .. => 1
  | .electionRetry .. => 1
  | .preEnumBackoffExpiry .. => 1
  | .descCommit .. => 1
  | .descDistribution .. => 1
  | .descWriteAck .. => 1
  | .descCommitTimeout .. => 1
  | .adoptPack .. => 1
  | .descErase .. => 1
  | .standbyDesignate .. => 1
  | .lateJoinRound .. => 1
  | .joinOpen .. => 1
  | .join .. => 1
  | .lateJoinRoundClose .. => 1
  | .nodeAssign .. => 1
  | .assignAck .. => 1
  | .assignAckTimeout .. => 1
  | .enumerationCloseDeadline .. => 1
  | .enumerationClose .. => 1
  | .busRateSwitch .. => 1
  | .rateScan .. => 1
  | .j4PresenceCheck .. => 2
  | .unusedChannelCheck .. => 2
  | .populatedCellsWrite .. => 2
  | .populatedCellsApply .. => 2
  | .sentSupplyLimit .. => 2
  | .sentSupplyRetry .. => 2
  | .valveOpenDetect .. => 2
  | .valveLoopFault .. => 2
  | .transferExportCutoff .. => 2
  | .transferImportCutoff .. => 2
  | .wakeLoopbackTest .. => 2
  | .wakeLoopbackEnd .. => 2
  | .usbAttach .. => 2
  | .usbDetach .. => 2
  | .moduleReady .. => 3
  | .startUp .. => 3
  | .captureInitDone .. => 3
  | .wake .. => 3
  | .aux24Present .. => 3
  | .aux24Loss .. => 3
  | .holdupStep4End .. => 3
  | .maintPermitGrant .. => 3
  | .maintPermitEnd .. => 3
  | .maintPermitExpiry .. => 3
  | .safeExit .. => 3
  | .shipArm .. => 3
  | .shipDisarm .. => 3
  | .shipArmLapse .. => 3
  | .keepaliveReading .. => 3
  | .keepaliveWatchdog .. => 3
  | .powerCycleTimerExpiry .. => 3
  | .stackCollapse .. => 3
  | .thermalSensorRead .. => 3
  | .timeRecordSend .. => 4
  | .time .. => 4
  | .timeHoldover .. => 4
  | .timeUnsynced .. => 4
  | .delayReqSend .. => 4
  | .delayReq .. => 4
  | .delayResp .. => 4
  | .syncEdge .. => 4
  | .pcsAngle .. => 4
  | .spinnerSourceLost .. => 4
  | .spinnerSourceReturn .. => 4
  | .spinnerRecordSend .. => 4
  | .spinner .. => 4
  | .precisionMRecompute .. => 4
  | .windowAnchor .. => 4
  | .angleComparatorFire .. => 4
  | .shadowLowRead .. => 4
  | .shadowHighRead .. => 4
  | .shadowExpiry .. => 4
  | .crossingStatusClear .. => 4
  | .refCrossCheck .. => 5
  | .precisionChannelFail .. => 5
  | .modulatorOverload .. => 5
  | .precisionWindowEnd .. => 5
  | .widebandOutput .. => 5
  | .standardOutput .. => 5
  | .routineTrigger .. => 6
  | .hostRegTrigger .. => 6
  | .hostRegStart .. => 6
  | .injTrigger .. => 6
  | .auxConversionDone .. => 6
  | .blankWindowOpen .. => 6
  | .blankWaitTimeout .. => 6
  | .pawnVisit .. => 6
  | .pawnAbandon .. => 6
  | .balctrlWrite .. => 6
  | .balctrlExpiry .. => 6
  | .owtTestStart .. => 7
  | .owtRetest .. => 7
  | .owtRoundOverdue .. => 7
  | .dualPathCheck .. => 7
  | .stackSupplyAbsent .. => 7
  | .balPlanCompute .. => 8
  | .plan .. => 8
  | .report .. => 8
  | .balanceLeaseExpiry .. => 8
  | .flybackReselect .. => 8
  | .balTargetReached .. => 8
  | .balBooksCheck .. => 8
  | .balBusUndervoltage .. => 8
  | .balBusOvervoltage .. => 8
  | .balBusFault .. => 8
  | .flybackImplausible .. => 8
  | .transferImplausible .. => 8
  | .bleederImplausible .. => 8
  | .shortCircuitTrip .. => 9
  | .currentCheck .. => 9
  | .currentChannelFault .. => 9
  | .stringVoltageCheck .. => 9
  | .isoStateEnd .. => 9
  | .tripLoopLoss .. => 9
  | .tripNoticeWaitExpiry .. => 9
  | .protectionDelayExpiry .. => 9
  | .protectionRelease .. => 9
  | .openReqRepeat .. => 9
  | .openReq .. => 9
  | .openReqHoldExpiry .. => 9
  | .trip .. => 9
  | .tripResetCommand .. => 9
  | .tripReset .. => 9
  | .trippedClear .. => 9
  | .contactorClose .. => 9
  | .contactorOpen .. => 9
  | .closingSequenceStep .. => 9
  | .prechargeLockoutExpiry .. => 9
  | .openingSequenceStep .. => 9
  | .coilShortCircuit .. => 9
  | .coilOpenLoad .. => 9
  | .releaseSend .. => 9
  | .release .. => 9
  | .pcsLimitPeriod .. => 9
  | .protectionSetWrite .. => 9
  | .protSetCrcCheck .. => 9
  | .chargeCount .. => 10
  | .countGap .. => 10
  | .countHold .. => 10
  | .voltageCheck .. => 10
  | .firstEstimate .. => 10
  | .initialTimeout .. => 10
  | .restPoint .. => 10
  | .socRecordWrite .. => 10
  | .capacityRecordWrite .. => 10
  | .recordWriteRetry .. => 10
  | .recordReadback .. => 10
  | .loadStep .. => 10
  | .stepWindowEnd .. => 10
  | .impedanceBlock .. => 10
  | .sdEpisodeStart .. => 10
  | .sdWindowEnd .. => 10
  | .socEstSend .. => 10
  | .capEstSend .. => 10
  | .socEst .. => 10
  | .capEst .. => 10
  | .stringEstimate .. => 10
  | .loopSample .. => 11
  | .loopEnable .. => 11
  | .loopDisable .. => 11
  | .bankWrite .. => 11
  | .bankRequest .. => 11
  | .inputBindWrite .. => 11
  | .outputBindWrite .. => 11
  | .setpointWrite .. => 11
  | .thermalSetpointUpdate .. => 11
  | .fanStall .. => 11
  | .lightLoss .. => 12
  | .portDown .. => 12
  | .linkFault .. => 12
  | .portUp .. => 12
  | .portReadyRepeat .. => 12
  | .wrapPortDown .. => 12
  | .wrapPortReady .. => 12
  | .unwrapOrder .. => 12
  | .unwrapInstant .. => 12
  | .censusRequestNotice .. => 12
  | .censusRequest .. => 12
  | .census .. => 12
  | .censusTimeout .. => 12
  | .censusRetry .. => 12
  | .censusResult .. => 12
  | .censusResultTimeout .. => 12
  | .censusEffective .. => 12
  | .censusReply .. => 12
  | .censusReplyTimeout .. => 12
  | .slotForward .. => 12
  | .damagedSlot .. => 12
  | .queueBooksCheck .. => 12
  | .slotSyncReached .. => 12
  | .ringDownTimeout .. => 12
  | .precision .. => 12
  | .current .. => 12
  | .wideband .. => 12
  | .bulk .. => 12
  | .laneFrameCopy .. => 13
  | .voteWindowExpiry .. => 13
  | .frameSent .. => 13
  | .busNotice .. => 13
  | .errorPassive .. => 13
  | .busOff .. => 13
  | .busOffHoldoffExpiry .. => 13
  | .busRecover .. => 13
  | .busOffRecoveryDone .. => 13
  | .busEnable .. => 13
  | .lonely .. => 13
  | .lonelyRetry .. => 13
  | .mailboxBooksCheck .. => 13
  | .controlBusesLost .. => 13
  | .status .. => 13
  | .statusSend .. => 13
  | .heartbeatSend .. => 13
  | .heartbeat .. => 13
  | .heartbeatPeriodEnd .. => 13
  | .pxRead .. => 14
  | .pxWrite .. => 14
  | .registerWrite .. => 14
  | .rwpWriteDone .. => 14
  | .pxBlockRead .. => 14
  | .pxBlockWrite .. => 14
  | .pxSegment .. => 14
  | .pxAck .. => 14
  | .pxEnd .. => 14
  | .pxAbort .. => 14
  | .pxResponse .. => 14
  | .blockAckTimeout .. => 14
  | .blockIdleTimeout .. => 14
  | .pxResponseStoreExpiry .. => 14
  | .pubAreaPoll .. => 14
  | .directoryStale .. => 14
  | .pointLimitsReport .. => 14
  | .changeLogCopy .. => 14
  | .auxLoss .. => 15
  | .abdicate .. => 15
  | .headFailureWaitExpiry .. => 15
  | .abdicateLoopHoldExpiry .. => 15
  | .checkpointSend .. => 15
  | .checkpoint .. => 15
  | .checkpointAck .. => 15
  | .checkpointLag .. => 15
  | .handoverCommand .. => 15
  | .handoverTimeout .. => 15
  | .laneTokenTimeout .. => 15
  | .clockMonitor .. => 15
  | .registerVote .. => 15
  | .voterSelfTest .. => 15
  | .laneEccError .. => 15
  | .tripDriverCheck .. => 15
  | .sourceRaise .. => 15
  | .carriedFaultWrite .. => 15
  | .fcuScan .. => 15
  | .collectorTest .. => 15
  | .collectorTestRelease .. => 15
  | .firstMoveClear .. => 15
  | .faultPendingClear .. => 15
  | .severityWrite .. => 15
  | .sentFrame .. => 16
  | .sentTimeout .. => 16
  | .sentWarmupEnd .. => 16
  | .sentEnable .. => 16
  | .sentChannelCheck .. => 16
  | .captureTrig .. => 17
  | .recorderSample .. => 17
  | .recorderStage .. => 17
  | .recorderRangeWrite .. => 17
  | .recClear .. => 17
  | .episodeWrite .. => 17
  | .dayClose .. => 17
  | .scrubPassEnd .. => 17
  | .scrubOverdue .. => 17
  | .captureMemoryEcc .. => 17
  | .captureTrigger .. => 17
  | .captureAngleArm .. => 17
  | .captureRecordClose .. => 17
  | .captureBooksCheck .. => 17
  | .captureReadout .. => 17
  | .captureReadoutDone .. => 17
  | .captureRelease .. => 17
  | .norWriteFail .. => 17
  | .changeLogNorTimeout .. => 17
  | .packIdentityWrite .. => 17
  | .packMemoryTransferDone .. => 17
  | .mgmtSensorRead .. => 18
  | .supplyMonitor .. => 18
  | .mgmtTokenTimeout .. => 18
  | .mgmtRestartDone .. => 18
  | .calendarSet .. => 18
  | .sessionChallenge .. => 18
  | .sessionOpen .. => 18
  | .sessionClose .. => 18
  | .sessionTimeout .. => 18
  | .authLockoutExpiry .. => 18
  | .roleKeyWrap .. => 18
  | .signingKeyRevoke .. => 18
  | .updateManifest .. => 18
  | .sectorEraseDone .. => 18
  | .updateBlock .. => 18
  | .blockProgramDone .. => 18
  | .updateVerifyDone .. => 18
  | .updateAbort .. => 18
  | .updateActivate .. => 18
  | .trialConfirm .. => 18
  | .calStart .. => 18
  | .calAbort .. => 18
  | .calVisitEnd .. => 18
  | .calVerifyDone .. => 18
  | .usbFrame .. => 18

end Sys2Proof

namespace Sys2Proof.Machine

/-- The outcome is a next state: neither a fault nor a refusal. -/
def completes (o : Host.Outcome State Fault Refusal) : Prop := ∃ s, o = .next s

/-- Safe for `k` steps: no fault and no refusal on the way. -/
def safeFor : Nat → State → Prop
  | 0, _ => True
  | k + 1, s => ∃ s', step s = .next s' ∧ safeFor k s'

/-- The components of the state beside the instant and the queue. -/
inductive Part where
  | ringOffset | dict | pm | out | trngCount | ident | supply | md | tm | meas | aux | itg
  | bal | hio | est | lp | ring | can | px | flt | sent | rcd | mgmt
  deriving DecidableEq, Repr

/-- Two states agree in a component. -/
def Part.same (p : Part) (s s' : State) : Prop :=
  match p with
  | .ringOffset => s'.ringOffset = s.ringOffset
  | .dict => s'.dict = s.dict
  | .pm => s'.pm = s.pm
  | .out => s'.out = s.out
  | .trngCount => s'.trngCount = s.trngCount
  | .ident => s'.ident = s.ident
  | .supply => s'.supply = s.supply
  | .md => s'.md = s.md
  | .tm => s'.tm = s.tm
  | .meas => s'.meas = s.meas
  | .aux => s'.aux = s.aux
  | .itg => s'.itg = s.itg
  | .bal => s'.bal = s.bal
  | .hio => s'.hio = s.hio
  | .est => s'.est = s.est
  | .lp => s'.lp = s.lp
  | .ring => s'.ring = s.ring
  | .can => s'.can = s.can
  | .px => s'.px = s.px
  | .flt => s'.flt = s.flt
  | .sent => s'.sent = s.sent
  | .rcd => s'.rcd = s.rcd
  | .mgmt => s'.mgmt = s.mgmt

end Sys2Proof.Machine

namespace Sys2Proof
open Sys2Proof.Machine

/-- The components that a command may change, beside the instant: a component that is not listed stays as it was, whatever the command
meets. Object values are one component (`dict`), told apart by `Instr.objects`; the rows that raise a source list what a raising may bring with it (R586). -/
def Instr.parts (i : Instr) : List Part :=
  match i with
  | .descriptorAnnounce .. => [.ident, .can]
  | .descriptorAnnounceRepeat .. => [.dict, .ident, .can]
  | .descriptorDecision .. => [.ringOffset, .dict, .out, .ident, .tm, .meas, .hio, .ring, .can, .flt, .rcd]
  | .headClaim .. => [.ident, .can]
  | .claimWaitExpiry .. => [.dict, .trngCount, .ident, .can]
  | .rollOffOpen .. => [.dict, .trngCount, .ident, .can]
  | .rollOffDraw .. => [.ident, .can]
  | .rollOffRoundClose .. => [.ringOffset, .dict, .out, .trngCount, .ident, .md, .tm, .meas, .bal, .hio, .ring, .can, .flt, .rcd, .mgmt]
  | .electionRetry .. => [.dict, .ident, .can]
  | .preEnumBackoffExpiry .. => [.ident]
  | .descCommit .. => [.dict, .pm, .out, .ident, .md, .tm, .meas, .bal, .hio, .ring, .can, .px, .flt, .rcd, .mgmt]
  | .descDistribution .. => [.dict, .pm, .out, .ident, .ring, .can, .px]
  | .descWriteAck .. => [.ident]
  | .descCommitTimeout .. => [.ident]
  | .adoptPack .. => [.dict, .out, .ident, .md, .tm, .meas, .bal, .hio, .ring, .can, .px, .flt, .rcd, .mgmt]
  | .descErase .. => [.dict, .pm, .out, .ident, .md, .tm, .meas, .bal, .hio, .ring, .can, .px, .flt, .rcd, .mgmt]
  | .standbyDesignate .. => [.ident, .flt]
  | .lateJoinRound .. => [.dict, .ident, .can]
  | .joinOpen .. => [.dict, .trngCount, .ident, .can]
  | .join .. => [.ident, .can]
  | .lateJoinRoundClose .. => [.dict, .pm, .out, .ident, .md, .tm, .meas, .bal, .hio, .ring, .can, .flt, .rcd, .mgmt]
  | .nodeAssign .. => [.dict, .ident, .can]
  | .assignAck .. => [.dict, .ident, .ring, .can]
  | .assignAckTimeout .. => [.dict, .ident, .can]
  | .enumerationCloseDeadline .. => [.dict, .ident, .can]
  | .enumerationClose .. => [.dict, .ident, .can]
  | .busRateSwitch .. => [.dict, .out, .ident, .md, .tm, .meas, .bal, .hio, .ring, .can, .flt, .rcd, .mgmt]
  | .rateScan .. => [.ident, .can]
  | .j4PresenceCheck .. => [.dict, .out, .ident, .supply, .md, .tm, .meas, .bal, .hio, .ring, .can, .flt, .rcd, .mgmt]
  | .unusedChannelCheck .. => [.dict, .out, .ident, .supply, .md, .tm, .meas, .bal, .hio, .ring, .can, .flt, .rcd, .mgmt]
  | .populatedCellsWrite .. => [.dict, .out, .ident, .md, .tm, .meas, .bal, .hio, .ring, .can, .px, .flt, .rcd, .mgmt]
  | .populatedCellsApply .. => [.dict, .supply, .meas, .itg, .bal]
  | .sentSupplyLimit .. => [.dict, .supply, .sent]
  | .sentSupplyRetry .. => [.dict, .out, .ident, .supply, .md, .tm, .meas, .bal, .hio, .ring, .can, .flt, .sent, .rcd, .mgmt]
  | .valveOpenDetect .. => [.dict, .supply, .lp, .flt]
  | .valveLoopFault .. => [.dict, .out, .ident, .md, .tm, .meas, .bal, .hio, .lp, .ring, .can, .flt, .rcd, .mgmt]
  | .transferExportCutoff .. => [.dict, .supply, .bal]
  | .transferImportCutoff .. => [.dict, .supply, .bal]
  | .wakeLoopbackTest .. => [.dict, .supply, .sent]
  | .wakeLoopbackEnd .. => [.dict, .out, .ident, .supply, .md, .tm, .meas, .bal, .hio, .ring, .can, .flt, .sent, .rcd, .mgmt]
  | .usbAttach .. => [.mgmt]
  | .usbDetach .. => [.mgmt]
  | .moduleReady .. => [.dict, .out, .ident, .supply, .md, .tm, .meas, .aux, .itg, .bal, .hio, .ring, .can, .flt, .sent, .rcd, .mgmt]
  | .startUp .. => [.ringOffset, .dict, .pm, .out, .ident, .supply, .md, .tm, .meas, .aux, .itg, .bal, .hio, .est, .lp, .ring, .can, .px,
      .flt, .sent, .rcd, .mgmt]
  | .captureInitDone .. => [.dict, .out, .ident, .md, .tm, .meas, .aux, .itg, .bal, .hio, .ring, .can, .flt, .rcd, .mgmt]
  | .wake .. => [.dict, .md, .est]
  | .aux24Present .. => [.dict, .ident, .supply, .md, .tm, .meas, .bal, .hio, .ring, .flt, .sent, .rcd, .mgmt]
  | .aux24Loss .. => [.dict, .out, .supply, .md, .bal, .hio, .est, .ring, .can, .sent, .rcd, .mgmt]
  | .holdupStep4End .. => [.dict, .pm, .ident, .md, .tm, .bal, .hio, .est, .ring, .can, .px, .flt, .rcd, .mgmt]
  | .maintPermitGrant .. => [.dict, .out, .ident, .md, .tm, .meas, .itg, .bal, .hio, .ring, .can, .px, .flt, .rcd, .mgmt]
  | .maintPermitEnd .. => [.dict, .out, .ident, .md, .tm, .meas, .itg, .bal, .hio, .ring, .can, .px, .flt, .rcd, .mgmt]
  | .maintPermitExpiry .. => [.dict, .md, .meas, .itg, .bal, .rcd, .mgmt]
  | .safeExit .. => [.dict, .out, .ident, .md, .tm, .meas, .bal, .hio, .ring, .can, .px, .flt, .rcd, .mgmt]
  | .shipArm .. => [.dict, .out, .ident, .md, .tm, .meas, .bal, .hio, .ring, .can, .px, .flt, .rcd, .mgmt]
  | .shipDisarm .. => [.dict, .out, .ident, .md, .tm, .meas, .bal, .hio, .ring, .can, .px, .flt, .rcd, .mgmt]
  | .shipArmLapse .. => [.md]
  | .keepaliveReading .. => [.md]
  | .keepaliveWatchdog .. => [.md]
  | .powerCycleTimerExpiry .. => [.md]
  | .stackCollapse .. => [.dict, .out, .ident, .md, .tm, .meas, .aux, .itg, .bal, .hio, .ring, .can, .flt, .rcd, .mgmt]
  | .thermalSensorRead .. => [.dict, .out, .ident, .md, .tm, .meas, .aux, .itg, .bal, .hio, .ring, .can, .flt, .rcd, .mgmt]
  | .timeRecordSend .. => [.dict, .out, .ring]
  | .time .. => [.ringOffset, .dict, .out, .tm, .ring]
  | .timeHoldover .. => [.tm]
  | .timeUnsynced .. => [.dict, .out, .ident, .md, .tm, .meas, .aux, .bal, .hio, .ring, .can, .flt, .rcd, .mgmt]
  | .delayReqSend .. => [.out, .ring]
  | .delayReq .. => [.out, .ring]
  | .delayResp .. => [.dict, .ring]
  | .syncEdge .. => [.tm]
  | .pcsAngle .. => [.dict, .out, .tm, .ring]
  | .spinnerSourceLost .. => [.dict, .tm, .meas, .aux]
  | .spinnerSourceReturn .. => [.dict, .tm, .meas, .aux]
  | .spinnerRecordSend .. => [.dict, .out, .tm, .ring]
  | .spinner .. => [.dict, .out, .tm, .meas, .aux, .ring]
  | .precisionMRecompute .. => [.tm, .meas]
  | .windowAnchor .. => [.dict, .meas, .aux]
  | .angleComparatorFire .. => [.dict, .out, .ident, .md, .tm, .meas, .bal, .hio, .ring, .can, .flt, .rcd, .mgmt]
  | .shadowLowRead .. => [.out, .tm]
  | .shadowHighRead .. => [.dict, .out]
  | .shadowExpiry .. => [.tm]
  | .crossingStatusClear .. => [.dict, .out, .ident, .md, .tm, .meas, .bal, .hio, .ring, .can, .px, .flt, .rcd, .mgmt]
  | .refCrossCheck .. => [.dict, .out, .ident, .md, .tm, .meas, .bal, .hio, .ring, .can, .flt, .rcd, .mgmt]
  | .precisionChannelFail .. => [.dict, .out, .ident, .md, .tm, .meas, .bal, .hio, .ring, .can, .flt, .rcd, .mgmt]
  | .modulatorOverload .. => [.dict, .meas]
  | .precisionWindowEnd .. => [.dict, .out, .ident, .md, .tm, .meas, .aux, .itg, .bal, .hio, .est, .ring, .can, .px, .flt, .rcd, .mgmt]
  | .widebandOutput .. => [.dict, .out, .tm, .meas, .est, .lp, .ring, .flt, .rcd]
  | .standardOutput .. => [.dict, .out, .meas, .est, .ring]
  | .routineTrigger .. => [.dict, .meas, .aux, .itg, .bal, .rcd]
  | .hostRegTrigger .. => [.dict, .tm, .meas, .aux, .itg, .bal, .rcd]
  | .hostRegStart .. => [.dict, .out, .ident, .md, .tm, .meas, .aux, .itg, .bal, .hio, .ring, .can, .px, .flt, .rcd, .mgmt]
  | .injTrigger .. => [.dict, .tm, .meas, .aux, .itg, .bal, .rcd]
  | .auxConversionDone .. => [.dict, .out, .ident, .md, .tm, .meas, .aux, .itg, .bal, .hio, .est, .ring, .can, .flt, .rcd, .mgmt]
  | .blankWindowOpen .. => [.dict, .meas, .aux, .itg, .bal, .rcd]
  | .blankWaitTimeout .. => [.dict, .meas, .aux, .itg, .bal, .rcd]
  | .pawnVisit .. => [.dict, .meas, .aux, .itg, .bal, .rcd]
  | .pawnAbandon .. => [.dict, .aux]
  | .balctrlWrite .. => [.dict, .out, .ident, .md, .tm, .meas, .aux, .bal, .hio, .ring, .can, .px, .flt, .rcd, .mgmt]
  | .balctrlExpiry .. => [.dict, .aux, .bal]
  | .owtTestStart .. => [.dict, .out, .ident, .md, .tm, .meas, .aux, .itg, .bal, .hio, .ring, .can, .flt, .rcd, .mgmt]
  | .owtRetest .. => [.dict, .meas, .aux, .itg, .bal, .rcd]
  | .owtRoundOverdue .. => [.dict, .out, .ident, .md, .tm, .meas, .itg, .bal, .hio, .ring, .can, .flt, .rcd, .mgmt]
  | .dualPathCheck .. => [.dict, .out, .ident, .md, .tm, .meas, .aux, .itg, .bal, .hio, .ring, .can, .flt, .rcd, .mgmt]
  | .stackSupplyAbsent .. => [.dict, .out, .ident, .md, .tm, .meas, .itg, .bal, .hio, .ring, .can, .flt, .rcd, .mgmt]
  | .balPlanCompute .. => [.dict, .out, .ident, .md, .tm, .meas, .bal, .hio, .ring, .can, .flt, .rcd, .mgmt]
  | .plan .. => [.dict, .out, .ident, .md, .tm, .meas, .bal, .hio, .ring, .can, .px, .flt, .rcd, .mgmt]
  | .report .. => [.dict, .out, .bal, .ring]
  | .balanceLeaseExpiry .. => [.dict, .out, .ident, .md, .tm, .meas, .bal, .hio, .ring, .can, .flt, .rcd, .mgmt]
  | .flybackReselect .. => [.dict, .bal, .est, .lp]
  | .balTargetReached .. => [.bal, .est]
  | .balBooksCheck .. => [.dict, .out, .ident, .md, .tm, .meas, .bal, .hio, .ring, .can, .flt, .rcd, .mgmt]
  | .balBusUndervoltage .. => [.bal]
  | .balBusOvervoltage .. => [.bal]
  | .balBusFault .. => [.dict, .out, .ident, .md, .tm, .meas, .bal, .hio, .ring, .can, .flt, .rcd, .mgmt]
  | .flybackImplausible .. => [.dict, .out, .ident, .md, .tm, .meas, .bal, .hio, .ring, .can, .flt, .rcd, .mgmt]
  | .transferImplausible .. => [.dict, .out, .ident, .md, .tm, .meas, .bal, .hio, .ring, .can, .flt, .rcd, .mgmt]
  | .bleederImplausible .. => [.dict, .out, .ident, .md, .tm, .meas, .bal, .hio, .ring, .can, .flt, .rcd, .mgmt]
  | .shortCircuitTrip .. => [.dict, .out, .ident, .md, .tm, .meas, .aux, .itg, .bal, .hio, .ring, .can, .flt, .rcd, .mgmt]
  | .currentCheck .. => [.dict, .out, .ident, .md, .tm, .meas, .aux, .itg, .bal, .hio, .ring, .can, .flt, .rcd, .mgmt]
  | .currentChannelFault .. => [.dict, .out, .ident, .md, .tm, .meas, .aux, .itg, .bal, .hio, .ring, .can, .flt, .rcd, .mgmt]
  | .stringVoltageCheck .. => [.dict, .out, .ident, .md, .tm, .meas, .aux, .itg, .bal, .hio, .ring, .can, .flt, .rcd, .mgmt]
  | .isoStateEnd .. => [.dict, .out, .ident, .md, .tm, .meas, .aux, .itg, .bal, .hio, .ring, .can, .flt, .rcd, .mgmt]
  | .tripLoopLoss .. => [.dict, .out, .md, .meas, .bal, .hio, .ring, .can, .rcd, .mgmt]
  | .tripNoticeWaitExpiry .. => [.dict, .out, .hio, .ring, .can]
  | .protectionDelayExpiry .. => [.dict, .out, .ident, .md, .tm, .meas, .aux, .itg, .bal, .hio, .ring, .can, .flt, .rcd, .mgmt]
  | .protectionRelease .. => [.dict, .out, .ident, .md, .tm, .meas, .bal, .hio, .ring, .can, .flt, .rcd, .mgmt]
  | .openReqRepeat .. => [.dict, .out, .hio, .ring, .can]
  | .openReq .. => [.dict, .out, .ident, .md, .tm, .meas, .aux, .itg, .bal, .hio, .ring, .can, .flt, .rcd, .mgmt]
  | .openReqHoldExpiry .. => [.dict, .out, .ident, .md, .tm, .meas, .bal, .hio, .ring, .can, .flt, .rcd, .mgmt]
  | .trip .. => [.dict, .out, .ident, .md, .tm, .meas, .aux, .itg, .bal, .hio, .ring, .can, .flt, .rcd, .mgmt]
  | .tripResetCommand .. => [.dict, .out, .ident, .md, .tm, .meas, .bal, .hio, .ring, .can, .px, .flt, .rcd, .mgmt]
  | .tripReset .. => [.dict, .out, .ident, .md, .tm, .meas, .bal, .hio, .ring, .can, .flt, .rcd, .mgmt]
  | .trippedClear .. => [.hio]
  | .contactorClose .. => [.dict, .out, .ident, .md, .tm, .meas, .bal, .hio, .ring, .can, .px, .flt, .rcd, .mgmt]
  | .contactorOpen .. => [.dict, .out, .ident, .md, .tm, .meas, .bal, .hio, .ring, .can, .px, .flt, .rcd, .mgmt]
  | .closingSequenceStep .. => [.dict, .out, .ident, .md, .tm, .meas, .aux, .itg, .bal, .hio, .ring, .can, .flt, .rcd, .mgmt]
  | .prechargeLockoutExpiry .. => [.hio, .flt]
  | .openingSequenceStep .. => [.dict, .out, .ident, .md, .tm, .meas, .aux, .itg, .bal, .hio, .ring, .can, .flt, .rcd, .mgmt]
  | .coilShortCircuit .. => [.dict, .out, .ident, .md, .tm, .meas, .aux, .itg, .bal, .hio, .ring, .can, .flt, .rcd, .mgmt]
  | .coilOpenLoad .. => [.dict, .out, .ident, .md, .tm, .meas, .aux, .itg, .bal, .hio, .ring, .can, .flt, .rcd, .mgmt]
  | .releaseSend .. => [.dict, .out, .ident, .ring]
  | .release .. => [.dict, .out, .md, .meas, .bal, .hio, .ring, .rcd, .mgmt]
  | .pcsLimitPeriod .. => [.dict, .out, .hio, .ring, .can]
  | .protectionSetWrite .. => [.dict, .out, .ident, .md, .tm, .meas, .bal, .hio, .ring, .can, .px, .flt, .rcd, .mgmt]
  | .protSetCrcCheck .. => [.dict, .out, .hio, .ring]
  | .chargeCount .. => [.est]
  | .countGap .. => [.dict, .est]
  | .countHold .. => [.dict, .out, .ident, .md, .tm, .meas, .bal, .hio, .est, .ring, .can, .flt, .rcd, .mgmt]
  | .voltageCheck .. => [.dict, .out, .ident, .md, .tm, .meas, .bal, .hio, .est, .ring, .can, .flt, .rcd, .mgmt]
  | .firstEstimate .. => [.dict, .est]
  | .initialTimeout .. => [.est]
  | .restPoint .. => [.dict, .out, .ident, .md, .tm, .meas, .bal, .hio, .est, .ring, .can, .flt, .rcd, .mgmt]
  | .socRecordWrite .. => [.dict, .est, .rcd]
  | .capacityRecordWrite .. => [.dict, .est, .rcd]
  | .recordWriteRetry .. => [.dict, .est, .rcd]
  | .recordReadback .. => [.dict, .out, .ident, .md, .tm, .meas, .bal, .hio, .est, .ring, .can, .flt, .rcd, .mgmt]
  | .loadStep .. => [.est]
  | .stepWindowEnd .. => [.dict, .est]
  | .impedanceBlock .. => [.est]
  | .sdEpisodeStart .. => [.est]
  | .sdWindowEnd .. => [.dict, .out, .ident, .md, .tm, .meas, .bal, .hio, .est, .ring, .can, .flt, .rcd, .mgmt]
  | .socEstSend .. => [.dict, .out, .est, .ring]
  | .capEstSend .. => [.dict, .out, .est, .ring]
  | .socEst .. => [.dict, .out, .est, .ring]
  | .capEst .. => [.dict, .out, .est, .ring]
  | .stringEstimate .. => [.dict]
  | .loopSample .. => [.dict, .out, .ident, .md, .tm, .meas, .bal, .hio, .lp, .ring, .can, .flt, .rcd, .mgmt]
  | .loopEnable .. => [.dict, .out, .ident, .md, .tm, .meas, .bal, .hio, .lp, .ring, .can, .px, .flt, .rcd, .mgmt]
  | .loopDisable .. => [.dict, .out, .ident, .md, .tm, .meas, .bal, .hio, .lp, .ring, .can, .px, .flt, .rcd, .mgmt]
  | .bankWrite .. => [.dict, .out, .ident, .md, .tm, .meas, .bal, .hio, .ring, .can, .px, .flt, .rcd, .mgmt]
  | .bankRequest .. => [.dict, .out, .ident, .md, .tm, .meas, .bal, .hio, .lp, .ring, .can, .px, .flt, .rcd, .mgmt]
  | .inputBindWrite .. => [.dict, .out, .ident, .md, .tm, .meas, .bal, .hio, .ring, .can, .px, .flt, .rcd, .mgmt]
  | .outputBindWrite .. => [.dict, .out, .ident, .md, .tm, .meas, .bal, .hio, .ring, .can, .px, .flt, .rcd, .mgmt]
  | .setpointWrite .. => [.dict, .out, .ident, .md, .tm, .meas, .bal, .hio, .ring, .can, .px, .flt, .rcd, .mgmt]
  | .thermalSetpointUpdate .. => [.dict]
  | .fanStall .. => [.dict, .out, .ident, .md, .tm, .meas, .bal, .hio, .lp, .ring, .can, .flt, .rcd, .mgmt]
  | .lightLoss .. => [.ring]
  | .portDown .. => [.dict, .out, .ring, .can]
  | .linkFault .. => [.dict, .out, .ring, .can]
  | .portUp .. => [.dict, .out, .ring, .can, .flt]
  | .portReadyRepeat .. => [.dict, .out, .ring, .can]
  | .wrapPortDown .. => [.dict, .out, .ident, .md, .tm, .meas, .bal, .hio, .ring, .can, .flt, .rcd, .mgmt]
  | .wrapPortReady .. => [.dict, .out, .ident, .md, .tm, .meas, .bal, .hio, .ring, .can, .flt, .rcd, .mgmt]
  | .unwrapOrder .. => [.dict, .out, .ident, .md, .tm, .meas, .bal, .hio, .ring, .can, .flt, .rcd, .mgmt]
  | .unwrapInstant .. => [.dict, .out, .ring]
  | .censusRequestNotice .. => [.dict, .out, .ident, .md, .tm, .meas, .bal, .hio, .ring, .can, .flt, .rcd, .mgmt]
  | .censusRequest .. => [.dict, .out, .ident, .md, .tm, .meas, .bal, .hio, .ring, .can, .px, .flt, .rcd, .mgmt]
  | .census .. => [.dict, .out, .ident, .md, .tm, .meas, .bal, .hio, .ring, .can, .flt, .rcd, .mgmt]
  | .censusTimeout .. => [.dict, .pm, .out, .ident, .md, .tm, .meas, .aux, .itg, .bal, .hio, .ring, .can, .flt, .rcd, .mgmt]
  | .censusRetry .. => [.dict, .out, .ring]
  | .censusResult .. => [.dict, .out, .ring]
  | .censusResultTimeout .. => [.ring]
  | .censusEffective .. => [.dict, .out, .ident, .ring, .flt]
  | .censusReply .. => [.dict, .pm, .out, .ident, .md, .tm, .meas, .aux, .itg, .bal, .hio, .ring, .can, .flt, .rcd, .mgmt]
  | .censusReplyTimeout .. => [.dict, .pm, .out, .ident, .md, .tm, .meas, .aux, .itg, .bal, .hio, .ring, .can, .flt, .rcd, .mgmt]
  | .slotForward .. => [.dict, .out, .ring]
  | .damagedSlot .. => [.dict, .out, .ident, .md, .tm, .meas, .aux, .itg, .bal, .hio, .ring, .can, .flt, .rcd, .mgmt]
  | .queueBooksCheck .. => [.dict, .out, .ident, .md, .tm, .meas, .aux, .itg, .bal, .hio, .ring, .can, .flt, .rcd, .mgmt]
  | .slotSyncReached .. => [.ring]
  | .ringDownTimeout .. => [.dict, .out, .ident, .md, .tm, .meas, .aux, .itg, .bal, .hio, .ring, .can, .flt, .rcd, .mgmt]
  | .precision .. => [.dict, .out, .ring]
  | .current .. => [.dict, .out, .est, .lp, .ring, .flt, .rcd]
  | .wideband .. => [.dict, .out, .ring, .rcd]
  | .bulk .. => [.dict, .out, .ring]
  | .laneFrameCopy .. => [.dict, .out, .ident, .md, .tm, .meas, .aux, .itg, .bal, .hio, .ring, .can, .flt, .rcd, .mgmt]
  | .voteWindowExpiry .. => [.dict, .out, .ident, .md, .tm, .meas, .aux, .itg, .bal, .hio, .ring, .can, .flt, .rcd, .mgmt]
  | .frameSent .. => [.dict, .out, .trngCount, .ident, .md, .tm, .meas, .aux, .itg, .bal, .hio, .ring, .can, .flt, .rcd, .mgmt]
  | .busNotice .. => [.ringOffset, .dict, .out, .ident, .md, .tm, .meas, .aux, .itg, .bal, .hio, .lp, .ring, .can, .flt, .rcd, .mgmt]
  | .errorPassive .. => [.dict, .can]
  | .busOff .. => [.dict, .out, .ident, .md, .tm, .meas, .aux, .itg, .bal, .hio, .ring, .can, .flt, .rcd, .mgmt]
  | .busOffHoldoffExpiry .. => [.can]
  | .busRecover .. => [.dict, .out, .ident, .md, .tm, .meas, .bal, .hio, .ring, .can, .px, .flt, .rcd, .mgmt]
  | .busOffRecoveryDone .. => [.can, .flt]
  | .busEnable .. => [.dict, .out, .ident, .md, .tm, .meas, .bal, .hio, .ring, .can, .px, .flt, .rcd, .mgmt]
  | .lonely .. => [.dict, .out, .ident, .md, .tm, .meas, .aux, .itg, .bal, .hio, .ring, .can, .flt, .rcd, .mgmt]
  | .lonelyRetry .. => [.can]
  | .mailboxBooksCheck .. => [.dict, .out, .ident, .md, .tm, .meas, .aux, .itg, .bal, .hio, .ring, .can, .flt, .rcd, .mgmt]
  | .controlBusesLost .. => [.dict, .out, .ident, .md, .tm, .meas, .aux, .itg, .bal, .hio, .ring, .can, .flt, .rcd, .mgmt]
  | .status .. => [.dict, .out, .ident, .md, .tm, .meas, .aux, .itg, .bal, .hio, .ring, .can, .flt, .rcd, .mgmt]
  | .statusSend .. => [.dict, .out, .ring, .can]
  | .heartbeatSend .. => [.dict, .out, .ring, .can]
  | .heartbeat .. => [.dict, .out, .ident, .md, .tm, .meas, .aux, .itg, .bal, .hio, .ring, .can, .flt, .rcd, .mgmt]
  | .heartbeatPeriodEnd .. => [.ringOffset, .dict, .out, .ident, .md, .tm, .meas, .aux, .itg, .bal, .hio, .lp, .ring, .can, .flt, .rcd, .mgmt]
  | .pxRead .. => [.dict, .out, .trngCount, .ident, .md, .tm, .meas, .bal, .hio, .ring, .can, .px, .flt, .rcd, .mgmt]
  | .pxWrite .. => [.dict, .pm, .out, .ident, .md, .tm, .meas, .aux, .itg, .bal, .hio, .est, .lp, .ring, .can, .px, .flt, .rcd, .mgmt]
  | .registerWrite .. => [.dict, .pm, .out, .ident, .md, .tm, .meas, .aux, .itg, .bal, .hio, .est, .lp, .ring, .can, .px, .flt, .rcd, .mgmt]
  | .rwpWriteDone .. => [.dict, .pm, .out, .ident, .supply, .md, .tm, .meas, .bal, .hio, .lp, .ring, .can, .px, .flt, .sent, .rcd, .mgmt]
  | .pxBlockRead .. => [.dict, .out, .ident, .md, .tm, .meas, .bal, .hio, .ring, .can, .px, .flt, .rcd, .mgmt]
  | .pxBlockWrite .. => [.dict, .out, .ident, .md, .tm, .meas, .bal, .hio, .ring, .can, .px, .flt, .rcd, .mgmt]
  | .pxSegment .. => [.dict, .out, .ring, .can, .px]
  | .pxAck .. => [.dict, .out, .ident, .md, .tm, .meas, .bal, .hio, .ring, .can, .px, .flt, .rcd, .mgmt]
  | .pxEnd .. => [.dict, .pm, .out, .ident, .md, .tm, .meas, .aux, .itg, .bal, .hio, .est, .lp, .ring, .can, .px, .flt, .rcd, .mgmt]
  | .pxAbort .. => [.dict, .out, .ident, .md, .tm, .meas, .bal, .hio, .ring, .can, .px, .flt, .rcd, .mgmt]
  | .pxResponse .. => [.dict, .out, .hio, .ring]
  | .blockAckTimeout .. => [.dict, .out, .ring, .can, .px]
  | .blockIdleTimeout .. => [.dict, .px]
  | .pxResponseStoreExpiry .. => [.px]
  | .pubAreaPoll .. => [.dict, .out, .ring, .px]
  | .directoryStale .. => [.px]
  | .pointLimitsReport .. => [.dict, .out, .ring, .px]
  | .changeLogCopy .. => [.dict, .out, .ident, .md, .tm, .meas, .bal, .hio, .ring, .can, .flt, .rcd, .mgmt]
  | .auxLoss .. => [.dict, .out, .ident, .md, .tm, .meas, .bal, .hio, .ring, .can, .flt, .rcd, .mgmt]
  | .abdicate .. => [.ringOffset, .dict, .out, .ident, .md, .tm, .meas, .aux, .itg, .bal, .hio, .lp, .ring, .can, .flt, .rcd, .mgmt]
  | .headFailureWaitExpiry .. => [.dict, .ident, .md, .meas, .bal, .can, .flt, .rcd, .mgmt]
  | .abdicateLoopHoldExpiry .. => [.ident, .md, .tm, .hio, .ring, .flt]
  | .checkpointSend .. => [.dict, .out, .ident, .md, .tm, .meas, .aux, .itg, .bal, .hio, .ring, .can, .flt, .rcd, .mgmt]
  | .checkpoint .. => [.dict, .out, .ident, .md, .tm, .meas, .bal, .hio, .ring, .can, .flt, .rcd, .mgmt]
  | .checkpointAck .. => [.dict, .out, .ident, .ring, .can, .flt]
  | .checkpointLag .. => [.dict, .out, .ident, .md, .tm, .meas, .aux, .itg, .bal, .hio, .ring, .can, .flt, .rcd, .mgmt]
  | .handoverCommand .. => [.dict, .out, .ident, .md, .tm, .meas, .bal, .hio, .ring, .can, .px, .flt, .rcd, .mgmt]
  | .handoverTimeout .. => [.dict, .out, .ident, .md, .tm, .meas, .aux, .itg, .bal, .hio, .ring, .can, .flt, .rcd, .mgmt]
  | .laneTokenTimeout .. => [.dict, .out, .ident, .md, .tm, .meas, .aux, .itg, .bal, .hio, .ring, .can, .flt, .rcd, .mgmt]
  | .clockMonitor .. => [.dict, .out, .ident, .md, .tm, .meas, .aux, .itg, .bal, .hio, .ring, .can, .flt, .rcd, .mgmt]
  | .registerVote .. => [.dict, .out, .ident, .supply, .md, .tm, .meas, .aux, .itg, .bal, .hio, .ring, .can, .flt, .rcd, .mgmt]
  | .voterSelfTest .. => [.dict, .out, .ident, .md, .tm, .meas, .aux, .itg, .bal, .hio, .ring, .can, .flt, .rcd, .mgmt]
  | .laneEccError .. => [.dict, .out, .ident, .md, .tm, .meas, .aux, .itg, .bal, .hio, .ring, .can, .flt, .rcd, .mgmt]
  | .tripDriverCheck .. => [.dict, .out, .ident, .md, .tm, .meas, .aux, .itg, .bal, .hio, .ring, .can, .flt, .rcd, .mgmt]
  | .sourceRaise .. => [.dict, .out, .ident, .md, .tm, .meas, .aux, .itg, .bal, .hio, .ring, .can, .flt, .rcd, .mgmt]
  | .carriedFaultWrite .. => [.flt, .rcd]
  | .fcuScan .. => [.dict, .out, .ident, .md, .tm, .meas, .aux, .itg, .bal, .hio, .ring, .can, .flt, .rcd, .mgmt]
  | .collectorTest .. => [.dict, .out, .ident, .md, .tm, .meas, .aux, .itg, .bal, .hio, .ring, .can, .flt, .rcd, .mgmt]
  | .collectorTestRelease .. => [.flt]
  | .firstMoveClear .. => [.dict, .out, .ident, .md, .tm, .meas, .bal, .hio, .ring, .can, .px, .flt, .rcd, .mgmt]
  | .faultPendingClear .. => [.dict, .out, .ident, .md, .tm, .meas, .bal, .hio, .ring, .can, .px, .flt, .rcd, .mgmt]
  | .severityWrite .. => [.dict, .out, .ident, .md, .tm, .meas, .bal, .hio, .ring, .can, .px, .flt, .rcd, .mgmt]
  | .sentFrame .. => [.dict, .sent]
  | .sentTimeout .. => [.dict, .sent]
  | .sentWarmupEnd .. => [.sent]
  | .sentEnable .. => [.dict, .out, .ident, .md, .tm, .meas, .bal, .hio, .ring, .can, .px, .flt, .rcd, .mgmt]
  | .sentChannelCheck .. => [.dict, .out, .ident, .md, .tm, .meas, .bal, .hio, .ring, .can, .flt, .sent, .rcd, .mgmt]
  | .captureTrig .. => [.dict, .out, .meas, .aux, .itg, .bal, .ring, .can, .rcd]
  | .recorderSample .. => [.rcd]
  | .recorderStage .. => [.dict, .out, .ident, .md, .tm, .meas, .bal, .hio, .ring, .can, .flt, .rcd, .mgmt]
  | .recorderRangeWrite .. => [.dict, .out, .ident, .md, .tm, .meas, .bal, .hio, .ring, .can, .px, .flt, .rcd, .mgmt]
  | .recClear .. => [.dict, .pm, .out, .ident, .md, .tm, .meas, .bal, .hio, .ring, .can, .px, .flt, .rcd, .mgmt]
  | .episodeWrite .. => [.rcd]
  | .dayClose .. => [.dict, .rcd]
  | .scrubPassEnd .. => [.dict, .out, .ident, .md, .tm, .meas, .bal, .hio, .ring, .can, .flt, .rcd, .mgmt]
  | .scrubOverdue .. => [.dict, .out, .ident, .md, .tm, .meas, .bal, .hio, .ring, .can, .flt, .rcd, .mgmt]
  | .captureMemoryEcc .. => [.dict, .out, .ident, .md, .tm, .meas, .bal, .hio, .ring, .can, .flt, .rcd, .mgmt]
  | .captureTrigger .. => [.dict, .out, .ident, .md, .tm, .meas, .aux, .itg, .bal, .hio, .ring, .can, .px, .flt, .rcd, .mgmt]
  | .captureAngleArm .. => [.dict, .out, .ident, .md, .tm, .meas, .bal, .hio, .ring, .can, .px, .flt, .rcd, .mgmt]
  | .captureRecordClose .. => [.dict, .meas, .aux, .itg, .bal, .rcd, .mgmt]
  | .captureBooksCheck .. => [.dict, .out, .ident, .md, .tm, .meas, .bal, .hio, .ring, .can, .flt, .rcd, .mgmt]
  | .captureReadout .. => [.dict, .out, .ident, .md, .tm, .meas, .bal, .hio, .ring, .can, .px, .flt, .rcd, .mgmt]
  | .captureReadoutDone .. => [.dict, .out, .ring, .rcd]
  | .captureRelease .. => [.dict, .out, .ident, .md, .tm, .meas, .bal, .hio, .ring, .can, .px, .flt, .rcd, .mgmt]
  | .norWriteFail .. => [.dict, .out, .ident, .md, .tm, .meas, .bal, .hio, .ring, .can, .flt, .rcd, .mgmt]
  | .changeLogNorTimeout .. => [.dict, .out, .ident, .md, .tm, .meas, .bal, .hio, .ring, .can, .flt, .rcd, .mgmt]
  | .packIdentityWrite .. => [.dict, .out, .ident, .md, .tm, .meas, .bal, .hio, .ring, .can, .px, .flt, .rcd, .mgmt]
  | .packMemoryTransferDone .. => [.dict, .pm, .out, .ident, .md, .tm, .meas, .bal, .hio, .est, .ring, .can, .flt, .rcd, .mgmt]
  | .mgmtSensorRead .. => [.dict, .out, .ident, .md, .tm, .meas, .bal, .hio, .ring, .can, .flt, .rcd, .mgmt]
  | .supplyMonitor .. => [.dict, .out, .ident, .md, .tm, .meas, .bal, .hio, .ring, .can, .flt, .rcd, .mgmt]
  | .mgmtTokenTimeout .. => [.dict, .out, .ident, .md, .tm, .meas, .bal, .hio, .ring, .can, .flt, .rcd, .mgmt]
  | .mgmtRestartDone .. => [.flt, .mgmt]
  | .calendarSet .. => [.dict, .out, .ident, .md, .tm, .meas, .bal, .hio, .ring, .can, .px, .flt, .rcd, .mgmt]
  | .sessionChallenge .. => [.dict, .out, .trngCount, .ident, .md, .tm, .meas, .bal, .hio, .ring, .can, .px, .flt, .rcd, .mgmt]
  | .sessionOpen .. => [.dict, .out, .ident, .md, .tm, .meas, .bal, .hio, .ring, .can, .px, .flt, .rcd, .mgmt]
  | .sessionClose .. => [.dict, .out, .ident, .md, .tm, .meas, .bal, .hio, .ring, .can, .px, .flt, .rcd, .mgmt]
  | .sessionTimeout .. => [.mgmt]
  | .authLockoutExpiry .. => [.flt, .mgmt]
  | .roleKeyWrap .. => [.dict, .out, .ident, .md, .tm, .meas, .bal, .hio, .ring, .can, .px, .flt, .rcd, .mgmt]
  | .signingKeyRevoke .. => [.dict, .out, .ident, .md, .tm, .meas, .bal, .hio, .ring, .can, .px, .flt, .rcd, .mgmt]
  | .updateManifest .. => [.dict, .out, .ident, .md, .tm, .meas, .bal, .hio, .ring, .can, .px, .flt, .rcd, .mgmt]
  | .sectorEraseDone .. => [.dict, .mgmt]
  | .updateBlock .. => [.dict, .out, .ident, .md, .tm, .meas, .bal, .hio, .ring, .can, .px, .flt, .rcd, .mgmt]
  | .blockProgramDone .. => [.dict, .mgmt]
  | .updateVerifyDone .. => [.dict, .out, .ident, .md, .tm, .meas, .bal, .hio, .ring, .can, .flt, .rcd, .mgmt]
  | .updateAbort .. => [.dict, .out, .ident, .md, .tm, .meas, .bal, .hio, .ring, .can, .px, .flt, .rcd, .mgmt]
  | .updateActivate .. => [.dict, .out, .ident, .md, .tm, .meas, .bal, .hio, .est, .ring, .can, .px, .flt, .rcd, .mgmt]
  | .trialConfirm .. => [.dict, .mgmt]
  | .calStart .. => [.dict, .out, .ident, .md, .tm, .meas, .bal, .hio, .ring, .can, .px, .flt, .rcd, .mgmt]
  | .calAbort .. => [.dict, .out, .ident, .md, .tm, .meas, .bal, .hio, .ring, .can, .px, .flt, .rcd, .mgmt]
  | .calVisitEnd .. => [.dict, .meas, .mgmt]
  | .calVerifyDone .. => [.dict, .out, .ident, .md, .tm, .meas, .bal, .hio, .ring, .can, .flt, .rcd, .mgmt]
  | .usbFrame .. => [.dict, .pm, .out, .trngCount, .ident, .md, .tm, .meas, .aux, .itg, .bal, .hio, .est, .lp, .ring, .can, .px, .flt, .rcd, .mgmt]

/-- The objects a raising may write with what it brings with it (R584 to R586). -/
def Machine.Obj.ofRaise : List ObjDef :=
  [Obj.calChannel, Obj.calState, Obj.captureMerged, Obj.captureRefused, Obj.episodeNewest, Obj.faultRaises, Obj.maintPermit, Obj.modeCause,
      Obj.queueDrops, Obj.raiseCount, Obj.recSeq, Obj.txDiscarded, Obj.wrapDrops]

/-- The objects that any write may change beside those of its own effect (R540 to R547, R566, R660). -/
def Machine.Obj.ofWrite : List ObjDef :=
  [Obj.authFailures, Obj.calChannel, Obj.calState, Obj.captureMerged, Obj.captureRefused, Obj.changeLogNewest, Obj.episodeNewest,
      Obj.faultRaises, Obj.maintPermit, Obj.modeCause, Obj.pxDuplicates, Obj.pxErrors, Obj.pxLastError, Obj.pxQueueFull, Obj.pxRequests,
      Obj.queueDrops, Obj.raiseCount, Obj.recSeq, Obj.txDiscarded, Obj.wrapDrops]

/-- The objects of which a command may change a value, whatever it meets; none for the rows through which any object may come: start-up,
the path of every write, the end of a waiting write, and the activation that drops every volatile value (R701). -/
def Instr.objects (i : Instr) : Option (List ObjDef) :=
  match i with
  | .descriptorAnnounce .. => some []
  | .descriptorAnnounceRepeat .. => some [Obj.txDiscarded]
  | .descriptorDecision .. => some [Obj.balEnable, Obj.descFlags, Obj.descHeadPack, Obj.descModuleCount, Obj.descSeq, Obj.descStandbyPack,
      Obj.descStringId, Obj.episodeNewest, Obj.headBasis, Obj.isoAge, Obj.queueDrops, Obj.recSeq, Obj.txDiscarded, Obj.wrapDrops]
  | .headClaim .. => some []
  | .claimWaitExpiry .. => some [Obj.txDiscarded]
  | .rollOffOpen .. => some [Obj.txDiscarded]
  | .rollOffDraw .. => some []
  | .rollOffRoundClose .. => some (Obj.ofRaise ++ [Obj.balEnable, Obj.descFlags, Obj.descHeadPack, Obj.descModuleCount, Obj.descSeq,
      Obj.descStandbyPack, Obj.descStringId, Obj.headBasis, Obj.isoAge])
  | .electionRetry .. => some [Obj.txDiscarded]
  | .preEnumBackoffExpiry .. => some []
  | .descCommit .. => some (Obj.ofWrite ++ [Obj.descFlags, Obj.descHeadPack, Obj.descModuleCount, Obj.descSeq, Obj.descStandbyPack,
      Obj.descStringId])
  | .descDistribution .. => some [Obj.changeLogNewest, Obj.descFlags, Obj.descHeadPack, Obj.descModuleCount, Obj.descSeq, Obj.descStandbyPack,
      Obj.descStringId, Obj.pxErrors, Obj.pxLastError, Obj.queueDrops, Obj.txDiscarded, Obj.wrapDrops]
  | .descWriteAck .. => some []
  | .descCommitTimeout .. => some []
  | .adoptPack .. => some (Obj.ofWrite ++ [Obj.adoptPack])
  | .descErase .. => some Obj.ofWrite
  | .standbyDesignate .. => some []
  | .lateJoinRound .. => some [Obj.txDiscarded]
  | .joinOpen .. => some [Obj.txDiscarded]
  | .join .. => some []
  | .lateJoinRoundClose .. => some (Obj.ofRaise ++ [Obj.descFlags, Obj.descHeadPack, Obj.descModuleCount, Obj.descSeq, Obj.descStandbyPack,
      Obj.descStringId])
  | .nodeAssign .. => some [Obj.membershipGen, Obj.ownNodeId, Obj.txDiscarded]
  | .assignAck .. => some [Obj.txDiscarded]
  | .assignAckTimeout .. => some [Obj.txDiscarded]
  | .enumerationCloseDeadline .. => some [Obj.txDiscarded]
  | .enumerationClose .. => some [Obj.membershipGen]
  | .busRateSwitch .. => some Obj.ofRaise
  | .rateScan .. => some []
  | .j4PresenceCheck .. => some (Obj.ofRaise ++ [Obj.j4Present])
  | .unusedChannelCheck .. => some (Obj.ofRaise ++ [Obj.unusedChannelMax])
  | .populatedCellsWrite .. => some Obj.ofWrite
  | .populatedCellsApply .. => some [Obj.balLimited, Obj.populatedCells, Obj.settleEvents]
  | .sentSupplyLimit .. => some [Obj.sentValue]
  | .sentSupplyRetry .. => some (Obj.ofRaise ++ [Obj.sentValue])
  | .valveOpenDetect .. => some [Obj.valveReadback]
  | .valveLoopFault .. => some Obj.ofRaise
  | .transferExportCutoff .. => some [Obj.aux24Voltage]
  | .transferImportCutoff .. => some [Obj.aux24Voltage]
  | .wakeLoopbackTest .. => some [Obj.sentSlowRestarts]
  | .wakeLoopbackEnd .. => some (Obj.ofRaise ++ [Obj.wakeTestResult])
  | .usbAttach .. => some []
  | .usbDetach .. => some []
  | .moduleReady .. => some (Obj.ofRaise ++ [Obj.auxDeferred, Obj.holdupRemaining, Obj.owtDeferred, Obj.sentValue, Obj.settleEvents])
  | .startUp .. => none
  | .captureInitDone .. => some (Obj.ofRaise ++ [Obj.auxDeferred, Obj.owtDeferred, Obj.settleEvents])
  | .wake .. => some [Obj.startSource]
  | .aux24Present .. => some [Obj.calChannel, Obj.calState, Obj.episodeNewest, Obj.maintPermit, Obj.modeCause, Obj.recSeq, Obj.sentValue,
      Obj.startSource]
  | .aux24Loss .. => some [Obj.capWriteSkips, Obj.fanDuty, Obj.holdupRemaining, Obj.queueDrops, Obj.sentValue, Obj.txDiscarded,
      Obj.updateBlocksReceived, Obj.updateState, Obj.valveCommand, Obj.wrapDrops]
  | .holdupStep4End .. => some [Obj.changeLogPackCopied, Obj.holdupRemaining, Obj.holdupSkips]
  | .maintPermitGrant .. => some (Obj.ofWrite ++ [Obj.chargeLimit, Obj.dischargeLimit])
  | .maintPermitEnd .. => some (Obj.ofWrite ++ [Obj.chargeLimit, Obj.dischargeLimit])
  | .maintPermitExpiry .. => some [Obj.calChannel, Obj.calState, Obj.episodeNewest, Obj.maintPermit, Obj.modeCause, Obj.recSeq]
  | .safeExit .. => some Obj.ofWrite
  | .shipArm .. => some Obj.ofWrite
  | .shipDisarm .. => some Obj.ofWrite
  | .shipArmLapse .. => some []
  | .keepaliveReading .. => some []
  | .keepaliveWatchdog .. => some []
  | .powerCycleTimerExpiry .. => some []
  | .stackCollapse .. => some (Obj.ofRaise ++ [Obj.auxDeferred, Obj.owtDeferred, Obj.settleEvents])
  | .thermalSensorRead .. => some (Obj.ofRaise ++ [Obj.auxDeferred, Obj.balLimited, Obj.derateFraction, Obj.hotspotTemp, Obj.owtDeferred,
      Obj.sensorTemp, Obj.settleEvents])
  | .timeRecordSend .. => some [Obj.queueDrops, Obj.wrapDrops]
  | .time .. => some [Obj.queueDrops, Obj.timeOffset, Obj.wrapDrops]
  | .timeHoldover .. => some []
  | .timeUnsynced .. => some (Obj.ofRaise ++ [Obj.pawnSkips, Obj.settleEvents])
  | .delayReqSend .. => some []
  | .delayReq .. => some []
  | .delayResp .. => some [Obj.linkDelay, Obj.linkDelayEast, Obj.linkDelayWest]
  | .syncEdge .. => some []
  | .pcsAngle .. => some [Obj.queueDrops, Obj.wrapDrops]
  | .spinnerSourceLost .. => some [Obj.pawnSkips, Obj.settleEvents, Obj.sourceChanges]
  | .spinnerSourceReturn .. => some [Obj.pawnSkips, Obj.settleEvents, Obj.sourceChanges]
  | .spinnerRecordSend .. => some [Obj.queueDrops, Obj.spinnerFreq, Obj.wrapDrops]
  | .spinner .. => some [Obj.pawnSkips, Obj.queueDrops, Obj.settleEvents, Obj.spinnerFreq, Obj.windowAnchorTime, Obj.windowAnchorTurn,
      Obj.wrapDrops]
  | .precisionMRecompute .. => some []
  | .windowAnchor .. => some [Obj.pawnSkips, Obj.settleEvents, Obj.windowAnchorTime, Obj.windowAnchorTurn]
  | .angleComparatorFire .. => some (Obj.ofRaise ++ [Obj.captureAngle, Obj.crossingStatus])
  | .shadowLowRead .. => some []
  | .shadowHighRead .. => some [Obj.crossingStatus]
  | .shadowExpiry .. => some []
  | .crossingStatusClear .. => some (Obj.ofWrite ++ [Obj.crossingStatus])
  | .refCrossCheck .. => some (Obj.ofRaise ++ [Obj.refDelta, Obj.refDev1, Obj.refDev2])
  | .precisionChannelFail .. => some Obj.ofRaise
  | .modulatorOverload .. => some [Obj.settleEvents]
  | .precisionWindowEnd .. => some (Obj.ofRaise ++ [Obj.auxDeferred, Obj.cellSampleTime, Obj.cellSource, Obj.cellTag, Obj.cellVoltage,
      Obj.clipCount, Obj.owtDeferred, Obj.pawnMismatches, Obj.pawnSkips, Obj.precisionRate, Obj.precisionTurns, Obj.settleEvents])
  | .widebandOutput .. => some [Obj.missingCurrentWords, Obj.queueDrops, Obj.stringCurrent, Obj.wrapDrops]
  | .standardOutput .. => some [Obj.fluxCurrent, Obj.linkVoltage, Obj.mainPosVoltage, Obj.queueDrops, Obj.shuntCurrent, Obj.stringVoltage,
      Obj.wrapDrops]
  | .routineTrigger .. => some [Obj.auxDeferred, Obj.owtDeferred, Obj.regOverrun, Obj.settleEvents]
  | .hostRegTrigger .. => some [Obj.auxDeferred, Obj.owtDeferred, Obj.regOverrun, Obj.settleEvents]
  | .hostRegStart .. => some (Obj.ofWrite ++ [Obj.auxDeferred, Obj.owtDeferred, Obj.regOverrun, Obj.settleEvents])
  | .injTrigger .. => some [Obj.auxDeferred, Obj.injOverrun, Obj.owtDeferred, Obj.settleEvents]
  | .auxConversionDone .. => some (Obj.ofRaise ++ [Obj.acqShort, Obj.auxDeferred, Obj.avgOverflow, Obj.blankTimeouts, Obj.calDeferred,
      Obj.cellSampleTime, Obj.cellSource, Obj.cellTag, Obj.cellVoltage, Obj.forcePathRes, Obj.hostRegResult, Obj.injOverrun, Obj.injResult,
      Obj.owtDeferred, Obj.owtRounds, Obj.pawnSkips, Obj.routineResult, Obj.senseWireRes, Obj.settleEvents, Obj.stackVoltage])
  | .blankWindowOpen .. => some [Obj.auxDeferred, Obj.blankWindows, Obj.owtDeferred, Obj.settleEvents]
  | .blankWaitTimeout .. => some [Obj.auxDeferred, Obj.owtDeferred, Obj.settleEvents]
  | .pawnVisit .. => some [Obj.auxDeferred, Obj.owtDeferred, Obj.pawnBypassed, Obj.pawnRounds, Obj.pawnSkips, Obj.settleEvents]
  | .pawnAbandon .. => some [Obj.pawnSkips]
  | .balctrlWrite .. => some (Obj.ofWrite ++ [Obj.balLimited])
  | .balctrlExpiry .. => some [Obj.balLimited]
  | .owtTestStart .. => some (Obj.ofRaise ++ [Obj.auxDeferred, Obj.injOverrun, Obj.owtDeferred, Obj.settleEvents])
  | .owtRetest .. => some [Obj.auxDeferred, Obj.injOverrun, Obj.owtDeferred, Obj.settleEvents]
  | .owtRoundOverdue .. => some Obj.ofRaise
  | .dualPathCheck .. => some (Obj.ofRaise ++ [Obj.auxDeferred, Obj.dualPathDiff, Obj.injOverrun, Obj.owtDeferred, Obj.settleEvents,
      Obj.sumDiffFC, Obj.sumDiffSN])
  | .stackSupplyAbsent .. => some Obj.ofRaise
  | .balPlanCompute .. => some (Obj.ofRaise ++ [Obj.balLimited, Obj.balPlanLast, Obj.balReport, Obj.planRejected])
  | .plan .. => some (Obj.ofWrite ++ [Obj.balLimited, Obj.balPlanLast, Obj.balReport, Obj.planRejected])
  | .report .. => some [Obj.queueDrops, Obj.wrapDrops]
  | .balanceLeaseExpiry .. => some Obj.ofRaise
  | .flybackReselect .. => some [Obj.balLimited]
  | .balTargetReached .. => some []
  | .balBooksCheck .. => some (Obj.ofRaise ++ [Obj.booksResidual])
  | .balBusUndervoltage .. => some []
  | .balBusOvervoltage .. => some []
  | .balBusFault .. => some (Obj.ofRaise ++ [Obj.balLimited])
  | .flybackImplausible .. => some (Obj.ofRaise ++ [Obj.balLimited])
  | .transferImplausible .. => some Obj.ofRaise
  | .bleederImplausible .. => some (Obj.ofRaise ++ [Obj.balLimited])
  | .shortCircuitTrip .. => some (Obj.ofRaise ++ [Obj.auxDeferred, Obj.owtDeferred, Obj.settleEvents])
  | .currentCheck .. => some (Obj.ofRaise ++ [Obj.auxDeferred, Obj.owtDeferred, Obj.settleEvents])
  | .currentChannelFault .. => some (Obj.ofRaise ++ [Obj.auxDeferred, Obj.chargeLimit, Obj.currentInUse, Obj.dischargeLimit, Obj.owtDeferred,
      Obj.settleEvents])
  | .stringVoltageCheck .. => some (Obj.ofRaise ++ [Obj.auxDeferred, Obj.chargeLimit, Obj.dischargeLimit, Obj.moduleSumVoltage, Obj.owtDeferred,
      Obj.settleEvents])
  | .isoStateEnd .. => some (Obj.ofRaise ++ [Obj.auxDeferred, Obj.chargeLimit, Obj.dischargeLimit, Obj.isoRiso, Obj.isoRn, Obj.isoRp,
      Obj.owtDeferred, Obj.settleEvents])
  | .tripLoopLoss .. => some [Obj.calChannel, Obj.calState, Obj.chargeLimit, Obj.dischargeLimit, Obj.episodeNewest, Obj.maintPermit,
      Obj.modeCause, Obj.queueDrops, Obj.recSeq, Obj.tripCause, Obj.tripNode, Obj.txDiscarded, Obj.wrapDrops]
  | .tripNoticeWaitExpiry .. => some [Obj.chargeLimit, Obj.dischargeLimit, Obj.queueDrops, Obj.tripCause, Obj.tripNode, Obj.txDiscarded,
      Obj.wrapDrops]
  | .protectionDelayExpiry .. => some (Obj.ofRaise ++ [Obj.auxDeferred, Obj.chargeLimit, Obj.dischargeLimit, Obj.owtDeferred, Obj.settleEvents])
  | .protectionRelease .. => some Obj.ofRaise
  | .openReqRepeat .. => some [Obj.queueDrops, Obj.txDiscarded, Obj.wrapDrops]
  | .openReq .. => some (Obj.ofRaise ++ [Obj.auxDeferred, Obj.chargeLimit, Obj.dischargeLimit, Obj.nodeIdConflicts, Obj.owtDeferred,
      Obj.settleEvents])
  | .openReqHoldExpiry .. => some Obj.ofRaise
  | .trip .. => some (Obj.ofRaise ++ [Obj.auxDeferred, Obj.nodeIdConflicts, Obj.owtDeferred, Obj.settleEvents, Obj.tripCause, Obj.tripNode])
  | .tripResetCommand .. => some Obj.ofWrite
  | .tripReset .. => some (Obj.ofRaise ++ [Obj.nodeIdConflicts])
  | .trippedClear .. => some []
  | .contactorClose .. => some (Obj.ofWrite ++ [Obj.chargeLimit, Obj.closeRefusal, Obj.dischargeLimit])
  | .contactorOpen .. => some (Obj.ofWrite ++ [Obj.chargeLimit, Obj.closeRefusal, Obj.dischargeLimit])
  | .closingSequenceStep .. => some (Obj.ofRaise ++ [Obj.auxDeferred, Obj.owtDeferred, Obj.settleEvents])
  | .prechargeLockoutExpiry .. => some []
  | .openingSequenceStep .. => some (Obj.ofRaise ++ [Obj.auxDeferred, Obj.chargeLimit, Obj.dischargeLimit, Obj.lastOpenCurrent,
      Obj.openUnderLoad, Obj.owtDeferred, Obj.settleEvents])
  | .coilShortCircuit .. => some (Obj.ofRaise ++ [Obj.auxDeferred, Obj.chargeLimit, Obj.dischargeLimit, Obj.owtDeferred, Obj.settleEvents])
  | .coilOpenLoad .. => some (Obj.ofRaise ++ [Obj.auxDeferred, Obj.chargeLimit, Obj.dischargeLimit, Obj.owtDeferred, Obj.settleEvents])
  | .releaseSend .. => some [Obj.queueDrops, Obj.wrapDrops]
  | .release .. => some [Obj.calChannel, Obj.calState, Obj.episodeNewest, Obj.maintPermit, Obj.modeCause, Obj.queueDrops, Obj.recSeq,
      Obj.wrapDrops]
  | .pcsLimitPeriod .. => some [Obj.chargeLimit, Obj.dischargeLimit, Obj.queueDrops, Obj.txDiscarded, Obj.wrapDrops]
  | .protectionSetWrite .. => some Obj.ofWrite
  | .protSetCrcCheck .. => some [Obj.queueDrops, Obj.wrapDrops]
  | .chargeCount .. => some []
  | .countGap .. => some [Obj.countGaps]
  | .countHold .. => some Obj.ofRaise
  | .voltageCheck .. => some (Obj.ofRaise ++ [Obj.socCorrection, Obj.socCorrections])
  | .firstEstimate .. => some [Obj.initialBasis, Obj.storedStateAge]
  | .initialTimeout .. => some []
  | .restPoint .. => some Obj.ofRaise
  | .socRecordWrite .. => some [Obj.capWriteSkips]
  | .capacityRecordWrite .. => some [Obj.capWriteSkips]
  | .recordWriteRetry .. => some [Obj.capWriteSkips]
  | .recordReadback .. => some (Obj.ofRaise ++ [Obj.capRecordInForce, Obj.capWrites])
  | .loadStep .. => some []
  | .stepWindowEnd .. => some [Obj.stepCount]
  | .impedanceBlock .. => some []
  | .sdEpisodeStart .. => some []
  | .sdWindowEnd .. => some (Obj.ofRaise ++ [Obj.sdCurrent, Obj.sdUncertainty])
  | .socEstSend .. => some [Obj.queueDrops, Obj.wrapDrops]
  | .capEstSend .. => some [Obj.queueDrops, Obj.wrapDrops]
  | .socEst .. => some [Obj.queueDrops, Obj.wrapDrops]
  | .capEst .. => some [Obj.queueDrops, Obj.wrapDrops]
  | .stringEstimate .. => some [Obj.energyCharge, Obj.energyDischarge, Obj.stringCapMin, Obj.stringCapacity, Obj.stringEstValid, Obj.stringSoH,
      Obj.stringSoc]
  | .loopSample .. => some (Obj.ofRaise ++ [Obj.balLimited, Obj.bankActive, Obj.coolantRefTemp, Obj.coolingDemand, Obj.fanDuty, Obj.fanSpeed,
      Obj.packHeat, Obj.swapCount, Obj.valveCommand, Obj.valveReadback, Obj.zoneCoreTemp, Obj.zoneSurfaceTemp])
  | .loopEnable .. => some (Obj.ofWrite ++ [Obj.loopEnable])
  | .loopDisable .. => some (Obj.ofWrite ++ [Obj.loopEnable])
  | .bankWrite .. => some (Obj.ofWrite ++ [Obj.bankA, Obj.bankB])
  | .bankRequest .. => some (Obj.ofWrite ++ [Obj.bankRequest])
  | .inputBindWrite .. => some (Obj.ofWrite ++ [Obj.inputBind])
  | .outputBindWrite .. => some (Obj.ofWrite ++ [Obj.outputBind])
  | .setpointWrite .. => some (Obj.ofWrite ++ [Obj.setpoint])
  | .thermalSetpointUpdate .. => some [Obj.setpoint]
  | .fanStall .. => some Obj.ofRaise
  | .lightLoss .. => some []
  | .portDown .. => some [Obj.portDowns, Obj.queueDrops, Obj.txDiscarded, Obj.wrapDrops]
  | .linkFault .. => some [Obj.portDowns, Obj.queueDrops, Obj.txDiscarded, Obj.wrapDrops]
  | .portUp .. => some [Obj.queueDrops, Obj.txDiscarded, Obj.wrapDrops]
  | .portReadyRepeat .. => some [Obj.queueDrops, Obj.txDiscarded, Obj.wrapDrops]
  | .wrapPortDown .. => some (Obj.ofRaise ++ [Obj.nodeIdConflicts])
  | .wrapPortReady .. => some (Obj.ofRaise ++ [Obj.nodeIdConflicts])
  | .unwrapOrder .. => some (Obj.ofRaise ++ [Obj.nodeIdConflicts])
  | .unwrapInstant .. => some [Obj.queueDrops, Obj.wrapDrops]
  | .censusRequestNotice .. => some (Obj.ofRaise ++ [Obj.nodeIdConflicts])
  | .censusRequest .. => some Obj.ofWrite
  | .census .. => some Obj.ofRaise
  | .censusTimeout .. => some (Obj.ofRaise ++ [Obj.auxDeferred, Obj.censusFailures, Obj.descFlags, Obj.descHeadPack, Obj.descModuleCount,
      Obj.descSeq, Obj.descStandbyPack, Obj.descStringId, Obj.ownNodeId, Obj.owtDeferred, Obj.settleEvents])
  | .censusRetry .. => some [Obj.queueDrops, Obj.wrapDrops]
  | .censusResult .. => some [Obj.queueDrops, Obj.wrapDrops]
  | .censusResultTimeout .. => some []
  | .censusEffective .. => some [Obj.censusNumber, Obj.queueDrops, Obj.ringMembers, Obj.turnAt, Obj.wrapDrops]
  | .censusReply .. => some (Obj.ofRaise ++ [Obj.auxDeferred, Obj.chargeLimit, Obj.configuration, Obj.descFlags, Obj.descHeadPack,
      Obj.descModuleCount, Obj.descSeq, Obj.descStandbyPack, Obj.descStringId, Obj.dischargeLimit, Obj.membershipGen, Obj.modulesFound,
      Obj.ownNodeId, Obj.owtDeferred, Obj.settleEvents])
  | .censusReplyTimeout .. => some (Obj.ofRaise ++ [Obj.auxDeferred, Obj.chargeLimit, Obj.configuration, Obj.descFlags, Obj.descHeadPack,
      Obj.descModuleCount, Obj.descSeq, Obj.descStandbyPack, Obj.descStringId, Obj.dischargeLimit, Obj.membershipGen, Obj.modulesFound,
      Obj.ownNodeId, Obj.owtDeferred, Obj.settleEvents])
  | .slotForward .. => some [Obj.queueDrops, Obj.wrapDrops]
  | .damagedSlot .. => some (Obj.ofRaise ++ [Obj.auxDeferred, Obj.crcErrors, Obj.headerErrors, Obj.owtDeferred, Obj.settleEvents,
      Obj.stompedSlots])
  | .queueBooksCheck .. => some (Obj.ofRaise ++ [Obj.auxDeferred, Obj.owtDeferred, Obj.settleEvents])
  | .slotSyncReached .. => some []
  | .ringDownTimeout .. => some (Obj.ofRaise ++ [Obj.auxDeferred, Obj.owtDeferred, Obj.settleEvents])
  | .precision .. => some [Obj.queueDrops, Obj.wrapDrops]
  | .current .. => some [Obj.missingCurrentWords, Obj.queueDrops, Obj.wrapDrops]
  | .wideband .. => some [Obj.queueDrops, Obj.wrapDrops]
  | .bulk .. => some [Obj.queueDrops, Obj.wrapDrops]
  | .laneFrameCopy .. => some (Obj.ofRaise ++ [Obj.auxDeferred, Obj.laneDisagreements, Obj.noMajorityEvents, Obj.owtDeferred, Obj.settleEvents,
      Obj.voteRejects])
  | .voteWindowExpiry .. => some (Obj.ofRaise ++ [Obj.auxDeferred, Obj.laneDisagreements, Obj.noMajorityEvents, Obj.owtDeferred,
      Obj.settleEvents, Obj.voteRejects])
  | .frameSent .. => some (Obj.ofRaise ++ [Obj.ackErrors, Obj.auxDeferred, Obj.errorFrames, Obj.owtDeferred, Obj.settleEvents, Obj.tdcValue])
  | .busNotice .. => some (Obj.ofRaise ++ [Obj.auxDeferred, Obj.balEnable, Obj.chargeLimit, Obj.ckptGenSent, Obj.currentInUse, Obj.descFlags,
      Obj.descHeadPack, Obj.descModuleCount, Obj.descSeq, Obj.descStandbyPack, Obj.descStringId, Obj.dischargeLimit, Obj.failovers,
      Obj.headBasis, Obj.isoAge, Obj.isoRn, Obj.isoRp, Obj.lastTakeover, Obj.membershipGen, Obj.nodeIdConflicts, Obj.owtDeferred,
      Obj.settleEvents, Obj.takeoverCause, Obj.takeoverDuration, Obj.tripCause, Obj.tripNode])
  | .errorPassive .. => some [Obj.txDiscarded]
  | .busOff .. => some (Obj.ofRaise ++ [Obj.auxDeferred, Obj.busOffCount, Obj.owtDeferred, Obj.settleEvents])
  | .busOffHoldoffExpiry .. => some []
  | .busRecover .. => some Obj.ofWrite
  | .busOffRecoveryDone .. => some []
  | .busEnable .. => some Obj.ofWrite
  | .lonely .. => some (Obj.ofRaise ++ [Obj.auxDeferred, Obj.owtDeferred, Obj.settleEvents])
  | .lonelyRetry .. => some []
  | .mailboxBooksCheck .. => some (Obj.ofRaise ++ [Obj.auxDeferred, Obj.owtDeferred, Obj.settleEvents])
  | .controlBusesLost .. => some (Obj.ofRaise ++ [Obj.auxDeferred, Obj.owtDeferred, Obj.settleEvents])
  | .status .. => some (Obj.ofRaise ++ [Obj.auxDeferred, Obj.chargeLimit, Obj.dischargeLimit, Obj.nodeIdConflicts, Obj.owtDeferred,
      Obj.settleEvents])
  | .statusSend .. => some [Obj.queueDrops, Obj.txDiscarded, Obj.wrapDrops]
  | .heartbeatSend .. => some [Obj.queueDrops, Obj.txDiscarded, Obj.wrapDrops]
  | .heartbeat .. => some (Obj.ofRaise ++ [Obj.auxDeferred, Obj.membershipGen, Obj.owtDeferred, Obj.settleEvents])
  | .heartbeatPeriodEnd .. => some (Obj.ofRaise ++ [Obj.auxDeferred, Obj.balEnable, Obj.chargeLimit, Obj.ckptGenSent, Obj.currentInUse,
      Obj.descFlags, Obj.descHeadPack, Obj.descModuleCount, Obj.descSeq, Obj.descStandbyPack, Obj.descStringId, Obj.dischargeLimit,
      Obj.failovers, Obj.headBasis, Obj.isoAge, Obj.isoRn, Obj.isoRp, Obj.lastTakeover, Obj.membershipGen, Obj.owtDeferred, Obj.settleEvents,
      Obj.takeoverCause, Obj.takeoverDuration, Obj.tripCause, Obj.tripNode])
  | .pxRead .. => some (Obj.ofRaise ++ [Obj.authFailures, Obj.pxDuplicates, Obj.pxErrors, Obj.pxLastError, Obj.pxRequests])
  | .pxWrite .. => none
  | .registerWrite .. => none
  | .rwpWriteDone .. => none
  | .pxBlockRead .. => some (Obj.ofRaise ++ [Obj.authFailures, Obj.pxDuplicates, Obj.pxErrors, Obj.pxLastError, Obj.pxRequests])
  | .pxBlockWrite .. => some (Obj.ofRaise ++ [Obj.authFailures, Obj.changeLogNewest, Obj.pxDuplicates, Obj.pxErrors, Obj.pxLastError,
      Obj.pxRequests])
  | .pxSegment .. => some [Obj.queueDrops, Obj.txDiscarded, Obj.wrapDrops]
  | .pxAck .. => some (Obj.ofRaise ++ [Obj.authFailures, Obj.pxErrors, Obj.pxLastError])
  | .pxEnd .. => none
  | .pxAbort .. => some (Obj.ofRaise ++ [Obj.authFailures, Obj.changeLogNewest, Obj.pxErrors, Obj.pxLastError])
  | .pxResponse .. => some [Obj.queueDrops, Obj.wrapDrops]
  | .blockAckTimeout .. => some [Obj.queueDrops, Obj.txDiscarded, Obj.wrapDrops]
  | .blockIdleTimeout .. => some [Obj.changeLogNewest, Obj.pxBlockAborts]
  | .pxResponseStoreExpiry .. => some []
  | .pubAreaPoll .. => some [Obj.headPubCopy, Obj.queueDrops, Obj.wrapDrops]
  | .directoryStale .. => some []
  | .pointLimitsReport .. => some [Obj.queueDrops, Obj.wrapDrops]
  | .changeLogCopy .. => some Obj.ofRaise
  | .auxLoss .. => some (Obj.ofRaise ++ [Obj.chargeLimit, Obj.dischargeLimit, Obj.nodeIdConflicts])
  | .abdicate .. => some (Obj.ofRaise ++ [Obj.auxDeferred, Obj.balEnable, Obj.chargeLimit, Obj.ckptGenSent, Obj.currentInUse, Obj.descFlags,
      Obj.descHeadPack, Obj.descModuleCount, Obj.descSeq, Obj.descStandbyPack, Obj.descStringId, Obj.dischargeLimit, Obj.failovers,
      Obj.headBasis, Obj.isoAge, Obj.isoRn, Obj.isoRp, Obj.lastTakeover, Obj.membershipGen, Obj.nodeIdConflicts, Obj.owtDeferred,
      Obj.settleEvents, Obj.takeoverCause, Obj.takeoverDuration, Obj.tripCause, Obj.tripNode])
  | .headFailureWaitExpiry .. => some [Obj.calChannel, Obj.calState, Obj.episodeNewest, Obj.maintPermit, Obj.modeCause, Obj.ownNodeId,
      Obj.recSeq, Obj.txDiscarded]
  | .abdicateLoopHoldExpiry .. => some []
  | .checkpointSend .. => some (Obj.ofRaise ++ [Obj.auxDeferred, Obj.ckptGenSent, Obj.owtDeferred, Obj.settleEvents])
  | .checkpoint .. => some (Obj.ofRaise ++ [Obj.ckptGenAccepted])
  | .checkpointAck .. => some [Obj.ckptGenAcked, Obj.queueDrops, Obj.txDiscarded, Obj.wrapDrops]
  | .checkpointLag .. => some (Obj.ofRaise ++ [Obj.auxDeferred, Obj.owtDeferred, Obj.settleEvents])
  | .handoverCommand .. => some (Obj.ofWrite ++ [Obj.ckptGenSent])
  | .handoverTimeout .. => some (Obj.ofRaise ++ [Obj.auxDeferred, Obj.owtDeferred, Obj.settleEvents])
  | .laneTokenTimeout .. => some (Obj.ofRaise ++ [Obj.auxDeferred, Obj.laneDisagreements, Obj.noMajorityEvents, Obj.owtDeferred,
      Obj.settleEvents])
  | .clockMonitor .. => some (Obj.ofRaise ++ [Obj.auxDeferred, Obj.owtDeferred, Obj.settleEvents])
  | .registerVote .. => some (Obj.ofRaise ++ [Obj.auxDeferred, Obj.laneDisagreements, Obj.noMajorityEvents, Obj.owtDeferred, Obj.settleEvents])
  | .voterSelfTest .. => some (Obj.ofRaise ++ [Obj.auxDeferred, Obj.owtDeferred, Obj.settleEvents])
  | .laneEccError .. => some (Obj.ofRaise ++ [Obj.auxDeferred, Obj.laneEccCorrected, Obj.owtDeferred, Obj.settleEvents])
  | .tripDriverCheck .. => some (Obj.ofRaise ++ [Obj.auxDeferred, Obj.owtDeferred, Obj.settleEvents, Obj.tripLoopCurrent])
  | .sourceRaise .. => some (Obj.ofRaise ++ [Obj.auxDeferred, Obj.owtDeferred, Obj.settleEvents])
  | .carriedFaultWrite .. => some []
  | .fcuScan .. => some (Obj.ofRaise ++ [Obj.auxDeferred, Obj.owtDeferred, Obj.settleEvents])
  | .collectorTest .. => some (Obj.ofRaise ++ [Obj.auxDeferred, Obj.owtDeferred, Obj.settleEvents])
  | .collectorTestRelease .. => some []
  | .firstMoveClear .. => some Obj.ofWrite
  | .faultPendingClear .. => some Obj.ofWrite
  | .severityWrite .. => some Obj.ofWrite
  | .sentFrame .. => some [Obj.sentFramesOk, Obj.sentRawFast1, Obj.sentRawFast2, Obj.sentSlowRestarts, Obj.sentValue]
  | .sentTimeout .. => some [Obj.sentSlowRestarts, Obj.sentValue]
  | .sentWarmupEnd .. => some []
  | .sentEnable .. => some Obj.ofWrite
  | .sentChannelCheck .. => some Obj.ofRaise
  | .captureTrig .. => some [Obj.auxDeferred, Obj.captureMerged, Obj.captureRefused, Obj.owtDeferred, Obj.queueDrops, Obj.settleEvents,
      Obj.txDiscarded, Obj.wrapDrops]
  | .recorderSample .. => some []
  | .recorderStage .. => some (Obj.ofRaise ++ [Obj.recStageDelays, Obj.recStageTime])
  | .recorderRangeWrite .. => some Obj.ofWrite
  | .recClear .. => some Obj.ofWrite
  | .episodeWrite .. => some []
  | .dayClose .. => some [Obj.recSeq]
  | .scrubPassEnd .. => some Obj.ofRaise
  | .scrubOverdue .. => some Obj.ofRaise
  | .captureMemoryEcc .. => some (Obj.ofRaise ++ [Obj.captureEccCorrected, Obj.captureEccUncorrectable])
  | .captureTrigger .. => some (Obj.ofWrite ++ [Obj.auxDeferred, Obj.owtDeferred, Obj.settleEvents])
  | .captureAngleArm .. => some (Obj.ofWrite ++ [Obj.captureAngle, Obj.lateEvents])
  | .captureRecordClose .. => some [Obj.auxDeferred, Obj.calChannel, Obj.calDeferred, Obj.episodeNewest, Obj.owtDeferred, Obj.recSeq,
      Obj.settleEvents]
  | .captureBooksCheck .. => some Obj.ofRaise
  | .captureReadout .. => some Obj.ofWrite
  | .captureReadoutDone .. => some [Obj.queueDrops, Obj.wrapDrops]
  | .captureRelease .. => some Obj.ofWrite
  | .norWriteFail .. => some Obj.ofRaise
  | .changeLogNorTimeout .. => some Obj.ofRaise
  | .packIdentityWrite .. => some (Obj.ofWrite ++ [Obj.packIdentity])
  | .packMemoryTransferDone .. => some (Obj.ofRaise ++ [Obj.changeLogPackCopied, Obj.pmQueueDelays])
  | .mgmtSensorRead .. => some (Obj.ofRaise ++ [Obj.boardTemp, Obj.humidity, Obj.railVoltage])
  | .supplyMonitor .. => some Obj.ofRaise
  | .mgmtTokenTimeout .. => some (Obj.ofRaise ++ [Obj.mgmtRestarts])
  | .mgmtRestartDone .. => some []
  | .calendarSet .. => some Obj.ofWrite
  | .sessionChallenge .. => some (Obj.ofRaise ++ [Obj.authFailures, Obj.pxDuplicates, Obj.pxErrors, Obj.pxLastError, Obj.pxRequests])
  | .sessionOpen .. => some Obj.ofWrite
  | .sessionClose .. => some Obj.ofWrite
  | .sessionTimeout .. => some []
  | .authLockoutExpiry .. => some []
  | .roleKeyWrap .. => some Obj.ofWrite
  | .signingKeyRevoke .. => some Obj.ofWrite
  | .updateManifest .. => some (Obj.ofWrite ++ [Obj.updateBlocksReceived, Obj.updateManifest, Obj.updateReject, Obj.updateState])
  | .sectorEraseDone .. => some [Obj.updateState]
  | .updateBlock .. => some (Obj.ofWrite ++ [Obj.tagFailures, Obj.updateBlocksReceived, Obj.updateReject, Obj.updateState])
  | .blockProgramDone .. => some [Obj.updateState]
  | .updateVerifyDone .. => some (Obj.ofRaise ++ [Obj.updateReject, Obj.updateState])
  | .updateAbort .. => some (Obj.ofWrite ++ [Obj.updateBlocksReceived, Obj.updateState])
  | .updateActivate .. => none
  | .trialConfirm .. => some [Obj.securityFloor, Obj.updateState]
  | .calStart .. => some (Obj.ofWrite ++ [Obj.calDeferred])
  | .calAbort .. => some Obj.ofWrite
  | .calVisitEnd .. => some [Obj.calChannel, Obj.calDeferred, Obj.calState, Obj.settleEvents]
  | .calVerifyDone .. => some (Obj.ofRaise ++ [Obj.calResult, Obj.channelGain, Obj.channelOffset])
  | .usbFrame .. => none

end Sys2Proof

namespace Sys2Proof.Machine

/-- A request passes every check that comes before its own effect (R540, R543, R546, R549, R660, R667, R687): the element exists, it reaches the module, it is no
duplicate and not waiting for pack memory, its session or its lack of one gives a sufficient role, the management processor runs and
the object is available; the role code and the counter that authenticated it. -/
def State.admits (s : State) (q : PxReq) (o : ObjDef) (i j service ty : Nat) (signed : Bytes) (role counter : Nat) : Prop :=
  o.has i j = true ∧ s.pxHears q = true ∧ s.pxDuplicate q service (o.index + i) (o.sub + j) ty signed = none
    ∧ s.px.rwp.any (fun r => r.key == PxReqKey q service (o.index + i) (o.sub + j)) = false
    ∧ s.pxAuthorise q service (o.index + i) (o.sub + j) ty signed = some (role, counter)
    ∧ s.mgmt.running = true ∧ s.available (o.index + i) = true ∧ s.rankFor o ≤ role

/-- An expedited WRITE of `data` passes every check that comes before the object's own (R537, R538, R540, R543, R549, R551, R660). -/
def State.admitsWrite (s : State) (q : PxReq) (o : ObjDef) (i j : Nat) (data : Bytes) (role counter : Nat) : Prop :=
  s.admits q o i j 0x02 o.ty.code data role counter
    ∧ s.px.blocks.any (fun b => b.write && b.index == o.index + i && b.sub == o.sub + j) = false
    ∧ o.access.writable = true ∧ checkValue o o.ty.code data = 0

/-- The state in which an admitted request takes effect: its counter is accepted and it is counted (R667, R547). -/
def State.taken (s : State) (q : PxReq) (counter : Nat) : State := (s.pxAccept q counter).bump Obj.pxRequests

/-- The answer of a write that is done (R541, R547, R566): change-log entry with the bytes before and after, then the response with
code 0. -/
def State.wroteOk (s : State) (q : PxReq) (o : ObjDef) (i j role counter : Nat) (old new : Bytes) : State :=
  s.pxFinish q o i j 0x02 role counter 0 old new

/-- The bytes of an element as a read returns them from the store (R537). -/
def State.bytesOf (s : State) (o : ObjDef) (i j : Nat) : Bytes := (s.val o i j).encode o.ty

/-- The bytes of a number of an object's type. -/
def natBytes (o : ObjDef) (v : Nat) : Bytes := leBytes o.ty.size v


/-- A port on which an own slot of a class goes out at once: it carries traffic, holds two tokens of the class, and nothing of the class
waits there (R465, R469). -/
def State.portFree (s : State) (p : Port) (cls : Nat) : Bool :=
  (s.port p).usable && decide (2 ≤ (s.port p).held cls) && ((s.port p).waiting.filter (fun x => x.hdr.cls == cls)).isEmpty

/-- An own slot of a class to all squares goes out at once: transceivers on, two lanes agreeing, a square or the head role, the ports free
(R117, R464, R573). -/
def State.ringFree (s : State) (cls : Nat) : Bool :=
  s.commsOn && s.voteOk && (s.ring.hasSquare || s.isHead) && s.portFree .east cls && s.portFree .west cls

/-- Two outputs are one slot out of each port with a class, a type and a payload (R460, R463: both directions, HOPS 63). -/
def sentBoth (a b : List Out) (cls typ : Nat) (payload : Bytes) : Prop :=
  ∃ h k, b = a ++ [.slot .east h (fitBytes 52 payload) false, .slot .west k (fitBytes 52 payload) false]
    ∧ h.cls = cls ∧ h.typ = typ ∧ h.west = false ∧ h.hops = 63 ∧ k.cls = cls ∧ k.typ = typ ∧ k.west = true ∧ k.hops = 63 ∧ k.seq = h.seq

/-- One output is one slot out of the east port with a class, a type, an AUX and a payload, to all squares (R460, R463). -/
def sentEast (a b : List Out) (cls typ aux : Nat) (payload : Bytes) : Prop :=
  ∃ h, b = a ++ [.slot .east h (fitBytes 52 payload) false] ∧ h.cls = cls ∧ h.typ = typ ∧ h.aux = aux ∧ h.west = false ∧ h.hops = 63

/-- What the spec bounds stays within its bound: stored responses and pending RWP writes (R549, R550), block transfers (R556), the change
log (R568), sessions (R665), episodes (R631), the transmit buffers of both controllers (R522) and the blocks that wait for programming
(R678); and no restart waits between two commands, since it follows the response of its own write (R681). -/
def State.bounded (s : State) : Prop :=
  s.px.stored.length ≤ 16 ∧ s.px.rwp.length ≤ 16 ∧ s.px.blocks.length ≤ 4 ∧ s.px.log.length ≤ 4096 ∧ s.mgmt.sessions.length ≤ 8
    ∧ s.rcd.episodes.length ≤ 512 ∧ s.can.a.txq.length ≤ 16 ∧ s.can.b.txq.length ≤ 16 ∧ s.mgmt.update.buffered.length ≤ 4
    ∧ s.mgmt.restartDue = false

/-- Only STANDBY and ONLINE balance (R292): elsewhere every bleeder, flyback converter and the transfer converter are off. -/
def State.balancesWhereAllowed (s : State) : Prop :=
  s.md.mode = .standby ∨ s.md.mode = .online
    ∨ (s.bal.bleeders = [] ∧ s.bal.transferOn = false ∧ ∀ e ∈ s.bal.fly, e.2.on = false)

/-- No reserved source shows (R593). -/
def State.reservedQuiet (s : State) : Prop := ∀ k, reservedSource k = true → k ∉ s.flt.active ∧ k ∉ s.flt.pending

/-- No element of an object row is stored in a cell. -/
def ObjDef.free (o : ObjDef) (k : Nat) : Bool := decide (∀ i < o.idxCount, ∀ j < o.subCount, o.key i j ≠ k)

/-- A cell of the dictionary belongs to none of some objects. -/
def Outside (l : List ObjDef) (k : Nat) : Prop := ∀ o ∈ l, o.free k = true

end Sys2Proof.Machine

namespace Sys2Proof

/-- The rows through which a write of any object may come (R538, R551, R691). -/
def Instr.anyWrite (i : Instr) : Bool :=
  match i with
  | .pxWrite .. => true
  | .registerWrite .. => true
  | .pxEnd .. => true
  | .usbFrame .. => true
  | _ => false

end Sys2Proof

namespace Sys2Proof.Machine

end Sys2Proof.Machine
end

