-- ==== Sys2Proof/Certificates/Slice0/Obligations.lean ====
section
/-! DEFINITION. The statements for the provers, chapter by chapter and then over the whole machine. A statement ending in `Complete` says
for each row of its chapter, under hypotheses on the state and the operands alone, that `exec` answers a next state with the row's own
effect; the others say what holds over all rows. -/
open Sys2Proof Sys2Proof.Machine

/-- Chapter 1, the election before a head is known (R39, R46, R48 to R51, R711): each row's own effect wherever its conditions hold.
The model's choices of log entries 5, 6, 7, 51 enter its clauses. -/
def Obligations.ElectionCompletes : Prop :=
  (∀ (t : Nat) (a : Announce) (s : State), s.busHears .ctlA = true → (s.ident.phase = .announcing ∨ s.ident.phase = .idle) →
    ∃ s', exec (.descriptorAnnounce t a) s = .next s' ∧ s'.ident.phase = s.ident.phase
      ∧ s'.ident.announces = s.ident.announces.filter (fun x => x.serial != a.serial) ++ [a])
  ∧ (∀ (t : Nat) (s : State), (s.ident.phase = .announcing ∨ s.ident.phase = .claimWait) → s.ident.nextAnnounce ≤ max s.now t →
      s.ident.backoffEnd = none →
    exec (.descriptorAnnounceRepeat t) s = .next ((s.tick t).announce)
      ∧ (s.tick t).announce.ident.nextAnnounce = max s.now t + 100000000
      ∧ (s.tick t).ownAnnounce ∈ (s.tick t).announce.ident.announces)
  ∧ (∀ (t t0 : Nat) (s : State), s.ident.phase = .announcing → s.ident.firstAnnounce = some t0 → t0 + 600000000 ≤ max s.now t →
    ∃ s', exec (.descriptorDecision t) s = .next s' ∧
      match winningAnnounce s.ident.announces with
      | some a =>
        if a.headPack = s.packId ∧ s.mayLead = true then
          s'.ident.role = .head ∧ s'.tm.master = true ∧ s'.ident.phase = .enumerated ∧ s'.hio.tapsOn = true
            ∧ ∃ e r, s'.rcd.episodes = e :: r ∧ e.kind = 9 ∧ e.code = 0
        else s'.ident.phase = .claimWait ∧ s'.ident.claimWaitEnd = max s.now t + s.nat Obj.claimWait * 1000000 ∧ s'.ident.role = s.ident.role
      | none => s'.ident.phase = .claimWait ∧ s'.ident.claimWaitEnd = max s.now t + s.nat Obj.claimWait * 1000000
          ∧ s'.ident.role = s.ident.role)
  ∧ (∀ (t serial seq pack basis : Nat) (s : State), s.busHears .ctlA = true →
      s.ident.phase ≠ .awaitEnum → s.ident.phase ≠ .lateJoin → s.ident.phase ≠ .enumerated →
    ∃ s', exec (.headClaim t serial seq pack basis) s = .next s' ∧ s'.ident.phase = .awaitEnum ∧ s'.ident.inRound = false
      ∧ s'.ident.electionHold = false ∧ s'.ident.headFailHold = false ∧ s'.ident.retryAt = none)
  ∧ (∀ (t : Nat) (s : State), s.ident.phase = .claimWait → s.ident.claimWaitEnd ≤ max s.now t →
    ∃ s', exec (.claimWaitExpiry t) s = .next s' ∧ s'.ident.phase = .rollOff ∧ s'.ident.round = 1
      ∧ s'.ident.roundStart = max s.now t ∧ s'.ident.inRound = s.mayLead
      ∧ s'.ident.ownDraw = if s.mayLead then some (Config.trng s.trngCount % 65536) else none)
  ∧ (∀ (t serial seq pack : Nat) (s : State), s.busHears .ctlA = true → (s.ident.phase = .announcing ∨ s.ident.phase = .claimWait) →
    ∃ s', exec (.rollOffOpen t serial seq pack) s = .next s' ∧ s'.ident.phase = .rollOff ∧ s'.ident.round = 1
      ∧ s'.ident.inRound = s.mayLead)
  ∧ (∀ (t pack round draw : Nat) (s : State), s.busHears .ctlA = true → s.ident.phase = .rollOff → round = s.ident.round →
      max s.now t ≤ s.ident.roundStart + 20000000 →
    ∃ s', exec (.rollOffDraw t pack round draw) s = .next s' ∧ s'.ident.draws = s.ident.draws ++ [(pack, draw)])
  ∧ (∀ (t : Nat) (s : State), s.ident.phase = .rollOff → s.ident.roundStart + 50000000 ≤ max s.now t → s.ident.ownDraw = none →
      s.ident.draws = [] →
    ∃ s', exec (.rollOffRoundClose t) s = .next s' ∧ s'.ident.phase = .noHead ∧ s'.ident.retryAt = some (max s.now t + 10000000000)
      ∧ s'.ident.electionHold = true)
  ∧ (∀ (t v : Nat) (s : State), s.ident.phase = .rollOff → s.ident.roundStart + 50000000 ≤ max s.now t → s.ident.ownDraw = some v →
      (∀ x ∈ s.ident.draws, v < x.2) →
    ∃ s', exec (.rollOffRoundClose t) s = .next s' ∧ s'.ident.role = .head ∧ s'.tm.master = true ∧ s'.ident.phase = .enumerated
      ∧ ∃ e r, s'.rcd.episodes = e :: r ∧ e.kind = 9 ∧ e.code = 1)
  ∧ (∀ (t r : Nat) (s : State), s.ident.phase = .noHead → s.ident.retryAt = some r → r ≤ max s.now t →
    ∃ s', exec (.electionRetry t) s = .next s' ∧ s'.ident.phase = .announcing ∧ s'.ident.announces = [(s.tick t).ownAnnounce]
      ∧ s'.ident.firstAnnounce = some (max s.now t))
  ∧ (∀ (t e : Nat) (s : State), s.ident.backoffEnd = some e → e ≤ max s.now t →
    ∃ s', exec (.preEnumBackoffExpiry t) s = .next s' ∧ s'.ident.backoffEnd = none ∧ s'.ident.bitErrors = 0)

/-- Chapter 1, descriptors (R35, R40 to R43, R54, R61, R63, R557, R698): each row's own effect wherever its conditions hold.
The model's choices of log entries 5, 6, 14 enter its clauses. -/
def Obligations.DescriptorCommandsComplete : Prop :=
  (∀ (t v role counter : Nat) (q : PxReq) (s : State), (s.tick t).admitsWrite q Obj.descCommit 0 0 (natBytes Obj.descCommit v) role counter →
      s.mgmt.restartDue = false → s.isHead = true → s.ident.seqExhausted = false → s.ident.highestSeq + 1 ≤ 0xFFFFFFFE →
      Descriptor.parse (s.staged (s.ident.highestSeq + 1)).bytes ≠ none → s.rcd.pmPresent = true →
    ∃ s', exec (.descCommit t q v) s = .next s' ∧ s'.ident.highestSeq = s.ident.highestSeq + 1
      ∧ s'.ident.desc = s.staged (s.ident.highestSeq + 1)
      ∧ (∃ c : Nat, s'.pm = Memory.writeAll s.pm (0x100 + 0x80 * c) (s.staged (s.ident.highestSeq + 1)).bytes)
      ∧ ((s'.ident.commit = none ∧ s'.ident.commitReport = some [])
        ∨ ∃ c, s'.ident.commit = some c ∧ c.seq = s.ident.highestSeq + 1 ∧ c.deadline = max s.now t + 2000000000))
  ∧ (∀ (t tid : Nat) (rx : SlotRx) (record : Bytes) (d : Descriptor) (s : State),
      ((s.tick t).ringRx rx (pxHead 7 tid 16 0 0x4001 6 11 0 0 (leBytes 4 (crc32 record)))).2 = true → rx.hdr.src = 0 → s.isHead = false →
      Descriptor.parse record = some d → s.rcd.pmPresent = true →
    ∃ s', exec (.descDistribution t rx tid record) s = .next s' ∧ s'.ident.desc = d
      ∧ ∃ c : Nat, s'.pm = Memory.writeAll s.pm (0x100 + 0x80 * c) d.bytes)
  ∧ (∀ (t node : Nat) (ok : Bool) (c : Commit) (s : State), s.ident.commit = some c →
    ∃ s', exec (.descWriteAck t node ok) s = .next s' ∧
      if (if ok then c.waiting.filter (fun x => x != node) else c.waiting) = [] then
        s'.ident.commit = none ∧ s'.ident.commitReport = some []
      else s'.ident.commit = some { c with waiting := if ok then c.waiting.filter (fun x => x != node) else c.waiting })
  ∧ (∀ (t : Nat) (c : Commit) (s : State), s.ident.commit = some c → c.deadline ≤ max s.now t →
    ∃ s', exec (.descCommitTimeout t) s = .next s' ∧ s'.ident.commit = none ∧ s'.ident.commitReport = some c.waiting)
  ∧ (∀ (t v role counter : Nat) (q : PxReq) (s : State), (s.tick t).admitsWrite q Obj.adoptPack 0 0 (natBytes Obj.adoptPack v) role counter →
      s.mgmt.restartDue = false → s.isHead = true → s.ident.highestSeq + 1 ≤ 0xFFFFFFFE →
    ∃ s', exec (.adoptPack t q v) s = .next s' ∧ v ∈ s'.ident.adopted ∧ s'.ident.highestSeq = s.ident.highestSeq + 1
      ∧ ∀ j ∈ s'.ident.foreigners, j.pack ≠ v)
  ∧ (∀ (t v role counter : Nat) (q : PxReq) (s : State), (s.tick t).admitsWrite q Obj.descErase 0 0 (natBytes Obj.descErase v) role counter →
      s.md.mode = .maintenance → s.rcd.pmPresent = true →
    ∃ s', exec (.descErase t q v) s = .next s' ∧
      ∀ a, Memory.read s'.pm a = if 0x100 ≤ a ∧ a < 0x200 then 0 else Memory.read s.pm a)
  ∧ (∀ (t : Nat) (s : State),
    ∃ s', exec (.standbyDesignate t) s = .next s' ∧
      if s.isHead then s'.ident.standbyPack = s.pickStandby 0 ∧ s'.ident.designateBy = none ∧ s'.ident.role = .head
      else if s.ident.desc.standbyPack ≠ 0 ∧ s.ident.desc.standbyPack = s.packId ∧ s.mayLead = true then s'.ident.role = .standby
      else s'.ident.role = .segment)

/-- Chapter 1, enumeration and late join (R56, R57, R511 to R517): each row's own effect wherever its conditions hold.
The model's choices of log entries 5, 6, 7, 52, 53 enter its clauses. -/
def Obligations.EnumerationCompletes : Prop :=
  (∀ (t : Nat) (s : State), s.isHead = true →
    ∃ s', exec (.lateJoinRound t) s = .next s' ∧ s'.ident.joinClose = some (max s.now t + 25000000) ∧ s'.ident.joins = [])
  ∧ (∀ (t membGen freeIds : Nat) (s : State), s.busHears .ctlA = true → s.ident.phase = .lateJoin → s.commsOn = true → s.voteOk = true →
    ∃ s', exec (.joinOpen t membGen freeIds) s = .next s' ∧ s'.trngCount = s.trngCount + 1
      ∧ s'.ident.joinAt = some (max s.now t + Config.trng s.trngCount % 20000001))
  ∧ (∀ (t e : Nat) (j : JoinFrame) (s : State), s.busHears .ctlA = true → s.isHead = true → s.ident.joinClose = some e → max s.now t ≤ e →
    ∃ s', exec (.join t j) s = .next s' ∧ s'.ident.joins = s.ident.joins.filter (fun x => x.serial != j.serial) ++ [j])
  ∧ (∀ (t e : Nat) (s : State), s.isHead = true → s.ident.joinClose = some e → e ≤ max s.now t →
    exec (.lateJoinRoundClose t) s = .next
      ((s.ident.joins.foldl (fun a j => insertJoin j a) []).foldl State.admitJoiner
        { s.tick t with ident := { s.ident with joinClose := none, joins := [] } }).sendAssign)
  ∧ (∀ (t serial pack node membGen : Nat) (s : State), s.busHears .ctlA = true → serial = s.nat Obj.serialNumber → pack = s.packId →
    ∃ x : State, exec (.nodeAssign t serial pack node membGen) s = .next (x.sendPre 0x1D (assignAckBytes serial node (s.can.b.st != CanState.off)))
      ∧ x.nodeId = node ∧ x.nat Obj.membershipGen = membGen ∧ x.can.idStopped = false)
  ∧ (∀ (t serial node : Nat) (ctlB : Bool) (a : Assign) (r : List Assign) (s : State), s.busHears .ctlA = true → s.isHead = true →
      s.ident.assigns = a :: r → a.serial = serial → a.node = node →
    ∃ s', exec (.assignAck t serial node ctlB) s = .next s' ∧ (s'.member node).state = 1 ∧ (s'.member node).pack = a.pack
      ∧ (s'.member node).serial = serial ∧ s'.ring.changed = true)
  ∧ (∀ (t e : Nat) (s : State), s.ident.assignBy = some e → e ≤ max s.now t →
    exec (.assignAckTimeout t) s = .next
      ({ s.tick t with ident := { s.ident with assigns := s.ident.assigns.drop 1, assignBy := none } }).nextAssign)
  ∧ (∀ (t e : Nat) (s : State), s.ident.enumStart = some e → s.isHead = true → e + 180000000 ≤ max s.now t →
    ∃ s', exec (.enumerationCloseDeadline t) s = .next s' ∧ s'.ident.enumStart = none ∧ s'.ident.assigns = []
      ∧ s'.ident.rateSwitch = some (max s.now t + 10000000, s.ownRates .ctlA, s.ownRates .ctlB))
  ∧ (∀ (t membGen : Nat) (ra rb : BusRates) (s : State), s.busHears .ctlA = true → s.isHead = false → s.ident.phase ≠ .enumerated →
    ∃ s', exec (.enumerationClose t ra rb membGen) s = .next s' ∧ s'.ident.rateSwitch = some (max s.now t + 10000000, ra, rb)
      ∧ s'.ident.phase = (if s.nodeId = 0 then .lateJoin else .enumerated)
      ∧ s'.nat Obj.membershipGen = if s.nodeId = 0 then s.nat Obj.membershipGen else membGen)
  ∧ (∀ (t e : Nat) (ra rb : BusRates) (s : State), s.ident.rateSwitch = some (e, ra, rb) → e ≤ max s.now t → s.isHead = false → s.nodeId = 0 →
    ∃ s', exec (.busRateSwitch t) s = .next s' ∧ s'.ident.rateSwitch = none ∧ s'.can.a.rates = ra ∧ s'.can.b.rates = rb
      ∧ s'.can.a.st = (if s.can.a.st = .listening then .active else s.can.a.st)
      ∧ s'.can.b.st = if s.can.b.st = .listening then .active else s.can.b.st)
  ∧ (∀ (t : Nat) (s : State), s.ident.phase = .lateJoin → s.ident.scan = 0 → s.ident.lastFrame + 1000000000 ≤ max s.now t →
    ∃ s', exec (.rateScan t) s = .next s' ∧ s'.ident.scan = 1 ∧ s'.ident.scanSince = max s.now t
      ∧ s'.can.a.rates = { nominal := 0, data := 0, triple := false } ∧ s'.can.b.rates = { nominal := 0, data := 0, triple := false })

/-- Chapter 2, connectors and supplies (R84, R85, R89, R90, R102, R110, R112 to R114, R290, R446): each row's own effect.
The model's choices of log entries 5, 6, 35 enter its clauses. -/
def Obligations.SupplyCommandsComplete : Prop :=
  (∀ (t : Nat) (ohms : Rat) (s : State), s.ident.role = .segment →
    ∃ s', exec (.j4PresenceCheck t ohms) s = .next s' ∧
      if (if s.flag Obj.j4Present then decide (1000 < ohms) else decide (ohms < 100)) then
        (s.supply.j4Run + 1 < 3 → s'.supply.j4Run = s.supply.j4Run + 1 ∧ s'.flag Obj.j4Present = s.flag Obj.j4Present)
        ∧ (3 ≤ s.supply.j4Run + 1 → s'.supply.j4Run = 0 ∧ s'.flag Obj.j4Present = !s.flag Obj.j4Present)
      else s'.supply.j4Run = 0 ∧ s'.flag Obj.j4Present = s.flag Obj.j4Present)
  ∧ (∀ (t : Nat) (readings : List Int) (s : State), readings.any (fun v => decide (5000 < v.natAbs)) = true → 2 ≤ s.supply.unusedBad →
      0x1A ∉ s.flt.active →
    ∃ s', exec (.unusedChannelCheck t readings) s = .next s' ∧ s'.supply.unusedBad = s.supply.unusedBad + 1 ∧ s'.supply.unusedGood = 0
      ∧ s'.supply.popMismatch = true ∧ 0x1A ∈ s'.flt.pending)
  ∧ (∀ (t : Nat) (readings : List Int) (s : State), readings.any (fun v => decide (5000 < v.natAbs)) = false → 2 ≤ s.supply.unusedGood →
    ∃ s', exec (.unusedChannelCheck t readings) s = .next s' ∧ s'.supply.unusedGood = s.supply.unusedGood + 1 ∧ s'.supply.unusedBad = 0
      ∧ s'.supply.popMismatch = false ∧ 0x1A ∉ s'.flt.active)
  ∧ (∀ (t v role counter : Nat) (q : PxReq) (s : State),
      (s.tick t).admitsWrite q Obj.populatedCells 0 0 (natBytes Obj.populatedCells v) role counter →
      (s.md.mode = .standby ∨ s.md.mode = .maintenance) → s.px.rwp.length < 16 →
    ∃ s', exec (.populatedCellsWrite t q v) s = .next s' ∧ s'.supply = s.supply
      ∧ ∃ r, s'.px.rwp = s.px.rwp ++ [r] ∧ r.index = Obj.populatedCells.index ∧ r.sub = Obj.populatedCells.sub
        ∧ r.data = natBytes Obj.populatedCells v ∧ r.since = max s.now t)
  ∧ (∀ (t n : Nat) (s : State), s.supply.popPending = some n →
    ∃ x : State, exec (.populatedCellsApply t) s = .next ((x.settle x.cells false x.ringTime).balUpdate) ∧ x.supply.popPending = none
      ∧ x.cellCount = n ∧ x.itg.pos = 0 ∧ (∀ e ∈ x.bal.targets, e.1 ≤ n) ∧ x.now = max s.now t)
  ∧ (∀ (t k : Nat) (s : State), KMap.get s.supply.sentOn k false = true →
    ∃ s', exec (.sentSupplyLimit t k) s = .next s' ∧ KMap.get s'.supply.sentOn k false = false
      ∧ KMap.get s'.supply.sentRetryAt k 0 = max s.now t + 1000000000 ∧ (s'.sentCh k).warmUntil = none)
  ∧ (∀ (t k : Nat) (limiting : Bool) (s : State), KMap.has s.supply.sentCut k = true → KMap.get s.supply.sentCut k 0 < 5 →
      s.sentOn k = true → s.md.mode.runs = true → s.supply.loadsShed = false → KMap.get s.supply.sentRetryAt k 0 ≤ max s.now t →
    ∃ s', exec (.sentSupplyRetry t k limiting) s = .next s' ∧
      if limiting then
        KMap.get s'.supply.sentCut k 0 = KMap.get s.supply.sentCut k 0 + 1
          ∧ KMap.get s'.supply.sentRetryAt k 0 = max s.now t + 1000000000
          ∧ (KMap.get s.supply.sentCut k 0 = 4 → 0x78 ∉ s.flt.active → 0x78 ∈ s'.flt.pending)
      else KMap.get s'.supply.sentOn k false = true ∧ KMap.get s'.supply.sentCut k 0 = 0
        ∧ (s'.sentCh k).warmUntil = some (max s.now t + s.nat Obj.sentWarmup (k - 1) * 1000000))
  ∧ (∀ (t : Nat) (readback : Rat) (s : State),
    ∃ s', exec (.valveOpenDetect t readback) s = .next s' ∧ s'.rat Obj.valveReadback = readback ∧
      if 4 ≤ s.rat Obj.valveCommand ∧ readback < s.rat Obj.valveCommand * (9 / 10) then
        s'.supply.valveOpenSince = some (s.supply.valveOpenSince.getD (max s.now t)) ∧ s'.flt = s.flt
      else s'.supply.valveOpenSince = none ∧ s'.lp.valveFault = false ∧ 0x59 ∉ s'.flt.active)
  ∧ (∀ (t e : Nat) (s : State), s.supply.valveOpenSince = some e → e + 10000000000 ≤ max s.now t →
      bitsOf 2 2 (s.nat Obj.thermalActuators) = 1 → 0x59 ∉ s.flt.active →
    ∃ s', exec (.valveLoopFault t) s = .next s' ∧ s'.lp.valveFault = true ∧ 0x59 ∈ s'.flt.pending)
  ∧ (∀ (t : Nat) (aux24 : Rat) (s : State),
    ∃ s', exec (.transferExportCutoff t aux24) s = .next s' ∧ s'.rat Obj.aux24Voltage = aux24
      ∧ s'.supply.exportStopped = (if s.supply.exportStopped then decide (s.rat Obj.transferExportLimit - 1 / 2 < aux24)
          else decide (s.rat Obj.transferExportLimit ≤ aux24))
      ∧ (s'.supply.exportStopped = true → s'.bal.transferCmd = maxQ 0 s.bal.transferCmd
          ∧ (s.bal.transferLimit < 0 → s'.bal.transferOn = false))
      ∧ (s'.supply.exportStopped = false → s'.bal = s.bal))
  ∧ (∀ (t : Nat) (aux24 : Rat) (s : State),
    ∃ s', exec (.transferImportCutoff t aux24) s = .next s' ∧ s'.rat Obj.aux24Voltage = aux24
      ∧ s'.supply.importStopped = (if s.supply.importStopped then decide (aux24 < s.rat Obj.transferImportMinAux + 1 / 2)
          else decide (aux24 < s.rat Obj.transferImportMinAux))
      ∧ (s'.supply.importStopped = true → s'.bal.transferCmd = minQ 0 s.bal.transferCmd
          ∧ (0 < s.bal.transferLimit → s'.bal.transferOn = false))
      ∧ (s'.supply.importStopped = false → s'.bal = s.bal))
  ∧ (∀ (t : Nat) (s : State), s.supply.loopbackSince = none → (s.tick t).loopbackDue = true →
      (s.md.mode.runs = true ∨ s.md.mode = .startup) →
    ∃ s', exec (.wakeLoopbackTest t) s = .next s' ∧ s'.supply.loopbackSince = some (max s.now t)
      ∧ s'.supply.lastLoopback = some (max s.now t) ∧ (s'.sentCh 8).loopback = true ∧ (s'.sentCh 8).asm = [])
  ∧ (∀ (t e : Nat) (ok : Bool) (s : State), s.supply.loopbackSince = some e →
    ∃ s', exec (.wakeLoopbackEnd t ok) s = .next s' ∧ s'.supply.loopbackSince = none ∧ (s'.sentCh 8).loopback = false
      ∧ (ok = true → s'.nat Obj.wakeTestResult = 1 ∧ 0x1B ∉ s'.flt.active)
      ∧ (ok = false → 0x1B ∉ s.flt.active → 0x1B ∈ s'.flt.pending))
  ∧ (∀ (t : Nat) (s : State), (s.md.mode.runs = true ∨ s.md.recovery = true) →
    ∃ s', exec (.usbAttach t) s = .next s' ∧ s'.mgmt = { s.mgmt with usb := true })
  ∧ (∀ (t : Nat) (s : State), ∃ s', exec (.usbDetach t) s = .next s' ∧ s'.mgmt = { s.mgmt with usb := false })

/-- Chapter 3, start-up and loss of AUX24 (R100, R118, R122 to R134, R142, R143, R684, R706): each row's own effect.
The model's choices of log entries 5, 6, 10, 17, 43, 44, 46, 49 enter its clauses. -/
def Obligations.StartUpAndHoldUpComplete : Prop :=
  (∀ (t holdup : Nat) (s : State), s.md.mode = .startup → s.md.started = true → s.md.holdup = 0 → 200 ≤ holdup → s.minSet = true →
    ∃ s', exec (.moduleReady t holdup) s = .next s' ∧ s'.md.mode = ((s.tick t).setNat Obj.holdupRemaining holdup).readyMode
      ∧ s'.md.keepMaint = false ∧ s'.md.laneReset = false ∧ s'.md.safeCarried = false)
  ∧ (∀ (t : Nat) (r : StartRec) (x : State) (srcs : List Nat) (s : State), s.md.mode = .startup → s.md.started = false →
      s.md.laneReset = false → (s.tick t).chooseSlot r.slotA r.slotB = some (x, srcs) →
    exec (.startUp t r) s = .next (x.startSteps r srcs) ∧ (x.released r).md.started = true
      ∧ (x.released r).flt.lane = [(0, bitOf (!r.laneA)), (1, bitOf (!r.laneB)), (2, bitOf (!r.laneC))].filter (fun e => e.2 != 0)
      ∧ (x.released r).ident.role = .segment ∧ (x.released r).mgmt.sessions = [] ∧ (x.released r).pm = x.pm)
  ∧ (∀ (t : Nat) (r : StartRec) (s : State), s.md.mode = .startup → s.md.started = false → s.md.laneReset = false →
      (s.tick t).chooseSlot r.slotA r.slotB = none →
    ∃ s', exec (.startUp t r) s = .next s' ∧ s'.md.mode = .recovery ∧ s'.md.recovery = true ∧ s'.md.started = false)
  ∧ (∀ (t : Nat) (s : State), s.rcd.capInit = false → s.rcd.capStopped = false → s.md.mode.runs = true →
    (∃ s', exec (.captureInitDone t true) s = .next s' ∧ s'.rcd.capInit = true ∧ s'.rcd.scrubStart = max s.now t
      ∧ s'.rcd.scrubEnd = max s.now t)
    ∧ (0x80 ∉ s.flt.active →
      ∃ s', exec (.captureInitDone t false) s = .next s' ∧ s'.rcd.capStopped = true ∧ 0x80 ∈ s'.flt.pending))
  ∧ (∀ (t : Nat) (s : State), s.md.mode = .ship →
    ∃ s', exec (.wake t) s = .next s' ∧
      if s.md.aux24 then s'.md.mode = .startup ∧ s'.md.started = false ∧ s'.nat Obj.startSource = 1
      else s'.md.mode = .keepalive ∧ s'.md.kaByWake = true ∧ s'.md.kaTripped = s.md.safeCarried)
  ∧ (∀ (t : Nat) (s : State), s.md.holdup = 0 → (s.md.mode = .keepalive ∨ s.md.mode = .ship ∨ s.md.mode = .off) →
    ∃ s', exec (.aux24Present t) s = .next s' ∧ s'.md.mode = .startup ∧ s'.md.aux24 = true ∧ s'.md.started = false
      ∧ s'.nat Obj.startSource = if s.md.mode = .ship then 1 else if s.md.mode = .keepalive then (if s.md.kaByWake then 3 else 2) else 0)
  ∧ (∀ (t : Nat) (s : State), 1 ≤ s.md.holdup → s.md.holdup ≤ 4 →
    ∃ s', exec (.aux24Present t) s = .next s' ∧ s'.md.holdup = 0 ∧ s'.md.aux24 = true ∧ s'.supply.loadsShed = false
      ∧ (s.md.abdicated = false → s'.md.mode = s.md.mode) ∧ (s.md.abdicated = true → s'.ident.role ≠ .head))
  ∧ (∀ (t holdup : Nat) (s : State), s.md.aux24 = true → s.md.holdup = 0 → s.md.terminalLatch = false → s.md.mode.runs = true →
    ∃ s', exec (.aux24Loss t holdup) s = .next s' ∧ s'.md.holdup = 4 ∧ s'.md.aux24 = false ∧ s'.md.mode = s.md.mode
      ∧ s'.bal.bleeders = [] ∧ s'.bal.transferOn = false ∧ s'.hio.mainPos = false ∧ s'.hio.mainNeg = false ∧ s'.hio.prechg = false
      ∧ s'.supply.loadsShed = true ∧ s'.rcd.caps = [])
  ∧ (∀ (t holdup : Nat) (s : State), s.md.aux24 = true → s.md.holdup = 0 → s.md.terminalLatch = true →
    ∃ s', exec (.aux24Loss t holdup) s = .next s' ∧ s'.md.mode = .off ∧ s'.md.holdup = 0
      ∧ s'.md.powerTimerEnd = some (max s.now t + 2000000000))
  ∧ (∀ (t holdup : Nat) (s : State), s.md.holdup = 4 → holdup ≤ 50 →
    ∃ s', exec (.holdupStep4End t holdup) s = .next s' ∧ s'.md.holdup = 0 ∧ s'.can.a.st = .off ∧ s'.can.b.st = .off
      ∧ s'.ring.east.up = false ∧ s'.ring.west.up = false ∧ s'.mgmt.sessions = [] ∧ s'.rcd.jobs = [] ∧ s'.ident.role ≠ .head
      ∧ s'.md.mode = if s.itg.stackSup then .off else if (s.tick t).shipArmed then .ship else .keepalive)

/-- Chapter 3, permit, SAFE exit and SHIP arming (R118, R119, R121, R138, R139, R707): each row's own effect.
The model's choices of log entries 5, 6, 90 enter its clauses. -/
def Obligations.ModeCommandsComplete : Prop :=
  (∀ (t v role counter : Nat) (q : PxReq) (s : State), (s.tick t).admitsWrite q Obj.maintPermit 0 0 (natBytes Obj.maintPermit v) role counter →
      s.mgmt.restartDue = false → v ≠ 0 → (s.md.mode = .standby ∨ s.md.mode = .online ∨ s.md.mode = .maintenance) →
    ∃ s', exec (.maintPermitGrant t q v) s = .next s' ∧ s'.md.mode = .maintenance
      ∧ s'.md.permitEnd = some (max s.now t + v * 60000000000))
  ∧ (∀ (t role counter : Nat) (q : PxReq) (s : State), (s.tick t).admitsWrite q Obj.maintPermit 0 0 (natBytes Obj.maintPermit 0) role counter →
      s.mgmt.restartDue = false → s.md.mode = .maintenance →
    ∃ s', exec (.maintPermitEnd t q 0) s = .next s' ∧ s'.md.mode = .standby ∧ s'.md.permitEnd = none ∧ s'.itg.fast = true
      ∧ s'.itg.roundDone = false)
  ∧ (∀ (t e : Nat) (s : State), s.md.permitEnd = some e → e ≤ max s.now t →
    ∃ s', exec (.maintPermitExpiry t) s = .next s' ∧ s'.md.permitEnd = none
      ∧ s'.md.mode = if s.md.mode = .maintenance then .standby else s.md.mode)
  ∧ (∀ (t v role counter : Nat) (q : PxReq) (s : State), (s.tick t).admitsWrite q Obj.safeExit 0 0 (natBytes Obj.safeExit v) role counter →
      s.mgmt.restartDue = false → s.md.mode = .safe → ((s.tick t).taken q counter).severeActive = false → s.md.terminalLatch = false →
      ((s.tick t).taken q counter).minSet = true →
    ∃ s', exec (.safeExit t q v) s = .next s' ∧ s'.md.mode = .standby ∧ s'.md.safeCarried = false)
  ∧ (∀ (t v role counter : Nat) (q : PxReq) (s : State), (s.tick t).admitsWrite q Obj.shipArm 0 0 (natBytes Obj.shipArm v) role counter →
      s.mgmt.restartDue = false → v ≠ 0 → (s.md.mode = .standby ∨ s.md.mode = .maintenance) →
      (s.isHead && (s.hio.mainPos || s.hio.mainNeg || s.hio.prechg)) = false →
    ∃ s', exec (.shipArm t q v) s = .next s' ∧ s'.md = { s.md with shipArmedAt := some (max s.now t) })
  ∧ (∀ (t role counter : Nat) (q : PxReq) (s : State), (s.tick t).admitsWrite q Obj.shipArm 0 0 (natBytes Obj.shipArm 0) role counter →
      s.mgmt.restartDue = false →
    ∃ s', exec (.shipDisarm t q 0) s = .next s' ∧ s'.md = { s.md with shipArmedAt := none })
  ∧ (∀ (t a : Nat) (s : State), s.md.shipArmedAt = some a → a + 600000000000 ≤ max s.now t →
    ∃ s', exec (.shipArmLapse t) s = .next s' ∧ s'.md = { s.md with shipArmedAt := none })

/-- Chapter 3, KEEPALIVE, the power-cycle timer and self-heating (R135 to R137, R141 to R152, R699, R708): each row's own effect.
The model's choices of log entries 5, 6, 45 enter its clauses. -/
def Obligations.KeepaliveAndThermalComplete : Prop :=
  (∀ (t : Nat) (cells : List Int) (ntcs : List (Option Rat)) (s : State), s.md.mode = .keepalive →
    ∃ s', exec (.keepaliveReading t cells ntcs) s = .next s' ∧ s'.md.kaLast = max s.now t ∧ s'.md.mode = .keepalive
      ∧ (∀ k, (k = 1 ∨ k = 2 ∨ k = 3 ∨ k = 4) → KMap.get s'.md.kaRuns k 0 =
          if s.kaCond (cells.take s.cellCount) (ntcs.filterMap id) k then KMap.get s.md.kaRuns k 0 + 1 else 0)
      ∧ ((∃ k, (k = 1 ∨ k = 2 ∨ k = 3 ∨ k = 4) ∧ 2 ≤ KMap.get s'.md.kaRuns k 0) → s'.md.kaTripped = true)
      ∧ ((∀ k, (k = 1 ∨ k = 2 ∨ k = 3 ∨ k = 4) → KMap.get s'.md.kaRuns k 0 < 2) → s'.md.kaTripped = s.md.kaTripped))
  ∧ (∀ (t : Nat) (s : State), s.md.mode = .keepalive → s.md.kaLast + 3000000000 ≤ max s.now t →
    ∃ s', exec (.keepaliveWatchdog t) s = .next s' ∧ s'.md.kaTripped = true ∧ s'.md.kaLast = max s.now t ∧ s'.md.kaRuns = [])
  ∧ (∀ (t e : Nat) (s : State), s.md.powerTimerEnd = some e → e ≤ max s.now t →
    ∃ s', exec (.powerCycleTimerExpiry t) s = .next s' ∧ s'.md.powerTimerEnd = none ∧ s'.md.terminalLatch = false
      ∧ s'.md.latchTimedOut = (s.md.latchTimedOut || s.md.terminalLatch))
  ∧ (∀ (t : Nat) (s : State), s.md.mode.runs = false →
    ∃ s', exec (.stackCollapse t) s = .next s' ∧ s'.md.terminalLatch = false ∧ s'.md.powerTimerEnd = none ∧ s'.mgmt.calendar = none
      ∧ s'.md.mode = if s.md.mode = .keepalive ∨ s.md.mode = .ship then .off else s.md.mode)
  ∧ (∀ (t : Nat) (s : State), s.md.mode.runs = true → 0x99 ∉ s.flt.active →
    ∃ s', exec (.stackCollapse t) s = .next s' ∧ s'.mgmt.calendar = none ∧ 0x99 ∈ s'.flt.pending)
  ∧ (∀ (t : Nat) (v : Rat) (s : State), s.md.mode.runs = true → s.md.sensors = [] → v < 125 → s.md.hotRun = 0 →
    ∃ s', exec (.thermalSensorRead t (List.replicate 10 v)) s = .next s' ∧ s'.md.hotRun = 0
      ∧ (∀ k, (KMap.get s'.md.sensors k {}).excluded = false)
      ∧ s'.md.fastRate = (if 95 ≤ v then true else if v < 93 then false else s.md.fastRate)
      ∧ 0x1C ∉ s'.flt.active ∧ 0x1D ∉ s'.flt.active ∧ 0x1E ∉ s'.flt.active)

/-- Chapter 4, ring time (R157 to R162, R486, R487): each row's own effect wherever its conditions hold.
The model's choices of log entries 5, 6, 22, 23 enter its clauses. -/
def Obligations.RingTimeCommandsComplete : Prop :=
  (∀ (t : Nat) (s : State), s.isHead = true → s.ringFree 1 = true →
    ∃ s', exec (.timeRecordSend t) s = .next s' ∧
      sentBoth s.out s'.out 1 1 (timeBytes (s.tick t).ringTime 0 s.ring.censusNo (bitOf (decide (max s.now t < s.flt.newMasterUntil)))))
  ∧ (∀ (t origin corr censusNo flags residence : Nat) (rx : SlotRx) (x : State) (s : State),
      (s.tick t).ringRx rx (timeBytes origin (corr + residence + ((s.tick t).linkDelay rx.port * 65536).floor.toNat) censusNo flags) = (x, true) →
      s.tm.master = false →
    ∃ s', exec (.time t rx origin corr censusNo flags residence) s = .next s' ∧ s'.tm.lastRecord = some (max s.now t)
      ∧ s'.rat Obj.timeOffset = ((x.timeOffsetOf rx.port origin corr : Int) : Rat)
      ∧ (s'.tm.state = match s.tm.state with
        | .unsynced => .acquiring
        | .acquiring => if -10 ≤ x.timeOffsetOf rx.port origin corr ∧ x.timeOffsetOf rx.port origin corr ≤ 10 ∧ 15 ≤ s.tm.goodRun then
            .locked else .acquiring
        | .locked => .locked
        | .holdover => if -10 ≤ x.timeOffsetOf rx.port origin corr ∧ x.timeOffsetOf rx.port origin corr ≤ 10 then .locked else .acquiring)
      ∧ (s.tm.state = .unsynced → s.tm.stepped = false → s'.tm.stepped = true
        ∧ s'.ringOffset = s.ringOffset + (s.tick t).slewed + x.timeOffsetOf rx.port origin corr)
      ∧ (¬ (s.tm.state = .unsynced ∧ s.tm.stepped = false) → s'.ringOffset = s.ringOffset + (s.tick t).slewed
        ∧ s'.tm.steerBy = x.timeOffsetOf rx.port origin corr ∧ s'.tm.steerAt = max s.now t))
  ∧ (∀ (t e : Nat) (s : State), s.tm.lastRecord = some e → s.tm.state = .locked → s.tm.master = false → e + 3000000 ≤ max s.now t →
    ∃ s', exec (.timeHoldover t) s = .next s' ∧ s'.tm.state = .holdover ∧ s'.tm.holdoverSince = some (max s.now t))
  ∧ (∀ (t e : Nat) (s : State), s.tm.holdoverSince = some e → s.tm.state = .holdover → e + 1000000000 ≤ max s.now t →
    ∃ s', exec (.timeUnsynced t) s = .next s' ∧ s'.tm.state = .unsynced ∧ s'.tm.holdoverSince = none ∧ s'.meas.localWin = true
      ∧ (0x20 ∉ s.flt.active → 0x20 ∈ s'.flt.pending))
  ∧ (∀ (t : Nat) (s : State), s.commsOn = true → s.ring.east.up = true → s.ring.west.up = true →
    ∃ s', exec (.delayReqSend t) s = .next s' ∧ s'.ring.east.delayT1 = some (max s.now t) ∧ s'.ring.west.delayT1 = some (max s.now t)
      ∧ ∃ h k, s'.out = s.out ++ [.slot .east h (fitBytes 52 (delayBytes (max s.now t) 0 0)) false,
          .slot .west k (fitBytes 52 (delayBytes (max s.now t) 0 0)) false] ∧ h.cls = 1 ∧ h.typ = 4 ∧ k.cls = 1 ∧ k.typ = 4)
  ∧ (∀ (t t1 : Nat) (p : Port) (s : State), s.commsOn = true → (s.port p).up = true →
    ∃ s', exec (.delayReq t p t1) s = .next s' ∧
      ∃ h, s'.out = s.out ++ [.slot p h (fitBytes 52 (delayBytes t1 (max s.now t) (max s.now t))) false] ∧ h.cls = 1 ∧ h.typ = 5)
  ∧ (∀ (t t1 t2 t3 : Nat) (p : Port) (s : State), (s.port p).delayT1 = some t1 →
    ∃ s', exec (.delayResp t p t1 t2 t3) s = .next s' ∧ (s'.port p).delayT1 = none
      ∧ s'.linkDelay p = ((((max s.now t : Nat) : Int) - t1 - ((t3 : Int) - t2) : Int) : Rat) / 2)

/-- Chapter 4, the spinner's sources and records (R165 to R170, R193 to R197, R713): each row's own effect.
The model's choices of log entries 5, 6, 22, 24 enter its clauses. -/
def Obligations.SpinnerCommandsComplete : Prop :=
  (∀ (t e : Nat) (s : State), s.isHead = true → s.tm.syncEdge = some e →
    ∃ s', exec (.syncEdge t) s = .next s' ∧ s'.tm.syncEdge = some (s.tick t).ringTime ∧
      if (s.tick t).ringTime - e < 20000 ∨ 500000 < (s.tick t).ringTime - e then s'.tm.syncPeriods = [] ∧ s'.tm.syncUsable = s.tm.syncUsable
      else s'.tm.syncPeriods = (((s.tick t).ringTime - e) :: s.tm.syncPeriods).take 16 ∧ s'.tm.syncUsable = (s.tick t).ringTime
        ∧ (periodsLocked s'.tm.syncPeriods = true → s'.sourceLocked 0 = true))
  ∧ (∀ (t instant angle period : Nat) (valid : Bool) (rx : SlotRx) (x : State) (s : State), s.isHead = true →
      (s.tick t).ringRx rx (leBytes 8 instant ++ leBytes 4 angle ++ leBytes 4 period ++ leBytes 1 (bitOf valid)) = (x, true) →
    ∃ s', exec (.pcsAngle t rx instant angle period valid) s = .next s' ∧
      if valid then s'.tm.pcsLast = some (instant, angle, period) ∧ s'.tm.pcsAt = (s.tick t).ringTime
        ∧ (pcsLocked s'.tm.pcs = true → s'.sourceLocked 1 = true)
      else s'.tm.pcs = [] ∧ s'.tm.pcsLast = s.tm.pcsLast)
  ∧ (∀ (t : Nat) (s : State), s.isHead = true → (s.tick t).sourceLost = true →
    ∃ s', exec (.spinnerSourceLost t) s = .next s' ∧ s'.tm.changeDue = true ∧ s'.tm.mDue = true ∧ s'.tm.source ≠ s.tm.source
      ∧ s'.tm.source = ([s.nat Obj.spinnerFallback1, s.nat Obj.spinnerFallback2].filter
          (fun k => k != s.tm.source && (s.tick t).sourceLocked k && !(s.tick t).lostNow k)).headD 3)
  ∧ (∀ (t : Nat) (s : State), s.isHead = true → s.tm.source ≠ s.nat Obj.spinnerSource →
      (s.nat Obj.spinnerSource ≠ 3 → (s.tick t).lostNow (s.nat Obj.spinnerSource) = false
        ∧ KMap.has s.tm.lockedSince (s.nat Obj.spinnerSource) = true
        ∧ KMap.get s.tm.lockedSince (s.nat Obj.spinnerSource) 0 + 1000000000 ≤ (s.tick t).ringTime) →
    ∃ s', exec (.spinnerSourceReturn t) s = .next s' ∧ s'.tm.source = s.nat Obj.spinnerSource ∧ s'.tm.changeDue = true
      ∧ s'.tm.mDue = true)
  ∧ (∀ (t : Nat) (s : State), s.isHead = true → s.ringFree 1 = true →
    ∃ (s' : State) (r : SpinnerRec), exec (.spinnerRecordSend t) s = .next s'
      ∧ r = { (s.tick t).nextRecord with anchorTime := s.tm.anchorTime, anchorTurn := s.tm.anchorTurn, m := s.tm.anchorM }
      ∧ s'.tm.spin = pruneSpin (s.tick t).ringTime (r :: s.tm.spin) ∧ s'.tm.changeDue = false ∧ s'.rat Obj.spinnerFreq = freqOf r.p
      ∧ sentBoth s.out s'.out 1 2
          (spinnerBytes r.t0 r.turn0 r.p r.source (bitOf r.locked + 2 * bitOf r.change) r.anchorTime r.anchorTurn r.m))
  ∧ (∀ (t : Nat) (rx : SlotRx) (r : SpinnerRec) (x : State) (s : State), s.isHead = false → r.p ≠ 0 → r.m ≠ 0 →
      (s.tick t).ringRx rx (spinnerBytes r.t0 r.turn0 r.p r.source (bitOf r.locked + 2 * bitOf r.change) r.anchorTime r.anchorTurn r.m)
        = (x, true) →
    ∃ s', exec (.spinner t rx r) s = .next s' ∧ s'.tm.source = r.source ∧ s'.tm.spin = pruneSpin (s.tick t).ringTime (r :: s.tm.spin)
      ∧ s'.tm.anchorTime = r.anchorTime ∧ s'.tm.anchorTurn = r.anchorTurn ∧ s'.tm.anchorM = r.m ∧ s'.rat Obj.spinnerFreq = freqOf r.p)
  ∧ (∀ (t instant turn : Nat) (r : SpinnerRec) (l : List SpinnerRec) (s : State), s.isHead = true → s.tm.mDue = true → s.tm.spin = r :: l →
      (s.tick t).anchorAhead = some (instant, turn) →
    ∃ s', exec (.precisionMRecompute t) s = .next s' ∧ s'.tm.mDue = false
      ∧ s'.tm.anchorM = calcM (s.nat Obj.precisionAveraging) (freqOf r.p) ∧ s'.tm.anchorTime = instant ∧ s'.tm.anchorTurn = turn
      ∧ s'.meas.anchorPend = some (instant, turn, s'.tm.anchorM) ∧ (r.p ≠ 0 → (s.tick t).ringTime + 2000000 ≤ instant))
  ∧ (∀ (t instant turn m : Nat) (s : State), s.meas.anchorPend = some (instant, turn, m) → instant ≤ (s.tick t).ringTime →
    ∃ s', exec (.windowAnchor t) s = .next s' ∧ s'.meas.anchorPend = none ∧ s'.meas.localWin = false ∧ s'.meas.m = m
      ∧ s'.meas.winStart = instant ∧ s'.meas.winTurn = turn ∧ s'.nat Obj.windowAnchorTurn = turn ∧ s'.nat Obj.windowAnchorTime = instant)

/-- Chapter 4, comparators, CrossingStatus and the shadows (R171 to R183): each row's own effect.
The model's choices of log entries 5, 6, 75 enter its clauses. -/
def Obligations.ComparatorAndShadowComplete : Prop :=
  (∀ (t k a : Nat) (u : AngleUnit) (c : AngleComp) (s : State), (s.tm.comps.filter (fun c => c.unit == u))[k]? = some c →
      (s.tick t).angle = some a → (c.everyTurn = true ∨ angleFuture c.angle a = false) → c.user ≠ .capture →
    ∃ s', exec (.angleComparatorFire t u k) s = .next s'
      ∧ KMap.get s'.tm.fired c.user.code 0 = KMap.get s.tm.fired c.user.code 0 + 1
      ∧ s'.tm.comps = (if c.everyTurn then s.tm.comps else s.tm.comps.filter (fun d => !(d.unit == c.unit && d.user == c.user)))
      ∧ (127 ≤ KMap.get s.tm.fired c.user.code 0 → 0x21 ∉ s.flt.active → 0x21 ∈ s'.flt.pending))
  ∧ (∀ (t k a : Nat) (u : AngleUnit) (c : AngleComp) (s : State), (s.tm.comps.filter (fun c => c.unit == u))[k]? = some c →
      (s.tick t).angle = some a → c.everyTurn = false → angleFuture c.angle a = false → c.user = .capture →
    exec (.angleComparatorFire t u k) s = .next
      ((((s.tick t).disarmAngle c.unit .capture).setNat Obj.captureAngle 0).captureTrigger 4 s.nodeId 0 (s.tick t).ringTime true))
  ∧ (∀ (t v role counter : Nat) (q : PxReq) (s : State),
      (s.tick t).admitsWrite q Obj.crossingStatus 0 0 (natBytes Obj.crossingStatus v) role counter →
    ∃ w, exec (.crossingStatusClear t q v) s = .next ((((s.tick t).taken q counter).setNat Obj.crossingStatus w).wroteOk q Obj.crossingStatus
        0 0 role counter ((s.tick t).bytesOf Obj.crossingStatus 0 0) (natBytes Obj.crossingStatus v))
      ∧ w < 64 ∧ ∀ b, b < 6 → (w.testBit b = true ↔ (s.nat Obj.crossingStatus).testBit b = true ∧ v.testBit b = false))
  ∧ (∀ (t index sub i j : Nat) (m : Master) (o : ObjDef) (s : State), s.objAt index sub = some (o, i, j) → wide64 o = true →
      s.masterRuns m = true →
    ∃ s', exec (.shadowLowRead t m index sub) s = .next s' ∧ s'.out = s.out ++ [.half m (fieldAt 0 4 ((s.tick t).liveBytes o i j))]
      ∧ s'.shadow m index sub = some (fieldAt 4 4 ((s.tick t).liveBytes o i j)))
  ∧ (∀ (t index sub i j : Nat) (m : Master) (o : ObjDef) (s : State), s.objAt index sub = some (o, i, j) → wide64 o = true →
      s.masterRuns m = true →
    ∃ s', exec (.shadowHighRead t m index sub) s = .next s' ∧
      match (s.tick t).shadow m index sub with
      | some h => s'.out = s.out ++ [.half m h] ∧ s'.dict = s.dict
      | none => s'.out = s.out ++ [.half m (fieldAt 4 4 ((s.tick t).liveBytes o i j))]
          ∧ (s'.nat Obj.crossingStatus).testBit m.idx = true)
  ∧ (∀ (t : Nat) (m : Master) (s : State),
    ∃ s', exec (.shadowExpiry t m) s = .next s' ∧
      ∀ e, e ∈ s'.tm.shadows ↔ e ∈ s.tm.shadows ∧ (e.1 % 8 = m.idx → max s.now t < e.2.2 + 1000000))

/-- Chapter 5, the precision converters and the outputs (R187 to R208, R321 to R331, R490, R561): each row's own effect.
The model's choices of log entries 5, 6, 8, 81 enter its clauses. -/
def Obligations.PrecisionCommandsComplete : Prop :=
  (∀ (t : Nat) (d1 d2 : Rat) (s : State), s.md.mode.runs = true → KMap.get s.meas.refRuns (refDecision d1 d2 s.meas.refsBad) 0 < 2 →
    ∃ s', exec (.refCrossCheck t d1 d2) s = .next s' ∧ s'.rat Obj.refDev1 = d1 ∧ s'.rat Obj.refDev2 = d2 ∧ s'.rat Obj.refDelta = d1 - d2
      ∧ s'.meas.refRuns = [(refDecision d1 d2 s.meas.refsBad, KMap.get s.meas.refRuns (refDecision d1 d2 s.meas.refsBad) 0 + 1)]
      ∧ s'.flt = s.flt)
  ∧ (∀ (t : Nat) (d1 d2 : Rat) (s : State), s.md.mode.runs = true → 2 ≤ KMap.get s.meas.refRuns (refDecision d1 d2 s.meas.refsBad) 0 →
    ∃ s', exec (.refCrossCheck t d1 d2) s = .next s'
      ∧ (refDecision d1 d2 s.meas.refsBad = 1 → s'.meas.refsBad = true ∧ (0x24 ∉ s.flt.active → 0x24 ∈ s'.flt.pending))
      ∧ (refDecision d1 d2 s.meas.refsBad = 2 → s'.meas.h1Fenced = true
        ∧ (s.meas.h1Fenced = false → 0x25 ∉ s.flt.active → 0x25 ∈ s'.flt.pending))
      ∧ (refDecision d1 d2 s.meas.refsBad = 3 → s'.meas.h2Fenced = true
        ∧ (s.meas.h2Fenced = false → 0x25 ∉ s.flt.active → 0x25 ∈ s'.flt.pending))
      ∧ (refDecision d1 d2 s.meas.refsBad = 4 → s'.meas.refUndec = true ∧ (0x26 ∉ s.flt.active → 0x26 ∈ s'.flt.pending)))
  ∧ (∀ (t cell : Nat) (s : State), s.meas.powered = true → s.cellFenced cell = false →
    ∃ s', exec (.precisionChannelFail t cell) s = .next s' ∧ s'.cellFenced cell = true
      ∧ s'.meas.h1Fenced = (s.meas.h1Fenced || decide (cell ≤ 12)) ∧ s'.meas.h2Fenced = (s.meas.h2Fenced || decide (12 < cell))
      ∧ (0x27 ∉ s.flt.active → 0x27 ∈ s'.flt.pending))
  ∧ (∀ (t cell since : Nat) (s : State),
    ∃ s', exec (.modulatorOverload t cell since) s = .next s'
      ∧ (s'.chan cell).clip = ({ start := (s.tick t).ringTime - (max s.now t - since), stop := some (s.tick t).ringTime }
          :: (s.chan cell).clip).take 8
      ∧ (s'.chan cell).prec.settle = 5 ∧ (s'.chan cell).std.settle = 12 ∧ (s'.chan cell).wide.settle = 65)
  ∧ (∀ (t cell a b turn : Nat) (uv : Rat) (s : State), s.meas.powered = true → s.md.mode.runs = true →
      (s.tick t).windowEnd = (b, turn) → b ≤ (s.tick t).ringTime → a = s.meas.winStart → 1 ≤ cell → cell ≤ s.cellCount →
      s.cellFenced cell = false → s.itg.test = none →
    ∃ s', exec (.precisionWindowEnd t [{ cell := cell, uv := uv }]) s = .next s' ∧ s'.meas.winStart = b ∧ s'.meas.winTurn = turn
      ∧ s'.px.pubWindow = s.px.pubWindow + 1 ∧ s'.px.pubGen = (s.px.pubGen + 1) % 65536 ∧ s'.px.pubInstant = (a + b) / 2
      ∧ (s'.chan cell).prec = ((s.tick t).makeWord (s.chan cell) (s.chan cell).prec cell uv a b
          (!((s.tick t).pawnIn (if cell ≤ 12 then 0 else 1) cell a b).isEmpty)).2
      ∧ (s.itg.subst.contains cell = false → (s'.chan cell).measured = true ∧ (s'.chan cell).instant = (a + b) / 2
        ∧ (s'.chan cell).word = ((s.tick t).makeWord (s.chan cell) (s.chan cell).prec cell uv a b
          (!((s.tick t).pawnIn (if cell ≤ 12 then 0 else 1) cell a b).isEmpty)).1))
  ∧ (∀ (t j cell : Nat) (uv : Rat) (cur : Option CurrentRaw) (s : State), s.meas.powered = true → s.md.mode.runs = true →
      wideAt j + wideHalf ≤ (s.tick t).ringTime → 1 ≤ cell → cell ≤ s.cellCount → s.cellFenced cell = false →
    ∃ s', exec (.widebandOutput t j [{ cell := cell, uv := uv }] cur) s = .next s' ∧
      let r := (s.tick t).makeWord (s.chan cell) (s.chan cell).wide cell uv (wideAt j - wideHalf) (wideAt j + wideHalf) false
      (s'.chan cell).wide = r.2 ∧ KMap.get s'.meas.wideBuf cell [] = (fill13 (KMap.get s.meas.wideBuf cell []) j r.1).1)
  ∧ (∀ (t j : Nat) (x : CurrentRaw) (s : State), s.md.mode.runs = true → s.isHead = true → wideAt j + wideHalf ≤ (s.tick t).ringTime →
      s.currentChannel ≠ 2 →
    ∃ s', exec (.widebandOutput t j [] (some x)) s = .next s' ∧ s'.meas.currentChanged = false
      ∧ (s'.chan 0).wide.seq = ((s.chan 0).wide.seq + 1) % 4
      ∧ KMap.get s'.meas.wideBuf 0 [] = (fill13 (KMap.get s.meas.wideBuf 0 []) j
          (tagWord (clampI (-8388608) 8388607 (roundHalfAway ((if s.currentChannel = 0 then s.shuntAmps x.shunt else s.fluxAmps x.flux) * 1000)))
            (s.chan 0).wide.seq false false false false (if s.currentChannel = 0 then shuntClip x.shunt else fluxClip x.flux)
            s.meas.currentChanged)).1)
  ∧ (∀ (t j cell : Nat) (uv : Rat) (taps : Option TapsRaw) (s : State), s.meas.powered = true → s.md.mode.runs = true →
      j * 125000 + stdHalf ≤ (s.tick t).ringTime → 1 ≤ cell → cell ≤ s.cellCount → s.cellFenced cell = false →
    ∃ s', exec (.standardOutput t j [{ cell := cell, uv := uv }] taps) s = .next s' ∧
      let r := (s.tick t).makeWord (s.chan cell) (s.chan cell).std cell uv (j * 125000 - stdHalf) (j * 125000 + stdHalf) false
      (s'.chan cell).std = r.2 ∧ KMap.get s'.meas.stdBuf cell [] = (fill13 (KMap.get s.meas.stdBuf cell []) j r.1).1)
  ∧ (∀ (t j : Nat) (x : TapsRaw) (s : State), s.md.mode.runs = true → s.isHead = true → j * 125000 + stdHalf ≤ (s.tick t).ringTime →
    ∃ s', exec (.standardOutput t j [] (some x)) s = .next s' ∧ s'.rat Obj.shuntCurrent = s.shuntAmps x.shunt
      ∧ s'.rat Obj.fluxCurrent = s.fluxAmps x.flux
      ∧ (s.hio.tapsOn = true → s'.meas.tapSettle = s.meas.tapSettle - 1)
      ∧ (s.hio.tapsOn = true → s.meas.tapSettle = 0 → s.meas.biasUntil ≤ j * 125000 - stdHalf →
        s'.rat Obj.stringVoltage = x.stringV.volts ∧ s'.rat Obj.linkVoltage = x.linkV.volts
          ∧ s'.rat Obj.mainPosVoltage = x.stringV.volts - x.linkV.volts))

/-- Chapter 6, the auxiliary converter, blanking and the legacy checks (R218 to R251, R280 to R282): each row's own effect.
The model's choices of log entries 5, 6, 21, 82, 95 enter its clauses. -/
def Obligations.AuxiliaryCommandsComplete : Prop :=
  (∀ (t : Nat) (s : State), s.md.mode.runs = true → s.aux.routineAt + s.nat Obj.routinePeriod * 1000000 ≤ (s.tick t).ringTime →
      s.aux.failed = false →
    ∃ s', exec (.routineTrigger t) s = .next s' ∧ s'.aux.routineAt = (s.tick t).ringTime
      ∧ (s.auxBusy .routine = true → s'.aux.passes = s.aux.passes
        ∧ s'.nat Obj.regOverrun = (s.nat Obj.regOverrun + 1) % 2 ^ Obj.regOverrun.ty.bits)
      ∧ (s.capturing = false → s'.auxBusy .routine = true))
  ∧ (∀ (t : Nat) (s : State), s.nat Obj.hostRegTrigger = 1 → s.aux.hostRegAt + s.nat Obj.hostRegPeriod * 1000000 ≤ (s.tick t).ringTime →
    ∃ s', exec (.hostRegTrigger t) s = .next s' ∧ s'.aux.hostRegAt = (s.tick t).ringTime
      ∧ (s.aux.failed = false → s.capturing = false → s.hostRegEntries ≠ [] → s'.auxBusy .hostReg = true))
  ∧ (∀ (t : Nat) (s : State), s.nat Obj.hostRegTrigger = 2 → 0 < KMap.get s.tm.fired AngleUser.hostReg.code 0 →
    ∃ s', exec (.hostRegTrigger t) s = .next s'
      ∧ KMap.get s'.tm.fired AngleUser.hostReg.code 0 = KMap.get s.tm.fired AngleUser.hostReg.code 0 - 1
      ∧ (s.aux.failed = false → s.capturing = false → s.hostRegEntries ≠ [] → s'.auxBusy .hostReg = true))
  ∧ (∀ (t v role counter : Nat) (q : PxReq) (s : State), (s.tick t).admitsWrite q Obj.hostRegStart 0 0 (natBytes Obj.hostRegStart v) role counter →
      s.mgmt.restartDue = false → s.nat Obj.hostRegTrigger = 3 →
    ∃ s', exec (.hostRegStart t q v) s = .next s'
      ∧ (s.aux.failed = false → s.capturing = false → s.hostRegEntries ≠ [] → s'.auxBusy .hostReg = true)
      ∧ (s.auxBusy .hostReg = true → s'.aux = s.aux))
  ∧ (∀ (t : Nat) (k : InjSeq) (u : AngleUser) (v : AuxUser) (s : State), u = (match k with | .is3 => .is3 | .is4 => .is4) →
      v = (match k with | .is3 => .is3 | .is4 => .is4) → 0 < KMap.get s.tm.fired u.code 0 →
    ∃ s', exec (.injTrigger t k) s = .next s' ∧ KMap.get s'.tm.fired u.code 0 = KMap.get s.tm.fired u.code 0 - 1
      ∧ (s.aux.failed = false → s.capturing = false → s.injEntries k ≠ [] → s'.auxBusy v = true))
  ∧ (∀ (t : Nat) (code : Int) (c : AuxConv) (p : AuxPass) (e : AuxEntry) (r : List AuxEntry) (s : State), s.aux.cur = some c →
      c.user ≠ .capture → s.passOf c.user = some p → p.todo = e :: r → e.chan = c.chan → p.n + 1 < e.n → s.capturing = false →
      s.auxBusy .fallback = false →
    ∃ s', exec (.auxConversionDone t code) s = .next s' ∧ s'.aux.lastChan = some c.chan
      ∧ ∃ p', s'.passOf c.user = some p' ∧ p'.todo = p.todo ∧ p'.n = p.n + 1 ∧ p'.sum = p.sum + clampI (-32768) 32767 code
        ∧ p'.short = (p.short || c.short))
  ∧ (∀ (t : Nat) (code : Int) (c : AuxConv) (p : AuxPass) (e : AuxEntry) (r : List AuxEntry) (s : State), s.aux.cur = some c →
      c.user = .hostReg → s.passOf c.user = some p → p.todo = e :: r → e.chan = c.chan → p.n + 1 = e.n → e.pos ≤ 16 →
    ∃ s', exec (.auxConversionDone t code) s = .next s' ∧ s'.aux.lastChan = some c.chan
      ∧ ∃ cal owt bal clip : Bool, s'.nat Obj.hostRegResult 0 (e.pos - 1) =
        tagWord (auxValue e.chan e.n e.shift (p.sum + clampI (-32768) 32767 code)).1
          (KMap.get s.aux.seq (AuxUser.hostReg.rank * 64 + e.pos) 0) false cal owt bal clip (p.short || c.short))
  ∧ (∀ (t : Nat) (s : State), s.aux.blankAt = none → (s.tick t).markWaits.aux.passes.any (fun p => p.waitSince.isSome) = true →
    ∃ s', exec (.blankWindowOpen t) s = .next s' ∧ s'.aux.blankAt = some (s.tick t).ringTime
      ∧ (∀ m ∈ s'.aux.blankOff, m ∈ s.bal.bleeders)
      ∧ s'.bal.fly = s.bal.fly.map (fun e => (e.1, { e.2 with blanked := e.2.on })))
  ∧ (∀ (t w : Nat) (p : AuxPass) (s : State), p ∈ s.aux.passes → p.waitSince = some w →
      w + (match (s.tick t).spinRec (s.tick t).ringTime with | some r => r.p / 32 | none => 2000000) ≤ (s.tick t).ringTime →
      s.capturing = false → s.auxBusy .fallback = false →
    ∃ s', exec (.blankWaitTimeout t) s = .next s' ∧ ∃ p' ∈ s'.aux.passes, p'.user = p.user ∧ p'.todo = p.todo ∧ p'.forced = true)
  ∧ (∀ (t a d pos ptr : Nat) (s : State), (s.tick t).angle = some a → d = (a / 65536) % 2 →
      ((s.tick t).pawnIdle d = 1 ∨ (s.tick t).pawnIdle d = 4) → ptr = (if (s.dev d).ended then 0 else (s.dev d).ptr) →
      (s.pawnAbove d ptr).find? (s.pawnFree d) = some pos →
    ∃ s', exec (.pawnVisit t) s = .next s' ∧ (s'.dev d).ptr = pos
      ∧ (s'.dev d).round = (s.dev d).round + (if (s.dev d).ended then 1 else 0)
      ∧ (s'.dev d).ended = !(s.pawnAbove d pos).any (s.pawnFree d))
  ∧ (∀ (t dev d pos since : Nat) (u : AuxUser) (r : SpinnerRec) (s : State), d = dev % 2 → u = (if d = 0 then .pawn0 else .pawn1) →
      (s.dev d).cur = some (pos, since) → (s.tick t).spinRec (s.tick t).ringTime = some r → since + r.p / 256 < (s.tick t).ringTime →
      (∀ c, s.aux.cur = some c → c.user ≠ u) →
    ∃ s', exec (.pawnAbandon t dev) s = .next s' ∧ (s'.dev d).cur = none ∧ s'.auxBusy u = false
      ∧ KMap.get (s'.dev d).res pos 0 = 2 ^ 15 + ((s.dev d).round % 4) * 4096)
  ∧ (∀ (t v role counter dev : Nat) (q : PxReq) (s : State), (s.tick t).admitsWrite q (balctrlObj dev) 0 0 (leBytes 2 v) role counter →
      s.mgmt.restartDue = false → s.flag Obj.legacyEnable = true →
    ∃ s', exec (.balctrlWrite t q dev v) s = .next s' ∧ (s'.dev dev).balEnd = some (max s.now t + 10000000000)
      ∧ ∀ k, k ∈ (s'.dev dev).bal ↔ 1 ≤ k ∧ k ≤ 12 ∧ v.testBit (k - 1) = true)
  ∧ (∀ (t v dev : Nat) (q : PxReq) (s : State), s.flag Obj.legacyEnable = false →
    ∃ s', exec (.balctrlWrite t q dev v) s = .next s' ∧ s'.aux = s.aux)
  ∧ (∀ (t dev e : Nat) (s : State), (s.dev dev).balEnd = some e → e ≤ max s.now t →
    ∃ s', exec (.balctrlExpiry t dev) s = .next s' ∧ (s'.dev dev).bal = [] ∧ (s'.dev dev).balEnd = none)

/-- Chapter 7, sense integrity (R256 to R275, R283): each row's own effect.
The model's choices of log entries 5, 6, 78, 79 enter its clauses. -/
def Obligations.IntegrityCommandsComplete : Prop :=
  (∀ (t : Nat) (s : State), s.owtMode = true → s.itg.nextAt ≤ (s.tick t).ringTime → s.itg.held = none → s.itg.test = none →
      s.forceSuspended (owtAt s.itg.pos) = false → s.owtBarred (owtAt s.itg.pos) = false → s.auxBusy .is1 = false → s.aux.failed = false →
      s.auxBusy .fallback = false →
    ∃ s', exec (.owtTestStart t) s = .next s' ∧ s'.itg.nextAt = (s.tick t).owtNextSlot
      ∧ ∃ x, s'.itg.test = some x ∧ x.id = owtAt s.itg.pos ∧ x.retest = false ∧ x.extra = false ∧ x.onSince = none)
  ∧ (∀ (t : Nat) (s : State), s.owtMode = true → s.itg.nextAt ≤ (s.tick t).ringTime → s.itg.held = none →
      s.forceSuspended (owtAt s.itg.pos) = false → s.owtBarred (owtAt s.itg.pos) = true →
    ∃ s', exec (.owtTestStart t) s = .next s' ∧ s'.itg = { s.itg with nextAt := (s.tick t).owtNextSlot }
      ∧ s'.nat Obj.owtDeferred = (s.nat Obj.owtDeferred + 1) % 2 ^ Obj.owtDeferred.ty.bits)
  ∧ (∀ (t e : Nat) (i : OwtId) (extra : Bool) (s : State), s.itg.retest = some (i, extra, e) → s.itg.test = none →
      s.forceSuspended i = false → s.owtBarred i = false → s.auxBusy .is1 = false → s.aux.failed = false → s.auxBusy .fallback = false →
    ∃ s', exec (.owtRetest t) s = .next s' ∧ s'.itg.retest = none
      ∧ ∃ x, s'.itg.test = some x ∧ x.id = i ∧ x.retest = true ∧ x.extra = extra ∧ x.onSince = none)
  ∧ (∀ (t : Nat) (s : State), s.owtMode = true → s.itg.overdue = false → s.itg.roundStart + s.overdueLimit ≤ (s.tick t).ringTime →
    ∃ s', exec (.owtRoundOverdue t) s = .next s' ∧ s'.itg.overdue = true ∧ (0x31 ∉ s.flt.active → 0x31 ∈ s'.flt.pending))
  ∧ (∀ (t : Nat) (x : State) (s : State), s.md.mode.runs = true → x = (s.tick t).formDiffs.clearMeans →
    ∃ s', exec (.dualPathCheck t) s = .next s' ∧ s'.aux.means = [] ∧ s'.itg.dn = x.itg.dn ∧ s'.itg.sumC = x.itg.sumC
      ∧ (s.itg.held = none → s.itg.undecided = false → x.classify = none → s'.itg.pattern = none ∧ s'.itg.patternRun = 0)
      ∧ (∀ p, s.itg.held = none → s.itg.undecided = false → x.classify = some p →
          (if s.itg.pattern = some p then s.itg.patternRun + 1 else 1) < 3 →
        s'.itg.held = none ∧ s'.itg.pattern = some p ∧ s'.itg.patternRun = if s.itg.pattern = some p then s.itg.patternRun + 1 else 1)
      ∧ (∀ p, s.itg.held = none → s.itg.undecided = false → x.classify = some p → s.itg.pattern = some p → 2 ≤ s.itg.patternRun →
          (s.capturing = true ∨ s.itg.test ≠ none) →
        s'.itg.held = some p ∧ s'.itg.extra = x.involved p))
  ∧ (∀ (t : Nat) (s : State), 200000 ≤ wordValue (KMap.get s.aux.words 0x41 0) →
    ∃ s', exec (.stackSupplyAbsent t) s = .next s' ∧ s'.itg.stackSup = true ∧ (0x2C ∉ s.flt.active → 0x2C ∈ s'.flt.pending))

/-- Chapter 8, plans, reports and the lease (R292, R301 to R310): each row's own effect.
The model's choices of log entries 5, 6, 29, 30, 32, 88 enter its clauses. -/
def Obligations.PlanCommandsComplete : Prop :=
  (∀ (t : Nat) (s : State), s.isHead = true → s.flag Obj.balEnable = true →
      (s.bal.computeAt = 0 ∨ s.bal.computeAt + s.nat Obj.balPlanPeriod * 1000000 ≤ max s.now t) → s.planNodes.Nodup →
    ∃ s', exec (.balPlanCompute t) s = .next s' ∧ s'.bal.computeAt = max s.now t
      ∧ ∀ node, KMap.get s'.bal.planSeqs node 0 =
          if node ∈ s.planNodes then (KMap.get s.bal.planSeqs node 0 + 1) % 65536 else KMap.get s.bal.planSeqs node 0)
  ∧ (∀ (t : Nat) (rx : SlotRx) (record : Bytes) (x : State) (s : State), (s.tick t).ringRx rx (record.take 52) = (x, true) → rx.hdr.src = 0 →
      s.planOk record = true → s.bal.planSeq ≠ some (fieldAt 0 2 record) →
    ∃ s', exec (.plan t (.ring rx) record) s = .next s' ∧ s'.bal.planSeq = some (fieldAt 0 2 record)
      ∧ s'.bal.leaseEnd = some (max s.now t + fieldAt 4 2 record * 1000000000) ∧ s'.bal.leaseExp = false
      ∧ s'.bal.transferLimit = signedOf 16 (fieldAt 6 2 record) ∧ s'.bal.planAt = max s.now t
      ∧ ∀ n, 1 ≤ n → n ≤ s.cellCount → s'.target n = ((planTarget record n : Int) : Rat) * 360000)
  ∧ (∀ (t : Nat) (rx : SlotRx) (record : Bytes) (x : State) (s : State), (s.tick t).ringRx rx (record.take 52) = (x, true) →
      (rx.hdr.src ≠ 0 ∨ s.planOk record = false) → 0x3E ∉ s.flt.active →
    ∃ s', exec (.plan t (.ring rx) record) s = .next s' ∧ s'.bal.planSeq = s.bal.planSeq ∧ 0x3E ∈ s'.flt.pending)
  ∧ (∀ (t role counter : Nat) (q : PxReq) (record : Bytes) (s : State),
      (s.tick t).admits q Obj.balPlanRecord 0 0 0x07 Obj.balPlanRecord.ty.code (leBytes 4 (crc32 record)) role counter →
      s.mgmt.restartDue = false → s.pxFromHead q = true → s.planOk record = true → s.bal.planSeq ≠ some (fieldAt 0 2 record) →
    ∃ s', exec (.plan t (.px q) record) s = .next s' ∧ s'.bal.planSeq = some (fieldAt 0 2 record)
      ∧ s'.bal.leaseEnd = some (max s.now t + fieldAt 4 2 record * 1000000000)
      ∧ s'.bal.transferLimit = signedOf 16 (fieldAt 6 2 record))
  ∧ (∀ (t : Nat) (rx : SlotRx) (record : Bytes) (x : State) (s : State), (s.tick t).ringRx rx (record.take 52) = (x, true) → s.isHead = true →
    ∃ s', exec (.report t rx record) s = .next s'
      ∧ KMap.get s'.bal.xferAct (fieldAt 2 1 record) 0 = signedOf 16 (fieldAt 6 2 record)
      ∧ KMap.get s'.bal.derates (fieldAt 2 1 record) 1 = ((fieldAt 4 1 record : Nat) : Rat) / 255)
  ∧ (∀ (t e : Nat) (s : State), s.bal.leaseEnd = some e → e ≤ max s.now t →
    ∃ s', exec (.balanceLeaseExpiry t) s = .next s' ∧ s'.bal.leaseEnd = none ∧ s'.bal.leaseExp = true ∧ s'.bal.bleeders = []
      ∧ s'.bal.transferOn = false ∧ s'.bal.targets = [] ∧ (∀ f ∈ s'.bal.fly, f.2.on = false) ∧ (0x38 ∉ s.flt.active → 0x38 ∈ s'.flt.pending))

/-- Chapter 8, selection, books and plausibility (R288, R293 to R300, R314 to R318): each row's own effect.
The model's choices of log entries 5, 6, 31, 83 enter its clauses. -/
def Obligations.BalancingCommandsComplete : Prop :=
  (∀ (t sec : Nat) (s : State), sec = (if s.unsynced then max s.now t else (s.tick t).ringTime) / 1000000000 → s.bal.selSec ≠ some sec →
      s.aux.blankAt = none → (s.tick t).convAllowed = true →
    ∃ s', exec (.flybackReselect t) s = .next s' ∧ s'.bal.selSec = some sec ∧
      ∀ k n, 1 ≤ k → k ≤ 6 → (s.fly k).fenced = false →
        ({ s.tick t with bal := { s.bal with selSec := some sec } } : State).balInhibits.flySelect k = some n →
        (s'.fly k).sel = n ∧ (s'.fly k).on = true)
  ∧ (∀ (t cell : Nat) (s : State), s.bal.reached.contains cell = true →
    ∃ s', exec (.balTargetReached t cell) s = .next s' ∧ s'.flyOn cell = false ∧ cell ∉ s'.bal.bleeders ∧ cell ∉ s'.bal.reached
      ∧ ∀ n, n ≠ cell → (n ∈ s'.bal.bleeders ↔ n ∈ s.bal.bleeders))
  ∧ (∀ (t : Nat) (v r tol : Rat) (s : State), (s.tick t).ringTime / 10000000000 ≠ s.bal.booksAt → s.bal.vCount ≠ 0 →
      v = (s.bal.vSum : Rat) / (s.bal.vCount : Nat) / 1000000 → 0 < v → (r, tol) = s.bookResidual v →
    ∃ s', exec (.balBooksCheck t) s = .next s' ∧ s'.bal.booksAt = (s.tick t).ringTime / 10000000000 ∧ s'.bal.qOut = 0 ∧ s'.bal.qIn = 0
      ∧ s'.bal.eXfer = 0 ∧ s'.bal.eLoss = 0 ∧ s'.bal.vCount = 0 ∧ s'.bal.busStart = s.bal.busV ∧
      if tol < absQ r then s'.bal.bookFails = s.bal.bookFails + 1 ∧ s'.bal.bookPasses = 0
        ∧ s'.bal.books = (s.bal.books || decide (2 ≤ s.bal.bookFails))
      else s'.bal.bookPasses = s.bal.bookPasses + 1 ∧ s'.bal.bookFails = 0
        ∧ s'.bal.books = (s.bal.books && decide (s.bal.bookPasses < 2)))
  ∧ (∀ (t : Nat) (s : State),
    ∃ s', exec (.balBusUndervoltage t) s = .next s' ∧ s'.bal.underStop = true ∧ s'.bal.transferCmd = maxQ 0 s.bal.transferCmd
      ∧ ∀ f ∈ s'.bal.fly, f.2.on = true → f.2.charge = false)
  ∧ (∀ (t : Nat) (s : State),
    ∃ s', exec (.balBusOvervoltage t) s = .next s' ∧ s'.bal.overStop = true ∧ s'.bal.transferCmd = minQ 0 s.bal.transferCmd
      ∧ ∀ f ∈ s'.bal.fly, f.2.on = true → f.2.charge = true)
  ∧ (∀ (t : Nat) (s : State),
    ∃ s', exec (.balBusFault t) s = .next s' ∧ s'.bal.busFault = true ∧ s'.bal.transferOn = false ∧ (∀ f ∈ s'.bal.fly, f.2.on = false)
      ∧ (0x3C ∉ s.flt.active → 0x3C ∈ s'.flt.pending))
  ∧ (∀ (t k : Nat) (s : State),
    ∃ s', exec (.flybackImplausible t k) s = .next s' ∧ (s'.fly k).fenced = true ∧ (s'.fly k).on = false
      ∧ (0x39 ∉ s.flt.active → 0x39 ∈ s'.flt.pending))
  ∧ (∀ (t : Nat) (s : State),
    ∃ s', exec (.transferImplausible t) s = .next s' ∧ s'.bal.xferFenced = true ∧ s'.bal.transferOn = false ∧ s'.bal.transferCmd = 0
      ∧ (0x3A ∉ s.flt.active → 0x3A ∈ s'.flt.pending))
  ∧ (∀ (t : Nat) (half2 : Bool) (s : State),
    ∃ s', exec (.bleederImplausible t half2) s = .next s' ∧ s'.bal.bank2Off = (s.bal.bank2Off || half2)
      ∧ s'.bal.bank1Off = (s.bal.bank1Off || !half2) ∧ (∀ n ∈ s'.bal.bleeders, if half2 then n ≤ 12 else 12 < n)
      ∧ (0x3B ∉ s.flt.active → 0x3B ∈ s'.flt.pending))

/-- Chapter 9, currents, string voltage, insulation and the limits (R322 to R338, R356, R359 to R362): each row's own effect.
The model's choices of log entries 5, 6, 58 enter its clauses. -/
def Obligations.HeadSupervisionComplete : Prop :=
  (∀ (t : Nat) (amps : Rat) (s : State), s.isHead = true → s.hio.scLatch = false → s.md.mode.runs = true →
      s.rat Obj.shortCircuitLevel < absQ amps →
    ∃ s', exec (.shortCircuitTrip t amps) s = .next s' ∧ s'.hio.scLatch = true ∧ (0x4B ∉ s.flt.active → 0x4B ∈ s'.flt.pending))
  ∧ (∀ (t : Nat) (a b : Rat) (s : State), s.isHead = true → s.hio.shuntFault = false → s.hio.fluxFault = false →
    ∃ s', exec (.currentCheck t (some a) (some b)) s = .next s' ∧
      if absQ a / 50 + s.rat Obj.currentCheckFloor < absQ (a - b) then
        s'.hio.curDev = min (s.hio.curDev + 1) 3 ∧ s'.hio.curAgree = 0
          ∧ s'.hio.curDisagree = (s.hio.curDisagree || decide (2 ≤ s.hio.curDev))
          ∧ (2 ≤ s.hio.curDev → 0x40 ∉ s.flt.active → 0x40 ∈ s'.flt.pending)
      else s'.hio.curDev = 0 ∧ s'.hio.curAgree = min (s.hio.curAgree + 1) 3
        ∧ s'.hio.curDisagree = (s.hio.curDisagree && decide (s.hio.curAgree < 2)) ∧ (2 ≤ s.hio.curAgree → 0x40 ∉ s'.flt.active))
  ∧ (∀ (t : Nat) (flux : Bool) (s : State), s.isHead = true →
    ∃ s', exec (.currentChannelFault t flux) s = .next s' ∧ s'.hio.shuntFault = (s.hio.shuntFault || !flux)
      ∧ s'.hio.fluxFault = (s.hio.fluxFault || flux) ∧ s'.hio.curDisagree = false ∧ 0x40 ∉ s'.flt.active
      ∧ ((if flux then 0x42 else 0x41) ∉ s.flt.active → (if flux then 0x42 else 0x41) ∈ s'.flt.pending))
  ∧ (∀ (t : Nat) (v : Rat) (s : State), s.isHead = true → s.allMeasured = true → absQ (v - s.moduleSum) ≤ s.moduleSum / 200 + 5 →
    ∃ s', exec (.stringVoltageCheck t v) s = .next s' ∧ s'.rat Obj.moduleSumVoltage = s.moduleSum ∧ s'.hio.svDisagreeSince = none
      ∧ 0x43 ∉ s'.flt.active)
  ∧ (∀ (t : Nat) (v : Rat) (s : State), s.isHead = true → s.allMeasured = true → s.moduleSum / 200 + 5 < absQ (v - s.moduleSum) →
    ∃ s', exec (.stringVoltageCheck t v) s = .next s' ∧ s'.hio.svDisagreeSince = some (s.hio.svDisagreeSince.getD (max s.now t))
      ∧ (s.hio.svDisagreeSince.getD (max s.now t) + 1000000000 ≤ max s.now t → 0x43 ∉ s.flt.active → 0x43 ∈ s'.flt.pending)
      ∧ (max s.now t < s.hio.svDisagreeSince.getD (max s.now t) + 1000000000 → s'.rat Obj.moduleSumVoltage = s.moduleSum
        ∧ s'.flt = s.flt))
  ∧ (∀ (t : Nat) (settled : Bool) (vp vn : Rat) (s : State), s.isoAllowed = true → s.hio.isoState = 1 →
      s.hio.isoSince + (if settled then s.nat Obj.isoStateMin else s.nat Obj.isoStateMax) * 1000000 ≤ max s.now t →
    ∃ s', exec (.isoStateEnd t settled vp vn) s = .next s' ∧ s'.hio.isoState = 2 ∧ s'.hio.isoSince = max s.now t
      ∧ s'.hio.isoA = (if settled then some (vp, vn) else none) ∧ s'.meas.biasUntil = (s.tick t).ringTime + 50000000)
  ∧ (∀ (t : Nat) (vp vn vp1 vn1 rp rn : Rat) (s : State), s.isoAllowed = true → s.hio.isoState = 2 →
      s.hio.isoSince + s.nat Obj.isoStateMin * 1000000 ≤ max s.now t → s.hio.isoA = some (vp1, vn1) →
      isoSolve vp1 vn1 vp vn = some (rp, rn) →
    ∃ s', exec (.isoStateEnd t true vp vn) s = .next s' ∧ s'.hio.isoA = none ∧ s'.hio.isoEval = some (max s.now t, 0)
      ∧ (isoPar rp rn < s.rat Obj.isoWarn → 1 ≤ s.hio.isoWarnRun → s'.hio.isoWarn = true)
      ∧ (s.rat Obj.isoWarn * 6 / 5 < isoPar rp rn → s.rat Obj.isoWarn ≤ isoPar rp rn → 1 ≤ s.hio.isoWarnClr → s'.hio.isoWarn = false)
      ∧ (isoPar rp rn < s.rat Obj.isoAlarm → 1 ≤ s.hio.isoAlarmRun → s'.hio.isoAlarm = true)
      ∧ (s.rat Obj.isoAlarm * 6 / 5 < isoPar rp rn → s.rat Obj.isoAlarm ≤ isoPar rp rn → 1 ≤ s.hio.isoAlarmClr → s'.hio.isoAlarm = false))
  ∧ (∀ (t : Nat) (s : State), s.isHead = true → s.md.mode.runs = true → s.hio.limitAt + s.nat Obj.pcsLimitPeriod * 1000000 ≤ max s.now t →
    ∃ s', exec (.pcsLimitPeriod t) s = .next s' ∧ s'.hio.limitAt = max s.now t ∧ s'.hio.limitSeq = (s.hio.limitSeq + 1) % 65536
      ∧ s'.hio.derated = s.limitTargets.2.2
      ∧ s'.rat Obj.chargeLimit = s.rampedLimit 0 s.limitTargets.1 (s.rat Obj.chargeLimit)
      ∧ s'.rat Obj.dischargeLimit = s.rampedLimit 1 s.limitTargets.2.1 (s.rat Obj.dischargeLimit))
  ∧ (∀ (t index sub j role counter : Nat) (q : PxReq) (v : PxValue) (o : ObjDef) (s : State), protAt index sub = some (o, j) → v.ty = o.ty.code →
      (s.tick t).admitsWrite q o 0 j v.data role counter → s.px.rwp.length < 16 →
      ((s.tick t).pxHeadCopy q = true ∨ (s.isHead = true ∧ (((s.tick t).taken q counter).setVal o (Val.decode o.ty v.data) 0 j).protOrdered = true)) →
    ∃ s', exec (.protectionSetWrite t q index sub v) s = .next s' ∧ s'.hio = s.hio
      ∧ ∃ r, s'.px.rwp = s.px.rwp ++ [r] ∧ r.index = o.index ∧ r.sub = o.sub + j ∧ r.data = v.data ∧ r.since = max s.now t)
  ∧ (∀ (t node crc : Nat) (s : State), s.isHead = true →
    ∃ s', exec (.protSetCrcCheck t [(node, crc)]) s = .next s' ∧
      (crc = s.protCrc → node ∉ s'.hio.protPending)
      ∧ (crc ≠ s.protCrc → node ≠ s.nodeId → s.admitted.contains node = true → node ∈ s'.hio.protPending))

/-- Chapter 9, the trip loop, its notices and the protection conditions (R324, R339 to R345, R351 to R358, R709, R710): each row's own
effect. The model's choices of log entries 5 and 6 enter its clauses. -/
def Obligations.TripCommandsComplete : Prop :=
  (∀ (t : Nat) (s : State), s.isHead = true → s.md.mode.runs = true →
    ∃ s', exec (.tripLoopLoss t) s = .next s' ∧ s'.hio.coilCut = true ∧ s'.hio.mainPos = false ∧ s'.hio.mainNeg = false
      ∧ s'.hio.prechg = false ∧ s'.hio.closeStep = 0 ∧ s'.hio.openStep = 0 ∧ s'.hio.contactor = (if s.hio.weld then 6 else 5)
      ∧ s'.hio.limitSeq = (s.hio.limitSeq + 1) % 65536 ∧ s'.md.mode = (if s.md.mode = .online then .standby else s.md.mode)
      ∧ (s.hio.tripHeard = none → s'.hio.tripWaitEnd = some (max s.now t + 10000000)))
  ∧ (∀ (t : Nat) (s : State), s.ident.role = .standby → s.md.mode.runs = true →
    ∃ s', exec (.tripLoopLoss t) s = .next s' ∧ s'.hio = { s.hio with
      coilCut := true, loopOkSince := none, mainPos := false, mainNeg := false, prechg := false })
  ∧ (∀ (t e : Nat) (s : State), s.hio.tripWaitEnd = some e → e ≤ max s.now t →
    ∃ s', exec (.tripNoticeWaitExpiry t) s = .next s' ∧ s'.hio.tripWaitEnd = none ∧ s'.hio.contactor = (if s.hio.weld then 6 else 5)
      ∧ s'.nat Obj.tripNode = 0 ∧ s'.nat Obj.tripCause = 0 ∧ s'.rat Obj.chargeLimit = 0 ∧ s'.rat Obj.dischargeLimit = 0)
  ∧ (∀ (t : Nat) (via : NoticeVia) (n : Notice) (x : State) (s : State), (s.tick t).noticeRx via 1 n = (x, true) →
    ∃ s', exec (.trip t via n) s = .next s'
      ∧ (∃ e r, s'.rcd.episodes = e :: r ∧ e.kind = 3 ∧ e.code = n.node ∧ e.detail = n.code)
      ∧ (s.isHead = true → s.hio.tripWaitEnd = none → s'.hio.tripHeard = some (n.node, n.code, max s.now t))
      ∧ (∀ e, s.isHead = true → s.hio.tripWaitEnd = some e → max s.now t ≤ e → s'.hio.tripWaitEnd = none
        ∧ s'.nat Obj.tripNode = n.node ∧ s'.nat Obj.tripCause = n.code))
  ∧ (∀ (t : Nat) (c : ProtCond) (s : State), s.evaluates c = true → s.hio.held.contains c = false →
    ∃ s', exec (.protectionDelayExpiry t c) s = .next s' ∧ s'.hio.held = s.hio.held ++ [c]
      ∧ (c.level = .warn → s'.hio = { s.hio with held := s.hio.held ++ [c] } ∧ s'.flt = s.flt)
      ∧ (c.level = ProtLevel.open → s'.hio.openReqAt = some (max s.now t + 1000000000))
      ∧ (c.level = ProtLevel.open → s.isHead = true → 0x49 ∉ s.flt.active → 0x49 ∈ s'.flt.pending)
      ∧ (c.level = .trip → s'.hio.tripLatch = true ∧ (0x4A ∉ s.flt.active → 0x4A ∈ s'.flt.pending)))
  ∧ (∀ (t : Nat) (c : ProtCond) (s : State),
    ∃ s', exec (.protectionRelease t c) s = .next s' ∧ (∀ d, d ∈ s'.hio.held ↔ d ∈ s.hio.held ∧ d ≠ c)
      ∧ s'.hio.tripLatch = s.hio.tripLatch
      ∧ ((∀ d ∈ s.hio.held, d ≠ c → d.level ≠ .trip) → 0x4A ∉ s'.flt.active)
      ∧ ((∀ d ∈ s.hio.held, d ≠ c → d.level ≠ ProtLevel.open) → s'.hio.openReqAt = none ∧ (s.hio.remoteOpen = [] → 0x49 ∉ s'.flt.active)))
  ∧ (∀ (t e : Nat) (s : State), s.hio.openReqAt = some e → e ≤ max s.now t → s.isHead = false → s.openHeld = true →
    ∃ s', exec (.openReqRepeat t) s = .next s' ∧ s'.hio = { s.hio with openReqAt := some (max s.now t + 1000000000) })
  ∧ (∀ (t : Nat) (via : NoticeVia) (n : Notice) (x : State) (s : State), (s.tick t).noticeRx via 2 n = (x, true) → s.isHead = true →
    ∃ s', exec (.openReq t via n) s = .next s' ∧ (0x49 ∉ s.flt.active → 0x49 ∈ s'.flt.pending)
      ∧ (s.nat Obj.severity 0 0x49 < 3 → KMap.get s'.hio.remoteOpen n.node 0 = max s.now t)
      ∧ (s.nat Obj.severity 0 0x49 < 3 → s.hio.contactor = 3 → s.hio.openStep = 0 → s'.hio.contactor = 4 ∧ s'.hio.openStep = 3
        ∧ s'.hio.openWaitEnd = max s.now t + 40000000 ∧ s'.hio.openOrderly = false))
  ∧ (∀ (t node : Nat) (s : State), KMap.has s.hio.remoteOpen node = true → KMap.get s.hio.remoteOpen node 0 + 2000000000 ≤ max s.now t →
    ∃ s', exec (.openReqHoldExpiry t node) s = .next s' ∧ KMap.has s'.hio.remoteOpen node = false)
  ∧ (∀ (t v role counter : Nat) (q : PxReq) (s : State), (s.tick t).admitsWrite q Obj.tripReset 0 0 (natBytes Obj.tripReset v) role counter →
      s.mgmt.restartDue = false → s.isHead = true →
    ∃ s', exec (.tripResetCommand t q v) s = .next s' ∧ s'.hio.resetSent = true ∧ s'.hio.scLatch = false
      ∧ s'.hio.tripLatch = (s.hio.tripLatch && s.tripHeld) ∧ (s.hio.scLatch = true → 0x4B ∉ s'.flt.active))
  ∧ (∀ (t : Nat) (via : NoticeVia) (n : Notice) (x : State) (s : State), (s.tick t).noticeRx via 5 n = (x, true) →
    ∃ s', exec (.tripReset t via n) s = .next s' ∧ s'.hio = { s.hio with scLatch := false, tripLatch := s.hio.tripLatch && s.tripHeld }
      ∧ (s.hio.scLatch = true → 0x4B ∉ s'.flt.active))
  ∧ (∀ (t : Nat) (s : State), s.isHead = true → s.hio.contactor = 5 → s.hio.resetSent = true → (s.tick t).loopGood = true →
      s.hio.mainPos = false → s.hio.mainNeg = false → s.hio.prechg = false →
    ∃ s', exec (.trippedClear t) s = .next s' ∧ s'.hio = { s.hio with contactor := 0 })

/-- Chapter 9, the contactor sequences and release to service (R105, R345 to R353, R364, R706, R710): each row's own effect.
The model's choices of log entries 5 and 6 enter its clauses. -/
def Obligations.ContactorCommandsComplete : Prop :=
  (∀ (t role counter : Nat) (q : PxReq) (s : State), (s.tick t).admitsWrite q Obj.contactorCommand 0 0 (natBytes Obj.contactorCommand 1) role counter →
      s.mgmt.restartDue = false → s.isHead = true → ((s.tick t).taken q counter).closeCode = 0 →
    ∃ s', exec (.contactorClose t q 1) s = .next s' ∧ s'.hio.contactor = 1 ∧ s'.hio.closeStep = 2 ∧ s'.hio.stepStart = max s.now t
      ∧ s'.hio.coilCut = false ∧ s'.hio.limitSeq = (s.hio.limitSeq + 1) % 65536)
  ∧ (∀ (t role counter : Nat) (q : PxReq) (s : State), (s.tick t).admitsWrite q Obj.contactorCommand 0 0 (natBytes Obj.contactorCommand 2) role counter →
      s.mgmt.restartDue = false → s.isHead = true → s.flt.handoverStep = 0 →
    ∃ s', exec (.contactorOpen t q 2) s = .next s' ∧
      if s.hio.contactor = 1 ∨ s.hio.contactor = 2 ∨ (s.hio.contactor = 3 ∧ s.hio.openStep = 0) then
        s'.hio.contactor = 4 ∧ s'.hio.openStep = 3 ∧ s'.hio.openOrderly = true
          ∧ s'.hio.openWaitEnd = max s.now t + (if s.hio.contactor = 3 then s.nat Obj.openWaitMax * 1000000 else 40000000)
      else s'.hio = s.hio)
  ∧ (∀ (t k : Nat) (m : SeqMeas) (s : State), s.isHead = true → s.hio.contactor ≠ 0 → s.hio.closeStep = k →
      ((k = 2 ∧ s.hio.stepStart + 100000000 ≤ max s.now t) ∨ ((k = 4 ∨ k = 8) ∧ s.hio.stepStart + 50000000 ≤ max s.now t)) →
      (if k = 2 then 1 else 2) ≤ m.ampsMax →
    ∃ s', exec (.closingSequenceStep t m) s = .next s' ∧ s'.hio.weld = true ∧ s'.hio.contactor = 6 ∧ s'.hio.closeStep = 0
      ∧ s'.hio.mainPos = false ∧ s'.hio.mainNeg = false ∧ s'.hio.prechg = false ∧ (0x47 ∉ s.flt.active → 0x47 ∈ s'.flt.pending))
  ∧ (∀ (t k : Nat) (m : SeqMeas) (s : State), s.isHead = true → s.hio.contactor ≠ 0 → s.hio.closeStep = k → k ≠ 8 → k ≠ 10 → k ≠ 12 →
      (if k = 2 then decide (m.ampsMax < 1) else if k = 4 then decide (m.ampsMax < 2) else true) = true →
      s.hio.stepStart + (if k = 2 then 100 else if k = 3 then s.nat Obj.pullInTime 0 2 else if k = 4 then 50
        else if k = 6 then s.nat Obj.contactorOpenWait else if k = 7 then s.nat Obj.pullInTime 0 1 else if k = 9 then s.nat Obj.pullInTime 0 2
        else s.nat Obj.pullInTime 0 0) * 1000000 ≤ max s.now t →
    ∃ s', exec (.closingSequenceStep t m) s = .next s' ∧
      (k = 2 → s'.hio = { s.hio with prechg := true, closeStep := 3, stepStart := max s.now t })
      ∧ (k = 3 → s'.hio = { s.hio with closeStep := 4, stepStart := max s.now t })
      ∧ (k = 4 → s'.hio = { s.hio with prechg := false, closeStep := 6, stepStart := max s.now t })
      ∧ (k = 6 → s'.hio = { s.hio with mainNeg := true, closeStep := 7, stepStart := max s.now t })
      ∧ (k = 7 → s'.hio = { s.hio with closeStep := 8, stepStart := max s.now t })
      ∧ (k = 9 → s'.hio = { s.hio with closeStep := 10, stepStart := max s.now t })
      ∧ (k = 11 → s'.hio = { s.hio with prechg := false, closeStep := 12, stepStart := max s.now t }))
  ∧ (∀ (t : Nat) (m : SeqMeas) (s : State), s.isHead = true → s.hio.contactor ≠ 0 → s.hio.closeStep = 8 → m.ampsMax < 2 →
      s.hio.stepStart + 50000000 ≤ max s.now t →
    ∃ s', exec (.closingSequenceStep t m) s = .next s' ∧
      if absQ m.mainPosV ≤ s.rat Obj.prechargeDoneBand then
        if s.flag Obj.linkPrechargedAllowed then
          s'.hio = { s.hio with linkHeld := true, mainPos := true, closeStep := 11, stepStart := max s.now t }
        else s'.hio.contactor = 0 ∧ s'.hio.closeStep = 0 ∧ s'.hio.mainNeg = false ∧ (0x46 ∉ s.flt.active → 0x46 ∈ s'.flt.pending)
      else s'.hio = { s.hio with prechg := true, contactor := 2, closeStep := 9, stepStart := max s.now t })
  ∧ (∀ (t : Nat) (m : SeqMeas) (s : State), s.isHead = true → s.hio.contactor ≠ 0 → s.hio.closeStep = 10 →
    ∃ s', exec (.closingSequenceStep t m) s = .next s' ∧
      if 3 / 2 * m.stringV / s.rat Obj.prechargeResistance < absQ m.amps then
        s'.hio.contactor = 0 ∧ s'.hio.closeStep = 0 ∧ s'.hio.lockoutEnd = some (max s.now t + 60000000000) ∧ s'.hio.prechg = false
          ∧ s'.hio.mainNeg = false ∧ (0x46 ∉ s.flt.active → 0x46 ∈ s'.flt.pending)
      else (m.bandHeld = true → s.hio.stepStart + 50000000 ≤ max s.now t →
        s'.hio = { s.hio with mainPos := true, contactor := 1, closeStep := 11, stepStart := max s.now t }))
  ∧ (∀ (t : Nat) (m : SeqMeas) (s : State), s.isHead = true → s.hio.contactor ≠ 0 → s.hio.closeStep = 12 → m.bandHeld = true →
      s.hio.stepStart + 50000000 ≤ max s.now t →
    ∃ s', exec (.closingSequenceStep t m) s = .next s' ∧ s'.hio.contactor = 3 ∧ s'.hio.closeStep = 0
      ∧ s'.md.mode = if s.md.mode = .standby then .online else s.md.mode)
  ∧ (∀ (t e : Nat) (s : State), s.hio.lockoutEnd = some e → e ≤ max s.now t →
    ∃ s', exec (.prechargeLockoutExpiry t) s = .next s' ∧ s'.hio = { s.hio with lockoutEnd := none } ∧ 0x46 ∉ s'.flt.active)
  ∧ (∀ (t : Nat) (m : SeqMeas) (s : State), s.isHead = true → s.hio.openStep = 3 →
      ((m.bandHeld = true ∧ s.hio.stepStart + 20000000 ≤ max s.now t) ∨ s.hio.openWaitEnd ≤ max s.now t) →
    ∃ s', exec (.openingSequenceStep t m) s = .next s'
      ∧ s'.hio = { s.hio with mainPos := false, prechg := false, openStep := 5, stepStart := max s.now t }
      ∧ (s.rat Obj.openCurrentMax ≤ absQ m.amps → (s.hio.mainPos || s.hio.prechg) = true → s'.rat Obj.lastOpenCurrent = m.amps
        ∧ s'.nat Obj.openUnderLoad = (s.nat Obj.openUnderLoad + 1) % 2 ^ Obj.openUnderLoad.ty.bits))
  ∧ (∀ (t : Nat) (m : SeqMeas) (s : State), s.isHead = true → s.hio.openStep = 5 → s.hio.stepStart + 20000000 ≤ max s.now t →
    ∃ s', exec (.openingSequenceStep t m) s = .next s'
      ∧ s'.hio = { s.hio with mainNeg := false, openStep := 6, stepStart := max s.now t })
  ∧ (∀ (t : Nat) (m : SeqMeas) (s : State), s.isHead = true → s.hio.openStep = 6 →
      s.hio.stepStart + s.nat Obj.contactorOpenWait * 1000000 ≤ max s.now t →
    ∃ s', exec (.openingSequenceStep t m) s = .next s' ∧ s'.hio.openStep = 0 ∧
      if 1 ≤ absQ m.amps then s'.hio.weld = true ∧ s'.hio.contactor = 6 ∧ (0x47 ∉ s.flt.active → 0x47 ∈ s'.flt.pending)
      else s'.hio.contactor = 0 ∧ s'.hio.limitSeq = (s.hio.limitSeq + 1) % 65536
        ∧ s'.md.mode = if s.md.mode = .online then .standby else s.md.mode)
  ∧ (∀ (t : Nat) (c : Coil) (s : State), s.driven c = true →
    ∃ s', exec (.coilShortCircuit t c) s = .next s' ∧ s'.driven c = false ∧ s'.hio.coilFault = true
      ∧ (0x48 ∉ s.flt.active → 0x48 ∈ s'.flt.pending))
  ∧ (∀ (t : Nat) (c : Coil) (s : State), s.driven c = true →
    ∃ s', exec (.coilOpenLoad t c) s = .next s' ∧ s'.hio.coilFault = true ∧ (0x48 ∉ s.flt.active → 0x48 ∈ s'.flt.pending))
  ∧ (∀ (t : Nat) (s : State), s.isHead = true → s.md.mode.runs = true →
    ∃ s', exec (.releaseSend t) s = .next s' ∧ s'.hio = s.hio
      ∧ ∀ e ∈ s.others, e.2.state = 1 → (s'.member e.1).released = s.releases (s.member e.1))
  ∧ (∀ (t node membGen instant : Nat) (released : Bool) (rx : SlotRx) (x : State) (s : State),
      (s.tick t).ringRx rx (releaseBytes node released membGen instant) = (x, true) → node = s.nodeId → s.isHead = false → rx.hdr.src = 0 →
    ∃ s', exec (.release t rx node released membGen instant) s = .next s' ∧ s'.hio.released = released
      ∧ s'.md.mode = if released ∧ s.md.mode = .standby then .online else if ¬ released ∧ s.md.mode = .online then .standby else s.md.mode)

/-- Chapter 10, charge count, voltage check and the first estimate (R366 to R391): each row's own effect.
The model's choices of log entries 5, 6, 25 enter its clauses. -/
def Obligations.SocCommandsComplete : Prop :=
  (∀ (t : Nat) (s : State), s.md.mode.runs = true →
    ∃ s', exec (.chargeCount t) s = .next s' ∧ s'.est.msSum = 0 ∧ s'.est.msClip = 0 ∧ s'.est.msWords = 0 ∧ s'.est.filledTo = max s.now t
      ∧ ∀ n, 1 ≤ n → n ≤ s.cellCount →
        let raw := (s.tick t).msMeanNow * (if s.est.gap then ((max s.now t - s.est.filledTo : Nat) : Rat) / 1000000000 else 1 / 1000)
          + (KMap.get s.bal.charge n 0 - (s.ec n).balPrev) / 1000000
        (s'.ec n).balPrev = KMap.get s.bal.charge n 0 ∧ (s'.ec n).secCharge = (s.ec n).secCharge + raw
          ∧ (s'.ec n).throughput = (s.ec n).throughput + absQ raw
          ∧ (s'.ec n).q = (s.ec n).q + (if 0 < raw then raw * s.rat Obj.chargeEfficiency else raw) * 1000000)
  ∧ (∀ (t : Nat) (s : State), s.md.mode.runs = true → s.est.gap = false → s.est.wordAt + 100000000 ≤ max s.now t →
    ∃ s', exec (.countGap t) s = .next s' ∧ s'.est.gap = true ∧ s'.est.gapSeen = true ∧ s'.est.filledTo = s.est.wordAt
      ∧ s'.est.breaks = s.est.breaks + 1 ∧ s'.nat Obj.countGaps = (s.nat Obj.countGaps + 1) % 2 ^ Obj.countGaps.ty.bits)
  ∧ (∀ (t : Nat) (s : State), s.md.mode.runs = true → s.est.hold = false → s.est.wordAt + 10000000000 ≤ max s.now t →
    ∃ s', exec (.countHold t) s = .next s' ∧ s'.est.hold = true ∧ s'.est.gap = true ∧ s'.est.breaks = s.est.breaks + 1
      ∧ (0x55 ∉ s.flt.active → 0x55 ∈ s'.flt.pending))
  ∧ (∀ (t : Nat) (s : State), s.md.mode.runs = true →
    ∃ s', exec (.voltageCheck t) s = .next s' ∧ ∀ n, 1 ≤ n → n ≤ s.cellCount →
      (s'.ec n).sec = {} ∧ (s'.ec n).secCharge = 0 ∧ (s'.ec n).leak = 0
        ∧ (s'.ec n).curMeans = ((s.ec n).secCharge :: (s.ec n).curMeans).take 10)
  ∧ (∀ (t f : Nat) (s : State), s.est.firstAt = some f → s.est.firstDone = false → f + 100000000 ≤ max s.now t →
    ∃ s', exec (.firstEstimate t) s = .next s' ∧ s'.est.firstDone = true
      ∧ (s.recordInForce false = none → s'.nat Obj.initialBasis = (if s.ocv.isSome then 1 else 2)
        ∧ s'.nat Obj.storedStateAge = 0xFFFFFFFF
        ∧ ∀ n, 1 ≤ n → n ≤ s.cellCount → ((s'.ec n).s, (s'.ec n).u) = (s.tick t).ocvEstimate n))
  ∧ (∀ (t : Nat) (s : State), s.est.startAt + 86400000000000 ≤ max s.now t →
    ∃ s', exec (.initialTimeout t) s = .next s' ∧ ∀ n, 1 ≤ n → n ≤ s.cellCount → (s'.ec n).initial = false)
  ∧ (∀ (t cell : Nat) (x : Rat × Rat × Rat) (s : State), (s.tick t).restHolds cell = true → (s.ec cell).check = some x →
      (∀ r, (s.ec cell).restAt = some r → r + 600000000000 ≤ max s.now t) →
    ∃ s', exec (.restPoint t cell) s = .next s' ∧ (s'.ec cell).restAt = some (max s.now t) ∧ (s'.ec cell).throughput = 0
      ∧ ∃ p, (s'.ec cell).kept = some p ∧ p.sv = x.1 ∧ p.ur = 1000 * x.2.2 / x.2.1 ∧ p.q = (s.ec cell).q
        ∧ p.time = (s.tick t).ringTime ∧ p.breaks = s.est.breaks)
  ∧ (∀ (t cell : Nat) (s : State), (s.tick t).restHolds cell = false →
    ∃ s', exec (.restPoint t cell) s = .next s' ∧ (s'.ec cell).restAt = none ∧ (s'.ec cell).kept = (s.ec cell).kept)

/-- Chapter 10, the estimation records (R401 to R405): each row's own effect. The model's choices of log entries 5, 6, 41 enter its clauses. -/
def Obligations.RecordCommandsComplete : Prop :=
  (∀ (t : Nat) (s : State), s.md.mode.runs = true → s.est.socWrite = none →
      s.est.socDue + s.nat Obj.socWritePeriod * 1000000000 ≤ max s.now t →
    ∃ s', exec (.socRecordWrite t) s = .next s' ∧ s'.est.socDue = max s.now t ∧ ∃ w, s'.est.socWrite = some w
      ∧ w.addr = ((s.tick t).recordNext false).2
      ∧ w.data = ((s.tick t).socRecord false).2 ∧ w.fails = 0 ∧
      if 50 ≤ s.nat Obj.holdupRemaining ∧ s.rcd.pmPresent then
        w.stage = 1 ∧ s'.rcd.jobs = s.rcd.jobs ++ [{ rank := 2, addr := w.addr, data := w.data, fails := 0 }]
      else w.stage = 0 ∧ w.due = max s.now t + 100000000 ∧ s'.rcd.jobs = s.rcd.jobs)
  ∧ (∀ (t : Nat) (s : State), s.md.mode.runs = true → s.est.capPend = true → s.est.capWrite = none →
    ∃ s', exec (.capacityRecordWrite t) s = .next s' ∧ ∃ w, s'.est.capWrite = some w ∧ w.addr = ((s.tick t).recordNext true).2
      ∧ w.data = ((s.tick t).capRecord).2 ∧ w.fails = 0 ∧
      if 50 ≤ s.nat Obj.holdupRemaining ∧ s.rcd.pmPresent then
        w.stage = 1 ∧ s'.rcd.jobs = s.rcd.jobs ++ [{ rank := 1, addr := w.addr, data := w.data, fails := 0 }]
      else w.stage = 0 ∧ w.due = max s.now t + 100000000 ∧ s'.rcd.jobs = s.rcd.jobs)
  ∧ (∀ (t : Nat) (capacity : Bool) (w : RecWrite) (s : State), s.recWrite capacity = some w → w.stage = 0 → w.due ≤ max s.now t →
    ∃ s', exec (.recordWriteRetry t) s = .next s' ∧
      if 50 ≤ s.nat Obj.holdupRemaining ∧ s.rcd.pmPresent then
        s'.recWrite capacity = some { w with stage := 1 }
          ∧ { rank := if capacity then 1 else 2, addr := w.addr, data := w.data, fails := 0 } ∈ s'.rcd.jobs
      else s'.recWrite capacity = some { w with stage := 0, due := max s.now t + 100000000 } ∧ s'.rcd.jobs = s.rcd.jobs)
  ∧ (∀ (t crc : Nat) (capacity : Bool) (w : RecWrite) (s : State), s.recWrite capacity = some w → w.stage = 2 →
    ∃ s', exec (.recordReadback t capacity crc) s = .next s' ∧
      if crc = fieldAt 60 4 w.data then
        s'.recWrite capacity = none ∧ (capacity = true → s'.est.capPend = false ∧ s'.est.noCap = false ∧ 0x53 ∉ s'.flt.active)
          ∧ (capacity = false → s.est.noCap = false → 0x53 ∉ s'.flt.active)
      else s'.recWrite capacity = some { w with stage := 0, due := max s.now t + 100000000, fails := w.fails + 1 }
        ∧ (2 ≤ w.fails → 0x53 ∉ s.flt.active → 0x53 ∈ s'.flt.pending))

/-- Chapter 10, impedance, self-discharge, the estimate records and the string's figures (R392 to R400, R406, R407): each row's own
effect. The model's choices of log entries 5, 6, 26 enter its clauses. -/
def Obligations.EstimateCommandsComplete : Prop :=
  (∀ (t ts : Nat) (m : StepMeas) (s : State), s.rat Obj.stepMinFraction * s.capC ≤ absQ (m.amps - m.iPre) →
      m.iPreDev ≤ absQ (m.amps - m.iPre) / 50 → s.noConfig = false →
    ∃ s', exec (.loadStep t ts m) s = .next s' ∧ ∃ x, s'.est.step = some x ∧ x.ts = ts ∧ x.iPre = m.iPre ∧ x.term = 0 ∧ x.r = [])
  ∧ (∀ (t term : Nat) (amps dev : Rat) (cells : List (Nat × Rat)) (x : StepSt) (s : State), s.est.step = some x → x.term = term →
      x.ts + stepWindowEndOf term ≤ (s.tick t).ringTime →
    ∃ s', exec (.stepWindowEnd t term amps dev cells) s = .next s' ∧
      if absQ amps / 20 < dev ∨ term = 2 then s'.est.step = none
      else ∃ y, s'.est.step = some y ∧ y.term = term + 1 ∧ y.ts = x.ts ∧ y.iPre = x.iPre)
  ∧ (∀ (t n : Nat) (amps dev uv : Rat) (x : StepSt) (s : State), s.est.step = some x → x.term = 0 →
      x.ts + stepWindowEndOf 0 ≤ (s.tick t).ringTime → dev ≤ absQ amps / 20 → KMap.has x.vPre n = true →
      (s.ec n).taint.std < x.ts + stepWindow 0 → (s.ec n).flyAt + 2000000 < x.ts → amps ≠ x.iPre →
    ∃ s', exec (.stepWindowEnd t 0 amps dev [(n, uv)]) s = .next s'
      ∧ (s'.ec n).r0 = stepFilter (s.ec n).r0 ((uv - KMap.get x.vPre n 0) / 1000000 / (amps - x.iPre)))
  ∧ (∀ (t cell bin : Nat) (b : BinBlock) (k : BinSt) (s : State), bin < 64 → 1 ≤ cell → cell ≤ s.cellCount →
      s.rat Obj.impMinExcitation * s.rat Obj.impMinExcitation ≤ b.i2 → s.est.curBad < b.since →
      (if bin < 56 then max (s.ec cell).taint.std (s.ec cell).taint.stdBal else max (s.ec cell).taint.wide (s.ec cell).taint.wideBal) < b.since →
      k = KMap.get (s.ec cell).bins bin {} →
    ∃ s', exec (.impedanceBlock t cell bin b) s = .next s' ∧
      if k.blocks + 1 < s.nat Obj.impAverages then
        KMap.get (s'.ec cell).bins bin {} = { k with re := k.re + b.re, im := k.im + b.im, i2 := k.i2 + b.i2, blocks := k.blocks + 1 }
          ∧ (s'.ec cell).spectrum = (s.ec cell).spectrum
      else KMap.has (s'.ec cell).bins bin = false
        ∧ KMap.get (s'.ec cell).spectrum bin (0, 0) = ((k.re + b.re) / (k.i2 + b.i2), (k.im + b.im) / (k.i2 + b.i2)))
  ∧ (∀ (t : Nat) (s : State), s.est.episode = none → s.md.mode.runs = true → s.noConfig = false →
      s.est.activeAt + s.nat Obj.sdSettle * 3600000000000 ≤ max s.now t →
    ∃ s', exec (.sdEpisodeStart t) s = .next s' ∧ s'.est.episode = some (max s.now t) ∧ s'.est.hourAt = (s.tick t).ringTime
      ∧ ∀ n, 1 ≤ n → n ≤ s.cellCount → (s'.ec n).hours = [] ∧ (s'.ec n).hour = {})
  ∧ (∀ (t e n : Nat) (l : List Int) (s : State), s.est.episode = some e → s.ocv = some l → 1 ≤ n → n ≤ s.cellCount →
      s.nat Obj.sdWindow + 1 ≤ (s.ec n).hours.length →
    ∃ s', exec (.sdWindowEnd t) s = .next s' ∧ (s'.ec n).hours = (s.ec n).hours.drop (s.nat Obj.sdWindow)
      ∧ ((s'.ec n).sdWarn = true → 0x50 ∉ s.flt.active → 0x50 ∈ s'.flt.pending)
      ∧ ((s'.ec n).sdAlarm = true → 0x51 ∉ s.flt.active → 0x51 ∈ s'.flt.pending))
  ∧ (∀ (t : Nat) (s : State), s.est.firstDone = true → s.md.mode.runs = true →
    ∃ s', exec (.socEstSend t) s = .next s' ∧ s'.est.socSeq = (s.est.socSeq + 1) % 65536
      ∧ (s.isHead = true → (KMap.get s'.est.socIn (s.nodeId % 256) { time := 0, flags := 0, values := [] }).time = max s.now t))
  ∧ (∀ (t : Nat) (s : State), s.est.firstDone = true → s.md.mode.runs = true →
    ∃ s', exec (.capEstSend t) s = .next s' ∧ s'.est.capSeq = (s.est.capSeq + 1) % 65536
      ∧ (s.isHead = true → (KMap.get s'.est.capIn (s.nodeId % 256) { time := 0, flags := 0, values := [] }).time = max s.now t))
  ∧ (∀ (t : Nat) (rx : SlotRx) (record : Bytes) (d : EstIn) (x : State) (s : State), (s.tick t).ringRx rx record = (x, true) → s.isHead = true →
    ∃ s', exec (.socEst t rx record) s = .next s' ∧ KMap.get s'.est.socIn (fieldAt 2 1 record) d = {
      time := max s.now t, flags := fieldAt 3 1 record, values := (List.range 24).map (fun k => fieldAt (4 + 2 * k) 2 record) })
  ∧ (∀ (t : Nat) (rx : SlotRx) (record : Bytes) (d : EstIn) (x : State) (s : State), (s.tick t).ringRx rx record = (x, true) → s.isHead = true →
    ∃ s', exec (.capEst t rx record) s = .next s' ∧ KMap.get s'.est.capIn (fieldAt 2 1 record) d = {
      time := max s.now t, flags := fieldAt 3 1 record, values := (List.range 24).map (fun k => fieldAt (4 + 2 * k) 2 record) })
  ∧ (∀ (t : Nat) (l : List Int) (qd qc cmin : Rat) (s : State), s.isHead = true → (s.tick t).stringEstOk = true → s.ocv = some l →
      s.noConfig = false → minOf (s.stringCellsEst.map (fun e => e.1 / 100 * e.2)) = some qd →
      minOf (s.stringCellsEst.map (fun e => (100 - e.1) / 100 * e.2)) = some qc → minOf (s.stringCellsEst.map (·.2)) = some cmin → 0 < qd + qc →
    ∃ s', exec (.stringEstimate t) s = .next s' ∧ s'.rat Obj.stringCapacity = qd + qc ∧ s'.rat Obj.stringSoc = 100 * qd / (qd + qc)
      ∧ s'.rat Obj.stringSoH = 100 * (qd + qc) / s.capC ∧ s'.rat Obj.stringCapMin = cmin ∧ s'.nat Obj.stringEstValid = 1)
  ∧ (∀ (t : Nat) (s : State), s.isHead = true → (s.tick t).stringEstOk = false →
    ∃ s', exec (.stringEstimate t) s = .next s' ∧ s'.nat Obj.stringEstValid = 0)

/-- Chapter 11, the loop engine and thermal control (R411 to R451): each row's own effect.
The model's choices of log entries 5, 6, 33, 34, 84, 85, 86, 87, 89 enter its clauses. -/
def Obligations.LoopCommandsComplete : Prop :=
  (∀ (t : Nat) (m : LoopMeas) (s : State), s.md.mode.runs = true →
    ∃ s', exec (.loopSample t m) s = .next s' ∧ s'.rat Obj.fanSpeed 0 0 = s.fanRpm m.tach1 ∧ s'.rat Obj.fanSpeed 0 1 = s.fanRpm m.tach2
      ∧ s'.rat Obj.valveReadback = m.valve
      ∧ (∀ k, k < 2 → (s.nat Obj.thermalActuators).testBit k = false → s'.rat Obj.fanDuty 0 k = 0)
      ∧ (∀ k, k < 2 → s'.rat Obj.fanDuty 0 k = 0 ∨ s'.rat Obj.fanDuty 0 k = maxQ (s'.rat Obj.coolingDemand) (s.rat Obj.fanMinDuty))
      ∧ (s.nat Obj.thermalMode = 0 → s'.rat Obj.coolingDemand = 0 ∧ s'.rat Obj.fanDuty 0 0 = 0 ∧ s'.rat Obj.fanDuty 0 1 = 0)
      ∧ (s'.bal.transferOn = true → s'.bal.transferLimit ≠ 0 ∧ s'.bal.xferFenced = false))
  ∧ (∀ (t inst v role counter : Nat) (q : PxReq) (s : State),
      (s.tick t).admitsWrite q (instObj Obj.loopEnable inst false) inst 0 (leBytes 1 v) role counter → s.mgmt.restartDue = false → v ≠ 0 →
      (s.inst inst).enabled = false → ((s.tick t).taken q counter).bindHeld inst (s.val Obj.outputBind inst).toBytes = false →
      ((s.tick t).taken q counter).loopCycles
        (((List.range 16).filter ((s.tick t).taken q counter).instOn) ++ [inst]) ≤ 150000000 →
    ∃ s', exec (.loopEnable t q inst v) s = .next s' ∧ (s'.inst inst).enabled = true ∧ (s'.inst inst).badRun = 0
      ∧ (s'.inst inst).inputLost = false ∧ (s'.inst inst).u = []
      ∧ (11 ≤ inst → (s'.inst inst).numeric = false ∧ (s'.inst inst).xhat = List.replicate (s.dims inst).1 0#32))
  ∧ (∀ (t inst role counter : Nat) (q : PxReq) (s : State),
      (s.tick t).admitsWrite q (instObj Obj.loopEnable inst false) inst 0 (leBytes 1 0) role counter → s.mgmt.restartDue = false →
    ∃ s', exec (.loopDisable t q inst 0) s = .next s' ∧ (s'.inst inst) = { s.inst inst with enabled := false })
  ∧ (∀ (t inst role counter k : Nat) (bankB : Bool) (d : Bytes) (o : ObjDef) (q : PxReq) (x : State) (s : State),
      o = (if bankB then Obj.bankB else Obj.bankA) → k = (if bankB then 1 else 0) → 11 ≤ inst → x = (s.tick t).taken q counter →
      (s.tick t).admits q (instObj o inst true) inst 0 0x07 o.ty.code (leBytes 4 (crc32 d)) role counter →
      (x.instOn inst && decide ((s.inst inst).active = k)) = false → (s.inst inst).pend ≠ some k → x.bankFits inst d = true →
    exec (.bankWrite t q inst bankB d) s = .next ((x.setVal o (Val.decode o.ty d) inst 0).pxFinish q (instObj o inst true) inst 0 0x07 role
        counter 0 ((s.tick t).bytesOf (instObj o inst true) inst 0) d)
      ∧ (x.setVal o (Val.decode o.ty d) inst 0).val o inst 0 = Val.decode o.ty d)
  ∧ (∀ (t inst role counter k : Nat) (bankB : Bool) (d : Bytes) (o : ObjDef) (q : PxReq) (x : State) (s : State),
      o = (if bankB then Obj.bankB else Obj.bankA) → k = (if bankB then 1 else 0) → 7 ≤ inst → inst ≤ 9 → x = (s.tick t).taken q counter →
      (s.tick t).admits q (instObj o inst true) inst 0 0x07 o.ty.code (leBytes 4 (crc32 d)) role counter →
      (x.instOn inst && decide ((s.inst inst).active = k)) = false → (s.inst inst).pend ≠ some k → x.bankFits inst d = true →
      s.px.rwp.length < 16 →
    ∃ s', exec (.bankWrite t q inst bankB d) s = .next s' ∧ s'.lp = s.lp
      ∧ ∃ r, s'.px.rwp = s.px.rwp ++ [r] ∧ r.index = o.index + inst ∧ r.sub = o.sub ∧ r.data = d ∧ r.since = max s.now t)
  ∧ (∀ (t inst v role counter : Nat) (q : PxReq) (s : State),
      (s.tick t).admitsWrite q (instObj Obj.bankRequest inst false) inst 0 (natBytes Obj.bankRequest v) role counter → s.mgmt.restartDue = false →
      ((s.inst inst).active ≠ v → bankUsable (s.bank inst v) = true) →
    ∃ s', exec (.bankRequest t q inst v) s = .next s' ∧
      s'.inst inst = if (s.inst inst).active = v then s.inst inst else { s.inst inst with pend := some v })
  ∧ (∀ (t inst role counter : Nat) (d : Bytes) (q : PxReq) (x : State) (s : State), x = (s.tick t).taken q counter →
      (s.tick t).admitsWrite q (instObj Obj.inputBind inst false) inst 0 d role counter → (s.inst inst).enabled = false →
      (bindWords d).all inputEntryOk = true →
      (∀ k, (k = 0 ∨ k = 1) → bankUsable (s.bank inst k) = true → bankP (s.bank inst k) = (inputsOf d 1).length
        ∧ bankK (s.bank inst k) = (inputsOf d 2).length) →
    exec (.inputBindWrite t q inst d) s = .next ((x.setVal Obj.inputBind (Val.decode Obj.inputBind.ty d) inst 0).wroteOk q
        (instObj Obj.inputBind inst false) inst 0 role counter ((s.tick t).bytesOf (instObj Obj.inputBind inst false) inst 0) d)
      ∧ (x.setVal Obj.inputBind (Val.decode Obj.inputBind.ty d) inst 0).val Obj.inputBind inst 0 = Val.decode Obj.inputBind.ty d)
  ∧ (∀ (t inst role counter : Nat) (d : Bytes) (q : PxReq) (x : State) (s : State), x = (s.tick t).taken q counter →
      (s.tick t).admitsWrite q (instObj Obj.outputBind inst false) inst 0 d role counter → (s.inst inst).enabled = false →
      (bindWords d).all outputEntryOk = true → x.cascadeOk inst d = true → (bindWords d).any shippedTarget = false →
      x.bindHeld inst d = false →
      ((bindWords d).any (fun e => bitsOf 31 30 e == 2 && bitsOf 15 8 e == 0x20) = true → s.nat Obj.thermalMode = 2) →
    exec (.outputBindWrite t q inst d) s = .next ((x.setVal Obj.outputBind (Val.decode Obj.outputBind.ty d) inst 0).wroteOk q
        (instObj Obj.outputBind inst false) inst 0 role counter ((s.tick t).bytesOf (instObj Obj.outputBind inst false) inst 0) d)
      ∧ (x.setVal Obj.outputBind (Val.decode Obj.outputBind.ty d) inst 0).val Obj.outputBind inst 0 = Val.decode Obj.outputBind.ty d)
  ∧ (∀ (t inst slot role counter : Nat) (v : BitVec 32) (q : PxReq) (x : State) (s : State), x = (s.tick t).taken q counter →
      (s.tick t).admitsWrite q (instObj Obj.setpoint inst false) inst (slot - 1) (f32Bytes v) role counter →
      x.writers inst (slot - 1) = [] →
    exec (.setpointWrite t q inst slot v) s = .next ((x.setVal Obj.setpoint (.f32 v) inst (slot - 1)).wroteOk q
        (instObj Obj.setpoint inst false) inst (slot - 1) role counter
        ((s.tick t).bytesOf (instObj Obj.setpoint inst false) inst (slot - 1)) (f32Bytes v))
      ∧ (x.setVal Obj.setpoint (.f32 v) inst (slot - 1)).val Obj.setpoint inst (slot - 1) = .f32 v)
  ∧ (∀ (t : Nat) (r : Rat) (s : State), s.tRef = some r →
    ∃ s', exec (.thermalSetpointUpdate t) s = .next s' ∧ s'.val Obj.setpoint 7 0 = .f32 (f32Of (s.rat Obj.thermalCoreSetpoint - r))
      ∧ s'.val Obj.setpoint 8 0 = .f32 (f32Of (s.rat Obj.thermalCoreSetpoint - r)))
  ∧ (∀ (t fan : Nat) (s : State),
    ∃ s', exec (.fanStall t fan) s = .next s' ∧ fan ∈ s'.lp.stalled ∧ KMap.has s'.lp.stallOkSince fan = false
      ∧ (∀ k ∈ s.lp.stalled, k ∈ s'.lp.stalled) ∧ (0x58 ∉ s.flt.active → 0x58 ∈ s'.flt.pending))

/-- Chapter 12, ports, wrap and unwrap (R453 to R455, R471, R476, R482, R483): each row's own effect.
The model's choices of log entries 5, 6, 16, 57 enter its clauses. -/
def Obligations.PortCommandsComplete : Prop :=
  (∀ (t : Nat) (p : Port) (s : State),
    ∃ s', exec (.lightLoss t p) s = .next s' ∧ (s'.port p).rx = false ∧ (s'.port p).lossSince = some ((s.port p).lossSince.getD (max s.now t))
      ∧ (s'.port p).holdSince = none ∧ (s'.port p).sendingFault = ((s.port p).sendingFault || !(s.port p).up) ∧ s'.port p.other = s.port p.other)
  ∧ (∀ (t e : Nat) (p : Port) (s : State), (s.port p).lossSince = some e → (s.port p).up = true → e + 20000 ≤ max s.now t →
    ∃ s', exec (.portDown t p) s = .next s' ∧ (s'.port p).up = false ∧ (s'.port p).turning = true ∧ (s'.port p).ready = false
      ∧ (s'.port p).byFault = false ∧ s'.ring.bypass = true ∧ (s'.port p).waiting = [])
  ∧ (∀ (t : Nat) (p : Port) (s : State),
    ∃ s', exec (.linkFault t p) s = .next s' ∧ (s'.port p).up = false ∧ (s'.port p).byFault = true
      ∧ (s'.port p).holdSince = (if (s.port p).rx then some (max s.now t) else none)
      ∧ ((s.port p).up = true → (s'.port p).turning = true ∧ s'.ring.bypass = true))
  ∧ (∀ (t : Nat) (p : Port) (s : State),
    ∃ s', exec (.slotSyncReached t p) s = .next s' ∧ (s'.port p).rx = true ∧ (s'.port p).lossSince = none ∧ (s'.port p).sendingFault = false
      ∧ (s'.port p).byFault = false
      ∧ (s'.port p).holdSince = if (s.port p).up then none else some ((s.port p).holdSince.getD (max s.now t)))
  ∧ (∀ (t e : Nat) (p : Port) (s : State), (s.port p).holdSince = some e → (s.port p).up = false → (s.port p).rx = true →
      e + s.nat Obj.unwrapHoldoff * 1000000 ≤ max s.now t →
    ∃ s', exec (.portUp t p) s = .next s' ∧ (s'.port p).up = true ∧ (s'.port p).holdSince = none ∧ (s'.port p).turning = s.ring.hasSquare
      ∧ (s'.port p).ready = s.ring.hasSquare ∧ s'.ring.downSince = none ∧ 0x60 ∉ s'.flt.active
      ∧ (s.isHead = true → s.ring.hasSquare = true → s'.ring.unwrapAt ≠ none))
  ∧ (∀ (t : Nat) (p : Port) (s : State), (s.port p).ready = true → (s.port p).readyRepeat ≤ max s.now t →
    ∃ s', exec (.portReadyRepeat t p) s = .next s' ∧ (s'.port p).ready = true ∧ (s'.port p).readyRepeat = max s.now t + 100000000
      ∧ (s.isHead = true → s'.ring.unwrapAt ≠ none ∧ (s'.port p).unwrapAt ≠ none))
  ∧ (∀ (t : Nat) (rx : SlotRx) (n : Notice) (x : State) (s : State), (s.tick t).noticeRx (.ring rx) 6 n = (x, true) → s.isHead = true →
    ∃ s', exec (.wrapPortDown t rx n) s = .next s' ∧
      if s.ring.run = none ∧ s.ring.pend = none then s'.ring.run = some { no := s.ring.nextNo, start := max s.now t } else s'.ring.again = true)
  ∧ (∀ (t : Nat) (rx : SlotRx) (n : Notice) (x : State) (s : State), (s.tick t).noticeRx (.ring rx) 6 n = (x, true) → s.isHead = true →
    ∃ s', exec (.wrapPortReady t rx n) s = .next s'
      ∧ s'.ring.unwrapAt = some (s.ring.unwrapAt.getD ((s.tick t).ringTime + 2000000))
      ∧ ∀ p, (s.port p).ready = true → (s'.port p).unwrapAt = some ((s.port p).unwrapAt.getD ((s.tick t).ringTime + 2000000)))
  ∧ (∀ (t : Nat) (rx : SlotRx) (n : Notice) (x : State) (s : State), (s.tick t).noticeRx (.ring rx) 6 n = (x, true) →
    ∃ s', exec (.unwrapOrder t rx n) s = .next s'
      ∧ ∀ p, (s'.port p).unwrapAt = if (s.port p).ready then some n.time else (s.port p).unwrapAt)
  ∧ (∀ (t : Nat) (s : State),
    ∃ s', exec (.unwrapInstant t) s = .next s'
      ∧ (∀ p u, (s.port p).unwrapAt = some u → u ≤ (s.tick t).ringTime → (s'.port p).turning = false ∧ (s'.port p).ready = false
        ∧ (s'.port p).unwrapAt = none ∧ (s'.port p).epoch = !(s.port p).epoch)
      ∧ (∀ u, s.ring.unwrapAt = some u → u ≤ (s.tick t).ringTime → s'.ring.unwrapAt = none
        ∧ (s.isHead = true → s.ring.run = none → s.ring.pend = none → s'.ring.run = some { no := s.ring.nextNo, start := max s.now t })))

/-- Chapter 12, the census (R477 to R481, R464, R604, R710): each row's own effect.
The model's choices of log entries 5, 6, 52, 53 enter its clauses. -/
def Obligations.CensusCommandsComplete : Prop :=
  (∀ (t : Nat) (rx : SlotRx) (n : Notice) (x : State) (s : State), (s.tick t).noticeRx (.ring rx) 6 n = (x, true) → s.isHead = true →
    ∃ s', exec (.censusRequestNotice t rx n) s = .next s' ∧
      if s.ring.run = none ∧ s.ring.pend = none then s'.ring.run = some { no := s.ring.nextNo, start := max s.now t } else s'.ring.again = true)
  ∧ (∀ (t v role counter : Nat) (q : PxReq) (x : State) (s : State), x = (s.tick t).taken q counter →
      (s.tick t).admitsWrite q Obj.censusRequest 0 0 (natBytes Obj.censusRequest v) role counter → s.isHead = true →
    exec (.censusRequest t q v) s = .next (x.startCensus.wroteOk q Obj.censusRequest 0 0 role counter ((s.tick t).bytesOf Obj.censusRequest 0 0)
        (natBytes Obj.censusRequest v)) ∧
      if s.ring.run = none ∧ s.ring.pend = none then x.startCensus.ring.run = some { no := s.ring.nextNo, start := max s.now t }
      else x.startCensus.ring.again = true)
  ∧ (∀ (t no count turnAt stringId : Nat) (rx : SlotRx) (s : State), s.isHead = false → rx.hdr.turned = false →
      s.ring.lastCounted ≠ some no →
    ∃ s', exec (.census t rx no count turnAt stringId) s = .next s' ∧ s'.ring.counted = some (no, count + 1, max s.now t)
      ∧ s'.ring.lastCounted = some no)
  ∧ (∀ (t no count turnAt stringId : Nat) (rx : SlotRx) (r : CensusRun) (s : State), s.isHead = true → rx.hdr.turned = false →
      s.ring.run = some r → r.no = no →
    ∃ s', exec (.census t rx no count turnAt stringId) s = .next s' ∧ s'.ring.failures = 0
      ∧ s'.ring.pend = some { no := no, n := count + 1, turnAt := turnAt, effective := (s.tick t).ringTime + 2000000 }
      ∧ (turnAt = 255 → 0x61 ∉ s'.flt.active) ∧ (turnAt ≠ 255 → 0x61 ∉ s.flt.active → 0x61 ∈ s'.flt.pending))
  ∧ (∀ (t : Nat) (r : CensusRun) (s : State), s.isHead = true → s.ring.run = some r → r.start + 1000000 ≤ max s.now t →
    ∃ s', exec (.censusTimeout t) s = .next s' ∧ s'.ring.failures = s.ring.failures + 1
      ∧ (s.ring.failures + 1 < 3 → s.ident.enumDue = false → s.ring.pend = none →
        s'.ring.run = some { no := s.ring.nextNo, start := max s.now t })
      ∧ (3 ≤ s.ring.failures + 1 → s.ident.enumDue = false → 0x62 ∉ s.flt.active → 0x62 ∈ s'.flt.pending))
  ∧ (∀ (t e : Nat) (s : State), s.isHead = true → s.ring.retryAt = some e → e ≤ max s.now t →
    ∃ s', exec (.censusRetry t) s = .next s' ∧
      if s.ring.run = none ∧ s.ring.pend = none then
        s'.ring.run = some { no := s.ring.nextNo, start := max s.now t } ∧ s'.ring.retryAt = none
      else s'.ring.again = true)
  ∧ (∀ (t no n turnAt effective stringId c a : Nat) (rx : SlotRx) (x : State) (s : State), s.isHead = false →
      (s.tick t).ringRx rx (resultBytes no n turnAt effective stringId) = (x, true) → s.ring.counted = some (no, c, a) →
    ∃ s', exec (.censusResult t rx no n turnAt effective stringId) s = .next s'
      ∧ s'.ring.pend = some { no := no, n := n, turnAt := turnAt, effective := effective })
  ∧ (∀ (t no c a : Nat) (s : State), s.ring.counted = some (no, c, a) → a + 5000000 ≤ max s.now t →
      (∀ p, s.ring.pend = some p → p.no ≠ no) →
    ∃ s', exec (.censusResultTimeout t) s = .next s' ∧ s'.ring = { s.ring with counted := none })
  ∧ (∀ (t c a : Nat) (p : CensusPend) (s : State), s.ring.pend = some p → p.effective ≤ (s.tick t).ringTime →
      s.ring.counted = some (p.no, c, a) →
    ∃ s', exec (.censusEffective t) s = .next s' ∧ s'.ring.hasSquare = true ∧ s'.ring.n = p.n ∧ s'.ring.turnAt = p.turnAt
      ∧ s'.ring.censusNo = p.no ∧ s'.ring.square = (if s.isHead then 0 else squareOf c p.n p.turnAt) ∧ s'.ring.bypass = false
      ∧ s'.ring.noUnicast = false ∧ s'.ring.sq0Broadcast = false ∧ s'.ring.pend = none ∧ 0x63 ∉ s'.flt.active
      ∧ (s.isHead = true → s'.ring.replyBy = some (max s.now t + 5000000) ∧ s'.ident.replies = []))
  ∧ (∀ (t : Nat) (rx : SlotRx) (r : CensusReplyRec) (x : State) (s : State), (s.tick t).ringRx rx r.bytes = (x, true) → s.isHead = true →
      s.ring.replyBy ≠ none → r.censusNo = s.ring.censusNo →
    ∃ s', exec (.censusReply t rx r) s = .next s' ∧
      if (s.ident.replies.filter (fun y => !(y.square == r.square))).length + 2 = s.ring.n then s'.ring.replyBy = none
      else s'.ident.replies = s.ident.replies.filter (fun y => !(y.square == r.square)) ++ [r])
  ∧ (∀ (t e : Nat) (s : State), s.isHead = true → s.ring.replyBy = some e → e ≤ max s.now t →
    ∃ s', exec (.censusReplyTimeout t) s = .next s' ∧ s'.ring.replyBy = none
      ∧ (s.ident.enumDue = false → ∀ m ∈ s.ident.members, m.2.state = 1 → m.2.pack ≠ s.packId → m.2.counted = false →
        ∃ m' ∈ s'.ident.members, m'.1 = m.1 ∧ m'.2.pack = m.2.pack ∧ m'.2.state = 3))

/-- Chapter 12, slots, queues and streams (R458 to R463, R474, R475, R486, R491, R492, R497, R639, R648): each row's own effect.
The model's choices of log entries 5, 6, 15, 19, 56 enter its clauses. -/
def Obligations.SlotCommandsComplete : Prop :=
  (∀ (t residence : Nat) (rx : SlotRx) (payload : Bytes) (p : Port) (s : State), s.hearsRing = true → linkType rx.hdr.cls rx.hdr.typ = false →
      rx.hdr.turned = false → rx.hdr.bcast = false → 2 ≤ rx.hdr.hops → rx.hdr.trCount = 0 → p = (if rx.hdr.west then .west else .east) →
      s.portFree p rx.hdr.cls = true →
    ∃ s' h, exec (.slotForward t rx payload residence) s = .next s' ∧
      s'.out = s.out ++ [.slot p h (fitBytes 52 (if rx.hdr.cls = 1 ∧ rx.hdr.typ = 1 then
        patchBytes 8 (leBytes 8 (fieldAt 8 8 payload + residence + (s.linkDelay rx.port * 65536).floor.toNat)) payload else payload)) false]
      ∧ h.cls = rx.hdr.cls ∧ h.typ = rx.hdr.typ ∧ h.seq = rx.hdr.seq ∧ h.src = rx.hdr.src ∧ h.aux = rx.hdr.aux ∧ h.hops = rx.hdr.hops - 1
      ∧ h.turned = false)
  ∧ (∀ (t : Nat) (rx : SlotRx) (payload : Bytes) (p : Port) (s : State), s.hearsRing = true → linkType rx.hdr.cls rx.hdr.typ = false →
      rx.hdr.turned = false → rx.hdr.bcast = false → rx.hdr.trCount = 0 → p = (if rx.hdr.west then .west else .east) →
      (2 ≤ rx.hdr.hops → s.portFree p rx.hdr.cls = true) →
    ∃ s', exec (.bulk t rx payload) s = .next s' ∧
      if rx.hdr.hops ≤ 1 then s'.out = s.out
      else ∃ h, s'.out = s.out ++ [.slot p h (fitBytes 52 payload) false] ∧ h.cls = rx.hdr.cls ∧ h.typ = rx.hdr.typ ∧ h.seq = rx.hdr.seq
        ∧ h.src = rx.hdr.src ∧ h.hops = rx.hdr.hops - 1)
  ∧ (∀ (t : Nat) (rx : SlotRx) (payload : Bytes) (s : State),
    (∃ s', exec (.damagedSlot t rx payload .hcrc) s = .next s' ∧ (s'.port rx.port).hdrErrors = (s.port rx.port).hdrErrors + 1
      ∧ ((s.port rx.port).censusAsked = false → s.nat Obj.headerErrorLimit ≤ (s.port rx.port).hdrErrors + 1 →
        (s'.port rx.port).censusAsked = true ∧ (0x63 ∉ s.flt.active → 0x63 ∈ s'.flt.pending)))
    ∧ (∃ s', exec (.damagedSlot t rx payload .crc) s = .next s'
      ∧ s'.nat Obj.crcErrors rx.port.idx = (s.nat Obj.crcErrors rx.port.idx + 1) % 2 ^ Obj.crcErrors.ty.bits)
    ∧ (∃ s', exec (.damagedSlot t rx payload .stomped) s = .next s'
      ∧ s'.nat Obj.stompedSlots rx.port.idx = (s.nat Obj.stompedSlots rx.port.idx + 1) % 2 ^ Obj.stompedSlots.ty.bits)
    ∧ (∃ s', exec (.damagedSlot t rx payload .unlisted) s = .next s'
      ∧ s'.nat Obj.crcErrors rx.port.idx = (s.nat Obj.crcErrors rx.port.idx + 1) % 2 ^ Obj.crcErrors.ty.bits))
  ∧ (∀ (t : Nat) (s : State), s.ring.refused ≠ [] →
    ∃ s', exec (.queueBooksCheck t) s = .next s' ∧ s'.ring.stopped = s.ring.refused.foldl setInsert s.ring.stopped
      ∧ (∀ k ∈ s.ring.refused, k ∈ s'.ring.stopped) ∧ (0x64 ∉ s.flt.active → 0x64 ∈ s'.flt.pending))
  ∧ (∀ (t e : Nat) (s : State), s.ring.downSince = some e → s.md.mode.runs = true → e + 1000000000 ≤ max s.now t →
      s.ring.east.up = false → s.ring.west.up = false → 0x60 ∉ s.flt.active →
    ∃ s', exec (.ringDownTimeout t) s = .next s' ∧ 0x60 ∈ s'.flt.pending)
  ∧ (∀ (t : Nat) (rx : SlotRx) (words : List Nat) (x : State) (s : State), (s.tick t).ringRx rx (wordsBytes words) = (x, true) →
    ∃ s', exec (.precision t rx words) s = .next s' ∧
      s'.ring.precPart = s.ring.precPart.filter (fun e => e.1 != rx.hdr.src)
        ++ if s.ring.precPart.any (fun e => e.1 == rx.hdr.src && e.2.1 == rx.hdr.seq && e.2.2 != rx.hdr.aux % 2) then [] else [(rx.hdr.src, rx.hdr.seq, rx.hdr.aux % 2)])
  ∧ (∀ (t : Nat) (rx : SlotRx) (words : List Nat) (x : State) (s : State), (s.tick t).ringRx rx (wordsBytes words) = (x, true) →
      s.isHead = false → words ≠ [] →
    ∃ s', exec (.current t rx words) s = .next s' ∧ s'.est.wordAt = max s.now t ∧ s'.est.gap = false ∧ s'.est.hold = false
      ∧ s'.est.lastGrid = some (13 * (s.tick t).gridOf rx.hdr.seq wide13 + words.length - 1)
      ∧ s'.est.lastWord = wordValue (words.getLastD 0))
  ∧ (∀ (t : Nat) (rx : SlotRx) (words : List Nat) (x : State) (s : State), (s.tick t).ringRx rx (wordsBytes words) = (x, true) →
    ∃ s', exec (.wideband t rx words) s = .next s' ∧
      if rx.hdr.cls = 4 ∧ x.captureNode (x.nodeOfSquare rx.hdr.src) = true ∧ s.rcd.capInit = true ∧ s.rcd.capStopped = false
          ∧ s.captureAhead ≠ 0 then
        s'.rcd.writePtr = s.rcd.writePtr + 1
          ∧ ∃ e ∈ s'.rcd.store, e.index = s.rcd.writePtr ∧ e.hdr = rx.hdr ∧ e.payload = wordsBytes words
      else s'.rcd = s.rcd)

/-- Chapter 13, frames that leave (R46, R503, R505, R507, R519 to R522, R526, R530): each row's own effect.
The model's choices of log entries 5, 6, 66 enter its clauses. -/
def Obligations.FrameCommandsComplete : Prop :=
  (∀ (t : Nat) (lane : Lane) (f : VoteFrame) (s : State), s.commsOn = true → s.laneLive lane = true → s.can.votes = [] →
    ∃ s', exec (.laneFrameCopy t lane f) s = .next s' ∧ s'.can.votes = [{ start := max s.now t, copies := [(lane, f)], queued := none }]
      ∧ s'.out = s.out)
  ∧ (∀ (t id : Nat) (lane other : Lane) (b : Bus) (ext brs : Bool) (data : Bytes) (v : VoteSt) (s : State), s.commsOn = true →
      s.laneLive lane = true → lane ≠ other → s.can.votes = [v] → v.copies = [(other, .can b id ext brs data)] → v.queued = none →
      max s.now t < v.start + 50000 → (s.bus b).st ≠ .off → (s.bus b).st ≠ .disabled → s.flag Obj.busEnable b.idx = true →
      (s.bus b).txq = [] →
    ∃ s', exec (.laneFrameCopy t lane (.can b id ext brs data)) s = .next s'
      ∧ (s'.bus b).txq = [{ id := id, ext := ext, brs := brs, data := data, kind := frameKind id ext, queuedAt := max s.now t }])
  ∧ (∀ (t : Nat) (s : State),
    ∃ s', exec (.voteWindowExpiry t) s = .next s' ∧ s'.can.votes = s.can.votes.filter (fun v => max s.now t < v.start + 50000)
      ∧ (∀ v, s.can.votes = [v] → v.queued = none → v.start + 50000 ≤ max s.now t → s.lanesUp = 2 → 0x02 ∉ s.flt.active →
        0x02 ∈ s'.flt.pending))
  ∧ (∀ (t d : Nat) (b : Bus) (f : TxFrame) (s : State), ((s.bus b).st = .active ∨ (s.bus b).st = .passive) → offered (s.bus b).txq = some f →
    ∃ s', exec (.frameSent t b (.sent d)) s = .next s' ∧ (s'.bus b).txErr = (s.bus b).txErr - 1 ∧ (s'.bus b).ackRun = 0
      ∧ (s'.bus b).lonely = false
      ∧ (d ≤ 63 → s'.out = s.out ++ [.frame b { f with brs := f.brs && (s.bus b).brs }])
      ∧ (64 ≤ d → f.brs = true → (s.bus b).brs = true → (s'.bus b).tdcFail = true ∧ (0x6B ∉ s.flt.active → 0x6B ∈ s'.flt.pending)))
  ∧ (∀ (t : Nat) (b : Bus) (f : TxFrame) (s : State), ((s.bus b).st = .active ∨ (s.bus b).st = .passive) → offered (s.bus b).txq = some f →
    (∃ s', exec (.frameSent t b .ackError) s = .next s' ∧ (s'.bus b).ackRun = min ((s.bus b).ackRun + 1) 16
      ∧ (s'.bus b).txErr = (if (s.bus b).st = .passive then (s.bus b).txErr else min ((s.bus b).txErr + 8) 256) ∧ s'.out = s.out)
    ∧ (∃ s', exec (.frameSent t b .bitError) s = .next s' ∧ (s'.bus b).ackRun = 0
      ∧ (s'.bus b).txErr = min ((s.bus b).txErr + 8) 256 ∧ s'.out = s.out
      ∧ (f.kind = 3 → 2 ≤ s.ident.bitErrors → s'.ident.bitErrors = 0
        ∧ s'.ident.backoffEnd = some (max s.now t + Config.trng s.trngCount % 50000001)))
    ∧ exec (.frameSent t b .lostArbitration) s = .next (s.tick t))
  ∧ (∀ (t : Nat) (s : State), s.nodeId ≠ 0 → s.md.mode.runs = true →
    ∃ s', exec (.statusSend t) s = .next s'
      ∧ (s.ringFree 3 = true → sentEast s.out s'.out 3 6 0 (s.tick t).statusRec.bytes)
      ∧ (∀ b, s.busUsable b = true → s.commsOn = true → s.voteOk = true → s.can.idStopped = false → (s.bus b).txq = [] →
        ∃ f, (s'.bus b).txq = [f] ∧ f.id = 0x100 + s.nodeId ∧ f.ext = false ∧ f.data = (s.tick t).statusRec.busBytes))
  ∧ (∀ (t : Nat) (s : State), s.serves = true → s.flt.handoverStep < 4 → s.nodeId ≠ 0 →
    ∃ s', exec (.heartbeatSend t) s = .next s'
      ∧ (s.ringFree 1 = true → sentBoth s.out s'.out 1 3 s.heartbeatRec.bytes)
      ∧ (∀ b, s.busUsable b = true → s.commsOn = true → s.voteOk = true → s.can.idStopped = false → (s.bus b).txq = [] →
        ∃ f, (s'.bus b).txq = [f] ∧ f.id = 0x080 ∧ f.ext = false ∧ f.data = s.heartbeatRec.bytes))

/-- Chapter 13, the states of the buses (R523 to R536): each row's own effect.
The model's choices of log entries 5, 6, 65, 66 enter its clauses. -/
def Obligations.BusCommandsComplete : Prop :=
  (∀ (t : Nat) (b : Bus) (s : State), (s.bus b).st = .active →
    ∃ s', exec (.errorPassive t b) s = .next s' ∧ (s'.bus b).st = .passive ∧ (s'.bus b).ackRun = 0
      ∧ (∀ f, (s.bus b).txq = [f] → f.kind = 0 → (s.bus b.other).txq = [] → (s.bus b.other).sentNotices = [] →
        (s.bus b.other).st = .active → s.flag Obj.busEnable b.other.idx = true →
        (s'.bus b.other).txq = [{ f with brs := (s.bus b.other).brs }]))
  ∧ (∀ (t : Nat) (b : Bus) (s : State), ((s.bus b).st = .active ∨ (s.bus b).st = .passive) →
    ∃ s', exec (.busOff t b) s = .next s' ∧ (s'.bus b).txErr = 256 ∧ (s'.bus b).waitPx = [] ∧ (0x65 ∉ s.flt.active → 0x65 ∈ s'.flt.pending)
      ∧ if ((s.bus b).offTimes.filter (fun e => max s.now t < e + 600000000000)).length < 2 then
          (s'.bus b).st = .busOff ∧ (s'.bus b).holdSince = some (max s.now t) ∧ (s'.bus b).txq = (s.bus b).txq.filter (fun f => f.kind != 2)
        else (s'.bus b).st = .disabled ∧ (s'.bus b).txq = [] ∧ (0x66 ∉ s.flt.active → 0x66 ∈ s'.flt.pending))
  ∧ (∀ (t e : Nat) (b : Bus) (s : State), (s.bus b).st = .busOff → (s.bus b).holdSince = some e → s.nat Obj.busOffHoldoff b.idx ≠ 0 →
      e + s.nat Obj.busOffHoldoff b.idx * 1000000 ≤ max s.now t →
    ∃ s', exec (.busOffHoldoffExpiry t b) s = .next s' ∧ (s'.bus b).st = .recovering ∧ (s'.bus b).recoverSince = some (max s.now t)
      ∧ (s'.bus b).holdSince = none)
  ∧ (∀ (t v role counter : Nat) (b : Bus) (q : PxReq) (x y : State) (s : State), x = (s.tick t).taken q counter →
      (s.tick t).admitsWrite q Obj.busRecover b.idx 0 (natBytes Obj.busRecover v) role counter →
      y = (if (s.bus b).st = .busOff ∧ s.nat Obj.busOffHoldoff b.idx = 0 then x.startRecovery b else x) →
    exec (.busRecover t b q v) s = .next (y.wroteOk q Obj.busRecover b.idx 0 role counter ((s.tick t).bytesOf Obj.busRecover b.idx 0)
        (natBytes Obj.busRecover v))
      ∧ ((s.bus b).st = .busOff → s.nat Obj.busOffHoldoff b.idx = 0 → (y.bus b).st = .recovering
        ∧ (y.bus b).recoverSince = some (max s.now t)))
  ∧ (∀ (t : Nat) (b : Bus) (s : State), (s.bus b).st = .recovering →
    ∃ s', exec (.busOffRecoveryDone t b) s = .next s' ∧ (s'.bus b).st = .active ∧ (s'.bus b).txErr = 0 ∧ (s'.bus b).rxErr = 0
      ∧ (s'.bus b).txq = (s.bus b).txq.filter (fun f => f.kind != 0 || decide (max s.now t < f.queuedAt + 5000000000)))
  ∧ (∀ (t v role counter : Nat) (b : Bus) (q : PxReq) (s : State),
      (s.tick t).admitsWrite q Obj.busEnable b.idx 0 (natBytes Obj.busEnable v) role counter → s.px.rwp.length < 16 →
    ∃ s' r, exec (.busEnable t b q v) s = .next s' ∧ s'.px.rwp = s.px.rwp ++ [r] ∧ r.index = Obj.busEnable.index + b.idx
      ∧ r.sub = Obj.busEnable.sub ∧ r.data = natBytes Obj.busEnable v ∧ r.since = max s.now t ∧ s'.can = s.can)
  ∧ (∀ (t : Nat) (b : Bus) (s : State), (s.bus b).st = .passive → 16 ≤ (s.bus b).ackRun → (s.bus b).lonely = false →
    ∃ s', exec (.lonely t b) s = .next s' ∧ (s'.bus b).lonely = true ∧ (s'.bus b).st = .passive ∧ (0x67 ∉ s.flt.active → 0x67 ∈ s'.flt.pending))
  ∧ (∀ (t : Nat) (b : Bus) (s : State), (s.bus b).lonely = true → (s.bus b).lonelyAt + 100000000 ≤ max s.now t →
    exec (.lonelyRetry t b) s = .next ((s.tick t).setBus b { s.bus b with lonelyAt := max s.now t }))
  ∧ (∀ (t tx rx : Nat) (b : Bus) (s : State), ¬ (tx = 16 ∧ rx = 64) → (s.bus b).booksBad = false →
    ∃ s', exec (.mailboxBooksCheck t b tx rx) s = .next s' ∧ (s'.bus b).st = .disabled ∧ (s'.bus b).booksBad = true ∧ (s'.bus b).txq = []
      ∧ (s'.bus b).waitPx = [] ∧ (0x6A ∉ s.flt.active → 0x6A ∈ s'.flt.pending))
  ∧ (∀ (t : Nat) (b : Bus) (s : State), exec (.mailboxBooksCheck t b 16 64) s = .next (s.tick t))
  ∧ (∀ (t e : Nat) (s : State), s.can.lostSince = some e → e + 1000000000 ≤ max s.now t → 0x68 ∉ s.flt.active →
    ∃ s', exec (.controlBusesLost t) s = .next s' ∧ 0x68 ∈ s'.flt.pending)

/-- Chapter 13, what frames from others do (R64, R67, R68, R484, R505, R506, R515, R518, R531, R599, R607): each row's own effect.
The model's choices of log entries 5, 6, 18, 54, 98 enter its clauses. -/
def Obligations.HeardCommandsComplete : Prop :=
  (∀ (t seq : Nat) (b : Bus) (n : Notice) (s : State),
    exec (.busNotice t b 0x010 4 seq n) s = .next ((s.tick t).takeAbdicate (.bus b seq) n)
    ∧ exec (.busNotice t b 0x010 5 seq n) s = .next ((s.tick t).takeTripReset (.bus b seq) n)
    ∧ (1 ≤ n.node → n.node ≤ 32 →
      exec (.busNotice t b (0x040 + n.node) 1 seq n) s = .next ((s.tick t).takeTrip (.bus b seq) n)
      ∧ exec (.busNotice t b (0x040 + n.node) 2 seq n) s = .next ((s.tick t).takeOpenReq (.bus b seq) n)
      ∧ exec (.busNotice t b (0x040 + n.node) 3 seq n) s = .next ((s.tick t).takeAuxLoss (.bus b seq) n)))
  ∧ (∀ (t : Nat) (b : Bus) (r : StatusRec) (s : State), s.busHears b = true → s.isHead = true → r.node ≠ s.nodeId →
      (s.member r.node).state = 1 →
    ∃ s', exec (.status t (.bus b) r) s = .next s' ∧ (s'.member r.node).mode = r.mode ∧ (s'.member r.node).integrity = r.integrity
      ∧ (s'.member r.node).locked = (r.timeState == 2) ∧ (s'.member r.node).lastStatus = max s.now t
      ∧ (s'.member r.node).linkUp = (bitsOf 0 1 r.linkView != 0))
  ∧ (∀ (t : Nat) (b : Bus) (r : StatusRec) (s : State), s.busHears b = true → r.node = s.nodeId → s.nodeId ≠ 0 →
    ∃ s', exec (.status t (.bus b) r) s = .next s' ∧ s'.can.idStopped = true ∧ s'.ident.phase = .lateJoin
      ∧ (0x69 ∉ s.flt.active → 0x69 ∈ s'.flt.pending))
  ∧ (∀ (t : Nat) (rx : SlotRx) (r : StatusRec) (x : State) (s : State), (s.tick t).ringRx rx r.bytes = (x, true) →
    ∃ s', exec (.status t (.ring rx) r) s = .next s' ∧ KMap.get s'.ring.nodeOf (rx.hdr.src + 64).toNat 0 = r.node
      ∧ (s.isHead = true → r.node ≠ s.nodeId → (s.member r.node).state = 1 →
        (s'.member r.node).mode = r.mode ∧ (s'.member r.node).sumC = r.sumC))
  ∧ (∀ (t : Nat) (b : Bus) (r : HeartbeatRec) (s : State), s.busHears b = true → s.isHead = false → r.pack ≠ s.packId →
      ¬ (r.pack = s.flt.deadPack.1 ∧ max s.now t < s.flt.deadPack.2) →
    ∃ s', exec (.heartbeat t (.bus b) r) s = .next s' ∧ s'.ident.headNode = r.node ∧ s'.flt.heardGen = r.ckptGen ∧ s'.flt.failAt = none
      ∧ s'.flt.hbMissed = 0 ∧ s'.ident.headFailHold = false ∧ s'.ident.electionHold = false ∧ (s'.bus b).hbSeen = true
      ∧ (s'.bus b).hbMissed = 0)
  ∧ (∀ (t : Nat) (rx : SlotRx) (r : HeartbeatRec) (x : State) (s : State), (s.tick t).ringRx rx r.bytes = (x, true) → s.isHead = false →
      r.pack ≠ s.packId → ¬ (r.pack = s.flt.deadPack.1 ∧ max s.now t < s.flt.deadPack.2) →
    ∃ s', exec (.heartbeat t (.ring rx) r) s = .next s' ∧ s'.ident.headNode = r.node ∧ s'.flt.ringHbSeen = true ∧ s'.flt.failAt = none)
  ∧ (∀ (t : Nat) (b : Bus) (r : HeartbeatRec) (s : State), s.busHears b = true → s.isHead = true → r.pack ≠ s.packId →
      ¬ (r.pack = s.flt.deadPack.1 ∧ max s.now t < s.flt.deadPack.2) → s.md.abdicated = false → s.flt.handoverStep < 4 →
    ∃ s', exec (.heartbeat t (.bus b) r) s = .next s' ∧
      if r.stringId ≠ s.ident.desc.stringId then s'.flt.crossAt = some (max s.now t) ∧ (0x10 ∉ s.flt.active → 0x10 ∈ s'.flt.pending)
      else if s.ident.desc.seq < r.descSeq ∨ (s.ident.desc.seq = r.descSeq ∧ r.pack < s.packId) then
        s'.ident.role = .segment ∧ s'.ident.headNode = r.node
      else 0x0F ∉ s.flt.active → 0x0F ∈ s'.flt.pending)
  ∧ (∀ (t : Nat) (s : State), (s.isHead = true ∨ s.md.mode.runs = false) →
    ∃ s', exec (.heartbeatPeriodEnd t) s = .next s' ∧ ∀ b, (s'.bus b).hbMissed = 0 ∧ (s'.bus b).hbMiss = false)
  ∧ (∀ (t : Nat) (s : State), s.isHead = false → s.md.mode.runs = true →
    ∃ s', exec (.heartbeatPeriodEnd t) s = .next s'
      ∧ (∀ b, (s'.bus b).hbSeen = false ∧ (s'.bus b).hbMissed = (if (s.bus b).hbSeen then 0 else min ((s.bus b).hbMissed + 1) 3)
        ∧ (s'.bus b).hbMiss = decide (3 ≤ (s'.bus b).hbMissed))
      ∧ ((s.flt.ringHbSeen = true ∨ s.can.a.hbSeen = true ∨ s.can.b.hbSeen = true) → s'.flt.hbMissed = 0)
      ∧ (s.flt.ringHbSeen = false → s.can.a.hbSeen = false → s.can.b.hbSeen = false →
        (s.flt.hbMissed < 2 → s'.flt.hbMissed = s.flt.hbMissed + 1)
        ∧ (s.flt.hbMissed = 2 → s.ident.headNode ≠ 0 → s.nodeId ≠ 0 → s.flt.failAt = none → s.ident.role ≠ .standby →
          s'.flt.failAt = some (max s.now t) ∧ s'.ring.sq0Broadcast = true)))

/-- Chapter 14, expedited requests (R537 to R541, R545 to R547, R549, R654): each row's own effect.
The model's choices of log entries 5, 6, 68, 69 enter its clauses. -/
def Obligations.RequestCommandsComplete : Prop :=
  (∀ (t index sub i j role counter : Nat) (q : PxReq) (o : ObjDef) (x : State) (s : State), x = (s.tick t).taken q counter →
      s.pxHears q = true → s.distOk q = true → frameOk q [] = true → s.objAt index sub = some (o, i, j) →
      (s.tick t).pxDuplicate q 0x01 index sub o.ty.code [] = none →
      (s.tick t).pxAuthorise q 0x01 index sub o.ty.code [] = some (role, counter) →
    (s.readCode o i role = 0 → o.ty.size ≤ 32 → isObj o Obj.sessionChallenge = false →
      exec (.pxRead t q index sub) s = .next ((x.latchLanes o i j).pxAnswer q 0x01 0 index sub o.ty.code counter (x.liveBytes o i j)))
    ∧ (s.readCode o i role = 0 → 32 < o.ty.size →
      exec (.pxRead t q index sub) s = .next (x.pxAnswer q 0x01 pxType index sub o.ty.code counter []))
    ∧ (s.readCode o i role = pxAccess →
      exec (.pxRead t q index sub) s = .next (x.pxAnswer q 0x01 pxAccess index sub o.ty.code counter [])))
  ∧ (∀ (t index sub role counter : Nat) (q : PxReq) (s : State), s.pxHears q = true → s.distOk q = true → frameOk q [] = true →
      s.objAt index sub = none → (s.tick t).pxDuplicate q 0x01 index sub 0 [] = none →
      (s.tick t).pxAuthorise q 0x01 index sub 0 [] = some (role, counter) →
    exec (.pxRead t q index sub) s = .next (((s.tick t).taken q counter).pxAnswer q 0x01 pxNoObject index sub 0 counter []))
  ∧ (∀ (t index sub i j role counter : Nat) (q : PxReq) (o : ObjDef) (v : PxValue) (x y : State) (s : State),
      x = (s.tick t).taken q counter → s.distOk q = true → frameOk q v.data = true → s.objAt index sub = some (o, i, j) →
      isObj o Obj.updateActivate = false → v.ty = o.ty.code → (s.tick t).admitsWrite q o i j v.data role counter →
    (effectOf q o i j 0 v.data x = .ok y →
      exec (.pxWrite t q index sub v) s = .next (y.wroteOk q o i j role counter ((s.tick t).liveBytes o i j) v.data)
      ∧ exec (.registerWrite t q index sub v) s = .next (y.wroteOk q o i j role counter ((s.tick t).liveBytes o i j) v.data))
    ∧ (effectOf q o i j 0 v.data x = .defer → s.px.rwp.length < 16 →
      (∃ s' r, exec (.pxWrite t q index sub v) s = .next s' ∧ s'.px.rwp = s.px.rwp ++ [r] ∧ r.q = q ∧ r.index = o.index + i ∧ r.sub = o.sub + j
        ∧ r.data = v.data ∧ r.role = role ∧ r.counter = counter ∧ r.since = max s.now t ∧ s'.px.stored = s.px.stored)
      ∧ ∃ s' r, exec (.registerWrite t q index sub v) s = .next s' ∧ s'.px.rwp = s.px.rwp ++ [r] ∧ r.data = v.data))
  ∧ (∀ (t i j c role counter : Nat) (q : PxReq) (o : ObjDef) (index sub : Nat) (v : PxValue) (x : State) (s : State),
      x = (s.tick t).taken q counter → s.distOk q = true → frameOk q v.data = true → s.objAt index sub = some (o, i, j) →
      isObj o Obj.updateActivate = false → v.ty = o.ty.code → (s.tick t).admitsWrite q o i j v.data role counter →
      effectOf q o i j 0 v.data x = .refuse c →
    exec (.pxWrite t q index sub v) s = .next (x.pxFinish q o i j 0x02 role counter c ((s.tick t).liveBytes o i j)
      ((s.tick t).liveBytes o i j)))
  ∧ (∀ (t i j : Nat) (r : RwpPending) (rest : List RwpPending) (o : ObjDef) (x : State) (s : State), s.px.rwp = r :: rest →
      x = { s.tick t with px := { s.px with rwp := rest } } → x.objAt r.index r.sub = some (o, i, j) →
    (s.rcd.pmPresent = true → exec (.rwpWriteDone t true) s
      = .next ((x.rwpApply r o i j).pxFinish r.q o i j r.key.service r.role r.counter 0 (x.liveBytes o i j) r.data))
    ∧ exec (.rwpWriteDone t false) s
      = .next (x.pxFinish r.q o i j r.key.service r.role r.counter pxStorage (x.liveBytes o i j) (x.liveBytes o i j)))
  ∧ (∀ (t : Nat) (s : State), exec (.pxResponseStoreExpiry t) s = .next { s.tick t with px := { s.px with
      stored := s.px.stored.filter (fun e => decide (max s.now t < e.since + 2000000000)) } })
  ∧ (∀ (t node tid : Nat) (s : State), s.isHead = true → tid = 0 → s.admitted.contains node = true →
    exec (.pxResponse t node tid 0) s = .next { s.tick t with hio := { s.hio with protPending := setErase s.hio.protPending node } }
    ∧ exec (.pxResponse t node tid pxSequence) s = .next ((s.tick t).sendDescTo (s.member node).square s.ident.desc))

/-- Chapter 14, block transfers (R551 to R557): each row's own effect.
The model's choices of log entries 5, 6, 40, 70, 71, 72, 73 enter its clauses. -/
def Obligations.BlockCommandsComplete : Prop :=
  (∀ (t index sub off size i j role counter : Nat) (q : PxReq) (o : ObjDef) (s : State), s.pxHears q = true → s.distOk q = true →
      frameOk q [] = true → s.objAt index sub = some (o, i, j) →
      (s.tick t).pxDuplicate q 0x03 index sub o.ty.code (openData off size) = none →
      (s.tick t).pxAuthorise q 0x03 index sub o.ty.code (openData off size) = some (role, counter) → s.readCode o i role = 0 →
      blockRange o off size = true → s.blockBusy q false index sub = false →
    ∃ s' b, exec (.pxBlockRead t q index sub off size) s = .next s' ∧ b ∈ s'.px.blocks ∧ b.q = q ∧ b.index = index ∧ b.sub = sub
      ∧ b.write = false ∧ b.offset = off ∧ b.size = size ∧ b.next = 0 ∧ b.sent = min ((size + 31) / 32) 16
      ∧ b.ackDue = some (max s.now t + 100000000) ∧ s'.px.blocks.length = s.px.blocks.length + 1)
  ∧ (∀ (t index sub off size i j role counter : Nat) (q : PxReq) (o : ObjDef) (s : State), s.pxHears q = true → s.distOk q = true →
      frameOk q [] = true → s.descXfer q index sub = false → s.objAt index sub = some (o, i, j) →
      (s.tick t).pxDuplicate q 0x04 index sub o.ty.code (openData off size) = none →
      (s.tick t).pxAuthorise q 0x04 index sub o.ty.code (openData off size) = some (role, counter) → s.mgmt.running = true →
      s.openCode q o i j role off size = 0 →
    ∃ s', exec (.pxBlockWrite t q index sub off size) s = .next s'
      ∧ s'.px.blocks = s.px.blocks ++ [(s.tick t).openBlock q index sub off size true false []])
  ∧ (∀ (t index sub : Nat) (q : PxReq) (s : State), s.pxHears q = true → s.distOk q = true → frameOk q [] = true →
      s.descXfer q index sub = true → s.blockBusy q true index sub = false →
    ∃ s', exec (.pxBlockWrite t q index sub 0 128) s = .next s'
      ∧ s'.px.blocks = s.px.blocks ++ [(s.tick t).openBlock q index sub 0 128 true false []])
  ∧ (∀ (t k : Nat) (q : PxReq) (d : Bytes) (b : BlockXfer) (s : State), s.pxHears q = true → s.blockOf q true = some b → k < b.count →
      k < b.next + 16 → d.length = min 32 (b.size - 32 * k) →
    ∃ s' b', exec (.pxSegment t q k d) s = .next s' ∧ b' ∈ s'.px.blocks ∧ b'.q = b.q ∧ b'.segs = KMap.set b.segs k d
      ∧ b'.next = b'.lowest ∧ b'.lastFrame = max s.now t)
  ∧ (∀ (t next role counter : Nat) (q : PxReq) (b : BlockXfer) (s : State), s.pxHears q = true → s.blockOf q false = some b →
      (s.tick t).pxAuthorise q 0x06 b.index b.sub 11 (leBytes 2 next) = some (role, counter) →
    ∃ s', exec (.pxAck t q next) s = .next s'
      ∧ (next = b.count → b.count < b.sent → ∀ b' ∈ s'.px.blocks, b'.isOf q = false)
      ∧ (b.next < next → next ≤ b.count → next ≤ b.sent → ¬ (next = b.count ∧ b.count < b.sent) →
        ∃ b' ∈ s'.px.blocks, b'.q = b.q ∧ b'.next = next ∧ b'.resends = 0 ∧ b'.ackDue = some (max s.now t + 100000000)))
  ∧ (∀ (t crc i j role counter : Nat) (q : PxReq) (b : BlockXfer) (o : ObjDef) (x y z : State) (s : State), frameOk q [] = true →
      s.blockOf q true = some b → x = (s.tick t).dropBlock q → s.descXfer b.q b.index b.sub = false →
      s.objAt b.index b.sub = some (o, i, j) → (s.tick t).pxAuthorise q 0x07 b.index b.sub 11 (leBytes 4 crc) ≠ none →
      x.admits q o i j 0x07 o.ty.code (leBytes 4 crc) role counter → o.access.writable = true → y = x.taken q counter →
    (b.count ≤ b.next → crc32 b.bytes = crc → effectOf q o i j b.offset b.bytes y = .ok z →
      exec (.pxEnd t q crc) s = .next (z.pxFinish q o i j 0x07 role counter 0
        (if byOffset o then x.rangeBytes o i j b.offset b.size else x.liveBytes o i j) b.bytes))
    ∧ (b.next < b.count → exec (.pxEnd t q crc) s = .next (y.pxFinish q o i j 0x07 role counter pxSequence
        (if byOffset o then x.rangeBytes o i j b.offset b.size else x.liveBytes o i j)
        (if byOffset o then x.rangeBytes o i j b.offset b.size else x.liveBytes o i j)))
    ∧ (b.count ≤ b.next → crc32 b.bytes ≠ crc → exec (.pxEnd t q crc) s = .next (y.pxFinish q o i j 0x07 role counter pxCrc
        (if byOffset o then x.rangeBytes o i j b.offset b.size else x.liveBytes o i j)
        (if byOffset o then x.rangeBytes o i j b.offset b.size else x.liveBytes o i j))))
  ∧ (∀ (t code role counter : Nat) (q : PxReq) (b : BlockXfer) (s : State), s.pxHears q = true →
      s.px.blocks.find? (fun b => b.isOf q && b.q.tid == q.tid) = some b →
      (s.tick t).pxAuthorise q 0x08 b.index b.sub 11 [] = some (role, counter) →
    ∃ s', exec (.pxAbort t q code) s = .next s' ∧ s'.px.blocks = s.px.blocks.filter (fun b => !b.isOf q))
  ∧ (∀ (t e : Nat) (b : BlockXfer) (s : State), s.px.blocks = [b] → b.ackDue = some e → e ≤ max s.now t →
    ∃ s', exec (.blockAckTimeout t) s = .next s' ∧
      if b.resends < 3 then ∃ b', s'.px.blocks = [b'] ∧ b'.q = b.q ∧ b'.next = b.next ∧ b'.resends = b.resends + 1
        ∧ b'.ackDue = some (max s.now t + 100000000)
      else s'.px.blocks = [])
  ∧ (∀ (t : Nat) (s : State),
    ∃ s', exec (.blockIdleTimeout t) s = .next s' ∧ (∀ b ∈ s'.px.blocks, max s.now t < b.lastFrame + 1000000000)
      ∧ ∀ b, s.px.blocks = [b] → b.lastFrame + 1000000000 ≤ max s.now t →
        s'.px.blocks = [] ∧ s'.nat Obj.pxBlockAborts = (s.nat Obj.pxBlockAborts + 1) % 2 ^ Obj.pxBlockAborts.ty.bits)

/-- Chapter 14, the head's copies and the change log (R562 to R565, R568, R656): each row's own effect.
The model's choices of log entries 5, 6, 39, 74 enter its clauses. -/
def Obligations.DirectoryCommandsComplete : Prop :=
  (∀ (t node : Nat) (area : Bytes) (s : State), s.isHead = true → node ≠ s.nodeId → node ≤ 32 → s.admitted.contains node = true →
      areaOk area = true →
    ∃ s', exec (.pubAreaPoll t node area) s = .next s' ∧ s'.val Obj.headPubCopy (node - 1) = .bytes area
      ∧ KMap.get s'.px.copyAt node 0 = max s.now t ∧ node ∉ s'.px.stale)
  ∧ (∀ (t : Nat) (area : Bytes) (s : State), s.isHead = true → areaOk (s.tick t).pubBytes = true →
    exec (.pubAreaPoll t s.nodeId area) s = .next ((s.tick t).keepArea s.nodeId (s.tick t).pubBytes))
  ∧ (∀ (t node : Nat) (s : State), s.isHead = true → KMap.has s.px.copyAt node = true →
      KMap.get s.px.copyAt node 0 + 300000000 ≤ max s.now t →
    ∃ s', exec (.directoryStale t node) s = .next s' ∧ node ∈ s'.px.stale)
  ∧ (∀ (t node point : Nat) (lo hi : BitVec 32) (s : State), s.isHead = true → (node = s.nodeId ∨ s.admitted.contains node = true) →
    ∃ s', exec (.pointLimitsReport t node point lo hi) s = .next s' ∧ KMap.get s'.px.limits (node * 64 + point) (0, 0) = (lo, hi))
  ∧ (∀ (t point : Nat) (lo hi : BitVec 32) (s : State), s.isHead = false → point ∈ s.px.limitsDue →
    ∃ s', exec (.pointLimitsReport t s.nodeId point lo hi) s = .next s' ∧ point ∉ s'.px.limitsDue ∧ s'.px.limits = s.px.limits)
  ∧ (∀ (t : Nat) (e : ChangeEntry) (s : State), s.uncopied = [e] → s.rcd.jobs = [] →
    ∃ s', exec (.changeLogCopy t) s = .next s' ∧
      if s.rcd.pmPresent then s'.rcd.jobs = [{ rank := 3, addr := logCopyAddr e.entry, data := e.bytes, fails := 0 }]
      else s'.rcd.copyFails = s.rcd.copyFails + 1 ∧ s'.rcd.jobs = [])

/-- Chapter 15, head failure and handover (R594 to R608, R64): each row's own effect.
The model's choices of log entries 5, 6, 36, 61, 63, 64, 67, 97 enter its clauses. -/
def Obligations.FailoverCommandsComplete : Prop :=
  (∀ (t : Nat) (via : NoticeVia) (n : Notice) (x : State) (s : State), (s.tick t).noticeRx via 3 n = (x, true) → s.isHead = true →
      (s.member n.node).state ≠ 0 →
    ∃ s', exec (.auxLoss t via n) s = .next s' ∧ (s'.member n.node).mode = 1 ∧ (s'.member n.node).released = false)
  ∧ (∀ (t : Nat) (via : NoticeVia) (n : Notice) (x : State) (s : State), (s.tick t).noticeRx via 4 n = (x, true) → s.isHead = false →
      (s.ident.headNode = 0 ∨ n.node = s.ident.headNode) → s.md.mode.runs = true →
    ∃ s', exec (.abdicate t via n) s = .next s'
      ∧ ((n.code = 0 ∨ n.code = 1 ∨ n.code = 4) → s.flt.failAt = none → s.ident.role = .segment →
        s'.flt.failAt = some (max s.now t) ∧ s'.ring.sq0Broadcast = true)
      ∧ ((((n.code = 0 ∨ n.code = 1 ∨ n.code = 4) ∧ s.flt.failAt = none) ∨ n.code = 2) → s.ident.role = .standby → s.md.mode ≠ .safe →
        s.flt.ckpt.content ≠ [] → s.nat Obj.severity 0 0x11 < 3 → s.nat Obj.severity 0 0x0B < 3 →
        s'.ident.role = .head ∧ s'.ident.headNode = s.nodeId ∧ s'.ring.noUnicast = true))
  ∧ (∀ (t e : Nat) (s : State), s.flt.failAt = some e → e + 100000000 ≤ max s.now t → s.isHead = false →
    ∃ s', exec (.headFailureWaitExpiry t) s = .next s' ∧ s'.flt.failAt = none ∧ s'.ident.headFailHold = true ∧ s'.ident.headNode = 0
      ∧ s'.ident.role = .segment ∧ s'.ident.phase = .announcing ∧ s'.nodeId = 0 ∧ (s.md.mode = .online → s'.md.mode = .standby))
  ∧ (∀ (t e : Nat) (s : State), s.md.loopHoldUntil = some e → e ≤ max s.now t →
    ∃ s', exec (.abdicateLoopHoldExpiry t) s = .next s' ∧ s'.md.loopHoldUntil = none ∧ (s.isHead = true → s'.ident.role = .segment))
  ∧ (∀ (t : Nat) (q : Int) (s : State), s.serves = true → s.ident.standbyPack ≠ 0 →
    ∃ s', exec (.checkpointSend t) s = .next s'
      ∧ (s.flt.unacked < 3 → s.standbySquare = some q → s.ring.noUnicast = false →
        s'.nat Obj.ckptGenSent = genNext (s.nat Obj.ckptGenSent) ∧ s'.flt.unacked = s.flt.unacked + 1)
      ∧ (3 ≤ s.flt.unacked → 0x12 ∉ s.flt.active → 0x12 ∈ s'.flt.pending))
  ∧ (∀ (t gen index : Nat) (rx : SlotRx) (data c : Bytes) (slots : KMap Bytes) (x : State) (s : State),
      (s.tick t).ringRx rx (ckptBytes gen index data) = (x, true) → rx.hdr.src = 0 → s.md.mode ≠ .safe →
      (s.ident.role = .standby ∨ (s.ident.role = .segment ∧ x.mayLead = true)) →
      slots = KMap.set (if s.flt.inGen = gen then s.flt.inSlots else []) index (fitBytes 46 data) →
    ∃ s', exec (.checkpoint t rx gen index data) s = .next s' ∧ s'.ident.role = .standby ∧ s'.flt.inGen = gen
      ∧ (ckptAssemble slots = some c → s'.flt.ckpt = { gen := gen, content := c, takenAt := fieldAt 4 8 c } ∧ s'.flt.inSlots = []
        ∧ s'.flt.ckptSince = max s.now t ∧ s'.nat Obj.ckptGenAccepted = gen)
      ∧ (ckptAssemble slots = none → index ≠ ckptLast slots → s'.flt.inSlots = slots ∧ s'.flt.ckpt = s.flt.ckpt))
  ∧ (∀ (t gen received : Nat) (rx : SlotRx) (x : State) (s : State),
      (s.tick t).ringRx rx (ckptAckBytes gen received true) = (x, true) → s.isHead = true →
      genNewer (s.nat Obj.ckptGenSent) gen = false →
    ∃ s', exec (.checkpointAck t rx gen received true) s = .next s' ∧ s'.flt.unacked = 0 ∧ s'.flt.ackAt = some (max s.now t)
      ∧ s'.ident.standbyReady = true ∧ 0x12 ∉ s'.flt.active
      ∧ (s.flt.handoverStep = 2 → gen = s.nat Obj.ckptGenSent → s'.flt.handoverStep = 4))
  ∧ (∀ (t : Nat) (s : State), s.ident.role = .standby →
    ∃ s', exec (.checkpointLag t) s = .next s' ∧
      if s.genLag = true ∨ s.flt.ckptSince + 300000000 ≤ max s.now t then 0x13 ∉ s.flt.active → 0x13 ∈ s'.flt.pending
      else 0x13 ∉ s'.flt.active)
  ∧ (∀ (t v a role counter : Nat) (q : PxReq) (x y : State) (s : State), x = (s.tick t).taken q counter → y = x.sendCkpt →
      (s.tick t).admitsWrite q Obj.handoverCommand 0 0 (natBytes Obj.handoverCommand v) role counter →
    (s.isHead = true → s.standbySquare ≠ none → s.flt.ackAt = some a → max s.now t ≤ a + 200000000 → s.flt.handoverStep = 0 →
      (s.hio.contactor = 0 ∨ s.hio.contactor = 3) →
      exec (.handoverCommand t q v) s
        = .next ({ y with flt := { y.flt with handoverSince := some (max s.now t), handoverStep := 2 } }.wroteOk q Obj.handoverCommand 0 0
          role counter ((s.tick t).bytesOf Obj.handoverCommand 0 0) (natBytes Obj.handoverCommand v)))
    ∧ (s.isHead = false → exec (.handoverCommand t q v) s = .next (x.pxFinish q Obj.handoverCommand 0 0 0x02 role counter pxNotHead
        ((s.tick t).bytesOf Obj.handoverCommand 0 0) ((s.tick t).bytesOf Obj.handoverCommand 0 0))))
  ∧ (∀ (t e : Nat) (s : State), s.flt.handoverSince = some e → e + 100000000 ≤ max s.now t → s.flt.handoverStep < 4 →
    ∃ s', exec (.handoverTimeout t) s = .next s' ∧ s'.flt.handoverSince = none ∧ s'.flt.handoverStep = 0
      ∧ (0x14 ∉ s.flt.active → 0x14 ∈ s'.flt.pending))

/-- Chapter 15, lanes and voter (R571 to R583, R708): each row's own effect.
The model's choices of log entries 5, 6, 59, 60, 62 enter its clauses. -/
def Obligations.LaneCommandsComplete : Prop :=
  (∀ (t : Nat) (lane : Lane) (s : State), s.md.mode.runs = true → s.laneLive lane = true →
    ∃ s', exec (.laneTokenTimeout t lane) s = .next s' ∧ s'.flt.silent = s.flt.silent ++ [lane]
      ∧ (s.lanesUp = 3 → { s with flt := { s.flt with silent := s.flt.silent ++ [lane] } }.voteOk = true →
        KMap.get s'.flt.lane lane.idx 0 = 2 ∧ (0x01 ∉ s.flt.active → 0x01 ∈ s'.flt.pending))
      ∧ (s.lanesUp = 2 → 0x02 ∉ s.flt.active → 0x02 ∈ s'.flt.pending))
  ∧ (∀ (t : Nat) (s : State),
    ∃ s', exec (.clockMonitor t) s = .next s' ∧ (0x09 ∉ s.flt.active → 0x09 ∈ s'.flt.pending))
  ∧ (∀ (t v : Nat) (target : RegTarget) (a b c : Option Nat) (s : State), majority (s.regCopies a b c) = some v →
    ∃ s', exec (.registerVote t target a b c) s = .next s'
      ∧ (s.lanesUp ≠ 3 → s'.out = s.out ++ [.register target (some v)])
      ∧ (s.lanesUp = 3 → (∃ l, s'.out = s.out ++ [.register target (some v)] ++ l)
        ∧ ∀ lane, (lane, v) ∉ s.regCopies a b c →
          KMap.get s'.flt.lane lane.idx 0 = 2 ∧ (0x01 ∉ s.flt.active → 0x01 ∈ s'.flt.pending)))
  ∧ (∀ (t : Nat) (target : RegTarget) (a b c : Option Nat) (s : State), majority (s.regCopies a b c) = none →
    ∃ s', exec (.registerVote t target a b c) s = .next s' ∧ (∃ l, s'.out = s.out ++ [.register target none] ++ l)
      ∧ (target = .coils → s'.hio.mainPos = false ∧ s'.hio.mainNeg = false ∧ s'.hio.prechg = false)
      ∧ (target = .balancing → s'.bal.bleeders = [] ∧ s'.bal.transferOn = false)
      ∧ (target = .switches → s'.hio.tapsOn = false ∧ s'.hio.isoState = 0)
      ∧ (s.lanesUp = 3 → 0x03 ∉ s.flt.active → 0x03 ∈ s'.flt.pending) ∧ (s.lanesUp = 2 → 0x02 ∉ s.flt.active → 0x02 ∈ s'.flt.pending))
  ∧ (∀ (t : Nat) (s : State),
    (∃ s', exec (.voterSelfTest t false) s = .next s' ∧ (0x07 ∉ s.flt.active → 0x07 ∈ s'.flt.pending))
    ∧ ∃ s', exec (.voterSelfTest t true) s = .next s' ∧ 0x07 ∉ s'.flt.active)
  ∧ (∀ (t : Nat) (lane : Lane) (s : State), s.md.mode.runs = true → KMap.get s.flt.lane lane.idx 0 = 0 →
    (∃ s', exec (.laneEccError t lane true) s = .next s' ∧ s'.flt.lane = s.flt.lane ∧ (0x06 ∉ s.flt.active → 0x06 ∈ s'.flt.pending))
    ∧ ∃ s', exec (.laneEccError t lane false) s = .next s' ∧ KMap.get s'.flt.lane lane.idx 0 = 3
      ∧ (0x05 ∉ s.flt.active → 0x05 ∈ s'.flt.pending))
  ∧ (∀ (t : Nat) (s : State), s.md.mode = .keepalive →
    ∃ s', exec (.laneEccError t .laneA false) s = .next s' ∧ s'.md.kaTripped = true
      ∧ ∀ k, s.md.ka = some k → k.firstTrip = 0 → ∃ k', s'.md.ka = some k' ∧ k'.firstTrip = 6 ∧ k'.firstTripAt = (s.tick t).ringTime)
  ∧ (∀ (t : Nat) (mA : Rat) (s : State), s.md.mode.runs = true →
    ∃ s', exec (.tripDriverCheck t mA) s = .next s'
      ∧ s'.hio.loopOkSince = (if 8 ≤ mA then some (s.hio.loopOkSince.getD (max s.now t)) else none)
      ∧ if s.loopDriven = false ∧ 6 ≤ mA then 0x08 ∉ s.flt.active → 0x08 ∈ s'.flt.pending ∧ s'.flt.tripDriverBad = true
        else s'.flt.tripDriverBad = false ∧ 0x08 ∉ s'.flt.active)

/-- Chapter 15, the fault collection unit (R582 to R593, R700): each row's own effect.
The model's choices of log entries 5, 6, 50, 110 enter its clauses. -/
def Obligations.CollectionCommandsComplete : Prop :=
  (∀ (t source : Nat) (s : State), reservedSource source = false → source ∉ s.flt.active →
    ∃ s', exec (.sourceRaise t source) s = .next s' ∧ source ∈ s'.flt.pending)
  ∧ (∀ (t : Nat) (c : CarryDue) (s : State), s.flt.carryDue = some c →
    ∃ s', exec (.carriedFaultWrite t) s = .next s' ∧ s'.flt.carryDue = none
      ∧ (s.rcd.pmPresent = true → ∃ k seq, k ≤ 1 ∧ s'.rcd.jobs = s.rcd.jobs
        ++ [{ rank := 2, addr := 0x300 + 32 * k, data := carryBytes seq c ((s.tick t).utc.getD 0), fails := 0 }]))
  ∧ (∀ (t : Nat) (s : State), exec (.fcuScan t true) s = .next (s.tick t))
  ∧ (∀ (t : Nat) (s : State), 0x00 ∉ s.flt.active →
    ∃ s', exec (.fcuScan t false) s = .next s' ∧ 0x00 ∈ s'.flt.pending ∧ (s.nat Obj.severity 0 0 = 4 → s'.md.terminalLatch = true))
  ∧ (∀ (t : Nat) (s : State), s.mgmt.running = true →
    exec (.collectorTest t true) s = .next ((s.tick t).raise 0x9F)
    ∧ (0x9F ∉ s.flt.active → 0x9F ∈ ((s.tick t).raise 0x9F).flt.pending)
    ∧ ∃ s', exec (.collectorTest t false) s = .next s' ∧ (0x00 ∉ s.flt.active → 0x00 ∈ s'.flt.pending))
  ∧ (∀ (t : Nat) (s : State),
    exec (.collectorTestRelease t) s = .next { s.tick t with flt := { s.flt with active := setErase s.flt.active 0x9F } })
  ∧ (∀ (t v role counter : Nat) (q : PxReq) (x y : State) (s : State), x = (s.tick t).taken q counter →
      y = (match s.flt.first with | some f => x.episode 6 f.source f.severity 0 | none => x) →
      (s.tick t).admitsWrite q Obj.firstMoveClear 0 0 (natBytes Obj.firstMoveClear v) role counter →
    (s.md.terminalLatch = false → exec (.firstMoveClear t q v) s
      = .next ({ y with flt := { y.flt with first := none, overflow := false } }.wroteOk q Obj.firstMoveClear 0 0 role counter
        ((s.tick t).bytesOf Obj.firstMoveClear 0 0) (natBytes Obj.firstMoveClear v)))
    ∧ (s.md.terminalLatch = true → exec (.firstMoveClear t q v) s = .next (x.pxFinish q Obj.firstMoveClear 0 0 0x02 role counter pxState
        ((s.tick t).bytesOf Obj.firstMoveClear 0 0) ((s.tick t).bytesOf Obj.firstMoveClear 0 0))))
  ∧ (∀ (t j v role counter : Nat) (q : PxReq) (x : State) (s : State), x = (s.tick t).taken q counter →
      (s.tick t).admitsWrite q Obj.faultPending 0 j (leBytes 4 v) role counter →
    exec (.faultPendingClear t q (j + 1) v) s
      = .next ({ x with flt := { x.flt with pending := s.flt.pending.filter (fun k =>
        !(k / 32 == j && bitsOf (k % 32) (k % 32) v == 1 && !s.flt.active.contains k)) } }.wroteOk q Obj.faultPending 0 j role counter
          (leBytes 4 (sourceWord s.flt.pending j)) (leBytes 4 v)))
  ∧ (∀ (t source v role counter : Nat) (q : PxReq) (s : State),
      (s.tick t).admitsWrite q Obj.severity 0 source (natBytes Obj.severity v) role counter →
    (reservedSource source = false → s.nat Obj.minSeverity 0 source ≤ v → v ≤ 4 → s.px.rwp.length < 16 →
      ∃ s' r, exec (.severityWrite t q source v) s = .next s' ∧ s'.px.rwp = s.px.rwp ++ [r] ∧ r.index = Obj.severity.index
        ∧ r.sub = Obj.severity.sub + source ∧ r.data = natBytes Obj.severity v ∧ r.since = max s.now t ∧ s'.flt = s.flt)
    ∧ (v < s.nat Obj.minSeverity 0 source → exec (.severityWrite t q source v) s
      = .next (((s.tick t).taken q counter).pxFinish q Obj.severity 0 source 0x02 role counter pxRange
        ((s.tick t).bytesOf Obj.severity 0 source) ((s.tick t).bytesOf Obj.severity 0 source))))

/-- Chapter 16, SENT sensors (R611 to R625): each row's own effect. The model's choices of log entries 5, 6, 20 enter its clauses. -/
def Obligations.SentCommandsComplete : Prop :=
  (∀ (t k n f1 data raw1 : Nat) (num : Int) (pulses v : List Nat) (s : State), 1 ≤ k → k ≤ 8 → s.sentLive k = true → s.sentCheck k pulses = .ok v →
      n = s.nat Obj.dataNibbles (k - 1) → f1 = min (s.nat Obj.fast1Bits (k - 1)) (4 * n) →
      data = ((v.drop 1).take n).foldl (fun a x => a * 16 + x) 0 → raw1 = data / 2 ^ (4 * n - f1) →
      num = (if s.flag Obj.fast1Signed (k - 1) then signedOf f1 raw1 else (raw1 : Int)) →
    ∃ s', exec (.sentFrame t k pulses) s = .next s' ∧ (s'.sentCh k).prev = some (pulses.headD 0) ∧ (s'.sentCh k).statusNib = v.headD 0
      ∧ (s'.sentCh k).timedOut = false ∧ (s'.sentCh k).lastValid = max s.now t ∧ (s'.sentCh k).okSec = (s.sentCh k).okSec + 1
      ∧ (s'.sentCh k).badSec = (s.sentCh k).badSec ∧ (s'.sentCh k).seq = ((s.sentCh k).seq + 1) % 4
      ∧ (s'.sentCh k).value = clampI (-8388608) 8388607 (roundHalfAway
        (((num : Rat) * s.rat Obj.sentGain (k - 1) + s.rat Obj.sentOffset (k - 1)) / s.rat Obj.sentLsb (k - 1)))
      ∧ s'.nat Obj.sentRawFast1 (k - 1) = raw1 ∧ s'.nat Obj.sentRawFast2 (k - 1) = data % 2 ^ (4 * n - f1))
  ∧ (∀ (t k e : Nat) (pulses : List Nat) (s : State), s.sentLive k = true → s.sentCheck k pulses = .error e →
    ∃ s', exec (.sentFrame t k pulses) s = .next s' ∧ KMap.get (s'.sentCh k).errs e 0 = (KMap.get (s.sentCh k).errs e 0 + 1) % 2 ^ 32
      ∧ (s'.sentCh k).badSec = (s.sentCh k).badSec + 1 ∧ (s'.sentCh k).value = (s.sentCh k).value ∧ (s'.sentCh k).asm = []
      ∧ (s'.sentCh k).prev = (if e = 0 then none else some (pulses.headD 0)))
  ∧ (∀ (t k : Nat) (s : State), 1 ≤ k → k ≤ 8 → s.sentLive k = true → (s.sentCh k).timedOut = false →
      (s.sentCh k).lastValid + s.nat Obj.sentTimeout (k - 1) * 1000000 ≤ max s.now t →
    ∃ s', exec (.sentTimeout t k) s = .next s' ∧ (s'.sentCh k).timedOut = true ∧ (s'.sentCh k).asm = []
      ∧ KMap.get (s'.sentCh k).errs 7 0 = (KMap.get (s.sentCh k).errs 7 0 + 1) % 2 ^ 32 ∧ s'.rat Obj.sentValue (k - 1) = 0)
  ∧ (∀ (t k e : Nat) (s : State), (s.sentCh k).warmUntil = some e → e ≤ max s.now t →
    exec (.sentWarmupEnd t k) s = .next ((s.tick t).setSent k { s.sentCh k with warmUntil := none, lastValid := max s.now t }))
  ∧ (∀ (t k v role counter : Nat) (q : PxReq) (s : State),
      (s.tick t).admitsWrite q Obj.sentEnable (k - 1) 0 (natBytes Obj.sentEnable v) role counter → s.px.rwp.length < 16 →
    ∃ s' r, exec (.sentEnable t q k v) s = .next s' ∧ s'.px.rwp = s.px.rwp ++ [r] ∧ r.index = Obj.sentEnable.index + (k - 1)
      ∧ r.sub = Obj.sentEnable.sub ∧ r.data = natBytes Obj.sentEnable v ∧ r.since = max s.now t ∧ s'.sent = s.sent ∧ s'.supply = s.supply)
  ∧ (∀ (t k : Nat) (s : State), 1 ≤ k → k ≤ 8 →
    ∃ s', exec (.sentChannelCheck t k) s = .next s' ∧ (s'.sentCh k).okSec = 0 ∧ (s'.sentCh k).badSec = 0 ∧
      if s.sentOn k = true ∧ (s.sentCh k).warmUntil = none ∧ ((s.sentCh k).timedOut = true
          ∨ (match (s.sentCh k).clipSince with | some e => decide (e + 1000000000 ≤ max s.now t) | none => false) = true
          ∨ (s.sentCh k).okSec + (s.sentCh k).badSec < 10 * (s.sentCh k).badSec) then
        0x6F + k ∉ s.flt.active → 0x6F + k ∈ s'.flt.pending
      else 0x6F + k ∉ s'.flt.active)

/-- Chapter 17, the recorder (R628 to R636): each row's own effect. The model's choices of log entries 5, 6, 13, 50 enter its clauses. -/
def Obligations.RecorderCommandsComplete : Prop :=
  (∀ (t : Nat) (s : State), s.md.mode.runs = true →
    ∃ s', exec (.recorderSample t) s = .next s' ∧ s'.rcd.secCell = [] ∧ s'.rcd.secCurrent = (0, 0)
      ∧ s'.rcd.day.onlineS = (if s.md.mode = .online then s.rcd.day.onlineS + 1 else s.rcd.day.onlineS)
      ∧ s'.rcd.day.balS = (if s.bal.bleeders ≠ [] ∨ s.bal.transferOn = true ∨ s.bal.fly.any (fun e => e.2.on) = true
          then s.rcd.day.balS + 1 else s.rcd.day.balS)
      ∧ (s.isHead = true → 0 < s.rcd.secCurrent.2 → s.cellCount ≤ 24 →
        ∀ bin, bin = binOf (-s.rat Obj.currentSpan) (s.rat Obj.currentSpan) 62 (s.rcd.secCurrent.1 / ((s.rcd.secCurrent.2 : Nat) : Rat)) →
          KMap.get s'.rcd.hist (2 * 65536 + bin) 0 = min (KMap.get s.rcd.hist (2 * 65536 + bin) 0 + 1) 0xFFFFFFFF))
  ∧ (∀ (t : Nat) (s : State), s.md.mode.runs = true →
    ∃ s', exec (.recorderStage t) s = .next s' ∧ s'.rcd.histStaged = s.rcd.hist ∧ s'.rcd.extStaged = s.rcd.extremes ∧
      if s.rcd.norFails = 0 then s'.rcd.histNor = s.rcd.hist ∧ s'.rcd.extNor = s.rcd.extremes ∧ s'.rcd.stageDue = none ∧ 0x85 ∉ s'.flt.active
      else s'.rcd.norFails = 0 ∧ s'.rcd.stageDue = some (s.rcd.stageDue.getD (max s.now t)) ∧ s'.rcd.histNor = s.rcd.histNor
        ∧ (s.rcd.stageDue.getD (max s.now t) + 1200000000000 ≤ max s.now t → 0x85 ∉ s.flt.active → 0x85 ∈ s'.flt.pending))
  ∧ (∀ (t role counter : Nat) (q : PxReq) (o : RangeObj) (v : BitVec 32) (s : State),
      (s.tick t).admitsWrite q o.obj 0 0 (f32Bytes v) role counter →
    (s.rangeOk o v = true → s.px.rwp.length < 16 →
      ∃ s' r, exec (.recorderRangeWrite t q o v) s = .next s' ∧ s'.px.rwp = s.px.rwp ++ [r] ∧ r.index = o.obj.index ∧ r.sub = o.obj.sub
        ∧ r.data = f32Bytes v ∧ s'.rcd = s.rcd)
    ∧ (s.rangeOk o v = false → exec (.recorderRangeWrite t q o v) s = .next (((s.tick t).taken q counter).pxFinish q o.obj 0 0 0x02 role
        counter pxRange ((s.tick t).bytesOf o.obj 0 0) ((s.tick t).bytesOf o.obj 0 0))))
  ∧ (∀ (t v role counter : Nat) (q : PxReq) (s : State),
      (s.tick t).admitsWrite q Obj.recClear 0 0 (natBytes Obj.recClear v) role counter →
    ∃ (y : State), exec (.recClear t q v) s = .next (y.wroteOk q Obj.recClear 0 0 role counter ((s.tick t).bytesOf Obj.recClear 0 0)
        (natBytes Obj.recClear v))
      ∧ (bitsOf 0 0 v = 1 → (∀ e ∈ y.rcd.hist, 4 ≤ e.1 / 65536) ∧ (∀ e ∈ y.rcd.histStaged, 4 ≤ e.1 / 65536)
        ∧ ∀ e ∈ y.rcd.histNor, 4 ≤ e.1 / 65536)
      ∧ (bitsOf 0 0 v = 0 → y.rcd.hist = s.rcd.hist)
      ∧ (bitsOf 1 1 v = 1 → y.rcd.extremes = [] ∧ y.rcd.extStaged = [] ∧ y.rcd.extNor = [])
      ∧ (bitsOf 1 1 v = 0 → y.rcd.extremes = s.rcd.extremes)
      ∧ (bitsOf 2 2 v = 1 → ∃ (e : Episode), y.rcd.episodes = [e] ∧ e.kind = 7 ∧ e.code = v)
      ∧ (bitsOf 3 3 v = 1 → s.rcd.pmPresent = true → y.pm = Memory.writeAll s.pm 0x2000 (zeroBytes 8192))
      ∧ (bitsOf 3 3 v = 0 → y.pm = s.pm))
  ∧ (∀ (t : Nat) (s : State),
    ∃ s', exec (.episodeWrite t) s = .next s' ∧ s'.rcd.episodes = s.rcd.episodes.map (fun (e : Episode) => { e with written := true }))
  ∧ (∀ (t u : Nat) (s : State), (s.tick t).utcDay = some u → s.rcd.day.day ≠ 0 → s.rcd.day.day < u →
    ∃ s', exec (.dayClose t) s = .next s' ∧ s'.rcd.dayDue = some (s.rcd.day.day % 32, (s.tick t).daySummary s.rcd.day.day false)
      ∧ s'.rcd.dayCount = s.rcd.dayCount + 1 ∧ s'.rcd.day = { since := (s.tick t).ringTime, partialDay := false, day := u })
  ∧ (∀ (t : Nat) (s : State), (s.tick t).utcDay = none → s.rcd.day.since + 86400000000000 ≤ (s.tick t).ringTime →
    ∃ s', exec (.dayClose t) s = .next s' ∧ s'.rcd.dayCount = s.rcd.dayCount + 1
      ∧ s'.rcd.day = { since := (s.tick t).ringTime, partialDay := false, day := 0 })

/-- Chapter 17, the capture memory (R637 to R649): each row's own effect.
The model's choices of log entries 5, 6, 15, 27, 91, 107 enter its clauses. -/
def Obligations.CaptureCommandsComplete : Prop :=
  (∀ (t : Nat) (s : State),
    ∃ s', exec (.scrubPassEnd t) s = .next s' ∧ s'.rcd.scrubStart = max s.now t ∧ s'.rcd.scrubEnd = max s.now t ∧ s'.rcd.scrubCorrected = 0
      ∧ 0x83 ∉ s'.flt.active
      ∧ if 64 < s.rcd.scrubCorrected then 0x82 ∉ s.flt.active → 0x82 ∈ s'.flt.pending else 0x82 ∉ s'.flt.active)
  ∧ (∀ (t : Nat) (s : State), s.md.mode.runs = true → s.rcd.scrubStart + 25200000000000 ≤ max s.now t → 0x83 ∉ s.flt.active →
    ∃ s', exec (.scrubOverdue t) s = .next s' ∧ 0x83 ∈ s'.flt.pending)
  ∧ (∀ (t addr : Nat) (s : State), addr < 4294967296 →
    (∃ s', exec (.captureMemoryEcc t addr false) s = .next s' ∧ s'.rcd.scrubCorrected = s.rcd.scrubCorrected + 1
      ∧ s'.nat Obj.captureEccCorrected = (s.nat Obj.captureEccCorrected + 1) % 2 ^ Obj.captureEccCorrected.ty.bits)
    ∧ ∃ s', exec (.captureMemoryEcc t addr true) s = .next s' ∧ (0x81 ∉ s.flt.active → 0x81 ∈ s'.flt.pending)
      ∧ (addr < 3221225472 → (∀ x ∈ s'.rcd.store, x.index % storeSlots = addr / 64 → addr % 64 / 4 ∈ x.poison)
        ∧ ∀ e ∈ s'.rcd.caps, (addr / 64 + storeSlots - e.2.first % storeSlots) % storeSlots < e.2.slots → e.2.poison = true))
  ∧ (∀ (t : Nat) (rx : SlotRx) (n : Notice) (x : State) (s : State), (s.tick t).ringRx rx n.bytes = (x, true) → s.rcd.capInit = true →
      s.rcd.capStopped = false → n.time ≤ (s.tick t).ringTime + 1000000 → (s.tick t).ringTime ≤ n.time + 100000000 →
    ∃ s', exec (.captureTrig t rx n) s = .next s'
      ∧ (∀ slot r, s.capRecording = some (slot, r) → ∃ r', (slot, r') ∈ s'.rcd.caps ∧ r'.id = r.id ∧ r'.merged = true
        ∧ r'.merges = min (r.merges + 1) 65535)
      ∧ (∀ slot, s.capRecording = none → (List.range 16).find? (fun k => !KMap.has s.rcd.caps k) = some slot →
        s.captureNeed (s.nat Obj.capturePostTime) ≤ s.captureAhead →
        ∃ r, (slot, r) ∈ s'.rcd.caps ∧ r.state = 1 ∧ r.id = s.rcd.capNextId ∧ r.cause = (if n.node = 0 then 5 else 6) ∧ r.node = n.node
          ∧ r.detail = n.detail ∧ r.t = n.time ∧ r.stop = n.time + s.nat Obj.capturePostTime * 1000000))
  ∧ (∀ (t v role counter : Nat) (q : PxReq) (x : State) (s : State), x = (s.tick t).taken q counter →
      (s.tick t).admitsWrite q Obj.captureTrigger 0 0 (natBytes Obj.captureTrigger v) role counter →
    exec (.captureTrigger t q v) s = .next ((x.captureTrigger 1 s.nodeId 0 (s.tick t).ringTime true).auxStart.wroteOk q Obj.captureTrigger 0 0
      role counter ((s.tick t).bytesOf Obj.captureTrigger 0 0) (natBytes Obj.captureTrigger v)))
  ∧ (∀ (t v role counter : Nat) (q : PxReq) (x : State) (s : State), x = ((s.tick t).taken q counter).setNat Obj.captureAngle v →
      (s.tick t).admitsWrite q Obj.captureAngle 0 0 (natBytes Obj.captureAngle v) role counter →
    (v = 0 → exec (.captureAngleArm t q v) s = .next ((x.disarmAngle .capture .capture).wroteOk q Obj.captureAngle 0 0 role counter
      ((s.tick t).bytesOf Obj.captureAngle 0 0) (natBytes Obj.captureAngle v)))
    ∧ (∀ y, v ≠ 0 → x.armAngle .capture .capture false v = some y → exec (.captureAngleArm t q v) s
      = .next (y.wroteOk q Obj.captureAngle 0 0 role counter ((s.tick t).bytesOf Obj.captureAngle 0 0) (natBytes Obj.captureAngle v)))
    ∧ (v ≠ 0 → x.armAngle .capture .capture false v = none → exec (.captureAngleArm t q v) s
      = .next (((s.tick t).taken q counter).pxFinish q Obj.captureAngle 0 0 0x02 role counter pxBusy
        ((s.tick t).bytesOf Obj.captureAngle 0 0) ((s.tick t).bytesOf Obj.captureAngle 0 0))))
  ∧ (∀ (t slot : Nat) (r : CapRec) (s : State), s.capRecording = some (slot, r) → (r.stop ≤ (s.tick t).ringTime ∨ s.captureAhead = 0) →
    ∃ s' r', exec (.captureRecordClose t) s = .next s' ∧ (slot, r') ∈ s'.rcd.caps ∧ r'.state = 2 ∧ r'.id = r.id ∧ r'.t = r.t
      ∧ r'.truncated = decide ((s.tick t).ringTime < r.stop))
  ∧ (∀ (t a b c d : Nat) (s : State),
    (a + b + c + d ≠ 16 → ∃ s', exec (.captureBooksCheck t a b c d) s = .next s' ∧ s'.rcd.capStopped = true
      ∧ (0x80 ∉ s.flt.active → 0x80 ∈ s'.flt.pending))
    ∧ (a + b + c + d = 16 → exec (.captureBooksCheck t a b c d) s = .next (s.tick t)))
  ∧ (∀ (t slot role counter : Nat) (q : PxReq) (d : Bytes) (r : CapRec) (s : State),
      (s.tick t).admitsWrite q Obj.captureReadout 0 0 d role counter → fieldAt 3 1 d = 0 → fieldAt 12 4 d = 0 → s.rcd.readout = none →
      s.rcd.caps.find? (fun e => e.2.id == fieldAt 0 2 d && (e.2.state == 2 || e.2.state == 3)) = some (slot, r) →
    ∃ (y : State) (o : ReadoutSt) (r' : CapRec), exec (.captureReadout t q d) s = .next (y.wroteOk q Obj.captureReadout 0 0 role counter
        ((s.tick t).bytesOf Obj.captureReadout 0 0) d)
      ∧ y.rcd.readout = some o ∧ o.slot = slot ∧ o.dest = signedOf 8 (fieldAt 2 1 d) ∧ fieldAt 4 4 d ≤ o.chunk
      ∧ (slot, r') ∈ y.rcd.caps ∧ r'.state = 3 ∧ r'.id = r.id)
  ∧ (∀ (t : Nat) (o : ReadoutSt) (r : CapRec) (s : State), s.rcd.readout = some o → o.left = 0 →
      s.rcd.caps.find? (fun e => e.1 == o.slot) = some (o.slot, r) →
    ∃ s', exec (.captureReadoutDone t) s = .next s' ∧ s'.rcd.readout = none ∧ (o.slot, { r with state := 2 }) ∈ s'.rcd.caps)
  ∧ (∀ (t v slot role counter : Nat) (q : PxReq) (r : CapRec) (x : State) (s : State), x = (s.tick t).taken q counter →
      (s.tick t).admitsWrite q Obj.captureRelease 0 0 (natBytes Obj.captureRelease v) role counter →
      s.rcd.caps.find? (fun e => e.2.id == v) = some (slot, r) →
    (r.state ≠ 1 → ∃ (y : State), exec (.captureRelease t q v) s = .next (y.wroteOk q Obj.captureRelease 0 0 role counter
        ((s.tick t).bytesOf Obj.captureRelease 0 0) (natBytes Obj.captureRelease v))
      ∧ y.rcd.caps = s.rcd.caps.filter (fun e => e.1 != slot) ∧ y.rcd.store = s.rcd.store)
    ∧ (r.state = 1 → exec (.captureRelease t q v) s = .next (x.pxFinish q Obj.captureRelease 0 0 0x02 role counter pxState
        ((s.tick t).bytesOf Obj.captureRelease 0 0) ((s.tick t).bytesOf Obj.captureRelease 0 0))))

/-- Chapter 17, NOR and pack memory (R651 to R656, R403): each row's own effect.
The model's choices of log entries 5, 6, 28 enter its clauses. -/
def Obligations.StorageCommandsComplete : Prop :=
  (∀ (t : Nat) (s : State),
    ∃ s', exec (.norWriteFail t) s = .next s' ∧ s'.rcd.norFails = s.rcd.norFails + 1
      ∧ (s.rcd.norFails % 2 = 1 → 0x84 ∉ s.flt.active → 0x84 ∈ s'.flt.pending))
  ∧ (∀ (t : Nat) (e : ChangeEntry) (s : State), e ∈ s.px.log → e.created + 1000000000 ≤ max s.now t → 0x86 ∉ s.flt.active →
    ∃ s', exec (.changeLogNorTimeout t) s = .next s' ∧ 0x86 ∈ s'.flt.pending)
  ∧ (∀ (t v role counter : Nat) (q : PxReq) (x : State) (s : State), x = (s.tick t).taken q counter →
      (s.tick t).admitsWrite q Obj.packIdentity 0 0 (natBytes Obj.packIdentity v) role counter →
    (s.rcd.pmPresent = true → (identityValid (s.pmRead 0 256) = false ∨ s.md.mode = .maintenance) →
      exec (.packIdentityWrite t q v) s = .next (((x.setNat Obj.packIdentity v).pmJobs 5 0 (x.identityBlock v)).wroteOk q Obj.packIdentity 0 0
        role counter ((s.tick t).bytesOf Obj.packIdentity 0 0) (natBytes Obj.packIdentity v)))
    ∧ (s.rcd.pmPresent = true → identityValid (s.pmRead 0 256) = true → s.md.mode ≠ .maintenance →
      exec (.packIdentityWrite t q v) s = .next (x.pxFinish q Obj.packIdentity 0 0 0x02 role counter pxState
        ((s.tick t).bytesOf Obj.packIdentity 0 0) ((s.tick t).bytesOf Obj.packIdentity 0 0))))
  ∧ (∀ (t addr : Nat) (j : PmJob) (s : State), addr < 262144 → s.jobAt addr = some j →
    (∃ s', exec (.packMemoryTransferDone t addr true) s = .next s' ∧ s'.pm = Memory.writeAll s.pm j.addr j.data
      ∧ (j.rank ≠ 1 → s'.rcd.jobs = s.rcd.jobs.erase j))
    ∧ ∃ s', exec (.packMemoryTransferDone t addr false) s = .next s' ∧ s'.pm = s.pm
      ∧ s'.rcd.jobs = s.rcd.jobs.erase j ++ [{ j with fails := j.fails + 1, due := max s.now t + 100000000 }]
      ∧ (j.fails = 2 → 4 ≤ j.rank → addr < 0x200 → 0x87 ∉ s.flt.active → 0x87 ∈ s'.flt.pending))

/-- Chapter 18, sensors, management processor, calendar and USB stream (R659 to R662, R691, R692): each row's own effect.
The model's choices of log entries 5, 6, 77, 93 enter its clauses. -/
def Obligations.ManagementCommandsComplete : Prop :=
  (∀ (t : Nat) (r : MgmtReading) (s : State), s.mgmt.running = true →
    ∃ s', exec (.mgmtSensorRead t r) s = .next s' ∧ s'.rat Obj.humidity = r.humidity
      ∧ s'.mgmt.wetRun = (if 1 < r.grid then s.mgmt.wetRun + 1 else 0) ∧ s'.mgmt.dryRun = (if r.grid < 1 / 2 then s.mgmt.dryRun + 1 else 0)
      ∧ (1 < r.grid → 2 ≤ s.mgmt.wetRun → s'.mgmt.condense = true ∧ s'.bal.transferOn = false
        ∧ (0x93 ∉ s.flt.active → 0x93 ∈ s'.flt.pending))
      ∧ (r.grid < 1 / 2 → 9 ≤ s.mgmt.dryRun → s'.mgmt.condense = false ∧ 0x93 ∉ s'.flt.active))
  ∧ (∀ (t rail : Nat) (v : Rat) (s : State),
    (railWithin rail v (1 / 20) = false → ∃ s', exec (.supplyMonitor t rail v) s = .next s' ∧ s'.mgmt.supplyBad = true
      ∧ s'.mgmt.railsOkSince = none ∧ (0x91 ∉ s.flt.active → 0x91 ∈ s'.flt.pending))
    ∧ (railWithin rail v (1 / 20) = true → exec (.supplyMonitor t rail v) s = .next (s.tick t)))
  ∧ (∀ (t : Nat) (s : State), s.mgmt.running = true →
    ∃ s', exec (.mgmtTokenTimeout t) s = .next s' ∧ s'.mgmt.running = false ∧ s'.mgmt.sessions = [] ∧ s'.mgmt.challenges = []
      ∧ s'.mgmt.heldReset = decide (3 ≤ (s.mgmt.restarts.filter (fun x => max s.now t < x + 3600000000000)).length)
      ∧ (0x90 ∉ s.flt.active → 0x90 ∈ s'.flt.pending))
  ∧ (∀ (t : Nat) (s : State), s.mgmt.running = false → s.mgmt.heldReset = false →
    ∃ s', exec (.mgmtRestartDone t) s = .next s' ∧ s'.mgmt.running = true ∧ 0x90 ∉ s'.flt.active)
  ∧ (∀ (t role counter : Nat) (q : PxReq) (d : Bytes) (x : State) (s : State), x = (s.tick t).taken q counter →
      (s.tick t).admitsWrite q Obj.calendarSet 0 0 d role counter →
    (fieldAt 4 8 d ≤ x.ringTime → x.ringTime ≤ fieldAt 4 8 d + 10000000000 →
      exec (.calendarSet t q d) s = .next (({ x with mgmt := { x.mgmt with
          calendar := some (fieldAt 0 4 d, x.now - (x.ringTime - fieldAt 4 8 d)) } }.lower 0x99).wroteOk q Obj.calendarSet 0 0 role counter
            ((s.tick t).bytesOf Obj.calendarSet 0 0) d))
    ∧ (x.ringTime < fieldAt 4 8 d → exec (.calendarSet t q d) s = .next (x.pxFinish q Obj.calendarSet 0 0 0x02 role counter pxRange
        ((s.tick t).bytesOf Obj.calendarSet 0 0) ((s.tick t).bytesOf Obj.calendarSet 0 0))))
  ∧ (∀ (t bad : Nat) (stream wait : Bytes) (fs : List Bytes) (x : State) (s : State), s.md.mode.runs = true →
      usbScan ((s.mgmt.usbBuf ++ stream).length + 1) (s.mgmt.usbBuf ++ stream) = (fs, bad, wait) →
      x = { s.tick t with mgmt := { s.mgmt with usbBuf := wait } } →
    exec (.usbFrame t stream) s = .next (fs.foldl (fun (st : State) f => st.usbPx f)
      ((x.bumpBy Obj.usbFramesBad bad).bumpBy Obj.pxErrors bad)))

/-- Chapter 18, sessions and keys (R664 to R672): each row's own effect.
The model's choices of log entries 5, 6, 11, 12, 93 enter its clauses. -/
def Obligations.SessionCommandsComplete : Prop :=
  (∀ (t role counter : Nat) (q : PxReq) (x : State) (s : State), x = ((s.tick t).taken q counter).dropChallenge q → s.pxHears q = true →
      (s.tick t).pxDuplicate q 0x01 Obj.sessionChallenge.index Obj.sessionChallenge.sub Obj.sessionChallenge.ty.code [] = none →
      (s.tick t).pxAuthorise q 0x01 Obj.sessionChallenge.index Obj.sessionChallenge.sub Obj.sessionChallenge.ty.code []
        = some (role, counter) →
    exec (.sessionChallenge t q) s = .next ({ x with
        trngCount := s.trngCount + 1
        mgmt := { x.mgmt with challenges := (q.path.kind, q.origin, Config.trng s.trngCount % 2 ^ 64, max s.now t) :: x.mgmt.challenges } }.pxAnswer
      q 0x01 0 Obj.sessionChallenge.index Obj.sessionChallenge.sub Obj.sessionChallenge.ty.code counter
      (leBytes 8 (Config.trng s.trngCount % 2 ^ 64))))
  ∧ (∀ (t c counter rank role handle : Nat) (q : PxReq) (d key : Bytes) (x : State) (s : State), x = (s.tick t).taken q counter →
      (s.tick t).admitsWrite q Obj.sessionOpen 0 0 d rank counter → q.session = 0 → role = fieldAt 0 1 d → handle = fieldAt 2 2 d →
      fieldAt 1 1 d = 0 → fieldAt 20 4 d = 0 → (s.tick t).lockedOut q = false → s.mgmt.keysOk = true → (role = 4 → q.path = .usb) →
      (s.tick t).challenge q = some c → s.roleKey role = some key →
    (s.loginToken key c role handle = sliceBytes 4 16 d → handle ≠ 0 → (∀ z ∈ s.mgmt.sessions, z.handle ≠ handle) →
      s.mgmt.sessions.length < 8 →
      ∃ y : State, exec (.sessionOpen t q d) s = .next (y.wroteOk q Obj.sessionOpen 0 0 rank counter ((s.tick t).bytesOf Obj.sessionOpen 0 0) d)
        ∧ y.challenge q = none ∧ y.mgmt.sessions = s.mgmt.sessions ++ [{
            handle := handle, role := role, path := q.path, origin := q.origin, counter := 0, opened := max s.now t, last := max s.now t,
            key := hmac256 key (asciiBytes "VXK-SESSION" ++ leBytes 8 c ++ leBytes 2 handle) }])
    ∧ (s.loginToken key c role handle ≠ sliceBytes 4 16 d →
      exec (.sessionOpen t q d) s = .next (((x.dropChallenge q).authFailure q).pxFinish q Obj.sessionOpen 0 0 0x02 rank counter pxNotAuth
        ((s.tick t).bytesOf Obj.sessionOpen 0 0) ((s.tick t).bytesOf Obj.sessionOpen 0 0))))
  ∧ (∀ (t v role counter : Nat) (q : PxReq) (own z : SessionSt) (s : State),
      (s.tick t).admitsWrite q Obj.sessionClose 0 0 (natBytes Obj.sessionClose v) role counter → s.session q = some own →
      s.mgmt.sessions.find? (fun x => x.handle == v) = some z → (v = q.session ∨ z.role ≤ own.role) →
    ∃ s', exec (.sessionClose t q v) s = .next s' ∧ ∀ x ∈ s'.mgmt.sessions, x.handle ≠ v)
  ∧ (∀ (t handle : Nat) (s : State),
    exec (.sessionTimeout t handle) s = .next { s.tick t with mgmt := { s.mgmt with
      sessions := s.mgmt.sessions.filter (fun x => !(x.handle == handle && (s.tick t).sessionOver x)) } })
  ∧ (∀ (t : Nat) (s : State),
    ∃ s', exec (.authLockoutExpiry t) s = .next s' ∧ s'.mgmt.lockouts = s.mgmt.lockouts.filter (fun l => max s.now t < l.2.2)
      ∧ (s'.mgmt.lockouts = [] → 0x94 ∉ s'.flt.active))
  ∧ (∀ (t role rank counter : Nat) (q : PxReq) (d key : Bytes) (z : SessionSt) (s : State),
      (s.tick t).admits q Obj.roleKeyWrap 0 0 0x07 Obj.roleKeyWrap.ty.code (leBytes 4 (crc32 d)) rank counter → s.session q = some z →
      role = fieldAt 0 1 d → 1 ≤ role → role ≤ 4 → fieldAt 1 3 d = 0 →
      gcmOpen (hmac256 z.key (asciiBytes "VXK-WRAP")) (sliceBytes 4 12 d) (d.take 4) (sliceBytes 16 32 d) (sliceBytes 48 16 d) = some key →
      key ≠ zeroBytes 32 →
    ∃ y : State, exec (.roleKeyWrap t q d) s = .next (y.pxFinish q Obj.roleKeyWrap 0 0 0x07 rank counter 0
        ((s.tick t).bytesOf Obj.roleKeyWrap 0 0) d)
      ∧ y.mgmt.roleKeys = KMap.set s.mgmt.roleKeys role key)
  ∧ (∀ (t v role counter : Nat) (q : PxReq) (x : State) (s : State), x = (s.tick t).taken q counter →
      (s.tick t).admitsWrite q Obj.signingKeyRevoke 0 0 (leBytes 1 v) role counter →
    ((setInsert s.mgmt.revoked v).length ≠ 4 → exec (.signingKeyRevoke t q v) s
      = .next ({ x with mgmt := { x.mgmt with revoked := setInsert s.mgmt.revoked v } }.wroteOk q Obj.signingKeyRevoke 0 0 role counter
        (leBytes 1 (keyMask s.mgmt.revoked)) (leBytes 1 v)))
    ∧ ((setInsert s.mgmt.revoked v).length = 4 → exec (.signingKeyRevoke t q v) s = .next (x.pxFinish q Obj.signingKeyRevoke 0 0 0x02 role
        counter pxRange (leBytes 1 (keyMask s.mgmt.revoked)) (leBytes 1 (keyMask s.mgmt.revoked)))))

/-- Chapter 18, firmware update (R673 to R683): each row's own effect.
The model's choices of log entries 5, 6, 11, 12, 42, 92 enter its clauses. -/
def Obligations.UpdateCommandsComplete : Prop :=
  (∀ (t role counter : Nat) (q : PxReq) (d : Bytes) (s : State),
      (s.tick t).admits q Obj.updateManifest 0 0 0x07 Obj.updateManifest.ty.code (leBytes 4 (crc32 d)) role counter →
      (s.nat Obj.updateState = 0 ∨ s.nat Obj.updateState = 7 ∨ s.nat Obj.updateState = 8) →
    (s.manifestCode d = 0 →
      ∃ y : State, exec (.updateManifest t q d) s = .next (y.pxFinish q Obj.updateManifest 0 0 0x07 role counter 0
          ((s.tick t).bytesOf Obj.updateManifest 0 0) d)
        ∧ y.nat Obj.updateState = 1 ∧ y.mgmt.update = { manifest := d } ∧ y.idleSlot = {})
    ∧ (s.manifestCode d ≠ 0 →
      ∃ y : State, exec (.updateManifest t q d) s = .next (y.pxFinish q Obj.updateManifest 0 0 0x07 role counter pxRange
          ((s.tick t).bytesOf Obj.updateManifest 0 0) ((s.tick t).bytesOf Obj.updateManifest 0 0))
        ∧ y.nat Obj.updateState = 8 ∧ y.nat Obj.updateReject = s.manifestCode d ∧ (0x96 ∉ s.flt.active → 0x96 ∈ y.flt.pending)))
  ∧ (∀ (t : Nat) (s : State), (s.nat Obj.updateState = 1 ∨ s.nat Obj.updateState = 2) → s.mgmt.update.erased < 128 →
    ∃ s', exec (.sectorEraseDone t) s = .next s' ∧ s'.mgmt.update.erased = s.mgmt.update.erased + 1 ∧ s'.nat Obj.updateState = 2)
  ∧ (∀ (t i role counter : Nat) (q : PxReq) (d m : Bytes) (u : UpdateSt) (s : State), u = s.mgmt.update → m = u.manifest →
      (s.tick t).admits q Obj.updateImage 0 0 0x07 Obj.updateImage.ty.code (leBytes 4 (crc32 d)) role counter →
      (s.nat Obj.updateState = 1 ∨ s.nat Obj.updateState = 2) → i < manBlocks m → d.length = 4096 → blockPos m i / 16 < u.erased →
      i ∉ u.received → u.buffered.length < 4 →
    (∀ p, gcmOpen (Config.imageKey (fieldAt 4 1 m)) (blockNonce (manImageId m) i) [] (d.take 4080) (d.drop 4080) = some p →
      ∃ y : State, exec (.updateBlock t q i d) s = .next (y.pxFinish q Obj.updateImage 0 0 0x07 role counter 0
          ((s.tick t).bytesOf Obj.updateImage 0 0) d)
        ∧ y.mgmt.update.received = u.received ++ [i] ∧ y.mgmt.update.buffered = u.buffered ++ [(i, d)]
        ∧ y.nat Obj.updateBlocksReceived = u.received.length + 1)
    ∧ (gcmOpen (Config.imageKey (fieldAt 4 1 m)) (blockNonce (manImageId m) i) [] (d.take 4080) (d.drop 4080) = none →
      ∃ y : State, exec (.updateBlock t q i d) s = .next (y.pxFinish q Obj.updateImage 0 0 0x07 role counter pxRange
          ((s.tick t).bytesOf Obj.updateImage 0 0) ((s.tick t).bytesOf Obj.updateImage 0 0))
        ∧ (u.tagFails < 15 → y.mgmt.update.tagFails = u.tagFails + 1 ∧ y.mgmt.update.received = u.received)
        ∧ (15 ≤ u.tagFails → y.nat Obj.updateState = 8 ∧ y.nat Obj.updateReject = 8)))
  ∧ (∀ (t : Nat) (e : Nat × Bytes) (rest : List (Nat × Bytes)) (s : State), s.mgmt.update.buffered = e :: rest →
    ∃ s', exec (.blockProgramDone t) s = .next s' ∧ s'.mgmt.update.buffered = rest
      ∧ s'.idleSlot.blocks = KMap.set s.idleSlot.blocks (blockPos s.mgmt.update.manifest e.1) e.2)
  ∧ (∀ (t : Nat) (m : Bytes) (s : State), m = s.mgmt.update.manifest → s.mgmt.update.received.length = manBlocks m →
      s.mgmt.update.buffered = [] → s.nat Obj.updateState = 2 → manKind m = 1 →
    ∃ s', exec (.updateVerifyDone t) s = .next s' ∧
      if sha256 ((plainOf s.idleSlot.blocks (fieldAt 4 1 m) (manImageId m) 0 (manBlocks m)).take (manTargetLen m)) = sliceBytes 48 32 m then
        s'.nat Obj.updateState = 4 ∧ s'.idleSlot = slotOf m s.idleSlot.blocks
      else s'.nat Obj.updateState = 8 ∧ s'.nat Obj.updateReject = 9 ∧ s'.idleSlot = { state := 4 }
        ∧ (0x96 ∉ s.flt.active → 0x96 ∈ s'.flt.pending))
  ∧ (∀ (t v role counter : Nat) (q : PxReq) (x : State) (s : State), x = (s.tick t).taken q counter →
      (s.tick t).admitsWrite q Obj.updateAbort 0 0 (natBytes Obj.updateAbort v) role counter →
    (1 ≤ s.nat Obj.updateState → s.nat Obj.updateState ≤ 4 → exec (.updateAbort t q v) s
        = .next (x.discardUpdate.wroteOk q Obj.updateAbort 0 0 role counter ((s.tick t).bytesOf Obj.updateAbort 0 0) (natBytes Obj.updateAbort v))
      ∧ x.discardUpdate.nat Obj.updateState = 0 ∧ x.discardUpdate.idleSlot = {})
    ∧ (4 < s.nat Obj.updateState → exec (.updateAbort t q v) s = .next (x.pxFinish q Obj.updateAbort 0 0 0x02 role counter pxState
        ((s.tick t).bytesOf Obj.updateAbort 0 0) ((s.tick t).bytesOf Obj.updateAbort 0 0))))
  ∧ (∀ (t v role counter : Nat) (q : PxReq) (s : State),
      (s.tick t).admitsWrite q Obj.updateActivate 0 0 (natBytes Obj.updateActivate v) role counter → s.nat Obj.updateState = 4 →
      s.md.mode = .maintenance →
    ∃ s', exec (.updateActivate t q v) s = .next s' ∧ s'.mgmt.activeB = !s.mgmt.activeB ∧ s'.activeSlot = { s.idleSlot with state := 3, attempts := 0 }
      ∧ s'.idleSlot.state = 1 ∧ s'.md.mode = .startup ∧ s'.md.laneReset = true ∧ s'.mgmt.sessions = [])
  ∧ (∀ (t since : Nat) (s : State), s.mgmt.trialSince = some since → since + s.nat Obj.updateTrialTime * 1000000000 ≤ max s.now t →
      (s.md.mode = .standby ∨ s.md.mode = .online ∨ s.md.mode = .maintenance) →
    ∃ s', exec (.trialConfirm t) s = .next s' ∧ s'.mgmt.trialSince = none ∧ s'.activeSlot.state = 2 ∧ s'.nat Obj.updateState = 7
      ∧ s'.nat Obj.securityFloor = max (s.nat Obj.securityFloor) s.activeSlot.secVer)

/-- Chapter 18, field recalibration (R688 to R690, R209, R210): each row's own effect.
The model's choices of log entries 5, 6, 8, 94 enter its clauses. -/
def Obligations.RecalibrationCommandsComplete : Prop :=
  (∀ (t v role counter n : Nat) (q : PxReq) (l : List Nat) (s : State),
      (s.tick t).admitsWrite q Obj.calStart 0 0 (natBytes Obj.calStart v) role counter → s.nat Obj.calState ≠ 1 → s.nat Obj.calState ≠ 2 →
      ((s.tick t).turnLock = true ∨ (s.tick t).freeWin = true) → (s.md.mode = .standby ∨ s.md.mode = .online ∨ s.md.mode = .maintenance) →
      s.calCells = n :: l →
    ∃ y : State, exec (.calStart t q v) s = .next (y.wroteOk q Obj.calStart 0 0 role counter ((s.tick t).bytesOf Obj.calStart 0 0)
        (natBytes Obj.calStart v))
      ∧ y.nat Obj.calState = 1 ∧ y.nat Obj.calChannel = n ∧ y.mgmt.calPass = 0 ∧ y.mgmt.calSums = [])
  ∧ (∀ (t v role counter : Nat) (q : PxReq) (x : State) (s : State), x = (s.tick t).taken q counter →
      (s.tick t).admitsWrite q Obj.calAbort 0 0 (natBytes Obj.calAbort v) role counter →
    exec (.calAbort t q v) s
        = .next (x.stopCal.wroteOk q Obj.calAbort 0 0 role counter ((s.tick t).bytesOf Obj.calAbort 0 0) (natBytes Obj.calAbort v))
      ∧ ((s.nat Obj.calState = 1 ∨ s.nat Obj.calState = 2) → x.stopCal.nat Obj.calState = 5 ∧ x.stopCal.nat Obj.calChannel = 0))
  ∧ (∀ (t cell : Nat) (zero ref : Rat) (old : Rat × Rat × Nat) (s : State), s.nat Obj.calState = 1 → s.nat Obj.calChannel = cell →
      s.mgmt.calWait = false → old = KMap.get s.mgmt.calSums cell (0, 0, 0) →
    ∃ s', exec (.calVisitEnd t cell zero ref) s = .next s'
      ∧ KMap.get s'.mgmt.calSums cell (0, 0, 0) = (old.1 + zero, old.2.1 + ref, old.2.2 + 1)
      ∧ (∀ n, s.calCells.find? (fun k => cell < k) = some n → s'.nat Obj.calState = 1 ∧ s'.nat Obj.calChannel = n
        ∧ s'.mgmt.calPass = s.mgmt.calPass)
      ∧ (s.calCells.find? (fun k => cell < k) = none → s'.mgmt.calPass = s.mgmt.calPass + 1
        ∧ (s.nat Obj.calPasses ≤ s.mgmt.calPass + 1 → s'.nat Obj.calState = 2 ∧ s'.nat Obj.calChannel = 0)
        ∧ ∀ n l, s.mgmt.calPass + 1 < s.nat Obj.calPasses → s.calCells = n :: l → s'.nat Obj.calState = 1 ∧ s'.nat Obj.calChannel = n))
  ∧ (∀ (t : Nat) (checks : List CalCheck) (s : State), s.nat Obj.calState = 2 →
    ∃ s', exec (.calVerifyDone t checks) s = .next s' ∧
      (if s.cells.all (fun n => (s.mgmt.calNew.filter (fun e => s.calAccept checks e.1 e.2)).any (fun e => e.1 == n)) = true then
        s'.nat Obj.calState = 3 ∧ s'.mgmt.calAt = some (max s.now t)
      else s'.nat Obj.calState = 4 ∧ (0x98 ∉ s.flt.active → 0x98 ∈ s'.flt.pending))
      ∧ ∀ n g o, 1 ≤ n → n ≤ 24 → s.mgmt.calNew = [(n, (g, o))] →
        if s.calAccept checks n (g, o) then s'.rat Obj.channelGain 0 (n - 1) = g ∧ s'.rat Obj.channelOffset 0 (n - 1) = o
        else s'.rat Obj.channelGain 0 (n - 1) = s.rat Obj.channelGain 0 (n - 1))

/-- A step takes the command at the front of the queue and runs it on the state with the queue's rest; with nothing waiting the module
idles, which is the model's choice (log entry 1). -/
def Obligations.StepRunsFront : Prop :=
  (∀ (c : Instr) (l : List Instr) (s : State), s.pending = c :: l → step s = exec c { s with pending := l })
  ∧ (∀ (c : Instr) (s : State), step { s with pending := c :: s.pending } = exec c s)
  ∧ ∀ s : State, s.pending = [] → step s = .next s

/-- Every command answers a next state, whatever the state and the operands, but for an address outside the capture memory (R637) or the
pack memory (R652), which is a fault. -/
def Obligations.EveryCommandCompletes : Prop :=
  (∀ (i : Instr) (s : State), (∀ t a d, i = .captureMemoryEcc t a d → a < 4294967296) →
    (∀ t a ok, i = .packMemoryTransferDone t a ok → a < 262144) → ∃ s', exec i s = .next s')
  ∧ (∀ (t a : Nat) (d : Bool) (s : State), 4294967296 ≤ a → exec (.captureMemoryEcc t a d) s = .fault (.captureMemoryHole a))
  ∧ (∀ (t a : Nat) (ok : Bool) (s : State), 262144 ≤ a → exec (.packMemoryTransferDone t a ok) s = .fault (.packMemoryHole a))

/-- Every step keeps the canonical form of pack memory: addresses strictly rising, no entry of the value that an unlisted address reads
(R652). What an unlisted byte reads is log entry 4. -/
def Obligations.PackMemoryCanonical : Prop :=
  ∀ (s s' : State), Memory.wf s.pm = true → step s = .next s' → Memory.wf s'.pm = true

/-- Every step keeps what the spec bounds within its bound (R522, R549, R550, R556, R568, R631, R665, R678). -/
def Obligations.BoundsKept : Prop := ∀ (s s' : State), s.bounded → step s = .next s' → s'.bounded

/-- Every step keeps balancing to STANDBY and ONLINE (R118, R292, R310, R311). -/
def Obligations.BalancingOnlyWhereAllowed : Prop :=
  ∀ (s s' : State), s.balancesWhereAllowed → step s = .next s' → s'.balancesWhereAllowed

/-- Every step leaves the reserved sources unraised (R593). -/
def Obligations.ReservedSourcesQuiet : Prop := ∀ (s s' : State), s.reservedQuiet → step s = .next s' → s'.reservedQuiet

/-- The state after reset meets every invariant stated here; its queue is empty, nothing is raised, and no session is open.
Reset values of the model's choice: log entries 2 to 4. -/
def Obligations.ResetMeetsInvariants : Prop :=
  Memory.wf State.reset.pm = true ∧ State.reset.bounded ∧ State.reset.balancesWhereAllowed ∧ State.reset.reservedQuiet
    ∧ State.reset.pending = [] ∧ State.reset.flt.pending = [] ∧ State.reset.flt.first = none ∧ State.reset.mgmt.sessions = []
    ∧ State.reset.md.terminalLatch = false

/-- What the module has put out stays put out, and latches leave by their own ways only: a PENDING bit by a write of FaultPending or at start-up (R584, R590), the first move by a write
of FirstMoveClear or at start-up (R588, R589), the terminal latch by the end of a power cycle (R141, R143, R144). -/
def Obligations.LatchesAndOutputsHold : Prop :=
  (∀ (i : Instr) (s s' : State), exec i s = .next s' → ∃ l, s'.out = s.out ++ l)
  ∧ (∀ (i : Instr) (k : Nat) (s s' : State), exec i s = .next s' → k ∈ s.flt.pending →
    k ∈ s'.flt.pending ∨ i.anyWrite = true ∨ (∃ t q j v, i = .faultPendingClear t q j v) ∨ ∃ t r, i = .startUp t r)
  ∧ (∀ (i : Instr) (f : FirstMove) (s s' : State), exec i s = .next s' → s.flt.first = some f →
    s'.flt.first = some f ∨ i.anyWrite = true ∨ (∃ t q v, i = .firstMoveClear t q v) ∨ ∃ t r, i = .startUp t r)
  ∧ (∀ (i : Instr) (s s' : State), exec i s = .next s' → s.md.terminalLatch = true →
    s'.md.terminalLatch = true ∨ (∃ t, i = .powerCycleTimerExpiry t) ∨ (∃ t, i = .stackCollapse t) ∨ (∃ t, i = .wake t)
      ∨ ∃ t, i = .aux24Present t)

/-- SAFE is left for another mode that runs by SafeExit alone, and neither SAFE nor MAINTENANCE is left for ONLINE (R118, R119, R707). -/
def Obligations.SafeIsHeld : Prop :=
  (∀ (i : Instr) (s s' : State), exec i s = .next s' → s.md.mode = .safe → s'.md.mode.runs = true →
    s'.md.mode = .safe ∨ i.anyWrite = true ∨ ∃ t q v, i = .safeExit t q v)
  ∧ (∀ (i : Instr) (s s' : State), exec i s = .next s' → (s.md.mode = .safe ∨ s.md.mode = .maintenance) → s'.md.mode ≠ .online)

/-- R590: a write of 1 to a bit of FaultPending clears that bit; a bit whose source is ACTIVE stays set. -/
def Obligations.PendingClearRule : Prop :=
  ∀ (t j v role counter : Nat) (q : PxReq) (s : State), (s.tick t).admitsWrite q Obj.faultPending 0 j (leBytes 4 v) role counter →
      s.mgmt.restartDue = false →
    ∃ s', exec (.faultPendingClear t q (j + 1) v) s = .next s' ∧ s'.flt.active = s.flt.active
      ∧ ∀ k, k ∈ s'.flt.pending ↔ k ∈ s.flt.pending ∧ (k ∈ s.flt.active ∨ k / 32 ≠ j ∨ bitsOf (k % 32) (k % 32) v ≠ 1)

/-- R41: only the head accepts a descriptor commit; a segment or standby head refuses it with the PX error "not head". -/
def Obligations.CommitOnlyOnHead : Prop :=
  ∀ (t v role counter : Nat) (q : PxReq) (s : State),
    (s.tick t).admitsWrite q Obj.descCommit 0 0 (natBytes Obj.descCommit v) role counter →
    (s.isHead = false → exec (.descCommit t q v) s
      = .next (((s.tick t).taken q counter).pxFinish q Obj.descCommit 0 0 0x02 role counter pxNotHead
        ((s.tick t).bytesOf Obj.descCommit 0 0) ((s.tick t).bytesOf Obj.descCommit 0 0)))
    ∧ (s.isHead = false → s.mgmt.restartDue = false → ∀ s', exec (.descCommit t q v) s = .next s' →
      s'.ident = s.ident ∧ s'.pm = s.pm ∧ s'.rcd = s.rcd)

/-- R142: with the terminal latch set, the loss of AUX24 switches the module off at once, without the hold-up sequence, and starts the 2 s
power-cycle timer. -/
def Obligations.LatchedSupplyLoss : Prop :=
  ∀ (t holdup : Nat) (s : State), s.md.aux24 = true → s.md.holdup = 0 → s.md.terminalLatch = true →
    ∃ s', exec (.aux24Loss t holdup) s = .next s' ∧ s'.md.mode = .off ∧ s'.md.holdup = 0 ∧ s'.md.started = false
      ∧ s'.md.powerTimerEnd = some (max s.now t + 2000000000) ∧ s'.md.terminalLatch = true ∧ s'.rcd.jobs = s.rcd.jobs ∧ s'.out = s.out

/-- R656: an entry that is not in NOR 1 s after its creation raises the change-log source, and so do three consecutive failed copies to
pack memory. -/
def Obligations.ChangeLogSource : Prop :=
  (∀ (t : Nat) (e : ChangeEntry) (s : State), e ∈ s.px.log → e.created + 1000000000 ≤ max s.now t → 0x86 ∉ s.flt.active →
    ∃ s', exec (.changeLogNorTimeout t) s = .next s' ∧ 0x86 ∈ s'.flt.pending)
  ∧ (∀ (t addr : Nat) (j : PmJob) (s : State), addr < 262144 → s.jobAt addr = some j → j.rank = 3 →
    (∃ s', exec (.packMemoryTransferDone t addr false) s = .next s' ∧ s'.rcd.copyFails = s.rcd.copyFails + 1
      ∧ (s.rcd.copyFails = 2 → 0x86 ∉ s.flt.active → 0x86 ∈ s'.flt.pending))
    ∧ ∃ s', exec (.packMemoryTransferDone t addr true) s = .next s' ∧ s'.rcd.copyFails = 0)

/-- What comes before a write's own effect (R538 to R540, R543, R546, R549, R551, R660, R667), for a write of any object. -/
def Obligations.WriteRefusals : Prop :=
  ∀ (t index sub i j : Nat) (q : PxReq) (o : ObjDef) (v : PxValue) (x : State) (s : State), x = s.tick t → s.pxHears q = true →
      s.distOk q = true → frameOk q v.data = true → s.objAt index sub = some (o, i, j) → o.has i j = true →
      isObj o Obj.updateActivate = false →
    (∀ e, x.pxDuplicate q 0x02 (o.index + i) (o.sub + j) v.ty v.data = some e →
      exec (.pxWrite t q index sub v) s = .next ((x.bump Obj.pxDuplicates).pxSend q.path q.node q.origin 2 e.frame))
    ∧ (x.pxDuplicate q 0x02 (o.index + i) (o.sub + j) v.ty v.data = none →
        s.px.rwp.any (fun r => r.key == PxReqKey q 0x02 (o.index + i) (o.sub + j)) = false →
      (x.pxAuthorise q 0x02 (o.index + i) (o.sub + j) v.ty v.data = none →
        exec (.pxWrite t q index sub v) s = .next ((x.authFailure q).pxFinish q o i j 0x02 0 0 pxNotAuth (x.liveBytes o i j) (x.liveBytes o i j)))
      ∧ ∀ role counter, x.pxAuthorise q 0x02 (o.index + i) (o.sub + j) v.ty v.data = some (role, counter) →
        (s.mgmt.running = false → exec (.pxWrite t q index sub v) s
          = .next ((x.taken q counter).pxAnswer q 0x02 pxBusy (o.index + i) (o.sub + j) o.ty.code counter []))
        ∧ (s.mgmt.running = true → s.available (o.index + i) = true → o.access.writable = false → exec (.pxWrite t q index sub v) s
          = .next ((x.taken q counter).pxFinish q o i j 0x02 role counter pxAccess (x.liveBytes o i j) (x.liveBytes o i j)))
        ∧ (s.mgmt.running = true → s.available (o.index + i) = true → o.access.writable = true → role < s.rankFor o →
          exec (.pxWrite t q index sub v) s
            = .next (((x.taken q counter).authFailure q).pxFinish q o i j 0x02 role counter pxNotAuth (x.liveBytes o i j) (x.liveBytes o i j)))
        ∧ (s.mgmt.running = true → s.available (o.index + i) = true → o.access.writable = true → s.rankFor o ≤ role →
          s.px.blocks.any (fun b => b.write && b.index == o.index + i && b.sub == o.sub + j) = false → checkValue o v.ty v.data ≠ 0 →
          exec (.pxWrite t q index sub v) s
            = .next ((x.taken q counter).pxFinish q o i j 0x02 role counter (checkValue o v.ty v.data) (x.liveBytes o i j) (x.liveBytes o i j))))

/-- R203 as the module forms and reads a tagged sample: VALUE, SEQ and the six tags are found again in the word. -/
def Obligations.TaggedWordLayout : Prop :=
  ∀ (v : Int) (seq : Nat) (legacy cal owt bal clip settle : Bool), -8388608 ≤ v → v ≤ 8388607 → seq < 4 →
    wordValue (tagWord v seq legacy cal owt bal clip settle) = v ∧ bitsOf 7 6 (tagWord v seq legacy cal owt bal clip settle) = seq
      ∧ wordBit (tagWord v seq legacy cal owt bal clip settle) 0 = settle ∧ wordBit (tagWord v seq legacy cal owt bal clip settle) 1 = clip
      ∧ wordBit (tagWord v seq legacy cal owt bal clip settle) 2 = bal ∧ wordBit (tagWord v seq legacy cal owt bal clip settle) 3 = owt
      ∧ wordBit (tagWord v seq legacy cal owt bal clip settle) 4 = cal ∧ wordBit (tagWord v seq legacy cal owt bal clip settle) 5 = legacy

/-- Chapters 1 to 6: what each command leaves as it was: the queue, every component of the state that `Instr.parts` does not list, and
every dictionary value that belongs to no object of `Instr.objects`. -/
def Obligations.FramesToChapter6 : Prop :=
  ∀ (i : Instr) (s s' : State), i.chapter ≤ 6 → exec i s = .next s' →
    s'.now = max s.now i.instant ∧ s'.pending = s.pending ∧ (∀ p, p ∉ i.parts → p.same s s')
      ∧ ∀ l, i.objects = some l → ∀ k d, Outside l k → KMap.get s'.dict k d = KMap.get s.dict k d

/-- Chapters 7 to 12: what each command leaves as it was: the queue, every component of the state that `Instr.parts` does not list, and
every dictionary value that belongs to no object of `Instr.objects`. -/
def Obligations.FramesToChapter12 : Prop :=
  ∀ (i : Instr) (s s' : State), 7 ≤ i.chapter → i.chapter ≤ 12 → exec i s = .next s' →
    s'.now = max s.now i.instant ∧ s'.pending = s.pending ∧ (∀ p, p ∉ i.parts → p.same s s')
      ∧ ∀ l, i.objects = some l → ∀ k d, Outside l k → KMap.get s'.dict k d = KMap.get s.dict k d

/-- Chapters 13 to 18: what each command leaves as it was: the queue, every component of the state that `Instr.parts` does not list, and
every dictionary value that belongs to no object of `Instr.objects`. -/
def Obligations.FramesToChapter18 : Prop :=
  ∀ (i : Instr) (s s' : State), 13 ≤ i.chapter → exec i s = .next s' →
    s'.now = max s.now i.instant ∧ s'.pending = s.pending ∧ (∀ p, p ∉ i.parts → p.same s s')
      ∧ ∀ l, i.objects = some l → ∀ k d, Outside l k → KMap.get s'.dict k d = KMap.get s.dict k d
end

