-- ==== Sys2Proof/Laws/State.lean ====
section
/-! SUPPORT. One lemma per field of the state and operation over it, true by unfolding: what each named operation of Machine/Ops.lean writes
and what it leaves; the same for a choice and for a list of operations; the laws of tables, of the dictionary and of pack memory. -/
set_option maxRecDepth 4000
namespace Sys2Proof.Machine

@[simp] theorem State.now_ite (c : Prop) [Decidable c] (a b : State) : (if c then a else b).now = if c then a.now else b.now := by split <;> rfl
@[simp] theorem State.ringOffset_ite (c : Prop) [Decidable c] (a b : State) : (if c then a else b).ringOffset = if c then a.ringOffset else b.ringOffset := by split <;> rfl
@[simp] theorem State.pending_ite (c : Prop) [Decidable c] (a b : State) : (if c then a else b).pending = if c then a.pending else b.pending := by split <;> rfl
@[simp] theorem State.dict_ite (c : Prop) [Decidable c] (a b : State) : (if c then a else b).dict = if c then a.dict else b.dict := by split <;> rfl
@[simp] theorem State.pm_ite (c : Prop) [Decidable c] (a b : State) : (if c then a else b).pm = if c then a.pm else b.pm := by split <;> rfl
@[simp] theorem State.out_ite (c : Prop) [Decidable c] (a b : State) : (if c then a else b).out = if c then a.out else b.out := by split <;> rfl
@[simp] theorem State.trngCount_ite (c : Prop) [Decidable c] (a b : State) : (if c then a else b).trngCount = if c then a.trngCount else b.trngCount := by split <;> rfl
@[simp] theorem State.ident_ite (c : Prop) [Decidable c] (a b : State) : (if c then a else b).ident = if c then a.ident else b.ident := by split <;> rfl
@[simp] theorem State.supply_ite (c : Prop) [Decidable c] (a b : State) : (if c then a else b).supply = if c then a.supply else b.supply := by split <;> rfl
@[simp] theorem State.md_ite (c : Prop) [Decidable c] (a b : State) : (if c then a else b).md = if c then a.md else b.md := by split <;> rfl
@[simp] theorem State.tm_ite (c : Prop) [Decidable c] (a b : State) : (if c then a else b).tm = if c then a.tm else b.tm := by split <;> rfl
@[simp] theorem State.meas_ite (c : Prop) [Decidable c] (a b : State) : (if c then a else b).meas = if c then a.meas else b.meas := by split <;> rfl
@[simp] theorem State.aux_ite (c : Prop) [Decidable c] (a b : State) : (if c then a else b).aux = if c then a.aux else b.aux := by split <;> rfl
@[simp] theorem State.itg_ite (c : Prop) [Decidable c] (a b : State) : (if c then a else b).itg = if c then a.itg else b.itg := by split <;> rfl
@[simp] theorem State.bal_ite (c : Prop) [Decidable c] (a b : State) : (if c then a else b).bal = if c then a.bal else b.bal := by split <;> rfl
@[simp] theorem State.hio_ite (c : Prop) [Decidable c] (a b : State) : (if c then a else b).hio = if c then a.hio else b.hio := by split <;> rfl
@[simp] theorem State.est_ite (c : Prop) [Decidable c] (a b : State) : (if c then a else b).est = if c then a.est else b.est := by split <;> rfl
@[simp] theorem State.lp_ite (c : Prop) [Decidable c] (a b : State) : (if c then a else b).lp = if c then a.lp else b.lp := by split <;> rfl
@[simp] theorem State.ring_ite (c : Prop) [Decidable c] (a b : State) : (if c then a else b).ring = if c then a.ring else b.ring := by split <;> rfl
@[simp] theorem State.can_ite (c : Prop) [Decidable c] (a b : State) : (if c then a else b).can = if c then a.can else b.can := by split <;> rfl
@[simp] theorem State.px_ite (c : Prop) [Decidable c] (a b : State) : (if c then a else b).px = if c then a.px else b.px := by split <;> rfl
@[simp] theorem State.flt_ite (c : Prop) [Decidable c] (a b : State) : (if c then a else b).flt = if c then a.flt else b.flt := by split <;> rfl
@[simp] theorem State.sent_ite (c : Prop) [Decidable c] (a b : State) : (if c then a else b).sent = if c then a.sent else b.sent := by split <;> rfl
@[simp] theorem State.rcd_ite (c : Prop) [Decidable c] (a b : State) : (if c then a else b).rcd = if c then a.rcd else b.rcd := by split <;> rfl
@[simp] theorem State.mgmt_ite (c : Prop) [Decidable c] (a b : State) : (if c then a else b).mgmt = if c then a.mgmt else b.mgmt := by split <;> rfl

@[simp] theorem State.now_foldl {α : Type} (g : State → α → State) (h : ∀ s x, (g s x).now = s.now) (l : List α) (s : State) :
    (l.foldl g s).now = s.now := by
  induction l generalizing s with
  | nil => rfl
  | cons a r ih => simp [ih, h]
@[simp] theorem State.ringOffset_foldl {α : Type} (g : State → α → State) (h : ∀ s x, (g s x).ringOffset = s.ringOffset) (l : List α) (s : State) :
    (l.foldl g s).ringOffset = s.ringOffset := by
  induction l generalizing s with
  | nil => rfl
  | cons a r ih => simp [ih, h]
@[simp] theorem State.pending_foldl {α : Type} (g : State → α → State) (h : ∀ s x, (g s x).pending = s.pending) (l : List α) (s : State) :
    (l.foldl g s).pending = s.pending := by
  induction l generalizing s with
  | nil => rfl
  | cons a r ih => simp [ih, h]
@[simp] theorem State.dict_foldl {α : Type} (g : State → α → State) (h : ∀ s x, (g s x).dict = s.dict) (l : List α) (s : State) :
    (l.foldl g s).dict = s.dict := by
  induction l generalizing s with
  | nil => rfl
  | cons a r ih => simp [ih, h]
@[simp] theorem State.pm_foldl {α : Type} (g : State → α → State) (h : ∀ s x, (g s x).pm = s.pm) (l : List α) (s : State) :
    (l.foldl g s).pm = s.pm := by
  induction l generalizing s with
  | nil => rfl
  | cons a r ih => simp [ih, h]
@[simp] theorem State.out_foldl {α : Type} (g : State → α → State) (h : ∀ s x, (g s x).out = s.out) (l : List α) (s : State) :
    (l.foldl g s).out = s.out := by
  induction l generalizing s with
  | nil => rfl
  | cons a r ih => simp [ih, h]
@[simp] theorem State.trngCount_foldl {α : Type} (g : State → α → State) (h : ∀ s x, (g s x).trngCount = s.trngCount) (l : List α) (s : State) :
    (l.foldl g s).trngCount = s.trngCount := by
  induction l generalizing s with
  | nil => rfl
  | cons a r ih => simp [ih, h]
@[simp] theorem State.ident_foldl {α : Type} (g : State → α → State) (h : ∀ s x, (g s x).ident = s.ident) (l : List α) (s : State) :
    (l.foldl g s).ident = s.ident := by
  induction l generalizing s with
  | nil => rfl
  | cons a r ih => simp [ih, h]
@[simp] theorem State.supply_foldl {α : Type} (g : State → α → State) (h : ∀ s x, (g s x).supply = s.supply) (l : List α) (s : State) :
    (l.foldl g s).supply = s.supply := by
  induction l generalizing s with
  | nil => rfl
  | cons a r ih => simp [ih, h]
@[simp] theorem State.md_foldl {α : Type} (g : State → α → State) (h : ∀ s x, (g s x).md = s.md) (l : List α) (s : State) :
    (l.foldl g s).md = s.md := by
  induction l generalizing s with
  | nil => rfl
  | cons a r ih => simp [ih, h]
@[simp] theorem State.tm_foldl {α : Type} (g : State → α → State) (h : ∀ s x, (g s x).tm = s.tm) (l : List α) (s : State) :
    (l.foldl g s).tm = s.tm := by
  induction l generalizing s with
  | nil => rfl
  | cons a r ih => simp [ih, h]
@[simp] theorem State.meas_foldl {α : Type} (g : State → α → State) (h : ∀ s x, (g s x).meas = s.meas) (l : List α) (s : State) :
    (l.foldl g s).meas = s.meas := by
  induction l generalizing s with
  | nil => rfl
  | cons a r ih => simp [ih, h]
@[simp] theorem State.aux_foldl {α : Type} (g : State → α → State) (h : ∀ s x, (g s x).aux = s.aux) (l : List α) (s : State) :
    (l.foldl g s).aux = s.aux := by
  induction l generalizing s with
  | nil => rfl
  | cons a r ih => simp [ih, h]
@[simp] theorem State.itg_foldl {α : Type} (g : State → α → State) (h : ∀ s x, (g s x).itg = s.itg) (l : List α) (s : State) :
    (l.foldl g s).itg = s.itg := by
  induction l generalizing s with
  | nil => rfl
  | cons a r ih => simp [ih, h]
@[simp] theorem State.bal_foldl {α : Type} (g : State → α → State) (h : ∀ s x, (g s x).bal = s.bal) (l : List α) (s : State) :
    (l.foldl g s).bal = s.bal := by
  induction l generalizing s with
  | nil => rfl
  | cons a r ih => simp [ih, h]
@[simp] theorem State.hio_foldl {α : Type} (g : State → α → State) (h : ∀ s x, (g s x).hio = s.hio) (l : List α) (s : State) :
    (l.foldl g s).hio = s.hio := by
  induction l generalizing s with
  | nil => rfl
  | cons a r ih => simp [ih, h]
@[simp] theorem State.est_foldl {α : Type} (g : State → α → State) (h : ∀ s x, (g s x).est = s.est) (l : List α) (s : State) :
    (l.foldl g s).est = s.est := by
  induction l generalizing s with
  | nil => rfl
  | cons a r ih => simp [ih, h]
@[simp] theorem State.lp_foldl {α : Type} (g : State → α → State) (h : ∀ s x, (g s x).lp = s.lp) (l : List α) (s : State) :
    (l.foldl g s).lp = s.lp := by
  induction l generalizing s with
  | nil => rfl
  | cons a r ih => simp [ih, h]
@[simp] theorem State.ring_foldl {α : Type} (g : State → α → State) (h : ∀ s x, (g s x).ring = s.ring) (l : List α) (s : State) :
    (l.foldl g s).ring = s.ring := by
  induction l generalizing s with
  | nil => rfl
  | cons a r ih => simp [ih, h]
@[simp] theorem State.can_foldl {α : Type} (g : State → α → State) (h : ∀ s x, (g s x).can = s.can) (l : List α) (s : State) :
    (l.foldl g s).can = s.can := by
  induction l generalizing s with
  | nil => rfl
  | cons a r ih => simp [ih, h]
@[simp] theorem State.px_foldl {α : Type} (g : State → α → State) (h : ∀ s x, (g s x).px = s.px) (l : List α) (s : State) :
    (l.foldl g s).px = s.px := by
  induction l generalizing s with
  | nil => rfl
  | cons a r ih => simp [ih, h]
@[simp] theorem State.flt_foldl {α : Type} (g : State → α → State) (h : ∀ s x, (g s x).flt = s.flt) (l : List α) (s : State) :
    (l.foldl g s).flt = s.flt := by
  induction l generalizing s with
  | nil => rfl
  | cons a r ih => simp [ih, h]
@[simp] theorem State.sent_foldl {α : Type} (g : State → α → State) (h : ∀ s x, (g s x).sent = s.sent) (l : List α) (s : State) :
    (l.foldl g s).sent = s.sent := by
  induction l generalizing s with
  | nil => rfl
  | cons a r ih => simp [ih, h]
@[simp] theorem State.rcd_foldl {α : Type} (g : State → α → State) (h : ∀ s x, (g s x).rcd = s.rcd) (l : List α) (s : State) :
    (l.foldl g s).rcd = s.rcd := by
  induction l generalizing s with
  | nil => rfl
  | cons a r ih => simp [ih, h]
@[simp] theorem State.mgmt_foldl {α : Type} (g : State → α → State) (h : ∀ s x, (g s x).mgmt = s.mgmt) (l : List α) (s : State) :
    (l.foldl g s).mgmt = s.mgmt := by
  induction l generalizing s with
  | nil => rfl
  | cons a r ih => simp [ih, h]

@[simp] theorem State.tick_frame (s : State) (t : Nat) :
    (State.tick s t).ringOffset = s.ringOffset ∧ (State.tick s t).pending = s.pending ∧ (State.tick s t).dict = s.dict ∧
      (State.tick s t).pm = s.pm ∧ (State.tick s t).out = s.out ∧ (State.tick s t).trngCount = s.trngCount ∧
      (State.tick s t).ident = s.ident ∧ (State.tick s t).supply = s.supply ∧ (State.tick s t).md = s.md ∧ (State.tick s t).tm = s.tm ∧
      (State.tick s t).meas = s.meas ∧ (State.tick s t).aux = s.aux ∧ (State.tick s t).itg = s.itg ∧ (State.tick s t).bal = s.bal ∧
      (State.tick s t).hio = s.hio ∧ (State.tick s t).est = s.est ∧ (State.tick s t).lp = s.lp ∧ (State.tick s t).ring = s.ring ∧
      (State.tick s t).can = s.can ∧ (State.tick s t).px = s.px ∧ (State.tick s t).flt = s.flt ∧ (State.tick s t).sent = s.sent ∧
      (State.tick s t).rcd = s.rcd ∧ (State.tick s t).mgmt = s.mgmt := by simp [State.tick]
@[simp] theorem State.steerTo_frame (s : State) (off : Int) :
    (State.steerTo s off).now = s.now ∧ (State.steerTo s off).pending = s.pending ∧ (State.steerTo s off).dict = s.dict ∧
      (State.steerTo s off).pm = s.pm ∧ (State.steerTo s off).out = s.out ∧ (State.steerTo s off).trngCount = s.trngCount ∧
      (State.steerTo s off).ident = s.ident ∧ (State.steerTo s off).supply = s.supply ∧ (State.steerTo s off).md = s.md ∧
      (State.steerTo s off).meas = s.meas ∧ (State.steerTo s off).aux = s.aux ∧ (State.steerTo s off).itg = s.itg ∧
      (State.steerTo s off).bal = s.bal ∧ (State.steerTo s off).hio = s.hio ∧ (State.steerTo s off).est = s.est ∧
      (State.steerTo s off).lp = s.lp ∧ (State.steerTo s off).ring = s.ring ∧ (State.steerTo s off).can = s.can ∧
      (State.steerTo s off).px = s.px ∧ (State.steerTo s off).flt = s.flt ∧ (State.steerTo s off).sent = s.sent ∧
      (State.steerTo s off).rcd = s.rcd ∧ (State.steerTo s off).mgmt = s.mgmt := by simp [State.steerTo]
@[simp] theorem State.setVal_frame (s : State) (o : ObjDef) (v : Val) (i j : Nat) :
    (State.setVal s o v i j).now = s.now ∧ (State.setVal s o v i j).ringOffset = s.ringOffset ∧
      (State.setVal s o v i j).pending = s.pending ∧ (State.setVal s o v i j).pm = s.pm ∧ (State.setVal s o v i j).out = s.out ∧
      (State.setVal s o v i j).trngCount = s.trngCount ∧ (State.setVal s o v i j).ident = s.ident ∧
      (State.setVal s o v i j).supply = s.supply ∧ (State.setVal s o v i j).md = s.md ∧ (State.setVal s o v i j).tm = s.tm ∧
      (State.setVal s o v i j).meas = s.meas ∧ (State.setVal s o v i j).aux = s.aux ∧ (State.setVal s o v i j).itg = s.itg ∧
      (State.setVal s o v i j).bal = s.bal ∧ (State.setVal s o v i j).hio = s.hio ∧ (State.setVal s o v i j).est = s.est ∧
      (State.setVal s o v i j).lp = s.lp ∧ (State.setVal s o v i j).ring = s.ring ∧ (State.setVal s o v i j).can = s.can ∧
      (State.setVal s o v i j).px = s.px ∧ (State.setVal s o v i j).flt = s.flt ∧ (State.setVal s o v i j).sent = s.sent ∧
      (State.setVal s o v i j).rcd = s.rcd ∧ (State.setVal s o v i j).mgmt = s.mgmt := by simp [State.setVal]
@[simp] theorem State.setNat_frame (s : State) (o : ObjDef) (n : Nat) (i j : Nat) :
    (State.setNat s o n i j).now = s.now ∧ (State.setNat s o n i j).ringOffset = s.ringOffset ∧
      (State.setNat s o n i j).pending = s.pending ∧ (State.setNat s o n i j).pm = s.pm ∧ (State.setNat s o n i j).out = s.out ∧
      (State.setNat s o n i j).trngCount = s.trngCount ∧ (State.setNat s o n i j).ident = s.ident ∧
      (State.setNat s o n i j).supply = s.supply ∧ (State.setNat s o n i j).md = s.md ∧ (State.setNat s o n i j).tm = s.tm ∧
      (State.setNat s o n i j).meas = s.meas ∧ (State.setNat s o n i j).aux = s.aux ∧ (State.setNat s o n i j).itg = s.itg ∧
      (State.setNat s o n i j).bal = s.bal ∧ (State.setNat s o n i j).hio = s.hio ∧ (State.setNat s o n i j).est = s.est ∧
      (State.setNat s o n i j).lp = s.lp ∧ (State.setNat s o n i j).ring = s.ring ∧ (State.setNat s o n i j).can = s.can ∧
      (State.setNat s o n i j).px = s.px ∧ (State.setNat s o n i j).flt = s.flt ∧ (State.setNat s o n i j).sent = s.sent ∧
      (State.setNat s o n i j).rcd = s.rcd ∧ (State.setNat s o n i j).mgmt = s.mgmt := by simp [State.setNat]
@[simp] theorem State.setInt_frame (s : State) (o : ObjDef) (n : Int) (i j : Nat) :
    (State.setInt s o n i j).now = s.now ∧ (State.setInt s o n i j).ringOffset = s.ringOffset ∧
      (State.setInt s o n i j).pending = s.pending ∧ (State.setInt s o n i j).pm = s.pm ∧ (State.setInt s o n i j).out = s.out ∧
      (State.setInt s o n i j).trngCount = s.trngCount ∧ (State.setInt s o n i j).ident = s.ident ∧
      (State.setInt s o n i j).supply = s.supply ∧ (State.setInt s o n i j).md = s.md ∧ (State.setInt s o n i j).tm = s.tm ∧
      (State.setInt s o n i j).meas = s.meas ∧ (State.setInt s o n i j).aux = s.aux ∧ (State.setInt s o n i j).itg = s.itg ∧
      (State.setInt s o n i j).bal = s.bal ∧ (State.setInt s o n i j).hio = s.hio ∧ (State.setInt s o n i j).est = s.est ∧
      (State.setInt s o n i j).lp = s.lp ∧ (State.setInt s o n i j).ring = s.ring ∧ (State.setInt s o n i j).can = s.can ∧
      (State.setInt s o n i j).px = s.px ∧ (State.setInt s o n i j).flt = s.flt ∧ (State.setInt s o n i j).sent = s.sent ∧
      (State.setInt s o n i j).rcd = s.rcd ∧ (State.setInt s o n i j).mgmt = s.mgmt := by simp [State.setInt]
@[simp] theorem State.setRat_frame (s : State) (o : ObjDef) (q : Rat) (i j : Nat) :
    (State.setRat s o q i j).now = s.now ∧ (State.setRat s o q i j).ringOffset = s.ringOffset ∧
      (State.setRat s o q i j).pending = s.pending ∧ (State.setRat s o q i j).pm = s.pm ∧ (State.setRat s o q i j).out = s.out ∧
      (State.setRat s o q i j).trngCount = s.trngCount ∧ (State.setRat s o q i j).ident = s.ident ∧
      (State.setRat s o q i j).supply = s.supply ∧ (State.setRat s o q i j).md = s.md ∧ (State.setRat s o q i j).tm = s.tm ∧
      (State.setRat s o q i j).meas = s.meas ∧ (State.setRat s o q i j).aux = s.aux ∧ (State.setRat s o q i j).itg = s.itg ∧
      (State.setRat s o q i j).bal = s.bal ∧ (State.setRat s o q i j).hio = s.hio ∧ (State.setRat s o q i j).est = s.est ∧
      (State.setRat s o q i j).lp = s.lp ∧ (State.setRat s o q i j).ring = s.ring ∧ (State.setRat s o q i j).can = s.can ∧
      (State.setRat s o q i j).px = s.px ∧ (State.setRat s o q i j).flt = s.flt ∧ (State.setRat s o q i j).sent = s.sent ∧
      (State.setRat s o q i j).rcd = s.rcd ∧ (State.setRat s o q i j).mgmt = s.mgmt := by simp [State.setRat]
@[simp] theorem State.setBytes_frame (s : State) (o : ObjDef) (b : Bytes) (i j : Nat) :
    (State.setBytes s o b i j).now = s.now ∧ (State.setBytes s o b i j).ringOffset = s.ringOffset ∧
      (State.setBytes s o b i j).pending = s.pending ∧ (State.setBytes s o b i j).pm = s.pm ∧ (State.setBytes s o b i j).out = s.out ∧
      (State.setBytes s o b i j).trngCount = s.trngCount ∧ (State.setBytes s o b i j).ident = s.ident ∧
      (State.setBytes s o b i j).supply = s.supply ∧ (State.setBytes s o b i j).md = s.md ∧ (State.setBytes s o b i j).tm = s.tm ∧
      (State.setBytes s o b i j).meas = s.meas ∧ (State.setBytes s o b i j).aux = s.aux ∧ (State.setBytes s o b i j).itg = s.itg ∧
      (State.setBytes s o b i j).bal = s.bal ∧ (State.setBytes s o b i j).hio = s.hio ∧ (State.setBytes s o b i j).est = s.est ∧
      (State.setBytes s o b i j).lp = s.lp ∧ (State.setBytes s o b i j).ring = s.ring ∧ (State.setBytes s o b i j).can = s.can ∧
      (State.setBytes s o b i j).px = s.px ∧ (State.setBytes s o b i j).flt = s.flt ∧ (State.setBytes s o b i j).sent = s.sent ∧
      (State.setBytes s o b i j).rcd = s.rcd ∧ (State.setBytes s o b i j).mgmt = s.mgmt := by simp [State.setBytes]
@[simp] theorem State.bump_frame (s : State) (o : ObjDef) (i j : Nat) :
    (State.bump s o i j).now = s.now ∧ (State.bump s o i j).ringOffset = s.ringOffset ∧ (State.bump s o i j).pending = s.pending ∧
      (State.bump s o i j).pm = s.pm ∧ (State.bump s o i j).out = s.out ∧ (State.bump s o i j).trngCount = s.trngCount ∧
      (State.bump s o i j).ident = s.ident ∧ (State.bump s o i j).supply = s.supply ∧ (State.bump s o i j).md = s.md ∧
      (State.bump s o i j).tm = s.tm ∧ (State.bump s o i j).meas = s.meas ∧ (State.bump s o i j).aux = s.aux ∧
      (State.bump s o i j).itg = s.itg ∧ (State.bump s o i j).bal = s.bal ∧ (State.bump s o i j).hio = s.hio ∧
      (State.bump s o i j).est = s.est ∧ (State.bump s o i j).lp = s.lp ∧ (State.bump s o i j).ring = s.ring ∧
      (State.bump s o i j).can = s.can ∧ (State.bump s o i j).px = s.px ∧ (State.bump s o i j).flt = s.flt ∧
      (State.bump s o i j).sent = s.sent ∧ (State.bump s o i j).rcd = s.rcd ∧ (State.bump s o i j).mgmt = s.mgmt := by simp [State.bump]
@[simp] theorem State.bumpBy_frame (s : State) (o : ObjDef) (n : Nat) (i j : Nat) :
    (State.bumpBy s o n i j).now = s.now ∧ (State.bumpBy s o n i j).ringOffset = s.ringOffset ∧
      (State.bumpBy s o n i j).pending = s.pending ∧ (State.bumpBy s o n i j).pm = s.pm ∧ (State.bumpBy s o n i j).out = s.out ∧
      (State.bumpBy s o n i j).trngCount = s.trngCount ∧ (State.bumpBy s o n i j).ident = s.ident ∧
      (State.bumpBy s o n i j).supply = s.supply ∧ (State.bumpBy s o n i j).md = s.md ∧ (State.bumpBy s o n i j).tm = s.tm ∧
      (State.bumpBy s o n i j).meas = s.meas ∧ (State.bumpBy s o n i j).aux = s.aux ∧ (State.bumpBy s o n i j).itg = s.itg ∧
      (State.bumpBy s o n i j).bal = s.bal ∧ (State.bumpBy s o n i j).hio = s.hio ∧ (State.bumpBy s o n i j).est = s.est ∧
      (State.bumpBy s o n i j).lp = s.lp ∧ (State.bumpBy s o n i j).ring = s.ring ∧ (State.bumpBy s o n i j).can = s.can ∧
      (State.bumpBy s o n i j).px = s.px ∧ (State.bumpBy s o n i j).flt = s.flt ∧ (State.bumpBy s o n i j).sent = s.sent ∧
      (State.bumpBy s o n i j).rcd = s.rcd ∧ (State.bumpBy s o n i j).mgmt = s.mgmt := by simp [State.bumpBy]
@[simp] theorem State.bumpSat_frame (s : State) (o : ObjDef) (i j : Nat) :
    (State.bumpSat s o i j).now = s.now ∧ (State.bumpSat s o i j).ringOffset = s.ringOffset ∧ (State.bumpSat s o i j).pending = s.pending ∧
      (State.bumpSat s o i j).pm = s.pm ∧ (State.bumpSat s o i j).out = s.out ∧ (State.bumpSat s o i j).trngCount = s.trngCount ∧
      (State.bumpSat s o i j).ident = s.ident ∧ (State.bumpSat s o i j).supply = s.supply ∧ (State.bumpSat s o i j).md = s.md ∧
      (State.bumpSat s o i j).tm = s.tm ∧ (State.bumpSat s o i j).meas = s.meas ∧ (State.bumpSat s o i j).aux = s.aux ∧
      (State.bumpSat s o i j).itg = s.itg ∧ (State.bumpSat s o i j).bal = s.bal ∧ (State.bumpSat s o i j).hio = s.hio ∧
      (State.bumpSat s o i j).est = s.est ∧ (State.bumpSat s o i j).lp = s.lp ∧ (State.bumpSat s o i j).ring = s.ring ∧
      (State.bumpSat s o i j).can = s.can ∧ (State.bumpSat s o i j).px = s.px ∧ (State.bumpSat s o i j).flt = s.flt ∧
      (State.bumpSat s o i j).sent = s.sent ∧ (State.bumpSat s o i j).rcd = s.rcd ∧ (State.bumpSat s o i j).mgmt = s.mgmt := by simp [State.bumpSat]
@[simp] theorem State.draw_frame (s : State) :
    (State.draw s).2.now = s.now ∧ (State.draw s).2.ringOffset = s.ringOffset ∧ (State.draw s).2.pending = s.pending ∧
      (State.draw s).2.dict = s.dict ∧ (State.draw s).2.pm = s.pm ∧ (State.draw s).2.out = s.out ∧ (State.draw s).2.ident = s.ident ∧
      (State.draw s).2.supply = s.supply ∧ (State.draw s).2.md = s.md ∧ (State.draw s).2.tm = s.tm ∧ (State.draw s).2.meas = s.meas ∧
      (State.draw s).2.aux = s.aux ∧ (State.draw s).2.itg = s.itg ∧ (State.draw s).2.bal = s.bal ∧ (State.draw s).2.hio = s.hio ∧
      (State.draw s).2.est = s.est ∧ (State.draw s).2.lp = s.lp ∧ (State.draw s).2.ring = s.ring ∧ (State.draw s).2.can = s.can ∧
      (State.draw s).2.px = s.px ∧ (State.draw s).2.flt = s.flt ∧ (State.draw s).2.sent = s.sent ∧ (State.draw s).2.rcd = s.rcd ∧
      (State.draw s).2.mgmt = s.mgmt := by simp [State.draw]
@[simp] theorem State.pmWrite_frame (s : State) (a : Nat) (b : Bytes) :
    (State.pmWrite s a b).now = s.now ∧ (State.pmWrite s a b).ringOffset = s.ringOffset ∧ (State.pmWrite s a b).pending = s.pending ∧
      (State.pmWrite s a b).dict = s.dict ∧ (State.pmWrite s a b).out = s.out ∧ (State.pmWrite s a b).trngCount = s.trngCount ∧
      (State.pmWrite s a b).ident = s.ident ∧ (State.pmWrite s a b).supply = s.supply ∧ (State.pmWrite s a b).md = s.md ∧
      (State.pmWrite s a b).tm = s.tm ∧ (State.pmWrite s a b).meas = s.meas ∧ (State.pmWrite s a b).aux = s.aux ∧
      (State.pmWrite s a b).itg = s.itg ∧ (State.pmWrite s a b).bal = s.bal ∧ (State.pmWrite s a b).hio = s.hio ∧
      (State.pmWrite s a b).est = s.est ∧ (State.pmWrite s a b).lp = s.lp ∧ (State.pmWrite s a b).ring = s.ring ∧
      (State.pmWrite s a b).can = s.can ∧ (State.pmWrite s a b).px = s.px ∧ (State.pmWrite s a b).flt = s.flt ∧
      (State.pmWrite s a b).sent = s.sent ∧ (State.pmWrite s a b).rcd = s.rcd ∧ (State.pmWrite s a b).mgmt = s.mgmt := by simp [State.pmWrite]
@[simp] theorem State.setPort_frame (s : State) (p : Port) (x : PortSt) :
    (State.setPort s p x).now = s.now ∧ (State.setPort s p x).ringOffset = s.ringOffset ∧ (State.setPort s p x).pending = s.pending ∧
      (State.setPort s p x).dict = s.dict ∧ (State.setPort s p x).pm = s.pm ∧ (State.setPort s p x).out = s.out ∧
      (State.setPort s p x).trngCount = s.trngCount ∧ (State.setPort s p x).ident = s.ident ∧ (State.setPort s p x).supply = s.supply ∧
      (State.setPort s p x).md = s.md ∧ (State.setPort s p x).tm = s.tm ∧ (State.setPort s p x).meas = s.meas ∧
      (State.setPort s p x).aux = s.aux ∧ (State.setPort s p x).itg = s.itg ∧ (State.setPort s p x).bal = s.bal ∧
      (State.setPort s p x).hio = s.hio ∧ (State.setPort s p x).est = s.est ∧ (State.setPort s p x).lp = s.lp ∧
      (State.setPort s p x).can = s.can ∧ (State.setPort s p x).px = s.px ∧ (State.setPort s p x).flt = s.flt ∧
      (State.setPort s p x).sent = s.sent ∧ (State.setPort s p x).rcd = s.rcd ∧ (State.setPort s p x).mgmt = s.mgmt := by
  unfold State.setPort
  refine ⟨?_, ?_, ?_, ?_, ?_, ?_, ?_, ?_, ?_, ?_, ?_, ?_, ?_, ?_, ?_, ?_, ?_, ?_, ?_, ?_, ?_, ?_, ?_, ?_⟩ <;> (repeat' split) <;> simp
@[simp] theorem State.setBus_frame (s : State) (b : Bus) (x : BusSt) :
    (State.setBus s b x).now = s.now ∧ (State.setBus s b x).ringOffset = s.ringOffset ∧ (State.setBus s b x).pending = s.pending ∧
      (State.setBus s b x).dict = s.dict ∧ (State.setBus s b x).pm = s.pm ∧ (State.setBus s b x).out = s.out ∧
      (State.setBus s b x).trngCount = s.trngCount ∧ (State.setBus s b x).ident = s.ident ∧ (State.setBus s b x).supply = s.supply ∧
      (State.setBus s b x).md = s.md ∧ (State.setBus s b x).tm = s.tm ∧ (State.setBus s b x).meas = s.meas ∧
      (State.setBus s b x).aux = s.aux ∧ (State.setBus s b x).itg = s.itg ∧ (State.setBus s b x).bal = s.bal ∧
      (State.setBus s b x).hio = s.hio ∧ (State.setBus s b x).est = s.est ∧ (State.setBus s b x).lp = s.lp ∧
      (State.setBus s b x).ring = s.ring ∧ (State.setBus s b x).px = s.px ∧ (State.setBus s b x).flt = s.flt ∧
      (State.setBus s b x).sent = s.sent ∧ (State.setBus s b x).rcd = s.rcd ∧ (State.setBus s b x).mgmt = s.mgmt := by
  unfold State.setBus
  refine ⟨?_, ?_, ?_, ?_, ?_, ?_, ?_, ?_, ?_, ?_, ?_, ?_, ?_, ?_, ?_, ?_, ?_, ?_, ?_, ?_, ?_, ?_, ?_, ?_⟩ <;> (repeat' split) <;> simp

/-! Tables. -/

@[simp] theorem KMap.get_set_same {α : Type} (m : KMap α) (k : Nat) (v d : α) : KMap.get (KMap.set m k v) k d = v := by
  induction m with
  | nil => simp [KMap.set, KMap.get]
  | cons e r ih =>
    obtain ⟨a, x⟩ := e
    simp only [KMap.set]
    split
    · simp [KMap.get]
    · split
      · simp [KMap.get]
      · rename_i h; simp [KMap.get, Ne.symm h, ih]

theorem KMap.get_set_other {α : Type} (m : KMap α) (k j : Nat) (v d : α) (h : j ≠ k) :
    KMap.get (KMap.set m k v) j d = KMap.get m j d := by
  induction m with
  | nil => simp [KMap.set, KMap.get, Ne.symm h]
  | cons e r ih =>
    obtain ⟨a, x⟩ := e
    simp only [KMap.set]
    split
    · simp [KMap.get, Ne.symm h]
    · split
      · rename_i hk; subst hk; simp [KMap.get, Ne.symm h]
      · simp [KMap.get, ih]

theorem KMap.get_del_other {α : Type} (m : KMap α) (k j : Nat) (d : α) (h : j ≠ k) :
    KMap.get (KMap.del m k) j d = KMap.get m j d := by
  induction m with
  | nil => rfl
  | cons e r ih =>
    obtain ⟨a, x⟩ := e
    simp only [KMap.del, List.filter_cons] at ih ⊢
    by_cases ha : a = k
    · subst ha; simp [KMap.get, Ne.symm h, ih]
    · have hb : (a != k) = true := by simp [ha]
      simp [hb, KMap.get, ih]

@[simp] theorem KMap.get_del_same {α : Type} (m : KMap α) (k : Nat) (d : α) : KMap.get (KMap.del m k) k d = d := by
  induction m with
  | nil => rfl
  | cons e r ih =>
    obtain ⟨a, x⟩ := e
    simp only [KMap.del, List.filter_cons] at ih ⊢
    by_cases ha : a = k
    · simp [ha, ih]
    · have hb : (a != k) = true := by simp [ha]
      simp [hb, KMap.get, ha, ih]

/-! The dictionary (R537, R538). -/

@[simp] theorem Dict.read_write_same (d : Dict) (o : ObjDef) (i j : Nat) (v : Val) : (d.write o i j v).read o i j = v := by
  unfold Dict.write Dict.read
  split
  · rename_i h; simp [h]
  · simp

theorem Dict.get_write_other (d : Dict) (o : ObjDef) (i j k : Nat) (v x : Val) (h : k ≠ o.key i j) :
    KMap.get (d.write o i j v) k x = KMap.get d k x := by
  unfold Dict.write
  split
  · exact KMap.get_del_other _ _ _ _ h
  · exact KMap.get_set_other _ _ _ _ _ h

theorem Dict.read_write_other (d : Dict) (o o' : ObjDef) (i j i' j' : Nat) (v : Val) (h : o'.key i' j' ≠ o.key i j) :
    (d.write o i j v).read o' i' j' = d.read o' i' j' := Dict.get_write_other _ _ _ _ _ _ _ h

theorem State.val_setVal_same (s : State) (o : ObjDef) (v : Val) (i j : Nat) (h : o.has i j = true) : (s.setVal o v i j).val o i j = v := by
  simp [State.setVal, State.val, h]

theorem State.val_setVal_other (s : State) (o o' : ObjDef) (v : Val) (i j i' j' : Nat) (h : o'.key i' j' ≠ o.key i j) :
    (s.setVal o v i j).val o' i' j' = s.val o' i' j' := by
  unfold State.setVal
  split
  · simp [State.val, Dict.read_write_other _ _ _ _ _ _ _ _ h]
  · rfl

theorem State.nat_setNat_same (s : State) (o : ObjDef) (n i j : Nat) (h : o.has i j = true) : (s.setNat o n i j).nat o i j = n := by
  simp [State.setNat, State.nat, Val.toNat, State.val_setVal_same _ _ _ _ _ h]

theorem State.nat_setNat_other (s : State) (o o' : ObjDef) (n i j i' j' : Nat) (h : o'.key i' j' ≠ o.key i j) :
    (s.setNat o n i j).nat o' i' j' = s.nat o' i' j' := by
  simp [State.setNat, State.nat, State.val_setVal_other _ _ _ _ _ _ _ _ h]

theorem State.int_setInt_same (s : State) (o : ObjDef) (n : Int) (i j : Nat) (h : o.has i j = true) :
    (s.setInt o n i j).int o i j = n := by
  simp [State.setInt, State.int, Val.toInt, State.val_setVal_same _ _ _ _ _ h]

theorem State.nat_bump_same (s : State) (o : ObjDef) (i j : Nat) (h : o.has i j = true) :
    (s.bump o i j).nat o i j = (s.nat o i j + 1) % 2 ^ o.ty.bits := by simp [State.bump, State.nat_setNat_same _ _ _ _ _ h]

theorem State.nat_bumpBy_same (s : State) (o : ObjDef) (n i j : Nat) (h : o.has i j = true) :
    (s.bumpBy o n i j).nat o i j = (s.nat o i j + n) % 2 ^ o.ty.bits := by simp [State.bumpBy, State.nat_setNat_same _ _ _ _ _ h]

/-! Time. -/

@[simp] theorem State.now_tick (s : State) (t : Nat) : (s.tick t).now = max s.now t := rfl

@[simp] theorem State.nat_tick (s : State) (t : Nat) (o : ObjDef) (i j : Nat) : (s.tick t).nat o i j = s.nat o i j := rfl

@[simp] theorem State.flag_tick (s : State) (t : Nat) (o : ObjDef) (i j : Nat) : (s.tick t).flag o i j = s.flag o i j := rfl

@[simp] theorem State.rat_tick (s : State) (t : Nat) (o : ObjDef) (i j : Nat) : (s.tick t).rat o i j = s.rat o i j := rfl

/-! Ports and buses. -/

@[simp] theorem State.port_setPort_same (s : State) (p : Port) (x : PortSt) : (s.setPort p x).port p = x := by
  cases p <;> rfl

@[simp] theorem State.port_setPort_other (s : State) (p : Port) (x : PortSt) : (s.setPort p x).port p.other = s.port p.other := by
  cases p <;> rfl

@[simp] theorem State.bus_setBus_same (s : State) (b : Bus) (x : BusSt) : (s.setBus b x).bus b = x := by
  cases b <;> rfl

@[simp] theorem State.bus_setBus_other (s : State) (b : Bus) (x : BusSt) : (s.setBus b x).bus b.other = s.bus b.other := by
  cases b <;> rfl

/-! Pack memory (R652): every operation keeps the canonical form, a byte written reads back, the others stay. -/

theorem Memory.wfFrom_mono (m : List Host.Cell) (a b : Nat) (h : b ≤ a) (hm : Memory.wfFrom a m = true) : Memory.wfFrom b m = true := by
  cases m with
  | nil => rfl
  | cons e r =>
    obtain ⟨k, v⟩ := e
    simp only [Memory.wfFrom, Bool.and_eq_true, decide_eq_true_eq] at hm ⊢
    exact ⟨⟨by omega, hm.1.2⟩, hm.2⟩

theorem Memory.wfFrom_set (m : List Host.Cell) (lo a : Nat) (b : Byte) (hb : b ≠ 0) (hlo : lo ≤ a) (hm : Memory.wfFrom lo m = true) :
    Memory.wfFrom lo (KMap.set m a b) = true := by
  induction m generalizing lo with
  | nil => simp only [KMap.set, Memory.wfFrom, Bool.and_eq_true, decide_eq_true_eq]; exact ⟨⟨hlo, hb⟩, trivial⟩
  | cons e r ih =>
    obtain ⟨k, v⟩ := e
    simp only [Memory.wfFrom, Bool.and_eq_true, decide_eq_true_eq] at hm
    simp only [KMap.set]
    split
    · rename_i hk
      simp only [Memory.wfFrom, Bool.and_eq_true, decide_eq_true_eq]
      exact ⟨⟨hlo, hb⟩, ⟨by omega, hm.1.2⟩, hm.2⟩
    · split
      · rename_i hk; subst hk
        simp only [Memory.wfFrom, Bool.and_eq_true, decide_eq_true_eq]
        exact ⟨⟨hlo, hb⟩, hm.2⟩
      · simp only [Memory.wfFrom, Bool.and_eq_true, decide_eq_true_eq]
        exact ⟨hm.1, ih _ (by omega) hm.2⟩

theorem Memory.wfFrom_del (m : List Host.Cell) (lo a : Nat) (hm : Memory.wfFrom lo m = true) :
    Memory.wfFrom lo (KMap.del m a) = true := by
  induction m generalizing lo with
  | nil => rfl
  | cons e r ih =>
    obtain ⟨k, v⟩ := e
    simp only [Memory.wfFrom, Bool.and_eq_true, decide_eq_true_eq] at hm
    simp only [KMap.del, List.filter_cons] at ih ⊢
    by_cases hk : k = a
    · simp only [hk, bne_self_eq_false, Bool.false_eq_true, if_false]
      exact Memory.wfFrom_mono _ _ _ (by omega) (ih _ hm.2)
    · have : (k != a) = true := by simp [hk]
      simp only [this, if_true, Memory.wfFrom, Bool.and_eq_true, decide_eq_true_eq]
      exact ⟨hm.1, ih _ hm.2⟩

theorem Memory.wf_write (m : List Host.Cell) (a : Nat) (b : Byte) (hm : Memory.wf m = true) : Memory.wf (Memory.write m a b) = true := by
  unfold Memory.write
  split
  · exact Memory.wfFrom_del _ _ _ hm
  · rename_i h; exact Memory.wfFrom_set _ _ _ _ h (Nat.zero_le _) hm

theorem Memory.wf_writeAll (m : List Host.Cell) (a : Nat) (b : Bytes) (hm : Memory.wf m = true) :
    Memory.wf (Memory.writeAll m a b) = true := by
  induction b generalizing m a with
  | nil => exact hm
  | cons x r ih => exact ih _ _ (Memory.wf_write _ _ _ hm)

theorem State.pmWrite_wf (s : State) (a : Nat) (b : Bytes) (h : Memory.wf s.pm = true) : Memory.wf (s.pmWrite a b).pm = true :=
  Memory.wf_writeAll _ _ _ h

theorem State.reset_pm_wf : Memory.wf State.reset.pm = true := by decide

@[simp] theorem Memory.read_write_same (m : List Host.Cell) (a : Nat) (b : Byte) : Memory.read (Memory.write m a b) a = b := by
  unfold Memory.write Memory.read
  split
  · rename_i h; simp [h]
  · simp

theorem Memory.read_write_other (m : List Host.Cell) (a c : Nat) (b : Byte) (h : c ≠ a) :
    Memory.read (Memory.write m a b) c = Memory.read m c := by
  unfold Memory.write Memory.read
  split
  · exact KMap.get_del_other _ _ _ _ h
  · exact KMap.get_set_other _ _ _ _ _ h

theorem Memory.read_writeAll_other (m : List Host.Cell) (a c : Nat) (b : Bytes) (h : c < a ∨ a + b.length ≤ c) :
    Memory.read (Memory.writeAll m a b) c = Memory.read m c := by
  induction b generalizing m a with
  | nil => rfl
  | cons x r ih =>
    simp only [List.length_cons] at h
    rw [Memory.writeAll, ih _ _ (by omega), Memory.read_write_other _ _ _ _ (by omega)]

end Sys2Proof.Machine
end

