-- ==== Sys2Proof/Laws/Frames1.lean ====
section
/-! SUPPORT. What the shared operations leave alone: for each one, every component of the state it never writes. The operations of
Link, Faults, Px, Operands, HeadOps, Spin, TimeSpin, AuxOps, Estimate, Recorder, IntegOps, AuxConv, Integrity, Sent, Points, Precision, BalOps, Balance, LoopOps, Loops, HeadIo, Lanes, Election, Ring. -/
set_option maxRecDepth 4000
namespace Sys2Proof.Machine

@[simp] theorem State.emit_frame (s : State) (p : Port) (h : SlotHdr) (payload : Bytes) (stomp : Bool) :
    (State.emit s p h payload stomp).now = s.now ∧ (State.emit s p h payload stomp).ringOffset = s.ringOffset ∧
      (State.emit s p h payload stomp).pending = s.pending ∧ (State.emit s p h payload stomp).dict = s.dict ∧
      (State.emit s p h payload stomp).pm = s.pm ∧ (State.emit s p h payload stomp).trngCount = s.trngCount ∧
      (State.emit s p h payload stomp).ident = s.ident ∧ (State.emit s p h payload stomp).supply = s.supply ∧
      (State.emit s p h payload stomp).md = s.md ∧ (State.emit s p h payload stomp).tm = s.tm ∧
      (State.emit s p h payload stomp).meas = s.meas ∧ (State.emit s p h payload stomp).aux = s.aux ∧
      (State.emit s p h payload stomp).itg = s.itg ∧ (State.emit s p h payload stomp).bal = s.bal ∧
      (State.emit s p h payload stomp).hio = s.hio ∧ (State.emit s p h payload stomp).est = s.est ∧
      (State.emit s p h payload stomp).lp = s.lp ∧ (State.emit s p h payload stomp).can = s.can ∧
      (State.emit s p h payload stomp).px = s.px ∧ (State.emit s p h payload stomp).flt = s.flt ∧
      (State.emit s p h payload stomp).sent = s.sent ∧ (State.emit s p h payload stomp).rcd = s.rcd ∧
      (State.emit s p h payload stomp).mgmt = s.mgmt := by simp [State.emit]
@[simp] theorem State.launch_frame (s : State) (p : Port) (h : SlotHdr) (payload : Bytes) (own : Bool) (stomp : Bool) :
    (State.launch s p h payload own stomp).now = s.now ∧ (State.launch s p h payload own stomp).ringOffset = s.ringOffset ∧
      (State.launch s p h payload own stomp).pending = s.pending ∧ (State.launch s p h payload own stomp).pm = s.pm ∧
      (State.launch s p h payload own stomp).trngCount = s.trngCount ∧ (State.launch s p h payload own stomp).ident = s.ident ∧
      (State.launch s p h payload own stomp).supply = s.supply ∧ (State.launch s p h payload own stomp).md = s.md ∧
      (State.launch s p h payload own stomp).tm = s.tm ∧ (State.launch s p h payload own stomp).meas = s.meas ∧
      (State.launch s p h payload own stomp).aux = s.aux ∧ (State.launch s p h payload own stomp).itg = s.itg ∧
      (State.launch s p h payload own stomp).bal = s.bal ∧ (State.launch s p h payload own stomp).hio = s.hio ∧
      (State.launch s p h payload own stomp).est = s.est ∧ (State.launch s p h payload own stomp).lp = s.lp ∧
      (State.launch s p h payload own stomp).can = s.can ∧ (State.launch s p h payload own stomp).px = s.px ∧
      (State.launch s p h payload own stomp).flt = s.flt ∧ (State.launch s p h payload own stomp).sent = s.sent ∧
      (State.launch s p h payload own stomp).rcd = s.rcd ∧ (State.launch s p h payload own stomp).mgmt = s.mgmt := by simp [State.launch]
@[simp] theorem State.route_frame (s : State) (h : SlotHdr) (payload : Bytes) (own : Bool) (stomp : Bool) :
    (State.route s h payload own stomp).now = s.now ∧ (State.route s h payload own stomp).ringOffset = s.ringOffset ∧
      (State.route s h payload own stomp).pending = s.pending ∧ (State.route s h payload own stomp).pm = s.pm ∧
      (State.route s h payload own stomp).trngCount = s.trngCount ∧ (State.route s h payload own stomp).ident = s.ident ∧
      (State.route s h payload own stomp).supply = s.supply ∧ (State.route s h payload own stomp).md = s.md ∧
      (State.route s h payload own stomp).tm = s.tm ∧ (State.route s h payload own stomp).meas = s.meas ∧
      (State.route s h payload own stomp).aux = s.aux ∧ (State.route s h payload own stomp).itg = s.itg ∧
      (State.route s h payload own stomp).bal = s.bal ∧ (State.route s h payload own stomp).hio = s.hio ∧
      (State.route s h payload own stomp).est = s.est ∧ (State.route s h payload own stomp).lp = s.lp ∧
      (State.route s h payload own stomp).can = s.can ∧ (State.route s h payload own stomp).px = s.px ∧
      (State.route s h payload own stomp).flt = s.flt ∧ (State.route s h payload own stomp).sent = s.sent ∧
      (State.route s h payload own stomp).rcd = s.rcd ∧ (State.route s h payload own stomp).mgmt = s.mgmt := by simp [State.route]
@[simp] theorem State.flush_frame (s : State) (p : Port) (n : Nat) :
    (State.flush s p n).now = s.now ∧ (State.flush s p n).ringOffset = s.ringOffset ∧ (State.flush s p n).pending = s.pending ∧
      (State.flush s p n).dict = s.dict ∧ (State.flush s p n).pm = s.pm ∧ (State.flush s p n).trngCount = s.trngCount ∧
      (State.flush s p n).ident = s.ident ∧ (State.flush s p n).supply = s.supply ∧ (State.flush s p n).md = s.md ∧
      (State.flush s p n).tm = s.tm ∧ (State.flush s p n).meas = s.meas ∧ (State.flush s p n).aux = s.aux ∧
      (State.flush s p n).itg = s.itg ∧ (State.flush s p n).bal = s.bal ∧ (State.flush s p n).hio = s.hio ∧
      (State.flush s p n).est = s.est ∧ (State.flush s p n).lp = s.lp ∧ (State.flush s p n).can = s.can ∧ (State.flush s p n).px = s.px ∧
      (State.flush s p n).flt = s.flt ∧ (State.flush s p n).sent = s.sent ∧ (State.flush s p n).rcd = s.rcd ∧ (State.flush s p n).mgmt = s.mgmt := by
  induction n generalizing s with
  | zero => simp [State.flush]
  | succ n ih =>
    unfold State.flush
    split <;> simp [ih]
@[simp] theorem State.takeTokens_frame (s : State) (p : Port) (h : SlotHdr) :
    (State.takeTokens s p h).now = s.now ∧ (State.takeTokens s p h).ringOffset = s.ringOffset ∧
      (State.takeTokens s p h).pending = s.pending ∧ (State.takeTokens s p h).dict = s.dict ∧ (State.takeTokens s p h).pm = s.pm ∧
      (State.takeTokens s p h).trngCount = s.trngCount ∧ (State.takeTokens s p h).ident = s.ident ∧
      (State.takeTokens s p h).supply = s.supply ∧ (State.takeTokens s p h).md = s.md ∧ (State.takeTokens s p h).tm = s.tm ∧
      (State.takeTokens s p h).meas = s.meas ∧ (State.takeTokens s p h).aux = s.aux ∧ (State.takeTokens s p h).itg = s.itg ∧
      (State.takeTokens s p h).bal = s.bal ∧ (State.takeTokens s p h).hio = s.hio ∧ (State.takeTokens s p h).est = s.est ∧
      (State.takeTokens s p h).lp = s.lp ∧ (State.takeTokens s p h).can = s.can ∧ (State.takeTokens s p h).px = s.px ∧
      (State.takeTokens s p h).flt = s.flt ∧ (State.takeTokens s p h).sent = s.sent ∧ (State.takeTokens s p h).rcd = s.rcd ∧
      (State.takeTokens s p h).mgmt = s.mgmt := by simp [State.takeTokens]
@[simp] theorem State.freeBuffer_frame (s : State) (p : Port) (h : SlotHdr) :
    (State.freeBuffer s p h).now = s.now ∧ (State.freeBuffer s p h).ringOffset = s.ringOffset ∧
      (State.freeBuffer s p h).pending = s.pending ∧ (State.freeBuffer s p h).dict = s.dict ∧ (State.freeBuffer s p h).pm = s.pm ∧
      (State.freeBuffer s p h).out = s.out ∧ (State.freeBuffer s p h).trngCount = s.trngCount ∧ (State.freeBuffer s p h).ident = s.ident ∧
      (State.freeBuffer s p h).supply = s.supply ∧ (State.freeBuffer s p h).md = s.md ∧ (State.freeBuffer s p h).tm = s.tm ∧
      (State.freeBuffer s p h).meas = s.meas ∧ (State.freeBuffer s p h).aux = s.aux ∧ (State.freeBuffer s p h).itg = s.itg ∧
      (State.freeBuffer s p h).bal = s.bal ∧ (State.freeBuffer s p h).hio = s.hio ∧ (State.freeBuffer s p h).est = s.est ∧
      (State.freeBuffer s p h).lp = s.lp ∧ (State.freeBuffer s p h).can = s.can ∧ (State.freeBuffer s p h).px = s.px ∧
      (State.freeBuffer s p h).flt = s.flt ∧ (State.freeBuffer s p h).sent = s.sent ∧ (State.freeBuffer s p h).rcd = s.rcd ∧
      (State.freeBuffer s p h).mgmt = s.mgmt := by simp [State.freeBuffer]
@[simp] theorem State.takeSeq_frame (s : State) (cls typ : Nat) :
    (State.takeSeq s cls typ).2.now = s.now ∧ (State.takeSeq s cls typ).2.ringOffset = s.ringOffset ∧
      (State.takeSeq s cls typ).2.pending = s.pending ∧ (State.takeSeq s cls typ).2.dict = s.dict ∧ (State.takeSeq s cls typ).2.pm = s.pm ∧
      (State.takeSeq s cls typ).2.out = s.out ∧ (State.takeSeq s cls typ).2.trngCount = s.trngCount ∧
      (State.takeSeq s cls typ).2.ident = s.ident ∧ (State.takeSeq s cls typ).2.supply = s.supply ∧ (State.takeSeq s cls typ).2.md = s.md ∧
      (State.takeSeq s cls typ).2.tm = s.tm ∧ (State.takeSeq s cls typ).2.meas = s.meas ∧ (State.takeSeq s cls typ).2.aux = s.aux ∧
      (State.takeSeq s cls typ).2.itg = s.itg ∧ (State.takeSeq s cls typ).2.bal = s.bal ∧ (State.takeSeq s cls typ).2.hio = s.hio ∧
      (State.takeSeq s cls typ).2.est = s.est ∧ (State.takeSeq s cls typ).2.lp = s.lp ∧ (State.takeSeq s cls typ).2.can = s.can ∧
      (State.takeSeq s cls typ).2.px = s.px ∧ (State.takeSeq s cls typ).2.flt = s.flt ∧ (State.takeSeq s cls typ).2.sent = s.sent ∧
      (State.takeSeq s cls typ).2.rcd = s.rcd ∧ (State.takeSeq s cls typ).2.mgmt = s.mgmt := by simp [State.takeSeq]
@[simp] theorem State.sendOne_frame (s : State) (cls typ seq aux : Nat) (d : Dest) (payload : Bytes) :
    (State.sendOne s cls typ seq aux d payload).now = s.now ∧ (State.sendOne s cls typ seq aux d payload).ringOffset = s.ringOffset ∧
      (State.sendOne s cls typ seq aux d payload).pending = s.pending ∧ (State.sendOne s cls typ seq aux d payload).pm = s.pm ∧
      (State.sendOne s cls typ seq aux d payload).trngCount = s.trngCount ∧ (State.sendOne s cls typ seq aux d payload).ident = s.ident ∧
      (State.sendOne s cls typ seq aux d payload).supply = s.supply ∧ (State.sendOne s cls typ seq aux d payload).md = s.md ∧
      (State.sendOne s cls typ seq aux d payload).tm = s.tm ∧ (State.sendOne s cls typ seq aux d payload).meas = s.meas ∧
      (State.sendOne s cls typ seq aux d payload).aux = s.aux ∧ (State.sendOne s cls typ seq aux d payload).itg = s.itg ∧
      (State.sendOne s cls typ seq aux d payload).bal = s.bal ∧ (State.sendOne s cls typ seq aux d payload).hio = s.hio ∧
      (State.sendOne s cls typ seq aux d payload).est = s.est ∧ (State.sendOne s cls typ seq aux d payload).lp = s.lp ∧
      (State.sendOne s cls typ seq aux d payload).can = s.can ∧ (State.sendOne s cls typ seq aux d payload).px = s.px ∧
      (State.sendOne s cls typ seq aux d payload).flt = s.flt ∧ (State.sendOne s cls typ seq aux d payload).sent = s.sent ∧
      (State.sendOne s cls typ seq aux d payload).rcd = s.rcd ∧ (State.sendOne s cls typ seq aux d payload).mgmt = s.mgmt := by
  unfold State.sendOne
  refine ⟨?_, ?_, ?_, ?_, ?_, ?_, ?_, ?_, ?_, ?_, ?_, ?_, ?_, ?_, ?_, ?_, ?_, ?_, ?_, ?_, ?_, ?_⟩ <;> (repeat' split) <;> simp
@[simp] theorem State.sendSlot_frame (s : State) (cls typ aux : Nat) (d : Dest) (payload : Bytes) :
    (State.sendSlot s cls typ aux d payload).now = s.now ∧ (State.sendSlot s cls typ aux d payload).ringOffset = s.ringOffset ∧
      (State.sendSlot s cls typ aux d payload).pending = s.pending ∧ (State.sendSlot s cls typ aux d payload).pm = s.pm ∧
      (State.sendSlot s cls typ aux d payload).trngCount = s.trngCount ∧ (State.sendSlot s cls typ aux d payload).ident = s.ident ∧
      (State.sendSlot s cls typ aux d payload).supply = s.supply ∧ (State.sendSlot s cls typ aux d payload).md = s.md ∧
      (State.sendSlot s cls typ aux d payload).tm = s.tm ∧ (State.sendSlot s cls typ aux d payload).meas = s.meas ∧
      (State.sendSlot s cls typ aux d payload).aux = s.aux ∧ (State.sendSlot s cls typ aux d payload).itg = s.itg ∧
      (State.sendSlot s cls typ aux d payload).bal = s.bal ∧ (State.sendSlot s cls typ aux d payload).hio = s.hio ∧
      (State.sendSlot s cls typ aux d payload).est = s.est ∧ (State.sendSlot s cls typ aux d payload).lp = s.lp ∧
      (State.sendSlot s cls typ aux d payload).can = s.can ∧ (State.sendSlot s cls typ aux d payload).px = s.px ∧
      (State.sendSlot s cls typ aux d payload).flt = s.flt ∧ (State.sendSlot s cls typ aux d payload).sent = s.sent ∧
      (State.sendSlot s cls typ aux d payload).rcd = s.rcd ∧ (State.sendSlot s cls typ aux d payload).mgmt = s.mgmt := by simp [State.sendSlot]
@[simp] theorem State.sendSegs_frame (s : State) (cls typ : Nat) (d : Dest) (segs : List Bytes) :
    (State.sendSegs s cls typ d segs).now = s.now ∧ (State.sendSegs s cls typ d segs).ringOffset = s.ringOffset ∧
      (State.sendSegs s cls typ d segs).pending = s.pending ∧ (State.sendSegs s cls typ d segs).pm = s.pm ∧
      (State.sendSegs s cls typ d segs).trngCount = s.trngCount ∧ (State.sendSegs s cls typ d segs).ident = s.ident ∧
      (State.sendSegs s cls typ d segs).supply = s.supply ∧ (State.sendSegs s cls typ d segs).md = s.md ∧
      (State.sendSegs s cls typ d segs).tm = s.tm ∧ (State.sendSegs s cls typ d segs).meas = s.meas ∧
      (State.sendSegs s cls typ d segs).aux = s.aux ∧ (State.sendSegs s cls typ d segs).itg = s.itg ∧
      (State.sendSegs s cls typ d segs).bal = s.bal ∧ (State.sendSegs s cls typ d segs).hio = s.hio ∧
      (State.sendSegs s cls typ d segs).est = s.est ∧ (State.sendSegs s cls typ d segs).lp = s.lp ∧
      (State.sendSegs s cls typ d segs).can = s.can ∧ (State.sendSegs s cls typ d segs).px = s.px ∧
      (State.sendSegs s cls typ d segs).flt = s.flt ∧ (State.sendSegs s cls typ d segs).sent = s.sent ∧
      (State.sendSegs s cls typ d segs).rcd = s.rcd ∧ (State.sendSegs s cls typ d segs).mgmt = s.mgmt := by simp [State.sendSegs]
@[simp] theorem State.queueFrame_frame (s : State) (b : Bus) (f : TxFrame) :
    (State.queueFrame s b f).now = s.now ∧ (State.queueFrame s b f).ringOffset = s.ringOffset ∧
      (State.queueFrame s b f).pending = s.pending ∧ (State.queueFrame s b f).pm = s.pm ∧ (State.queueFrame s b f).out = s.out ∧
      (State.queueFrame s b f).trngCount = s.trngCount ∧ (State.queueFrame s b f).ident = s.ident ∧
      (State.queueFrame s b f).supply = s.supply ∧ (State.queueFrame s b f).md = s.md ∧ (State.queueFrame s b f).tm = s.tm ∧
      (State.queueFrame s b f).meas = s.meas ∧ (State.queueFrame s b f).aux = s.aux ∧ (State.queueFrame s b f).itg = s.itg ∧
      (State.queueFrame s b f).bal = s.bal ∧ (State.queueFrame s b f).hio = s.hio ∧ (State.queueFrame s b f).est = s.est ∧
      (State.queueFrame s b f).lp = s.lp ∧ (State.queueFrame s b f).ring = s.ring ∧ (State.queueFrame s b f).px = s.px ∧
      (State.queueFrame s b f).flt = s.flt ∧ (State.queueFrame s b f).sent = s.sent ∧ (State.queueFrame s b f).rcd = s.rcd ∧
      (State.queueFrame s b f).mgmt = s.mgmt := by simp [State.queueFrame]
@[simp] theorem State.sendFrame_frame (s : State) (b : Bus) (id : Nat) (kind : Nat) (data : Bytes) :
    (State.sendFrame s b id kind data).now = s.now ∧ (State.sendFrame s b id kind data).ringOffset = s.ringOffset ∧
      (State.sendFrame s b id kind data).pending = s.pending ∧ (State.sendFrame s b id kind data).pm = s.pm ∧
      (State.sendFrame s b id kind data).out = s.out ∧ (State.sendFrame s b id kind data).trngCount = s.trngCount ∧
      (State.sendFrame s b id kind data).ident = s.ident ∧ (State.sendFrame s b id kind data).supply = s.supply ∧
      (State.sendFrame s b id kind data).md = s.md ∧ (State.sendFrame s b id kind data).tm = s.tm ∧
      (State.sendFrame s b id kind data).meas = s.meas ∧ (State.sendFrame s b id kind data).aux = s.aux ∧
      (State.sendFrame s b id kind data).itg = s.itg ∧ (State.sendFrame s b id kind data).bal = s.bal ∧
      (State.sendFrame s b id kind data).hio = s.hio ∧ (State.sendFrame s b id kind data).est = s.est ∧
      (State.sendFrame s b id kind data).lp = s.lp ∧ (State.sendFrame s b id kind data).ring = s.ring ∧
      (State.sendFrame s b id kind data).px = s.px ∧ (State.sendFrame s b id kind data).flt = s.flt ∧
      (State.sendFrame s b id kind data).sent = s.sent ∧ (State.sendFrame s b id kind data).rcd = s.rcd ∧
      (State.sendFrame s b id kind data).mgmt = s.mgmt := by simp [State.sendFrame]
@[simp] theorem State.sendBoth_frame (s : State) (id kind : Nat) (data : Bytes) :
    (State.sendBoth s id kind data).now = s.now ∧ (State.sendBoth s id kind data).ringOffset = s.ringOffset ∧
      (State.sendBoth s id kind data).pending = s.pending ∧ (State.sendBoth s id kind data).pm = s.pm ∧
      (State.sendBoth s id kind data).out = s.out ∧ (State.sendBoth s id kind data).trngCount = s.trngCount ∧
      (State.sendBoth s id kind data).ident = s.ident ∧ (State.sendBoth s id kind data).supply = s.supply ∧
      (State.sendBoth s id kind data).md = s.md ∧ (State.sendBoth s id kind data).tm = s.tm ∧
      (State.sendBoth s id kind data).meas = s.meas ∧ (State.sendBoth s id kind data).aux = s.aux ∧
      (State.sendBoth s id kind data).itg = s.itg ∧ (State.sendBoth s id kind data).bal = s.bal ∧
      (State.sendBoth s id kind data).hio = s.hio ∧ (State.sendBoth s id kind data).est = s.est ∧
      (State.sendBoth s id kind data).lp = s.lp ∧ (State.sendBoth s id kind data).ring = s.ring ∧
      (State.sendBoth s id kind data).px = s.px ∧ (State.sendBoth s id kind data).flt = s.flt ∧
      (State.sendBoth s id kind data).sent = s.sent ∧ (State.sendBoth s id kind data).rcd = s.rcd ∧
      (State.sendBoth s id kind data).mgmt = s.mgmt := by simp [State.sendBoth]
@[simp] theorem State.sendPre_frame (s : State) (typ : Nat) (data : Bytes) :
    (State.sendPre s typ data).now = s.now ∧ (State.sendPre s typ data).ringOffset = s.ringOffset ∧
      (State.sendPre s typ data).pending = s.pending ∧ (State.sendPre s typ data).pm = s.pm ∧ (State.sendPre s typ data).out = s.out ∧
      (State.sendPre s typ data).trngCount = s.trngCount ∧ (State.sendPre s typ data).ident = s.ident ∧
      (State.sendPre s typ data).supply = s.supply ∧ (State.sendPre s typ data).md = s.md ∧ (State.sendPre s typ data).tm = s.tm ∧
      (State.sendPre s typ data).meas = s.meas ∧ (State.sendPre s typ data).aux = s.aux ∧ (State.sendPre s typ data).itg = s.itg ∧
      (State.sendPre s typ data).bal = s.bal ∧ (State.sendPre s typ data).hio = s.hio ∧ (State.sendPre s typ data).est = s.est ∧
      (State.sendPre s typ data).lp = s.lp ∧ (State.sendPre s typ data).ring = s.ring ∧ (State.sendPre s typ data).px = s.px ∧
      (State.sendPre s typ data).flt = s.flt ∧ (State.sendPre s typ data).sent = s.sent ∧ (State.sendPre s typ data).rcd = s.rcd ∧
      (State.sendPre s typ data).mgmt = s.mgmt := by simp [State.sendPre]
@[simp] theorem State.sendNotice_frame (s : State) (typ code detail time : Nat) :
    (State.sendNotice s typ code detail time).now = s.now ∧ (State.sendNotice s typ code detail time).ringOffset = s.ringOffset ∧
      (State.sendNotice s typ code detail time).pending = s.pending ∧ (State.sendNotice s typ code detail time).pm = s.pm ∧
      (State.sendNotice s typ code detail time).trngCount = s.trngCount ∧ (State.sendNotice s typ code detail time).ident = s.ident ∧
      (State.sendNotice s typ code detail time).supply = s.supply ∧ (State.sendNotice s typ code detail time).md = s.md ∧
      (State.sendNotice s typ code detail time).tm = s.tm ∧ (State.sendNotice s typ code detail time).meas = s.meas ∧
      (State.sendNotice s typ code detail time).aux = s.aux ∧ (State.sendNotice s typ code detail time).itg = s.itg ∧
      (State.sendNotice s typ code detail time).bal = s.bal ∧ (State.sendNotice s typ code detail time).hio = s.hio ∧
      (State.sendNotice s typ code detail time).est = s.est ∧ (State.sendNotice s typ code detail time).lp = s.lp ∧
      (State.sendNotice s typ code detail time).px = s.px ∧ (State.sendNotice s typ code detail time).flt = s.flt ∧
      (State.sendNotice s typ code detail time).sent = s.sent ∧ (State.sendNotice s typ code detail time).rcd = s.rcd ∧
      (State.sendNotice s typ code detail time).mgmt = s.mgmt := by simp [State.sendNotice]
@[simp] theorem State.voterAbdicate_frame (s : State) :
    (State.voterAbdicate s).now = s.now ∧ (State.voterAbdicate s).ringOffset = s.ringOffset ∧ (State.voterAbdicate s).pending = s.pending ∧
      (State.voterAbdicate s).pm = s.pm ∧ (State.voterAbdicate s).trngCount = s.trngCount ∧ (State.voterAbdicate s).ident = s.ident ∧
      (State.voterAbdicate s).supply = s.supply ∧ (State.voterAbdicate s).md = s.md ∧ (State.voterAbdicate s).tm = s.tm ∧
      (State.voterAbdicate s).meas = s.meas ∧ (State.voterAbdicate s).aux = s.aux ∧ (State.voterAbdicate s).itg = s.itg ∧
      (State.voterAbdicate s).bal = s.bal ∧ (State.voterAbdicate s).hio = s.hio ∧ (State.voterAbdicate s).est = s.est ∧
      (State.voterAbdicate s).lp = s.lp ∧ (State.voterAbdicate s).px = s.px ∧ (State.voterAbdicate s).flt = s.flt ∧
      (State.voterAbdicate s).sent = s.sent ∧ (State.voterAbdicate s).rcd = s.rcd ∧
      (State.voterAbdicate s).mgmt = s.mgmt := by simp [State.voterAbdicate]
@[simp] theorem State.episode_frame (s : State) (kind code detail : Nat) (value : Int) :
    (State.episode s kind code detail value).now = s.now ∧ (State.episode s kind code detail value).ringOffset = s.ringOffset ∧
      (State.episode s kind code detail value).pending = s.pending ∧ (State.episode s kind code detail value).pm = s.pm ∧
      (State.episode s kind code detail value).out = s.out ∧ (State.episode s kind code detail value).trngCount = s.trngCount ∧
      (State.episode s kind code detail value).ident = s.ident ∧ (State.episode s kind code detail value).supply = s.supply ∧
      (State.episode s kind code detail value).md = s.md ∧ (State.episode s kind code detail value).tm = s.tm ∧
      (State.episode s kind code detail value).meas = s.meas ∧ (State.episode s kind code detail value).aux = s.aux ∧
      (State.episode s kind code detail value).itg = s.itg ∧ (State.episode s kind code detail value).bal = s.bal ∧
      (State.episode s kind code detail value).hio = s.hio ∧ (State.episode s kind code detail value).est = s.est ∧
      (State.episode s kind code detail value).lp = s.lp ∧ (State.episode s kind code detail value).ring = s.ring ∧
      (State.episode s kind code detail value).can = s.can ∧ (State.episode s kind code detail value).px = s.px ∧
      (State.episode s kind code detail value).flt = s.flt ∧ (State.episode s kind code detail value).sent = s.sent ∧
      (State.episode s kind code detail value).mgmt = s.mgmt := by
  simp only [State.episode]
  refine ⟨?_, ?_, ?_, ?_, ?_, ?_, ?_, ?_, ?_, ?_, ?_, ?_, ?_, ?_, ?_, ?_, ?_, ?_, ?_, ?_, ?_, ?_, ?_⟩ <;> (repeat' split) <;> simp
@[simp] theorem State.stopCal_frame (s : State) :
    (State.stopCal s).now = s.now ∧ (State.stopCal s).ringOffset = s.ringOffset ∧ (State.stopCal s).pending = s.pending ∧
      (State.stopCal s).pm = s.pm ∧ (State.stopCal s).out = s.out ∧ (State.stopCal s).trngCount = s.trngCount ∧
      (State.stopCal s).ident = s.ident ∧ (State.stopCal s).supply = s.supply ∧ (State.stopCal s).md = s.md ∧ (State.stopCal s).tm = s.tm ∧
      (State.stopCal s).aux = s.aux ∧ (State.stopCal s).itg = s.itg ∧ (State.stopCal s).bal = s.bal ∧ (State.stopCal s).hio = s.hio ∧
      (State.stopCal s).est = s.est ∧ (State.stopCal s).lp = s.lp ∧ (State.stopCal s).ring = s.ring ∧ (State.stopCal s).can = s.can ∧
      (State.stopCal s).px = s.px ∧ (State.stopCal s).flt = s.flt ∧ (State.stopCal s).sent = s.sent ∧
      (State.stopCal s).rcd = s.rcd := by simp [State.stopCal]
@[simp] theorem State.flowUpdate_frame (s : State) :
    (State.flowUpdate s).now = s.now ∧ (State.flowUpdate s).ringOffset = s.ringOffset ∧ (State.flowUpdate s).pending = s.pending ∧
      (State.flowUpdate s).dict = s.dict ∧ (State.flowUpdate s).pm = s.pm ∧ (State.flowUpdate s).out = s.out ∧
      (State.flowUpdate s).trngCount = s.trngCount ∧ (State.flowUpdate s).ident = s.ident ∧ (State.flowUpdate s).supply = s.supply ∧
      (State.flowUpdate s).md = s.md ∧ (State.flowUpdate s).tm = s.tm ∧ (State.flowUpdate s).meas = s.meas ∧
      (State.flowUpdate s).aux = s.aux ∧ (State.flowUpdate s).itg = s.itg ∧ (State.flowUpdate s).hio = s.hio ∧
      (State.flowUpdate s).est = s.est ∧ (State.flowUpdate s).lp = s.lp ∧ (State.flowUpdate s).ring = s.ring ∧
      (State.flowUpdate s).can = s.can ∧ (State.flowUpdate s).px = s.px ∧ (State.flowUpdate s).flt = s.flt ∧
      (State.flowUpdate s).sent = s.sent ∧ (State.flowUpdate s).rcd = s.rcd ∧ (State.flowUpdate s).mgmt = s.mgmt := by simp [State.flowUpdate]
@[simp] theorem State.stopBalancing_frame (s : State) :
    (State.stopBalancing s).now = s.now ∧ (State.stopBalancing s).ringOffset = s.ringOffset ∧ (State.stopBalancing s).pending = s.pending ∧
      (State.stopBalancing s).dict = s.dict ∧ (State.stopBalancing s).pm = s.pm ∧ (State.stopBalancing s).out = s.out ∧
      (State.stopBalancing s).trngCount = s.trngCount ∧ (State.stopBalancing s).ident = s.ident ∧
      (State.stopBalancing s).supply = s.supply ∧ (State.stopBalancing s).md = s.md ∧ (State.stopBalancing s).tm = s.tm ∧
      (State.stopBalancing s).meas = s.meas ∧ (State.stopBalancing s).aux = s.aux ∧ (State.stopBalancing s).itg = s.itg ∧
      (State.stopBalancing s).hio = s.hio ∧ (State.stopBalancing s).est = s.est ∧ (State.stopBalancing s).lp = s.lp ∧
      (State.stopBalancing s).ring = s.ring ∧ (State.stopBalancing s).can = s.can ∧ (State.stopBalancing s).px = s.px ∧
      (State.stopBalancing s).flt = s.flt ∧ (State.stopBalancing s).sent = s.sent ∧ (State.stopBalancing s).rcd = s.rcd ∧
      (State.stopBalancing s).mgmt = s.mgmt := by simp [State.stopBalancing]
@[simp] theorem State.dropLease_frame (s : State) :
    (State.dropLease s).now = s.now ∧ (State.dropLease s).ringOffset = s.ringOffset ∧ (State.dropLease s).pending = s.pending ∧
      (State.dropLease s).dict = s.dict ∧ (State.dropLease s).pm = s.pm ∧ (State.dropLease s).out = s.out ∧
      (State.dropLease s).trngCount = s.trngCount ∧ (State.dropLease s).ident = s.ident ∧ (State.dropLease s).supply = s.supply ∧
      (State.dropLease s).md = s.md ∧ (State.dropLease s).tm = s.tm ∧ (State.dropLease s).meas = s.meas ∧ (State.dropLease s).aux = s.aux ∧
      (State.dropLease s).itg = s.itg ∧ (State.dropLease s).hio = s.hio ∧ (State.dropLease s).est = s.est ∧ (State.dropLease s).lp = s.lp ∧
      (State.dropLease s).ring = s.ring ∧ (State.dropLease s).can = s.can ∧ (State.dropLease s).px = s.px ∧
      (State.dropLease s).flt = s.flt ∧ (State.dropLease s).sent = s.sent ∧ (State.dropLease s).rcd = s.rcd ∧
      (State.dropLease s).mgmt = s.mgmt := by simp [State.dropLease]
@[simp] theorem State.enterMode_frame (s : State) (m : Mode) (cause : Nat) :
    (State.enterMode s m cause).now = s.now ∧ (State.enterMode s m cause).ringOffset = s.ringOffset ∧
      (State.enterMode s m cause).pending = s.pending ∧ (State.enterMode s m cause).pm = s.pm ∧ (State.enterMode s m cause).out = s.out ∧
      (State.enterMode s m cause).trngCount = s.trngCount ∧ (State.enterMode s m cause).ident = s.ident ∧
      (State.enterMode s m cause).supply = s.supply ∧ (State.enterMode s m cause).tm = s.tm ∧ (State.enterMode s m cause).aux = s.aux ∧
      (State.enterMode s m cause).itg = s.itg ∧ (State.enterMode s m cause).hio = s.hio ∧ (State.enterMode s m cause).est = s.est ∧
      (State.enterMode s m cause).lp = s.lp ∧ (State.enterMode s m cause).ring = s.ring ∧ (State.enterMode s m cause).can = s.can ∧
      (State.enterMode s m cause).px = s.px ∧ (State.enterMode s m cause).flt = s.flt ∧
      (State.enterMode s m cause).sent = s.sent := by simp [State.enterMode]
@[simp] theorem State.releaseCoils_frame (s : State) :
    (State.releaseCoils s).now = s.now ∧ (State.releaseCoils s).ringOffset = s.ringOffset ∧ (State.releaseCoils s).pending = s.pending ∧
      (State.releaseCoils s).dict = s.dict ∧ (State.releaseCoils s).pm = s.pm ∧ (State.releaseCoils s).out = s.out ∧
      (State.releaseCoils s).trngCount = s.trngCount ∧ (State.releaseCoils s).ident = s.ident ∧ (State.releaseCoils s).supply = s.supply ∧
      (State.releaseCoils s).md = s.md ∧ (State.releaseCoils s).tm = s.tm ∧ (State.releaseCoils s).meas = s.meas ∧
      (State.releaseCoils s).aux = s.aux ∧ (State.releaseCoils s).itg = s.itg ∧ (State.releaseCoils s).bal = s.bal ∧
      (State.releaseCoils s).est = s.est ∧ (State.releaseCoils s).lp = s.lp ∧ (State.releaseCoils s).ring = s.ring ∧
      (State.releaseCoils s).can = s.can ∧ (State.releaseCoils s).px = s.px ∧ (State.releaseCoils s).flt = s.flt ∧
      (State.releaseCoils s).sent = s.sent ∧ (State.releaseCoils s).rcd = s.rcd ∧ (State.releaseCoils s).mgmt = s.mgmt := by simp [State.releaseCoils]
@[simp] theorem State.leaveHead_frame (s : State) (r : Role) :
    (State.leaveHead s r).now = s.now ∧ (State.leaveHead s r).ringOffset = s.ringOffset ∧ (State.leaveHead s r).pending = s.pending ∧
      (State.leaveHead s r).dict = s.dict ∧ (State.leaveHead s r).pm = s.pm ∧ (State.leaveHead s r).out = s.out ∧
      (State.leaveHead s r).trngCount = s.trngCount ∧ (State.leaveHead s r).supply = s.supply ∧ (State.leaveHead s r).md = s.md ∧
      (State.leaveHead s r).meas = s.meas ∧ (State.leaveHead s r).aux = s.aux ∧ (State.leaveHead s r).itg = s.itg ∧
      (State.leaveHead s r).bal = s.bal ∧ (State.leaveHead s r).est = s.est ∧ (State.leaveHead s r).lp = s.lp ∧
      (State.leaveHead s r).can = s.can ∧ (State.leaveHead s r).px = s.px ∧ (State.leaveHead s r).sent = s.sent ∧
      (State.leaveHead s r).rcd = s.rcd ∧ (State.leaveHead s r).mgmt = s.mgmt := by simp [State.leaveHead]
@[simp] theorem State.captureMakeRoom_frame (s : State) (need : Nat) (n : Nat) :
    (State.captureMakeRoom s need n).now = s.now ∧ (State.captureMakeRoom s need n).ringOffset = s.ringOffset ∧
      (State.captureMakeRoom s need n).pending = s.pending ∧ (State.captureMakeRoom s need n).dict = s.dict ∧
      (State.captureMakeRoom s need n).pm = s.pm ∧ (State.captureMakeRoom s need n).out = s.out ∧
      (State.captureMakeRoom s need n).trngCount = s.trngCount ∧ (State.captureMakeRoom s need n).ident = s.ident ∧
      (State.captureMakeRoom s need n).supply = s.supply ∧ (State.captureMakeRoom s need n).md = s.md ∧
      (State.captureMakeRoom s need n).tm = s.tm ∧ (State.captureMakeRoom s need n).meas = s.meas ∧
      (State.captureMakeRoom s need n).aux = s.aux ∧ (State.captureMakeRoom s need n).itg = s.itg ∧
      (State.captureMakeRoom s need n).bal = s.bal ∧ (State.captureMakeRoom s need n).hio = s.hio ∧
      (State.captureMakeRoom s need n).est = s.est ∧ (State.captureMakeRoom s need n).lp = s.lp ∧
      (State.captureMakeRoom s need n).ring = s.ring ∧ (State.captureMakeRoom s need n).can = s.can ∧
      (State.captureMakeRoom s need n).px = s.px ∧ (State.captureMakeRoom s need n).flt = s.flt ∧
      (State.captureMakeRoom s need n).sent = s.sent ∧ (State.captureMakeRoom s need n).mgmt = s.mgmt := by
  induction n generalizing s with
  | zero => simp [State.captureMakeRoom]
  | succ n ih =>
    unfold State.captureMakeRoom
    (repeat' split) <;> simp [ih]
@[simp] theorem State.captureOpen_frame (s : State) (slot code node detail t : Nat) :
    (State.captureOpen s slot code node detail t).now = s.now ∧ (State.captureOpen s slot code node detail t).ringOffset = s.ringOffset ∧
      (State.captureOpen s slot code node detail t).pending = s.pending ∧ (State.captureOpen s slot code node detail t).dict = s.dict ∧
      (State.captureOpen s slot code node detail t).pm = s.pm ∧ (State.captureOpen s slot code node detail t).out = s.out ∧
      (State.captureOpen s slot code node detail t).trngCount = s.trngCount ∧
      (State.captureOpen s slot code node detail t).ident = s.ident ∧ (State.captureOpen s slot code node detail t).supply = s.supply ∧
      (State.captureOpen s slot code node detail t).md = s.md ∧ (State.captureOpen s slot code node detail t).tm = s.tm ∧
      (State.captureOpen s slot code node detail t).meas = s.meas ∧ (State.captureOpen s slot code node detail t).aux = s.aux ∧
      (State.captureOpen s slot code node detail t).itg = s.itg ∧ (State.captureOpen s slot code node detail t).bal = s.bal ∧
      (State.captureOpen s slot code node detail t).hio = s.hio ∧ (State.captureOpen s slot code node detail t).est = s.est ∧
      (State.captureOpen s slot code node detail t).lp = s.lp ∧ (State.captureOpen s slot code node detail t).ring = s.ring ∧
      (State.captureOpen s slot code node detail t).can = s.can ∧ (State.captureOpen s slot code node detail t).px = s.px ∧
      (State.captureOpen s slot code node detail t).flt = s.flt ∧ (State.captureOpen s slot code node detail t).sent = s.sent ∧
      (State.captureOpen s slot code node detail t).mgmt = s.mgmt := by simp [State.captureOpen]
@[simp] theorem State.captureTrigger_frame (s : State) (code node detail t : Nat) (own : Bool) :
    (State.captureTrigger s code node detail t own).now = s.now ∧
      (State.captureTrigger s code node detail t own).ringOffset = s.ringOffset ∧
      (State.captureTrigger s code node detail t own).pending = s.pending ∧ (State.captureTrigger s code node detail t own).pm = s.pm ∧
      (State.captureTrigger s code node detail t own).trngCount = s.trngCount ∧
      (State.captureTrigger s code node detail t own).ident = s.ident ∧ (State.captureTrigger s code node detail t own).supply = s.supply ∧
      (State.captureTrigger s code node detail t own).md = s.md ∧ (State.captureTrigger s code node detail t own).tm = s.tm ∧
      (State.captureTrigger s code node detail t own).meas = s.meas ∧ (State.captureTrigger s code node detail t own).aux = s.aux ∧
      (State.captureTrigger s code node detail t own).itg = s.itg ∧ (State.captureTrigger s code node detail t own).bal = s.bal ∧
      (State.captureTrigger s code node detail t own).hio = s.hio ∧ (State.captureTrigger s code node detail t own).est = s.est ∧
      (State.captureTrigger s code node detail t own).lp = s.lp ∧ (State.captureTrigger s code node detail t own).px = s.px ∧
      (State.captureTrigger s code node detail t own).flt = s.flt ∧ (State.captureTrigger s code node detail t own).sent = s.sent ∧
      (State.captureTrigger s code node detail t own).mgmt = s.mgmt := by
  simp only [State.captureTrigger]
  refine ⟨?_, ?_, ?_, ?_, ?_, ?_, ?_, ?_, ?_, ?_, ?_, ?_, ?_, ?_, ?_, ?_, ?_, ?_, ?_, ?_⟩ <;> (repeat' split) <;> simp
@[simp] theorem State.tripNotice_frame (s : State) (cause : Nat) :
    (State.tripNotice s cause).now = s.now ∧ (State.tripNotice s cause).ringOffset = s.ringOffset ∧
      (State.tripNotice s cause).pending = s.pending ∧ (State.tripNotice s cause).pm = s.pm ∧
      (State.tripNotice s cause).trngCount = s.trngCount ∧ (State.tripNotice s cause).ident = s.ident ∧
      (State.tripNotice s cause).supply = s.supply ∧ (State.tripNotice s cause).md = s.md ∧ (State.tripNotice s cause).tm = s.tm ∧
      (State.tripNotice s cause).meas = s.meas ∧ (State.tripNotice s cause).aux = s.aux ∧ (State.tripNotice s cause).itg = s.itg ∧
      (State.tripNotice s cause).bal = s.bal ∧ (State.tripNotice s cause).est = s.est ∧ (State.tripNotice s cause).lp = s.lp ∧
      (State.tripNotice s cause).px = s.px ∧ (State.tripNotice s cause).flt = s.flt ∧ (State.tripNotice s cause).sent = s.sent ∧
      (State.tripNotice s cause).mgmt = s.mgmt := by simp [State.tripNotice]
@[simp] theorem State.switchOff_frame (s : State) :
    (State.switchOff s).now = s.now ∧ (State.switchOff s).ringOffset = s.ringOffset ∧ (State.switchOff s).pending = s.pending ∧
      (State.switchOff s).dict = s.dict ∧ (State.switchOff s).pm = s.pm ∧ (State.switchOff s).out = s.out ∧
      (State.switchOff s).trngCount = s.trngCount ∧ (State.switchOff s).ident = s.ident ∧ (State.switchOff s).supply = s.supply ∧
      (State.switchOff s).tm = s.tm ∧ (State.switchOff s).meas = s.meas ∧ (State.switchOff s).aux = s.aux ∧
      (State.switchOff s).itg = s.itg ∧ (State.switchOff s).hio = s.hio ∧ (State.switchOff s).est = s.est ∧ (State.switchOff s).lp = s.lp ∧
      (State.switchOff s).ring = s.ring ∧ (State.switchOff s).can = s.can ∧ (State.switchOff s).px = s.px ∧
      (State.switchOff s).flt = s.flt ∧ (State.switchOff s).sent = s.sent ∧ (State.switchOff s).rcd = s.rcd ∧
      (State.switchOff s).mgmt = s.mgmt := by simp [State.switchOff]
@[simp] theorem State.enterSafe_frame (s : State) :
    (State.enterSafe s).now = s.now ∧ (State.enterSafe s).ringOffset = s.ringOffset ∧ (State.enterSafe s).pending = s.pending ∧
      (State.enterSafe s).pm = s.pm ∧ (State.enterSafe s).trngCount = s.trngCount ∧ (State.enterSafe s).supply = s.supply ∧
      (State.enterSafe s).aux = s.aux ∧ (State.enterSafe s).itg = s.itg ∧ (State.enterSafe s).est = s.est ∧ (State.enterSafe s).lp = s.lp ∧
      (State.enterSafe s).px = s.px ∧ (State.enterSafe s).sent = s.sent := by
  unfold State.enterSafe
  refine ⟨?_, ?_, ?_, ?_, ?_, ?_, ?_, ?_, ?_, ?_, ?_, ?_⟩ <;> (repeat' split) <;> simp
@[simp] theorem State.raiseBooks_frame (s : State) (src sev : Nat) (mark : Bool) :
    (State.raiseBooks s src sev mark).now = s.now ∧ (State.raiseBooks s src sev mark).ringOffset = s.ringOffset ∧
      (State.raiseBooks s src sev mark).pending = s.pending ∧ (State.raiseBooks s src sev mark).pm = s.pm ∧
      (State.raiseBooks s src sev mark).out = s.out ∧ (State.raiseBooks s src sev mark).trngCount = s.trngCount ∧
      (State.raiseBooks s src sev mark).ident = s.ident ∧ (State.raiseBooks s src sev mark).supply = s.supply ∧
      (State.raiseBooks s src sev mark).md = s.md ∧ (State.raiseBooks s src sev mark).tm = s.tm ∧
      (State.raiseBooks s src sev mark).meas = s.meas ∧ (State.raiseBooks s src sev mark).aux = s.aux ∧
      (State.raiseBooks s src sev mark).itg = s.itg ∧ (State.raiseBooks s src sev mark).bal = s.bal ∧
      (State.raiseBooks s src sev mark).hio = s.hio ∧ (State.raiseBooks s src sev mark).est = s.est ∧
      (State.raiseBooks s src sev mark).lp = s.lp ∧ (State.raiseBooks s src sev mark).ring = s.ring ∧
      (State.raiseBooks s src sev mark).can = s.can ∧ (State.raiseBooks s src sev mark).px = s.px ∧
      (State.raiseBooks s src sev mark).sent = s.sent ∧ (State.raiseBooks s src sev mark).mgmt = s.mgmt := by simp [State.raiseBooks]
@[simp] theorem State.laneRestart_frame (s : State) :
    (State.laneRestart s).now = s.now ∧ (State.laneRestart s).ringOffset = s.ringOffset ∧ (State.laneRestart s).pending = s.pending ∧
      (State.laneRestart s).pm = s.pm ∧ (State.laneRestart s).out = s.out ∧ (State.laneRestart s).trngCount = s.trngCount ∧
      (State.laneRestart s).supply = s.supply ∧ (State.laneRestart s).aux = s.aux ∧ (State.laneRestart s).itg = s.itg ∧
      (State.laneRestart s).est = s.est ∧ (State.laneRestart s).lp = s.lp ∧ (State.laneRestart s).can = s.can ∧
      (State.laneRestart s).px = s.px ∧ (State.laneRestart s).sent = s.sent ∧ (State.laneRestart s).rcd = s.rcd := by simp [State.laneRestart]
@[simp] theorem State.raiseWith_frame (s : State) (src : Nat) (mark : Bool) :
    (State.raiseWith s src mark).now = s.now ∧ (State.raiseWith s src mark).ringOffset = s.ringOffset ∧
      (State.raiseWith s src mark).pending = s.pending ∧ (State.raiseWith s src mark).pm = s.pm ∧
      (State.raiseWith s src mark).trngCount = s.trngCount ∧ (State.raiseWith s src mark).supply = s.supply ∧
      (State.raiseWith s src mark).aux = s.aux ∧ (State.raiseWith s src mark).itg = s.itg ∧ (State.raiseWith s src mark).est = s.est ∧
      (State.raiseWith s src mark).lp = s.lp ∧ (State.raiseWith s src mark).px = s.px ∧
      (State.raiseWith s src mark).sent = s.sent := by simp [State.raiseWith]
@[simp] theorem State.raise_frame (s : State) (src : Nat) :
    (State.raise s src).now = s.now ∧ (State.raise s src).ringOffset = s.ringOffset ∧ (State.raise s src).pending = s.pending ∧
      (State.raise s src).pm = s.pm ∧ (State.raise s src).trngCount = s.trngCount ∧ (State.raise s src).supply = s.supply ∧
      (State.raise s src).aux = s.aux ∧ (State.raise s src).itg = s.itg ∧ (State.raise s src).est = s.est ∧ (State.raise s src).lp = s.lp ∧
      (State.raise s src).px = s.px ∧ (State.raise s src).sent = s.sent := by simp [State.raise]
@[simp] theorem State.raiseEvent_frame (s : State) (src : Nat) :
    (State.raiseEvent s src).now = s.now ∧ (State.raiseEvent s src).ringOffset = s.ringOffset ∧
      (State.raiseEvent s src).pending = s.pending ∧ (State.raiseEvent s src).pm = s.pm ∧
      (State.raiseEvent s src).trngCount = s.trngCount ∧ (State.raiseEvent s src).supply = s.supply ∧
      (State.raiseEvent s src).aux = s.aux ∧ (State.raiseEvent s src).itg = s.itg ∧ (State.raiseEvent s src).est = s.est ∧
      (State.raiseEvent s src).lp = s.lp ∧ (State.raiseEvent s src).px = s.px ∧ (State.raiseEvent s src).sent = s.sent := by simp [State.raiseEvent]
@[simp] theorem State.lower_frame (s : State) (src : Nat) :
    (State.lower s src).now = s.now ∧ (State.lower s src).ringOffset = s.ringOffset ∧ (State.lower s src).pending = s.pending ∧
      (State.lower s src).dict = s.dict ∧ (State.lower s src).pm = s.pm ∧ (State.lower s src).out = s.out ∧
      (State.lower s src).trngCount = s.trngCount ∧ (State.lower s src).ident = s.ident ∧ (State.lower s src).supply = s.supply ∧
      (State.lower s src).md = s.md ∧ (State.lower s src).tm = s.tm ∧ (State.lower s src).meas = s.meas ∧ (State.lower s src).aux = s.aux ∧
      (State.lower s src).itg = s.itg ∧ (State.lower s src).bal = s.bal ∧ (State.lower s src).hio = s.hio ∧
      (State.lower s src).est = s.est ∧ (State.lower s src).lp = s.lp ∧ (State.lower s src).ring = s.ring ∧
      (State.lower s src).can = s.can ∧ (State.lower s src).px = s.px ∧ (State.lower s src).sent = s.sent ∧
      (State.lower s src).rcd = s.rcd ∧ (State.lower s src).mgmt = s.mgmt := by simp [State.lower]
@[simp] theorem State.follow_frame (s : State) (src : Nat) (c : Bool) :
    (State.follow s src c).now = s.now ∧ (State.follow s src c).ringOffset = s.ringOffset ∧ (State.follow s src c).pending = s.pending ∧
      (State.follow s src c).pm = s.pm ∧ (State.follow s src c).trngCount = s.trngCount ∧ (State.follow s src c).supply = s.supply ∧
      (State.follow s src c).aux = s.aux ∧ (State.follow s src c).itg = s.itg ∧ (State.follow s src c).est = s.est ∧
      (State.follow s src c).lp = s.lp ∧ (State.follow s src c).px = s.px ∧ (State.follow s src c).sent = s.sent := by simp [State.follow]
@[simp] theorem State.eligibilityCheck_frame (s : State) :
    (State.eligibilityCheck s).now = s.now ∧ (State.eligibilityCheck s).ringOffset = s.ringOffset ∧
      (State.eligibilityCheck s).pending = s.pending ∧ (State.eligibilityCheck s).pm = s.pm ∧
      (State.eligibilityCheck s).trngCount = s.trngCount ∧ (State.eligibilityCheck s).supply = s.supply ∧
      (State.eligibilityCheck s).aux = s.aux ∧ (State.eligibilityCheck s).itg = s.itg ∧ (State.eligibilityCheck s).est = s.est ∧
      (State.eligibilityCheck s).lp = s.lp ∧ (State.eligibilityCheck s).px = s.px ∧
      (State.eligibilityCheck s).sent = s.sent := by simp [State.eligibilityCheck]
@[simp] theorem State.raiseBreak_frame (s : State) (src : Nat) (mark : Bool) :
    (State.raiseBreak s src mark).now = s.now ∧ (State.raiseBreak s src mark).ringOffset = s.ringOffset ∧
      (State.raiseBreak s src mark).pending = s.pending ∧ (State.raiseBreak s src mark).pm = s.pm ∧
      (State.raiseBreak s src mark).trngCount = s.trngCount ∧ (State.raiseBreak s src mark).supply = s.supply ∧
      (State.raiseBreak s src mark).aux = s.aux ∧ (State.raiseBreak s src mark).itg = s.itg ∧ (State.raiseBreak s src mark).est = s.est ∧
      (State.raiseBreak s src mark).lp = s.lp ∧ (State.raiseBreak s src mark).px = s.px ∧
      (State.raiseBreak s src mark).sent = s.sent := by simp [State.raiseBreak]
@[simp] theorem State.minSetCheck_frame (s : State) :
    (State.minSetCheck s).now = s.now ∧ (State.minSetCheck s).ringOffset = s.ringOffset ∧ (State.minSetCheck s).pending = s.pending ∧
      (State.minSetCheck s).dict = s.dict ∧ (State.minSetCheck s).pm = s.pm ∧ (State.minSetCheck s).out = s.out ∧
      (State.minSetCheck s).trngCount = s.trngCount ∧ (State.minSetCheck s).ident = s.ident ∧ (State.minSetCheck s).supply = s.supply ∧
      (State.minSetCheck s).md = s.md ∧ (State.minSetCheck s).tm = s.tm ∧ (State.minSetCheck s).meas = s.meas ∧
      (State.minSetCheck s).aux = s.aux ∧ (State.minSetCheck s).itg = s.itg ∧ (State.minSetCheck s).bal = s.bal ∧
      (State.minSetCheck s).hio = s.hio ∧ (State.minSetCheck s).est = s.est ∧ (State.minSetCheck s).lp = s.lp ∧
      (State.minSetCheck s).ring = s.ring ∧ (State.minSetCheck s).can = s.can ∧ (State.minSetCheck s).px = s.px ∧
      (State.minSetCheck s).sent = s.sent ∧ (State.minSetCheck s).rcd = s.rcd ∧ (State.minSetCheck s).mgmt = s.mgmt := by simp [State.minSetCheck]
@[simp] theorem State.fenceLane_frame (s : State) (l : Lane) (code : Nat) :
    (State.fenceLane s l code).now = s.now ∧ (State.fenceLane s l code).ringOffset = s.ringOffset ∧
      (State.fenceLane s l code).pending = s.pending ∧ (State.fenceLane s l code).dict = s.dict ∧ (State.fenceLane s l code).pm = s.pm ∧
      (State.fenceLane s l code).out = s.out ∧ (State.fenceLane s l code).trngCount = s.trngCount ∧
      (State.fenceLane s l code).ident = s.ident ∧ (State.fenceLane s l code).supply = s.supply ∧ (State.fenceLane s l code).md = s.md ∧
      (State.fenceLane s l code).tm = s.tm ∧ (State.fenceLane s l code).meas = s.meas ∧ (State.fenceLane s l code).aux = s.aux ∧
      (State.fenceLane s l code).itg = s.itg ∧ (State.fenceLane s l code).bal = s.bal ∧ (State.fenceLane s l code).hio = s.hio ∧
      (State.fenceLane s l code).est = s.est ∧ (State.fenceLane s l code).lp = s.lp ∧ (State.fenceLane s l code).ring = s.ring ∧
      (State.fenceLane s l code).can = s.can ∧ (State.fenceLane s l code).px = s.px ∧ (State.fenceLane s l code).sent = s.sent ∧
      (State.fenceLane s l code).rcd = s.rcd ∧ (State.fenceLane s l code).mgmt = s.mgmt := by simp [State.fenceLane]
@[simp] theorem State.pxSend_frame (s : State) (path : PxPath) (node : Nat) (origin : Int) (typ : Nat) (frame : Bytes) :
    (State.pxSend s path node origin typ frame).now = s.now ∧ (State.pxSend s path node origin typ frame).ringOffset = s.ringOffset ∧
      (State.pxSend s path node origin typ frame).pending = s.pending ∧ (State.pxSend s path node origin typ frame).pm = s.pm ∧
      (State.pxSend s path node origin typ frame).trngCount = s.trngCount ∧ (State.pxSend s path node origin typ frame).ident = s.ident ∧
      (State.pxSend s path node origin typ frame).supply = s.supply ∧ (State.pxSend s path node origin typ frame).md = s.md ∧
      (State.pxSend s path node origin typ frame).tm = s.tm ∧ (State.pxSend s path node origin typ frame).meas = s.meas ∧
      (State.pxSend s path node origin typ frame).aux = s.aux ∧ (State.pxSend s path node origin typ frame).itg = s.itg ∧
      (State.pxSend s path node origin typ frame).bal = s.bal ∧ (State.pxSend s path node origin typ frame).hio = s.hio ∧
      (State.pxSend s path node origin typ frame).est = s.est ∧ (State.pxSend s path node origin typ frame).lp = s.lp ∧
      (State.pxSend s path node origin typ frame).px = s.px ∧ (State.pxSend s path node origin typ frame).flt = s.flt ∧
      (State.pxSend s path node origin typ frame).sent = s.sent ∧ (State.pxSend s path node origin typ frame).rcd = s.rcd ∧
      (State.pxSend s path node origin typ frame).mgmt = s.mgmt := by
  unfold State.pxSend
  refine ⟨?_, ?_, ?_, ?_, ?_, ?_, ?_, ?_, ?_, ?_, ?_, ?_, ?_, ?_, ?_, ?_, ?_, ?_, ?_, ?_, ?_⟩ <;> (repeat' split) <;> simp
@[simp] theorem State.pxAnswer_frame (s : State) (q : PxReq) (service code index sub ty counter : Nat) (data : Bytes) :
    (State.pxAnswer s q service code index sub ty counter data).now = s.now ∧
      (State.pxAnswer s q service code index sub ty counter data).ringOffset = s.ringOffset ∧
      (State.pxAnswer s q service code index sub ty counter data).pending = s.pending ∧
      (State.pxAnswer s q service code index sub ty counter data).pm = s.pm ∧
      (State.pxAnswer s q service code index sub ty counter data).trngCount = s.trngCount ∧
      (State.pxAnswer s q service code index sub ty counter data).ident = s.ident ∧
      (State.pxAnswer s q service code index sub ty counter data).supply = s.supply ∧
      (State.pxAnswer s q service code index sub ty counter data).md = s.md ∧
      (State.pxAnswer s q service code index sub ty counter data).tm = s.tm ∧
      (State.pxAnswer s q service code index sub ty counter data).meas = s.meas ∧
      (State.pxAnswer s q service code index sub ty counter data).aux = s.aux ∧
      (State.pxAnswer s q service code index sub ty counter data).itg = s.itg ∧
      (State.pxAnswer s q service code index sub ty counter data).bal = s.bal ∧
      (State.pxAnswer s q service code index sub ty counter data).hio = s.hio ∧
      (State.pxAnswer s q service code index sub ty counter data).est = s.est ∧
      (State.pxAnswer s q service code index sub ty counter data).lp = s.lp ∧
      (State.pxAnswer s q service code index sub ty counter data).flt = s.flt ∧
      (State.pxAnswer s q service code index sub ty counter data).sent = s.sent ∧
      (State.pxAnswer s q service code index sub ty counter data).rcd = s.rcd ∧
      (State.pxAnswer s q service code index sub ty counter data).mgmt = s.mgmt := by simp [State.pxAnswer]
@[simp] theorem State.authFailure_frame (s : State) (q : PxReq) :
    (State.authFailure s q).now = s.now ∧ (State.authFailure s q).ringOffset = s.ringOffset ∧ (State.authFailure s q).pending = s.pending ∧
      (State.authFailure s q).pm = s.pm ∧ (State.authFailure s q).trngCount = s.trngCount ∧ (State.authFailure s q).supply = s.supply ∧
      (State.authFailure s q).aux = s.aux ∧ (State.authFailure s q).itg = s.itg ∧ (State.authFailure s q).est = s.est ∧
      (State.authFailure s q).lp = s.lp ∧ (State.authFailure s q).px = s.px ∧ (State.authFailure s q).sent = s.sent := by simp [State.authFailure]
@[simp] theorem State.pxAccept_frame (s : State) (q : PxReq) (counter : Nat) :
    (State.pxAccept s q counter).now = s.now ∧ (State.pxAccept s q counter).ringOffset = s.ringOffset ∧
      (State.pxAccept s q counter).pending = s.pending ∧ (State.pxAccept s q counter).dict = s.dict ∧
      (State.pxAccept s q counter).pm = s.pm ∧ (State.pxAccept s q counter).out = s.out ∧
      (State.pxAccept s q counter).trngCount = s.trngCount ∧ (State.pxAccept s q counter).ident = s.ident ∧
      (State.pxAccept s q counter).supply = s.supply ∧ (State.pxAccept s q counter).md = s.md ∧ (State.pxAccept s q counter).tm = s.tm ∧
      (State.pxAccept s q counter).meas = s.meas ∧ (State.pxAccept s q counter).aux = s.aux ∧ (State.pxAccept s q counter).itg = s.itg ∧
      (State.pxAccept s q counter).bal = s.bal ∧ (State.pxAccept s q counter).hio = s.hio ∧ (State.pxAccept s q counter).est = s.est ∧
      (State.pxAccept s q counter).lp = s.lp ∧ (State.pxAccept s q counter).ring = s.ring ∧ (State.pxAccept s q counter).can = s.can ∧
      (State.pxAccept s q counter).px = s.px ∧ (State.pxAccept s q counter).flt = s.flt ∧ (State.pxAccept s q counter).sent = s.sent ∧
      (State.pxAccept s q counter).rcd = s.rcd := by simp [State.pxAccept]
@[simp] theorem State.changeLog_frame (s : State) (q : PxReq) (index sub ty role result : Nat) (old new : Bytes) :
    (State.changeLog s q index sub ty role result old new).now = s.now ∧
      (State.changeLog s q index sub ty role result old new).ringOffset = s.ringOffset ∧
      (State.changeLog s q index sub ty role result old new).pending = s.pending ∧
      (State.changeLog s q index sub ty role result old new).pm = s.pm ∧
      (State.changeLog s q index sub ty role result old new).out = s.out ∧
      (State.changeLog s q index sub ty role result old new).trngCount = s.trngCount ∧
      (State.changeLog s q index sub ty role result old new).ident = s.ident ∧
      (State.changeLog s q index sub ty role result old new).supply = s.supply ∧
      (State.changeLog s q index sub ty role result old new).md = s.md ∧ (State.changeLog s q index sub ty role result old new).tm = s.tm ∧
      (State.changeLog s q index sub ty role result old new).meas = s.meas ∧
      (State.changeLog s q index sub ty role result old new).aux = s.aux ∧
      (State.changeLog s q index sub ty role result old new).itg = s.itg ∧
      (State.changeLog s q index sub ty role result old new).bal = s.bal ∧
      (State.changeLog s q index sub ty role result old new).hio = s.hio ∧
      (State.changeLog s q index sub ty role result old new).est = s.est ∧
      (State.changeLog s q index sub ty role result old new).lp = s.lp ∧
      (State.changeLog s q index sub ty role result old new).ring = s.ring ∧
      (State.changeLog s q index sub ty role result old new).can = s.can ∧
      (State.changeLog s q index sub ty role result old new).flt = s.flt ∧
      (State.changeLog s q index sub ty role result old new).sent = s.sent ∧
      (State.changeLog s q index sub ty role result old new).rcd = s.rcd ∧
      (State.changeLog s q index sub ty role result old new).mgmt = s.mgmt := by simp [State.changeLog]
@[simp] theorem State.afterAnswer_frame (s : State) :
    (State.afterAnswer s).now = s.now ∧ (State.afterAnswer s).ringOffset = s.ringOffset ∧ (State.afterAnswer s).pending = s.pending ∧
      (State.afterAnswer s).pm = s.pm ∧ (State.afterAnswer s).out = s.out ∧ (State.afterAnswer s).trngCount = s.trngCount ∧
      (State.afterAnswer s).supply = s.supply ∧ (State.afterAnswer s).aux = s.aux ∧ (State.afterAnswer s).itg = s.itg ∧
      (State.afterAnswer s).est = s.est ∧ (State.afterAnswer s).lp = s.lp ∧ (State.afterAnswer s).can = s.can ∧
      (State.afterAnswer s).px = s.px ∧ (State.afterAnswer s).sent = s.sent ∧ (State.afterAnswer s).rcd = s.rcd := by simp [State.afterAnswer]
@[simp] theorem State.pxFinish_frame (s : State) (q : PxReq) (o : ObjDef) (i j service role counter code : Nat) (old new : Bytes) :
    (State.pxFinish s q o i j service role counter code old new).now = s.now ∧
      (State.pxFinish s q o i j service role counter code old new).ringOffset = s.ringOffset ∧
      (State.pxFinish s q o i j service role counter code old new).pending = s.pending ∧
      (State.pxFinish s q o i j service role counter code old new).pm = s.pm ∧
      (State.pxFinish s q o i j service role counter code old new).trngCount = s.trngCount ∧
      (State.pxFinish s q o i j service role counter code old new).supply = s.supply ∧
      (State.pxFinish s q o i j service role counter code old new).aux = s.aux ∧
      (State.pxFinish s q o i j service role counter code old new).itg = s.itg ∧
      (State.pxFinish s q o i j service role counter code old new).est = s.est ∧
      (State.pxFinish s q o i j service role counter code old new).lp = s.lp ∧
      (State.pxFinish s q o i j service role counter code old new).sent = s.sent ∧
      (State.pxFinish s q o i j service role counter code old new).rcd = s.rcd := by simp [State.pxFinish]
@[simp] theorem State.pxMissing_frame (s : State) (q : PxReq) (service index sub ty : Nat) (signed : Bytes) :
    (State.pxMissing s q service index sub ty signed).now = s.now ∧
      (State.pxMissing s q service index sub ty signed).ringOffset = s.ringOffset ∧
      (State.pxMissing s q service index sub ty signed).pending = s.pending ∧ (State.pxMissing s q service index sub ty signed).pm = s.pm ∧
      (State.pxMissing s q service index sub ty signed).trngCount = s.trngCount ∧
      (State.pxMissing s q service index sub ty signed).supply = s.supply ∧ (State.pxMissing s q service index sub ty signed).aux = s.aux ∧
      (State.pxMissing s q service index sub ty signed).itg = s.itg ∧ (State.pxMissing s q service index sub ty signed).est = s.est ∧
      (State.pxMissing s q service index sub ty signed).lp = s.lp ∧ (State.pxMissing s q service index sub ty signed).sent = s.sent := by
  unfold State.pxMissing
  refine ⟨?_, ?_, ?_, ?_, ?_, ?_, ?_, ?_, ?_, ?_, ?_⟩ <;> (repeat' split) <;> simp
/-- The state a write's own effect leaves, where it leaves one. -/
def PxResult.state? : PxResult → Option State
  | .ok s => some s
  | .refuseIn s _ => some s
  | _ => none

/-- A write's own effect keeps a view of the state. -/
def PxEffect.Keeps {α : Type} (e : PxEffect) (f : State → α) : Prop := ∀ s s', (e s).state? = some s' → f s' = f s

@[simp] theorem PxResult.state?_ite (c : Prop) [Decidable c] (a b : PxResult) :
    (if c then a else b).state? = if c then a.state? else b.state? := by split <;> rfl

@[simp] theorem State.pxRun_now (s : State) (q : PxReq) (o : ObjDef) (i j service ty : Nat) (signed data old : Bytes) (code : Nat)
    (e : PxEffect) (h : PxEffect.Keeps e State.now) : (s.pxRun q o i j service ty signed data old code e).now = s.now := by
  unfold State.pxRun
  cases hd : s.pxDuplicate q service (o.index + i) (o.sub + j) ty signed with
  | some x => simp [hd]
  | none =>
    cases ha : s.pxAuthorise q service (o.index + i) (o.sub + j) ty signed with
    | none => simp [hd, ha]
    | some p =>
      obtain ⟨role, counter⟩ := p
      have h1 := h ((s.pxAccept q counter).bump Obj.pxRequests)
      cases hs : e ((s.pxAccept q counter).bump Obj.pxRequests) with
      | ok x => have h2 := h1 x (by rw [hs]; rfl); simp at h2; simp [hd, ha, hs, h2]
      | refuse c => simp [hd, ha, hs]
      | refuseIn x c => have h2 := h1 x (by rw [hs]; rfl); simp at h2; simp [hd, ha, hs, h2]
      | defer => simp [hd, ha, hs]
@[simp] theorem State.pxBlock_now (s : State) (q : PxReq) (o : ObjDef) (i j : Nat) (data : Bytes)
    (e : PxEffect) (h : PxEffect.Keeps e State.now) : (s.pxBlock q o i j data e).now = s.now := by
  unfold State.pxBlock
  split
  · exact State.pxRun_now _ _ _ _ _ _ _ _ _ _ _ _ h
  · simp
@[simp] theorem State.pxWriteOld_now (s : State) (q : PxReq) (o : ObjDef) (i j ty : Nat) (data old : Bytes)
    (e : PxEffect) (h : PxEffect.Keeps e State.now) : (s.pxWriteOld q o i j ty data old e).now = s.now := by
  unfold State.pxWriteOld
  dsimp only
  split
  · exact State.pxRun_now _ _ _ _ _ _ _ _ _ _ _ _ h
  · simp
@[simp] theorem State.pxWrite_now (s : State) (q : PxReq) (o : ObjDef) (i j ty : Nat) (data : Bytes)
    (e : PxEffect) (h : PxEffect.Keeps e State.now) : (s.pxWrite q o i j ty data e).now = s.now := by
  unfold State.pxWrite; exact State.pxWriteOld_now _ _ _ _ _ _ _ _ _ h
@[simp] theorem State.pxWriteNat_now (s : State) (q : PxReq) (o : ObjDef) (i j v : Nat)
    (e : PxEffect) (h : PxEffect.Keeps e State.now) : (s.pxWriteNat q o i j v e).now = s.now := by
  unfold State.pxWriteNat; exact State.pxWrite_now _ _ _ _ _ _ _ _ h
@[simp] theorem State.pxRun_ringOffset (s : State) (q : PxReq) (o : ObjDef) (i j service ty : Nat) (signed data old : Bytes) (code : Nat)
    (e : PxEffect) (h : PxEffect.Keeps e State.ringOffset) : (s.pxRun q o i j service ty signed data old code e).ringOffset = s.ringOffset := by
  unfold State.pxRun
  cases hd : s.pxDuplicate q service (o.index + i) (o.sub + j) ty signed with
  | some x => simp [hd]
  | none =>
    cases ha : s.pxAuthorise q service (o.index + i) (o.sub + j) ty signed with
    | none => simp [hd, ha]
    | some p =>
      obtain ⟨role, counter⟩ := p
      have h1 := h ((s.pxAccept q counter).bump Obj.pxRequests)
      cases hs : e ((s.pxAccept q counter).bump Obj.pxRequests) with
      | ok x => have h2 := h1 x (by rw [hs]; rfl); simp at h2; simp [hd, ha, hs, h2]
      | refuse c => simp [hd, ha, hs]
      | refuseIn x c => have h2 := h1 x (by rw [hs]; rfl); simp at h2; simp [hd, ha, hs, h2]
      | defer => simp [hd, ha, hs]
@[simp] theorem State.pxBlock_ringOffset (s : State) (q : PxReq) (o : ObjDef) (i j : Nat) (data : Bytes)
    (e : PxEffect) (h : PxEffect.Keeps e State.ringOffset) : (s.pxBlock q o i j data e).ringOffset = s.ringOffset := by
  unfold State.pxBlock
  split
  · exact State.pxRun_ringOffset _ _ _ _ _ _ _ _ _ _ _ _ h
  · simp
@[simp] theorem State.pxWriteOld_ringOffset (s : State) (q : PxReq) (o : ObjDef) (i j ty : Nat) (data old : Bytes)
    (e : PxEffect) (h : PxEffect.Keeps e State.ringOffset) : (s.pxWriteOld q o i j ty data old e).ringOffset = s.ringOffset := by
  unfold State.pxWriteOld
  dsimp only
  split
  · exact State.pxRun_ringOffset _ _ _ _ _ _ _ _ _ _ _ _ h
  · simp
@[simp] theorem State.pxWrite_ringOffset (s : State) (q : PxReq) (o : ObjDef) (i j ty : Nat) (data : Bytes)
    (e : PxEffect) (h : PxEffect.Keeps e State.ringOffset) : (s.pxWrite q o i j ty data e).ringOffset = s.ringOffset := by
  unfold State.pxWrite; exact State.pxWriteOld_ringOffset _ _ _ _ _ _ _ _ _ h
@[simp] theorem State.pxWriteNat_ringOffset (s : State) (q : PxReq) (o : ObjDef) (i j v : Nat)
    (e : PxEffect) (h : PxEffect.Keeps e State.ringOffset) : (s.pxWriteNat q o i j v e).ringOffset = s.ringOffset := by
  unfold State.pxWriteNat; exact State.pxWrite_ringOffset _ _ _ _ _ _ _ _ h
@[simp] theorem State.pxRun_pending (s : State) (q : PxReq) (o : ObjDef) (i j service ty : Nat) (signed data old : Bytes) (code : Nat)
    (e : PxEffect) (h : PxEffect.Keeps e State.pending) : (s.pxRun q o i j service ty signed data old code e).pending = s.pending := by
  unfold State.pxRun
  cases hd : s.pxDuplicate q service (o.index + i) (o.sub + j) ty signed with
  | some x => simp [hd]
  | none =>
    cases ha : s.pxAuthorise q service (o.index + i) (o.sub + j) ty signed with
    | none => simp [hd, ha]
    | some p =>
      obtain ⟨role, counter⟩ := p
      have h1 := h ((s.pxAccept q counter).bump Obj.pxRequests)
      cases hs : e ((s.pxAccept q counter).bump Obj.pxRequests) with
      | ok x => have h2 := h1 x (by rw [hs]; rfl); simp at h2; simp [hd, ha, hs, h2]
      | refuse c => simp [hd, ha, hs]
      | refuseIn x c => have h2 := h1 x (by rw [hs]; rfl); simp at h2; simp [hd, ha, hs, h2]
      | defer => simp [hd, ha, hs]
@[simp] theorem State.pxBlock_pending (s : State) (q : PxReq) (o : ObjDef) (i j : Nat) (data : Bytes)
    (e : PxEffect) (h : PxEffect.Keeps e State.pending) : (s.pxBlock q o i j data e).pending = s.pending := by
  unfold State.pxBlock
  split
  · exact State.pxRun_pending _ _ _ _ _ _ _ _ _ _ _ _ h
  · simp
@[simp] theorem State.pxWriteOld_pending (s : State) (q : PxReq) (o : ObjDef) (i j ty : Nat) (data old : Bytes)
    (e : PxEffect) (h : PxEffect.Keeps e State.pending) : (s.pxWriteOld q o i j ty data old e).pending = s.pending := by
  unfold State.pxWriteOld
  dsimp only
  split
  · exact State.pxRun_pending _ _ _ _ _ _ _ _ _ _ _ _ h
  · simp
@[simp] theorem State.pxWrite_pending (s : State) (q : PxReq) (o : ObjDef) (i j ty : Nat) (data : Bytes)
    (e : PxEffect) (h : PxEffect.Keeps e State.pending) : (s.pxWrite q o i j ty data e).pending = s.pending := by
  unfold State.pxWrite; exact State.pxWriteOld_pending _ _ _ _ _ _ _ _ _ h
@[simp] theorem State.pxWriteNat_pending (s : State) (q : PxReq) (o : ObjDef) (i j v : Nat)
    (e : PxEffect) (h : PxEffect.Keeps e State.pending) : (s.pxWriteNat q o i j v e).pending = s.pending := by
  unfold State.pxWriteNat; exact State.pxWrite_pending _ _ _ _ _ _ _ _ h
@[simp] theorem State.pxRun_pm (s : State) (q : PxReq) (o : ObjDef) (i j service ty : Nat) (signed data old : Bytes) (code : Nat)
    (e : PxEffect) (h : PxEffect.Keeps e State.pm) : (s.pxRun q o i j service ty signed data old code e).pm = s.pm := by
  unfold State.pxRun
  cases hd : s.pxDuplicate q service (o.index + i) (o.sub + j) ty signed with
  | some x => simp [hd]
  | none =>
    cases ha : s.pxAuthorise q service (o.index + i) (o.sub + j) ty signed with
    | none => simp [hd, ha]
    | some p =>
      obtain ⟨role, counter⟩ := p
      have h1 := h ((s.pxAccept q counter).bump Obj.pxRequests)
      cases hs : e ((s.pxAccept q counter).bump Obj.pxRequests) with
      | ok x => have h2 := h1 x (by rw [hs]; rfl); simp at h2; simp [hd, ha, hs, h2]
      | refuse c => simp [hd, ha, hs]
      | refuseIn x c => have h2 := h1 x (by rw [hs]; rfl); simp at h2; simp [hd, ha, hs, h2]
      | defer => simp [hd, ha, hs]
@[simp] theorem State.pxBlock_pm (s : State) (q : PxReq) (o : ObjDef) (i j : Nat) (data : Bytes)
    (e : PxEffect) (h : PxEffect.Keeps e State.pm) : (s.pxBlock q o i j data e).pm = s.pm := by
  unfold State.pxBlock
  split
  · exact State.pxRun_pm _ _ _ _ _ _ _ _ _ _ _ _ h
  · simp
@[simp] theorem State.pxWriteOld_pm (s : State) (q : PxReq) (o : ObjDef) (i j ty : Nat) (data old : Bytes)
    (e : PxEffect) (h : PxEffect.Keeps e State.pm) : (s.pxWriteOld q o i j ty data old e).pm = s.pm := by
  unfold State.pxWriteOld
  dsimp only
  split
  · exact State.pxRun_pm _ _ _ _ _ _ _ _ _ _ _ _ h
  · simp
@[simp] theorem State.pxWrite_pm (s : State) (q : PxReq) (o : ObjDef) (i j ty : Nat) (data : Bytes)
    (e : PxEffect) (h : PxEffect.Keeps e State.pm) : (s.pxWrite q o i j ty data e).pm = s.pm := by
  unfold State.pxWrite; exact State.pxWriteOld_pm _ _ _ _ _ _ _ _ _ h
@[simp] theorem State.pxWriteNat_pm (s : State) (q : PxReq) (o : ObjDef) (i j v : Nat)
    (e : PxEffect) (h : PxEffect.Keeps e State.pm) : (s.pxWriteNat q o i j v e).pm = s.pm := by
  unfold State.pxWriteNat; exact State.pxWrite_pm _ _ _ _ _ _ _ _ h
@[simp] theorem State.pxRun_trngCount (s : State) (q : PxReq) (o : ObjDef) (i j service ty : Nat) (signed data old : Bytes) (code : Nat)
    (e : PxEffect) (h : PxEffect.Keeps e State.trngCount) : (s.pxRun q o i j service ty signed data old code e).trngCount = s.trngCount := by
  unfold State.pxRun
  cases hd : s.pxDuplicate q service (o.index + i) (o.sub + j) ty signed with
  | some x => simp [hd]
  | none =>
    cases ha : s.pxAuthorise q service (o.index + i) (o.sub + j) ty signed with
    | none => simp [hd, ha]
    | some p =>
      obtain ⟨role, counter⟩ := p
      have h1 := h ((s.pxAccept q counter).bump Obj.pxRequests)
      cases hs : e ((s.pxAccept q counter).bump Obj.pxRequests) with
      | ok x => have h2 := h1 x (by rw [hs]; rfl); simp at h2; simp [hd, ha, hs, h2]
      | refuse c => simp [hd, ha, hs]
      | refuseIn x c => have h2 := h1 x (by rw [hs]; rfl); simp at h2; simp [hd, ha, hs, h2]
      | defer => simp [hd, ha, hs]
@[simp] theorem State.pxBlock_trngCount (s : State) (q : PxReq) (o : ObjDef) (i j : Nat) (data : Bytes)
    (e : PxEffect) (h : PxEffect.Keeps e State.trngCount) : (s.pxBlock q o i j data e).trngCount = s.trngCount := by
  unfold State.pxBlock
  split
  · exact State.pxRun_trngCount _ _ _ _ _ _ _ _ _ _ _ _ h
  · simp
@[simp] theorem State.pxWriteOld_trngCount (s : State) (q : PxReq) (o : ObjDef) (i j ty : Nat) (data old : Bytes)
    (e : PxEffect) (h : PxEffect.Keeps e State.trngCount) : (s.pxWriteOld q o i j ty data old e).trngCount = s.trngCount := by
  unfold State.pxWriteOld
  dsimp only
  split
  · exact State.pxRun_trngCount _ _ _ _ _ _ _ _ _ _ _ _ h
  · simp
@[simp] theorem State.pxWrite_trngCount (s : State) (q : PxReq) (o : ObjDef) (i j ty : Nat) (data : Bytes)
    (e : PxEffect) (h : PxEffect.Keeps e State.trngCount) : (s.pxWrite q o i j ty data e).trngCount = s.trngCount := by
  unfold State.pxWrite; exact State.pxWriteOld_trngCount _ _ _ _ _ _ _ _ _ h
@[simp] theorem State.pxWriteNat_trngCount (s : State) (q : PxReq) (o : ObjDef) (i j v : Nat)
    (e : PxEffect) (h : PxEffect.Keeps e State.trngCount) : (s.pxWriteNat q o i j v e).trngCount = s.trngCount := by
  unfold State.pxWriteNat; exact State.pxWrite_trngCount _ _ _ _ _ _ _ _ h
@[simp] theorem State.pxRun_supply (s : State) (q : PxReq) (o : ObjDef) (i j service ty : Nat) (signed data old : Bytes) (code : Nat)
    (e : PxEffect) (h : PxEffect.Keeps e State.supply) : (s.pxRun q o i j service ty signed data old code e).supply = s.supply := by
  unfold State.pxRun
  cases hd : s.pxDuplicate q service (o.index + i) (o.sub + j) ty signed with
  | some x => simp [hd]
  | none =>
    cases ha : s.pxAuthorise q service (o.index + i) (o.sub + j) ty signed with
    | none => simp [hd, ha]
    | some p =>
      obtain ⟨role, counter⟩ := p
      have h1 := h ((s.pxAccept q counter).bump Obj.pxRequests)
      cases hs : e ((s.pxAccept q counter).bump Obj.pxRequests) with
      | ok x => have h2 := h1 x (by rw [hs]; rfl); simp at h2; simp [hd, ha, hs, h2]
      | refuse c => simp [hd, ha, hs]
      | refuseIn x c => have h2 := h1 x (by rw [hs]; rfl); simp at h2; simp [hd, ha, hs, h2]
      | defer => simp [hd, ha, hs]
@[simp] theorem State.pxBlock_supply (s : State) (q : PxReq) (o : ObjDef) (i j : Nat) (data : Bytes)
    (e : PxEffect) (h : PxEffect.Keeps e State.supply) : (s.pxBlock q o i j data e).supply = s.supply := by
  unfold State.pxBlock
  split
  · exact State.pxRun_supply _ _ _ _ _ _ _ _ _ _ _ _ h
  · simp
@[simp] theorem State.pxWriteOld_supply (s : State) (q : PxReq) (o : ObjDef) (i j ty : Nat) (data old : Bytes)
    (e : PxEffect) (h : PxEffect.Keeps e State.supply) : (s.pxWriteOld q o i j ty data old e).supply = s.supply := by
  unfold State.pxWriteOld
  dsimp only
  split
  · exact State.pxRun_supply _ _ _ _ _ _ _ _ _ _ _ _ h
  · simp
@[simp] theorem State.pxWrite_supply (s : State) (q : PxReq) (o : ObjDef) (i j ty : Nat) (data : Bytes)
    (e : PxEffect) (h : PxEffect.Keeps e State.supply) : (s.pxWrite q o i j ty data e).supply = s.supply := by
  unfold State.pxWrite; exact State.pxWriteOld_supply _ _ _ _ _ _ _ _ _ h
@[simp] theorem State.pxWriteNat_supply (s : State) (q : PxReq) (o : ObjDef) (i j v : Nat)
    (e : PxEffect) (h : PxEffect.Keeps e State.supply) : (s.pxWriteNat q o i j v e).supply = s.supply := by
  unfold State.pxWriteNat; exact State.pxWrite_supply _ _ _ _ _ _ _ _ h
@[simp] theorem State.pxRun_aux (s : State) (q : PxReq) (o : ObjDef) (i j service ty : Nat) (signed data old : Bytes) (code : Nat)
    (e : PxEffect) (h : PxEffect.Keeps e State.aux) : (s.pxRun q o i j service ty signed data old code e).aux = s.aux := by
  unfold State.pxRun
  cases hd : s.pxDuplicate q service (o.index + i) (o.sub + j) ty signed with
  | some x => simp [hd]
  | none =>
    cases ha : s.pxAuthorise q service (o.index + i) (o.sub + j) ty signed with
    | none => simp [hd, ha]
    | some p =>
      obtain ⟨role, counter⟩ := p
      have h1 := h ((s.pxAccept q counter).bump Obj.pxRequests)
      cases hs : e ((s.pxAccept q counter).bump Obj.pxRequests) with
      | ok x => have h2 := h1 x (by rw [hs]; rfl); simp at h2; simp [hd, ha, hs, h2]
      | refuse c => simp [hd, ha, hs]
      | refuseIn x c => have h2 := h1 x (by rw [hs]; rfl); simp at h2; simp [hd, ha, hs, h2]
      | defer => simp [hd, ha, hs]
@[simp] theorem State.pxBlock_aux (s : State) (q : PxReq) (o : ObjDef) (i j : Nat) (data : Bytes)
    (e : PxEffect) (h : PxEffect.Keeps e State.aux) : (s.pxBlock q o i j data e).aux = s.aux := by
  unfold State.pxBlock
  split
  · exact State.pxRun_aux _ _ _ _ _ _ _ _ _ _ _ _ h
  · simp
@[simp] theorem State.pxWriteOld_aux (s : State) (q : PxReq) (o : ObjDef) (i j ty : Nat) (data old : Bytes)
    (e : PxEffect) (h : PxEffect.Keeps e State.aux) : (s.pxWriteOld q o i j ty data old e).aux = s.aux := by
  unfold State.pxWriteOld
  dsimp only
  split
  · exact State.pxRun_aux _ _ _ _ _ _ _ _ _ _ _ _ h
  · simp
@[simp] theorem State.pxWrite_aux (s : State) (q : PxReq) (o : ObjDef) (i j ty : Nat) (data : Bytes)
    (e : PxEffect) (h : PxEffect.Keeps e State.aux) : (s.pxWrite q o i j ty data e).aux = s.aux := by
  unfold State.pxWrite; exact State.pxWriteOld_aux _ _ _ _ _ _ _ _ _ h
@[simp] theorem State.pxWriteNat_aux (s : State) (q : PxReq) (o : ObjDef) (i j v : Nat)
    (e : PxEffect) (h : PxEffect.Keeps e State.aux) : (s.pxWriteNat q o i j v e).aux = s.aux := by
  unfold State.pxWriteNat; exact State.pxWrite_aux _ _ _ _ _ _ _ _ h
@[simp] theorem State.pxRun_itg (s : State) (q : PxReq) (o : ObjDef) (i j service ty : Nat) (signed data old : Bytes) (code : Nat)
    (e : PxEffect) (h : PxEffect.Keeps e State.itg) : (s.pxRun q o i j service ty signed data old code e).itg = s.itg := by
  unfold State.pxRun
  cases hd : s.pxDuplicate q service (o.index + i) (o.sub + j) ty signed with
  | some x => simp [hd]
  | none =>
    cases ha : s.pxAuthorise q service (o.index + i) (o.sub + j) ty signed with
    | none => simp [hd, ha]
    | some p =>
      obtain ⟨role, counter⟩ := p
      have h1 := h ((s.pxAccept q counter).bump Obj.pxRequests)
      cases hs : e ((s.pxAccept q counter).bump Obj.pxRequests) with
      | ok x => have h2 := h1 x (by rw [hs]; rfl); simp at h2; simp [hd, ha, hs, h2]
      | refuse c => simp [hd, ha, hs]
      | refuseIn x c => have h2 := h1 x (by rw [hs]; rfl); simp at h2; simp [hd, ha, hs, h2]
      | defer => simp [hd, ha, hs]
@[simp] theorem State.pxBlock_itg (s : State) (q : PxReq) (o : ObjDef) (i j : Nat) (data : Bytes)
    (e : PxEffect) (h : PxEffect.Keeps e State.itg) : (s.pxBlock q o i j data e).itg = s.itg := by
  unfold State.pxBlock
  split
  · exact State.pxRun_itg _ _ _ _ _ _ _ _ _ _ _ _ h
  · simp
@[simp] theorem State.pxWriteOld_itg (s : State) (q : PxReq) (o : ObjDef) (i j ty : Nat) (data old : Bytes)
    (e : PxEffect) (h : PxEffect.Keeps e State.itg) : (s.pxWriteOld q o i j ty data old e).itg = s.itg := by
  unfold State.pxWriteOld
  dsimp only
  split
  · exact State.pxRun_itg _ _ _ _ _ _ _ _ _ _ _ _ h
  · simp
@[simp] theorem State.pxWrite_itg (s : State) (q : PxReq) (o : ObjDef) (i j ty : Nat) (data : Bytes)
    (e : PxEffect) (h : PxEffect.Keeps e State.itg) : (s.pxWrite q o i j ty data e).itg = s.itg := by
  unfold State.pxWrite; exact State.pxWriteOld_itg _ _ _ _ _ _ _ _ _ h
@[simp] theorem State.pxWriteNat_itg (s : State) (q : PxReq) (o : ObjDef) (i j v : Nat)
    (e : PxEffect) (h : PxEffect.Keeps e State.itg) : (s.pxWriteNat q o i j v e).itg = s.itg := by
  unfold State.pxWriteNat; exact State.pxWrite_itg _ _ _ _ _ _ _ _ h
@[simp] theorem State.pxRun_est (s : State) (q : PxReq) (o : ObjDef) (i j service ty : Nat) (signed data old : Bytes) (code : Nat)
    (e : PxEffect) (h : PxEffect.Keeps e State.est) : (s.pxRun q o i j service ty signed data old code e).est = s.est := by
  unfold State.pxRun
  cases hd : s.pxDuplicate q service (o.index + i) (o.sub + j) ty signed with
  | some x => simp [hd]
  | none =>
    cases ha : s.pxAuthorise q service (o.index + i) (o.sub + j) ty signed with
    | none => simp [hd, ha]
    | some p =>
      obtain ⟨role, counter⟩ := p
      have h1 := h ((s.pxAccept q counter).bump Obj.pxRequests)
      cases hs : e ((s.pxAccept q counter).bump Obj.pxRequests) with
      | ok x => have h2 := h1 x (by rw [hs]; rfl); simp at h2; simp [hd, ha, hs, h2]
      | refuse c => simp [hd, ha, hs]
      | refuseIn x c => have h2 := h1 x (by rw [hs]; rfl); simp at h2; simp [hd, ha, hs, h2]
      | defer => simp [hd, ha, hs]
@[simp] theorem State.pxBlock_est (s : State) (q : PxReq) (o : ObjDef) (i j : Nat) (data : Bytes)
    (e : PxEffect) (h : PxEffect.Keeps e State.est) : (s.pxBlock q o i j data e).est = s.est := by
  unfold State.pxBlock
  split
  · exact State.pxRun_est _ _ _ _ _ _ _ _ _ _ _ _ h
  · simp
@[simp] theorem State.pxWriteOld_est (s : State) (q : PxReq) (o : ObjDef) (i j ty : Nat) (data old : Bytes)
    (e : PxEffect) (h : PxEffect.Keeps e State.est) : (s.pxWriteOld q o i j ty data old e).est = s.est := by
  unfold State.pxWriteOld
  dsimp only
  split
  · exact State.pxRun_est _ _ _ _ _ _ _ _ _ _ _ _ h
  · simp
@[simp] theorem State.pxWrite_est (s : State) (q : PxReq) (o : ObjDef) (i j ty : Nat) (data : Bytes)
    (e : PxEffect) (h : PxEffect.Keeps e State.est) : (s.pxWrite q o i j ty data e).est = s.est := by
  unfold State.pxWrite; exact State.pxWriteOld_est _ _ _ _ _ _ _ _ _ h
@[simp] theorem State.pxWriteNat_est (s : State) (q : PxReq) (o : ObjDef) (i j v : Nat)
    (e : PxEffect) (h : PxEffect.Keeps e State.est) : (s.pxWriteNat q o i j v e).est = s.est := by
  unfold State.pxWriteNat; exact State.pxWrite_est _ _ _ _ _ _ _ _ h
@[simp] theorem State.pxRun_lp (s : State) (q : PxReq) (o : ObjDef) (i j service ty : Nat) (signed data old : Bytes) (code : Nat)
    (e : PxEffect) (h : PxEffect.Keeps e State.lp) : (s.pxRun q o i j service ty signed data old code e).lp = s.lp := by
  unfold State.pxRun
  cases hd : s.pxDuplicate q service (o.index + i) (o.sub + j) ty signed with
  | some x => simp [hd]
  | none =>
    cases ha : s.pxAuthorise q service (o.index + i) (o.sub + j) ty signed with
    | none => simp [hd, ha]
    | some p =>
      obtain ⟨role, counter⟩ := p
      have h1 := h ((s.pxAccept q counter).bump Obj.pxRequests)
      cases hs : e ((s.pxAccept q counter).bump Obj.pxRequests) with
      | ok x => have h2 := h1 x (by rw [hs]; rfl); simp at h2; simp [hd, ha, hs, h2]
      | refuse c => simp [hd, ha, hs]
      | refuseIn x c => have h2 := h1 x (by rw [hs]; rfl); simp at h2; simp [hd, ha, hs, h2]
      | defer => simp [hd, ha, hs]
@[simp] theorem State.pxBlock_lp (s : State) (q : PxReq) (o : ObjDef) (i j : Nat) (data : Bytes)
    (e : PxEffect) (h : PxEffect.Keeps e State.lp) : (s.pxBlock q o i j data e).lp = s.lp := by
  unfold State.pxBlock
  split
  · exact State.pxRun_lp _ _ _ _ _ _ _ _ _ _ _ _ h
  · simp
@[simp] theorem State.pxWriteOld_lp (s : State) (q : PxReq) (o : ObjDef) (i j ty : Nat) (data old : Bytes)
    (e : PxEffect) (h : PxEffect.Keeps e State.lp) : (s.pxWriteOld q o i j ty data old e).lp = s.lp := by
  unfold State.pxWriteOld
  dsimp only
  split
  · exact State.pxRun_lp _ _ _ _ _ _ _ _ _ _ _ _ h
  · simp
@[simp] theorem State.pxWrite_lp (s : State) (q : PxReq) (o : ObjDef) (i j ty : Nat) (data : Bytes)
    (e : PxEffect) (h : PxEffect.Keeps e State.lp) : (s.pxWrite q o i j ty data e).lp = s.lp := by
  unfold State.pxWrite; exact State.pxWriteOld_lp _ _ _ _ _ _ _ _ _ h
@[simp] theorem State.pxWriteNat_lp (s : State) (q : PxReq) (o : ObjDef) (i j v : Nat)
    (e : PxEffect) (h : PxEffect.Keeps e State.lp) : (s.pxWriteNat q o i j v e).lp = s.lp := by
  unfold State.pxWriteNat; exact State.pxWrite_lp _ _ _ _ _ _ _ _ h
@[simp] theorem State.pxRun_sent (s : State) (q : PxReq) (o : ObjDef) (i j service ty : Nat) (signed data old : Bytes) (code : Nat)
    (e : PxEffect) (h : PxEffect.Keeps e State.sent) : (s.pxRun q o i j service ty signed data old code e).sent = s.sent := by
  unfold State.pxRun
  cases hd : s.pxDuplicate q service (o.index + i) (o.sub + j) ty signed with
  | some x => simp [hd]
  | none =>
    cases ha : s.pxAuthorise q service (o.index + i) (o.sub + j) ty signed with
    | none => simp [hd, ha]
    | some p =>
      obtain ⟨role, counter⟩ := p
      have h1 := h ((s.pxAccept q counter).bump Obj.pxRequests)
      cases hs : e ((s.pxAccept q counter).bump Obj.pxRequests) with
      | ok x => have h2 := h1 x (by rw [hs]; rfl); simp at h2; simp [hd, ha, hs, h2]
      | refuse c => simp [hd, ha, hs]
      | refuseIn x c => have h2 := h1 x (by rw [hs]; rfl); simp at h2; simp [hd, ha, hs, h2]
      | defer => simp [hd, ha, hs]
@[simp] theorem State.pxBlock_sent (s : State) (q : PxReq) (o : ObjDef) (i j : Nat) (data : Bytes)
    (e : PxEffect) (h : PxEffect.Keeps e State.sent) : (s.pxBlock q o i j data e).sent = s.sent := by
  unfold State.pxBlock
  split
  · exact State.pxRun_sent _ _ _ _ _ _ _ _ _ _ _ _ h
  · simp
@[simp] theorem State.pxWriteOld_sent (s : State) (q : PxReq) (o : ObjDef) (i j ty : Nat) (data old : Bytes)
    (e : PxEffect) (h : PxEffect.Keeps e State.sent) : (s.pxWriteOld q o i j ty data old e).sent = s.sent := by
  unfold State.pxWriteOld
  dsimp only
  split
  · exact State.pxRun_sent _ _ _ _ _ _ _ _ _ _ _ _ h
  · simp
@[simp] theorem State.pxWrite_sent (s : State) (q : PxReq) (o : ObjDef) (i j ty : Nat) (data : Bytes)
    (e : PxEffect) (h : PxEffect.Keeps e State.sent) : (s.pxWrite q o i j ty data e).sent = s.sent := by
  unfold State.pxWrite; exact State.pxWriteOld_sent _ _ _ _ _ _ _ _ _ h
@[simp] theorem State.pxWriteNat_sent (s : State) (q : PxReq) (o : ObjDef) (i j v : Nat)
    (e : PxEffect) (h : PxEffect.Keeps e State.sent) : (s.pxWriteNat q o i j v e).sent = s.sent := by
  unfold State.pxWriteNat; exact State.pxWrite_sent _ _ _ _ _ _ _ _ h
@[simp] theorem State.firstCopy_frame (s : State) (h : SlotHdr) :
    (State.firstCopy s h).2.now = s.now ∧ (State.firstCopy s h).2.ringOffset = s.ringOffset ∧ (State.firstCopy s h).2.pending = s.pending ∧
      (State.firstCopy s h).2.dict = s.dict ∧ (State.firstCopy s h).2.pm = s.pm ∧ (State.firstCopy s h).2.out = s.out ∧
      (State.firstCopy s h).2.trngCount = s.trngCount ∧ (State.firstCopy s h).2.ident = s.ident ∧
      (State.firstCopy s h).2.supply = s.supply ∧ (State.firstCopy s h).2.md = s.md ∧ (State.firstCopy s h).2.tm = s.tm ∧
      (State.firstCopy s h).2.meas = s.meas ∧ (State.firstCopy s h).2.aux = s.aux ∧ (State.firstCopy s h).2.itg = s.itg ∧
      (State.firstCopy s h).2.bal = s.bal ∧ (State.firstCopy s h).2.hio = s.hio ∧ (State.firstCopy s h).2.est = s.est ∧
      (State.firstCopy s h).2.lp = s.lp ∧ (State.firstCopy s h).2.can = s.can ∧ (State.firstCopy s h).2.px = s.px ∧
      (State.firstCopy s h).2.flt = s.flt ∧ (State.firstCopy s h).2.sent = s.sent ∧ (State.firstCopy s h).2.rcd = s.rcd ∧
      (State.firstCopy s h).2.mgmt = s.mgmt := by
  simp only [State.firstCopy]
  refine ⟨?_, ?_, ?_, ?_, ?_, ?_, ?_, ?_, ?_, ?_, ?_, ?_, ?_, ?_, ?_, ?_, ?_, ?_, ?_, ?_, ?_, ?_, ?_, ?_⟩ <;> (repeat' split) <;> simp
@[simp] theorem State.arrive_frame (s : State) (h : SlotHdr) (payload : Bytes) :
    (State.arrive s h payload).1.now = s.now ∧ (State.arrive s h payload).1.ringOffset = s.ringOffset ∧
      (State.arrive s h payload).1.pending = s.pending ∧ (State.arrive s h payload).1.pm = s.pm ∧
      (State.arrive s h payload).1.trngCount = s.trngCount ∧ (State.arrive s h payload).1.ident = s.ident ∧
      (State.arrive s h payload).1.supply = s.supply ∧ (State.arrive s h payload).1.md = s.md ∧ (State.arrive s h payload).1.tm = s.tm ∧
      (State.arrive s h payload).1.meas = s.meas ∧ (State.arrive s h payload).1.aux = s.aux ∧ (State.arrive s h payload).1.itg = s.itg ∧
      (State.arrive s h payload).1.bal = s.bal ∧ (State.arrive s h payload).1.hio = s.hio ∧ (State.arrive s h payload).1.est = s.est ∧
      (State.arrive s h payload).1.lp = s.lp ∧ (State.arrive s h payload).1.can = s.can ∧ (State.arrive s h payload).1.px = s.px ∧
      (State.arrive s h payload).1.flt = s.flt ∧ (State.arrive s h payload).1.sent = s.sent ∧ (State.arrive s h payload).1.rcd = s.rcd ∧
      (State.arrive s h payload).1.mgmt = s.mgmt := by
  unfold State.arrive
  refine ⟨?_, ?_, ?_, ?_, ?_, ?_, ?_, ?_, ?_, ?_, ?_, ?_, ?_, ?_, ?_, ?_, ?_, ?_, ?_, ?_, ?_, ?_⟩ <;> (repeat' split) <;> simp
@[simp] theorem State.ringRx_frame (s : State) (rx : SlotRx) (payload : Bytes) :
    (State.ringRx s rx payload).1.now = s.now ∧ (State.ringRx s rx payload).1.ringOffset = s.ringOffset ∧
      (State.ringRx s rx payload).1.pending = s.pending ∧ (State.ringRx s rx payload).1.pm = s.pm ∧
      (State.ringRx s rx payload).1.trngCount = s.trngCount ∧ (State.ringRx s rx payload).1.ident = s.ident ∧
      (State.ringRx s rx payload).1.supply = s.supply ∧ (State.ringRx s rx payload).1.md = s.md ∧ (State.ringRx s rx payload).1.tm = s.tm ∧
      (State.ringRx s rx payload).1.meas = s.meas ∧ (State.ringRx s rx payload).1.aux = s.aux ∧ (State.ringRx s rx payload).1.itg = s.itg ∧
      (State.ringRx s rx payload).1.bal = s.bal ∧ (State.ringRx s rx payload).1.hio = s.hio ∧ (State.ringRx s rx payload).1.est = s.est ∧
      (State.ringRx s rx payload).1.lp = s.lp ∧ (State.ringRx s rx payload).1.can = s.can ∧ (State.ringRx s rx payload).1.px = s.px ∧
      (State.ringRx s rx payload).1.flt = s.flt ∧ (State.ringRx s rx payload).1.sent = s.sent ∧ (State.ringRx s rx payload).1.rcd = s.rcd ∧
      (State.ringRx s rx payload).1.mgmt = s.mgmt := by
  simp only [State.ringRx]
  refine ⟨?_, ?_, ?_, ?_, ?_, ?_, ?_, ?_, ?_, ?_, ?_, ?_, ?_, ?_, ?_, ?_, ?_, ?_, ?_, ?_, ?_, ?_⟩ <;> (repeat' split) <;> simp
@[simp] theorem State.firstNotice_frame (s : State) (n : Notice) (typ seq : Nat) :
    (State.firstNotice s n typ seq).2.now = s.now ∧ (State.firstNotice s n typ seq).2.ringOffset = s.ringOffset ∧
      (State.firstNotice s n typ seq).2.pending = s.pending ∧ (State.firstNotice s n typ seq).2.dict = s.dict ∧
      (State.firstNotice s n typ seq).2.pm = s.pm ∧ (State.firstNotice s n typ seq).2.out = s.out ∧
      (State.firstNotice s n typ seq).2.trngCount = s.trngCount ∧ (State.firstNotice s n typ seq).2.ident = s.ident ∧
      (State.firstNotice s n typ seq).2.supply = s.supply ∧ (State.firstNotice s n typ seq).2.md = s.md ∧
      (State.firstNotice s n typ seq).2.tm = s.tm ∧ (State.firstNotice s n typ seq).2.meas = s.meas ∧
      (State.firstNotice s n typ seq).2.aux = s.aux ∧ (State.firstNotice s n typ seq).2.itg = s.itg ∧
      (State.firstNotice s n typ seq).2.bal = s.bal ∧ (State.firstNotice s n typ seq).2.hio = s.hio ∧
      (State.firstNotice s n typ seq).2.est = s.est ∧ (State.firstNotice s n typ seq).2.lp = s.lp ∧
      (State.firstNotice s n typ seq).2.ring = s.ring ∧ (State.firstNotice s n typ seq).2.px = s.px ∧
      (State.firstNotice s n typ seq).2.flt = s.flt ∧ (State.firstNotice s n typ seq).2.sent = s.sent ∧
      (State.firstNotice s n typ seq).2.rcd = s.rcd ∧ (State.firstNotice s n typ seq).2.mgmt = s.mgmt := by
  simp only [State.firstNotice]
  refine ⟨?_, ?_, ?_, ?_, ?_, ?_, ?_, ?_, ?_, ?_, ?_, ?_, ?_, ?_, ?_, ?_, ?_, ?_, ?_, ?_, ?_, ?_, ?_, ?_⟩ <;> (repeat' split) <;> simp
@[simp] theorem State.busHeard_frame (s : State) (b : Bus) :
    (State.busHeard s b).now = s.now ∧ (State.busHeard s b).ringOffset = s.ringOffset ∧ (State.busHeard s b).pending = s.pending ∧
      (State.busHeard s b).dict = s.dict ∧ (State.busHeard s b).pm = s.pm ∧ (State.busHeard s b).out = s.out ∧
      (State.busHeard s b).trngCount = s.trngCount ∧ (State.busHeard s b).supply = s.supply ∧ (State.busHeard s b).md = s.md ∧
      (State.busHeard s b).tm = s.tm ∧ (State.busHeard s b).meas = s.meas ∧ (State.busHeard s b).aux = s.aux ∧
      (State.busHeard s b).itg = s.itg ∧ (State.busHeard s b).bal = s.bal ∧ (State.busHeard s b).hio = s.hio ∧
      (State.busHeard s b).est = s.est ∧ (State.busHeard s b).lp = s.lp ∧ (State.busHeard s b).ring = s.ring ∧
      (State.busHeard s b).px = s.px ∧ (State.busHeard s b).flt = s.flt ∧ (State.busHeard s b).sent = s.sent ∧
      (State.busHeard s b).rcd = s.rcd ∧ (State.busHeard s b).mgmt = s.mgmt := by simp [State.busHeard]
@[simp] theorem State.idConflict_frame (s : State) :
    (State.idConflict s).now = s.now ∧ (State.idConflict s).ringOffset = s.ringOffset ∧ (State.idConflict s).pending = s.pending ∧
      (State.idConflict s).pm = s.pm ∧ (State.idConflict s).trngCount = s.trngCount ∧ (State.idConflict s).supply = s.supply ∧
      (State.idConflict s).aux = s.aux ∧ (State.idConflict s).itg = s.itg ∧ (State.idConflict s).est = s.est ∧
      (State.idConflict s).lp = s.lp ∧ (State.idConflict s).px = s.px ∧ (State.idConflict s).sent = s.sent := by simp [State.idConflict]
@[simp] theorem State.noticeRx_frame (s : State) (via : NoticeVia) (typ : Nat) (n : Notice) :
    (State.noticeRx s via typ n).1.now = s.now ∧ (State.noticeRx s via typ n).1.ringOffset = s.ringOffset ∧
      (State.noticeRx s via typ n).1.pending = s.pending ∧ (State.noticeRx s via typ n).1.pm = s.pm ∧
      (State.noticeRx s via typ n).1.trngCount = s.trngCount ∧ (State.noticeRx s via typ n).1.supply = s.supply ∧
      (State.noticeRx s via typ n).1.aux = s.aux ∧ (State.noticeRx s via typ n).1.itg = s.itg ∧
      (State.noticeRx s via typ n).1.est = s.est ∧ (State.noticeRx s via typ n).1.lp = s.lp ∧ (State.noticeRx s via typ n).1.px = s.px ∧
      (State.noticeRx s via typ n).1.sent = s.sent := by
  simp only [State.noticeRx]
  refine ⟨?_, ?_, ?_, ?_, ?_, ?_, ?_, ?_, ?_, ?_, ?_, ?_⟩ <;> (repeat' split) <;> simp
@[simp] theorem State.setMember_frame (s : State) (node : Nat) (m : Member) :
    (State.setMember s node m).now = s.now ∧ (State.setMember s node m).ringOffset = s.ringOffset ∧
      (State.setMember s node m).pending = s.pending ∧ (State.setMember s node m).dict = s.dict ∧ (State.setMember s node m).pm = s.pm ∧
      (State.setMember s node m).out = s.out ∧ (State.setMember s node m).trngCount = s.trngCount ∧
      (State.setMember s node m).supply = s.supply ∧ (State.setMember s node m).md = s.md ∧ (State.setMember s node m).tm = s.tm ∧
      (State.setMember s node m).meas = s.meas ∧ (State.setMember s node m).aux = s.aux ∧ (State.setMember s node m).itg = s.itg ∧
      (State.setMember s node m).bal = s.bal ∧ (State.setMember s node m).hio = s.hio ∧ (State.setMember s node m).est = s.est ∧
      (State.setMember s node m).lp = s.lp ∧ (State.setMember s node m).ring = s.ring ∧ (State.setMember s node m).can = s.can ∧
      (State.setMember s node m).px = s.px ∧ (State.setMember s node m).flt = s.flt ∧ (State.setMember s node m).sent = s.sent ∧
      (State.setMember s node m).rcd = s.rcd ∧ (State.setMember s node m).mgmt = s.mgmt := by simp [State.setMember]
@[simp] theorem State.writeDescriptor_frame (s : State) (d : Descriptor) :
    (State.writeDescriptor s d).now = s.now ∧ (State.writeDescriptor s d).ringOffset = s.ringOffset ∧
      (State.writeDescriptor s d).pending = s.pending ∧ (State.writeDescriptor s d).dict = s.dict ∧
      (State.writeDescriptor s d).out = s.out ∧ (State.writeDescriptor s d).trngCount = s.trngCount ∧
      (State.writeDescriptor s d).ident = s.ident ∧ (State.writeDescriptor s d).supply = s.supply ∧ (State.writeDescriptor s d).md = s.md ∧
      (State.writeDescriptor s d).tm = s.tm ∧ (State.writeDescriptor s d).meas = s.meas ∧ (State.writeDescriptor s d).aux = s.aux ∧
      (State.writeDescriptor s d).itg = s.itg ∧ (State.writeDescriptor s d).bal = s.bal ∧ (State.writeDescriptor s d).hio = s.hio ∧
      (State.writeDescriptor s d).est = s.est ∧ (State.writeDescriptor s d).lp = s.lp ∧ (State.writeDescriptor s d).ring = s.ring ∧
      (State.writeDescriptor s d).can = s.can ∧ (State.writeDescriptor s d).px = s.px ∧ (State.writeDescriptor s d).flt = s.flt ∧
      (State.writeDescriptor s d).sent = s.sent ∧ (State.writeDescriptor s d).rcd = s.rcd ∧
      (State.writeDescriptor s d).mgmt = s.mgmt := by simp [State.writeDescriptor]
@[simp] theorem State.setDesc_frame (s : State) (d : Descriptor) :
    (State.setDesc s d).now = s.now ∧ (State.setDesc s d).ringOffset = s.ringOffset ∧ (State.setDesc s d).pending = s.pending ∧
      (State.setDesc s d).pm = s.pm ∧ (State.setDesc s d).out = s.out ∧ (State.setDesc s d).trngCount = s.trngCount ∧
      (State.setDesc s d).supply = s.supply ∧ (State.setDesc s d).md = s.md ∧ (State.setDesc s d).tm = s.tm ∧
      (State.setDesc s d).meas = s.meas ∧ (State.setDesc s d).aux = s.aux ∧ (State.setDesc s d).itg = s.itg ∧
      (State.setDesc s d).bal = s.bal ∧ (State.setDesc s d).hio = s.hio ∧ (State.setDesc s d).est = s.est ∧ (State.setDesc s d).lp = s.lp ∧
      (State.setDesc s d).ring = s.ring ∧ (State.setDesc s d).can = s.can ∧ (State.setDesc s d).px = s.px ∧
      (State.setDesc s d).flt = s.flt ∧ (State.setDesc s d).sent = s.sent ∧ (State.setDesc s d).rcd = s.rcd ∧
      (State.setDesc s d).mgmt = s.mgmt := by simp [State.setDesc]
@[simp] theorem State.distribute_frame (s : State) (index sub : Nat) (d : Bytes) :
    (State.distribute s index sub d).now = s.now ∧ (State.distribute s index sub d).ringOffset = s.ringOffset ∧
      (State.distribute s index sub d).pending = s.pending ∧ (State.distribute s index sub d).pm = s.pm ∧
      (State.distribute s index sub d).trngCount = s.trngCount ∧ (State.distribute s index sub d).ident = s.ident ∧
      (State.distribute s index sub d).supply = s.supply ∧ (State.distribute s index sub d).md = s.md ∧
      (State.distribute s index sub d).tm = s.tm ∧ (State.distribute s index sub d).meas = s.meas ∧
      (State.distribute s index sub d).aux = s.aux ∧ (State.distribute s index sub d).itg = s.itg ∧
      (State.distribute s index sub d).bal = s.bal ∧ (State.distribute s index sub d).hio = s.hio ∧
      (State.distribute s index sub d).est = s.est ∧ (State.distribute s index sub d).lp = s.lp ∧
      (State.distribute s index sub d).can = s.can ∧ (State.distribute s index sub d).px = s.px ∧
      (State.distribute s index sub d).flt = s.flt ∧ (State.distribute s index sub d).sent = s.sent ∧
      (State.distribute s index sub d).rcd = s.rcd ∧ (State.distribute s index sub d).mgmt = s.mgmt := by simp [State.distribute]
@[simp] theorem State.seqSpent_frame (s : State) :
    (State.seqSpent s).now = s.now ∧ (State.seqSpent s).ringOffset = s.ringOffset ∧ (State.seqSpent s).pending = s.pending ∧
      (State.seqSpent s).pm = s.pm ∧ (State.seqSpent s).trngCount = s.trngCount ∧ (State.seqSpent s).supply = s.supply ∧
      (State.seqSpent s).aux = s.aux ∧ (State.seqSpent s).itg = s.itg ∧ (State.seqSpent s).est = s.est ∧ (State.seqSpent s).lp = s.lp ∧
      (State.seqSpent s).px = s.px ∧ (State.seqSpent s).sent = s.sent := by simp [State.seqSpent]
@[simp] theorem State.rewriteDescriptor_frame (s : State) (d : Descriptor) :
    (State.rewriteDescriptor s d).now = s.now ∧ (State.rewriteDescriptor s d).ringOffset = s.ringOffset ∧
      (State.rewriteDescriptor s d).pending = s.pending ∧ (State.rewriteDescriptor s d).trngCount = s.trngCount ∧
      (State.rewriteDescriptor s d).supply = s.supply ∧ (State.rewriteDescriptor s d).aux = s.aux ∧
      (State.rewriteDescriptor s d).itg = s.itg ∧ (State.rewriteDescriptor s d).est = s.est ∧ (State.rewriteDescriptor s d).lp = s.lp ∧
      (State.rewriteDescriptor s d).px = s.px ∧ (State.rewriteDescriptor s d).sent = s.sent := by simp [State.rewriteDescriptor]
@[simp] theorem State.sendLimit_frame (s : State) (chg dis : Rat) :
    (State.sendLimit s chg dis).now = s.now ∧ (State.sendLimit s chg dis).ringOffset = s.ringOffset ∧
      (State.sendLimit s chg dis).pending = s.pending ∧ (State.sendLimit s chg dis).pm = s.pm ∧
      (State.sendLimit s chg dis).trngCount = s.trngCount ∧ (State.sendLimit s chg dis).ident = s.ident ∧
      (State.sendLimit s chg dis).supply = s.supply ∧ (State.sendLimit s chg dis).md = s.md ∧ (State.sendLimit s chg dis).tm = s.tm ∧
      (State.sendLimit s chg dis).meas = s.meas ∧ (State.sendLimit s chg dis).aux = s.aux ∧ (State.sendLimit s chg dis).itg = s.itg ∧
      (State.sendLimit s chg dis).bal = s.bal ∧ (State.sendLimit s chg dis).est = s.est ∧ (State.sendLimit s chg dis).lp = s.lp ∧
      (State.sendLimit s chg dis).px = s.px ∧ (State.sendLimit s chg dis).flt = s.flt ∧ (State.sendLimit s chg dis).sent = s.sent ∧
      (State.sendLimit s chg dis).rcd = s.rcd ∧ (State.sendLimit s chg dis).mgmt = s.mgmt := by simp [State.sendLimit]
@[simp] theorem State.promptOpen_frame (s : State) :
    (State.promptOpen s).now = s.now ∧ (State.promptOpen s).ringOffset = s.ringOffset ∧ (State.promptOpen s).pending = s.pending ∧
      (State.promptOpen s).pm = s.pm ∧ (State.promptOpen s).trngCount = s.trngCount ∧ (State.promptOpen s).ident = s.ident ∧
      (State.promptOpen s).supply = s.supply ∧ (State.promptOpen s).md = s.md ∧ (State.promptOpen s).tm = s.tm ∧
      (State.promptOpen s).meas = s.meas ∧ (State.promptOpen s).aux = s.aux ∧ (State.promptOpen s).itg = s.itg ∧
      (State.promptOpen s).bal = s.bal ∧ (State.promptOpen s).est = s.est ∧ (State.promptOpen s).lp = s.lp ∧
      (State.promptOpen s).px = s.px ∧ (State.promptOpen s).flt = s.flt ∧ (State.promptOpen s).sent = s.sent ∧
      (State.promptOpen s).rcd = s.rcd ∧ (State.promptOpen s).mgmt = s.mgmt := by simp [State.promptOpen]
@[simp] theorem State.orderlyOpen_frame (s : State) :
    (State.orderlyOpen s).now = s.now ∧ (State.orderlyOpen s).ringOffset = s.ringOffset ∧ (State.orderlyOpen s).pending = s.pending ∧
      (State.orderlyOpen s).pm = s.pm ∧ (State.orderlyOpen s).trngCount = s.trngCount ∧ (State.orderlyOpen s).ident = s.ident ∧
      (State.orderlyOpen s).supply = s.supply ∧ (State.orderlyOpen s).md = s.md ∧ (State.orderlyOpen s).tm = s.tm ∧
      (State.orderlyOpen s).meas = s.meas ∧ (State.orderlyOpen s).aux = s.aux ∧ (State.orderlyOpen s).itg = s.itg ∧
      (State.orderlyOpen s).bal = s.bal ∧ (State.orderlyOpen s).est = s.est ∧ (State.orderlyOpen s).lp = s.lp ∧
      (State.orderlyOpen s).px = s.px ∧ (State.orderlyOpen s).flt = s.flt ∧ (State.orderlyOpen s).sent = s.sent ∧
      (State.orderlyOpen s).rcd = s.rcd ∧ (State.orderlyOpen s).mgmt = s.mgmt := by simp [State.orderlyOpen]
@[simp] theorem State.sendCensus_frame (s : State) (no : Nat) :
    (State.sendCensus s no).now = s.now ∧ (State.sendCensus s no).ringOffset = s.ringOffset ∧ (State.sendCensus s no).pending = s.pending ∧
      (State.sendCensus s no).pm = s.pm ∧ (State.sendCensus s no).trngCount = s.trngCount ∧ (State.sendCensus s no).ident = s.ident ∧
      (State.sendCensus s no).supply = s.supply ∧ (State.sendCensus s no).md = s.md ∧ (State.sendCensus s no).tm = s.tm ∧
      (State.sendCensus s no).meas = s.meas ∧ (State.sendCensus s no).aux = s.aux ∧ (State.sendCensus s no).itg = s.itg ∧
      (State.sendCensus s no).bal = s.bal ∧ (State.sendCensus s no).hio = s.hio ∧ (State.sendCensus s no).est = s.est ∧
      (State.sendCensus s no).lp = s.lp ∧ (State.sendCensus s no).can = s.can ∧ (State.sendCensus s no).px = s.px ∧
      (State.sendCensus s no).flt = s.flt ∧ (State.sendCensus s no).sent = s.sent ∧ (State.sendCensus s no).rcd = s.rcd ∧
      (State.sendCensus s no).mgmt = s.mgmt := by simp [State.sendCensus]
@[simp] theorem State.startCensus_frame (s : State) :
    (State.startCensus s).now = s.now ∧ (State.startCensus s).ringOffset = s.ringOffset ∧ (State.startCensus s).pending = s.pending ∧
      (State.startCensus s).pm = s.pm ∧ (State.startCensus s).trngCount = s.trngCount ∧ (State.startCensus s).ident = s.ident ∧
      (State.startCensus s).supply = s.supply ∧ (State.startCensus s).md = s.md ∧ (State.startCensus s).tm = s.tm ∧
      (State.startCensus s).meas = s.meas ∧ (State.startCensus s).aux = s.aux ∧ (State.startCensus s).itg = s.itg ∧
      (State.startCensus s).bal = s.bal ∧ (State.startCensus s).hio = s.hio ∧ (State.startCensus s).est = s.est ∧
      (State.startCensus s).lp = s.lp ∧ (State.startCensus s).can = s.can ∧ (State.startCensus s).px = s.px ∧
      (State.startCensus s).flt = s.flt ∧ (State.startCensus s).sent = s.sent ∧ (State.startCensus s).rcd = s.rcd ∧
      (State.startCensus s).mgmt = s.mgmt := by simp [State.startCensus]
@[simp] theorem State.designate_frame (s : State) (pack : Nat) :
    (State.designate s pack).now = s.now ∧ (State.designate s pack).ringOffset = s.ringOffset ∧
      (State.designate s pack).pending = s.pending ∧ (State.designate s pack).dict = s.dict ∧ (State.designate s pack).pm = s.pm ∧
      (State.designate s pack).out = s.out ∧ (State.designate s pack).trngCount = s.trngCount ∧
      (State.designate s pack).supply = s.supply ∧ (State.designate s pack).md = s.md ∧ (State.designate s pack).tm = s.tm ∧
      (State.designate s pack).meas = s.meas ∧ (State.designate s pack).aux = s.aux ∧ (State.designate s pack).itg = s.itg ∧
      (State.designate s pack).bal = s.bal ∧ (State.designate s pack).hio = s.hio ∧ (State.designate s pack).est = s.est ∧
      (State.designate s pack).lp = s.lp ∧ (State.designate s pack).ring = s.ring ∧ (State.designate s pack).can = s.can ∧
      (State.designate s pack).px = s.px ∧ (State.designate s pack).sent = s.sent ∧ (State.designate s pack).rcd = s.rcd ∧
      (State.designate s pack).mgmt = s.mgmt := by simp [State.designate]
@[simp] theorem State.takeHead_frame (s : State) (basis : Nat) :
    (State.takeHead s basis).now = s.now ∧ (State.takeHead s basis).pending = s.pending ∧ (State.takeHead s basis).pm = s.pm ∧
      (State.takeHead s basis).out = s.out ∧ (State.takeHead s basis).trngCount = s.trngCount ∧
      (State.takeHead s basis).supply = s.supply ∧ (State.takeHead s basis).md = s.md ∧ (State.takeHead s basis).aux = s.aux ∧
      (State.takeHead s basis).itg = s.itg ∧ (State.takeHead s basis).bal = s.bal ∧ (State.takeHead s basis).est = s.est ∧
      (State.takeHead s basis).lp = s.lp ∧ (State.takeHead s basis).can = s.can ∧ (State.takeHead s basis).px = s.px ∧
      (State.takeHead s basis).sent = s.sent ∧ (State.takeHead s basis).mgmt = s.mgmt := by simp [State.takeHead]
@[simp] theorem State.restoreCkpt_frame (s : State) :
    (State.restoreCkpt s).now = s.now ∧ (State.restoreCkpt s).ringOffset = s.ringOffset ∧ (State.restoreCkpt s).pending = s.pending ∧
      (State.restoreCkpt s).pm = s.pm ∧ (State.restoreCkpt s).out = s.out ∧ (State.restoreCkpt s).trngCount = s.trngCount ∧
      (State.restoreCkpt s).supply = s.supply ∧ (State.restoreCkpt s).md = s.md ∧ (State.restoreCkpt s).tm = s.tm ∧
      (State.restoreCkpt s).meas = s.meas ∧ (State.restoreCkpt s).aux = s.aux ∧ (State.restoreCkpt s).itg = s.itg ∧
      (State.restoreCkpt s).bal = s.bal ∧ (State.restoreCkpt s).est = s.est ∧ (State.restoreCkpt s).lp = s.lp ∧
      (State.restoreCkpt s).ring = s.ring ∧ (State.restoreCkpt s).can = s.can ∧ (State.restoreCkpt s).px = s.px ∧
      (State.restoreCkpt s).flt = s.flt ∧ (State.restoreCkpt s).sent = s.sent ∧ (State.restoreCkpt s).rcd = s.rcd ∧
      (State.restoreCkpt s).mgmt = s.mgmt := by simp [State.restoreCkpt]
@[simp] theorem State.sendHeartbeat_frame (s : State) :
    (State.sendHeartbeat s).now = s.now ∧ (State.sendHeartbeat s).ringOffset = s.ringOffset ∧ (State.sendHeartbeat s).pending = s.pending ∧
      (State.sendHeartbeat s).pm = s.pm ∧ (State.sendHeartbeat s).trngCount = s.trngCount ∧ (State.sendHeartbeat s).ident = s.ident ∧
      (State.sendHeartbeat s).supply = s.supply ∧ (State.sendHeartbeat s).md = s.md ∧ (State.sendHeartbeat s).tm = s.tm ∧
      (State.sendHeartbeat s).meas = s.meas ∧ (State.sendHeartbeat s).aux = s.aux ∧ (State.sendHeartbeat s).itg = s.itg ∧
      (State.sendHeartbeat s).bal = s.bal ∧ (State.sendHeartbeat s).hio = s.hio ∧ (State.sendHeartbeat s).est = s.est ∧
      (State.sendHeartbeat s).lp = s.lp ∧ (State.sendHeartbeat s).px = s.px ∧ (State.sendHeartbeat s).flt = s.flt ∧
      (State.sendHeartbeat s).sent = s.sent ∧ (State.sendHeartbeat s).rcd = s.rcd ∧
      (State.sendHeartbeat s).mgmt = s.mgmt := by simp [State.sendHeartbeat]
@[simp] theorem State.setChan_frame (s : State) (n : Nat) (c : ChanSt) :
    (State.setChan s n c).now = s.now ∧ (State.setChan s n c).ringOffset = s.ringOffset ∧ (State.setChan s n c).pending = s.pending ∧
      (State.setChan s n c).dict = s.dict ∧ (State.setChan s n c).pm = s.pm ∧ (State.setChan s n c).out = s.out ∧
      (State.setChan s n c).trngCount = s.trngCount ∧ (State.setChan s n c).ident = s.ident ∧ (State.setChan s n c).supply = s.supply ∧
      (State.setChan s n c).md = s.md ∧ (State.setChan s n c).tm = s.tm ∧ (State.setChan s n c).aux = s.aux ∧
      (State.setChan s n c).itg = s.itg ∧ (State.setChan s n c).bal = s.bal ∧ (State.setChan s n c).hio = s.hio ∧
      (State.setChan s n c).est = s.est ∧ (State.setChan s n c).lp = s.lp ∧ (State.setChan s n c).ring = s.ring ∧
      (State.setChan s n c).can = s.can ∧ (State.setChan s n c).px = s.px ∧ (State.setChan s n c).flt = s.flt ∧
      (State.setChan s n c).sent = s.sent ∧ (State.setChan s n c).rcd = s.rcd ∧ (State.setChan s n c).mgmt = s.mgmt := by simp [State.setChan]
@[simp] theorem State.settle_frame (s : State) (cells : List Nat) (precOnly : Bool) (since : Nat) :
    (State.settle s cells precOnly since).now = s.now ∧ (State.settle s cells precOnly since).ringOffset = s.ringOffset ∧
      (State.settle s cells precOnly since).pending = s.pending ∧ (State.settle s cells precOnly since).pm = s.pm ∧
      (State.settle s cells precOnly since).out = s.out ∧ (State.settle s cells precOnly since).trngCount = s.trngCount ∧
      (State.settle s cells precOnly since).ident = s.ident ∧ (State.settle s cells precOnly since).supply = s.supply ∧
      (State.settle s cells precOnly since).md = s.md ∧ (State.settle s cells precOnly since).tm = s.tm ∧
      (State.settle s cells precOnly since).aux = s.aux ∧ (State.settle s cells precOnly since).itg = s.itg ∧
      (State.settle s cells precOnly since).bal = s.bal ∧ (State.settle s cells precOnly since).hio = s.hio ∧
      (State.settle s cells precOnly since).est = s.est ∧ (State.settle s cells precOnly since).lp = s.lp ∧
      (State.settle s cells precOnly since).ring = s.ring ∧ (State.settle s cells precOnly since).can = s.can ∧
      (State.settle s cells precOnly since).px = s.px ∧ (State.settle s cells precOnly since).flt = s.flt ∧
      (State.settle s cells precOnly since).sent = s.sent ∧ (State.settle s cells precOnly since).rcd = s.rcd ∧
      (State.settle s cells precOnly since).mgmt = s.mgmt := by simp [State.settle]
@[simp] theorem State.discardWindow_frame (s : State) (start turn : Nat) :
    (State.discardWindow s start turn).now = s.now ∧ (State.discardWindow s start turn).ringOffset = s.ringOffset ∧
      (State.discardWindow s start turn).pending = s.pending ∧ (State.discardWindow s start turn).pm = s.pm ∧
      (State.discardWindow s start turn).out = s.out ∧ (State.discardWindow s start turn).trngCount = s.trngCount ∧
      (State.discardWindow s start turn).ident = s.ident ∧ (State.discardWindow s start turn).supply = s.supply ∧
      (State.discardWindow s start turn).md = s.md ∧ (State.discardWindow s start turn).tm = s.tm ∧
      (State.discardWindow s start turn).itg = s.itg ∧ (State.discardWindow s start turn).bal = s.bal ∧
      (State.discardWindow s start turn).hio = s.hio ∧ (State.discardWindow s start turn).est = s.est ∧
      (State.discardWindow s start turn).lp = s.lp ∧ (State.discardWindow s start turn).ring = s.ring ∧
      (State.discardWindow s start turn).can = s.can ∧ (State.discardWindow s start turn).px = s.px ∧
      (State.discardWindow s start turn).flt = s.flt ∧ (State.discardWindow s start turn).sent = s.sent ∧
      (State.discardWindow s start turn).rcd = s.rcd ∧ (State.discardWindow s start turn).mgmt = s.mgmt := by simp [State.discardWindow]
@[simp] theorem State.toLocal_frame (s : State) :
    (State.toLocal s).now = s.now ∧ (State.toLocal s).ringOffset = s.ringOffset ∧ (State.toLocal s).pending = s.pending ∧
      (State.toLocal s).pm = s.pm ∧ (State.toLocal s).out = s.out ∧ (State.toLocal s).trngCount = s.trngCount ∧
      (State.toLocal s).ident = s.ident ∧ (State.toLocal s).supply = s.supply ∧ (State.toLocal s).md = s.md ∧ (State.toLocal s).tm = s.tm ∧
      (State.toLocal s).itg = s.itg ∧ (State.toLocal s).bal = s.bal ∧ (State.toLocal s).hio = s.hio ∧ (State.toLocal s).est = s.est ∧
      (State.toLocal s).lp = s.lp ∧ (State.toLocal s).ring = s.ring ∧ (State.toLocal s).can = s.can ∧ (State.toLocal s).px = s.px ∧
      (State.toLocal s).flt = s.flt ∧ (State.toLocal s).sent = s.sent ∧ (State.toLocal s).rcd = s.rcd ∧
      (State.toLocal s).mgmt = s.mgmt := by simp [State.toLocal]
@[simp] theorem State.takeAnchor_frame (s : State) (at0 turn m : Nat) :
    (State.takeAnchor s at0 turn m).now = s.now ∧ (State.takeAnchor s at0 turn m).ringOffset = s.ringOffset ∧
      (State.takeAnchor s at0 turn m).pending = s.pending ∧ (State.takeAnchor s at0 turn m).pm = s.pm ∧
      (State.takeAnchor s at0 turn m).out = s.out ∧ (State.takeAnchor s at0 turn m).trngCount = s.trngCount ∧
      (State.takeAnchor s at0 turn m).ident = s.ident ∧ (State.takeAnchor s at0 turn m).supply = s.supply ∧
      (State.takeAnchor s at0 turn m).md = s.md ∧ (State.takeAnchor s at0 turn m).tm = s.tm ∧ (State.takeAnchor s at0 turn m).itg = s.itg ∧
      (State.takeAnchor s at0 turn m).bal = s.bal ∧ (State.takeAnchor s at0 turn m).hio = s.hio ∧
      (State.takeAnchor s at0 turn m).est = s.est ∧ (State.takeAnchor s at0 turn m).lp = s.lp ∧
      (State.takeAnchor s at0 turn m).ring = s.ring ∧ (State.takeAnchor s at0 turn m).can = s.can ∧
      (State.takeAnchor s at0 turn m).px = s.px ∧ (State.takeAnchor s at0 turn m).flt = s.flt ∧
      (State.takeAnchor s at0 turn m).sent = s.sent ∧ (State.takeAnchor s at0 turn m).rcd = s.rcd ∧
      (State.takeAnchor s at0 turn m).mgmt = s.mgmt := by
  unfold State.takeAnchor
  refine ⟨?_, ?_, ?_, ?_, ?_, ?_, ?_, ?_, ?_, ?_, ?_, ?_, ?_, ?_, ?_, ?_, ?_, ?_, ?_, ?_, ?_, ?_⟩ <;> (repeat' split) <;> simp
@[simp] theorem State.takeSpinner_frame (s : State) (r : SpinnerRec) :
    (State.takeSpinner s r).now = s.now ∧ (State.takeSpinner s r).ringOffset = s.ringOffset ∧ (State.takeSpinner s r).pending = s.pending ∧
      (State.takeSpinner s r).pm = s.pm ∧ (State.takeSpinner s r).out = s.out ∧ (State.takeSpinner s r).trngCount = s.trngCount ∧
      (State.takeSpinner s r).ident = s.ident ∧ (State.takeSpinner s r).supply = s.supply ∧ (State.takeSpinner s r).md = s.md ∧
      (State.takeSpinner s r).itg = s.itg ∧ (State.takeSpinner s r).bal = s.bal ∧ (State.takeSpinner s r).hio = s.hio ∧
      (State.takeSpinner s r).est = s.est ∧ (State.takeSpinner s r).lp = s.lp ∧ (State.takeSpinner s r).ring = s.ring ∧
      (State.takeSpinner s r).can = s.can ∧ (State.takeSpinner s r).px = s.px ∧ (State.takeSpinner s r).flt = s.flt ∧
      (State.takeSpinner s r).sent = s.sent ∧ (State.takeSpinner s r).rcd = s.rcd ∧
      (State.takeSpinner s r).mgmt = s.mgmt := by simp [State.takeSpinner]
@[simp] theorem State.calBegin_frame (s : State) (n : Nat) (first : Bool) :
    (State.calBegin s n first).now = s.now ∧ (State.calBegin s n first).ringOffset = s.ringOffset ∧
      (State.calBegin s n first).pending = s.pending ∧ (State.calBegin s n first).pm = s.pm ∧ (State.calBegin s n first).out = s.out ∧
      (State.calBegin s n first).trngCount = s.trngCount ∧ (State.calBegin s n first).ident = s.ident ∧
      (State.calBegin s n first).supply = s.supply ∧ (State.calBegin s n first).md = s.md ∧ (State.calBegin s n first).tm = s.tm ∧
      (State.calBegin s n first).aux = s.aux ∧ (State.calBegin s n first).itg = s.itg ∧ (State.calBegin s n first).bal = s.bal ∧
      (State.calBegin s n first).hio = s.hio ∧ (State.calBegin s n first).est = s.est ∧ (State.calBegin s n first).lp = s.lp ∧
      (State.calBegin s n first).ring = s.ring ∧ (State.calBegin s n first).can = s.can ∧ (State.calBegin s n first).px = s.px ∧
      (State.calBegin s n first).flt = s.flt ∧ (State.calBegin s n first).sent = s.sent ∧
      (State.calBegin s n first).rcd = s.rcd := by simp [State.calBegin]
@[simp] theorem State.calResume_frame (s : State) :
    (State.calResume s).now = s.now ∧ (State.calResume s).ringOffset = s.ringOffset ∧ (State.calResume s).pending = s.pending ∧
      (State.calResume s).pm = s.pm ∧ (State.calResume s).out = s.out ∧ (State.calResume s).trngCount = s.trngCount ∧
      (State.calResume s).ident = s.ident ∧ (State.calResume s).supply = s.supply ∧ (State.calResume s).md = s.md ∧
      (State.calResume s).tm = s.tm ∧ (State.calResume s).aux = s.aux ∧ (State.calResume s).itg = s.itg ∧ (State.calResume s).bal = s.bal ∧
      (State.calResume s).hio = s.hio ∧ (State.calResume s).est = s.est ∧ (State.calResume s).lp = s.lp ∧
      (State.calResume s).ring = s.ring ∧ (State.calResume s).can = s.can ∧ (State.calResume s).px = s.px ∧
      (State.calResume s).flt = s.flt ∧ (State.calResume s).sent = s.sent ∧ (State.calResume s).rcd = s.rcd := by simp [State.calResume]
@[simp] theorem State.timeRecord_frame (s : State) (p : Port) (origin corr : Nat) (wrapped : Bool) :
    (State.timeRecord s p origin corr wrapped).now = s.now ∧ (State.timeRecord s p origin corr wrapped).pending = s.pending ∧
      (State.timeRecord s p origin corr wrapped).pm = s.pm ∧ (State.timeRecord s p origin corr wrapped).out = s.out ∧
      (State.timeRecord s p origin corr wrapped).trngCount = s.trngCount ∧ (State.timeRecord s p origin corr wrapped).ident = s.ident ∧
      (State.timeRecord s p origin corr wrapped).supply = s.supply ∧ (State.timeRecord s p origin corr wrapped).md = s.md ∧
      (State.timeRecord s p origin corr wrapped).meas = s.meas ∧ (State.timeRecord s p origin corr wrapped).aux = s.aux ∧
      (State.timeRecord s p origin corr wrapped).itg = s.itg ∧ (State.timeRecord s p origin corr wrapped).bal = s.bal ∧
      (State.timeRecord s p origin corr wrapped).hio = s.hio ∧ (State.timeRecord s p origin corr wrapped).est = s.est ∧
      (State.timeRecord s p origin corr wrapped).lp = s.lp ∧ (State.timeRecord s p origin corr wrapped).ring = s.ring ∧
      (State.timeRecord s p origin corr wrapped).can = s.can ∧ (State.timeRecord s p origin corr wrapped).px = s.px ∧
      (State.timeRecord s p origin corr wrapped).flt = s.flt ∧ (State.timeRecord s p origin corr wrapped).sent = s.sent ∧
      (State.timeRecord s p origin corr wrapped).rcd = s.rcd ∧ (State.timeRecord s p origin corr wrapped).mgmt = s.mgmt := by
  simp only [State.timeRecord]
  refine ⟨?_, ?_, ?_, ?_, ?_, ?_, ?_, ?_, ?_, ?_, ?_, ?_, ?_, ?_, ?_, ?_, ?_, ?_, ?_, ?_, ?_, ?_⟩ <;> (repeat' split) <;> simp
@[simp] theorem State.delayReq_frame (s : State) (p : Port) :
    (State.delayReq s p).now = s.now ∧ (State.delayReq s p).ringOffset = s.ringOffset ∧ (State.delayReq s p).pending = s.pending ∧
      (State.delayReq s p).dict = s.dict ∧ (State.delayReq s p).pm = s.pm ∧ (State.delayReq s p).trngCount = s.trngCount ∧
      (State.delayReq s p).ident = s.ident ∧ (State.delayReq s p).supply = s.supply ∧ (State.delayReq s p).md = s.md ∧
      (State.delayReq s p).tm = s.tm ∧ (State.delayReq s p).meas = s.meas ∧ (State.delayReq s p).aux = s.aux ∧
      (State.delayReq s p).itg = s.itg ∧ (State.delayReq s p).bal = s.bal ∧ (State.delayReq s p).hio = s.hio ∧
      (State.delayReq s p).est = s.est ∧ (State.delayReq s p).lp = s.lp ∧ (State.delayReq s p).can = s.can ∧
      (State.delayReq s p).px = s.px ∧ (State.delayReq s p).flt = s.flt ∧ (State.delayReq s p).sent = s.sent ∧
      (State.delayReq s p).rcd = s.rcd ∧ (State.delayReq s p).mgmt = s.mgmt := by simp [State.delayReq]
@[simp] theorem State.lockSource_frame (s : State) (k : Nat) (on : Bool) :
    (State.lockSource s k on).now = s.now ∧ (State.lockSource s k on).ringOffset = s.ringOffset ∧
      (State.lockSource s k on).pending = s.pending ∧ (State.lockSource s k on).dict = s.dict ∧ (State.lockSource s k on).pm = s.pm ∧
      (State.lockSource s k on).out = s.out ∧ (State.lockSource s k on).trngCount = s.trngCount ∧
      (State.lockSource s k on).ident = s.ident ∧ (State.lockSource s k on).supply = s.supply ∧ (State.lockSource s k on).md = s.md ∧
      (State.lockSource s k on).meas = s.meas ∧ (State.lockSource s k on).aux = s.aux ∧ (State.lockSource s k on).itg = s.itg ∧
      (State.lockSource s k on).bal = s.bal ∧ (State.lockSource s k on).hio = s.hio ∧ (State.lockSource s k on).est = s.est ∧
      (State.lockSource s k on).lp = s.lp ∧ (State.lockSource s k on).ring = s.ring ∧ (State.lockSource s k on).can = s.can ∧
      (State.lockSource s k on).px = s.px ∧ (State.lockSource s k on).flt = s.flt ∧ (State.lockSource s k on).sent = s.sent ∧
      (State.lockSource s k on).rcd = s.rcd ∧ (State.lockSource s k on).mgmt = s.mgmt := by simp [State.lockSource]
@[simp] theorem State.dropLost_frame (s : State) (k : Nat) :
    (State.dropLost s k).now = s.now ∧ (State.dropLost s k).ringOffset = s.ringOffset ∧ (State.dropLost s k).pending = s.pending ∧
      (State.dropLost s k).dict = s.dict ∧ (State.dropLost s k).pm = s.pm ∧ (State.dropLost s k).out = s.out ∧
      (State.dropLost s k).trngCount = s.trngCount ∧ (State.dropLost s k).ident = s.ident ∧ (State.dropLost s k).supply = s.supply ∧
      (State.dropLost s k).md = s.md ∧ (State.dropLost s k).meas = s.meas ∧ (State.dropLost s k).aux = s.aux ∧
      (State.dropLost s k).itg = s.itg ∧ (State.dropLost s k).bal = s.bal ∧ (State.dropLost s k).hio = s.hio ∧
      (State.dropLost s k).est = s.est ∧ (State.dropLost s k).lp = s.lp ∧ (State.dropLost s k).ring = s.ring ∧
      (State.dropLost s k).can = s.can ∧ (State.dropLost s k).px = s.px ∧ (State.dropLost s k).flt = s.flt ∧
      (State.dropLost s k).sent = s.sent ∧ (State.dropLost s k).rcd = s.rcd ∧ (State.dropLost s k).mgmt = s.mgmt := by simp [State.dropLost]
@[simp] theorem State.changeSource_frame (s : State) (k : Nat) :
    (State.changeSource s k).now = s.now ∧ (State.changeSource s k).ringOffset = s.ringOffset ∧
      (State.changeSource s k).pending = s.pending ∧ (State.changeSource s k).pm = s.pm ∧ (State.changeSource s k).out = s.out ∧
      (State.changeSource s k).trngCount = s.trngCount ∧ (State.changeSource s k).ident = s.ident ∧
      (State.changeSource s k).supply = s.supply ∧ (State.changeSource s k).md = s.md ∧ (State.changeSource s k).itg = s.itg ∧
      (State.changeSource s k).bal = s.bal ∧ (State.changeSource s k).hio = s.hio ∧ (State.changeSource s k).est = s.est ∧
      (State.changeSource s k).lp = s.lp ∧ (State.changeSource s k).ring = s.ring ∧ (State.changeSource s k).can = s.can ∧
      (State.changeSource s k).px = s.px ∧ (State.changeSource s k).flt = s.flt ∧ (State.changeSource s k).sent = s.sent ∧
      (State.changeSource s k).rcd = s.rcd ∧ (State.changeSource s k).mgmt = s.mgmt := by simp [State.changeSource]
@[simp] theorem State.disarmAngle_frame (s : State) (unit : AngleUnit) (user : AngleUser) :
    (State.disarmAngle s unit user).now = s.now ∧ (State.disarmAngle s unit user).ringOffset = s.ringOffset ∧
      (State.disarmAngle s unit user).pending = s.pending ∧ (State.disarmAngle s unit user).dict = s.dict ∧
      (State.disarmAngle s unit user).pm = s.pm ∧ (State.disarmAngle s unit user).out = s.out ∧
      (State.disarmAngle s unit user).trngCount = s.trngCount ∧ (State.disarmAngle s unit user).ident = s.ident ∧
      (State.disarmAngle s unit user).supply = s.supply ∧ (State.disarmAngle s unit user).md = s.md ∧
      (State.disarmAngle s unit user).meas = s.meas ∧ (State.disarmAngle s unit user).aux = s.aux ∧
      (State.disarmAngle s unit user).itg = s.itg ∧ (State.disarmAngle s unit user).bal = s.bal ∧
      (State.disarmAngle s unit user).hio = s.hio ∧ (State.disarmAngle s unit user).est = s.est ∧
      (State.disarmAngle s unit user).lp = s.lp ∧ (State.disarmAngle s unit user).ring = s.ring ∧
      (State.disarmAngle s unit user).can = s.can ∧ (State.disarmAngle s unit user).px = s.px ∧
      (State.disarmAngle s unit user).flt = s.flt ∧ (State.disarmAngle s unit user).sent = s.sent ∧
      (State.disarmAngle s unit user).rcd = s.rcd ∧ (State.disarmAngle s unit user).mgmt = s.mgmt := by simp [State.disarmAngle]
@[simp] theorem State.signalUser_frame (s : State) (u : AngleUser) :
    (State.signalUser s u).now = s.now ∧ (State.signalUser s u).ringOffset = s.ringOffset ∧ (State.signalUser s u).pending = s.pending ∧
      (State.signalUser s u).pm = s.pm ∧ (State.signalUser s u).trngCount = s.trngCount ∧ (State.signalUser s u).supply = s.supply ∧
      (State.signalUser s u).aux = s.aux ∧ (State.signalUser s u).itg = s.itg ∧ (State.signalUser s u).est = s.est ∧
      (State.signalUser s u).lp = s.lp ∧ (State.signalUser s u).px = s.px ∧ (State.signalUser s u).sent = s.sent := by simp [State.signalUser]
@[simp] theorem State.takeSignal_frame (s : State) (u : AngleUser) :
    (State.takeSignal s u).2.now = s.now ∧ (State.takeSignal s u).2.ringOffset = s.ringOffset ∧
      (State.takeSignal s u).2.pending = s.pending ∧ (State.takeSignal s u).2.dict = s.dict ∧ (State.takeSignal s u).2.pm = s.pm ∧
      (State.takeSignal s u).2.out = s.out ∧ (State.takeSignal s u).2.trngCount = s.trngCount ∧ (State.takeSignal s u).2.ident = s.ident ∧
      (State.takeSignal s u).2.supply = s.supply ∧ (State.takeSignal s u).2.md = s.md ∧ (State.takeSignal s u).2.meas = s.meas ∧
      (State.takeSignal s u).2.aux = s.aux ∧ (State.takeSignal s u).2.itg = s.itg ∧ (State.takeSignal s u).2.bal = s.bal ∧
      (State.takeSignal s u).2.hio = s.hio ∧ (State.takeSignal s u).2.est = s.est ∧ (State.takeSignal s u).2.lp = s.lp ∧
      (State.takeSignal s u).2.ring = s.ring ∧ (State.takeSignal s u).2.can = s.can ∧ (State.takeSignal s u).2.px = s.px ∧
      (State.takeSignal s u).2.flt = s.flt ∧ (State.takeSignal s u).2.sent = s.sent ∧ (State.takeSignal s u).2.rcd = s.rcd ∧
      (State.takeSignal s u).2.mgmt = s.mgmt := by
  simp only [State.takeSignal]
  refine ⟨?_, ?_, ?_, ?_, ?_, ?_, ?_, ?_, ?_, ?_, ?_, ?_, ?_, ?_, ?_, ?_, ?_, ?_, ?_, ?_, ?_, ?_, ?_, ?_⟩ <;> (repeat' split) <;> simp
@[simp] theorem State.owtAbandon_frame (s : State) :
    (State.owtAbandon s).now = s.now ∧ (State.owtAbandon s).ringOffset = s.ringOffset ∧ (State.owtAbandon s).pending = s.pending ∧
      (State.owtAbandon s).pm = s.pm ∧ (State.owtAbandon s).out = s.out ∧ (State.owtAbandon s).trngCount = s.trngCount ∧
      (State.owtAbandon s).ident = s.ident ∧ (State.owtAbandon s).supply = s.supply ∧ (State.owtAbandon s).md = s.md ∧
      (State.owtAbandon s).tm = s.tm ∧ (State.owtAbandon s).hio = s.hio ∧ (State.owtAbandon s).est = s.est ∧
      (State.owtAbandon s).lp = s.lp ∧ (State.owtAbandon s).ring = s.ring ∧ (State.owtAbandon s).can = s.can ∧
      (State.owtAbandon s).px = s.px ∧ (State.owtAbandon s).flt = s.flt ∧ (State.owtAbandon s).sent = s.sent ∧
      (State.owtAbandon s).rcd = s.rcd ∧ (State.owtAbandon s).mgmt = s.mgmt := by
  unfold State.owtAbandon
  refine ⟨?_, ?_, ?_, ?_, ?_, ?_, ?_, ?_, ?_, ?_, ?_, ?_, ?_, ?_, ?_, ?_, ?_, ?_, ?_, ?_⟩ <;> (repeat' split) <;> simp
@[simp] theorem State.auxConvert_frame (s : State) (u : AuxUser) (chan acq : Nat) :
    (State.auxConvert s u chan acq).now = s.now ∧ (State.auxConvert s u chan acq).ringOffset = s.ringOffset ∧
      (State.auxConvert s u chan acq).pending = s.pending ∧ (State.auxConvert s u chan acq).dict = s.dict ∧
      (State.auxConvert s u chan acq).pm = s.pm ∧ (State.auxConvert s u chan acq).out = s.out ∧
      (State.auxConvert s u chan acq).trngCount = s.trngCount ∧ (State.auxConvert s u chan acq).ident = s.ident ∧
      (State.auxConvert s u chan acq).supply = s.supply ∧ (State.auxConvert s u chan acq).md = s.md ∧
      (State.auxConvert s u chan acq).tm = s.tm ∧ (State.auxConvert s u chan acq).meas = s.meas ∧
      (State.auxConvert s u chan acq).itg = s.itg ∧ (State.auxConvert s u chan acq).bal = s.bal ∧
      (State.auxConvert s u chan acq).hio = s.hio ∧ (State.auxConvert s u chan acq).est = s.est ∧
      (State.auxConvert s u chan acq).lp = s.lp ∧ (State.auxConvert s u chan acq).ring = s.ring ∧
      (State.auxConvert s u chan acq).can = s.can ∧ (State.auxConvert s u chan acq).px = s.px ∧
      (State.auxConvert s u chan acq).flt = s.flt ∧ (State.auxConvert s u chan acq).sent = s.sent ∧
      (State.auxConvert s u chan acq).rcd = s.rcd ∧ (State.auxConvert s u chan acq).mgmt = s.mgmt := by simp [State.auxConvert]
@[simp] theorem State.markWaits_frame (s : State) :
    (State.markWaits s).now = s.now ∧ (State.markWaits s).ringOffset = s.ringOffset ∧ (State.markWaits s).pending = s.pending ∧
      (State.markWaits s).dict = s.dict ∧ (State.markWaits s).pm = s.pm ∧ (State.markWaits s).out = s.out ∧
      (State.markWaits s).trngCount = s.trngCount ∧ (State.markWaits s).ident = s.ident ∧ (State.markWaits s).supply = s.supply ∧
      (State.markWaits s).md = s.md ∧ (State.markWaits s).tm = s.tm ∧ (State.markWaits s).meas = s.meas ∧ (State.markWaits s).itg = s.itg ∧
      (State.markWaits s).bal = s.bal ∧ (State.markWaits s).hio = s.hio ∧ (State.markWaits s).est = s.est ∧ (State.markWaits s).lp = s.lp ∧
      (State.markWaits s).ring = s.ring ∧ (State.markWaits s).can = s.can ∧ (State.markWaits s).px = s.px ∧
      (State.markWaits s).flt = s.flt ∧ (State.markWaits s).sent = s.sent ∧ (State.markWaits s).rcd = s.rcd ∧
      (State.markWaits s).mgmt = s.mgmt := by simp [State.markWaits]
@[simp] theorem State.deferLong_frame (s : State) :
    (State.deferLong s).now = s.now ∧ (State.deferLong s).ringOffset = s.ringOffset ∧ (State.deferLong s).pending = s.pending ∧
      (State.deferLong s).pm = s.pm ∧ (State.deferLong s).out = s.out ∧ (State.deferLong s).trngCount = s.trngCount ∧
      (State.deferLong s).ident = s.ident ∧ (State.deferLong s).supply = s.supply ∧ (State.deferLong s).md = s.md ∧
      (State.deferLong s).tm = s.tm ∧ (State.deferLong s).meas = s.meas ∧ (State.deferLong s).itg = s.itg ∧
      (State.deferLong s).bal = s.bal ∧ (State.deferLong s).hio = s.hio ∧ (State.deferLong s).est = s.est ∧ (State.deferLong s).lp = s.lp ∧
      (State.deferLong s).ring = s.ring ∧ (State.deferLong s).can = s.can ∧ (State.deferLong s).px = s.px ∧
      (State.deferLong s).flt = s.flt ∧ (State.deferLong s).sent = s.sent ∧ (State.deferLong s).rcd = s.rcd ∧
      (State.deferLong s).mgmt = s.mgmt := by simp [State.deferLong]
@[simp] theorem State.auxStart_frame (s : State) :
    (State.auxStart s).now = s.now ∧ (State.auxStart s).ringOffset = s.ringOffset ∧ (State.auxStart s).pending = s.pending ∧
      (State.auxStart s).pm = s.pm ∧ (State.auxStart s).out = s.out ∧ (State.auxStart s).trngCount = s.trngCount ∧
      (State.auxStart s).ident = s.ident := by
  simp only [State.auxStart]
  refine ⟨?_, ?_, ?_, ?_, ?_, ?_, ?_⟩ <;> (repeat' split) <;> simp
@[simp] theorem State.auxStart_frame2 (s : State) :
    (State.auxStart s).supply = s.supply ∧ (State.auxStart s).md = s.md ∧ (State.auxStart s).tm = s.tm ∧
      (State.auxStart s).hio = s.hio ∧ (State.auxStart s).est = s.est ∧ (State.auxStart s).lp = s.lp ∧ (State.auxStart s).ring = s.ring := by
  simp only [State.auxStart]
  refine ⟨?_, ?_, ?_, ?_, ?_, ?_, ?_⟩ <;> (repeat' split) <;> simp
@[simp] theorem State.auxStart_frame3 (s : State) :
    (State.auxStart s).can = s.can ∧ (State.auxStart s).px = s.px ∧ (State.auxStart s).flt = s.flt ∧ (State.auxStart s).sent = s.sent ∧
      (State.auxStart s).mgmt = s.mgmt := by
  simp only [State.auxStart]
  refine ⟨?_, ?_, ?_, ?_, ?_⟩ <;> (repeat' split) <;> simp
@[simp] theorem State.auxRequest_frame (s : State) (u : AuxUser) (todo : List AuxEntry) :
    (State.auxRequest s u todo).now = s.now ∧ (State.auxRequest s u todo).ringOffset = s.ringOffset ∧
      (State.auxRequest s u todo).pending = s.pending ∧ (State.auxRequest s u todo).pm = s.pm ∧ (State.auxRequest s u todo).out = s.out ∧
      (State.auxRequest s u todo).trngCount = s.trngCount ∧ (State.auxRequest s u todo).ident = s.ident ∧
      (State.auxRequest s u todo).supply = s.supply ∧ (State.auxRequest s u todo).md = s.md ∧ (State.auxRequest s u todo).tm = s.tm ∧
      (State.auxRequest s u todo).hio = s.hio ∧ (State.auxRequest s u todo).est = s.est ∧ (State.auxRequest s u todo).lp = s.lp ∧
      (State.auxRequest s u todo).ring = s.ring ∧ (State.auxRequest s u todo).can = s.can ∧ (State.auxRequest s u todo).px = s.px ∧
      (State.auxRequest s u todo).flt = s.flt ∧ (State.auxRequest s u todo).sent = s.sent ∧
      (State.auxRequest s u todo).mgmt = s.mgmt := by simp [State.auxRequest]
@[simp] theorem State.setEc_frame (s : State) (n : Nat) (c : EstCell) :
    (State.setEc s n c).now = s.now ∧ (State.setEc s n c).ringOffset = s.ringOffset ∧ (State.setEc s n c).pending = s.pending ∧
      (State.setEc s n c).dict = s.dict ∧ (State.setEc s n c).pm = s.pm ∧ (State.setEc s n c).out = s.out ∧
      (State.setEc s n c).trngCount = s.trngCount ∧ (State.setEc s n c).ident = s.ident ∧ (State.setEc s n c).supply = s.supply ∧
      (State.setEc s n c).md = s.md ∧ (State.setEc s n c).tm = s.tm ∧ (State.setEc s n c).meas = s.meas ∧ (State.setEc s n c).aux = s.aux ∧
      (State.setEc s n c).itg = s.itg ∧ (State.setEc s n c).bal = s.bal ∧ (State.setEc s n c).hio = s.hio ∧ (State.setEc s n c).lp = s.lp ∧
      (State.setEc s n c).ring = s.ring ∧ (State.setEc s n c).can = s.can ∧ (State.setEc s n c).px = s.px ∧
      (State.setEc s n c).flt = s.flt ∧ (State.setEc s n c).sent = s.sent ∧ (State.setEc s n c).rcd = s.rcd ∧
      (State.setEc s n c).mgmt = s.mgmt := by simp [State.setEc]
@[simp] theorem State.estPrecision_frame (s : State) (n word a b : Nat) :
    (State.estPrecision s n word a b).now = s.now ∧ (State.estPrecision s n word a b).ringOffset = s.ringOffset ∧
      (State.estPrecision s n word a b).pending = s.pending ∧ (State.estPrecision s n word a b).dict = s.dict ∧
      (State.estPrecision s n word a b).pm = s.pm ∧ (State.estPrecision s n word a b).out = s.out ∧
      (State.estPrecision s n word a b).trngCount = s.trngCount ∧ (State.estPrecision s n word a b).ident = s.ident ∧
      (State.estPrecision s n word a b).supply = s.supply ∧ (State.estPrecision s n word a b).md = s.md ∧
      (State.estPrecision s n word a b).tm = s.tm ∧ (State.estPrecision s n word a b).meas = s.meas ∧
      (State.estPrecision s n word a b).aux = s.aux ∧ (State.estPrecision s n word a b).itg = s.itg ∧
      (State.estPrecision s n word a b).bal = s.bal ∧ (State.estPrecision s n word a b).hio = s.hio ∧
      (State.estPrecision s n word a b).lp = s.lp ∧ (State.estPrecision s n word a b).ring = s.ring ∧
      (State.estPrecision s n word a b).can = s.can ∧ (State.estPrecision s n word a b).px = s.px ∧
      (State.estPrecision s n word a b).flt = s.flt ∧ (State.estPrecision s n word a b).sent = s.sent ∧
      (State.estPrecision s n word a b).rcd = s.rcd ∧ (State.estPrecision s n word a b).mgmt = s.mgmt := by simp [State.estPrecision]
@[simp] theorem State.estStandard_frame (s : State) (n word at0 : Nat) :
    (State.estStandard s n word at0).now = s.now ∧ (State.estStandard s n word at0).ringOffset = s.ringOffset ∧
      (State.estStandard s n word at0).pending = s.pending ∧ (State.estStandard s n word at0).dict = s.dict ∧
      (State.estStandard s n word at0).pm = s.pm ∧ (State.estStandard s n word at0).out = s.out ∧
      (State.estStandard s n word at0).trngCount = s.trngCount ∧ (State.estStandard s n word at0).ident = s.ident ∧
      (State.estStandard s n word at0).supply = s.supply ∧ (State.estStandard s n word at0).md = s.md ∧
      (State.estStandard s n word at0).tm = s.tm ∧ (State.estStandard s n word at0).meas = s.meas ∧
      (State.estStandard s n word at0).aux = s.aux ∧ (State.estStandard s n word at0).itg = s.itg ∧
      (State.estStandard s n word at0).bal = s.bal ∧ (State.estStandard s n word at0).hio = s.hio ∧
      (State.estStandard s n word at0).lp = s.lp ∧ (State.estStandard s n word at0).ring = s.ring ∧
      (State.estStandard s n word at0).can = s.can ∧ (State.estStandard s n word at0).px = s.px ∧
      (State.estStandard s n word at0).flt = s.flt ∧ (State.estStandard s n word at0).sent = s.sent ∧
      (State.estStandard s n word at0).rcd = s.rcd ∧ (State.estStandard s n word at0).mgmt = s.mgmt := by simp [State.estStandard]
@[simp] theorem State.estWide_frame (s : State) (n word at0 : Nat) :
    (State.estWide s n word at0).now = s.now ∧ (State.estWide s n word at0).ringOffset = s.ringOffset ∧
      (State.estWide s n word at0).pending = s.pending ∧ (State.estWide s n word at0).dict = s.dict ∧
      (State.estWide s n word at0).pm = s.pm ∧ (State.estWide s n word at0).out = s.out ∧
      (State.estWide s n word at0).trngCount = s.trngCount ∧ (State.estWide s n word at0).ident = s.ident ∧
      (State.estWide s n word at0).supply = s.supply ∧ (State.estWide s n word at0).md = s.md ∧ (State.estWide s n word at0).tm = s.tm ∧
      (State.estWide s n word at0).meas = s.meas ∧ (State.estWide s n word at0).aux = s.aux ∧ (State.estWide s n word at0).itg = s.itg ∧
      (State.estWide s n word at0).bal = s.bal ∧ (State.estWide s n word at0).hio = s.hio ∧ (State.estWide s n word at0).lp = s.lp ∧
      (State.estWide s n word at0).ring = s.ring ∧ (State.estWide s n word at0).can = s.can ∧ (State.estWide s n word at0).px = s.px ∧
      (State.estWide s n word at0).flt = s.flt ∧ (State.estWide s n word at0).sent = s.sent ∧ (State.estWide s n word at0).rcd = s.rcd ∧
      (State.estWide s n word at0).mgmt = s.mgmt := by simp [State.estWide]
@[simp] theorem State.addCurrent_frame (s : State) (v : Int) (clip : Bool) (times : Nat) :
    (State.addCurrent s v clip times).now = s.now ∧ (State.addCurrent s v clip times).ringOffset = s.ringOffset ∧
      (State.addCurrent s v clip times).pending = s.pending ∧ (State.addCurrent s v clip times).dict = s.dict ∧
      (State.addCurrent s v clip times).pm = s.pm ∧ (State.addCurrent s v clip times).out = s.out ∧
      (State.addCurrent s v clip times).trngCount = s.trngCount ∧ (State.addCurrent s v clip times).ident = s.ident ∧
      (State.addCurrent s v clip times).supply = s.supply ∧ (State.addCurrent s v clip times).md = s.md ∧
      (State.addCurrent s v clip times).tm = s.tm ∧ (State.addCurrent s v clip times).meas = s.meas ∧
      (State.addCurrent s v clip times).aux = s.aux ∧ (State.addCurrent s v clip times).itg = s.itg ∧
      (State.addCurrent s v clip times).bal = s.bal ∧ (State.addCurrent s v clip times).hio = s.hio ∧
      (State.addCurrent s v clip times).ring = s.ring ∧ (State.addCurrent s v clip times).can = s.can ∧
      (State.addCurrent s v clip times).px = s.px ∧ (State.addCurrent s v clip times).flt = s.flt ∧
      (State.addCurrent s v clip times).sent = s.sent ∧ (State.addCurrent s v clip times).mgmt = s.mgmt := by simp [State.addCurrent]
@[simp] theorem State.takeCurrent_frame (s : State) (grid : Nat) (words : List Nat) :
    (State.takeCurrent s grid words).now = s.now ∧ (State.takeCurrent s grid words).ringOffset = s.ringOffset ∧
      (State.takeCurrent s grid words).pending = s.pending ∧ (State.takeCurrent s grid words).pm = s.pm ∧
      (State.takeCurrent s grid words).out = s.out ∧ (State.takeCurrent s grid words).trngCount = s.trngCount ∧
      (State.takeCurrent s grid words).ident = s.ident ∧ (State.takeCurrent s grid words).supply = s.supply ∧
      (State.takeCurrent s grid words).md = s.md ∧ (State.takeCurrent s grid words).tm = s.tm ∧
      (State.takeCurrent s grid words).meas = s.meas ∧ (State.takeCurrent s grid words).aux = s.aux ∧
      (State.takeCurrent s grid words).itg = s.itg ∧ (State.takeCurrent s grid words).bal = s.bal ∧
      (State.takeCurrent s grid words).hio = s.hio ∧ (State.takeCurrent s grid words).ring = s.ring ∧
      (State.takeCurrent s grid words).can = s.can ∧ (State.takeCurrent s grid words).px = s.px ∧
      (State.takeCurrent s grid words).sent = s.sent ∧ (State.takeCurrent s grid words).mgmt = s.mgmt := by simp [State.takeCurrent]
@[simp] theorem State.countCell_frame (s : State) (n : Nat) (str e : Rat) :
    (State.countCell s n str e).now = s.now ∧ (State.countCell s n str e).ringOffset = s.ringOffset ∧
      (State.countCell s n str e).pending = s.pending ∧ (State.countCell s n str e).dict = s.dict ∧ (State.countCell s n str e).pm = s.pm ∧
      (State.countCell s n str e).out = s.out ∧ (State.countCell s n str e).trngCount = s.trngCount ∧
      (State.countCell s n str e).ident = s.ident ∧ (State.countCell s n str e).supply = s.supply ∧ (State.countCell s n str e).md = s.md ∧
      (State.countCell s n str e).tm = s.tm ∧ (State.countCell s n str e).meas = s.meas ∧ (State.countCell s n str e).aux = s.aux ∧
      (State.countCell s n str e).itg = s.itg ∧ (State.countCell s n str e).bal = s.bal ∧ (State.countCell s n str e).hio = s.hio ∧
      (State.countCell s n str e).lp = s.lp ∧ (State.countCell s n str e).ring = s.ring ∧ (State.countCell s n str e).can = s.can ∧
      (State.countCell s n str e).px = s.px ∧ (State.countCell s n str e).flt = s.flt ∧ (State.countCell s n str e).sent = s.sent ∧
      (State.countCell s n str e).rcd = s.rcd ∧ (State.countCell s n str e).mgmt = s.mgmt := by simp [State.countCell]
@[simp] theorem State.correct_frame (s : State) (n : Nat) (c : EstCell) (target : Rat) :
    (State.correct s n c target).now = s.now ∧ (State.correct s n c target).ringOffset = s.ringOffset ∧
      (State.correct s n c target).pending = s.pending ∧ (State.correct s n c target).pm = s.pm ∧
      (State.correct s n c target).trngCount = s.trngCount ∧ (State.correct s n c target).supply = s.supply ∧
      (State.correct s n c target).aux = s.aux ∧ (State.correct s n c target).itg = s.itg ∧ (State.correct s n c target).lp = s.lp ∧
      (State.correct s n c target).px = s.px ∧ (State.correct s n c target).sent = s.sent := by simp [State.correct]
@[simp] theorem State.checkCell_frame (s : State) (n : Nat) (x : Rat × Rat × Rat × Rat × Rat) :
    (State.checkCell s n x).now = s.now ∧ (State.checkCell s n x).ringOffset = s.ringOffset ∧ (State.checkCell s n x).pending = s.pending ∧
      (State.checkCell s n x).pm = s.pm ∧ (State.checkCell s n x).trngCount = s.trngCount ∧ (State.checkCell s n x).supply = s.supply ∧
      (State.checkCell s n x).aux = s.aux ∧ (State.checkCell s n x).itg = s.itg ∧ (State.checkCell s n x).lp = s.lp ∧
      (State.checkCell s n x).px = s.px ∧ (State.checkCell s n x).sent = s.sent := by simp [State.checkCell]
@[simp] theorem State.secondCell_frame (s : State) (n : Nat) :
    (State.secondCell s n).now = s.now ∧ (State.secondCell s n).ringOffset = s.ringOffset ∧ (State.secondCell s n).pending = s.pending ∧
      (State.secondCell s n).pm = s.pm ∧ (State.secondCell s n).trngCount = s.trngCount ∧ (State.secondCell s n).supply = s.supply ∧
      (State.secondCell s n).aux = s.aux ∧ (State.secondCell s n).itg = s.itg ∧ (State.secondCell s n).lp = s.lp ∧
      (State.secondCell s n).px = s.px ∧ (State.secondCell s n).sent = s.sent := by
  simp only [State.secondCell]
  refine ⟨?_, ?_, ?_, ?_, ?_, ?_, ?_, ?_, ?_, ?_, ?_⟩ <;> (repeat' split) <;> simp
@[simp] theorem State.minuteCell_frame (s : State) (n : Nat) :
    (State.minuteCell s n).now = s.now ∧ (State.minuteCell s n).ringOffset = s.ringOffset ∧ (State.minuteCell s n).pending = s.pending ∧
      (State.minuteCell s n).dict = s.dict ∧ (State.minuteCell s n).pm = s.pm ∧ (State.minuteCell s n).out = s.out ∧
      (State.minuteCell s n).trngCount = s.trngCount ∧ (State.minuteCell s n).ident = s.ident ∧ (State.minuteCell s n).supply = s.supply ∧
      (State.minuteCell s n).md = s.md ∧ (State.minuteCell s n).tm = s.tm ∧ (State.minuteCell s n).meas = s.meas ∧
      (State.minuteCell s n).aux = s.aux ∧ (State.minuteCell s n).itg = s.itg ∧ (State.minuteCell s n).bal = s.bal ∧
      (State.minuteCell s n).hio = s.hio ∧ (State.minuteCell s n).lp = s.lp ∧ (State.minuteCell s n).ring = s.ring ∧
      (State.minuteCell s n).can = s.can ∧ (State.minuteCell s n).px = s.px ∧ (State.minuteCell s n).flt = s.flt ∧
      (State.minuteCell s n).sent = s.sent ∧ (State.minuteCell s n).rcd = s.rcd ∧ (State.minuteCell s n).mgmt = s.mgmt := by simp [State.minuteCell]
@[simp] theorem State.closeHour_frame (s : State) :
    (State.closeHour s).now = s.now ∧ (State.closeHour s).ringOffset = s.ringOffset ∧ (State.closeHour s).pending = s.pending ∧
      (State.closeHour s).dict = s.dict ∧ (State.closeHour s).pm = s.pm ∧ (State.closeHour s).out = s.out ∧
      (State.closeHour s).trngCount = s.trngCount ∧ (State.closeHour s).ident = s.ident ∧ (State.closeHour s).supply = s.supply ∧
      (State.closeHour s).md = s.md ∧ (State.closeHour s).tm = s.tm ∧ (State.closeHour s).meas = s.meas ∧ (State.closeHour s).aux = s.aux ∧
      (State.closeHour s).itg = s.itg ∧ (State.closeHour s).bal = s.bal ∧ (State.closeHour s).hio = s.hio ∧ (State.closeHour s).lp = s.lp ∧
      (State.closeHour s).ring = s.ring ∧ (State.closeHour s).can = s.can ∧ (State.closeHour s).px = s.px ∧
      (State.closeHour s).flt = s.flt ∧ (State.closeHour s).sent = s.sent ∧ (State.closeHour s).rcd = s.rcd ∧
      (State.closeHour s).mgmt = s.mgmt := by simp [State.closeHour]
@[simp] theorem State.setRecWrite_frame (s : State) (cap : Bool) (w : Option RecWrite) :
    (State.setRecWrite s cap w).now = s.now ∧ (State.setRecWrite s cap w).ringOffset = s.ringOffset ∧
      (State.setRecWrite s cap w).pending = s.pending ∧ (State.setRecWrite s cap w).dict = s.dict ∧ (State.setRecWrite s cap w).pm = s.pm ∧
      (State.setRecWrite s cap w).out = s.out ∧ (State.setRecWrite s cap w).trngCount = s.trngCount ∧
      (State.setRecWrite s cap w).ident = s.ident ∧ (State.setRecWrite s cap w).supply = s.supply ∧ (State.setRecWrite s cap w).md = s.md ∧
      (State.setRecWrite s cap w).tm = s.tm ∧ (State.setRecWrite s cap w).meas = s.meas ∧ (State.setRecWrite s cap w).aux = s.aux ∧
      (State.setRecWrite s cap w).itg = s.itg ∧ (State.setRecWrite s cap w).bal = s.bal ∧ (State.setRecWrite s cap w).hio = s.hio ∧
      (State.setRecWrite s cap w).lp = s.lp ∧ (State.setRecWrite s cap w).ring = s.ring ∧ (State.setRecWrite s cap w).can = s.can ∧
      (State.setRecWrite s cap w).px = s.px ∧ (State.setRecWrite s cap w).flt = s.flt ∧ (State.setRecWrite s cap w).sent = s.sent ∧
      (State.setRecWrite s cap w).rcd = s.rcd ∧ (State.setRecWrite s cap w).mgmt = s.mgmt := by simp [State.setRecWrite]
@[simp] theorem State.tryRecord_frame (s : State) (cap : Bool) (w : RecWrite) :
    (State.tryRecord s cap w).now = s.now ∧ (State.tryRecord s cap w).ringOffset = s.ringOffset ∧
      (State.tryRecord s cap w).pending = s.pending ∧ (State.tryRecord s cap w).pm = s.pm ∧ (State.tryRecord s cap w).out = s.out ∧
      (State.tryRecord s cap w).trngCount = s.trngCount ∧ (State.tryRecord s cap w).ident = s.ident ∧
      (State.tryRecord s cap w).supply = s.supply ∧ (State.tryRecord s cap w).md = s.md ∧ (State.tryRecord s cap w).tm = s.tm ∧
      (State.tryRecord s cap w).meas = s.meas ∧ (State.tryRecord s cap w).aux = s.aux ∧ (State.tryRecord s cap w).itg = s.itg ∧
      (State.tryRecord s cap w).bal = s.bal ∧ (State.tryRecord s cap w).hio = s.hio ∧ (State.tryRecord s cap w).lp = s.lp ∧
      (State.tryRecord s cap w).ring = s.ring ∧ (State.tryRecord s cap w).can = s.can ∧ (State.tryRecord s cap w).px = s.px ∧
      (State.tryRecord s cap w).flt = s.flt ∧ (State.tryRecord s cap w).sent = s.sent ∧
      (State.tryRecord s cap w).mgmt = s.mgmt := by simp [State.tryRecord]
@[simp] theorem State.beginRecord_frame (s : State) (cap holdup : Bool) :
    (State.beginRecord s cap holdup).now = s.now ∧ (State.beginRecord s cap holdup).ringOffset = s.ringOffset ∧
      (State.beginRecord s cap holdup).pending = s.pending ∧ (State.beginRecord s cap holdup).pm = s.pm ∧
      (State.beginRecord s cap holdup).out = s.out ∧ (State.beginRecord s cap holdup).trngCount = s.trngCount ∧
      (State.beginRecord s cap holdup).ident = s.ident ∧ (State.beginRecord s cap holdup).supply = s.supply ∧
      (State.beginRecord s cap holdup).md = s.md ∧ (State.beginRecord s cap holdup).tm = s.tm ∧
      (State.beginRecord s cap holdup).meas = s.meas ∧ (State.beginRecord s cap holdup).aux = s.aux ∧
      (State.beginRecord s cap holdup).itg = s.itg ∧ (State.beginRecord s cap holdup).bal = s.bal ∧
      (State.beginRecord s cap holdup).hio = s.hio ∧ (State.beginRecord s cap holdup).lp = s.lp ∧
      (State.beginRecord s cap holdup).ring = s.ring ∧ (State.beginRecord s cap holdup).can = s.can ∧
      (State.beginRecord s cap holdup).px = s.px ∧ (State.beginRecord s cap holdup).flt = s.flt ∧
      (State.beginRecord s cap holdup).sent = s.sent ∧ (State.beginRecord s cap holdup).mgmt = s.mgmt := by simp [State.beginRecord]
@[simp] theorem State.retryRecord_frame (s : State) (cap : Bool) :
    (State.retryRecord s cap).now = s.now ∧ (State.retryRecord s cap).ringOffset = s.ringOffset ∧
      (State.retryRecord s cap).pending = s.pending ∧ (State.retryRecord s cap).pm = s.pm ∧ (State.retryRecord s cap).out = s.out ∧
      (State.retryRecord s cap).trngCount = s.trngCount ∧ (State.retryRecord s cap).ident = s.ident ∧
      (State.retryRecord s cap).supply = s.supply ∧ (State.retryRecord s cap).md = s.md ∧ (State.retryRecord s cap).tm = s.tm ∧
      (State.retryRecord s cap).meas = s.meas ∧ (State.retryRecord s cap).aux = s.aux ∧ (State.retryRecord s cap).itg = s.itg ∧
      (State.retryRecord s cap).bal = s.bal ∧ (State.retryRecord s cap).hio = s.hio ∧ (State.retryRecord s cap).lp = s.lp ∧
      (State.retryRecord s cap).ring = s.ring ∧ (State.retryRecord s cap).can = s.can ∧ (State.retryRecord s cap).px = s.px ∧
      (State.retryRecord s cap).flt = s.flt ∧ (State.retryRecord s cap).sent = s.sent ∧ (State.retryRecord s cap).mgmt = s.mgmt := by
  unfold State.retryRecord
  refine ⟨?_, ?_, ?_, ?_, ?_, ?_, ?_, ?_, ?_, ?_, ?_, ?_, ?_, ?_, ?_, ?_, ?_, ?_, ?_, ?_, ?_, ?_⟩ <;> (repeat' split) <;> simp
@[simp] theorem State.learn_frame (s : State) (n : Nat) (a b : RestPt) :
    (State.learn s n a b).now = s.now ∧ (State.learn s n a b).ringOffset = s.ringOffset ∧ (State.learn s n a b).pending = s.pending ∧
      (State.learn s n a b).pm = s.pm ∧ (State.learn s n a b).trngCount = s.trngCount ∧ (State.learn s n a b).supply = s.supply ∧
      (State.learn s n a b).aux = s.aux ∧ (State.learn s n a b).itg = s.itg ∧ (State.learn s n a b).lp = s.lp ∧
      (State.learn s n a b).px = s.px ∧ (State.learn s n a b).sent = s.sent := by simp [State.learn]
@[simp] theorem State.stepCell_frame (s : State) (x : StepSt) (amps : Rat) (n : Nat) (uv : Rat) :
    (State.stepCell s x amps n uv).now = s.now ∧ (State.stepCell s x amps n uv).ringOffset = s.ringOffset ∧
      (State.stepCell s x amps n uv).pending = s.pending ∧ (State.stepCell s x amps n uv).dict = s.dict ∧
      (State.stepCell s x amps n uv).pm = s.pm ∧ (State.stepCell s x amps n uv).out = s.out ∧
      (State.stepCell s x amps n uv).trngCount = s.trngCount ∧ (State.stepCell s x amps n uv).ident = s.ident ∧
      (State.stepCell s x amps n uv).supply = s.supply ∧ (State.stepCell s x amps n uv).md = s.md ∧
      (State.stepCell s x amps n uv).tm = s.tm ∧ (State.stepCell s x amps n uv).meas = s.meas ∧
      (State.stepCell s x amps n uv).aux = s.aux ∧ (State.stepCell s x amps n uv).itg = s.itg ∧
      (State.stepCell s x amps n uv).bal = s.bal ∧ (State.stepCell s x amps n uv).hio = s.hio ∧ (State.stepCell s x amps n uv).lp = s.lp ∧
      (State.stepCell s x amps n uv).ring = s.ring ∧ (State.stepCell s x amps n uv).can = s.can ∧
      (State.stepCell s x amps n uv).px = s.px ∧ (State.stepCell s x amps n uv).flt = s.flt ∧
      (State.stepCell s x amps n uv).sent = s.sent ∧ (State.stepCell s x amps n uv).rcd = s.rcd ∧
      (State.stepCell s x amps n uv).mgmt = s.mgmt := by simp [State.stepCell]
@[simp] theorem State.sdCell_frame (s : State) (ocv : List Int) (n : Nat) :
    (State.sdCell s ocv n).now = s.now ∧ (State.sdCell s ocv n).ringOffset = s.ringOffset ∧ (State.sdCell s ocv n).pending = s.pending ∧
      (State.sdCell s ocv n).pm = s.pm ∧ (State.sdCell s ocv n).out = s.out ∧ (State.sdCell s ocv n).trngCount = s.trngCount ∧
      (State.sdCell s ocv n).ident = s.ident ∧ (State.sdCell s ocv n).supply = s.supply ∧ (State.sdCell s ocv n).md = s.md ∧
      (State.sdCell s ocv n).tm = s.tm ∧ (State.sdCell s ocv n).meas = s.meas ∧ (State.sdCell s ocv n).aux = s.aux ∧
      (State.sdCell s ocv n).itg = s.itg ∧ (State.sdCell s ocv n).bal = s.bal ∧ (State.sdCell s ocv n).hio = s.hio ∧
      (State.sdCell s ocv n).lp = s.lp ∧ (State.sdCell s ocv n).ring = s.ring ∧ (State.sdCell s ocv n).can = s.can ∧
      (State.sdCell s ocv n).px = s.px ∧ (State.sdCell s ocv n).flt = s.flt ∧ (State.sdCell s ocv n).sent = s.sent ∧
      (State.sdCell s ocv n).rcd = s.rcd ∧ (State.sdCell s ocv n).mgmt = s.mgmt := by simp [State.sdCell]
@[simp] theorem State.keepEst_frame (s : State) (cap : Bool) (record : Bytes) :
    (State.keepEst s cap record).now = s.now ∧ (State.keepEst s cap record).ringOffset = s.ringOffset ∧
      (State.keepEst s cap record).pending = s.pending ∧ (State.keepEst s cap record).dict = s.dict ∧
      (State.keepEst s cap record).pm = s.pm ∧ (State.keepEst s cap record).out = s.out ∧
      (State.keepEst s cap record).trngCount = s.trngCount ∧ (State.keepEst s cap record).ident = s.ident ∧
      (State.keepEst s cap record).supply = s.supply ∧ (State.keepEst s cap record).md = s.md ∧ (State.keepEst s cap record).tm = s.tm ∧
      (State.keepEst s cap record).meas = s.meas ∧ (State.keepEst s cap record).aux = s.aux ∧ (State.keepEst s cap record).itg = s.itg ∧
      (State.keepEst s cap record).bal = s.bal ∧ (State.keepEst s cap record).hio = s.hio ∧ (State.keepEst s cap record).lp = s.lp ∧
      (State.keepEst s cap record).ring = s.ring ∧ (State.keepEst s cap record).can = s.can ∧ (State.keepEst s cap record).px = s.px ∧
      (State.keepEst s cap record).flt = s.flt ∧ (State.keepEst s cap record).sent = s.sent ∧ (State.keepEst s cap record).rcd = s.rcd ∧
      (State.keepEst s cap record).mgmt = s.mgmt := by simp [State.keepEst]
@[simp] theorem State.sendEst_frame (s : State) (cap : Bool) (values : List Nat) :
    (State.sendEst s cap values).now = s.now ∧ (State.sendEst s cap values).ringOffset = s.ringOffset ∧
      (State.sendEst s cap values).pending = s.pending ∧ (State.sendEst s cap values).pm = s.pm ∧
      (State.sendEst s cap values).trngCount = s.trngCount ∧ (State.sendEst s cap values).ident = s.ident ∧
      (State.sendEst s cap values).supply = s.supply ∧ (State.sendEst s cap values).md = s.md ∧ (State.sendEst s cap values).tm = s.tm ∧
      (State.sendEst s cap values).meas = s.meas ∧ (State.sendEst s cap values).aux = s.aux ∧ (State.sendEst s cap values).itg = s.itg ∧
      (State.sendEst s cap values).bal = s.bal ∧ (State.sendEst s cap values).hio = s.hio ∧ (State.sendEst s cap values).lp = s.lp ∧
      (State.sendEst s cap values).can = s.can ∧ (State.sendEst s cap values).px = s.px ∧ (State.sendEst s cap values).flt = s.flt ∧
      (State.sendEst s cap values).sent = s.sent ∧ (State.sendEst s cap values).rcd = s.rcd ∧
      (State.sendEst s cap values).mgmt = s.mgmt := by simp [State.sendEst]
@[simp] theorem State.recPrecision_frame (s : State) (n word instant : Nat) :
    (State.recPrecision s n word instant).now = s.now ∧ (State.recPrecision s n word instant).ringOffset = s.ringOffset ∧
      (State.recPrecision s n word instant).pending = s.pending ∧ (State.recPrecision s n word instant).dict = s.dict ∧
      (State.recPrecision s n word instant).pm = s.pm ∧ (State.recPrecision s n word instant).out = s.out ∧
      (State.recPrecision s n word instant).trngCount = s.trngCount ∧ (State.recPrecision s n word instant).ident = s.ident ∧
      (State.recPrecision s n word instant).supply = s.supply ∧ (State.recPrecision s n word instant).md = s.md ∧
      (State.recPrecision s n word instant).tm = s.tm ∧ (State.recPrecision s n word instant).meas = s.meas ∧
      (State.recPrecision s n word instant).aux = s.aux ∧ (State.recPrecision s n word instant).itg = s.itg ∧
      (State.recPrecision s n word instant).bal = s.bal ∧ (State.recPrecision s n word instant).hio = s.hio ∧
      (State.recPrecision s n word instant).est = s.est ∧ (State.recPrecision s n word instant).lp = s.lp ∧
      (State.recPrecision s n word instant).ring = s.ring ∧ (State.recPrecision s n word instant).can = s.can ∧
      (State.recPrecision s n word instant).px = s.px ∧ (State.recPrecision s n word instant).flt = s.flt ∧
      (State.recPrecision s n word instant).sent = s.sent ∧ (State.recPrecision s n word instant).mgmt = s.mgmt := by simp [State.recPrecision]
@[simp] theorem State.addBin_frame (s : State) (hist unit bin : Nat) :
    (State.addBin s hist unit bin).now = s.now ∧ (State.addBin s hist unit bin).ringOffset = s.ringOffset ∧
      (State.addBin s hist unit bin).pending = s.pending ∧ (State.addBin s hist unit bin).dict = s.dict ∧
      (State.addBin s hist unit bin).pm = s.pm ∧ (State.addBin s hist unit bin).out = s.out ∧
      (State.addBin s hist unit bin).trngCount = s.trngCount ∧ (State.addBin s hist unit bin).ident = s.ident ∧
      (State.addBin s hist unit bin).supply = s.supply ∧ (State.addBin s hist unit bin).md = s.md ∧
      (State.addBin s hist unit bin).tm = s.tm ∧ (State.addBin s hist unit bin).meas = s.meas ∧
      (State.addBin s hist unit bin).aux = s.aux ∧ (State.addBin s hist unit bin).itg = s.itg ∧
      (State.addBin s hist unit bin).bal = s.bal ∧ (State.addBin s hist unit bin).hio = s.hio ∧
      (State.addBin s hist unit bin).est = s.est ∧ (State.addBin s hist unit bin).lp = s.lp ∧
      (State.addBin s hist unit bin).ring = s.ring ∧ (State.addBin s hist unit bin).can = s.can ∧
      (State.addBin s hist unit bin).px = s.px ∧ (State.addBin s hist unit bin).flt = s.flt ∧
      (State.addBin s hist unit bin).sent = s.sent ∧ (State.addBin s hist unit bin).mgmt = s.mgmt := by simp [State.addBin]
@[simp] theorem State.clearHist_frame (s : State) (hists : List Nat) :
    (State.clearHist s hists).now = s.now ∧ (State.clearHist s hists).ringOffset = s.ringOffset ∧
      (State.clearHist s hists).pending = s.pending ∧ (State.clearHist s hists).dict = s.dict ∧ (State.clearHist s hists).pm = s.pm ∧
      (State.clearHist s hists).out = s.out ∧ (State.clearHist s hists).trngCount = s.trngCount ∧
      (State.clearHist s hists).ident = s.ident ∧ (State.clearHist s hists).supply = s.supply ∧ (State.clearHist s hists).md = s.md ∧
      (State.clearHist s hists).tm = s.tm ∧ (State.clearHist s hists).meas = s.meas ∧ (State.clearHist s hists).aux = s.aux ∧
      (State.clearHist s hists).itg = s.itg ∧ (State.clearHist s hists).bal = s.bal ∧ (State.clearHist s hists).hio = s.hio ∧
      (State.clearHist s hists).est = s.est ∧ (State.clearHist s hists).lp = s.lp ∧ (State.clearHist s hists).ring = s.ring ∧
      (State.clearHist s hists).can = s.can ∧ (State.clearHist s hists).px = s.px ∧ (State.clearHist s hists).flt = s.flt ∧
      (State.clearHist s hists).sent = s.sent ∧ (State.clearHist s hists).mgmt = s.mgmt := by simp [State.clearHist]
@[simp] theorem State.rangeCleared_frame (s : State) (current : Bool) (role session : Nat) :
    (State.rangeCleared s current role session).now = s.now ∧ (State.rangeCleared s current role session).ringOffset = s.ringOffset ∧
      (State.rangeCleared s current role session).pending = s.pending ∧ (State.rangeCleared s current role session).pm = s.pm ∧
      (State.rangeCleared s current role session).out = s.out ∧ (State.rangeCleared s current role session).trngCount = s.trngCount ∧
      (State.rangeCleared s current role session).ident = s.ident ∧ (State.rangeCleared s current role session).supply = s.supply ∧
      (State.rangeCleared s current role session).md = s.md ∧ (State.rangeCleared s current role session).tm = s.tm ∧
      (State.rangeCleared s current role session).meas = s.meas ∧ (State.rangeCleared s current role session).aux = s.aux ∧
      (State.rangeCleared s current role session).itg = s.itg ∧ (State.rangeCleared s current role session).bal = s.bal ∧
      (State.rangeCleared s current role session).hio = s.hio ∧ (State.rangeCleared s current role session).est = s.est ∧
      (State.rangeCleared s current role session).lp = s.lp ∧ (State.rangeCleared s current role session).ring = s.ring ∧
      (State.rangeCleared s current role session).can = s.can ∧ (State.rangeCleared s current role session).px = s.px ∧
      (State.rangeCleared s current role session).flt = s.flt ∧ (State.rangeCleared s current role session).sent = s.sent ∧
      (State.rangeCleared s current role session).mgmt = s.mgmt := by simp [State.rangeCleared]
@[simp] theorem State.pmJobs_frame (s : State) (rank addr : Nat) (d : Bytes) :
    (State.pmJobs s rank addr d).now = s.now ∧ (State.pmJobs s rank addr d).ringOffset = s.ringOffset ∧
      (State.pmJobs s rank addr d).pending = s.pending ∧ (State.pmJobs s rank addr d).dict = s.dict ∧
      (State.pmJobs s rank addr d).pm = s.pm ∧ (State.pmJobs s rank addr d).out = s.out ∧
      (State.pmJobs s rank addr d).trngCount = s.trngCount ∧ (State.pmJobs s rank addr d).ident = s.ident ∧
      (State.pmJobs s rank addr d).supply = s.supply ∧ (State.pmJobs s rank addr d).md = s.md ∧ (State.pmJobs s rank addr d).tm = s.tm ∧
      (State.pmJobs s rank addr d).meas = s.meas ∧ (State.pmJobs s rank addr d).aux = s.aux ∧ (State.pmJobs s rank addr d).itg = s.itg ∧
      (State.pmJobs s rank addr d).bal = s.bal ∧ (State.pmJobs s rank addr d).hio = s.hio ∧ (State.pmJobs s rank addr d).est = s.est ∧
      (State.pmJobs s rank addr d).lp = s.lp ∧ (State.pmJobs s rank addr d).ring = s.ring ∧ (State.pmJobs s rank addr d).can = s.can ∧
      (State.pmJobs s rank addr d).px = s.px ∧ (State.pmJobs s rank addr d).flt = s.flt ∧ (State.pmJobs s rank addr d).sent = s.sent ∧
      (State.pmJobs s rank addr d).mgmt = s.mgmt := by simp [State.pmJobs]
@[simp] theorem State.closeDay_frame (s : State) (day : Nat) (calBad : Bool) :
    (State.closeDay s day calBad).now = s.now ∧ (State.closeDay s day calBad).ringOffset = s.ringOffset ∧
      (State.closeDay s day calBad).pending = s.pending ∧ (State.closeDay s day calBad).pm = s.pm ∧
      (State.closeDay s day calBad).out = s.out ∧ (State.closeDay s day calBad).trngCount = s.trngCount ∧
      (State.closeDay s day calBad).ident = s.ident ∧ (State.closeDay s day calBad).supply = s.supply ∧
      (State.closeDay s day calBad).md = s.md ∧ (State.closeDay s day calBad).tm = s.tm ∧ (State.closeDay s day calBad).meas = s.meas ∧
      (State.closeDay s day calBad).aux = s.aux ∧ (State.closeDay s day calBad).itg = s.itg ∧ (State.closeDay s day calBad).bal = s.bal ∧
      (State.closeDay s day calBad).hio = s.hio ∧ (State.closeDay s day calBad).est = s.est ∧ (State.closeDay s day calBad).lp = s.lp ∧
      (State.closeDay s day calBad).ring = s.ring ∧ (State.closeDay s day calBad).can = s.can ∧ (State.closeDay s day calBad).px = s.px ∧
      (State.closeDay s day calBad).flt = s.flt ∧ (State.closeDay s day calBad).sent = s.sent ∧
      (State.closeDay s day calBad).mgmt = s.mgmt := by simp [State.closeDay]
@[simp] theorem State.captureStore_frame (s : State) (h : SlotHdr) (payload : Bytes) (instant : Nat) :
    (State.captureStore s h payload instant).now = s.now ∧ (State.captureStore s h payload instant).ringOffset = s.ringOffset ∧
      (State.captureStore s h payload instant).pending = s.pending ∧ (State.captureStore s h payload instant).dict = s.dict ∧
      (State.captureStore s h payload instant).pm = s.pm ∧ (State.captureStore s h payload instant).out = s.out ∧
      (State.captureStore s h payload instant).trngCount = s.trngCount ∧ (State.captureStore s h payload instant).ident = s.ident ∧
      (State.captureStore s h payload instant).supply = s.supply ∧ (State.captureStore s h payload instant).md = s.md ∧
      (State.captureStore s h payload instant).tm = s.tm ∧ (State.captureStore s h payload instant).meas = s.meas ∧
      (State.captureStore s h payload instant).aux = s.aux ∧ (State.captureStore s h payload instant).itg = s.itg ∧
      (State.captureStore s h payload instant).bal = s.bal ∧ (State.captureStore s h payload instant).hio = s.hio ∧
      (State.captureStore s h payload instant).est = s.est ∧ (State.captureStore s h payload instant).lp = s.lp ∧
      (State.captureStore s h payload instant).ring = s.ring ∧ (State.captureStore s h payload instant).can = s.can ∧
      (State.captureStore s h payload instant).px = s.px ∧ (State.captureStore s h payload instant).flt = s.flt ∧
      (State.captureStore s h payload instant).sent = s.sent ∧ (State.captureStore s h payload instant).mgmt = s.mgmt := by simp [State.captureStore]
@[simp] theorem State.captureWide_frame (s : State) (node : Nat) (h : SlotHdr) (payload : Bytes) :
    (State.captureWide s node h payload).now = s.now ∧ (State.captureWide s node h payload).ringOffset = s.ringOffset ∧
      (State.captureWide s node h payload).pending = s.pending ∧ (State.captureWide s node h payload).dict = s.dict ∧
      (State.captureWide s node h payload).pm = s.pm ∧ (State.captureWide s node h payload).out = s.out ∧
      (State.captureWide s node h payload).trngCount = s.trngCount ∧ (State.captureWide s node h payload).ident = s.ident ∧
      (State.captureWide s node h payload).supply = s.supply ∧ (State.captureWide s node h payload).md = s.md ∧
      (State.captureWide s node h payload).tm = s.tm ∧ (State.captureWide s node h payload).meas = s.meas ∧
      (State.captureWide s node h payload).aux = s.aux ∧ (State.captureWide s node h payload).itg = s.itg ∧
      (State.captureWide s node h payload).bal = s.bal ∧ (State.captureWide s node h payload).hio = s.hio ∧
      (State.captureWide s node h payload).est = s.est ∧ (State.captureWide s node h payload).lp = s.lp ∧
      (State.captureWide s node h payload).ring = s.ring ∧ (State.captureWide s node h payload).can = s.can ∧
      (State.captureWide s node h payload).px = s.px ∧ (State.captureWide s node h payload).flt = s.flt ∧
      (State.captureWide s node h payload).sent = s.sent ∧ (State.captureWide s node h payload).mgmt = s.mgmt := by simp [State.captureWide]
@[simp] theorem State.captureCurrentSlot_frame (s : State) (h : SlotHdr) (payload : Bytes) :
    (State.captureCurrentSlot s h payload).now = s.now ∧ (State.captureCurrentSlot s h payload).ringOffset = s.ringOffset ∧
      (State.captureCurrentSlot s h payload).pending = s.pending ∧ (State.captureCurrentSlot s h payload).dict = s.dict ∧
      (State.captureCurrentSlot s h payload).pm = s.pm ∧ (State.captureCurrentSlot s h payload).out = s.out ∧
      (State.captureCurrentSlot s h payload).trngCount = s.trngCount ∧ (State.captureCurrentSlot s h payload).ident = s.ident ∧
      (State.captureCurrentSlot s h payload).supply = s.supply ∧ (State.captureCurrentSlot s h payload).md = s.md ∧
      (State.captureCurrentSlot s h payload).tm = s.tm ∧ (State.captureCurrentSlot s h payload).meas = s.meas ∧
      (State.captureCurrentSlot s h payload).aux = s.aux ∧ (State.captureCurrentSlot s h payload).itg = s.itg ∧
      (State.captureCurrentSlot s h payload).bal = s.bal ∧ (State.captureCurrentSlot s h payload).hio = s.hio ∧
      (State.captureCurrentSlot s h payload).est = s.est ∧ (State.captureCurrentSlot s h payload).lp = s.lp ∧
      (State.captureCurrentSlot s h payload).ring = s.ring ∧ (State.captureCurrentSlot s h payload).can = s.can ∧
      (State.captureCurrentSlot s h payload).px = s.px ∧ (State.captureCurrentSlot s h payload).flt = s.flt ∧
      (State.captureCurrentSlot s h payload).sent = s.sent ∧
      (State.captureCurrentSlot s h payload).mgmt = s.mgmt := by simp [State.captureCurrentSlot]
@[simp] theorem State.captureAux_frame (s : State) (chan word : Nat) :
    (State.captureAux s chan word).now = s.now ∧ (State.captureAux s chan word).ringOffset = s.ringOffset ∧
      (State.captureAux s chan word).pending = s.pending ∧ (State.captureAux s chan word).dict = s.dict ∧
      (State.captureAux s chan word).pm = s.pm ∧ (State.captureAux s chan word).out = s.out ∧
      (State.captureAux s chan word).trngCount = s.trngCount ∧ (State.captureAux s chan word).ident = s.ident ∧
      (State.captureAux s chan word).supply = s.supply ∧ (State.captureAux s chan word).md = s.md ∧
      (State.captureAux s chan word).tm = s.tm ∧ (State.captureAux s chan word).meas = s.meas ∧
      (State.captureAux s chan word).itg = s.itg ∧ (State.captureAux s chan word).bal = s.bal ∧
      (State.captureAux s chan word).hio = s.hio ∧ (State.captureAux s chan word).est = s.est ∧ (State.captureAux s chan word).lp = s.lp ∧
      (State.captureAux s chan word).ring = s.ring ∧ (State.captureAux s chan word).can = s.can ∧
      (State.captureAux s chan word).px = s.px ∧ (State.captureAux s chan word).flt = s.flt ∧
      (State.captureAux s chan word).sent = s.sent ∧ (State.captureAux s chan word).mgmt = s.mgmt := by simp [State.captureAux]
@[simp] theorem State.captureClose_frame (s : State) (slot : Nat) (r : CapRec) (truncated : Bool) :
    (State.captureClose s slot r truncated).now = s.now ∧ (State.captureClose s slot r truncated).ringOffset = s.ringOffset ∧
      (State.captureClose s slot r truncated).pending = s.pending ∧ (State.captureClose s slot r truncated).pm = s.pm ∧
      (State.captureClose s slot r truncated).out = s.out ∧ (State.captureClose s slot r truncated).trngCount = s.trngCount ∧
      (State.captureClose s slot r truncated).ident = s.ident ∧ (State.captureClose s slot r truncated).supply = s.supply ∧
      (State.captureClose s slot r truncated).md = s.md ∧ (State.captureClose s slot r truncated).tm = s.tm ∧
      (State.captureClose s slot r truncated).itg = s.itg ∧ (State.captureClose s slot r truncated).bal = s.bal ∧
      (State.captureClose s slot r truncated).hio = s.hio ∧ (State.captureClose s slot r truncated).est = s.est ∧
      (State.captureClose s slot r truncated).lp = s.lp ∧ (State.captureClose s slot r truncated).ring = s.ring ∧
      (State.captureClose s slot r truncated).can = s.can ∧ (State.captureClose s slot r truncated).px = s.px ∧
      (State.captureClose s slot r truncated).flt = s.flt ∧ (State.captureClose s slot r truncated).sent = s.sent := by simp [State.captureClose]
@[simp] theorem State.readoutPump_frame (s : State) (stream : Bytes) (id : Nat) (n : Nat) :
    (State.readoutPump s stream id n).now = s.now ∧ (State.readoutPump s stream id n).ringOffset = s.ringOffset ∧
      (State.readoutPump s stream id n).pending = s.pending ∧ (State.readoutPump s stream id n).pm = s.pm ∧
      (State.readoutPump s stream id n).trngCount = s.trngCount ∧ (State.readoutPump s stream id n).ident = s.ident ∧
      (State.readoutPump s stream id n).supply = s.supply ∧ (State.readoutPump s stream id n).md = s.md ∧
      (State.readoutPump s stream id n).tm = s.tm ∧ (State.readoutPump s stream id n).meas = s.meas ∧
      (State.readoutPump s stream id n).aux = s.aux ∧ (State.readoutPump s stream id n).itg = s.itg ∧
      (State.readoutPump s stream id n).bal = s.bal ∧ (State.readoutPump s stream id n).hio = s.hio ∧
      (State.readoutPump s stream id n).est = s.est ∧ (State.readoutPump s stream id n).lp = s.lp ∧
      (State.readoutPump s stream id n).can = s.can ∧ (State.readoutPump s stream id n).px = s.px ∧
      (State.readoutPump s stream id n).flt = s.flt ∧ (State.readoutPump s stream id n).sent = s.sent ∧
      (State.readoutPump s stream id n).mgmt = s.mgmt := by
  induction n generalizing s with
  | zero => simp [State.readoutPump]
  | succ n ih =>
    unfold State.readoutPump
    split
    · simp
    · dsimp only
      refine ⟨?_, ?_, ?_, ?_, ?_, ?_, ?_, ?_, ?_, ?_, ?_, ?_, ?_, ?_, ?_, ?_, ?_, ?_, ?_, ?_, ?_⟩ <;> split <;> simp [ih]
@[simp] theorem State.jobWritten_frame (s : State) (j : PmJob) :
    (State.jobWritten s j).now = s.now ∧ (State.jobWritten s j).ringOffset = s.ringOffset ∧ (State.jobWritten s j).pending = s.pending ∧
      (State.jobWritten s j).out = s.out ∧ (State.jobWritten s j).trngCount = s.trngCount ∧ (State.jobWritten s j).ident = s.ident ∧
      (State.jobWritten s j).supply = s.supply ∧ (State.jobWritten s j).md = s.md ∧ (State.jobWritten s j).tm = s.tm ∧
      (State.jobWritten s j).meas = s.meas ∧ (State.jobWritten s j).aux = s.aux ∧ (State.jobWritten s j).itg = s.itg ∧
      (State.jobWritten s j).bal = s.bal ∧ (State.jobWritten s j).hio = s.hio ∧ (State.jobWritten s j).lp = s.lp ∧
      (State.jobWritten s j).ring = s.ring ∧ (State.jobWritten s j).can = s.can ∧ (State.jobWritten s j).px = s.px ∧
      (State.jobWritten s j).flt = s.flt ∧ (State.jobWritten s j).sent = s.sent ∧ (State.jobWritten s j).mgmt = s.mgmt := by simp [State.jobWritten]
@[simp] theorem State.copyFailed_frame (s : State) :
    (State.copyFailed s).now = s.now ∧ (State.copyFailed s).ringOffset = s.ringOffset ∧ (State.copyFailed s).pending = s.pending ∧
      (State.copyFailed s).pm = s.pm ∧ (State.copyFailed s).trngCount = s.trngCount ∧ (State.copyFailed s).supply = s.supply ∧
      (State.copyFailed s).aux = s.aux ∧ (State.copyFailed s).itg = s.itg ∧ (State.copyFailed s).est = s.est ∧
      (State.copyFailed s).lp = s.lp ∧ (State.copyFailed s).px = s.px ∧ (State.copyFailed s).sent = s.sent := by simp [State.copyFailed]
@[simp] theorem State.publishCell_frame (s : State) (n word source instant : Nat) :
    (State.publishCell s n word source instant).now = s.now ∧ (State.publishCell s n word source instant).ringOffset = s.ringOffset ∧
      (State.publishCell s n word source instant).pending = s.pending ∧ (State.publishCell s n word source instant).pm = s.pm ∧
      (State.publishCell s n word source instant).out = s.out ∧ (State.publishCell s n word source instant).trngCount = s.trngCount ∧
      (State.publishCell s n word source instant).ident = s.ident ∧ (State.publishCell s n word source instant).supply = s.supply ∧
      (State.publishCell s n word source instant).md = s.md ∧ (State.publishCell s n word source instant).tm = s.tm ∧
      (State.publishCell s n word source instant).aux = s.aux ∧ (State.publishCell s n word source instant).itg = s.itg ∧
      (State.publishCell s n word source instant).bal = s.bal ∧ (State.publishCell s n word source instant).hio = s.hio ∧
      (State.publishCell s n word source instant).est = s.est ∧ (State.publishCell s n word source instant).lp = s.lp ∧
      (State.publishCell s n word source instant).ring = s.ring ∧ (State.publishCell s n word source instant).can = s.can ∧
      (State.publishCell s n word source instant).px = s.px ∧ (State.publishCell s n word source instant).flt = s.flt ∧
      (State.publishCell s n word source instant).sent = s.sent ∧ (State.publishCell s n word source instant).rcd = s.rcd ∧
      (State.publishCell s n word source instant).mgmt = s.mgmt := by simp [State.publishCell]
@[simp] theorem State.owtBegin_frame (s : State) (x : OwtId) (retest extra : Bool) :
    (State.owtBegin s x retest extra).now = s.now ∧ (State.owtBegin s x retest extra).ringOffset = s.ringOffset ∧
      (State.owtBegin s x retest extra).pending = s.pending ∧ (State.owtBegin s x retest extra).pm = s.pm ∧
      (State.owtBegin s x retest extra).out = s.out ∧ (State.owtBegin s x retest extra).trngCount = s.trngCount ∧
      (State.owtBegin s x retest extra).ident = s.ident ∧ (State.owtBegin s x retest extra).supply = s.supply ∧
      (State.owtBegin s x retest extra).md = s.md ∧ (State.owtBegin s x retest extra).tm = s.tm ∧
      (State.owtBegin s x retest extra).hio = s.hio ∧ (State.owtBegin s x retest extra).est = s.est ∧
      (State.owtBegin s x retest extra).lp = s.lp ∧ (State.owtBegin s x retest extra).ring = s.ring ∧
      (State.owtBegin s x retest extra).can = s.can ∧ (State.owtBegin s x retest extra).px = s.px ∧
      (State.owtBegin s x retest extra).flt = s.flt ∧ (State.owtBegin s x retest extra).sent = s.sent ∧
      (State.owtBegin s x retest extra).mgmt = s.mgmt := by simp [State.owtBegin]
@[simp] theorem State.owtCurrentOn_frame (s : State) (x : OwtTest) :
    (State.owtCurrentOn s x).now = s.now ∧ (State.owtCurrentOn s x).ringOffset = s.ringOffset ∧
      (State.owtCurrentOn s x).pending = s.pending ∧ (State.owtCurrentOn s x).pm = s.pm ∧ (State.owtCurrentOn s x).out = s.out ∧
      (State.owtCurrentOn s x).trngCount = s.trngCount ∧ (State.owtCurrentOn s x).ident = s.ident ∧
      (State.owtCurrentOn s x).supply = s.supply ∧ (State.owtCurrentOn s x).md = s.md ∧ (State.owtCurrentOn s x).tm = s.tm ∧
      (State.owtCurrentOn s x).hio = s.hio ∧ (State.owtCurrentOn s x).est = s.est ∧ (State.owtCurrentOn s x).lp = s.lp ∧
      (State.owtCurrentOn s x).ring = s.ring ∧ (State.owtCurrentOn s x).can = s.can ∧ (State.owtCurrentOn s x).px = s.px ∧
      (State.owtCurrentOn s x).flt = s.flt ∧ (State.owtCurrentOn s x).sent = s.sent ∧
      (State.owtCurrentOn s x).mgmt = s.mgmt := by simp [State.owtCurrentOn]
@[simp] theorem State.owtResult_frame (s : State) (x : OwtTest) (failed : Bool) :
    (State.owtResult s x failed).now = s.now ∧ (State.owtResult s x failed).ringOffset = s.ringOffset ∧
      (State.owtResult s x failed).pending = s.pending ∧ (State.owtResult s x failed).pm = s.pm ∧
      (State.owtResult s x failed).trngCount = s.trngCount ∧ (State.owtResult s x failed).supply = s.supply ∧
      (State.owtResult s x failed).aux = s.aux ∧ (State.owtResult s x failed).est = s.est ∧ (State.owtResult s x failed).lp = s.lp ∧
      (State.owtResult s x failed).px = s.px ∧ (State.owtResult s x failed).sent = s.sent := by simp [State.owtResult]
@[simp] theorem State.verdictCells_frame (s : State) :
    (State.verdictCells s).now = s.now ∧ (State.verdictCells s).ringOffset = s.ringOffset ∧ (State.verdictCells s).pending = s.pending ∧
      (State.verdictCells s).dict = s.dict ∧ (State.verdictCells s).pm = s.pm ∧ (State.verdictCells s).out = s.out ∧
      (State.verdictCells s).trngCount = s.trngCount ∧ (State.verdictCells s).ident = s.ident ∧ (State.verdictCells s).supply = s.supply ∧
      (State.verdictCells s).md = s.md ∧ (State.verdictCells s).tm = s.tm ∧ (State.verdictCells s).meas = s.meas ∧
      (State.verdictCells s).aux = s.aux ∧ (State.verdictCells s).bal = s.bal ∧ (State.verdictCells s).hio = s.hio ∧
      (State.verdictCells s).est = s.est ∧ (State.verdictCells s).lp = s.lp ∧ (State.verdictCells s).ring = s.ring ∧
      (State.verdictCells s).can = s.can ∧ (State.verdictCells s).px = s.px ∧ (State.verdictCells s).flt = s.flt ∧
      (State.verdictCells s).sent = s.sent ∧ (State.verdictCells s).rcd = s.rcd ∧ (State.verdictCells s).mgmt = s.mgmt := by simp [State.verdictCells]
@[simp] theorem State.senseVerdict_frame (s : State) (k : Nat) :
    (State.senseVerdict s k).now = s.now ∧ (State.senseVerdict s k).ringOffset = s.ringOffset ∧
      (State.senseVerdict s k).pending = s.pending ∧ (State.senseVerdict s k).pm = s.pm ∧
      (State.senseVerdict s k).trngCount = s.trngCount ∧ (State.senseVerdict s k).supply = s.supply ∧
      (State.senseVerdict s k).aux = s.aux ∧ (State.senseVerdict s k).est = s.est ∧ (State.senseVerdict s k).lp = s.lp ∧
      (State.senseVerdict s k).px = s.px ∧ (State.senseVerdict s k).sent = s.sent := by simp [State.senseVerdict]
@[simp] theorem State.forceVerdict_frame (s : State) (k : Nat) :
    (State.forceVerdict s k).now = s.now ∧ (State.forceVerdict s k).ringOffset = s.ringOffset ∧
      (State.forceVerdict s k).pending = s.pending ∧ (State.forceVerdict s k).pm = s.pm ∧
      (State.forceVerdict s k).trngCount = s.trngCount ∧ (State.forceVerdict s k).supply = s.supply ∧
      (State.forceVerdict s k).aux = s.aux ∧ (State.forceVerdict s k).est = s.est ∧ (State.forceVerdict s k).lp = s.lp ∧
      (State.forceVerdict s k).px = s.px ∧ (State.forceVerdict s k).sent = s.sent := by simp [State.forceVerdict]
@[simp] theorem State.forceOutcome_frame (s : State) (n : Nat) (failed : Bool) :
    (State.forceOutcome s n failed).now = s.now ∧ (State.forceOutcome s n failed).ringOffset = s.ringOffset ∧
      (State.forceOutcome s n failed).pending = s.pending ∧ (State.forceOutcome s n failed).pm = s.pm ∧
      (State.forceOutcome s n failed).trngCount = s.trngCount ∧ (State.forceOutcome s n failed).supply = s.supply ∧
      (State.forceOutcome s n failed).aux = s.aux ∧ (State.forceOutcome s n failed).est = s.est ∧
      (State.forceOutcome s n failed).lp = s.lp ∧ (State.forceOutcome s n failed).px = s.px ∧
      (State.forceOutcome s n failed).sent = s.sent := by simp [State.forceOutcome]
@[simp] theorem State.endVerdicts_frame (s : State) :
    (State.endVerdicts s).now = s.now ∧ (State.endVerdicts s).ringOffset = s.ringOffset ∧ (State.endVerdicts s).pending = s.pending ∧
      (State.endVerdicts s).dict = s.dict ∧ (State.endVerdicts s).pm = s.pm ∧ (State.endVerdicts s).out = s.out ∧
      (State.endVerdicts s).trngCount = s.trngCount ∧ (State.endVerdicts s).ident = s.ident ∧ (State.endVerdicts s).supply = s.supply ∧
      (State.endVerdicts s).md = s.md ∧ (State.endVerdicts s).tm = s.tm ∧ (State.endVerdicts s).meas = s.meas ∧
      (State.endVerdicts s).aux = s.aux ∧ (State.endVerdicts s).bal = s.bal ∧ (State.endVerdicts s).hio = s.hio ∧
      (State.endVerdicts s).est = s.est ∧ (State.endVerdicts s).lp = s.lp ∧ (State.endVerdicts s).ring = s.ring ∧
      (State.endVerdicts s).can = s.can ∧ (State.endVerdicts s).px = s.px ∧ (State.endVerdicts s).sent = s.sent ∧
      (State.endVerdicts s).rcd = s.rcd ∧ (State.endVerdicts s).mgmt = s.mgmt := by simp [State.endVerdicts]
@[simp] theorem State.roundComplete_frame (s : State) :
    (State.roundComplete s).now = s.now ∧ (State.roundComplete s).ringOffset = s.ringOffset ∧ (State.roundComplete s).pending = s.pending ∧
      (State.roundComplete s).pm = s.pm ∧ (State.roundComplete s).out = s.out ∧ (State.roundComplete s).trngCount = s.trngCount ∧
      (State.roundComplete s).ident = s.ident ∧ (State.roundComplete s).supply = s.supply ∧ (State.roundComplete s).md = s.md ∧
      (State.roundComplete s).tm = s.tm ∧ (State.roundComplete s).meas = s.meas ∧ (State.roundComplete s).aux = s.aux ∧
      (State.roundComplete s).bal = s.bal ∧ (State.roundComplete s).hio = s.hio ∧ (State.roundComplete s).est = s.est ∧
      (State.roundComplete s).lp = s.lp ∧ (State.roundComplete s).ring = s.ring ∧ (State.roundComplete s).can = s.can ∧
      (State.roundComplete s).px = s.px ∧ (State.roundComplete s).sent = s.sent ∧ (State.roundComplete s).rcd = s.rcd ∧
      (State.roundComplete s).mgmt = s.mgmt := by simp [State.roundComplete]
@[simp] theorem State.roundAdvance_frame (s : State) :
    (State.roundAdvance s).now = s.now ∧ (State.roundAdvance s).ringOffset = s.ringOffset ∧ (State.roundAdvance s).pending = s.pending ∧
      (State.roundAdvance s).pm = s.pm ∧ (State.roundAdvance s).out = s.out ∧ (State.roundAdvance s).trngCount = s.trngCount ∧
      (State.roundAdvance s).ident = s.ident ∧ (State.roundAdvance s).supply = s.supply ∧ (State.roundAdvance s).md = s.md ∧
      (State.roundAdvance s).tm = s.tm ∧ (State.roundAdvance s).meas = s.meas ∧ (State.roundAdvance s).aux = s.aux ∧
      (State.roundAdvance s).bal = s.bal ∧ (State.roundAdvance s).hio = s.hio ∧ (State.roundAdvance s).est = s.est ∧
      (State.roundAdvance s).lp = s.lp ∧ (State.roundAdvance s).ring = s.ring ∧ (State.roundAdvance s).can = s.can ∧
      (State.roundAdvance s).px = s.px ∧ (State.roundAdvance s).sent = s.sent ∧ (State.roundAdvance s).rcd = s.rcd ∧
      (State.roundAdvance s).mgmt = s.mgmt := by simp [State.roundAdvance]
@[simp] theorem State.patternVerdict_frame (s : State) (p : Pattern) :
    (State.patternVerdict s p).now = s.now ∧ (State.patternVerdict s p).ringOffset = s.ringOffset ∧
      (State.patternVerdict s p).pending = s.pending ∧ (State.patternVerdict s p).pm = s.pm ∧
      (State.patternVerdict s p).trngCount = s.trngCount ∧ (State.patternVerdict s p).supply = s.supply ∧
      (State.patternVerdict s p).aux = s.aux ∧ (State.patternVerdict s p).est = s.est ∧ (State.patternVerdict s p).lp = s.lp ∧
      (State.patternVerdict s p).px = s.px ∧ (State.patternVerdict s p).sent = s.sent := by
  unfold State.patternVerdict
  refine ⟨?_, ?_, ?_, ?_, ?_, ?_, ?_, ?_, ?_, ?_, ?_⟩ <;> (repeat' split) <;> simp
@[simp] theorem State.extraNext_frame (s : State) :
    (State.extraNext s).now = s.now ∧ (State.extraNext s).ringOffset = s.ringOffset ∧ (State.extraNext s).pending = s.pending ∧
      (State.extraNext s).pm = s.pm ∧ (State.extraNext s).trngCount = s.trngCount ∧ (State.extraNext s).supply = s.supply ∧
      (State.extraNext s).est = s.est ∧ (State.extraNext s).lp = s.lp ∧ (State.extraNext s).px = s.px ∧ (State.extraNext s).sent = s.sent := by
  unfold State.extraNext
  refine ⟨?_, ?_, ?_, ?_, ?_, ?_, ?_, ?_, ?_, ?_⟩ <;> (repeat' split) <;> simp
@[simp] theorem State.owtEnd_frame (s : State) (x : OwtTest) :
    (State.owtEnd s x).now = s.now ∧ (State.owtEnd s x).ringOffset = s.ringOffset ∧ (State.owtEnd s x).pending = s.pending ∧
      (State.owtEnd s x).pm = s.pm ∧ (State.owtEnd s x).trngCount = s.trngCount ∧ (State.owtEnd s x).supply = s.supply ∧
      (State.owtEnd s x).est = s.est ∧ (State.owtEnd s x).lp = s.lp ∧ (State.owtEnd s x).px = s.px ∧
      (State.owtEnd s x).sent = s.sent := by simp [State.owtEnd]
@[simp] theorem State.setDev_frame (s : State) (d : Nat) (x : PawnSt) :
    (State.setDev s d x).now = s.now ∧ (State.setDev s d x).ringOffset = s.ringOffset ∧ (State.setDev s d x).pending = s.pending ∧
      (State.setDev s d x).dict = s.dict ∧ (State.setDev s d x).pm = s.pm ∧ (State.setDev s d x).out = s.out ∧
      (State.setDev s d x).trngCount = s.trngCount ∧ (State.setDev s d x).ident = s.ident ∧ (State.setDev s d x).supply = s.supply ∧
      (State.setDev s d x).md = s.md ∧ (State.setDev s d x).tm = s.tm ∧ (State.setDev s d x).meas = s.meas ∧
      (State.setDev s d x).itg = s.itg ∧ (State.setDev s d x).bal = s.bal ∧ (State.setDev s d x).hio = s.hio ∧
      (State.setDev s d x).est = s.est ∧ (State.setDev s d x).lp = s.lp ∧ (State.setDev s d x).ring = s.ring ∧
      (State.setDev s d x).can = s.can ∧ (State.setDev s d x).px = s.px ∧ (State.setDev s d x).flt = s.flt ∧
      (State.setDev s d x).sent = s.sent ∧ (State.setDev s d x).rcd = s.rcd ∧ (State.setDev s d x).mgmt = s.mgmt := by simp [State.setDev]
@[simp] theorem State.pawnSkip_frame (s : State) (d pos : Nat) :
    (State.pawnSkip s d pos).now = s.now ∧ (State.pawnSkip s d pos).ringOffset = s.ringOffset ∧
      (State.pawnSkip s d pos).pending = s.pending ∧ (State.pawnSkip s d pos).pm = s.pm ∧ (State.pawnSkip s d pos).out = s.out ∧
      (State.pawnSkip s d pos).trngCount = s.trngCount ∧ (State.pawnSkip s d pos).ident = s.ident ∧
      (State.pawnSkip s d pos).supply = s.supply ∧ (State.pawnSkip s d pos).md = s.md ∧ (State.pawnSkip s d pos).tm = s.tm ∧
      (State.pawnSkip s d pos).meas = s.meas ∧ (State.pawnSkip s d pos).itg = s.itg ∧ (State.pawnSkip s d pos).bal = s.bal ∧
      (State.pawnSkip s d pos).hio = s.hio ∧ (State.pawnSkip s d pos).est = s.est ∧ (State.pawnSkip s d pos).lp = s.lp ∧
      (State.pawnSkip s d pos).ring = s.ring ∧ (State.pawnSkip s d pos).can = s.can ∧ (State.pawnSkip s d pos).px = s.px ∧
      (State.pawnSkip s d pos).flt = s.flt ∧ (State.pawnSkip s d pos).sent = s.sent ∧ (State.pawnSkip s d pos).rcd = s.rcd ∧
      (State.pawnSkip s d pos).mgmt = s.mgmt := by simp [State.pawnSkip]
@[simp] theorem State.pawnCompare_frame (s : State) (d : Nat) (e : PawnPend) (partner : Nat) :
    (State.pawnCompare s d e partner).now = s.now ∧ (State.pawnCompare s d e partner).ringOffset = s.ringOffset ∧
      (State.pawnCompare s d e partner).pending = s.pending ∧ (State.pawnCompare s d e partner).pm = s.pm ∧
      (State.pawnCompare s d e partner).trngCount = s.trngCount ∧ (State.pawnCompare s d e partner).supply = s.supply ∧
      (State.pawnCompare s d e partner).itg = s.itg ∧ (State.pawnCompare s d e partner).est = s.est ∧
      (State.pawnCompare s d e partner).lp = s.lp ∧ (State.pawnCompare s d e partner).px = s.px ∧
      (State.pawnCompare s d e partner).sent = s.sent := by simp [State.pawnCompare]
@[simp] theorem State.seqTrigger_frame (s : State) (u : AuxUser) (todo : List AuxEntry) (overrun : ObjDef) :
    (State.seqTrigger s u todo overrun).now = s.now ∧ (State.seqTrigger s u todo overrun).ringOffset = s.ringOffset ∧
      (State.seqTrigger s u todo overrun).pending = s.pending ∧ (State.seqTrigger s u todo overrun).pm = s.pm ∧
      (State.seqTrigger s u todo overrun).out = s.out ∧ (State.seqTrigger s u todo overrun).trngCount = s.trngCount ∧
      (State.seqTrigger s u todo overrun).ident = s.ident ∧ (State.seqTrigger s u todo overrun).supply = s.supply ∧
      (State.seqTrigger s u todo overrun).md = s.md ∧ (State.seqTrigger s u todo overrun).tm = s.tm ∧
      (State.seqTrigger s u todo overrun).hio = s.hio ∧ (State.seqTrigger s u todo overrun).est = s.est ∧
      (State.seqTrigger s u todo overrun).lp = s.lp ∧ (State.seqTrigger s u todo overrun).ring = s.ring ∧
      (State.seqTrigger s u todo overrun).can = s.can ∧ (State.seqTrigger s u todo overrun).px = s.px ∧
      (State.seqTrigger s u todo overrun).flt = s.flt ∧ (State.seqTrigger s u todo overrun).sent = s.sent ∧
      (State.seqTrigger s u todo overrun).mgmt = s.mgmt := by simp [State.seqTrigger]
@[simp] theorem State.setPass_frame (s : State) (p : AuxPass) :
    (State.setPass s p).now = s.now ∧ (State.setPass s p).ringOffset = s.ringOffset ∧ (State.setPass s p).pending = s.pending ∧
      (State.setPass s p).dict = s.dict ∧ (State.setPass s p).pm = s.pm ∧ (State.setPass s p).out = s.out ∧
      (State.setPass s p).trngCount = s.trngCount ∧ (State.setPass s p).ident = s.ident ∧ (State.setPass s p).supply = s.supply ∧
      (State.setPass s p).md = s.md ∧ (State.setPass s p).tm = s.tm ∧ (State.setPass s p).meas = s.meas ∧ (State.setPass s p).itg = s.itg ∧
      (State.setPass s p).bal = s.bal ∧ (State.setPass s p).hio = s.hio ∧ (State.setPass s p).est = s.est ∧ (State.setPass s p).lp = s.lp ∧
      (State.setPass s p).ring = s.ring ∧ (State.setPass s p).can = s.can ∧ (State.setPass s p).px = s.px ∧
      (State.setPass s p).flt = s.flt ∧ (State.setPass s p).sent = s.sent ∧ (State.setPass s p).rcd = s.rcd ∧
      (State.setPass s p).mgmt = s.mgmt := by simp [State.setPass]
@[simp] theorem State.auxSelfCheck_frame (s : State) (chan : Nat) (uv : Int) :
    (State.auxSelfCheck s chan uv).now = s.now ∧ (State.auxSelfCheck s chan uv).ringOffset = s.ringOffset ∧
      (State.auxSelfCheck s chan uv).pending = s.pending ∧ (State.auxSelfCheck s chan uv).pm = s.pm ∧
      (State.auxSelfCheck s chan uv).trngCount = s.trngCount ∧ (State.auxSelfCheck s chan uv).supply = s.supply ∧
      (State.auxSelfCheck s chan uv).est = s.est ∧ (State.auxSelfCheck s chan uv).lp = s.lp ∧ (State.auxSelfCheck s chan uv).px = s.px ∧
      (State.auxSelfCheck s chan uv).sent = s.sent := by simp [State.auxSelfCheck]
@[simp] theorem State.addMean_frame (s : State) (chan word : Nat) :
    (State.addMean s chan word).now = s.now ∧ (State.addMean s chan word).ringOffset = s.ringOffset ∧
      (State.addMean s chan word).pending = s.pending ∧ (State.addMean s chan word).dict = s.dict ∧ (State.addMean s chan word).pm = s.pm ∧
      (State.addMean s chan word).out = s.out ∧ (State.addMean s chan word).trngCount = s.trngCount ∧
      (State.addMean s chan word).ident = s.ident ∧ (State.addMean s chan word).supply = s.supply ∧ (State.addMean s chan word).md = s.md ∧
      (State.addMean s chan word).tm = s.tm ∧ (State.addMean s chan word).meas = s.meas ∧ (State.addMean s chan word).itg = s.itg ∧
      (State.addMean s chan word).bal = s.bal ∧ (State.addMean s chan word).hio = s.hio ∧ (State.addMean s chan word).est = s.est ∧
      (State.addMean s chan word).lp = s.lp ∧ (State.addMean s chan word).ring = s.ring ∧ (State.addMean s chan word).can = s.can ∧
      (State.addMean s chan word).px = s.px ∧ (State.addMean s chan word).flt = s.flt ∧ (State.addMean s chan word).sent = s.sent ∧
      (State.addMean s chan word).rcd = s.rcd ∧ (State.addMean s chan word).mgmt = s.mgmt := by simp [State.addMean]
@[simp] theorem State.routineResult_frame (s : State) (e : AuxEntry) (word instant : Nat) :
    (State.routineResult s e word instant).now = s.now ∧ (State.routineResult s e word instant).ringOffset = s.ringOffset ∧
      (State.routineResult s e word instant).pending = s.pending ∧ (State.routineResult s e word instant).pm = s.pm ∧
      (State.routineResult s e word instant).trngCount = s.trngCount ∧ (State.routineResult s e word instant).supply = s.supply ∧
      (State.routineResult s e word instant).lp = s.lp ∧ (State.routineResult s e word instant).px = s.px ∧
      (State.routineResult s e word instant).sent = s.sent := by simp [State.routineResult]
@[simp] theorem State.auxDeliver_frame (s : State) (u : AuxUser) (e : AuxEntry) (word instant : Nat) (more : Bool) :
    (State.auxDeliver s u e word instant more).now = s.now ∧ (State.auxDeliver s u e word instant more).ringOffset = s.ringOffset ∧
      (State.auxDeliver s u e word instant more).pending = s.pending ∧ (State.auxDeliver s u e word instant more).pm = s.pm ∧
      (State.auxDeliver s u e word instant more).trngCount = s.trngCount ∧ (State.auxDeliver s u e word instant more).supply = s.supply ∧
      (State.auxDeliver s u e word instant more).lp = s.lp ∧ (State.auxDeliver s u e word instant more).px = s.px ∧
      (State.auxDeliver s u e word instant more).sent = s.sent := by
  unfold State.auxDeliver
  refine ⟨?_, ?_, ?_, ?_, ?_, ?_, ?_, ?_, ?_⟩ <;> (repeat' split) <;> simp
@[simp] theorem State.blankClose_frame (s : State) :
    (State.blankClose s).now = s.now ∧ (State.blankClose s).ringOffset = s.ringOffset ∧ (State.blankClose s).pending = s.pending ∧
      (State.blankClose s).dict = s.dict ∧ (State.blankClose s).pm = s.pm ∧ (State.blankClose s).out = s.out ∧
      (State.blankClose s).trngCount = s.trngCount ∧ (State.blankClose s).ident = s.ident ∧ (State.blankClose s).supply = s.supply ∧
      (State.blankClose s).md = s.md ∧ (State.blankClose s).tm = s.tm ∧ (State.blankClose s).meas = s.meas ∧
      (State.blankClose s).itg = s.itg ∧ (State.blankClose s).hio = s.hio ∧ (State.blankClose s).est = s.est ∧
      (State.blankClose s).lp = s.lp ∧ (State.blankClose s).ring = s.ring ∧ (State.blankClose s).can = s.can ∧
      (State.blankClose s).px = s.px ∧ (State.blankClose s).flt = s.flt ∧ (State.blankClose s).sent = s.sent ∧
      (State.blankClose s).rcd = s.rcd ∧ (State.blankClose s).mgmt = s.mgmt := by simp [State.blankClose]
@[simp] theorem State.auxAccumulate_frame (s : State) (p : AuxPass) (e : AuxEntry) (code : Int) (short : Bool) :
    (State.auxAccumulate s p e code short).now = s.now ∧ (State.auxAccumulate s p e code short).ringOffset = s.ringOffset ∧
      (State.auxAccumulate s p e code short).pending = s.pending ∧ (State.auxAccumulate s p e code short).pm = s.pm ∧
      (State.auxAccumulate s p e code short).trngCount = s.trngCount ∧ (State.auxAccumulate s p e code short).supply = s.supply ∧
      (State.auxAccumulate s p e code short).lp = s.lp ∧ (State.auxAccumulate s p e code short).px = s.px ∧
      (State.auxAccumulate s p e code short).sent = s.sent := by simp [State.auxAccumulate]
@[simp] theorem State.pawnRoundEnd_frame (s : State) (d : Nat) :
    (State.pawnRoundEnd s d).now = s.now ∧ (State.pawnRoundEnd s d).ringOffset = s.ringOffset ∧
      (State.pawnRoundEnd s d).pending = s.pending ∧ (State.pawnRoundEnd s d).pm = s.pm ∧ (State.pawnRoundEnd s d).out = s.out ∧
      (State.pawnRoundEnd s d).trngCount = s.trngCount ∧ (State.pawnRoundEnd s d).ident = s.ident ∧
      (State.pawnRoundEnd s d).supply = s.supply ∧ (State.pawnRoundEnd s d).md = s.md ∧ (State.pawnRoundEnd s d).tm = s.tm ∧
      (State.pawnRoundEnd s d).meas = s.meas ∧ (State.pawnRoundEnd s d).itg = s.itg ∧ (State.pawnRoundEnd s d).bal = s.bal ∧
      (State.pawnRoundEnd s d).hio = s.hio ∧ (State.pawnRoundEnd s d).est = s.est ∧ (State.pawnRoundEnd s d).lp = s.lp ∧
      (State.pawnRoundEnd s d).ring = s.ring ∧ (State.pawnRoundEnd s d).can = s.can ∧ (State.pawnRoundEnd s d).px = s.px ∧
      (State.pawnRoundEnd s d).flt = s.flt ∧ (State.pawnRoundEnd s d).sent = s.sent ∧ (State.pawnRoundEnd s d).rcd = s.rcd ∧
      (State.pawnRoundEnd s d).mgmt = s.mgmt := by simp [State.pawnRoundEnd]
@[simp] theorem State.pawnTake_frame (s : State) (d pos : Nat) :
    (State.pawnTake s d pos).now = s.now ∧ (State.pawnTake s d pos).ringOffset = s.ringOffset ∧
      (State.pawnTake s d pos).pending = s.pending ∧ (State.pawnTake s d pos).pm = s.pm ∧ (State.pawnTake s d pos).out = s.out ∧
      (State.pawnTake s d pos).trngCount = s.trngCount ∧ (State.pawnTake s d pos).ident = s.ident ∧
      (State.pawnTake s d pos).supply = s.supply ∧ (State.pawnTake s d pos).md = s.md ∧ (State.pawnTake s d pos).tm = s.tm ∧
      (State.pawnTake s d pos).hio = s.hio ∧ (State.pawnTake s d pos).est = s.est ∧ (State.pawnTake s d pos).lp = s.lp ∧
      (State.pawnTake s d pos).ring = s.ring ∧ (State.pawnTake s d pos).can = s.can ∧ (State.pawnTake s d pos).px = s.px ∧
      (State.pawnTake s d pos).flt = s.flt ∧ (State.pawnTake s d pos).sent = s.sent ∧
      (State.pawnTake s d pos).mgmt = s.mgmt := by simp [State.pawnTake]
@[simp] theorem State.formDiffs_frame (s : State) :
    (State.formDiffs s).now = s.now ∧ (State.formDiffs s).ringOffset = s.ringOffset ∧ (State.formDiffs s).pending = s.pending ∧
      (State.formDiffs s).pm = s.pm ∧ (State.formDiffs s).out = s.out ∧ (State.formDiffs s).trngCount = s.trngCount ∧
      (State.formDiffs s).ident = s.ident ∧ (State.formDiffs s).supply = s.supply := by
  simp only [State.formDiffs]
  refine ⟨?_, ?_, ?_, ?_, ?_, ?_, ?_, ?_⟩ <;> (repeat' split) <;> simp
@[simp] theorem State.formDiffs_frame2 (s : State) :
    (State.formDiffs s).md = s.md ∧ (State.formDiffs s).tm = s.tm ∧ (State.formDiffs s).meas = s.meas ∧
      (State.formDiffs s).aux = s.aux ∧ (State.formDiffs s).bal = s.bal ∧ (State.formDiffs s).hio = s.hio ∧
      (State.formDiffs s).est = s.est ∧ (State.formDiffs s).lp = s.lp := by
  simp only [State.formDiffs]
  refine ⟨?_, ?_, ?_, ?_, ?_, ?_, ?_, ?_⟩ <;> (repeat' split) <;> simp
@[simp] theorem State.formDiffs_frame3 (s : State) :
    (State.formDiffs s).ring = s.ring ∧ (State.formDiffs s).can = s.can ∧ (State.formDiffs s).px = s.px ∧
      (State.formDiffs s).flt = s.flt ∧ (State.formDiffs s).sent = s.sent ∧ (State.formDiffs s).rcd = s.rcd ∧
      (State.formDiffs s).mgmt = s.mgmt := by
  simp only [State.formDiffs]
  refine ⟨?_, ?_, ?_, ?_, ?_, ?_, ?_⟩ <;> (repeat' split) <;> simp
@[simp] theorem State.clearMeans_frame (s : State) :
    (State.clearMeans s).now = s.now ∧ (State.clearMeans s).ringOffset = s.ringOffset ∧ (State.clearMeans s).pending = s.pending ∧
      (State.clearMeans s).dict = s.dict ∧ (State.clearMeans s).pm = s.pm ∧ (State.clearMeans s).out = s.out ∧
      (State.clearMeans s).trngCount = s.trngCount ∧ (State.clearMeans s).ident = s.ident ∧ (State.clearMeans s).supply = s.supply ∧
      (State.clearMeans s).md = s.md ∧ (State.clearMeans s).tm = s.tm ∧ (State.clearMeans s).itg = s.itg ∧
      (State.clearMeans s).bal = s.bal ∧ (State.clearMeans s).hio = s.hio ∧ (State.clearMeans s).est = s.est ∧
      (State.clearMeans s).lp = s.lp ∧ (State.clearMeans s).ring = s.ring ∧ (State.clearMeans s).can = s.can ∧
      (State.clearMeans s).px = s.px ∧ (State.clearMeans s).flt = s.flt ∧ (State.clearMeans s).sent = s.sent ∧
      (State.clearMeans s).rcd = s.rcd ∧ (State.clearMeans s).mgmt = s.mgmt := by simp [State.clearMeans]
@[simp] theorem State.setSent_frame (s : State) (k : Nat) (c : SentChan) :
    (State.setSent s k c).now = s.now ∧ (State.setSent s k c).ringOffset = s.ringOffset ∧ (State.setSent s k c).pending = s.pending ∧
      (State.setSent s k c).dict = s.dict ∧ (State.setSent s k c).pm = s.pm ∧ (State.setSent s k c).out = s.out ∧
      (State.setSent s k c).trngCount = s.trngCount ∧ (State.setSent s k c).ident = s.ident ∧ (State.setSent s k c).supply = s.supply ∧
      (State.setSent s k c).md = s.md ∧ (State.setSent s k c).tm = s.tm ∧ (State.setSent s k c).meas = s.meas ∧
      (State.setSent s k c).aux = s.aux ∧ (State.setSent s k c).itg = s.itg ∧ (State.setSent s k c).bal = s.bal ∧
      (State.setSent s k c).hio = s.hio ∧ (State.setSent s k c).est = s.est ∧ (State.setSent s k c).lp = s.lp ∧
      (State.setSent s k c).ring = s.ring ∧ (State.setSent s k c).can = s.can ∧ (State.setSent s k c).px = s.px ∧
      (State.setSent s k c).flt = s.flt ∧ (State.setSent s k c).rcd = s.rcd ∧ (State.setSent s k c).mgmt = s.mgmt := by simp [State.setSent]
@[simp] theorem State.sentDiscard_frame (s : State) (k : Nat) :
    (State.sentDiscard s k).now = s.now ∧ (State.sentDiscard s k).ringOffset = s.ringOffset ∧ (State.sentDiscard s k).pending = s.pending ∧
      (State.sentDiscard s k).pm = s.pm ∧ (State.sentDiscard s k).out = s.out ∧ (State.sentDiscard s k).trngCount = s.trngCount ∧
      (State.sentDiscard s k).ident = s.ident ∧ (State.sentDiscard s k).supply = s.supply ∧ (State.sentDiscard s k).md = s.md ∧
      (State.sentDiscard s k).tm = s.tm ∧ (State.sentDiscard s k).meas = s.meas ∧ (State.sentDiscard s k).aux = s.aux ∧
      (State.sentDiscard s k).itg = s.itg ∧ (State.sentDiscard s k).bal = s.bal ∧ (State.sentDiscard s k).hio = s.hio ∧
      (State.sentDiscard s k).est = s.est ∧ (State.sentDiscard s k).lp = s.lp ∧ (State.sentDiscard s k).ring = s.ring ∧
      (State.sentDiscard s k).can = s.can ∧ (State.sentDiscard s k).px = s.px ∧ (State.sentDiscard s k).flt = s.flt ∧
      (State.sentDiscard s k).rcd = s.rcd ∧ (State.sentDiscard s k).mgmt = s.mgmt := by simp [State.sentDiscard]
@[simp] theorem State.sentError_frame (s : State) (k kind : Nat) :
    (State.sentError s k kind).now = s.now ∧ (State.sentError s k kind).ringOffset = s.ringOffset ∧
      (State.sentError s k kind).pending = s.pending ∧ (State.sentError s k kind).dict = s.dict ∧ (State.sentError s k kind).pm = s.pm ∧
      (State.sentError s k kind).out = s.out ∧ (State.sentError s k kind).trngCount = s.trngCount ∧
      (State.sentError s k kind).ident = s.ident ∧ (State.sentError s k kind).supply = s.supply ∧ (State.sentError s k kind).md = s.md ∧
      (State.sentError s k kind).tm = s.tm ∧ (State.sentError s k kind).meas = s.meas ∧ (State.sentError s k kind).aux = s.aux ∧
      (State.sentError s k kind).itg = s.itg ∧ (State.sentError s k kind).bal = s.bal ∧ (State.sentError s k kind).hio = s.hio ∧
      (State.sentError s k kind).est = s.est ∧ (State.sentError s k kind).lp = s.lp ∧ (State.sentError s k kind).ring = s.ring ∧
      (State.sentError s k kind).can = s.can ∧ (State.sentError s k kind).px = s.px ∧ (State.sentError s k kind).flt = s.flt ∧
      (State.sentError s k kind).rcd = s.rcd ∧ (State.sentError s k kind).mgmt = s.mgmt := by simp [State.sentError]
@[simp] theorem State.sentSlow_frame (s : State) (k nib : Nat) :
    (State.sentSlow s k nib).now = s.now ∧ (State.sentSlow s k nib).ringOffset = s.ringOffset ∧
      (State.sentSlow s k nib).pending = s.pending ∧ (State.sentSlow s k nib).dict = s.dict ∧ (State.sentSlow s k nib).pm = s.pm ∧
      (State.sentSlow s k nib).out = s.out ∧ (State.sentSlow s k nib).trngCount = s.trngCount ∧ (State.sentSlow s k nib).ident = s.ident ∧
      (State.sentSlow s k nib).supply = s.supply ∧ (State.sentSlow s k nib).md = s.md ∧ (State.sentSlow s k nib).tm = s.tm ∧
      (State.sentSlow s k nib).meas = s.meas ∧ (State.sentSlow s k nib).aux = s.aux ∧ (State.sentSlow s k nib).itg = s.itg ∧
      (State.sentSlow s k nib).bal = s.bal ∧ (State.sentSlow s k nib).hio = s.hio ∧ (State.sentSlow s k nib).est = s.est ∧
      (State.sentSlow s k nib).lp = s.lp ∧ (State.sentSlow s k nib).ring = s.ring ∧ (State.sentSlow s k nib).can = s.can ∧
      (State.sentSlow s k nib).px = s.px ∧ (State.sentSlow s k nib).flt = s.flt ∧ (State.sentSlow s k nib).rcd = s.rcd ∧
      (State.sentSlow s k nib).mgmt = s.mgmt := by
  simp only [State.sentSlow]
  refine ⟨?_, ?_, ?_, ?_, ?_, ?_, ?_, ?_, ?_, ?_, ?_, ?_, ?_, ?_, ?_, ?_, ?_, ?_, ?_, ?_, ?_, ?_, ?_, ?_⟩ <;> (repeat' split) <;> simp
@[simp] theorem State.sentValid_frame (s : State) (k : Nat) (v : List Nat) :
    (State.sentValid s k v).now = s.now ∧ (State.sentValid s k v).ringOffset = s.ringOffset ∧ (State.sentValid s k v).pending = s.pending ∧
      (State.sentValid s k v).pm = s.pm ∧ (State.sentValid s k v).out = s.out ∧ (State.sentValid s k v).trngCount = s.trngCount ∧
      (State.sentValid s k v).ident = s.ident ∧ (State.sentValid s k v).supply = s.supply ∧ (State.sentValid s k v).md = s.md ∧
      (State.sentValid s k v).tm = s.tm ∧ (State.sentValid s k v).meas = s.meas ∧ (State.sentValid s k v).aux = s.aux ∧
      (State.sentValid s k v).itg = s.itg ∧ (State.sentValid s k v).bal = s.bal ∧ (State.sentValid s k v).hio = s.hio ∧
      (State.sentValid s k v).est = s.est ∧ (State.sentValid s k v).lp = s.lp ∧ (State.sentValid s k v).ring = s.ring ∧
      (State.sentValid s k v).can = s.can ∧ (State.sentValid s k v).px = s.px ∧ (State.sentValid s k v).flt = s.flt ∧
      (State.sentValid s k v).rcd = s.rcd ∧ (State.sentValid s k v).mgmt = s.mgmt := by simp [State.sentValid]
@[simp] theorem State.sentSupplyOn_frame (s : State) (k : Nat) :
    (State.sentSupplyOn s k).now = s.now ∧ (State.sentSupplyOn s k).ringOffset = s.ringOffset ∧
      (State.sentSupplyOn s k).pending = s.pending ∧ (State.sentSupplyOn s k).pm = s.pm ∧ (State.sentSupplyOn s k).out = s.out ∧
      (State.sentSupplyOn s k).trngCount = s.trngCount ∧ (State.sentSupplyOn s k).ident = s.ident ∧ (State.sentSupplyOn s k).md = s.md ∧
      (State.sentSupplyOn s k).tm = s.tm ∧ (State.sentSupplyOn s k).meas = s.meas ∧ (State.sentSupplyOn s k).aux = s.aux ∧
      (State.sentSupplyOn s k).itg = s.itg ∧ (State.sentSupplyOn s k).bal = s.bal ∧ (State.sentSupplyOn s k).hio = s.hio ∧
      (State.sentSupplyOn s k).est = s.est ∧ (State.sentSupplyOn s k).lp = s.lp ∧ (State.sentSupplyOn s k).ring = s.ring ∧
      (State.sentSupplyOn s k).can = s.can ∧ (State.sentSupplyOn s k).px = s.px ∧ (State.sentSupplyOn s k).flt = s.flt ∧
      (State.sentSupplyOn s k).rcd = s.rcd ∧ (State.sentSupplyOn s k).mgmt = s.mgmt := by simp [State.sentSupplyOn]
@[simp] theorem State.sentSupplyOff_frame (s : State) (k : Nat) :
    (State.sentSupplyOff s k).now = s.now ∧ (State.sentSupplyOff s k).ringOffset = s.ringOffset ∧
      (State.sentSupplyOff s k).pending = s.pending ∧ (State.sentSupplyOff s k).pm = s.pm ∧ (State.sentSupplyOff s k).out = s.out ∧
      (State.sentSupplyOff s k).trngCount = s.trngCount ∧ (State.sentSupplyOff s k).ident = s.ident ∧ (State.sentSupplyOff s k).md = s.md ∧
      (State.sentSupplyOff s k).tm = s.tm ∧ (State.sentSupplyOff s k).meas = s.meas ∧ (State.sentSupplyOff s k).aux = s.aux ∧
      (State.sentSupplyOff s k).itg = s.itg ∧ (State.sentSupplyOff s k).bal = s.bal ∧ (State.sentSupplyOff s k).hio = s.hio ∧
      (State.sentSupplyOff s k).est = s.est ∧ (State.sentSupplyOff s k).lp = s.lp ∧ (State.sentSupplyOff s k).ring = s.ring ∧
      (State.sentSupplyOff s k).can = s.can ∧ (State.sentSupplyOff s k).px = s.px ∧ (State.sentSupplyOff s k).flt = s.flt ∧
      (State.sentSupplyOff s k).rcd = s.rcd ∧ (State.sentSupplyOff s k).mgmt = s.mgmt := by simp [State.sentSupplyOff]
@[simp] theorem State.sentEnabled_frame (s : State) (k : Nat) (on : Bool) :
    (State.sentEnabled s k on).now = s.now ∧ (State.sentEnabled s k on).ringOffset = s.ringOffset ∧
      (State.sentEnabled s k on).pending = s.pending ∧ (State.sentEnabled s k on).pm = s.pm ∧ (State.sentEnabled s k on).out = s.out ∧
      (State.sentEnabled s k on).trngCount = s.trngCount ∧ (State.sentEnabled s k on).ident = s.ident ∧
      (State.sentEnabled s k on).md = s.md ∧ (State.sentEnabled s k on).tm = s.tm ∧ (State.sentEnabled s k on).meas = s.meas ∧
      (State.sentEnabled s k on).aux = s.aux ∧ (State.sentEnabled s k on).itg = s.itg ∧ (State.sentEnabled s k on).bal = s.bal ∧
      (State.sentEnabled s k on).hio = s.hio ∧ (State.sentEnabled s k on).est = s.est ∧ (State.sentEnabled s k on).lp = s.lp ∧
      (State.sentEnabled s k on).ring = s.ring ∧ (State.sentEnabled s k on).can = s.can ∧ (State.sentEnabled s k on).px = s.px ∧
      (State.sentEnabled s k on).rcd = s.rcd ∧ (State.sentEnabled s k on).mgmt = s.mgmt := by simp [State.sentEnabled]
@[simp] theorem State.publish_frame (s : State) (instant : Nat) :
    (State.publish s instant).now = s.now ∧ (State.publish s instant).ringOffset = s.ringOffset ∧
      (State.publish s instant).pending = s.pending ∧ (State.publish s instant).dict = s.dict ∧ (State.publish s instant).pm = s.pm ∧
      (State.publish s instant).out = s.out ∧ (State.publish s instant).trngCount = s.trngCount ∧
      (State.publish s instant).ident = s.ident ∧ (State.publish s instant).supply = s.supply ∧ (State.publish s instant).md = s.md ∧
      (State.publish s instant).tm = s.tm ∧ (State.publish s instant).meas = s.meas ∧ (State.publish s instant).aux = s.aux ∧
      (State.publish s instant).itg = s.itg ∧ (State.publish s instant).bal = s.bal ∧ (State.publish s instant).hio = s.hio ∧
      (State.publish s instant).est = s.est ∧ (State.publish s instant).lp = s.lp ∧ (State.publish s instant).ring = s.ring ∧
      (State.publish s instant).can = s.can ∧ (State.publish s instant).flt = s.flt ∧ (State.publish s instant).sent = s.sent ∧
      (State.publish s instant).rcd = s.rcd ∧ (State.publish s instant).mgmt = s.mgmt := by simp [State.publish]
@[simp] theorem State.fenceHalf_frame (s : State) (h2 : Bool) (src : Nat) :
    (State.fenceHalf s h2 src).now = s.now ∧ (State.fenceHalf s h2 src).ringOffset = s.ringOffset ∧
      (State.fenceHalf s h2 src).pending = s.pending ∧ (State.fenceHalf s h2 src).pm = s.pm ∧
      (State.fenceHalf s h2 src).trngCount = s.trngCount ∧ (State.fenceHalf s h2 src).supply = s.supply ∧
      (State.fenceHalf s h2 src).aux = s.aux ∧ (State.fenceHalf s h2 src).itg = s.itg ∧ (State.fenceHalf s h2 src).est = s.est ∧
      (State.fenceHalf s h2 src).lp = s.lp ∧ (State.fenceHalf s h2 src).px = s.px ∧
      (State.fenceHalf s h2 src).sent = s.sent := by simp [State.fenceHalf]
@[simp] theorem State.precisionOut_frame (s : State) (a b n : Nat) (uv : Rat) :
    (State.precisionOut s a b n uv).now = s.now ∧ (State.precisionOut s a b n uv).ringOffset = s.ringOffset ∧
      (State.precisionOut s a b n uv).pending = s.pending ∧ (State.precisionOut s a b n uv).pm = s.pm ∧
      (State.precisionOut s a b n uv).trngCount = s.trngCount ∧ (State.precisionOut s a b n uv).supply = s.supply ∧
      (State.precisionOut s a b n uv).itg = s.itg ∧ (State.precisionOut s a b n uv).lp = s.lp ∧ (State.precisionOut s a b n uv).px = s.px ∧
      (State.precisionOut s a b n uv).sent = s.sent := by simp [State.precisionOut]
@[simp] theorem State.pawnStale_frame (s : State) (b d : Nat) :
    (State.pawnStale s b d).now = s.now ∧ (State.pawnStale s b d).ringOffset = s.ringOffset ∧ (State.pawnStale s b d).pending = s.pending ∧
      (State.pawnStale s b d).pm = s.pm ∧ (State.pawnStale s b d).out = s.out ∧ (State.pawnStale s b d).trngCount = s.trngCount ∧
      (State.pawnStale s b d).ident = s.ident ∧ (State.pawnStale s b d).supply = s.supply ∧ (State.pawnStale s b d).md = s.md ∧
      (State.pawnStale s b d).tm = s.tm ∧ (State.pawnStale s b d).meas = s.meas ∧ (State.pawnStale s b d).itg = s.itg ∧
      (State.pawnStale s b d).bal = s.bal ∧ (State.pawnStale s b d).hio = s.hio ∧ (State.pawnStale s b d).est = s.est ∧
      (State.pawnStale s b d).lp = s.lp ∧ (State.pawnStale s b d).ring = s.ring ∧ (State.pawnStale s b d).can = s.can ∧
      (State.pawnStale s b d).px = s.px ∧ (State.pawnStale s b d).flt = s.flt ∧ (State.pawnStale s b d).sent = s.sent ∧
      (State.pawnStale s b d).rcd = s.rcd ∧ (State.pawnStale s b d).mgmt = s.mgmt := by simp [State.pawnStale]
@[simp] theorem State.sendPrecision_frame (s : State) (instant : Nat) :
    (State.sendPrecision s instant).now = s.now ∧ (State.sendPrecision s instant).ringOffset = s.ringOffset ∧
      (State.sendPrecision s instant).pending = s.pending ∧ (State.sendPrecision s instant).pm = s.pm ∧
      (State.sendPrecision s instant).trngCount = s.trngCount ∧ (State.sendPrecision s instant).ident = s.ident ∧
      (State.sendPrecision s instant).supply = s.supply ∧ (State.sendPrecision s instant).md = s.md ∧
      (State.sendPrecision s instant).tm = s.tm ∧ (State.sendPrecision s instant).meas = s.meas ∧
      (State.sendPrecision s instant).aux = s.aux ∧ (State.sendPrecision s instant).itg = s.itg ∧
      (State.sendPrecision s instant).bal = s.bal ∧ (State.sendPrecision s instant).hio = s.hio ∧
      (State.sendPrecision s instant).est = s.est ∧ (State.sendPrecision s instant).lp = s.lp ∧
      (State.sendPrecision s instant).can = s.can ∧ (State.sendPrecision s instant).px = s.px ∧
      (State.sendPrecision s instant).flt = s.flt ∧ (State.sendPrecision s instant).sent = s.sent ∧
      (State.sendPrecision s instant).rcd = s.rcd ∧ (State.sendPrecision s instant).mgmt = s.mgmt := by simp [State.sendPrecision]
@[simp] theorem State.wideOut_frame (s : State) (j n : Nat) (uv : Rat) :
    (State.wideOut s j n uv).now = s.now ∧ (State.wideOut s j n uv).ringOffset = s.ringOffset ∧
      (State.wideOut s j n uv).pending = s.pending ∧ (State.wideOut s j n uv).pm = s.pm ∧
      (State.wideOut s j n uv).trngCount = s.trngCount ∧ (State.wideOut s j n uv).ident = s.ident ∧
      (State.wideOut s j n uv).supply = s.supply ∧ (State.wideOut s j n uv).md = s.md ∧ (State.wideOut s j n uv).tm = s.tm ∧
      (State.wideOut s j n uv).aux = s.aux ∧ (State.wideOut s j n uv).itg = s.itg ∧ (State.wideOut s j n uv).bal = s.bal ∧
      (State.wideOut s j n uv).hio = s.hio ∧ (State.wideOut s j n uv).lp = s.lp ∧ (State.wideOut s j n uv).can = s.can ∧
      (State.wideOut s j n uv).px = s.px ∧ (State.wideOut s j n uv).flt = s.flt ∧ (State.wideOut s j n uv).sent = s.sent ∧
      (State.wideOut s j n uv).mgmt = s.mgmt := by
  simp only [State.wideOut]
  refine ⟨?_, ?_, ?_, ?_, ?_, ?_, ?_, ?_, ?_, ?_, ?_, ?_, ?_, ?_, ?_, ?_, ?_, ?_, ?_⟩ <;> (repeat' split) <;> simp
@[simp] theorem State.takeRipple_frame (s : State) (f amp : Rat) :
    (State.takeRipple s f amp).now = s.now ∧ (State.takeRipple s f amp).ringOffset = s.ringOffset ∧
      (State.takeRipple s f amp).pending = s.pending ∧ (State.takeRipple s f amp).dict = s.dict ∧ (State.takeRipple s f amp).pm = s.pm ∧
      (State.takeRipple s f amp).out = s.out ∧ (State.takeRipple s f amp).trngCount = s.trngCount ∧
      (State.takeRipple s f amp).ident = s.ident ∧ (State.takeRipple s f amp).supply = s.supply ∧ (State.takeRipple s f amp).md = s.md ∧
      (State.takeRipple s f amp).meas = s.meas ∧ (State.takeRipple s f amp).aux = s.aux ∧ (State.takeRipple s f amp).itg = s.itg ∧
      (State.takeRipple s f amp).bal = s.bal ∧ (State.takeRipple s f amp).hio = s.hio ∧ (State.takeRipple s f amp).est = s.est ∧
      (State.takeRipple s f amp).lp = s.lp ∧ (State.takeRipple s f amp).ring = s.ring ∧ (State.takeRipple s f amp).can = s.can ∧
      (State.takeRipple s f amp).px = s.px ∧ (State.takeRipple s f amp).flt = s.flt ∧ (State.takeRipple s f amp).sent = s.sent ∧
      (State.takeRipple s f amp).rcd = s.rcd ∧ (State.takeRipple s f amp).mgmt = s.mgmt := by simp [State.takeRipple]
@[simp] theorem State.currentOut_frame (s : State) (j : Nat) (x : CurrentRaw) :
    (State.currentOut s j x).now = s.now ∧ (State.currentOut s j x).ringOffset = s.ringOffset ∧
      (State.currentOut s j x).pending = s.pending ∧ (State.currentOut s j x).pm = s.pm ∧
      (State.currentOut s j x).trngCount = s.trngCount ∧ (State.currentOut s j x).ident = s.ident ∧
      (State.currentOut s j x).supply = s.supply ∧ (State.currentOut s j x).md = s.md ∧ (State.currentOut s j x).aux = s.aux ∧
      (State.currentOut s j x).itg = s.itg ∧ (State.currentOut s j x).bal = s.bal ∧ (State.currentOut s j x).hio = s.hio ∧
      (State.currentOut s j x).can = s.can ∧ (State.currentOut s j x).px = s.px ∧ (State.currentOut s j x).sent = s.sent ∧
      (State.currentOut s j x).mgmt = s.mgmt := by
  simp only [State.currentOut]
  refine ⟨?_, ?_, ?_, ?_, ?_, ?_, ?_, ?_, ?_, ?_, ?_, ?_, ?_, ?_, ?_, ?_⟩ <;> (repeat' split) <;> simp
@[simp] theorem State.stdOut_frame (s : State) (j n : Nat) (uv : Rat) :
    (State.stdOut s j n uv).now = s.now ∧ (State.stdOut s j n uv).ringOffset = s.ringOffset ∧ (State.stdOut s j n uv).pending = s.pending ∧
      (State.stdOut s j n uv).pm = s.pm ∧ (State.stdOut s j n uv).trngCount = s.trngCount ∧ (State.stdOut s j n uv).ident = s.ident ∧
      (State.stdOut s j n uv).supply = s.supply ∧ (State.stdOut s j n uv).md = s.md ∧ (State.stdOut s j n uv).tm = s.tm ∧
      (State.stdOut s j n uv).aux = s.aux ∧ (State.stdOut s j n uv).itg = s.itg ∧ (State.stdOut s j n uv).bal = s.bal ∧
      (State.stdOut s j n uv).hio = s.hio ∧ (State.stdOut s j n uv).lp = s.lp ∧ (State.stdOut s j n uv).can = s.can ∧
      (State.stdOut s j n uv).px = s.px ∧ (State.stdOut s j n uv).flt = s.flt ∧ (State.stdOut s j n uv).sent = s.sent ∧
      (State.stdOut s j n uv).rcd = s.rcd ∧ (State.stdOut s j n uv).mgmt = s.mgmt := by
  simp only [State.stdOut]
  refine ⟨?_, ?_, ?_, ?_, ?_, ?_, ?_, ?_, ?_, ?_, ?_, ?_, ?_, ?_, ?_, ?_, ?_, ?_, ?_, ?_⟩ <;> (repeat' split) <;> simp
@[simp] theorem State.tapsOut_frame (s : State) (j : Nat) (x : TapsRaw) :
    (State.tapsOut s j x).now = s.now ∧ (State.tapsOut s j x).ringOffset = s.ringOffset ∧ (State.tapsOut s j x).pending = s.pending ∧
      (State.tapsOut s j x).pm = s.pm ∧ (State.tapsOut s j x).out = s.out ∧ (State.tapsOut s j x).trngCount = s.trngCount ∧
      (State.tapsOut s j x).ident = s.ident ∧ (State.tapsOut s j x).supply = s.supply ∧ (State.tapsOut s j x).md = s.md ∧
      (State.tapsOut s j x).tm = s.tm ∧ (State.tapsOut s j x).aux = s.aux ∧ (State.tapsOut s j x).itg = s.itg ∧
      (State.tapsOut s j x).bal = s.bal ∧ (State.tapsOut s j x).hio = s.hio ∧ (State.tapsOut s j x).est = s.est ∧
      (State.tapsOut s j x).lp = s.lp ∧ (State.tapsOut s j x).ring = s.ring ∧ (State.tapsOut s j x).can = s.can ∧
      (State.tapsOut s j x).px = s.px ∧ (State.tapsOut s j x).flt = s.flt ∧ (State.tapsOut s j x).sent = s.sent ∧
      (State.tapsOut s j x).rcd = s.rcd ∧ (State.tapsOut s j x).mgmt = s.mgmt := by simp [State.tapsOut]
@[simp] theorem State.setFly_frame (s : State) (k : Nat) (f : FlybackSt) :
    (State.setFly s k f).now = s.now ∧ (State.setFly s k f).ringOffset = s.ringOffset ∧ (State.setFly s k f).pending = s.pending ∧
      (State.setFly s k f).dict = s.dict ∧ (State.setFly s k f).pm = s.pm ∧ (State.setFly s k f).out = s.out ∧
      (State.setFly s k f).trngCount = s.trngCount ∧ (State.setFly s k f).ident = s.ident ∧ (State.setFly s k f).supply = s.supply ∧
      (State.setFly s k f).md = s.md ∧ (State.setFly s k f).tm = s.tm ∧ (State.setFly s k f).meas = s.meas ∧
      (State.setFly s k f).aux = s.aux ∧ (State.setFly s k f).itg = s.itg ∧ (State.setFly s k f).hio = s.hio ∧
      (State.setFly s k f).est = s.est ∧ (State.setFly s k f).lp = s.lp ∧ (State.setFly s k f).ring = s.ring ∧
      (State.setFly s k f).can = s.can ∧ (State.setFly s k f).px = s.px ∧ (State.setFly s k f).flt = s.flt ∧
      (State.setFly s k f).sent = s.sent ∧ (State.setFly s k f).rcd = s.rcd ∧ (State.setFly s k f).mgmt = s.mgmt := by simp [State.setFly]
@[simp] theorem State.balInhibits_frame (s : State) :
    (State.balInhibits s).now = s.now ∧ (State.balInhibits s).ringOffset = s.ringOffset ∧ (State.balInhibits s).pending = s.pending ∧
      (State.balInhibits s).dict = s.dict ∧ (State.balInhibits s).pm = s.pm ∧ (State.balInhibits s).out = s.out ∧
      (State.balInhibits s).trngCount = s.trngCount ∧ (State.balInhibits s).ident = s.ident ∧ (State.balInhibits s).supply = s.supply ∧
      (State.balInhibits s).md = s.md ∧ (State.balInhibits s).tm = s.tm ∧ (State.balInhibits s).meas = s.meas ∧
      (State.balInhibits s).aux = s.aux ∧ (State.balInhibits s).itg = s.itg ∧ (State.balInhibits s).hio = s.hio ∧
      (State.balInhibits s).est = s.est ∧ (State.balInhibits s).lp = s.lp ∧ (State.balInhibits s).ring = s.ring ∧
      (State.balInhibits s).can = s.can ∧ (State.balInhibits s).px = s.px ∧ (State.balInhibits s).flt = s.flt ∧
      (State.balInhibits s).sent = s.sent ∧ (State.balInhibits s).rcd = s.rcd ∧ (State.balInhibits s).mgmt = s.mgmt := by simp [State.balInhibits]
@[simp] theorem State.flySetpoints_frame (s : State) :
    (State.flySetpoints s).now = s.now ∧ (State.flySetpoints s).ringOffset = s.ringOffset ∧ (State.flySetpoints s).pending = s.pending ∧
      (State.flySetpoints s).pm = s.pm ∧ (State.flySetpoints s).out = s.out ∧ (State.flySetpoints s).trngCount = s.trngCount ∧
      (State.flySetpoints s).ident = s.ident ∧ (State.flySetpoints s).supply = s.supply ∧ (State.flySetpoints s).md = s.md ∧
      (State.flySetpoints s).tm = s.tm ∧ (State.flySetpoints s).meas = s.meas ∧ (State.flySetpoints s).aux = s.aux ∧
      (State.flySetpoints s).itg = s.itg ∧ (State.flySetpoints s).hio = s.hio ∧ (State.flySetpoints s).est = s.est ∧
      (State.flySetpoints s).lp = s.lp ∧ (State.flySetpoints s).ring = s.ring ∧ (State.flySetpoints s).can = s.can ∧
      (State.flySetpoints s).px = s.px ∧ (State.flySetpoints s).flt = s.flt ∧ (State.flySetpoints s).sent = s.sent ∧
      (State.flySetpoints s).rcd = s.rcd ∧ (State.flySetpoints s).mgmt = s.mgmt := by simp [State.flySetpoints]
@[simp] theorem State.balUpdate_frame (s : State) :
    (State.balUpdate s).now = s.now ∧ (State.balUpdate s).ringOffset = s.ringOffset ∧ (State.balUpdate s).pending = s.pending ∧
      (State.balUpdate s).pm = s.pm ∧ (State.balUpdate s).out = s.out ∧ (State.balUpdate s).trngCount = s.trngCount ∧
      (State.balUpdate s).ident = s.ident ∧ (State.balUpdate s).supply = s.supply ∧ (State.balUpdate s).md = s.md ∧
      (State.balUpdate s).tm = s.tm ∧ (State.balUpdate s).meas = s.meas ∧ (State.balUpdate s).aux = s.aux ∧
      (State.balUpdate s).itg = s.itg ∧ (State.balUpdate s).hio = s.hio ∧ (State.balUpdate s).est = s.est ∧ (State.balUpdate s).lp = s.lp ∧
      (State.balUpdate s).ring = s.ring ∧ (State.balUpdate s).can = s.can ∧ (State.balUpdate s).px = s.px ∧
      (State.balUpdate s).flt = s.flt ∧ (State.balUpdate s).sent = s.sent ∧ (State.balUpdate s).rcd = s.rcd ∧
      (State.balUpdate s).mgmt = s.mgmt := by simp [State.balUpdate]
@[simp] theorem State.keepReport_frame (s : State) (b : Bytes) :
    (State.keepReport s b).now = s.now ∧ (State.keepReport s b).ringOffset = s.ringOffset ∧ (State.keepReport s b).pending = s.pending ∧
      (State.keepReport s b).dict = s.dict ∧ (State.keepReport s b).pm = s.pm ∧ (State.keepReport s b).out = s.out ∧
      (State.keepReport s b).trngCount = s.trngCount ∧ (State.keepReport s b).ident = s.ident ∧ (State.keepReport s b).supply = s.supply ∧
      (State.keepReport s b).md = s.md ∧ (State.keepReport s b).tm = s.tm ∧ (State.keepReport s b).meas = s.meas ∧
      (State.keepReport s b).aux = s.aux ∧ (State.keepReport s b).itg = s.itg ∧ (State.keepReport s b).hio = s.hio ∧
      (State.keepReport s b).est = s.est ∧ (State.keepReport s b).lp = s.lp ∧ (State.keepReport s b).ring = s.ring ∧
      (State.keepReport s b).can = s.can ∧ (State.keepReport s b).px = s.px ∧ (State.keepReport s b).flt = s.flt ∧
      (State.keepReport s b).sent = s.sent ∧ (State.keepReport s b).rcd = s.rcd ∧ (State.keepReport s b).mgmt = s.mgmt := by simp [State.keepReport]
@[simp] theorem State.sendReport_frame (s : State) :
    (State.sendReport s).now = s.now ∧ (State.sendReport s).ringOffset = s.ringOffset ∧ (State.sendReport s).pending = s.pending ∧
      (State.sendReport s).pm = s.pm ∧ (State.sendReport s).trngCount = s.trngCount ∧ (State.sendReport s).ident = s.ident ∧
      (State.sendReport s).supply = s.supply ∧ (State.sendReport s).md = s.md ∧ (State.sendReport s).tm = s.tm ∧
      (State.sendReport s).meas = s.meas ∧ (State.sendReport s).aux = s.aux ∧ (State.sendReport s).itg = s.itg ∧
      (State.sendReport s).hio = s.hio ∧ (State.sendReport s).est = s.est ∧ (State.sendReport s).lp = s.lp ∧
      (State.sendReport s).can = s.can ∧ (State.sendReport s).px = s.px ∧ (State.sendReport s).flt = s.flt ∧
      (State.sendReport s).sent = s.sent ∧ (State.sendReport s).rcd = s.rcd ∧ (State.sendReport s).mgmt = s.mgmt := by
  unfold State.sendReport
  refine ⟨?_, ?_, ?_, ?_, ?_, ?_, ?_, ?_, ?_, ?_, ?_, ?_, ?_, ?_, ?_, ?_, ?_, ?_, ?_, ?_, ?_⟩ <;> (repeat' split) <;> simp
@[simp] theorem State.acceptPlan_frame (s : State) (b : Bytes) :
    (State.acceptPlan s b).now = s.now ∧ (State.acceptPlan s b).ringOffset = s.ringOffset ∧ (State.acceptPlan s b).pending = s.pending ∧
      (State.acceptPlan s b).pm = s.pm ∧ (State.acceptPlan s b).trngCount = s.trngCount ∧ (State.acceptPlan s b).ident = s.ident ∧
      (State.acceptPlan s b).supply = s.supply ∧ (State.acceptPlan s b).md = s.md ∧ (State.acceptPlan s b).tm = s.tm ∧
      (State.acceptPlan s b).meas = s.meas ∧ (State.acceptPlan s b).aux = s.aux ∧ (State.acceptPlan s b).itg = s.itg ∧
      (State.acceptPlan s b).hio = s.hio ∧ (State.acceptPlan s b).est = s.est ∧ (State.acceptPlan s b).lp = s.lp ∧
      (State.acceptPlan s b).can = s.can ∧ (State.acceptPlan s b).px = s.px ∧ (State.acceptPlan s b).sent = s.sent ∧
      (State.acceptPlan s b).rcd = s.rcd ∧ (State.acceptPlan s b).mgmt = s.mgmt := by simp [State.acceptPlan]
@[simp] theorem State.rejectPlan_frame (s : State) :
    (State.rejectPlan s).now = s.now ∧ (State.rejectPlan s).ringOffset = s.ringOffset ∧ (State.rejectPlan s).pending = s.pending ∧
      (State.rejectPlan s).pm = s.pm ∧ (State.rejectPlan s).trngCount = s.trngCount ∧ (State.rejectPlan s).supply = s.supply ∧
      (State.rejectPlan s).aux = s.aux ∧ (State.rejectPlan s).itg = s.itg ∧ (State.rejectPlan s).est = s.est ∧
      (State.rejectPlan s).lp = s.lp ∧ (State.rejectPlan s).px = s.px ∧ (State.rejectPlan s).sent = s.sent := by simp [State.rejectPlan]
@[simp] theorem State.bookCell_frame (s : State) (n : Nat) (amps : Rat) :
    (State.bookCell s n amps).now = s.now ∧ (State.bookCell s n amps).ringOffset = s.ringOffset ∧
      (State.bookCell s n amps).pending = s.pending ∧ (State.bookCell s n amps).dict = s.dict ∧ (State.bookCell s n amps).pm = s.pm ∧
      (State.bookCell s n amps).out = s.out ∧ (State.bookCell s n amps).trngCount = s.trngCount ∧
      (State.bookCell s n amps).ident = s.ident ∧ (State.bookCell s n amps).supply = s.supply ∧ (State.bookCell s n amps).md = s.md ∧
      (State.bookCell s n amps).tm = s.tm ∧ (State.bookCell s n amps).meas = s.meas ∧ (State.bookCell s n amps).aux = s.aux ∧
      (State.bookCell s n amps).itg = s.itg ∧ (State.bookCell s n amps).hio = s.hio ∧ (State.bookCell s n amps).est = s.est ∧
      (State.bookCell s n amps).lp = s.lp ∧ (State.bookCell s n amps).ring = s.ring ∧ (State.bookCell s n amps).can = s.can ∧
      (State.bookCell s n amps).px = s.px ∧ (State.bookCell s n amps).flt = s.flt ∧ (State.bookCell s n amps).sent = s.sent ∧
      (State.bookCell s n amps).rcd = s.rcd ∧ (State.bookCell s n amps).mgmt = s.mgmt := by simp [State.bookCell]
@[simp] theorem State.bookSample_frame (s : State) (m : LoopMeas) :
    (State.bookSample s m).now = s.now ∧ (State.bookSample s m).ringOffset = s.ringOffset ∧ (State.bookSample s m).pending = s.pending ∧
      (State.bookSample s m).dict = s.dict ∧ (State.bookSample s m).pm = s.pm ∧ (State.bookSample s m).out = s.out ∧
      (State.bookSample s m).trngCount = s.trngCount ∧ (State.bookSample s m).ident = s.ident ∧ (State.bookSample s m).supply = s.supply ∧
      (State.bookSample s m).md = s.md ∧ (State.bookSample s m).tm = s.tm ∧ (State.bookSample s m).meas = s.meas ∧
      (State.bookSample s m).aux = s.aux ∧ (State.bookSample s m).itg = s.itg ∧ (State.bookSample s m).hio = s.hio ∧
      (State.bookSample s m).est = s.est ∧ (State.bookSample s m).lp = s.lp ∧ (State.bookSample s m).ring = s.ring ∧
      (State.bookSample s m).can = s.can ∧ (State.bookSample s m).px = s.px ∧ (State.bookSample s m).flt = s.flt ∧
      (State.bookSample s m).sent = s.sent ∧ (State.bookSample s m).rcd = s.rcd ∧ (State.bookSample s m).mgmt = s.mgmt := by simp [State.bookSample]
@[simp] theorem State.pxBlockOut_frame (s : State) (b : Bus) (node tid index sub : Nat) (d : Bytes) :
    (State.pxBlockOut s b node tid index sub d).now = s.now ∧ (State.pxBlockOut s b node tid index sub d).ringOffset = s.ringOffset ∧
      (State.pxBlockOut s b node tid index sub d).pending = s.pending ∧ (State.pxBlockOut s b node tid index sub d).pm = s.pm ∧
      (State.pxBlockOut s b node tid index sub d).out = s.out ∧ (State.pxBlockOut s b node tid index sub d).trngCount = s.trngCount ∧
      (State.pxBlockOut s b node tid index sub d).ident = s.ident ∧ (State.pxBlockOut s b node tid index sub d).supply = s.supply ∧
      (State.pxBlockOut s b node tid index sub d).md = s.md ∧ (State.pxBlockOut s b node tid index sub d).tm = s.tm ∧
      (State.pxBlockOut s b node tid index sub d).meas = s.meas ∧ (State.pxBlockOut s b node tid index sub d).aux = s.aux ∧
      (State.pxBlockOut s b node tid index sub d).itg = s.itg ∧ (State.pxBlockOut s b node tid index sub d).bal = s.bal ∧
      (State.pxBlockOut s b node tid index sub d).hio = s.hio ∧ (State.pxBlockOut s b node tid index sub d).est = s.est ∧
      (State.pxBlockOut s b node tid index sub d).lp = s.lp ∧ (State.pxBlockOut s b node tid index sub d).ring = s.ring ∧
      (State.pxBlockOut s b node tid index sub d).px = s.px ∧ (State.pxBlockOut s b node tid index sub d).flt = s.flt ∧
      (State.pxBlockOut s b node tid index sub d).sent = s.sent ∧ (State.pxBlockOut s b node tid index sub d).rcd = s.rcd ∧
      (State.pxBlockOut s b node tid index sub d).mgmt = s.mgmt := by simp [State.pxBlockOut]
@[simp] theorem State.deliverPlan_frame (s : State) (node : Nat) (b : Bytes) :
    (State.deliverPlan s node b).now = s.now ∧ (State.deliverPlan s node b).ringOffset = s.ringOffset ∧
      (State.deliverPlan s node b).pending = s.pending ∧ (State.deliverPlan s node b).pm = s.pm ∧
      (State.deliverPlan s node b).trngCount = s.trngCount ∧ (State.deliverPlan s node b).supply = s.supply ∧
      (State.deliverPlan s node b).aux = s.aux ∧ (State.deliverPlan s node b).itg = s.itg ∧ (State.deliverPlan s node b).est = s.est ∧
      (State.deliverPlan s node b).lp = s.lp ∧ (State.deliverPlan s node b).px = s.px ∧
      (State.deliverPlan s node b).sent = s.sent := by simp [State.deliverPlan]
@[simp] theorem State.planNode_frame (s : State) (ref : Rat) (x : State × Int) (node : Nat) :
    (State.planNode s ref x node).1.now = x.1.now ∧ (State.planNode s ref x node).1.ringOffset = x.1.ringOffset ∧
      (State.planNode s ref x node).1.pending = x.1.pending ∧ (State.planNode s ref x node).1.pm = x.1.pm ∧
      (State.planNode s ref x node).1.trngCount = x.1.trngCount ∧ (State.planNode s ref x node).1.supply = x.1.supply ∧
      (State.planNode s ref x node).1.aux = x.1.aux ∧ (State.planNode s ref x node).1.itg = x.1.itg ∧
      (State.planNode s ref x node).1.est = x.1.est ∧ (State.planNode s ref x node).1.lp = x.1.lp ∧
      (State.planNode s ref x node).1.px = x.1.px ∧ (State.planNode s ref x node).1.sent = x.1.sent := by simp [State.planNode]
@[simp] theorem State.takePlan_frame (s : State) (fromHead : Bool) (b : Bytes) :
    (State.takePlan s fromHead b).1.now = s.now ∧ (State.takePlan s fromHead b).1.ringOffset = s.ringOffset ∧
      (State.takePlan s fromHead b).1.pending = s.pending ∧ (State.takePlan s fromHead b).1.pm = s.pm ∧
      (State.takePlan s fromHead b).1.trngCount = s.trngCount ∧ (State.takePlan s fromHead b).1.supply = s.supply ∧
      (State.takePlan s fromHead b).1.aux = s.aux ∧ (State.takePlan s fromHead b).1.itg = s.itg ∧
      (State.takePlan s fromHead b).1.est = s.est ∧ (State.takePlan s fromHead b).1.lp = s.lp ∧ (State.takePlan s fromHead b).1.px = s.px ∧
      (State.takePlan s fromHead b).1.sent = s.sent := by
  unfold State.takePlan
  refine ⟨?_, ?_, ?_, ?_, ?_, ?_, ?_, ?_, ?_, ?_, ?_, ?_⟩ <;> (repeat' split) <;> simp
@[simp] theorem State.flyConnect_frame (s : State) (k : Nat) :
    (State.flyConnect s k).now = s.now ∧ (State.flyConnect s k).ringOffset = s.ringOffset ∧ (State.flyConnect s k).pending = s.pending ∧
      (State.flyConnect s k).dict = s.dict ∧ (State.flyConnect s k).pm = s.pm ∧ (State.flyConnect s k).out = s.out ∧
      (State.flyConnect s k).trngCount = s.trngCount ∧ (State.flyConnect s k).ident = s.ident ∧ (State.flyConnect s k).supply = s.supply ∧
      (State.flyConnect s k).md = s.md ∧ (State.flyConnect s k).tm = s.tm ∧ (State.flyConnect s k).meas = s.meas ∧
      (State.flyConnect s k).aux = s.aux ∧ (State.flyConnect s k).itg = s.itg ∧ (State.flyConnect s k).hio = s.hio ∧
      (State.flyConnect s k).ring = s.ring ∧ (State.flyConnect s k).can = s.can ∧ (State.flyConnect s k).px = s.px ∧
      (State.flyConnect s k).flt = s.flt ∧ (State.flyConnect s k).sent = s.sent ∧ (State.flyConnect s k).rcd = s.rcd ∧
      (State.flyConnect s k).mgmt = s.mgmt := by simp [State.flyConnect]
@[simp] theorem State.bookResult_frame (s : State) (r tol : Rat) :
    (State.bookResult s r tol).now = s.now ∧ (State.bookResult s r tol).ringOffset = s.ringOffset ∧
      (State.bookResult s r tol).pending = s.pending ∧ (State.bookResult s r tol).pm = s.pm ∧
      (State.bookResult s r tol).trngCount = s.trngCount ∧ (State.bookResult s r tol).supply = s.supply ∧
      (State.bookResult s r tol).aux = s.aux ∧ (State.bookResult s r tol).itg = s.itg ∧ (State.bookResult s r tol).est = s.est ∧
      (State.bookResult s r tol).lp = s.lp ∧ (State.bookResult s r tol).px = s.px ∧
      (State.bookResult s r tol).sent = s.sent := by simp [State.bookResult]
@[simp] theorem State.stopDirection_frame (s : State) (charge : Bool) :
    (State.stopDirection s charge).now = s.now ∧ (State.stopDirection s charge).ringOffset = s.ringOffset ∧
      (State.stopDirection s charge).pending = s.pending ∧ (State.stopDirection s charge).dict = s.dict ∧
      (State.stopDirection s charge).pm = s.pm ∧ (State.stopDirection s charge).out = s.out ∧
      (State.stopDirection s charge).trngCount = s.trngCount ∧ (State.stopDirection s charge).ident = s.ident ∧
      (State.stopDirection s charge).supply = s.supply ∧ (State.stopDirection s charge).md = s.md ∧
      (State.stopDirection s charge).tm = s.tm ∧ (State.stopDirection s charge).meas = s.meas ∧
      (State.stopDirection s charge).aux = s.aux ∧ (State.stopDirection s charge).itg = s.itg ∧
      (State.stopDirection s charge).hio = s.hio ∧ (State.stopDirection s charge).est = s.est ∧ (State.stopDirection s charge).lp = s.lp ∧
      (State.stopDirection s charge).ring = s.ring ∧ (State.stopDirection s charge).can = s.can ∧
      (State.stopDirection s charge).px = s.px ∧ (State.stopDirection s charge).flt = s.flt ∧
      (State.stopDirection s charge).sent = s.sent ∧ (State.stopDirection s charge).rcd = s.rcd ∧
      (State.stopDirection s charge).mgmt = s.mgmt := by simp [State.stopDirection]
@[simp] theorem State.setInst_frame (s : State) (i : Nat) (x : LoopInst) :
    (State.setInst s i x).now = s.now ∧ (State.setInst s i x).ringOffset = s.ringOffset ∧ (State.setInst s i x).pending = s.pending ∧
      (State.setInst s i x).dict = s.dict ∧ (State.setInst s i x).pm = s.pm ∧ (State.setInst s i x).out = s.out ∧
      (State.setInst s i x).trngCount = s.trngCount ∧ (State.setInst s i x).ident = s.ident ∧ (State.setInst s i x).supply = s.supply ∧
      (State.setInst s i x).md = s.md ∧ (State.setInst s i x).tm = s.tm ∧ (State.setInst s i x).meas = s.meas ∧
      (State.setInst s i x).aux = s.aux ∧ (State.setInst s i x).itg = s.itg ∧ (State.setInst s i x).bal = s.bal ∧
      (State.setInst s i x).hio = s.hio ∧ (State.setInst s i x).est = s.est ∧ (State.setInst s i x).ring = s.ring ∧
      (State.setInst s i x).can = s.can ∧ (State.setInst s i x).px = s.px ∧ (State.setInst s i x).flt = s.flt ∧
      (State.setInst s i x).sent = s.sent ∧ (State.setInst s i x).rcd = s.rcd ∧ (State.setInst s i x).mgmt = s.mgmt := by simp [State.setInst]
@[simp] theorem State.instStart_frame (s : State) (i : Nat) :
    (State.instStart s i).now = s.now ∧ (State.instStart s i).ringOffset = s.ringOffset ∧ (State.instStart s i).pending = s.pending ∧
      (State.instStart s i).dict = s.dict ∧ (State.instStart s i).pm = s.pm ∧ (State.instStart s i).out = s.out ∧
      (State.instStart s i).trngCount = s.trngCount ∧ (State.instStart s i).ident = s.ident ∧ (State.instStart s i).supply = s.supply ∧
      (State.instStart s i).md = s.md ∧ (State.instStart s i).tm = s.tm ∧ (State.instStart s i).meas = s.meas ∧
      (State.instStart s i).aux = s.aux ∧ (State.instStart s i).itg = s.itg ∧ (State.instStart s i).bal = s.bal ∧
      (State.instStart s i).hio = s.hio ∧ (State.instStart s i).est = s.est ∧ (State.instStart s i).ring = s.ring ∧
      (State.instStart s i).can = s.can ∧ (State.instStart s i).px = s.px ∧ (State.instStart s i).flt = s.flt ∧
      (State.instStart s i).sent = s.sent ∧ (State.instStart s i).rcd = s.rcd ∧ (State.instStart s i).mgmt = s.mgmt := by simp [State.instStart]
@[simp] theorem State.takeSwap_frame (s : State) (i : Nat) :
    (State.takeSwap s i).now = s.now ∧ (State.takeSwap s i).ringOffset = s.ringOffset ∧ (State.takeSwap s i).pending = s.pending ∧
      (State.takeSwap s i).pm = s.pm ∧ (State.takeSwap s i).out = s.out ∧ (State.takeSwap s i).trngCount = s.trngCount ∧
      (State.takeSwap s i).ident = s.ident ∧ (State.takeSwap s i).supply = s.supply ∧ (State.takeSwap s i).md = s.md ∧
      (State.takeSwap s i).tm = s.tm ∧ (State.takeSwap s i).meas = s.meas ∧ (State.takeSwap s i).aux = s.aux ∧
      (State.takeSwap s i).itg = s.itg ∧ (State.takeSwap s i).bal = s.bal ∧ (State.takeSwap s i).hio = s.hio ∧
      (State.takeSwap s i).est = s.est ∧ (State.takeSwap s i).ring = s.ring ∧ (State.takeSwap s i).can = s.can ∧
      (State.takeSwap s i).px = s.px ∧ (State.takeSwap s i).flt = s.flt ∧ (State.takeSwap s i).sent = s.sent ∧
      (State.takeSwap s i).rcd = s.rcd ∧ (State.takeSwap s i).mgmt = s.mgmt := by
  unfold State.takeSwap
  refine ⟨?_, ?_, ?_, ?_, ?_, ?_, ?_, ?_, ?_, ?_, ?_, ?_, ?_, ?_, ?_, ?_, ?_, ?_, ?_, ?_, ?_, ?_, ?_⟩ <;> (repeat' split) <;> simp
@[simp] theorem State.stepLimiters_frame (s : State) (i m : Nat) :
    (State.stepLimiters s i m).now = s.now ∧ (State.stepLimiters s i m).ringOffset = s.ringOffset ∧
      (State.stepLimiters s i m).pending = s.pending ∧ (State.stepLimiters s i m).dict = s.dict ∧ (State.stepLimiters s i m).pm = s.pm ∧
      (State.stepLimiters s i m).out = s.out ∧ (State.stepLimiters s i m).trngCount = s.trngCount ∧
      (State.stepLimiters s i m).ident = s.ident ∧ (State.stepLimiters s i m).supply = s.supply ∧ (State.stepLimiters s i m).md = s.md ∧
      (State.stepLimiters s i m).tm = s.tm ∧ (State.stepLimiters s i m).meas = s.meas ∧ (State.stepLimiters s i m).aux = s.aux ∧
      (State.stepLimiters s i m).itg = s.itg ∧ (State.stepLimiters s i m).bal = s.bal ∧ (State.stepLimiters s i m).hio = s.hio ∧
      (State.stepLimiters s i m).est = s.est ∧ (State.stepLimiters s i m).ring = s.ring ∧ (State.stepLimiters s i m).can = s.can ∧
      (State.stepLimiters s i m).px = s.px ∧ (State.stepLimiters s i m).flt = s.flt ∧ (State.stepLimiters s i m).sent = s.sent ∧
      (State.stepLimiters s i m).rcd = s.rcd ∧ (State.stepLimiters s i m).mgmt = s.mgmt := by simp [State.stepLimiters]
@[simp] theorem State.instNumeric_frame (s : State) (i m : Nat) :
    (State.instNumeric s i m).now = s.now ∧ (State.instNumeric s i m).ringOffset = s.ringOffset ∧
      (State.instNumeric s i m).pending = s.pending ∧ (State.instNumeric s i m).pm = s.pm ∧
      (State.instNumeric s i m).trngCount = s.trngCount ∧ (State.instNumeric s i m).supply = s.supply ∧
      (State.instNumeric s i m).aux = s.aux ∧ (State.instNumeric s i m).itg = s.itg ∧ (State.instNumeric s i m).est = s.est ∧
      (State.instNumeric s i m).px = s.px ∧ (State.instNumeric s i m).sent = s.sent := by simp [State.instNumeric]
@[simp] theorem State.instLost_frame (s : State) (i m : Nat) :
    (State.instLost s i m).now = s.now ∧ (State.instLost s i m).ringOffset = s.ringOffset ∧ (State.instLost s i m).pending = s.pending ∧
      (State.instLost s i m).pm = s.pm ∧ (State.instLost s i m).trngCount = s.trngCount ∧ (State.instLost s i m).supply = s.supply ∧
      (State.instLost s i m).aux = s.aux ∧ (State.instLost s i m).itg = s.itg ∧ (State.instLost s i m).est = s.est ∧
      (State.instLost s i m).px = s.px ∧ (State.instLost s i m).sent = s.sent := by simp [State.instLost]
@[simp] theorem State.instCompute_frame (s : State) (i : Nat) (m : LoopMeas) :
    (State.instCompute s i m).now = s.now ∧ (State.instCompute s i m).ringOffset = s.ringOffset ∧
      (State.instCompute s i m).pending = s.pending ∧ (State.instCompute s i m).pm = s.pm ∧
      (State.instCompute s i m).trngCount = s.trngCount ∧ (State.instCompute s i m).supply = s.supply ∧
      (State.instCompute s i m).aux = s.aux ∧ (State.instCompute s i m).itg = s.itg ∧ (State.instCompute s i m).est = s.est ∧
      (State.instCompute s i m).px = s.px ∧ (State.instCompute s i m).sent = s.sent := by simp [State.instCompute]
@[simp] theorem State.instSample_frame (s : State) (m : LoopMeas) (i : Nat) :
    (State.instSample s m i).now = s.now ∧ (State.instSample s m i).ringOffset = s.ringOffset ∧
      (State.instSample s m i).pending = s.pending ∧ (State.instSample s m i).pm = s.pm ∧
      (State.instSample s m i).trngCount = s.trngCount ∧ (State.instSample s m i).supply = s.supply ∧
      (State.instSample s m i).aux = s.aux ∧ (State.instSample s m i).itg = s.itg ∧ (State.instSample s m i).est = s.est ∧
      (State.instSample s m i).px = s.px ∧ (State.instSample s m i).sent = s.sent := by simp [State.instSample]
@[simp] theorem State.loopMeans_frame (s : State) :
    (State.loopMeans s).now = s.now ∧ (State.loopMeans s).ringOffset = s.ringOffset ∧ (State.loopMeans s).pending = s.pending ∧
      (State.loopMeans s).dict = s.dict ∧ (State.loopMeans s).pm = s.pm ∧ (State.loopMeans s).out = s.out ∧
      (State.loopMeans s).trngCount = s.trngCount ∧ (State.loopMeans s).ident = s.ident ∧ (State.loopMeans s).supply = s.supply ∧
      (State.loopMeans s).md = s.md ∧ (State.loopMeans s).tm = s.tm ∧ (State.loopMeans s).meas = s.meas ∧ (State.loopMeans s).aux = s.aux ∧
      (State.loopMeans s).itg = s.itg ∧ (State.loopMeans s).bal = s.bal ∧ (State.loopMeans s).hio = s.hio ∧
      (State.loopMeans s).est = s.est ∧ (State.loopMeans s).ring = s.ring ∧ (State.loopMeans s).can = s.can ∧
      (State.loopMeans s).px = s.px ∧ (State.loopMeans s).flt = s.flt ∧ (State.loopMeans s).sent = s.sent ∧
      (State.loopMeans s).rcd = s.rcd ∧ (State.loopMeans s).mgmt = s.mgmt := by simp [State.loopMeans]
@[simp] theorem State.applyBus_frame (s : State) :
    (State.applyBus s).now = s.now ∧ (State.applyBus s).ringOffset = s.ringOffset ∧ (State.applyBus s).pending = s.pending ∧
      (State.applyBus s).dict = s.dict ∧ (State.applyBus s).pm = s.pm ∧ (State.applyBus s).out = s.out ∧
      (State.applyBus s).trngCount = s.trngCount ∧ (State.applyBus s).ident = s.ident ∧ (State.applyBus s).supply = s.supply ∧
      (State.applyBus s).md = s.md ∧ (State.applyBus s).tm = s.tm ∧ (State.applyBus s).meas = s.meas ∧ (State.applyBus s).aux = s.aux ∧
      (State.applyBus s).itg = s.itg ∧ (State.applyBus s).hio = s.hio ∧ (State.applyBus s).est = s.est ∧ (State.applyBus s).lp = s.lp ∧
      (State.applyBus s).ring = s.ring ∧ (State.applyBus s).can = s.can ∧ (State.applyBus s).px = s.px ∧ (State.applyBus s).flt = s.flt ∧
      (State.applyBus s).sent = s.sent ∧ (State.applyBus s).rcd = s.rcd ∧ (State.applyBus s).mgmt = s.mgmt := by simp [State.applyBus]
@[simp] theorem State.driveActuators_frame (s : State) (demand : Rat) :
    (State.driveActuators s demand).now = s.now ∧ (State.driveActuators s demand).ringOffset = s.ringOffset ∧
      (State.driveActuators s demand).pending = s.pending ∧ (State.driveActuators s demand).pm = s.pm ∧
      (State.driveActuators s demand).out = s.out ∧ (State.driveActuators s demand).trngCount = s.trngCount ∧
      (State.driveActuators s demand).ident = s.ident ∧ (State.driveActuators s demand).supply = s.supply ∧
      (State.driveActuators s demand).md = s.md ∧ (State.driveActuators s demand).tm = s.tm ∧
      (State.driveActuators s demand).meas = s.meas ∧ (State.driveActuators s demand).aux = s.aux ∧
      (State.driveActuators s demand).itg = s.itg ∧ (State.driveActuators s demand).bal = s.bal ∧
      (State.driveActuators s demand).hio = s.hio ∧ (State.driveActuators s demand).est = s.est ∧
      (State.driveActuators s demand).lp = s.lp ∧ (State.driveActuators s demand).ring = s.ring ∧
      (State.driveActuators s demand).can = s.can ∧ (State.driveActuators s demand).px = s.px ∧
      (State.driveActuators s demand).flt = s.flt ∧ (State.driveActuators s demand).sent = s.sent ∧
      (State.driveActuators s demand).rcd = s.rcd ∧ (State.driveActuators s demand).mgmt = s.mgmt := by simp [State.driveActuators]
@[simp] theorem State.fanRecover_frame (s : State) (fan : Nat) :
    (State.fanRecover s fan).now = s.now ∧ (State.fanRecover s fan).ringOffset = s.ringOffset ∧
      (State.fanRecover s fan).pending = s.pending ∧ (State.fanRecover s fan).dict = s.dict ∧ (State.fanRecover s fan).pm = s.pm ∧
      (State.fanRecover s fan).out = s.out ∧ (State.fanRecover s fan).trngCount = s.trngCount ∧ (State.fanRecover s fan).ident = s.ident ∧
      (State.fanRecover s fan).supply = s.supply ∧ (State.fanRecover s fan).md = s.md ∧ (State.fanRecover s fan).tm = s.tm ∧
      (State.fanRecover s fan).meas = s.meas ∧ (State.fanRecover s fan).aux = s.aux ∧ (State.fanRecover s fan).itg = s.itg ∧
      (State.fanRecover s fan).bal = s.bal ∧ (State.fanRecover s fan).hio = s.hio ∧ (State.fanRecover s fan).est = s.est ∧
      (State.fanRecover s fan).ring = s.ring ∧ (State.fanRecover s fan).can = s.can ∧ (State.fanRecover s fan).px = s.px ∧
      (State.fanRecover s fan).sent = s.sent ∧ (State.fanRecover s fan).rcd = s.rcd ∧
      (State.fanRecover s fan).mgmt = s.mgmt := by simp [State.fanRecover]
@[simp] theorem State.zoneTemps_frame (s : State) :
    (State.zoneTemps s).now = s.now ∧ (State.zoneTemps s).ringOffset = s.ringOffset ∧ (State.zoneTemps s).pending = s.pending ∧
      (State.zoneTemps s).pm = s.pm ∧ (State.zoneTemps s).trngCount = s.trngCount ∧ (State.zoneTemps s).supply = s.supply ∧
      (State.zoneTemps s).aux = s.aux ∧ (State.zoneTemps s).itg = s.itg ∧ (State.zoneTemps s).est = s.est ∧ (State.zoneTemps s).px = s.px ∧
      (State.zoneTemps s).sent = s.sent := by
  simp only [State.zoneTemps]
  refine ⟨?_, ?_, ?_, ?_, ?_, ?_, ?_, ?_, ?_, ?_, ?_⟩ <;> (repeat' split) <;> simp
@[simp] theorem State.thermal_frame (s : State) (m : LoopMeas) :
    (State.thermal s m).now = s.now ∧ (State.thermal s m).ringOffset = s.ringOffset ∧ (State.thermal s m).pending = s.pending ∧
      (State.thermal s m).pm = s.pm ∧ (State.thermal s m).trngCount = s.trngCount ∧ (State.thermal s m).supply = s.supply ∧
      (State.thermal s m).aux = s.aux ∧ (State.thermal s m).itg = s.itg ∧ (State.thermal s m).est = s.est ∧ (State.thermal s m).px = s.px ∧
      (State.thermal s m).sent = s.sent := by simp [State.thermal]
@[simp] theorem State.afterTrigger_frame (s : State) :
    (State.afterTrigger s).now = s.now ∧ (State.afterTrigger s).ringOffset = s.ringOffset ∧ (State.afterTrigger s).pending = s.pending ∧
      (State.afterTrigger s).pm = s.pm ∧ (State.afterTrigger s).out = s.out ∧ (State.afterTrigger s).trngCount = s.trngCount ∧
      (State.afterTrigger s).ident = s.ident ∧ (State.afterTrigger s).supply = s.supply ∧ (State.afterTrigger s).md = s.md ∧
      (State.afterTrigger s).tm = s.tm ∧ (State.afterTrigger s).hio = s.hio ∧ (State.afterTrigger s).est = s.est ∧
      (State.afterTrigger s).lp = s.lp ∧ (State.afterTrigger s).ring = s.ring ∧ (State.afterTrigger s).can = s.can ∧
      (State.afterTrigger s).px = s.px ∧ (State.afterTrigger s).flt = s.flt ∧ (State.afterTrigger s).sent = s.sent ∧
      (State.afterTrigger s).mgmt = s.mgmt := by simp [State.afterTrigger]
@[simp] theorem State.selectChannel_frame (s : State) :
    (State.selectChannel s).now = s.now ∧ (State.selectChannel s).ringOffset = s.ringOffset ∧ (State.selectChannel s).pending = s.pending ∧
      (State.selectChannel s).pm = s.pm ∧ (State.selectChannel s).out = s.out ∧ (State.selectChannel s).trngCount = s.trngCount ∧
      (State.selectChannel s).ident = s.ident ∧ (State.selectChannel s).supply = s.supply ∧ (State.selectChannel s).md = s.md ∧
      (State.selectChannel s).tm = s.tm ∧ (State.selectChannel s).aux = s.aux ∧ (State.selectChannel s).itg = s.itg ∧
      (State.selectChannel s).bal = s.bal ∧ (State.selectChannel s).hio = s.hio ∧ (State.selectChannel s).est = s.est ∧
      (State.selectChannel s).lp = s.lp ∧ (State.selectChannel s).ring = s.ring ∧ (State.selectChannel s).can = s.can ∧
      (State.selectChannel s).px = s.px ∧ (State.selectChannel s).flt = s.flt ∧ (State.selectChannel s).sent = s.sent ∧
      (State.selectChannel s).rcd = s.rcd ∧ (State.selectChannel s).mgmt = s.mgmt := by simp [State.selectChannel]
@[simp] theorem State.biasSwitch_frame (s : State) (st : Nat) :
    (State.biasSwitch s st).now = s.now ∧ (State.biasSwitch s st).ringOffset = s.ringOffset ∧ (State.biasSwitch s st).pending = s.pending ∧
      (State.biasSwitch s st).dict = s.dict ∧ (State.biasSwitch s st).pm = s.pm ∧ (State.biasSwitch s st).out = s.out ∧
      (State.biasSwitch s st).trngCount = s.trngCount ∧ (State.biasSwitch s st).ident = s.ident ∧
      (State.biasSwitch s st).supply = s.supply ∧ (State.biasSwitch s st).md = s.md ∧ (State.biasSwitch s st).tm = s.tm ∧
      (State.biasSwitch s st).aux = s.aux ∧ (State.biasSwitch s st).itg = s.itg ∧ (State.biasSwitch s st).bal = s.bal ∧
      (State.biasSwitch s st).est = s.est ∧ (State.biasSwitch s st).lp = s.lp ∧ (State.biasSwitch s st).ring = s.ring ∧
      (State.biasSwitch s st).can = s.can ∧ (State.biasSwitch s st).px = s.px ∧ (State.biasSwitch s st).flt = s.flt ∧
      (State.biasSwitch s st).sent = s.sent ∧ (State.biasSwitch s st).rcd = s.rcd ∧
      (State.biasSwitch s st).mgmt = s.mgmt := by simp [State.biasSwitch]
@[simp] theorem State.isoGate_frame (s : State) :
    (State.isoGate s).now = s.now ∧ (State.isoGate s).ringOffset = s.ringOffset ∧ (State.isoGate s).pending = s.pending ∧
      (State.isoGate s).dict = s.dict ∧ (State.isoGate s).pm = s.pm ∧ (State.isoGate s).out = s.out ∧
      (State.isoGate s).trngCount = s.trngCount ∧ (State.isoGate s).ident = s.ident ∧ (State.isoGate s).supply = s.supply ∧
      (State.isoGate s).md = s.md ∧ (State.isoGate s).tm = s.tm ∧ (State.isoGate s).aux = s.aux ∧ (State.isoGate s).itg = s.itg ∧
      (State.isoGate s).bal = s.bal ∧ (State.isoGate s).est = s.est ∧ (State.isoGate s).lp = s.lp ∧ (State.isoGate s).ring = s.ring ∧
      (State.isoGate s).can = s.can ∧ (State.isoGate s).px = s.px ∧ (State.isoGate s).flt = s.flt ∧ (State.isoGate s).sent = s.sent ∧
      (State.isoGate s).rcd = s.rcd ∧ (State.isoGate s).mgmt = s.mgmt := by simp [State.isoGate]
@[simp] theorem State.isoJudge_frame (s : State) (r : Rat) :
    (State.isoJudge s r).now = s.now ∧ (State.isoJudge s r).ringOffset = s.ringOffset ∧ (State.isoJudge s r).pending = s.pending ∧
      (State.isoJudge s r).pm = s.pm ∧ (State.isoJudge s r).trngCount = s.trngCount ∧ (State.isoJudge s r).supply = s.supply ∧
      (State.isoJudge s r).aux = s.aux ∧ (State.isoJudge s r).itg = s.itg ∧ (State.isoJudge s r).est = s.est ∧
      (State.isoJudge s r).lp = s.lp ∧ (State.isoJudge s r).px = s.px ∧ (State.isoJudge s r).sent = s.sent := by simp [State.isoJudge]
@[simp] theorem State.takeTrip_frame (s : State) (via : NoticeVia) (n : Notice) :
    (State.takeTrip s via n).now = s.now ∧ (State.takeTrip s via n).ringOffset = s.ringOffset ∧
      (State.takeTrip s via n).pending = s.pending ∧ (State.takeTrip s via n).pm = s.pm ∧
      (State.takeTrip s via n).trngCount = s.trngCount ∧ (State.takeTrip s via n).supply = s.supply ∧
      (State.takeTrip s via n).est = s.est ∧ (State.takeTrip s via n).lp = s.lp ∧ (State.takeTrip s via n).px = s.px ∧
      (State.takeTrip s via n).sent = s.sent := by
  simp only [State.takeTrip]
  refine ⟨?_, ?_, ?_, ?_, ?_, ?_, ?_, ?_, ?_, ?_⟩ <;> (repeat' split) <;> simp
@[simp] theorem State.followOpen_frame (s : State) :
    (State.followOpen s).now = s.now ∧ (State.followOpen s).ringOffset = s.ringOffset ∧ (State.followOpen s).pending = s.pending ∧
      (State.followOpen s).pm = s.pm ∧ (State.followOpen s).trngCount = s.trngCount ∧ (State.followOpen s).supply = s.supply ∧
      (State.followOpen s).aux = s.aux ∧ (State.followOpen s).itg = s.itg ∧ (State.followOpen s).est = s.est ∧
      (State.followOpen s).lp = s.lp ∧ (State.followOpen s).px = s.px ∧ (State.followOpen s).sent = s.sent := by simp [State.followOpen]
@[simp] theorem State.takeOpenReq_frame (s : State) (via : NoticeVia) (n : Notice) :
    (State.takeOpenReq s via n).now = s.now ∧ (State.takeOpenReq s via n).ringOffset = s.ringOffset ∧
      (State.takeOpenReq s via n).pending = s.pending ∧ (State.takeOpenReq s via n).pm = s.pm ∧
      (State.takeOpenReq s via n).trngCount = s.trngCount ∧ (State.takeOpenReq s via n).supply = s.supply ∧
      (State.takeOpenReq s via n).est = s.est ∧ (State.takeOpenReq s via n).lp = s.lp ∧ (State.takeOpenReq s via n).px = s.px ∧
      (State.takeOpenReq s via n).sent = s.sent := by simp [State.takeOpenReq]
@[simp] theorem State.takeReset_frame (s : State) :
    (State.takeReset s).now = s.now ∧ (State.takeReset s).ringOffset = s.ringOffset ∧ (State.takeReset s).pending = s.pending ∧
      (State.takeReset s).dict = s.dict ∧ (State.takeReset s).pm = s.pm ∧ (State.takeReset s).out = s.out ∧
      (State.takeReset s).trngCount = s.trngCount ∧ (State.takeReset s).ident = s.ident ∧ (State.takeReset s).supply = s.supply ∧
      (State.takeReset s).md = s.md ∧ (State.takeReset s).tm = s.tm ∧ (State.takeReset s).meas = s.meas ∧ (State.takeReset s).aux = s.aux ∧
      (State.takeReset s).itg = s.itg ∧ (State.takeReset s).bal = s.bal ∧ (State.takeReset s).est = s.est ∧ (State.takeReset s).lp = s.lp ∧
      (State.takeReset s).ring = s.ring ∧ (State.takeReset s).can = s.can ∧ (State.takeReset s).px = s.px ∧
      (State.takeReset s).sent = s.sent ∧ (State.takeReset s).rcd = s.rcd ∧ (State.takeReset s).mgmt = s.mgmt := by simp [State.takeReset]
@[simp] theorem State.takeTripReset_frame (s : State) (via : NoticeVia) (n : Notice) :
    (State.takeTripReset s via n).now = s.now ∧ (State.takeTripReset s via n).ringOffset = s.ringOffset ∧
      (State.takeTripReset s via n).pending = s.pending ∧ (State.takeTripReset s via n).pm = s.pm ∧
      (State.takeTripReset s via n).trngCount = s.trngCount ∧ (State.takeTripReset s via n).supply = s.supply ∧
      (State.takeTripReset s via n).aux = s.aux ∧ (State.takeTripReset s via n).itg = s.itg ∧ (State.takeTripReset s via n).est = s.est ∧
      (State.takeTripReset s via n).lp = s.lp ∧ (State.takeTripReset s via n).px = s.px ∧
      (State.takeTripReset s via n).sent = s.sent := by simp [State.takeTripReset]
@[simp] theorem State.closeTo_frame (s : State) (k : Nat) :
    (State.closeTo s k).now = s.now ∧ (State.closeTo s k).ringOffset = s.ringOffset ∧ (State.closeTo s k).pending = s.pending ∧
      (State.closeTo s k).dict = s.dict ∧ (State.closeTo s k).pm = s.pm ∧ (State.closeTo s k).out = s.out ∧
      (State.closeTo s k).trngCount = s.trngCount ∧ (State.closeTo s k).ident = s.ident ∧ (State.closeTo s k).supply = s.supply ∧
      (State.closeTo s k).md = s.md ∧ (State.closeTo s k).tm = s.tm ∧ (State.closeTo s k).meas = s.meas ∧ (State.closeTo s k).aux = s.aux ∧
      (State.closeTo s k).itg = s.itg ∧ (State.closeTo s k).bal = s.bal ∧ (State.closeTo s k).est = s.est ∧ (State.closeTo s k).lp = s.lp ∧
      (State.closeTo s k).ring = s.ring ∧ (State.closeTo s k).can = s.can ∧ (State.closeTo s k).px = s.px ∧
      (State.closeTo s k).flt = s.flt ∧ (State.closeTo s k).sent = s.sent ∧ (State.closeTo s k).rcd = s.rcd ∧
      (State.closeTo s k).mgmt = s.mgmt := by simp [State.closeTo]
@[simp] theorem State.weldFound_frame (s : State) :
    (State.weldFound s).now = s.now ∧ (State.weldFound s).ringOffset = s.ringOffset ∧ (State.weldFound s).pending = s.pending ∧
      (State.weldFound s).pm = s.pm ∧ (State.weldFound s).trngCount = s.trngCount ∧ (State.weldFound s).supply = s.supply ∧
      (State.weldFound s).aux = s.aux ∧ (State.weldFound s).itg = s.itg ∧ (State.weldFound s).est = s.est ∧ (State.weldFound s).lp = s.lp ∧
      (State.weldFound s).px = s.px ∧ (State.weldFound s).sent = s.sent := by simp [State.weldFound]
@[simp] theorem State.prechargeFail_frame (s : State) :
    (State.prechargeFail s).now = s.now ∧ (State.prechargeFail s).ringOffset = s.ringOffset ∧ (State.prechargeFail s).pending = s.pending ∧
      (State.prechargeFail s).pm = s.pm ∧ (State.prechargeFail s).trngCount = s.trngCount ∧ (State.prechargeFail s).supply = s.supply ∧
      (State.prechargeFail s).aux = s.aux ∧ (State.prechargeFail s).itg = s.itg ∧ (State.prechargeFail s).est = s.est ∧
      (State.prechargeFail s).lp = s.lp ∧ (State.prechargeFail s).px = s.px ∧ (State.prechargeFail s).sent = s.sent := by simp [State.prechargeFail]
@[simp] theorem State.coilFaultFound_frame (s : State) :
    (State.coilFaultFound s).now = s.now ∧ (State.coilFaultFound s).ringOffset = s.ringOffset ∧
      (State.coilFaultFound s).pending = s.pending ∧ (State.coilFaultFound s).pm = s.pm ∧
      (State.coilFaultFound s).trngCount = s.trngCount ∧ (State.coilFaultFound s).supply = s.supply ∧
      (State.coilFaultFound s).est = s.est ∧ (State.coilFaultFound s).lp = s.lp ∧ (State.coilFaultFound s).px = s.px ∧
      (State.coilFaultFound s).sent = s.sent := by simp [State.coilFaultFound]
@[simp] theorem State.coilOff_frame (s : State) (c : Coil) :
    (State.coilOff s c).now = s.now ∧ (State.coilOff s c).ringOffset = s.ringOffset ∧ (State.coilOff s c).pending = s.pending ∧
      (State.coilOff s c).dict = s.dict ∧ (State.coilOff s c).pm = s.pm ∧ (State.coilOff s c).out = s.out ∧
      (State.coilOff s c).trngCount = s.trngCount ∧ (State.coilOff s c).ident = s.ident ∧ (State.coilOff s c).supply = s.supply ∧
      (State.coilOff s c).md = s.md ∧ (State.coilOff s c).tm = s.tm ∧ (State.coilOff s c).meas = s.meas ∧ (State.coilOff s c).aux = s.aux ∧
      (State.coilOff s c).itg = s.itg ∧ (State.coilOff s c).bal = s.bal ∧ (State.coilOff s c).est = s.est ∧ (State.coilOff s c).lp = s.lp ∧
      (State.coilOff s c).ring = s.ring ∧ (State.coilOff s c).can = s.can ∧ (State.coilOff s c).px = s.px ∧
      (State.coilOff s c).flt = s.flt ∧ (State.coilOff s c).sent = s.sent ∧ (State.coilOff s c).rcd = s.rcd ∧ (State.coilOff s c).mgmt = s.mgmt := by
  unfold State.coilOff
  refine ⟨?_, ?_, ?_, ?_, ?_, ?_, ?_, ?_, ?_, ?_, ?_, ?_, ?_, ?_, ?_, ?_, ?_, ?_, ?_, ?_, ?_, ?_, ?_, ?_⟩ <;> (repeat' split) <;> simp
@[simp] theorem State.sendRelease_frame (s : State) (node : Nat) :
    (State.sendRelease s node).now = s.now ∧ (State.sendRelease s node).ringOffset = s.ringOffset ∧
      (State.sendRelease s node).pending = s.pending ∧ (State.sendRelease s node).pm = s.pm ∧
      (State.sendRelease s node).trngCount = s.trngCount ∧ (State.sendRelease s node).supply = s.supply ∧
      (State.sendRelease s node).md = s.md ∧ (State.sendRelease s node).tm = s.tm ∧ (State.sendRelease s node).meas = s.meas ∧
      (State.sendRelease s node).aux = s.aux ∧ (State.sendRelease s node).itg = s.itg ∧ (State.sendRelease s node).bal = s.bal ∧
      (State.sendRelease s node).hio = s.hio ∧ (State.sendRelease s node).est = s.est ∧ (State.sendRelease s node).lp = s.lp ∧
      (State.sendRelease s node).can = s.can ∧ (State.sendRelease s node).px = s.px ∧ (State.sendRelease s node).flt = s.flt ∧
      (State.sendRelease s node).sent = s.sent ∧ (State.sendRelease s node).rcd = s.rcd ∧
      (State.sendRelease s node).mgmt = s.mgmt := by simp [State.sendRelease]
@[simp] theorem State.sendWrite_frame (s : State) (d : Dest) (o : ObjDef) (i j : Nat) :
    (State.sendWrite s d o i j).now = s.now ∧ (State.sendWrite s d o i j).ringOffset = s.ringOffset ∧
      (State.sendWrite s d o i j).pending = s.pending ∧ (State.sendWrite s d o i j).pm = s.pm ∧
      (State.sendWrite s d o i j).trngCount = s.trngCount ∧ (State.sendWrite s d o i j).ident = s.ident ∧
      (State.sendWrite s d o i j).supply = s.supply ∧ (State.sendWrite s d o i j).md = s.md ∧ (State.sendWrite s d o i j).tm = s.tm ∧
      (State.sendWrite s d o i j).meas = s.meas ∧ (State.sendWrite s d o i j).aux = s.aux ∧ (State.sendWrite s d o i j).itg = s.itg ∧
      (State.sendWrite s d o i j).bal = s.bal ∧ (State.sendWrite s d o i j).hio = s.hio ∧ (State.sendWrite s d o i j).est = s.est ∧
      (State.sendWrite s d o i j).lp = s.lp ∧ (State.sendWrite s d o i j).can = s.can ∧ (State.sendWrite s d o i j).px = s.px ∧
      (State.sendWrite s d o i j).flt = s.flt ∧ (State.sendWrite s d o i j).sent = s.sent ∧ (State.sendWrite s d o i j).rcd = s.rcd ∧
      (State.sendWrite s d o i j).mgmt = s.mgmt := by simp [State.sendWrite]
@[simp] theorem State.rewriteSet_frame (s : State) (node : Nat) :
    (State.rewriteSet s node).now = s.now ∧ (State.rewriteSet s node).ringOffset = s.ringOffset ∧
      (State.rewriteSet s node).pending = s.pending ∧ (State.rewriteSet s node).pm = s.pm ∧
      (State.rewriteSet s node).trngCount = s.trngCount ∧ (State.rewriteSet s node).ident = s.ident ∧
      (State.rewriteSet s node).supply = s.supply ∧ (State.rewriteSet s node).md = s.md ∧ (State.rewriteSet s node).tm = s.tm ∧
      (State.rewriteSet s node).meas = s.meas ∧ (State.rewriteSet s node).aux = s.aux ∧ (State.rewriteSet s node).itg = s.itg ∧
      (State.rewriteSet s node).bal = s.bal ∧ (State.rewriteSet s node).est = s.est ∧ (State.rewriteSet s node).lp = s.lp ∧
      (State.rewriteSet s node).can = s.can ∧ (State.rewriteSet s node).px = s.px ∧ (State.rewriteSet s node).flt = s.flt ∧
      (State.rewriteSet s node).sent = s.sent ∧ (State.rewriteSet s node).rcd = s.rcd ∧
      (State.rewriteSet s node).mgmt = s.mgmt := by simp [State.rewriteSet]
@[simp] theorem State.dissent_frame (s : State) (l : Lane) :
    (State.dissent s l).now = s.now ∧ (State.dissent s l).ringOffset = s.ringOffset ∧ (State.dissent s l).pending = s.pending ∧
      (State.dissent s l).pm = s.pm ∧ (State.dissent s l).trngCount = s.trngCount ∧ (State.dissent s l).supply = s.supply ∧
      (State.dissent s l).aux = s.aux ∧ (State.dissent s l).itg = s.itg ∧ (State.dissent s l).est = s.est ∧ (State.dissent s l).lp = s.lp ∧
      (State.dissent s l).px = s.px ∧ (State.dissent s l).sent = s.sent := by simp [State.dissent]
@[simp] theorem State.noMajority_frame (s : State) (triplex : Bool) :
    (State.noMajority s triplex).now = s.now ∧ (State.noMajority s triplex).ringOffset = s.ringOffset ∧
      (State.noMajority s triplex).pending = s.pending ∧ (State.noMajority s triplex).pm = s.pm ∧
      (State.noMajority s triplex).trngCount = s.trngCount ∧ (State.noMajority s triplex).supply = s.supply ∧
      (State.noMajority s triplex).aux = s.aux ∧ (State.noMajority s triplex).itg = s.itg ∧ (State.noMajority s triplex).est = s.est ∧
      (State.noMajority s triplex).lp = s.lp ∧ (State.noMajority s triplex).px = s.px ∧
      (State.noMajority s triplex).sent = s.sent := by simp [State.noMajority]
@[simp] theorem State.voteFails_frame (s : State) :
    (State.voteFails s).now = s.now ∧ (State.voteFails s).ringOffset = s.ringOffset ∧ (State.voteFails s).pending = s.pending ∧
      (State.voteFails s).pm = s.pm ∧ (State.voteFails s).trngCount = s.trngCount ∧ (State.voteFails s).supply = s.supply ∧
      (State.voteFails s).aux = s.aux ∧ (State.voteFails s).itg = s.itg ∧ (State.voteFails s).est = s.est ∧ (State.voteFails s).lp = s.lp ∧
      (State.voteFails s).px = s.px ∧ (State.voteFails s).sent = s.sent := by simp [State.voteFails]
@[simp] theorem State.withoutMajority_frame (s : State) (g : RegTarget) :
    (State.withoutMajority s g).now = s.now ∧ (State.withoutMajority s g).ringOffset = s.ringOffset ∧
      (State.withoutMajority s g).pending = s.pending ∧ (State.withoutMajority s g).dict = s.dict ∧ (State.withoutMajority s g).pm = s.pm ∧
      (State.withoutMajority s g).trngCount = s.trngCount ∧ (State.withoutMajority s g).ident = s.ident ∧
      (State.withoutMajority s g).md = s.md ∧ (State.withoutMajority s g).tm = s.tm ∧ (State.withoutMajority s g).meas = s.meas ∧
      (State.withoutMajority s g).aux = s.aux ∧ (State.withoutMajority s g).itg = s.itg ∧ (State.withoutMajority s g).est = s.est ∧
      (State.withoutMajority s g).lp = s.lp ∧ (State.withoutMajority s g).ring = s.ring ∧ (State.withoutMajority s g).can = s.can ∧
      (State.withoutMajority s g).px = s.px ∧ (State.withoutMajority s g).flt = s.flt ∧ (State.withoutMajority s g).sent = s.sent ∧
      (State.withoutMajority s g).rcd = s.rcd ∧ (State.withoutMajority s g).mgmt = s.mgmt := by
  unfold State.withoutMajority
  refine ⟨?_, ?_, ?_, ?_, ?_, ?_, ?_, ?_, ?_, ?_, ?_, ?_, ?_, ?_, ?_, ?_, ?_, ?_, ?_, ?_, ?_⟩ <;> (repeat' split) <;> simp
@[simp] theorem State.sendVoted_frame (s : State) (f : VoteFrame) :
    (State.sendVoted s f).now = s.now ∧ (State.sendVoted s f).ringOffset = s.ringOffset ∧ (State.sendVoted s f).pending = s.pending ∧
      (State.sendVoted s f).pm = s.pm ∧ (State.sendVoted s f).trngCount = s.trngCount ∧ (State.sendVoted s f).ident = s.ident ∧
      (State.sendVoted s f).supply = s.supply ∧ (State.sendVoted s f).md = s.md ∧ (State.sendVoted s f).tm = s.tm ∧
      (State.sendVoted s f).meas = s.meas ∧ (State.sendVoted s f).aux = s.aux ∧ (State.sendVoted s f).itg = s.itg ∧
      (State.sendVoted s f).bal = s.bal ∧ (State.sendVoted s f).hio = s.hio ∧ (State.sendVoted s f).est = s.est ∧
      (State.sendVoted s f).lp = s.lp ∧ (State.sendVoted s f).px = s.px ∧ (State.sendVoted s f).flt = s.flt ∧
      (State.sendVoted s f).sent = s.sent ∧ (State.sendVoted s f).rcd = s.rcd ∧ (State.sendVoted s f).mgmt = s.mgmt := by
  unfold State.sendVoted
  refine ⟨?_, ?_, ?_, ?_, ?_, ?_, ?_, ?_, ?_, ?_, ?_, ?_, ?_, ?_, ?_, ?_, ?_, ?_, ?_, ?_, ?_⟩ <;> (repeat' split) <;> simp
@[simp] theorem State.closeVote_frame (s : State) (v : VoteSt) :
    (State.closeVote s v).now = s.now ∧ (State.closeVote s v).ringOffset = s.ringOffset ∧ (State.closeVote s v).pending = s.pending ∧
      (State.closeVote s v).pm = s.pm ∧ (State.closeVote s v).trngCount = s.trngCount ∧ (State.closeVote s v).supply = s.supply ∧
      (State.closeVote s v).aux = s.aux ∧ (State.closeVote s v).itg = s.itg ∧ (State.closeVote s v).est = s.est ∧
      (State.closeVote s v).lp = s.lp ∧ (State.closeVote s v).px = s.px ∧ (State.closeVote s v).sent = s.sent := by
  unfold State.closeVote
  refine ⟨?_, ?_, ?_, ?_, ?_, ?_, ?_, ?_, ?_, ?_, ?_, ?_⟩ <;> (repeat' split) <;> simp
@[simp] theorem State.closeExpired_frame (s : State) :
    (State.closeExpired s).now = s.now ∧ (State.closeExpired s).ringOffset = s.ringOffset ∧ (State.closeExpired s).pending = s.pending ∧
      (State.closeExpired s).pm = s.pm ∧ (State.closeExpired s).trngCount = s.trngCount ∧ (State.closeExpired s).supply = s.supply ∧
      (State.closeExpired s).aux = s.aux ∧ (State.closeExpired s).itg = s.itg ∧ (State.closeExpired s).est = s.est ∧
      (State.closeExpired s).lp = s.lp ∧ (State.closeExpired s).px = s.px ∧ (State.closeExpired s).sent = s.sent := by simp [State.closeExpired]
@[simp] theorem State.addCopy_frame (s : State) (v : VoteSt) (lane : Lane) (f : VoteFrame) :
    (State.addCopy s v lane f).1.now = s.now ∧ (State.addCopy s v lane f).1.ringOffset = s.ringOffset ∧
      (State.addCopy s v lane f).1.pending = s.pending ∧ (State.addCopy s v lane f).1.pm = s.pm ∧
      (State.addCopy s v lane f).1.trngCount = s.trngCount ∧ (State.addCopy s v lane f).1.supply = s.supply ∧
      (State.addCopy s v lane f).1.aux = s.aux ∧ (State.addCopy s v lane f).1.itg = s.itg ∧ (State.addCopy s v lane f).1.est = s.est ∧
      (State.addCopy s v lane f).1.lp = s.lp ∧ (State.addCopy s v lane f).1.px = s.px ∧ (State.addCopy s v lane f).1.sent = s.sent := by
  simp only [State.addCopy]
  refine ⟨?_, ?_, ?_, ?_, ?_, ?_, ?_, ?_, ?_, ?_, ?_, ?_⟩ <;> (repeat' split) <;> simp
@[simp] theorem State.kaTrip_frame (s : State) (code : Nat) :
    (State.kaTrip s code).now = s.now ∧ (State.kaTrip s code).ringOffset = s.ringOffset ∧ (State.kaTrip s code).pending = s.pending ∧
      (State.kaTrip s code).dict = s.dict ∧ (State.kaTrip s code).pm = s.pm ∧ (State.kaTrip s code).out = s.out ∧
      (State.kaTrip s code).trngCount = s.trngCount ∧ (State.kaTrip s code).ident = s.ident ∧ (State.kaTrip s code).supply = s.supply ∧
      (State.kaTrip s code).tm = s.tm ∧ (State.kaTrip s code).meas = s.meas ∧ (State.kaTrip s code).aux = s.aux ∧
      (State.kaTrip s code).itg = s.itg ∧ (State.kaTrip s code).bal = s.bal ∧ (State.kaTrip s code).hio = s.hio ∧
      (State.kaTrip s code).est = s.est ∧ (State.kaTrip s code).lp = s.lp ∧ (State.kaTrip s code).ring = s.ring ∧
      (State.kaTrip s code).can = s.can ∧ (State.kaTrip s code).px = s.px ∧ (State.kaTrip s code).flt = s.flt ∧
      (State.kaTrip s code).sent = s.sent ∧ (State.kaTrip s code).rcd = s.rcd ∧ (State.kaTrip s code).mgmt = s.mgmt := by simp [State.kaTrip]
@[simp] theorem State.writeCarry_frame (s : State) (c : CarryDue) :
    (State.writeCarry s c).now = s.now ∧ (State.writeCarry s c).ringOffset = s.ringOffset ∧ (State.writeCarry s c).pending = s.pending ∧
      (State.writeCarry s c).dict = s.dict ∧ (State.writeCarry s c).pm = s.pm ∧ (State.writeCarry s c).out = s.out ∧
      (State.writeCarry s c).trngCount = s.trngCount ∧ (State.writeCarry s c).ident = s.ident ∧ (State.writeCarry s c).supply = s.supply ∧
      (State.writeCarry s c).md = s.md ∧ (State.writeCarry s c).tm = s.tm ∧ (State.writeCarry s c).meas = s.meas ∧
      (State.writeCarry s c).aux = s.aux ∧ (State.writeCarry s c).itg = s.itg ∧ (State.writeCarry s c).bal = s.bal ∧
      (State.writeCarry s c).hio = s.hio ∧ (State.writeCarry s c).est = s.est ∧ (State.writeCarry s c).lp = s.lp ∧
      (State.writeCarry s c).ring = s.ring ∧ (State.writeCarry s c).can = s.can ∧ (State.writeCarry s c).px = s.px ∧
      (State.writeCarry s c).flt = s.flt ∧ (State.writeCarry s c).sent = s.sent ∧ (State.writeCarry s c).mgmt = s.mgmt := by simp [State.writeCarry]
@[simp] theorem State.announce_frame (s : State) :
    (State.announce s).now = s.now ∧ (State.announce s).ringOffset = s.ringOffset ∧ (State.announce s).pending = s.pending ∧
      (State.announce s).pm = s.pm ∧ (State.announce s).out = s.out ∧ (State.announce s).trngCount = s.trngCount ∧
      (State.announce s).supply = s.supply ∧ (State.announce s).md = s.md ∧ (State.announce s).tm = s.tm ∧
      (State.announce s).meas = s.meas ∧ (State.announce s).aux = s.aux ∧ (State.announce s).itg = s.itg ∧ (State.announce s).bal = s.bal ∧
      (State.announce s).hio = s.hio ∧ (State.announce s).est = s.est ∧ (State.announce s).lp = s.lp ∧ (State.announce s).ring = s.ring ∧
      (State.announce s).px = s.px ∧ (State.announce s).flt = s.flt ∧ (State.announce s).sent = s.sent ∧ (State.announce s).rcd = s.rcd ∧
      (State.announce s).mgmt = s.mgmt := by simp [State.announce]
@[simp] theorem State.beginElection_frame (s : State) :
    (State.beginElection s).now = s.now ∧ (State.beginElection s).ringOffset = s.ringOffset ∧ (State.beginElection s).pending = s.pending ∧
      (State.beginElection s).pm = s.pm ∧ (State.beginElection s).out = s.out ∧ (State.beginElection s).trngCount = s.trngCount ∧
      (State.beginElection s).supply = s.supply ∧ (State.beginElection s).md = s.md ∧ (State.beginElection s).tm = s.tm ∧
      (State.beginElection s).meas = s.meas ∧ (State.beginElection s).aux = s.aux ∧ (State.beginElection s).itg = s.itg ∧
      (State.beginElection s).bal = s.bal ∧ (State.beginElection s).hio = s.hio ∧ (State.beginElection s).est = s.est ∧
      (State.beginElection s).lp = s.lp ∧ (State.beginElection s).ring = s.ring ∧ (State.beginElection s).px = s.px ∧
      (State.beginElection s).flt = s.flt ∧ (State.beginElection s).sent = s.sent ∧ (State.beginElection s).rcd = s.rcd ∧
      (State.beginElection s).mgmt = s.mgmt := by simp [State.beginElection]
@[simp] theorem State.claim_frame (s : State) (basis : Nat) :
    (State.claim s basis).now = s.now ∧ (State.claim s basis).pending = s.pending ∧ (State.claim s basis).pm = s.pm ∧
      (State.claim s basis).trngCount = s.trngCount ∧ (State.claim s basis).supply = s.supply ∧ (State.claim s basis).md = s.md ∧
      (State.claim s basis).aux = s.aux ∧ (State.claim s basis).itg = s.itg ∧ (State.claim s basis).bal = s.bal ∧
      (State.claim s basis).est = s.est ∧ (State.claim s basis).lp = s.lp ∧ (State.claim s basis).px = s.px ∧
      (State.claim s basis).sent = s.sent ∧ (State.claim s basis).mgmt = s.mgmt := by simp [State.claim]
@[simp] theorem State.startRound_frame (s : State) (r : Nat) (part : Bool) :
    (State.startRound s r part).now = s.now ∧ (State.startRound s r part).ringOffset = s.ringOffset ∧
      (State.startRound s r part).pending = s.pending ∧ (State.startRound s r part).pm = s.pm ∧ (State.startRound s r part).out = s.out ∧
      (State.startRound s r part).supply = s.supply ∧ (State.startRound s r part).md = s.md ∧ (State.startRound s r part).tm = s.tm ∧
      (State.startRound s r part).meas = s.meas ∧ (State.startRound s r part).aux = s.aux ∧ (State.startRound s r part).itg = s.itg ∧
      (State.startRound s r part).bal = s.bal ∧ (State.startRound s r part).hio = s.hio ∧ (State.startRound s r part).est = s.est ∧
      (State.startRound s r part).lp = s.lp ∧ (State.startRound s r part).ring = s.ring ∧ (State.startRound s r part).px = s.px ∧
      (State.startRound s r part).flt = s.flt ∧ (State.startRound s r part).sent = s.sent ∧ (State.startRound s r part).rcd = s.rcd ∧
      (State.startRound s r part).mgmt = s.mgmt := by simp [State.startRound]
@[simp] theorem State.electionFailed_frame (s : State) :
    (State.electionFailed s).now = s.now ∧ (State.electionFailed s).ringOffset = s.ringOffset ∧
      (State.electionFailed s).pending = s.pending ∧ (State.electionFailed s).pm = s.pm ∧
      (State.electionFailed s).trngCount = s.trngCount ∧ (State.electionFailed s).supply = s.supply ∧
      (State.electionFailed s).aux = s.aux ∧ (State.electionFailed s).itg = s.itg ∧ (State.electionFailed s).est = s.est ∧
      (State.electionFailed s).lp = s.lp ∧ (State.electionFailed s).px = s.px ∧
      (State.electionFailed s).sent = s.sent := by simp [State.electionFailed]
@[simp] theorem State.takeDescriptor_frame (s : State) (q : PxReq) (record : Bytes) :
    (State.takeDescriptor s q record).now = s.now ∧ (State.takeDescriptor s q record).ringOffset = s.ringOffset ∧
      (State.takeDescriptor s q record).pending = s.pending ∧ (State.takeDescriptor s q record).trngCount = s.trngCount ∧
      (State.takeDescriptor s q record).supply = s.supply ∧ (State.takeDescriptor s q record).md = s.md ∧
      (State.takeDescriptor s q record).tm = s.tm ∧ (State.takeDescriptor s q record).meas = s.meas ∧
      (State.takeDescriptor s q record).aux = s.aux ∧ (State.takeDescriptor s q record).itg = s.itg ∧
      (State.takeDescriptor s q record).bal = s.bal ∧ (State.takeDescriptor s q record).hio = s.hio ∧
      (State.takeDescriptor s q record).est = s.est ∧ (State.takeDescriptor s q record).lp = s.lp ∧
      (State.takeDescriptor s q record).flt = s.flt ∧ (State.takeDescriptor s q record).sent = s.sent ∧
      (State.takeDescriptor s q record).rcd = s.rcd ∧ (State.takeDescriptor s q record).mgmt = s.mgmt := by
  unfold State.takeDescriptor
  refine ⟨?_, ?_, ?_, ?_, ?_, ?_, ?_, ?_, ?_, ?_, ?_, ?_, ?_, ?_, ?_, ?_, ?_, ?_⟩ <;> (repeat' split) <;> simp
@[simp] theorem State.sendDescTo_frame (s : State) (sq : Int) (d : Descriptor) :
    (State.sendDescTo s sq d).now = s.now ∧ (State.sendDescTo s sq d).ringOffset = s.ringOffset ∧
      (State.sendDescTo s sq d).pending = s.pending ∧ (State.sendDescTo s sq d).pm = s.pm ∧
      (State.sendDescTo s sq d).trngCount = s.trngCount ∧ (State.sendDescTo s sq d).ident = s.ident ∧
      (State.sendDescTo s sq d).supply = s.supply ∧ (State.sendDescTo s sq d).md = s.md ∧ (State.sendDescTo s sq d).tm = s.tm ∧
      (State.sendDescTo s sq d).meas = s.meas ∧ (State.sendDescTo s sq d).aux = s.aux ∧ (State.sendDescTo s sq d).itg = s.itg ∧
      (State.sendDescTo s sq d).bal = s.bal ∧ (State.sendDescTo s sq d).hio = s.hio ∧ (State.sendDescTo s sq d).est = s.est ∧
      (State.sendDescTo s sq d).lp = s.lp ∧ (State.sendDescTo s sq d).can = s.can ∧ (State.sendDescTo s sq d).px = s.px ∧
      (State.sendDescTo s sq d).flt = s.flt ∧ (State.sendDescTo s sq d).sent = s.sent ∧ (State.sendDescTo s sq d).rcd = s.rcd ∧
      (State.sendDescTo s sq d).mgmt = s.mgmt := by simp [State.sendDescTo]
@[simp] theorem State.sendAssign_frame (s : State) :
    (State.sendAssign s).now = s.now ∧ (State.sendAssign s).ringOffset = s.ringOffset ∧ (State.sendAssign s).pending = s.pending ∧
      (State.sendAssign s).pm = s.pm ∧ (State.sendAssign s).out = s.out ∧ (State.sendAssign s).trngCount = s.trngCount ∧
      (State.sendAssign s).supply = s.supply ∧ (State.sendAssign s).md = s.md ∧ (State.sendAssign s).tm = s.tm ∧
      (State.sendAssign s).meas = s.meas ∧ (State.sendAssign s).aux = s.aux ∧ (State.sendAssign s).itg = s.itg ∧
      (State.sendAssign s).bal = s.bal ∧ (State.sendAssign s).hio = s.hio ∧ (State.sendAssign s).est = s.est ∧
      (State.sendAssign s).lp = s.lp ∧ (State.sendAssign s).ring = s.ring ∧ (State.sendAssign s).px = s.px ∧
      (State.sendAssign s).flt = s.flt ∧ (State.sendAssign s).sent = s.sent ∧ (State.sendAssign s).rcd = s.rcd ∧
      (State.sendAssign s).mgmt = s.mgmt := by
  unfold State.sendAssign
  refine ⟨?_, ?_, ?_, ?_, ?_, ?_, ?_, ?_, ?_, ?_, ?_, ?_, ?_, ?_, ?_, ?_, ?_, ?_, ?_, ?_, ?_, ?_⟩ <;> (repeat' split) <;> simp
@[simp] theorem State.admitJoiner_frame (s : State) (j : JoinFrame) :
    (State.admitJoiner s j).now = s.now ∧ (State.admitJoiner s j).ringOffset = s.ringOffset ∧
      (State.admitJoiner s j).pending = s.pending := by
  simp only [State.admitJoiner]
  refine ⟨?_, ?_, ?_⟩ <;> (repeat' split) <;> simp
@[simp] theorem State.admitJoiner_frame2 (s : State) (j : JoinFrame) :
    (State.admitJoiner s j).trngCount = s.trngCount ∧ (State.admitJoiner s j).supply = s.supply ∧ (State.admitJoiner s j).aux = s.aux := by
  simp only [State.admitJoiner]
  refine ⟨?_, ?_, ?_⟩ <;> (repeat' split) <;> simp
@[simp] theorem State.admitJoiner_frame3 (s : State) (j : JoinFrame) :
    (State.admitJoiner s j).itg = s.itg ∧ (State.admitJoiner s j).est = s.est ∧ (State.admitJoiner s j).lp = s.lp := by
  simp only [State.admitJoiner]
  refine ⟨?_, ?_, ?_⟩ <;> (repeat' split) <;> simp
@[simp] theorem State.admitJoiner_frame4 (s : State) (j : JoinFrame) :
    (State.admitJoiner s j).px = s.px ∧ (State.admitJoiner s j).sent = s.sent := by
  simp only [State.admitJoiner]
  refine ⟨?_, ?_⟩ <;> (repeat' split) <;> simp
@[simp] theorem State.sendClose_frame (s : State) :
    (State.sendClose s).now = s.now ∧ (State.sendClose s).ringOffset = s.ringOffset ∧ (State.sendClose s).pending = s.pending ∧
      (State.sendClose s).pm = s.pm ∧ (State.sendClose s).out = s.out ∧ (State.sendClose s).trngCount = s.trngCount ∧
      (State.sendClose s).supply = s.supply ∧ (State.sendClose s).md = s.md ∧ (State.sendClose s).tm = s.tm ∧
      (State.sendClose s).meas = s.meas ∧ (State.sendClose s).aux = s.aux ∧ (State.sendClose s).itg = s.itg ∧
      (State.sendClose s).bal = s.bal ∧ (State.sendClose s).hio = s.hio ∧ (State.sendClose s).est = s.est ∧ (State.sendClose s).lp = s.lp ∧
      (State.sendClose s).ring = s.ring ∧ (State.sendClose s).px = s.px ∧ (State.sendClose s).flt = s.flt ∧
      (State.sendClose s).sent = s.sent ∧ (State.sendClose s).rcd = s.rcd ∧ (State.sendClose s).mgmt = s.mgmt := by simp [State.sendClose]
@[simp] theorem State.nextAssign_frame (s : State) :
    (State.nextAssign s).now = s.now ∧ (State.nextAssign s).ringOffset = s.ringOffset ∧ (State.nextAssign s).pending = s.pending ∧
      (State.nextAssign s).pm = s.pm ∧ (State.nextAssign s).out = s.out ∧ (State.nextAssign s).trngCount = s.trngCount ∧
      (State.nextAssign s).supply = s.supply ∧ (State.nextAssign s).md = s.md ∧ (State.nextAssign s).tm = s.tm ∧
      (State.nextAssign s).meas = s.meas ∧ (State.nextAssign s).aux = s.aux ∧ (State.nextAssign s).itg = s.itg ∧
      (State.nextAssign s).bal = s.bal ∧ (State.nextAssign s).hio = s.hio ∧ (State.nextAssign s).est = s.est ∧
      (State.nextAssign s).lp = s.lp ∧ (State.nextAssign s).ring = s.ring ∧ (State.nextAssign s).px = s.px ∧
      (State.nextAssign s).flt = s.flt ∧ (State.nextAssign s).sent = s.sent ∧ (State.nextAssign s).rcd = s.rcd ∧
      (State.nextAssign s).mgmt = s.mgmt := by simp [State.nextAssign]
@[simp] theorem State.sendStatus_frame (s : State) :
    (State.sendStatus s).now = s.now ∧ (State.sendStatus s).ringOffset = s.ringOffset ∧ (State.sendStatus s).pending = s.pending ∧
      (State.sendStatus s).pm = s.pm ∧ (State.sendStatus s).trngCount = s.trngCount ∧ (State.sendStatus s).ident = s.ident ∧
      (State.sendStatus s).supply = s.supply ∧ (State.sendStatus s).md = s.md ∧ (State.sendStatus s).tm = s.tm ∧
      (State.sendStatus s).meas = s.meas ∧ (State.sendStatus s).aux = s.aux ∧ (State.sendStatus s).itg = s.itg ∧
      (State.sendStatus s).bal = s.bal ∧ (State.sendStatus s).hio = s.hio ∧ (State.sendStatus s).est = s.est ∧
      (State.sendStatus s).lp = s.lp ∧ (State.sendStatus s).px = s.px ∧ (State.sendStatus s).flt = s.flt ∧
      (State.sendStatus s).sent = s.sent ∧ (State.sendStatus s).rcd = s.rcd ∧ (State.sendStatus s).mgmt = s.mgmt := by simp [State.sendStatus]
@[simp] theorem State.settleStandby_frame (s : State) :
    (State.settleStandby s).now = s.now ∧ (State.settleStandby s).ringOffset = s.ringOffset ∧ (State.settleStandby s).pending = s.pending ∧
      (State.settleStandby s).pm = s.pm ∧ (State.settleStandby s).trngCount = s.trngCount ∧ (State.settleStandby s).supply = s.supply ∧
      (State.settleStandby s).aux = s.aux ∧ (State.settleStandby s).itg = s.itg ∧ (State.settleStandby s).est = s.est ∧
      (State.settleStandby s).lp = s.lp ∧ (State.settleStandby s).px = s.px ∧ (State.settleStandby s).sent = s.sent := by simp [State.settleStandby]
@[simp] theorem State.editPort_frame (s : State) (p : Port) (f : PortSt → PortSt) :
    (State.editPort s p f).now = s.now ∧ (State.editPort s p f).ringOffset = s.ringOffset ∧ (State.editPort s p f).pending = s.pending ∧
      (State.editPort s p f).dict = s.dict ∧ (State.editPort s p f).pm = s.pm ∧ (State.editPort s p f).out = s.out ∧
      (State.editPort s p f).trngCount = s.trngCount ∧ (State.editPort s p f).ident = s.ident ∧ (State.editPort s p f).supply = s.supply ∧
      (State.editPort s p f).md = s.md ∧ (State.editPort s p f).tm = s.tm ∧ (State.editPort s p f).meas = s.meas ∧
      (State.editPort s p f).aux = s.aux ∧ (State.editPort s p f).itg = s.itg ∧ (State.editPort s p f).bal = s.bal ∧
      (State.editPort s p f).hio = s.hio ∧ (State.editPort s p f).est = s.est ∧ (State.editPort s p f).lp = s.lp ∧
      (State.editPort s p f).can = s.can ∧ (State.editPort s p f).px = s.px ∧ (State.editPort s p f).flt = s.flt ∧
      (State.editPort s p f).sent = s.sent ∧ (State.editPort s p f).rcd = s.rcd ∧ (State.editPort s p f).mgmt = s.mgmt := by simp [State.editPort]
@[simp] theorem State.sendWrap_frame (s : State) (code : Nat) (p : Port) (time : Nat) :
    (State.sendWrap s code p time).now = s.now ∧ (State.sendWrap s code p time).ringOffset = s.ringOffset ∧
      (State.sendWrap s code p time).pending = s.pending ∧ (State.sendWrap s code p time).pm = s.pm ∧
      (State.sendWrap s code p time).trngCount = s.trngCount ∧ (State.sendWrap s code p time).ident = s.ident ∧
      (State.sendWrap s code p time).supply = s.supply ∧ (State.sendWrap s code p time).md = s.md ∧
      (State.sendWrap s code p time).tm = s.tm ∧ (State.sendWrap s code p time).meas = s.meas ∧
      (State.sendWrap s code p time).aux = s.aux ∧ (State.sendWrap s code p time).itg = s.itg ∧
      (State.sendWrap s code p time).bal = s.bal ∧ (State.sendWrap s code p time).hio = s.hio ∧
      (State.sendWrap s code p time).est = s.est ∧ (State.sendWrap s code p time).lp = s.lp ∧ (State.sendWrap s code p time).px = s.px ∧
      (State.sendWrap s code p time).flt = s.flt ∧ (State.sendWrap s code p time).sent = s.sent ∧
      (State.sendWrap s code p time).rcd = s.rcd ∧ (State.sendWrap s code p time).mgmt = s.mgmt := by simp [State.sendWrap]
@[simp] theorem State.newEpoch_frame (s : State) (p : Port) :
    (State.newEpoch s p).now = s.now ∧ (State.newEpoch s p).ringOffset = s.ringOffset ∧ (State.newEpoch s p).pending = s.pending ∧
      (State.newEpoch s p).dict = s.dict ∧ (State.newEpoch s p).pm = s.pm ∧ (State.newEpoch s p).trngCount = s.trngCount ∧
      (State.newEpoch s p).ident = s.ident ∧ (State.newEpoch s p).supply = s.supply ∧ (State.newEpoch s p).md = s.md ∧
      (State.newEpoch s p).tm = s.tm ∧ (State.newEpoch s p).meas = s.meas ∧ (State.newEpoch s p).aux = s.aux ∧
      (State.newEpoch s p).itg = s.itg ∧ (State.newEpoch s p).bal = s.bal ∧ (State.newEpoch s p).hio = s.hio ∧
      (State.newEpoch s p).est = s.est ∧ (State.newEpoch s p).lp = s.lp ∧ (State.newEpoch s p).can = s.can ∧
      (State.newEpoch s p).px = s.px ∧ (State.newEpoch s p).flt = s.flt ∧ (State.newEpoch s p).sent = s.sent ∧
      (State.newEpoch s p).rcd = s.rcd ∧ (State.newEpoch s p).mgmt = s.mgmt := by simp [State.newEpoch]
@[simp] theorem State.turnWaiting_frame (s : State) (p : Port) :
    (State.turnWaiting s p).now = s.now ∧ (State.turnWaiting s p).ringOffset = s.ringOffset ∧ (State.turnWaiting s p).pending = s.pending ∧
      (State.turnWaiting s p).pm = s.pm ∧ (State.turnWaiting s p).trngCount = s.trngCount ∧ (State.turnWaiting s p).ident = s.ident ∧
      (State.turnWaiting s p).supply = s.supply ∧ (State.turnWaiting s p).md = s.md ∧ (State.turnWaiting s p).tm = s.tm ∧
      (State.turnWaiting s p).meas = s.meas ∧ (State.turnWaiting s p).aux = s.aux ∧ (State.turnWaiting s p).itg = s.itg ∧
      (State.turnWaiting s p).bal = s.bal ∧ (State.turnWaiting s p).hio = s.hio ∧ (State.turnWaiting s p).est = s.est ∧
      (State.turnWaiting s p).lp = s.lp ∧ (State.turnWaiting s p).can = s.can ∧ (State.turnWaiting s p).px = s.px ∧
      (State.turnWaiting s p).flt = s.flt ∧ (State.turnWaiting s p).sent = s.sent ∧ (State.turnWaiting s p).rcd = s.rcd ∧
      (State.turnWaiting s p).mgmt = s.mgmt := by simp [State.turnWaiting]
@[simp] theorem State.portDown_frame (s : State) (p : Port) (fault : Bool) :
    (State.portDown s p fault).now = s.now ∧ (State.portDown s p fault).ringOffset = s.ringOffset ∧
      (State.portDown s p fault).pending = s.pending ∧ (State.portDown s p fault).pm = s.pm ∧
      (State.portDown s p fault).trngCount = s.trngCount ∧ (State.portDown s p fault).ident = s.ident ∧
      (State.portDown s p fault).supply = s.supply ∧ (State.portDown s p fault).md = s.md ∧ (State.portDown s p fault).tm = s.tm ∧
      (State.portDown s p fault).meas = s.meas ∧ (State.portDown s p fault).aux = s.aux ∧ (State.portDown s p fault).itg = s.itg ∧
      (State.portDown s p fault).bal = s.bal ∧ (State.portDown s p fault).hio = s.hio ∧ (State.portDown s p fault).est = s.est ∧
      (State.portDown s p fault).lp = s.lp ∧ (State.portDown s p fault).px = s.px ∧ (State.portDown s p fault).flt = s.flt ∧
      (State.portDown s p fault).sent = s.sent ∧ (State.portDown s p fault).rcd = s.rcd ∧
      (State.portDown s p fault).mgmt = s.mgmt := by simp [State.portDown]
@[simp] theorem State.orderUnwrap_frame (s : State) (p : Port) :
    (State.orderUnwrap s p).now = s.now ∧ (State.orderUnwrap s p).ringOffset = s.ringOffset ∧ (State.orderUnwrap s p).pending = s.pending ∧
      (State.orderUnwrap s p).pm = s.pm ∧ (State.orderUnwrap s p).trngCount = s.trngCount ∧ (State.orderUnwrap s p).ident = s.ident ∧
      (State.orderUnwrap s p).supply = s.supply ∧ (State.orderUnwrap s p).md = s.md ∧ (State.orderUnwrap s p).tm = s.tm ∧
      (State.orderUnwrap s p).meas = s.meas ∧ (State.orderUnwrap s p).aux = s.aux ∧ (State.orderUnwrap s p).itg = s.itg ∧
      (State.orderUnwrap s p).bal = s.bal ∧ (State.orderUnwrap s p).hio = s.hio ∧ (State.orderUnwrap s p).est = s.est ∧
      (State.orderUnwrap s p).lp = s.lp ∧ (State.orderUnwrap s p).px = s.px ∧ (State.orderUnwrap s p).flt = s.flt ∧
      (State.orderUnwrap s p).sent = s.sent ∧ (State.orderUnwrap s p).rcd = s.rcd ∧
      (State.orderUnwrap s p).mgmt = s.mgmt := by simp [State.orderUnwrap]
@[simp] theorem State.wrapNotice_now (s : State) (rx : SlotRx) (n : Notice) (go : State → State) (h : ∀ x, (go x).now = x.now) :
    (s.wrapNotice rx n go).now = s.now := by simp [State.wrapNotice, h]
@[simp] theorem State.wrapNotice_ringOffset (s : State) (rx : SlotRx) (n : Notice) (go : State → State) (h : ∀ x, (go x).ringOffset = x.ringOffset) :
    (s.wrapNotice rx n go).ringOffset = s.ringOffset := by simp [State.wrapNotice, h]
@[simp] theorem State.wrapNotice_pending (s : State) (rx : SlotRx) (n : Notice) (go : State → State) (h : ∀ x, (go x).pending = x.pending) :
    (s.wrapNotice rx n go).pending = s.pending := by simp [State.wrapNotice, h]
@[simp] theorem State.wrapNotice_pm (s : State) (rx : SlotRx) (n : Notice) (go : State → State) (h : ∀ x, (go x).pm = x.pm) :
    (s.wrapNotice rx n go).pm = s.pm := by simp [State.wrapNotice, h]
@[simp] theorem State.wrapNotice_trngCount (s : State) (rx : SlotRx) (n : Notice) (go : State → State) (h : ∀ x, (go x).trngCount = x.trngCount) :
    (s.wrapNotice rx n go).trngCount = s.trngCount := by simp [State.wrapNotice, h]
@[simp] theorem State.wrapNotice_supply (s : State) (rx : SlotRx) (n : Notice) (go : State → State) (h : ∀ x, (go x).supply = x.supply) :
    (s.wrapNotice rx n go).supply = s.supply := by simp [State.wrapNotice, h]
@[simp] theorem State.wrapNotice_aux (s : State) (rx : SlotRx) (n : Notice) (go : State → State) (h : ∀ x, (go x).aux = x.aux) :
    (s.wrapNotice rx n go).aux = s.aux := by simp [State.wrapNotice, h]
@[simp] theorem State.wrapNotice_itg (s : State) (rx : SlotRx) (n : Notice) (go : State → State) (h : ∀ x, (go x).itg = x.itg) :
    (s.wrapNotice rx n go).itg = s.itg := by simp [State.wrapNotice, h]
@[simp] theorem State.wrapNotice_est (s : State) (rx : SlotRx) (n : Notice) (go : State → State) (h : ∀ x, (go x).est = x.est) :
    (s.wrapNotice rx n go).est = s.est := by simp [State.wrapNotice, h]
@[simp] theorem State.wrapNotice_lp (s : State) (rx : SlotRx) (n : Notice) (go : State → State) (h : ∀ x, (go x).lp = x.lp) :
    (s.wrapNotice rx n go).lp = s.lp := by simp [State.wrapNotice, h]
@[simp] theorem State.wrapNotice_px (s : State) (rx : SlotRx) (n : Notice) (go : State → State) (h : ∀ x, (go x).px = x.px) :
    (s.wrapNotice rx n go).px = s.px := by simp [State.wrapNotice, h]
@[simp] theorem State.wrapNotice_sent (s : State) (rx : SlotRx) (n : Notice) (go : State → State) (h : ∀ x, (go x).sent = x.sent) :
    (s.wrapNotice rx n go).sent = s.sent := by simp [State.wrapNotice, h]
@[simp] theorem State.endTurn_frame (s : State) (p : Port) :
    (State.endTurn s p).now = s.now ∧ (State.endTurn s p).ringOffset = s.ringOffset ∧ (State.endTurn s p).pending = s.pending ∧
      (State.endTurn s p).dict = s.dict ∧ (State.endTurn s p).pm = s.pm ∧ (State.endTurn s p).trngCount = s.trngCount ∧
      (State.endTurn s p).ident = s.ident ∧ (State.endTurn s p).supply = s.supply ∧ (State.endTurn s p).md = s.md ∧
      (State.endTurn s p).tm = s.tm ∧ (State.endTurn s p).meas = s.meas ∧ (State.endTurn s p).aux = s.aux ∧
      (State.endTurn s p).itg = s.itg ∧ (State.endTurn s p).bal = s.bal ∧ (State.endTurn s p).hio = s.hio ∧
      (State.endTurn s p).est = s.est ∧ (State.endTurn s p).lp = s.lp ∧ (State.endTurn s p).can = s.can ∧ (State.endTurn s p).px = s.px ∧
      (State.endTurn s p).flt = s.flt ∧ (State.endTurn s p).sent = s.sent ∧ (State.endTurn s p).rcd = s.rcd ∧ (State.endTurn s p).mgmt = s.mgmt := by
  unfold State.endTurn
  refine ⟨?_, ?_, ?_, ?_, ?_, ?_, ?_, ?_, ?_, ?_, ?_, ?_, ?_, ?_, ?_, ?_, ?_, ?_, ?_, ?_, ?_, ?_, ?_⟩ <;> (repeat' split) <;> simp
@[simp] theorem State.censusEnd_frame (s : State) (no count turnAt : Nat) :
    (State.censusEnd s no count turnAt).now = s.now ∧ (State.censusEnd s no count turnAt).ringOffset = s.ringOffset ∧
      (State.censusEnd s no count turnAt).pending = s.pending ∧ (State.censusEnd s no count turnAt).pm = s.pm ∧
      (State.censusEnd s no count turnAt).trngCount = s.trngCount ∧ (State.censusEnd s no count turnAt).supply = s.supply ∧
      (State.censusEnd s no count turnAt).aux = s.aux ∧ (State.censusEnd s no count turnAt).itg = s.itg ∧
      (State.censusEnd s no count turnAt).est = s.est ∧ (State.censusEnd s no count turnAt).lp = s.lp ∧
      (State.censusEnd s no count turnAt).px = s.px ∧ (State.censusEnd s no count turnAt).sent = s.sent := by simp [State.censusEnd]
@[simp] theorem State.countIn_frame (s : State) (h : SlotHdr) (no count turnAt stringId : Nat) :
    (State.countIn s h no count turnAt stringId).now = s.now ∧ (State.countIn s h no count turnAt stringId).ringOffset = s.ringOffset ∧
      (State.countIn s h no count turnAt stringId).pending = s.pending ∧ (State.countIn s h no count turnAt stringId).pm = s.pm ∧
      (State.countIn s h no count turnAt stringId).trngCount = s.trngCount ∧ (State.countIn s h no count turnAt stringId).ident = s.ident ∧
      (State.countIn s h no count turnAt stringId).supply = s.supply ∧ (State.countIn s h no count turnAt stringId).md = s.md ∧
      (State.countIn s h no count turnAt stringId).tm = s.tm ∧ (State.countIn s h no count turnAt stringId).meas = s.meas ∧
      (State.countIn s h no count turnAt stringId).aux = s.aux ∧ (State.countIn s h no count turnAt stringId).itg = s.itg ∧
      (State.countIn s h no count turnAt stringId).bal = s.bal ∧ (State.countIn s h no count turnAt stringId).hio = s.hio ∧
      (State.countIn s h no count turnAt stringId).est = s.est ∧ (State.countIn s h no count turnAt stringId).lp = s.lp ∧
      (State.countIn s h no count turnAt stringId).can = s.can ∧ (State.countIn s h no count turnAt stringId).px = s.px ∧
      (State.countIn s h no count turnAt stringId).flt = s.flt ∧ (State.countIn s h no count turnAt stringId).sent = s.sent ∧
      (State.countIn s h no count turnAt stringId).rcd = s.rcd ∧ (State.countIn s h no count turnAt stringId).mgmt = s.mgmt := by simp [State.countIn]
@[simp] theorem State.sendDescriptorTo_frame (s : State) (sq : Int) (d : Bytes) :
    (State.sendDescriptorTo s sq d).now = s.now ∧ (State.sendDescriptorTo s sq d).ringOffset = s.ringOffset ∧
      (State.sendDescriptorTo s sq d).pending = s.pending ∧ (State.sendDescriptorTo s sq d).pm = s.pm ∧
      (State.sendDescriptorTo s sq d).trngCount = s.trngCount ∧ (State.sendDescriptorTo s sq d).ident = s.ident ∧
      (State.sendDescriptorTo s sq d).supply = s.supply ∧ (State.sendDescriptorTo s sq d).md = s.md ∧
      (State.sendDescriptorTo s sq d).tm = s.tm ∧ (State.sendDescriptorTo s sq d).meas = s.meas ∧
      (State.sendDescriptorTo s sq d).aux = s.aux ∧ (State.sendDescriptorTo s sq d).itg = s.itg ∧
      (State.sendDescriptorTo s sq d).bal = s.bal ∧ (State.sendDescriptorTo s sq d).hio = s.hio ∧
      (State.sendDescriptorTo s sq d).est = s.est ∧ (State.sendDescriptorTo s sq d).lp = s.lp ∧
      (State.sendDescriptorTo s sq d).can = s.can ∧ (State.sendDescriptorTo s sq d).px = s.px ∧
      (State.sendDescriptorTo s sq d).flt = s.flt ∧ (State.sendDescriptorTo s sq d).sent = s.sent ∧
      (State.sendDescriptorTo s sq d).rcd = s.rcd ∧ (State.sendDescriptorTo s sq d).mgmt = s.mgmt := by simp [State.sendDescriptorTo]
@[simp] theorem State.refreshDescriptors_frame (s : State) :
    (State.refreshDescriptors s).now = s.now ∧ (State.refreshDescriptors s).ringOffset = s.ringOffset ∧
      (State.refreshDescriptors s).pending = s.pending ∧ (State.refreshDescriptors s).pm = s.pm ∧
      (State.refreshDescriptors s).trngCount = s.trngCount ∧ (State.refreshDescriptors s).ident = s.ident ∧
      (State.refreshDescriptors s).supply = s.supply ∧ (State.refreshDescriptors s).md = s.md ∧ (State.refreshDescriptors s).tm = s.tm ∧
      (State.refreshDescriptors s).meas = s.meas ∧ (State.refreshDescriptors s).aux = s.aux ∧ (State.refreshDescriptors s).itg = s.itg ∧
      (State.refreshDescriptors s).bal = s.bal ∧ (State.refreshDescriptors s).hio = s.hio ∧ (State.refreshDescriptors s).est = s.est ∧
      (State.refreshDescriptors s).lp = s.lp ∧ (State.refreshDescriptors s).can = s.can ∧ (State.refreshDescriptors s).px = s.px ∧
      (State.refreshDescriptors s).flt = s.flt ∧ (State.refreshDescriptors s).sent = s.sent ∧ (State.refreshDescriptors s).rcd = s.rcd ∧
      (State.refreshDescriptors s).mgmt = s.mgmt := by simp [State.refreshDescriptors]
@[simp] theorem State.settleDescriptors_frame (s : State) :
    (State.settleDescriptors s).now = s.now ∧ (State.settleDescriptors s).ringOffset = s.ringOffset ∧
      (State.settleDescriptors s).pending = s.pending ∧ (State.settleDescriptors s).trngCount = s.trngCount ∧
      (State.settleDescriptors s).supply = s.supply ∧ (State.settleDescriptors s).aux = s.aux ∧ (State.settleDescriptors s).itg = s.itg ∧
      (State.settleDescriptors s).est = s.est ∧ (State.settleDescriptors s).lp = s.lp ∧ (State.settleDescriptors s).px = s.px ∧
      (State.settleDescriptors s).sent = s.sent := by
  unfold State.settleDescriptors
  refine ⟨?_, ?_, ?_, ?_, ?_, ?_, ?_, ?_, ?_, ?_, ?_⟩ <;> (repeat' split) <;> simp
@[simp] theorem State.ownEntry_frame (s : State) :
    (State.ownEntry s).now = s.now ∧ (State.ownEntry s).ringOffset = s.ringOffset ∧ (State.ownEntry s).pending = s.pending ∧
      (State.ownEntry s).pm = s.pm ∧ (State.ownEntry s).out = s.out ∧ (State.ownEntry s).trngCount = s.trngCount ∧
      (State.ownEntry s).supply = s.supply ∧ (State.ownEntry s).md = s.md ∧ (State.ownEntry s).tm = s.tm ∧
      (State.ownEntry s).meas = s.meas ∧ (State.ownEntry s).aux = s.aux ∧ (State.ownEntry s).itg = s.itg ∧ (State.ownEntry s).bal = s.bal ∧
      (State.ownEntry s).hio = s.hio ∧ (State.ownEntry s).est = s.est ∧ (State.ownEntry s).lp = s.lp ∧ (State.ownEntry s).ring = s.ring ∧
      (State.ownEntry s).can = s.can ∧ (State.ownEntry s).px = s.px ∧ (State.ownEntry s).flt = s.flt ∧ (State.ownEntry s).sent = s.sent ∧
      (State.ownEntry s).rcd = s.rcd ∧ (State.ownEntry s).mgmt = s.mgmt := by
  unfold State.ownEntry
  refine ⟨?_, ?_, ?_, ?_, ?_, ?_, ?_, ?_, ?_, ?_, ?_, ?_, ?_, ?_, ?_, ?_, ?_, ?_, ?_, ?_, ?_, ?_, ?_⟩ <;> (repeat' split) <;> simp
@[simp] theorem State.startEnumeration_frame (s : State) :
    (State.startEnumeration s).now = s.now ∧ (State.startEnumeration s).ringOffset = s.ringOffset ∧
      (State.startEnumeration s).pending = s.pending ∧ (State.startEnumeration s).trngCount = s.trngCount ∧
      (State.startEnumeration s).supply = s.supply ∧ (State.startEnumeration s).aux = s.aux ∧ (State.startEnumeration s).itg = s.itg ∧
      (State.startEnumeration s).est = s.est ∧ (State.startEnumeration s).lp = s.lp ∧ (State.startEnumeration s).px = s.px ∧
      (State.startEnumeration s).sent = s.sent := by simp [State.startEnumeration]
@[simp] theorem State.foundModules_frame (s : State) (n : Nat) :
    (State.foundModules s n).now = s.now ∧ (State.foundModules s n).ringOffset = s.ringOffset ∧
      (State.foundModules s n).pending = s.pending ∧ (State.foundModules s n).pm = s.pm ∧ (State.foundModules s n).out = s.out ∧
      (State.foundModules s n).trngCount = s.trngCount ∧ (State.foundModules s n).supply = s.supply ∧ (State.foundModules s n).md = s.md ∧
      (State.foundModules s n).tm = s.tm ∧ (State.foundModules s n).meas = s.meas ∧ (State.foundModules s n).aux = s.aux ∧
      (State.foundModules s n).itg = s.itg ∧ (State.foundModules s n).bal = s.bal ∧ (State.foundModules s n).hio = s.hio ∧
      (State.foundModules s n).est = s.est ∧ (State.foundModules s n).lp = s.lp ∧ (State.foundModules s n).ring = s.ring ∧
      (State.foundModules s n).can = s.can ∧ (State.foundModules s n).px = s.px ∧ (State.foundModules s n).flt = s.flt ∧
      (State.foundModules s n).sent = s.sent ∧ (State.foundModules s n).rcd = s.rcd ∧
      (State.foundModules s n).mgmt = s.mgmt := by simp [State.foundModules]
@[simp] theorem State.recruitStandby_frame (s : State) :
    (State.recruitStandby s).now = s.now ∧ (State.recruitStandby s).ringOffset = s.ringOffset ∧
      (State.recruitStandby s).pending = s.pending ∧ (State.recruitStandby s).dict = s.dict ∧ (State.recruitStandby s).pm = s.pm ∧
      (State.recruitStandby s).out = s.out ∧ (State.recruitStandby s).trngCount = s.trngCount ∧
      (State.recruitStandby s).supply = s.supply ∧ (State.recruitStandby s).md = s.md ∧ (State.recruitStandby s).tm = s.tm ∧
      (State.recruitStandby s).meas = s.meas ∧ (State.recruitStandby s).aux = s.aux ∧ (State.recruitStandby s).itg = s.itg ∧
      (State.recruitStandby s).bal = s.bal ∧ (State.recruitStandby s).hio = s.hio ∧ (State.recruitStandby s).est = s.est ∧
      (State.recruitStandby s).lp = s.lp ∧ (State.recruitStandby s).ring = s.ring ∧ (State.recruitStandby s).can = s.can ∧
      (State.recruitStandby s).px = s.px ∧ (State.recruitStandby s).sent = s.sent ∧ (State.recruitStandby s).rcd = s.rcd ∧
      (State.recruitStandby s).mgmt = s.mgmt := by
  unfold State.recruitStandby
  refine ⟨?_, ?_, ?_, ?_, ?_, ?_, ?_, ?_, ?_, ?_, ?_, ?_, ?_, ?_, ?_, ?_, ?_, ?_, ?_, ?_, ?_, ?_, ?_⟩ <;> (repeat' split) <;> simp
@[simp] theorem State.closeReplies_frame (s : State) :
    (State.closeReplies s).now = s.now ∧ (State.closeReplies s).ringOffset = s.ringOffset ∧ (State.closeReplies s).pending = s.pending ∧
      (State.closeReplies s).trngCount = s.trngCount ∧ (State.closeReplies s).supply = s.supply ∧ (State.closeReplies s).aux = s.aux ∧
      (State.closeReplies s).itg = s.itg ∧ (State.closeReplies s).est = s.est ∧ (State.closeReplies s).lp = s.lp ∧
      (State.closeReplies s).px = s.px ∧ (State.closeReplies s).sent = s.sent := by simp [State.closeReplies]
@[simp] theorem State.takeCensus_frame (s : State) (p : CensusPend) :
    (State.takeCensus s p).now = s.now ∧ (State.takeCensus s p).ringOffset = s.ringOffset ∧ (State.takeCensus s p).pending = s.pending ∧
      (State.takeCensus s p).pm = s.pm ∧ (State.takeCensus s p).trngCount = s.trngCount ∧ (State.takeCensus s p).ident = s.ident ∧
      (State.takeCensus s p).supply = s.supply ∧ (State.takeCensus s p).md = s.md ∧ (State.takeCensus s p).tm = s.tm ∧
      (State.takeCensus s p).meas = s.meas ∧ (State.takeCensus s p).aux = s.aux ∧ (State.takeCensus s p).itg = s.itg ∧
      (State.takeCensus s p).bal = s.bal ∧ (State.takeCensus s p).hio = s.hio ∧ (State.takeCensus s p).est = s.est ∧
      (State.takeCensus s p).lp = s.lp ∧ (State.takeCensus s p).can = s.can ∧ (State.takeCensus s p).px = s.px ∧
      (State.takeCensus s p).sent = s.sent ∧ (State.takeCensus s p).rcd = s.rcd ∧ (State.takeCensus s p).mgmt = s.mgmt := by simp [State.takeCensus]
@[simp] theorem State.stompOn_frame (s : State) (rx : SlotRx) (payload : Bytes) :
    (State.stompOn s rx payload).now = s.now ∧ (State.stompOn s rx payload).ringOffset = s.ringOffset ∧
      (State.stompOn s rx payload).pending = s.pending ∧ (State.stompOn s rx payload).pm = s.pm ∧
      (State.stompOn s rx payload).trngCount = s.trngCount ∧ (State.stompOn s rx payload).ident = s.ident ∧
      (State.stompOn s rx payload).supply = s.supply ∧ (State.stompOn s rx payload).md = s.md ∧ (State.stompOn s rx payload).tm = s.tm ∧
      (State.stompOn s rx payload).meas = s.meas ∧ (State.stompOn s rx payload).aux = s.aux ∧ (State.stompOn s rx payload).itg = s.itg ∧
      (State.stompOn s rx payload).bal = s.bal ∧ (State.stompOn s rx payload).hio = s.hio ∧ (State.stompOn s rx payload).est = s.est ∧
      (State.stompOn s rx payload).lp = s.lp ∧ (State.stompOn s rx payload).can = s.can ∧ (State.stompOn s rx payload).px = s.px ∧
      (State.stompOn s rx payload).flt = s.flt ∧ (State.stompOn s rx payload).sent = s.sent ∧ (State.stompOn s rx payload).rcd = s.rcd ∧
      (State.stompOn s rx payload).mgmt = s.mgmt := by simp [State.stompOn]
@[simp] theorem State.askCensus_frame (s : State) (p : Port) :
    (State.askCensus s p).now = s.now ∧ (State.askCensus s p).ringOffset = s.ringOffset ∧ (State.askCensus s p).pending = s.pending ∧
      (State.askCensus s p).pm = s.pm ∧ (State.askCensus s p).trngCount = s.trngCount ∧ (State.askCensus s p).supply = s.supply ∧
      (State.askCensus s p).aux = s.aux ∧ (State.askCensus s p).itg = s.itg ∧ (State.askCensus s p).est = s.est ∧
      (State.askCensus s p).lp = s.lp ∧ (State.askCensus s p).px = s.px ∧ (State.askCensus s p).sent = s.sent := by simp [State.askCensus]

end Sys2Proof.Machine
end

