-- ==== Sys2Proof/Laws/Frames2.lean ====
section
/-! SUPPORT. What the shared operations leave alone: for each one, every component of the state it never writes. The operations of
Takeover, Buses, Mgmt, ParamArea, Modes, StartUp, Writes, Shadows, Params. -/
set_option maxRecDepth 4000
namespace Sys2Proof.Machine

@[simp] theorem State.sendCkpt_frame (s : State) :
    (State.sendCkpt s).now = s.now ∧ (State.sendCkpt s).ringOffset = s.ringOffset ∧ (State.sendCkpt s).pending = s.pending ∧
      (State.sendCkpt s).pm = s.pm ∧ (State.sendCkpt s).trngCount = s.trngCount ∧ (State.sendCkpt s).ident = s.ident ∧
      (State.sendCkpt s).supply = s.supply ∧ (State.sendCkpt s).md = s.md ∧ (State.sendCkpt s).tm = s.tm ∧
      (State.sendCkpt s).meas = s.meas ∧ (State.sendCkpt s).aux = s.aux ∧ (State.sendCkpt s).itg = s.itg ∧ (State.sendCkpt s).bal = s.bal ∧
      (State.sendCkpt s).hio = s.hio ∧ (State.sendCkpt s).est = s.est ∧ (State.sendCkpt s).lp = s.lp ∧ (State.sendCkpt s).can = s.can ∧
      (State.sendCkpt s).px = s.px ∧ (State.sendCkpt s).sent = s.sent ∧ (State.sendCkpt s).rcd = s.rcd ∧ (State.sendCkpt s).mgmt = s.mgmt := by
  unfold State.sendCkpt
  refine ⟨?_, ?_, ?_, ?_, ?_, ?_, ?_, ?_, ?_, ?_, ?_, ?_, ?_, ?_, ?_, ?_, ?_, ?_, ?_, ?_, ?_⟩ <;> (repeat' split) <;> simp
@[simp] theorem State.loseStandby_frame (s : State) :
    (State.loseStandby s).now = s.now ∧ (State.loseStandby s).ringOffset = s.ringOffset ∧ (State.loseStandby s).pending = s.pending ∧
      (State.loseStandby s).pm = s.pm ∧ (State.loseStandby s).trngCount = s.trngCount ∧ (State.loseStandby s).supply = s.supply ∧
      (State.loseStandby s).aux = s.aux ∧ (State.loseStandby s).itg = s.itg ∧ (State.loseStandby s).est = s.est ∧
      (State.loseStandby s).lp = s.lp ∧ (State.loseStandby s).px = s.px ∧ (State.loseStandby s).sent = s.sent := by simp [State.loseStandby]
@[simp] theorem State.lagCheck_frame (s : State) :
    (State.lagCheck s).now = s.now ∧ (State.lagCheck s).ringOffset = s.ringOffset ∧ (State.lagCheck s).pending = s.pending ∧
      (State.lagCheck s).pm = s.pm ∧ (State.lagCheck s).trngCount = s.trngCount ∧ (State.lagCheck s).supply = s.supply ∧
      (State.lagCheck s).aux = s.aux ∧ (State.lagCheck s).itg = s.itg ∧ (State.lagCheck s).est = s.est ∧ (State.lagCheck s).lp = s.lp ∧
      (State.lagCheck s).px = s.px ∧ (State.lagCheck s).sent = s.sent := by simp [State.lagCheck]
@[simp] theorem State.restoreLoops_frame (s : State) :
    (State.restoreLoops s).now = s.now ∧ (State.restoreLoops s).ringOffset = s.ringOffset ∧ (State.restoreLoops s).pending = s.pending ∧
      (State.restoreLoops s).dict = s.dict ∧ (State.restoreLoops s).pm = s.pm ∧ (State.restoreLoops s).out = s.out ∧
      (State.restoreLoops s).trngCount = s.trngCount ∧ (State.restoreLoops s).ident = s.ident ∧ (State.restoreLoops s).supply = s.supply ∧
      (State.restoreLoops s).md = s.md ∧ (State.restoreLoops s).tm = s.tm ∧ (State.restoreLoops s).meas = s.meas ∧
      (State.restoreLoops s).aux = s.aux ∧ (State.restoreLoops s).itg = s.itg ∧ (State.restoreLoops s).hio = s.hio ∧
      (State.restoreLoops s).est = s.est ∧ (State.restoreLoops s).ring = s.ring ∧ (State.restoreLoops s).can = s.can ∧
      (State.restoreLoops s).px = s.px ∧ (State.restoreLoops s).flt = s.flt ∧ (State.restoreLoops s).sent = s.sent ∧
      (State.restoreLoops s).rcd = s.rcd ∧ (State.restoreLoops s).mgmt = s.mgmt := by simp [State.restoreLoops]
@[simp] theorem State.takeoverMembers_frame (s : State) (former cause : Nat) :
    (State.takeoverMembers s former cause).now = s.now ∧ (State.takeoverMembers s former cause).ringOffset = s.ringOffset ∧
      (State.takeoverMembers s former cause).pending = s.pending ∧ (State.takeoverMembers s former cause).dict = s.dict ∧
      (State.takeoverMembers s former cause).pm = s.pm ∧ (State.takeoverMembers s former cause).out = s.out ∧
      (State.takeoverMembers s former cause).trngCount = s.trngCount ∧ (State.takeoverMembers s former cause).supply = s.supply ∧
      (State.takeoverMembers s former cause).md = s.md ∧ (State.takeoverMembers s former cause).tm = s.tm ∧
      (State.takeoverMembers s former cause).meas = s.meas ∧ (State.takeoverMembers s former cause).aux = s.aux ∧
      (State.takeoverMembers s former cause).itg = s.itg ∧ (State.takeoverMembers s former cause).bal = s.bal ∧
      (State.takeoverMembers s former cause).hio = s.hio ∧ (State.takeoverMembers s former cause).est = s.est ∧
      (State.takeoverMembers s former cause).lp = s.lp ∧ (State.takeoverMembers s former cause).ring = s.ring ∧
      (State.takeoverMembers s former cause).can = s.can ∧ (State.takeoverMembers s former cause).px = s.px ∧
      (State.takeoverMembers s former cause).flt = s.flt ∧ (State.takeoverMembers s former cause).sent = s.sent ∧
      (State.takeoverMembers s former cause).rcd = s.rcd ∧ (State.takeoverMembers s former cause).mgmt = s.mgmt := by simp [State.takeoverMembers]
@[simp] theorem State.takeoverRole_frame (s : State) (basis cause : Nat) :
    (State.takeoverRole s basis cause).now = s.now ∧ (State.takeoverRole s basis cause).pending = s.pending ∧
      (State.takeoverRole s basis cause).pm = s.pm ∧ (State.takeoverRole s basis cause).out = s.out ∧
      (State.takeoverRole s basis cause).trngCount = s.trngCount ∧ (State.takeoverRole s basis cause).supply = s.supply ∧
      (State.takeoverRole s basis cause).md = s.md ∧ (State.takeoverRole s basis cause).aux = s.aux ∧
      (State.takeoverRole s basis cause).itg = s.itg ∧ (State.takeoverRole s basis cause).est = s.est ∧
      (State.takeoverRole s basis cause).can = s.can ∧ (State.takeoverRole s basis cause).px = s.px ∧
      (State.takeoverRole s basis cause).sent = s.sent ∧ (State.takeoverRole s basis cause).mgmt = s.mgmt := by simp [State.takeoverRole]
@[simp] theorem State.takeoverStandby_frame (s : State) (basis former : Nat) :
    (State.takeoverStandby s basis former).now = s.now ∧ (State.takeoverStandby s basis former).ringOffset = s.ringOffset ∧
      (State.takeoverStandby s basis former).pending = s.pending ∧ (State.takeoverStandby s basis former).pm = s.pm ∧
      (State.takeoverStandby s basis former).trngCount = s.trngCount ∧ (State.takeoverStandby s basis former).supply = s.supply ∧
      (State.takeoverStandby s basis former).aux = s.aux ∧ (State.takeoverStandby s basis former).itg = s.itg ∧
      (State.takeoverStandby s basis former).est = s.est ∧ (State.takeoverStandby s basis former).lp = s.lp ∧
      (State.takeoverStandby s basis former).px = s.px ∧ (State.takeoverStandby s basis former).sent = s.sent := by simp [State.takeoverStandby]
@[simp] theorem State.takeoverBooks_frame (s : State) (cause : Nat) :
    (State.takeoverBooks s cause).now = s.now ∧ (State.takeoverBooks s cause).ringOffset = s.ringOffset ∧
      (State.takeoverBooks s cause).pending = s.pending ∧ (State.takeoverBooks s cause).pm = s.pm ∧
      (State.takeoverBooks s cause).trngCount = s.trngCount ∧ (State.takeoverBooks s cause).supply = s.supply ∧
      (State.takeoverBooks s cause).aux = s.aux ∧ (State.takeoverBooks s cause).itg = s.itg ∧ (State.takeoverBooks s cause).est = s.est ∧
      (State.takeoverBooks s cause).lp = s.lp ∧ (State.takeoverBooks s cause).px = s.px ∧
      (State.takeoverBooks s cause).sent = s.sent := by simp [State.takeoverBooks]
@[simp] theorem State.takeoverServe_frame (s : State) :
    (State.takeoverServe s).now = s.now ∧ (State.takeoverServe s).ringOffset = s.ringOffset ∧ (State.takeoverServe s).pending = s.pending ∧
      (State.takeoverServe s).pm = s.pm ∧ (State.takeoverServe s).trngCount = s.trngCount ∧ (State.takeoverServe s).ident = s.ident ∧
      (State.takeoverServe s).supply = s.supply ∧ (State.takeoverServe s).tm = s.tm ∧ (State.takeoverServe s).aux = s.aux ∧
      (State.takeoverServe s).itg = s.itg ∧ (State.takeoverServe s).est = s.est ∧ (State.takeoverServe s).lp = s.lp ∧
      (State.takeoverServe s).px = s.px ∧ (State.takeoverServe s).flt = s.flt ∧ (State.takeoverServe s).sent = s.sent := by simp [State.takeoverServe]
@[simp] theorem State.takeover_frame (s : State) (basis cause : Nat) :
    (State.takeover s basis cause).now = s.now ∧ (State.takeover s basis cause).pending = s.pending ∧
      (State.takeover s basis cause).pm = s.pm ∧ (State.takeover s basis cause).trngCount = s.trngCount ∧
      (State.takeover s basis cause).supply = s.supply ∧ (State.takeover s basis cause).aux = s.aux ∧
      (State.takeover s basis cause).itg = s.itg ∧ (State.takeover s basis cause).est = s.est ∧ (State.takeover s basis cause).px = s.px ∧
      (State.takeover s basis cause).sent = s.sent := by simp [State.takeover]
@[simp] theorem State.recognise_frame (s : State) (cause : Nat) :
    (State.recognise s cause).now = s.now ∧ (State.recognise s cause).pending = s.pending ∧ (State.recognise s cause).pm = s.pm ∧
      (State.recognise s cause).trngCount = s.trngCount ∧ (State.recognise s cause).supply = s.supply ∧
      (State.recognise s cause).aux = s.aux ∧ (State.recognise s cause).itg = s.itg ∧ (State.recognise s cause).est = s.est ∧
      (State.recognise s cause).px = s.px ∧ (State.recognise s cause).sent = s.sent := by simp [State.recognise]
@[simp] theorem State.takeAbdicate_frame (s : State) (via : NoticeVia) (n : Notice) :
    (State.takeAbdicate s via n).now = s.now ∧ (State.takeAbdicate s via n).pending = s.pending ∧ (State.takeAbdicate s via n).pm = s.pm ∧
      (State.takeAbdicate s via n).trngCount = s.trngCount ∧ (State.takeAbdicate s via n).supply = s.supply ∧
      (State.takeAbdicate s via n).est = s.est ∧ (State.takeAbdicate s via n).px = s.px ∧ (State.takeAbdicate s via n).sent = s.sent := by
  unfold State.takeAbdicate
  refine ⟨?_, ?_, ?_, ?_, ?_, ?_, ?_, ?_⟩ <;> (repeat' split) <;> simp
@[simp] theorem State.takeAuxLoss_frame (s : State) (via : NoticeVia) (n : Notice) :
    (State.takeAuxLoss s via n).now = s.now ∧ (State.takeAuxLoss s via n).ringOffset = s.ringOffset ∧
      (State.takeAuxLoss s via n).pending = s.pending ∧ (State.takeAuxLoss s via n).pm = s.pm ∧
      (State.takeAuxLoss s via n).trngCount = s.trngCount ∧ (State.takeAuxLoss s via n).supply = s.supply ∧
      (State.takeAuxLoss s via n).aux = s.aux ∧ (State.takeAuxLoss s via n).itg = s.itg ∧ (State.takeAuxLoss s via n).est = s.est ∧
      (State.takeAuxLoss s via n).lp = s.lp ∧ (State.takeAuxLoss s via n).px = s.px ∧
      (State.takeAuxLoss s via n).sent = s.sent := by simp [State.takeAuxLoss]
@[simp] theorem State.busFollow_frame (s : State) :
    (State.busFollow s).now = s.now ∧ (State.busFollow s).ringOffset = s.ringOffset ∧ (State.busFollow s).pending = s.pending ∧
      (State.busFollow s).dict = s.dict ∧ (State.busFollow s).pm = s.pm ∧ (State.busFollow s).out = s.out ∧
      (State.busFollow s).trngCount = s.trngCount ∧ (State.busFollow s).ident = s.ident ∧ (State.busFollow s).supply = s.supply ∧
      (State.busFollow s).md = s.md ∧ (State.busFollow s).tm = s.tm ∧ (State.busFollow s).meas = s.meas ∧ (State.busFollow s).aux = s.aux ∧
      (State.busFollow s).itg = s.itg ∧ (State.busFollow s).bal = s.bal ∧ (State.busFollow s).hio = s.hio ∧
      (State.busFollow s).est = s.est ∧ (State.busFollow s).lp = s.lp ∧ (State.busFollow s).ring = s.ring ∧ (State.busFollow s).px = s.px ∧
      (State.busFollow s).sent = s.sent ∧ (State.busFollow s).rcd = s.rcd ∧ (State.busFollow s).mgmt = s.mgmt := by simp [State.busFollow]
@[simp] theorem State.frameDone_frame (s : State) (b : Bus) (f : TxFrame) (delay : Nat) :
    (State.frameDone s b f delay).now = s.now ∧ (State.frameDone s b f delay).ringOffset = s.ringOffset ∧
      (State.frameDone s b f delay).pending = s.pending ∧ (State.frameDone s b f delay).pm = s.pm ∧
      (State.frameDone s b f delay).trngCount = s.trngCount ∧ (State.frameDone s b f delay).supply = s.supply ∧
      (State.frameDone s b f delay).aux = s.aux ∧ (State.frameDone s b f delay).itg = s.itg ∧ (State.frameDone s b f delay).est = s.est ∧
      (State.frameDone s b f delay).lp = s.lp ∧ (State.frameDone s b f delay).px = s.px ∧
      (State.frameDone s b f delay).sent = s.sent := by simp [State.frameDone]
@[simp] theorem State.frameUnacked_frame (s : State) (b : Bus) :
    (State.frameUnacked s b).now = s.now ∧ (State.frameUnacked s b).ringOffset = s.ringOffset ∧
      (State.frameUnacked s b).pending = s.pending ∧ (State.frameUnacked s b).pm = s.pm ∧ (State.frameUnacked s b).out = s.out ∧
      (State.frameUnacked s b).trngCount = s.trngCount ∧ (State.frameUnacked s b).ident = s.ident ∧
      (State.frameUnacked s b).supply = s.supply ∧ (State.frameUnacked s b).md = s.md ∧ (State.frameUnacked s b).tm = s.tm ∧
      (State.frameUnacked s b).meas = s.meas ∧ (State.frameUnacked s b).aux = s.aux ∧ (State.frameUnacked s b).itg = s.itg ∧
      (State.frameUnacked s b).bal = s.bal ∧ (State.frameUnacked s b).hio = s.hio ∧ (State.frameUnacked s b).est = s.est ∧
      (State.frameUnacked s b).lp = s.lp ∧ (State.frameUnacked s b).ring = s.ring ∧ (State.frameUnacked s b).px = s.px ∧
      (State.frameUnacked s b).flt = s.flt ∧ (State.frameUnacked s b).sent = s.sent ∧ (State.frameUnacked s b).rcd = s.rcd ∧
      (State.frameUnacked s b).mgmt = s.mgmt := by simp [State.frameUnacked]
@[simp] theorem State.frameBad_frame (s : State) (b : Bus) (f : TxFrame) :
    (State.frameBad s b f).now = s.now ∧ (State.frameBad s b f).ringOffset = s.ringOffset ∧ (State.frameBad s b f).pending = s.pending ∧
      (State.frameBad s b f).pm = s.pm ∧ (State.frameBad s b f).out = s.out ∧ (State.frameBad s b f).supply = s.supply ∧
      (State.frameBad s b f).md = s.md ∧ (State.frameBad s b f).tm = s.tm ∧ (State.frameBad s b f).meas = s.meas ∧
      (State.frameBad s b f).aux = s.aux ∧ (State.frameBad s b f).itg = s.itg ∧ (State.frameBad s b f).bal = s.bal ∧
      (State.frameBad s b f).hio = s.hio ∧ (State.frameBad s b f).est = s.est ∧ (State.frameBad s b f).lp = s.lp ∧
      (State.frameBad s b f).ring = s.ring ∧ (State.frameBad s b f).px = s.px ∧ (State.frameBad s b f).flt = s.flt ∧
      (State.frameBad s b f).sent = s.sent ∧ (State.frameBad s b f).rcd = s.rcd ∧ (State.frameBad s b f).mgmt = s.mgmt := by simp [State.frameBad]
@[simp] theorem State.copyNotices_frame (s : State) (b : Bus) :
    (State.copyNotices s b).now = s.now ∧ (State.copyNotices s b).ringOffset = s.ringOffset ∧ (State.copyNotices s b).pending = s.pending ∧
      (State.copyNotices s b).pm = s.pm ∧ (State.copyNotices s b).out = s.out ∧ (State.copyNotices s b).trngCount = s.trngCount ∧
      (State.copyNotices s b).ident = s.ident ∧ (State.copyNotices s b).supply = s.supply ∧ (State.copyNotices s b).md = s.md ∧
      (State.copyNotices s b).tm = s.tm ∧ (State.copyNotices s b).meas = s.meas ∧ (State.copyNotices s b).aux = s.aux ∧
      (State.copyNotices s b).itg = s.itg ∧ (State.copyNotices s b).bal = s.bal ∧ (State.copyNotices s b).hio = s.hio ∧
      (State.copyNotices s b).est = s.est ∧ (State.copyNotices s b).lp = s.lp ∧ (State.copyNotices s b).ring = s.ring ∧
      (State.copyNotices s b).px = s.px ∧ (State.copyNotices s b).flt = s.flt ∧ (State.copyNotices s b).sent = s.sent ∧
      (State.copyNotices s b).rcd = s.rcd ∧ (State.copyNotices s b).mgmt = s.mgmt := by simp [State.copyNotices]
@[simp] theorem State.dropFrames_frame (s : State) (b : Bus) :
    (State.dropFrames s b).now = s.now ∧ (State.dropFrames s b).ringOffset = s.ringOffset ∧ (State.dropFrames s b).pending = s.pending ∧
      (State.dropFrames s b).pm = s.pm ∧ (State.dropFrames s b).out = s.out ∧ (State.dropFrames s b).trngCount = s.trngCount ∧
      (State.dropFrames s b).ident = s.ident ∧ (State.dropFrames s b).supply = s.supply ∧ (State.dropFrames s b).md = s.md ∧
      (State.dropFrames s b).tm = s.tm ∧ (State.dropFrames s b).meas = s.meas ∧ (State.dropFrames s b).aux = s.aux ∧
      (State.dropFrames s b).itg = s.itg ∧ (State.dropFrames s b).bal = s.bal ∧ (State.dropFrames s b).hio = s.hio ∧
      (State.dropFrames s b).est = s.est ∧ (State.dropFrames s b).lp = s.lp ∧ (State.dropFrames s b).ring = s.ring ∧
      (State.dropFrames s b).px = s.px ∧ (State.dropFrames s b).flt = s.flt ∧ (State.dropFrames s b).sent = s.sent ∧
      (State.dropFrames s b).rcd = s.rcd ∧ (State.dropFrames s b).mgmt = s.mgmt := by simp [State.dropFrames]
@[simp] theorem State.startRecovery_frame (s : State) (b : Bus) :
    (State.startRecovery s b).now = s.now ∧ (State.startRecovery s b).ringOffset = s.ringOffset ∧
      (State.startRecovery s b).pending = s.pending ∧ (State.startRecovery s b).dict = s.dict ∧ (State.startRecovery s b).pm = s.pm ∧
      (State.startRecovery s b).out = s.out ∧ (State.startRecovery s b).trngCount = s.trngCount ∧
      (State.startRecovery s b).ident = s.ident ∧ (State.startRecovery s b).supply = s.supply ∧ (State.startRecovery s b).md = s.md ∧
      (State.startRecovery s b).tm = s.tm ∧ (State.startRecovery s b).meas = s.meas ∧ (State.startRecovery s b).aux = s.aux ∧
      (State.startRecovery s b).itg = s.itg ∧ (State.startRecovery s b).bal = s.bal ∧ (State.startRecovery s b).hio = s.hio ∧
      (State.startRecovery s b).est = s.est ∧ (State.startRecovery s b).lp = s.lp ∧ (State.startRecovery s b).ring = s.ring ∧
      (State.startRecovery s b).px = s.px ∧ (State.startRecovery s b).flt = s.flt ∧ (State.startRecovery s b).sent = s.sent ∧
      (State.startRecovery s b).rcd = s.rcd ∧ (State.startRecovery s b).mgmt = s.mgmt := by simp [State.startRecovery]
@[simp] theorem State.busEnableApply_frame (s : State) (b : Bus) (on : Bool) :
    (State.busEnableApply s b on).now = s.now ∧ (State.busEnableApply s b on).ringOffset = s.ringOffset ∧
      (State.busEnableApply s b on).pending = s.pending ∧ (State.busEnableApply s b on).pm = s.pm ∧
      (State.busEnableApply s b on).out = s.out ∧ (State.busEnableApply s b on).trngCount = s.trngCount ∧
      (State.busEnableApply s b on).ident = s.ident ∧ (State.busEnableApply s b on).supply = s.supply ∧
      (State.busEnableApply s b on).md = s.md ∧ (State.busEnableApply s b on).tm = s.tm ∧ (State.busEnableApply s b on).meas = s.meas ∧
      (State.busEnableApply s b on).aux = s.aux ∧ (State.busEnableApply s b on).itg = s.itg ∧ (State.busEnableApply s b on).bal = s.bal ∧
      (State.busEnableApply s b on).hio = s.hio ∧ (State.busEnableApply s b on).est = s.est ∧ (State.busEnableApply s b on).lp = s.lp ∧
      (State.busEnableApply s b on).ring = s.ring ∧ (State.busEnableApply s b on).px = s.px ∧ (State.busEnableApply s b on).sent = s.sent ∧
      (State.busEnableApply s b on).rcd = s.rcd ∧ (State.busEnableApply s b on).mgmt = s.mgmt := by simp [State.busEnableApply]
@[simp] theorem State.noteStatus_frame (s : State) (r : StatusRec) (bus : Bool) :
    (State.noteStatus s r bus).now = s.now ∧ (State.noteStatus s r bus).ringOffset = s.ringOffset ∧
      (State.noteStatus s r bus).pending = s.pending ∧ (State.noteStatus s r bus).pm = s.pm ∧
      (State.noteStatus s r bus).trngCount = s.trngCount ∧ (State.noteStatus s r bus).supply = s.supply ∧
      (State.noteStatus s r bus).md = s.md ∧ (State.noteStatus s r bus).tm = s.tm ∧ (State.noteStatus s r bus).meas = s.meas ∧
      (State.noteStatus s r bus).aux = s.aux ∧ (State.noteStatus s r bus).itg = s.itg ∧ (State.noteStatus s r bus).est = s.est ∧
      (State.noteStatus s r bus).lp = s.lp ∧ (State.noteStatus s r bus).px = s.px ∧ (State.noteStatus s r bus).flt = s.flt ∧
      (State.noteStatus s r bus).sent = s.sent ∧ (State.noteStatus s r bus).rcd = s.rcd ∧
      (State.noteStatus s r bus).mgmt = s.mgmt := by simp [State.noteStatus]
@[simp] theorem State.headHears_frame (s : State) (r : HeartbeatRec) :
    (State.headHears s r).now = s.now ∧ (State.headHears s r).ringOffset = s.ringOffset ∧ (State.headHears s r).pending = s.pending ∧
      (State.headHears s r).pm = s.pm ∧ (State.headHears s r).trngCount = s.trngCount ∧ (State.headHears s r).supply = s.supply ∧
      (State.headHears s r).aux = s.aux ∧ (State.headHears s r).itg = s.itg ∧ (State.headHears s r).est = s.est ∧
      (State.headHears s r).lp = s.lp ∧ (State.headHears s r).px = s.px ∧ (State.headHears s r).sent = s.sent := by simp [State.headHears]
@[simp] theorem State.hears_frame (s : State) (r : HeartbeatRec) :
    (State.hears s r).now = s.now ∧ (State.hears s r).ringOffset = s.ringOffset ∧ (State.hears s r).pending = s.pending ∧
      (State.hears s r).pm = s.pm ∧ (State.hears s r).trngCount = s.trngCount ∧ (State.hears s r).supply = s.supply ∧
      (State.hears s r).aux = s.aux ∧ (State.hears s r).itg = s.itg ∧ (State.hears s r).est = s.est ∧ (State.hears s r).lp = s.lp ∧
      (State.hears s r).px = s.px ∧ (State.hears s r).sent = s.sent := by simp [State.hears]
@[simp] theorem State.takeHeartbeat_frame (s : State) (r : HeartbeatRec) :
    (State.takeHeartbeat s r).now = s.now ∧ (State.takeHeartbeat s r).ringOffset = s.ringOffset ∧
      (State.takeHeartbeat s r).pending = s.pending ∧ (State.takeHeartbeat s r).pm = s.pm ∧
      (State.takeHeartbeat s r).trngCount = s.trngCount ∧ (State.takeHeartbeat s r).supply = s.supply ∧
      (State.takeHeartbeat s r).est = s.est ∧ (State.takeHeartbeat s r).lp = s.lp ∧ (State.takeHeartbeat s r).px = s.px ∧
      (State.takeHeartbeat s r).sent = s.sent := by simp [State.takeHeartbeat]
@[simp] theorem State.crossFollow_frame (s : State) :
    (State.crossFollow s).now = s.now ∧ (State.crossFollow s).ringOffset = s.ringOffset ∧ (State.crossFollow s).pending = s.pending ∧
      (State.crossFollow s).dict = s.dict ∧ (State.crossFollow s).pm = s.pm ∧ (State.crossFollow s).out = s.out ∧
      (State.crossFollow s).trngCount = s.trngCount ∧ (State.crossFollow s).ident = s.ident ∧ (State.crossFollow s).supply = s.supply ∧
      (State.crossFollow s).md = s.md ∧ (State.crossFollow s).tm = s.tm ∧ (State.crossFollow s).meas = s.meas ∧
      (State.crossFollow s).aux = s.aux ∧ (State.crossFollow s).itg = s.itg ∧ (State.crossFollow s).bal = s.bal ∧
      (State.crossFollow s).hio = s.hio ∧ (State.crossFollow s).est = s.est ∧ (State.crossFollow s).lp = s.lp ∧
      (State.crossFollow s).ring = s.ring ∧ (State.crossFollow s).can = s.can ∧ (State.crossFollow s).px = s.px ∧
      (State.crossFollow s).sent = s.sent ∧ (State.crossFollow s).rcd = s.rcd ∧ (State.crossFollow s).mgmt = s.mgmt := by
  unfold State.crossFollow
  refine ⟨?_, ?_, ?_, ?_, ?_, ?_, ?_, ?_, ?_, ?_, ?_, ?_, ?_, ?_, ?_, ?_, ?_, ?_, ?_, ?_, ?_, ?_, ?_, ?_⟩ <;> (repeat' split) <;> simp
@[simp] theorem State.railCheck_frame (s : State) (rails : List Rat) :
    (State.railCheck s rails).now = s.now ∧ (State.railCheck s rails).ringOffset = s.ringOffset ∧
      (State.railCheck s rails).pending = s.pending ∧ (State.railCheck s rails).dict = s.dict ∧ (State.railCheck s rails).pm = s.pm ∧
      (State.railCheck s rails).out = s.out ∧ (State.railCheck s rails).trngCount = s.trngCount ∧
      (State.railCheck s rails).ident = s.ident ∧ (State.railCheck s rails).supply = s.supply ∧ (State.railCheck s rails).md = s.md ∧
      (State.railCheck s rails).tm = s.tm ∧ (State.railCheck s rails).meas = s.meas ∧ (State.railCheck s rails).aux = s.aux ∧
      (State.railCheck s rails).itg = s.itg ∧ (State.railCheck s rails).bal = s.bal ∧ (State.railCheck s rails).hio = s.hio ∧
      (State.railCheck s rails).est = s.est ∧ (State.railCheck s rails).lp = s.lp ∧ (State.railCheck s rails).ring = s.ring ∧
      (State.railCheck s rails).can = s.can ∧ (State.railCheck s rails).px = s.px ∧ (State.railCheck s rails).sent = s.sent ∧
      (State.railCheck s rails).rcd = s.rcd := by simp [State.railCheck]
@[simp] theorem State.humidityCheck_frame (s : State) (rh : Rat) :
    (State.humidityCheck s rh).now = s.now ∧ (State.humidityCheck s rh).ringOffset = s.ringOffset ∧
      (State.humidityCheck s rh).pending = s.pending ∧ (State.humidityCheck s rh).pm = s.pm ∧
      (State.humidityCheck s rh).trngCount = s.trngCount ∧ (State.humidityCheck s rh).supply = s.supply ∧
      (State.humidityCheck s rh).aux = s.aux ∧ (State.humidityCheck s rh).itg = s.itg ∧ (State.humidityCheck s rh).est = s.est ∧
      (State.humidityCheck s rh).lp = s.lp ∧ (State.humidityCheck s rh).px = s.px ∧
      (State.humidityCheck s rh).sent = s.sent := by simp [State.humidityCheck]
@[simp] theorem State.gridCheck_frame (s : State) (g : Rat) :
    (State.gridCheck s g).now = s.now ∧ (State.gridCheck s g).ringOffset = s.ringOffset ∧ (State.gridCheck s g).pending = s.pending ∧
      (State.gridCheck s g).pm = s.pm ∧ (State.gridCheck s g).trngCount = s.trngCount ∧ (State.gridCheck s g).supply = s.supply ∧
      (State.gridCheck s g).aux = s.aux ∧ (State.gridCheck s g).itg = s.itg ∧ (State.gridCheck s g).est = s.est ∧
      (State.gridCheck s g).lp = s.lp ∧ (State.gridCheck s g).px = s.px ∧ (State.gridCheck s g).sent = s.sent := by simp [State.gridCheck]
@[simp] theorem State.dropChallenge_frame (s : State) (q : PxReq) :
    (State.dropChallenge s q).now = s.now ∧ (State.dropChallenge s q).ringOffset = s.ringOffset ∧
      (State.dropChallenge s q).pending = s.pending ∧ (State.dropChallenge s q).dict = s.dict ∧ (State.dropChallenge s q).pm = s.pm ∧
      (State.dropChallenge s q).out = s.out ∧ (State.dropChallenge s q).trngCount = s.trngCount ∧
      (State.dropChallenge s q).ident = s.ident ∧ (State.dropChallenge s q).supply = s.supply ∧ (State.dropChallenge s q).md = s.md ∧
      (State.dropChallenge s q).tm = s.tm ∧ (State.dropChallenge s q).meas = s.meas ∧ (State.dropChallenge s q).aux = s.aux ∧
      (State.dropChallenge s q).itg = s.itg ∧ (State.dropChallenge s q).bal = s.bal ∧ (State.dropChallenge s q).hio = s.hio ∧
      (State.dropChallenge s q).est = s.est ∧ (State.dropChallenge s q).lp = s.lp ∧ (State.dropChallenge s q).ring = s.ring ∧
      (State.dropChallenge s q).can = s.can ∧ (State.dropChallenge s q).px = s.px ∧ (State.dropChallenge s q).flt = s.flt ∧
      (State.dropChallenge s q).sent = s.sent ∧ (State.dropChallenge s q).rcd = s.rcd := by simp [State.dropChallenge]
@[simp] theorem State.newChallenge_frame (s : State) (q : PxReq) :
    (State.newChallenge s q).2.now = s.now ∧ (State.newChallenge s q).2.ringOffset = s.ringOffset ∧
      (State.newChallenge s q).2.pending = s.pending ∧ (State.newChallenge s q).2.dict = s.dict ∧ (State.newChallenge s q).2.pm = s.pm ∧
      (State.newChallenge s q).2.out = s.out ∧ (State.newChallenge s q).2.ident = s.ident ∧ (State.newChallenge s q).2.supply = s.supply ∧
      (State.newChallenge s q).2.md = s.md ∧ (State.newChallenge s q).2.tm = s.tm ∧ (State.newChallenge s q).2.meas = s.meas ∧
      (State.newChallenge s q).2.aux = s.aux ∧ (State.newChallenge s q).2.itg = s.itg ∧ (State.newChallenge s q).2.bal = s.bal ∧
      (State.newChallenge s q).2.hio = s.hio ∧ (State.newChallenge s q).2.est = s.est ∧ (State.newChallenge s q).2.lp = s.lp ∧
      (State.newChallenge s q).2.ring = s.ring ∧ (State.newChallenge s q).2.can = s.can ∧ (State.newChallenge s q).2.px = s.px ∧
      (State.newChallenge s q).2.flt = s.flt ∧ (State.newChallenge s q).2.sent = s.sent ∧
      (State.newChallenge s q).2.rcd = s.rcd := by simp [State.newChallenge]
@[simp] theorem State.setIdle_frame (s : State) (x : SlotSt) :
    (State.setIdle s x).now = s.now ∧ (State.setIdle s x).ringOffset = s.ringOffset ∧ (State.setIdle s x).pending = s.pending ∧
      (State.setIdle s x).dict = s.dict ∧ (State.setIdle s x).pm = s.pm ∧ (State.setIdle s x).out = s.out ∧
      (State.setIdle s x).trngCount = s.trngCount ∧ (State.setIdle s x).ident = s.ident ∧ (State.setIdle s x).supply = s.supply ∧
      (State.setIdle s x).md = s.md ∧ (State.setIdle s x).tm = s.tm ∧ (State.setIdle s x).meas = s.meas ∧ (State.setIdle s x).aux = s.aux ∧
      (State.setIdle s x).itg = s.itg ∧ (State.setIdle s x).bal = s.bal ∧ (State.setIdle s x).hio = s.hio ∧
      (State.setIdle s x).est = s.est ∧ (State.setIdle s x).lp = s.lp ∧ (State.setIdle s x).ring = s.ring ∧
      (State.setIdle s x).can = s.can ∧ (State.setIdle s x).px = s.px ∧ (State.setIdle s x).flt = s.flt ∧
      (State.setIdle s x).sent = s.sent ∧ (State.setIdle s x).rcd = s.rcd := by simp [State.setIdle]
@[simp] theorem State.setActive_frame (s : State) (x : SlotSt) :
    (State.setActive s x).now = s.now ∧ (State.setActive s x).ringOffset = s.ringOffset ∧ (State.setActive s x).pending = s.pending ∧
      (State.setActive s x).dict = s.dict ∧ (State.setActive s x).pm = s.pm ∧ (State.setActive s x).out = s.out ∧
      (State.setActive s x).trngCount = s.trngCount ∧ (State.setActive s x).ident = s.ident ∧ (State.setActive s x).supply = s.supply ∧
      (State.setActive s x).md = s.md ∧ (State.setActive s x).tm = s.tm ∧ (State.setActive s x).meas = s.meas ∧
      (State.setActive s x).aux = s.aux ∧ (State.setActive s x).itg = s.itg ∧ (State.setActive s x).bal = s.bal ∧
      (State.setActive s x).hio = s.hio ∧ (State.setActive s x).est = s.est ∧ (State.setActive s x).lp = s.lp ∧
      (State.setActive s x).ring = s.ring ∧ (State.setActive s x).can = s.can ∧ (State.setActive s x).px = s.px ∧
      (State.setActive s x).flt = s.flt ∧ (State.setActive s x).sent = s.sent ∧ (State.setActive s x).rcd = s.rcd := by simp [State.setActive]
@[simp] theorem State.rejectImage_frame (s : State) (code : Nat) :
    (State.rejectImage s code).now = s.now ∧ (State.rejectImage s code).ringOffset = s.ringOffset ∧
      (State.rejectImage s code).pending = s.pending ∧ (State.rejectImage s code).pm = s.pm ∧
      (State.rejectImage s code).trngCount = s.trngCount ∧ (State.rejectImage s code).supply = s.supply ∧
      (State.rejectImage s code).aux = s.aux ∧ (State.rejectImage s code).itg = s.itg ∧ (State.rejectImage s code).est = s.est ∧
      (State.rejectImage s code).lp = s.lp ∧ (State.rejectImage s code).px = s.px ∧
      (State.rejectImage s code).sent = s.sent := by simp [State.rejectImage]
@[simp] theorem State.discardUpdate_frame (s : State) :
    (State.discardUpdate s).now = s.now ∧ (State.discardUpdate s).ringOffset = s.ringOffset ∧ (State.discardUpdate s).pending = s.pending ∧
      (State.discardUpdate s).pm = s.pm ∧ (State.discardUpdate s).out = s.out ∧ (State.discardUpdate s).trngCount = s.trngCount ∧
      (State.discardUpdate s).ident = s.ident ∧ (State.discardUpdate s).supply = s.supply ∧ (State.discardUpdate s).md = s.md ∧
      (State.discardUpdate s).tm = s.tm ∧ (State.discardUpdate s).meas = s.meas ∧ (State.discardUpdate s).aux = s.aux ∧
      (State.discardUpdate s).itg = s.itg ∧ (State.discardUpdate s).bal = s.bal ∧ (State.discardUpdate s).hio = s.hio ∧
      (State.discardUpdate s).est = s.est ∧ (State.discardUpdate s).lp = s.lp ∧ (State.discardUpdate s).ring = s.ring ∧
      (State.discardUpdate s).can = s.can ∧ (State.discardUpdate s).px = s.px ∧ (State.discardUpdate s).flt = s.flt ∧
      (State.discardUpdate s).sent = s.sent ∧ (State.discardUpdate s).rcd = s.rcd := by simp [State.discardUpdate]
@[simp] theorem State.dropRwa_frame (s : State) :
    (State.dropRwa s).now = s.now ∧ (State.dropRwa s).ringOffset = s.ringOffset ∧ (State.dropRwa s).pending = s.pending ∧
      (State.dropRwa s).pm = s.pm ∧ (State.dropRwa s).out = s.out ∧ (State.dropRwa s).trngCount = s.trngCount ∧
      (State.dropRwa s).ident = s.ident ∧ (State.dropRwa s).supply = s.supply ∧ (State.dropRwa s).md = s.md ∧ (State.dropRwa s).tm = s.tm ∧
      (State.dropRwa s).meas = s.meas ∧ (State.dropRwa s).aux = s.aux ∧ (State.dropRwa s).itg = s.itg ∧ (State.dropRwa s).bal = s.bal ∧
      (State.dropRwa s).hio = s.hio ∧ (State.dropRwa s).est = s.est ∧ (State.dropRwa s).lp = s.lp ∧ (State.dropRwa s).ring = s.ring ∧
      (State.dropRwa s).can = s.can ∧ (State.dropRwa s).px = s.px ∧ (State.dropRwa s).flt = s.flt ∧ (State.dropRwa s).sent = s.sent ∧
      (State.dropRwa s).rcd = s.rcd ∧ (State.dropRwa s).mgmt = s.mgmt := by simp [State.dropRwa]
@[simp] theorem State.calSolve_frame (s : State) :
    (State.calSolve s).now = s.now ∧ (State.calSolve s).ringOffset = s.ringOffset ∧ (State.calSolve s).pending = s.pending ∧
      (State.calSolve s).pm = s.pm ∧ (State.calSolve s).out = s.out ∧ (State.calSolve s).trngCount = s.trngCount ∧
      (State.calSolve s).ident = s.ident ∧ (State.calSolve s).supply = s.supply ∧ (State.calSolve s).md = s.md ∧
      (State.calSolve s).tm = s.tm ∧ (State.calSolve s).meas = s.meas ∧ (State.calSolve s).aux = s.aux ∧ (State.calSolve s).itg = s.itg ∧
      (State.calSolve s).bal = s.bal ∧ (State.calSolve s).hio = s.hio ∧ (State.calSolve s).est = s.est ∧ (State.calSolve s).lp = s.lp ∧
      (State.calSolve s).ring = s.ring ∧ (State.calSolve s).can = s.can ∧ (State.calSolve s).px = s.px ∧ (State.calSolve s).flt = s.flt ∧
      (State.calSolve s).sent = s.sent ∧ (State.calSolve s).rcd = s.rcd := by simp [State.calSolve]
@[simp] theorem State.paramStore_frame (s : State) (o : ObjDef) (i j : Nat) (d : Bytes) :
    (State.paramStore s o i j d).now = s.now ∧ (State.paramStore s o i j d).ringOffset = s.ringOffset ∧
      (State.paramStore s o i j d).pending = s.pending ∧ (State.paramStore s o i j d).dict = s.dict ∧
      (State.paramStore s o i j d).out = s.out ∧ (State.paramStore s o i j d).trngCount = s.trngCount ∧
      (State.paramStore s o i j d).ident = s.ident ∧ (State.paramStore s o i j d).supply = s.supply ∧
      (State.paramStore s o i j d).md = s.md ∧ (State.paramStore s o i j d).tm = s.tm ∧ (State.paramStore s o i j d).meas = s.meas ∧
      (State.paramStore s o i j d).aux = s.aux ∧ (State.paramStore s o i j d).itg = s.itg ∧ (State.paramStore s o i j d).bal = s.bal ∧
      (State.paramStore s o i j d).hio = s.hio ∧ (State.paramStore s o i j d).est = s.est ∧ (State.paramStore s o i j d).lp = s.lp ∧
      (State.paramStore s o i j d).ring = s.ring ∧ (State.paramStore s o i j d).can = s.can ∧ (State.paramStore s o i j d).px = s.px ∧
      (State.paramStore s o i j d).flt = s.flt ∧ (State.paramStore s o i j d).sent = s.sent ∧ (State.paramStore s o i j d).rcd = s.rcd ∧
      (State.paramStore s o i j d).mgmt = s.mgmt := by
  unfold State.paramStore
  refine ⟨?_, ?_, ?_, ?_, ?_, ?_, ?_, ?_, ?_, ?_, ?_, ?_, ?_, ?_, ?_, ?_, ?_, ?_, ?_, ?_, ?_, ?_, ?_, ?_⟩ <;> (repeat' split) <;> simp
@[simp] theorem State.paramVersion_frame (s : State) :
    (State.paramVersion s).now = s.now ∧ (State.paramVersion s).ringOffset = s.ringOffset ∧ (State.paramVersion s).pending = s.pending ∧
      (State.paramVersion s).out = s.out ∧ (State.paramVersion s).trngCount = s.trngCount ∧ (State.paramVersion s).ident = s.ident ∧
      (State.paramVersion s).supply = s.supply ∧ (State.paramVersion s).md = s.md ∧ (State.paramVersion s).tm = s.tm ∧
      (State.paramVersion s).meas = s.meas ∧ (State.paramVersion s).aux = s.aux ∧ (State.paramVersion s).itg = s.itg ∧
      (State.paramVersion s).bal = s.bal ∧ (State.paramVersion s).hio = s.hio ∧ (State.paramVersion s).est = s.est ∧
      (State.paramVersion s).lp = s.lp ∧ (State.paramVersion s).ring = s.ring ∧ (State.paramVersion s).can = s.can ∧
      (State.paramVersion s).px = s.px ∧ (State.paramVersion s).flt = s.flt ∧ (State.paramVersion s).sent = s.sent ∧
      (State.paramVersion s).rcd = s.rcd ∧ (State.paramVersion s).mgmt = s.mgmt := by simp [State.paramVersion]
@[simp] theorem State.finishJobs_frame (s : State) :
    (State.finishJobs s).now = s.now ∧ (State.finishJobs s).ringOffset = s.ringOffset ∧ (State.finishJobs s).pending = s.pending ∧
      (State.finishJobs s).out = s.out ∧ (State.finishJobs s).trngCount = s.trngCount ∧ (State.finishJobs s).ident = s.ident ∧
      (State.finishJobs s).supply = s.supply ∧ (State.finishJobs s).md = s.md ∧ (State.finishJobs s).tm = s.tm ∧
      (State.finishJobs s).meas = s.meas ∧ (State.finishJobs s).aux = s.aux ∧ (State.finishJobs s).itg = s.itg ∧
      (State.finishJobs s).bal = s.bal ∧ (State.finishJobs s).hio = s.hio ∧ (State.finishJobs s).lp = s.lp ∧
      (State.finishJobs s).ring = s.ring ∧ (State.finishJobs s).can = s.can ∧ (State.finishJobs s).px = s.px ∧
      (State.finishJobs s).flt = s.flt ∧ (State.finishJobs s).sent = s.sent ∧ (State.finishJobs s).mgmt = s.mgmt := by simp [State.finishJobs]
@[simp] theorem State.fastRound_frame (s : State) :
    (State.fastRound s).now = s.now ∧ (State.fastRound s).ringOffset = s.ringOffset ∧ (State.fastRound s).pending = s.pending ∧
      (State.fastRound s).dict = s.dict ∧ (State.fastRound s).pm = s.pm ∧ (State.fastRound s).out = s.out ∧
      (State.fastRound s).trngCount = s.trngCount ∧ (State.fastRound s).ident = s.ident ∧ (State.fastRound s).supply = s.supply ∧
      (State.fastRound s).md = s.md ∧ (State.fastRound s).tm = s.tm ∧ (State.fastRound s).meas = s.meas ∧ (State.fastRound s).aux = s.aux ∧
      (State.fastRound s).bal = s.bal ∧ (State.fastRound s).hio = s.hio ∧ (State.fastRound s).est = s.est ∧ (State.fastRound s).lp = s.lp ∧
      (State.fastRound s).ring = s.ring ∧ (State.fastRound s).can = s.can ∧ (State.fastRound s).px = s.px ∧
      (State.fastRound s).flt = s.flt ∧ (State.fastRound s).sent = s.sent ∧ (State.fastRound s).rcd = s.rcd ∧
      (State.fastRound s).mgmt = s.mgmt := by simp [State.fastRound]
@[simp] theorem State.leaveMaint_frame (s : State) :
    (State.leaveMaint s).now = s.now ∧ (State.leaveMaint s).ringOffset = s.ringOffset ∧ (State.leaveMaint s).pending = s.pending ∧
      (State.leaveMaint s).pm = s.pm ∧ (State.leaveMaint s).out = s.out ∧ (State.leaveMaint s).trngCount = s.trngCount ∧
      (State.leaveMaint s).ident = s.ident ∧ (State.leaveMaint s).supply = s.supply ∧ (State.leaveMaint s).tm = s.tm ∧
      (State.leaveMaint s).aux = s.aux ∧ (State.leaveMaint s).hio = s.hio ∧ (State.leaveMaint s).est = s.est ∧
      (State.leaveMaint s).lp = s.lp ∧ (State.leaveMaint s).ring = s.ring ∧ (State.leaveMaint s).can = s.can ∧
      (State.leaveMaint s).px = s.px ∧ (State.leaveMaint s).flt = s.flt ∧ (State.leaveMaint s).sent = s.sent := by simp [State.leaveMaint]
@[simp] theorem State.clearCarry_frame (s : State) :
    (State.clearCarry s).now = s.now ∧ (State.clearCarry s).ringOffset = s.ringOffset ∧ (State.clearCarry s).pending = s.pending ∧
      (State.clearCarry s).dict = s.dict ∧ (State.clearCarry s).pm = s.pm ∧ (State.clearCarry s).out = s.out ∧
      (State.clearCarry s).trngCount = s.trngCount ∧ (State.clearCarry s).ident = s.ident ∧ (State.clearCarry s).supply = s.supply ∧
      (State.clearCarry s).tm = s.tm ∧ (State.clearCarry s).meas = s.meas ∧ (State.clearCarry s).aux = s.aux ∧
      (State.clearCarry s).itg = s.itg ∧ (State.clearCarry s).bal = s.bal ∧ (State.clearCarry s).hio = s.hio ∧
      (State.clearCarry s).est = s.est ∧ (State.clearCarry s).lp = s.lp ∧ (State.clearCarry s).ring = s.ring ∧
      (State.clearCarry s).can = s.can ∧ (State.clearCarry s).px = s.px ∧ (State.clearCarry s).sent = s.sent ∧
      (State.clearCarry s).mgmt = s.mgmt := by
  simp only [State.clearCarry]
  refine ⟨?_, ?_, ?_, ?_, ?_, ?_, ?_, ?_, ?_, ?_, ?_, ?_, ?_, ?_, ?_, ?_, ?_, ?_, ?_, ?_, ?_, ?_⟩ <;> (repeat' split) <;> simp
@[simp] theorem State.enterKeepalive_frame (s : State) (byWake : Bool) :
    (State.enterKeepalive s byWake).now = s.now ∧ (State.enterKeepalive s byWake).ringOffset = s.ringOffset ∧
      (State.enterKeepalive s byWake).pending = s.pending ∧ (State.enterKeepalive s byWake).dict = s.dict ∧
      (State.enterKeepalive s byWake).pm = s.pm ∧ (State.enterKeepalive s byWake).out = s.out ∧
      (State.enterKeepalive s byWake).trngCount = s.trngCount ∧ (State.enterKeepalive s byWake).ident = s.ident ∧
      (State.enterKeepalive s byWake).supply = s.supply ∧ (State.enterKeepalive s byWake).tm = s.tm ∧
      (State.enterKeepalive s byWake).meas = s.meas ∧ (State.enterKeepalive s byWake).aux = s.aux ∧
      (State.enterKeepalive s byWake).itg = s.itg ∧ (State.enterKeepalive s byWake).bal = s.bal ∧
      (State.enterKeepalive s byWake).hio = s.hio ∧ (State.enterKeepalive s byWake).lp = s.lp ∧
      (State.enterKeepalive s byWake).ring = s.ring ∧ (State.enterKeepalive s byWake).can = s.can ∧
      (State.enterKeepalive s byWake).px = s.px ∧ (State.enterKeepalive s byWake).flt = s.flt ∧
      (State.enterKeepalive s byWake).sent = s.sent ∧ (State.enterKeepalive s byWake).rcd = s.rcd ∧
      (State.enterKeepalive s byWake).mgmt = s.mgmt := by simp [State.enterKeepalive]
@[simp] theorem State.wakeAux_frame (s : State) :
    (State.wakeAux s).now = s.now ∧ (State.wakeAux s).ringOffset = s.ringOffset ∧ (State.wakeAux s).pending = s.pending ∧
      (State.wakeAux s).pm = s.pm ∧ (State.wakeAux s).out = s.out ∧ (State.wakeAux s).trngCount = s.trngCount ∧
      (State.wakeAux s).ident = s.ident ∧ (State.wakeAux s).supply = s.supply ∧ (State.wakeAux s).tm = s.tm ∧
      (State.wakeAux s).meas = s.meas ∧ (State.wakeAux s).aux = s.aux ∧ (State.wakeAux s).itg = s.itg ∧ (State.wakeAux s).bal = s.bal ∧
      (State.wakeAux s).hio = s.hio ∧ (State.wakeAux s).est = s.est ∧ (State.wakeAux s).lp = s.lp ∧ (State.wakeAux s).ring = s.ring ∧
      (State.wakeAux s).can = s.can ∧ (State.wakeAux s).px = s.px ∧ (State.wakeAux s).flt = s.flt ∧ (State.wakeAux s).sent = s.sent ∧
      (State.wakeAux s).rcd = s.rcd ∧ (State.wakeAux s).mgmt = s.mgmt := by simp [State.wakeAux]
@[simp] theorem State.cancelHoldup_frame (s : State) :
    (State.cancelHoldup s).now = s.now ∧ (State.cancelHoldup s).ringOffset = s.ringOffset ∧ (State.cancelHoldup s).pending = s.pending ∧
      (State.cancelHoldup s).pm = s.pm ∧ (State.cancelHoldup s).out = s.out ∧ (State.cancelHoldup s).trngCount = s.trngCount ∧
      (State.cancelHoldup s).aux = s.aux ∧ (State.cancelHoldup s).itg = s.itg ∧ (State.cancelHoldup s).est = s.est ∧
      (State.cancelHoldup s).lp = s.lp ∧ (State.cancelHoldup s).can = s.can ∧ (State.cancelHoldup s).px = s.px := by simp [State.cancelHoldup]
@[simp] theorem State.shedLoads_frame (s : State) :
    (State.shedLoads s).now = s.now ∧ (State.shedLoads s).ringOffset = s.ringOffset ∧ (State.shedLoads s).pending = s.pending ∧
      (State.shedLoads s).pm = s.pm ∧ (State.shedLoads s).out = s.out ∧ (State.shedLoads s).trngCount = s.trngCount ∧
      (State.shedLoads s).ident = s.ident ∧ (State.shedLoads s).md = s.md ∧ (State.shedLoads s).tm = s.tm ∧
      (State.shedLoads s).meas = s.meas ∧ (State.shedLoads s).aux = s.aux ∧ (State.shedLoads s).itg = s.itg ∧
      (State.shedLoads s).est = s.est ∧ (State.shedLoads s).lp = s.lp ∧ (State.shedLoads s).ring = s.ring ∧
      (State.shedLoads s).can = s.can ∧ (State.shedLoads s).px = s.px ∧ (State.shedLoads s).flt = s.flt ∧ (State.shedLoads s).rcd = s.rcd ∧
      (State.shedLoads s).mgmt = s.mgmt := by simp [State.shedLoads]
@[simp] theorem State.holdupWrite_now (s : State) (go : State → State) (h : ∀ x, (go x).now = x.now) :
    (s.holdupWrite go).now = s.now := by simp [State.holdupWrite, h]
@[simp] theorem State.holdupWrite_ringOffset (s : State) (go : State → State) (h : ∀ x, (go x).ringOffset = x.ringOffset) :
    (s.holdupWrite go).ringOffset = s.ringOffset := by simp [State.holdupWrite, h]
@[simp] theorem State.holdupWrite_pending (s : State) (go : State → State) (h : ∀ x, (go x).pending = x.pending) :
    (s.holdupWrite go).pending = s.pending := by simp [State.holdupWrite, h]
@[simp] theorem State.holdupWrite_dict (s : State) (go : State → State) (h : ∀ x, (go x).dict = x.dict) :
    (s.holdupWrite go).dict = s.dict := by simp [State.holdupWrite, h]
@[simp] theorem State.holdupWrite_pm (s : State) (go : State → State) (h : ∀ x, (go x).pm = x.pm) :
    (s.holdupWrite go).pm = s.pm := by simp [State.holdupWrite, h]
@[simp] theorem State.holdupWrite_out (s : State) (go : State → State) (h : ∀ x, (go x).out = x.out) :
    (s.holdupWrite go).out = s.out := by simp [State.holdupWrite, h]
@[simp] theorem State.holdupWrite_trngCount (s : State) (go : State → State) (h : ∀ x, (go x).trngCount = x.trngCount) :
    (s.holdupWrite go).trngCount = s.trngCount := by simp [State.holdupWrite, h]
@[simp] theorem State.holdupWrite_ident (s : State) (go : State → State) (h : ∀ x, (go x).ident = x.ident) :
    (s.holdupWrite go).ident = s.ident := by simp [State.holdupWrite, h]
@[simp] theorem State.holdupWrite_supply (s : State) (go : State → State) (h : ∀ x, (go x).supply = x.supply) :
    (s.holdupWrite go).supply = s.supply := by simp [State.holdupWrite, h]
@[simp] theorem State.holdupWrite_md (s : State) (go : State → State) (h : ∀ x, (go x).md = x.md) :
    (s.holdupWrite go).md = s.md := by simp [State.holdupWrite, h]
@[simp] theorem State.holdupWrite_tm (s : State) (go : State → State) (h : ∀ x, (go x).tm = x.tm) :
    (s.holdupWrite go).tm = s.tm := by simp [State.holdupWrite, h]
@[simp] theorem State.holdupWrite_meas (s : State) (go : State → State) (h : ∀ x, (go x).meas = x.meas) :
    (s.holdupWrite go).meas = s.meas := by simp [State.holdupWrite, h]
@[simp] theorem State.holdupWrite_aux (s : State) (go : State → State) (h : ∀ x, (go x).aux = x.aux) :
    (s.holdupWrite go).aux = s.aux := by simp [State.holdupWrite, h]
@[simp] theorem State.holdupWrite_itg (s : State) (go : State → State) (h : ∀ x, (go x).itg = x.itg) :
    (s.holdupWrite go).itg = s.itg := by simp [State.holdupWrite, h]
@[simp] theorem State.holdupWrite_bal (s : State) (go : State → State) (h : ∀ x, (go x).bal = x.bal) :
    (s.holdupWrite go).bal = s.bal := by simp [State.holdupWrite, h]
@[simp] theorem State.holdupWrite_hio (s : State) (go : State → State) (h : ∀ x, (go x).hio = x.hio) :
    (s.holdupWrite go).hio = s.hio := by simp [State.holdupWrite, h]
@[simp] theorem State.holdupWrite_est (s : State) (go : State → State) (h : ∀ x, (go x).est = x.est) :
    (s.holdupWrite go).est = s.est := by simp [State.holdupWrite, h]
@[simp] theorem State.holdupWrite_lp (s : State) (go : State → State) (h : ∀ x, (go x).lp = x.lp) :
    (s.holdupWrite go).lp = s.lp := by simp [State.holdupWrite, h]
@[simp] theorem State.holdupWrite_ring (s : State) (go : State → State) (h : ∀ x, (go x).ring = x.ring) :
    (s.holdupWrite go).ring = s.ring := by simp [State.holdupWrite, h]
@[simp] theorem State.holdupWrite_can (s : State) (go : State → State) (h : ∀ x, (go x).can = x.can) :
    (s.holdupWrite go).can = s.can := by simp [State.holdupWrite, h]
@[simp] theorem State.holdupWrite_px (s : State) (go : State → State) (h : ∀ x, (go x).px = x.px) :
    (s.holdupWrite go).px = s.px := by simp [State.holdupWrite, h]
@[simp] theorem State.holdupWrite_flt (s : State) (go : State → State) (h : ∀ x, (go x).flt = x.flt) :
    (s.holdupWrite go).flt = s.flt := by simp [State.holdupWrite, h]
@[simp] theorem State.holdupWrite_sent (s : State) (go : State → State) (h : ∀ x, (go x).sent = x.sent) :
    (s.holdupWrite go).sent = s.sent := by simp [State.holdupWrite, h]
@[simp] theorem State.holdupWrite_mgmt (s : State) (go : State → State) (h : ∀ x, (go x).mgmt = x.mgmt) :
    (s.holdupWrite go).mgmt = s.mgmt := by simp [State.holdupWrite, h]
@[simp] theorem State.holdupDay_frame (s : State) :
    (State.holdupDay s).now = s.now ∧ (State.holdupDay s).ringOffset = s.ringOffset ∧ (State.holdupDay s).pending = s.pending ∧
      (State.holdupDay s).dict = s.dict ∧ (State.holdupDay s).pm = s.pm ∧ (State.holdupDay s).out = s.out ∧
      (State.holdupDay s).trngCount = s.trngCount ∧ (State.holdupDay s).ident = s.ident ∧ (State.holdupDay s).supply = s.supply ∧
      (State.holdupDay s).md = s.md ∧ (State.holdupDay s).tm = s.tm ∧ (State.holdupDay s).meas = s.meas ∧ (State.holdupDay s).aux = s.aux ∧
      (State.holdupDay s).itg = s.itg ∧ (State.holdupDay s).bal = s.bal ∧ (State.holdupDay s).hio = s.hio ∧
      (State.holdupDay s).est = s.est ∧ (State.holdupDay s).lp = s.lp ∧ (State.holdupDay s).ring = s.ring ∧
      (State.holdupDay s).can = s.can ∧ (State.holdupDay s).px = s.px ∧ (State.holdupDay s).flt = s.flt ∧
      (State.holdupDay s).sent = s.sent ∧ (State.holdupDay s).mgmt = s.mgmt := by
  unfold State.holdupDay
  refine ⟨?_, ?_, ?_, ?_, ?_, ?_, ?_, ?_, ?_, ?_, ?_, ?_, ?_, ?_, ?_, ?_, ?_, ?_, ?_, ?_, ?_, ?_, ?_, ?_⟩ <;> (repeat' split) <;> simp
@[simp] theorem State.holdupWrites_frame (s : State) :
    (State.holdupWrites s).now = s.now ∧ (State.holdupWrites s).ringOffset = s.ringOffset ∧ (State.holdupWrites s).pending = s.pending ∧
      (State.holdupWrites s).pm = s.pm ∧ (State.holdupWrites s).out = s.out ∧ (State.holdupWrites s).trngCount = s.trngCount ∧
      (State.holdupWrites s).ident = s.ident ∧ (State.holdupWrites s).supply = s.supply ∧ (State.holdupWrites s).md = s.md ∧
      (State.holdupWrites s).tm = s.tm ∧ (State.holdupWrites s).meas = s.meas ∧ (State.holdupWrites s).aux = s.aux ∧
      (State.holdupWrites s).itg = s.itg ∧ (State.holdupWrites s).bal = s.bal ∧ (State.holdupWrites s).hio = s.hio ∧
      (State.holdupWrites s).lp = s.lp ∧ (State.holdupWrites s).ring = s.ring ∧ (State.holdupWrites s).can = s.can ∧
      (State.holdupWrites s).px = s.px ∧ (State.holdupWrites s).flt = s.flt ∧ (State.holdupWrites s).sent = s.sent ∧
      (State.holdupWrites s).mgmt = s.mgmt := by simp [State.holdupWrites]
@[simp] theorem State.holdupNotices_frame (s : State) :
    (State.holdupNotices s).now = s.now ∧ (State.holdupNotices s).ringOffset = s.ringOffset ∧ (State.holdupNotices s).pending = s.pending ∧
      (State.holdupNotices s).pm = s.pm ∧ (State.holdupNotices s).trngCount = s.trngCount ∧ (State.holdupNotices s).ident = s.ident ∧
      (State.holdupNotices s).supply = s.supply ∧ (State.holdupNotices s).tm = s.tm ∧ (State.holdupNotices s).meas = s.meas ∧
      (State.holdupNotices s).aux = s.aux ∧ (State.holdupNotices s).itg = s.itg ∧ (State.holdupNotices s).bal = s.bal ∧
      (State.holdupNotices s).hio = s.hio ∧ (State.holdupNotices s).est = s.est ∧ (State.holdupNotices s).lp = s.lp ∧
      (State.holdupNotices s).px = s.px ∧ (State.holdupNotices s).flt = s.flt ∧ (State.holdupNotices s).sent = s.sent ∧
      (State.holdupNotices s).rcd = s.rcd ∧ (State.holdupNotices s).mgmt = s.mgmt := by simp [State.holdupNotices]
@[simp] theorem State.commsOff_frame (s : State) :
    (State.commsOff s).now = s.now ∧ (State.commsOff s).ringOffset = s.ringOffset ∧ (State.commsOff s).pending = s.pending ∧
      (State.commsOff s).dict = s.dict ∧ (State.commsOff s).pm = s.pm ∧ (State.commsOff s).out = s.out ∧
      (State.commsOff s).trngCount = s.trngCount ∧ (State.commsOff s).ident = s.ident ∧ (State.commsOff s).supply = s.supply ∧
      (State.commsOff s).md = s.md ∧ (State.commsOff s).tm = s.tm ∧ (State.commsOff s).meas = s.meas ∧ (State.commsOff s).aux = s.aux ∧
      (State.commsOff s).itg = s.itg ∧ (State.commsOff s).bal = s.bal ∧ (State.commsOff s).hio = s.hio ∧ (State.commsOff s).est = s.est ∧
      (State.commsOff s).lp = s.lp ∧ (State.commsOff s).flt = s.flt ∧ (State.commsOff s).sent = s.sent ∧
      (State.commsOff s).rcd = s.rcd := by simp [State.commsOff]
@[simp] theorem State.hotspot_frame (s : State) (h : Rat) (die board : Nat) :
    (State.hotspot s h die board).now = s.now ∧ (State.hotspot s h die board).ringOffset = s.ringOffset ∧
      (State.hotspot s h die board).pending = s.pending ∧ (State.hotspot s h die board).pm = s.pm ∧
      (State.hotspot s h die board).trngCount = s.trngCount ∧ (State.hotspot s h die board).supply = s.supply ∧
      (State.hotspot s h die board).aux = s.aux ∧ (State.hotspot s h die board).itg = s.itg ∧ (State.hotspot s h die board).est = s.est ∧
      (State.hotspot s h die board).lp = s.lp ∧ (State.hotspot s h die board).px = s.px ∧
      (State.hotspot s h die board).sent = s.sent := by simp [State.hotspot]
@[simp] theorem State.trialPass_frame (s : State) :
    (State.trialPass s).now = s.now ∧ (State.trialPass s).ringOffset = s.ringOffset ∧ (State.trialPass s).pending = s.pending ∧
      (State.trialPass s).pm = s.pm ∧ (State.trialPass s).out = s.out ∧ (State.trialPass s).trngCount = s.trngCount ∧
      (State.trialPass s).ident = s.ident ∧ (State.trialPass s).supply = s.supply ∧ (State.trialPass s).md = s.md ∧
      (State.trialPass s).tm = s.tm ∧ (State.trialPass s).meas = s.meas ∧ (State.trialPass s).aux = s.aux ∧
      (State.trialPass s).itg = s.itg ∧ (State.trialPass s).bal = s.bal ∧ (State.trialPass s).hio = s.hio ∧
      (State.trialPass s).est = s.est ∧ (State.trialPass s).lp = s.lp ∧ (State.trialPass s).ring = s.ring ∧
      (State.trialPass s).can = s.can ∧ (State.trialPass s).px = s.px ∧ (State.trialPass s).flt = s.flt ∧
      (State.trialPass s).sent = s.sent ∧ (State.trialPass s).rcd = s.rcd := by simp [State.trialPass]
@[simp] theorem State.released_frame (s : State) (r : StartRec) :
    (State.released s r).now = s.now ∧ (State.released s r).pending = s.pending ∧ (State.released s r).pm = s.pm ∧
      (State.released s r).out = s.out ∧ (State.released s r).trngCount = s.trngCount := by simp [State.released]
@[simp] theorem State.busesListen_frame (s : State) :
    (State.busesListen s).now = s.now ∧ (State.busesListen s).ringOffset = s.ringOffset ∧ (State.busesListen s).pending = s.pending ∧
      (State.busesListen s).dict = s.dict ∧ (State.busesListen s).pm = s.pm ∧ (State.busesListen s).out = s.out ∧
      (State.busesListen s).trngCount = s.trngCount ∧ (State.busesListen s).ident = s.ident ∧ (State.busesListen s).supply = s.supply ∧
      (State.busesListen s).md = s.md ∧ (State.busesListen s).tm = s.tm ∧ (State.busesListen s).meas = s.meas ∧
      (State.busesListen s).aux = s.aux ∧ (State.busesListen s).itg = s.itg ∧ (State.busesListen s).bal = s.bal ∧
      (State.busesListen s).hio = s.hio ∧ (State.busesListen s).est = s.est ∧ (State.busesListen s).lp = s.lp ∧
      (State.busesListen s).ring = s.ring ∧ (State.busesListen s).px = s.px ∧ (State.busesListen s).flt = s.flt ∧
      (State.busesListen s).sent = s.sent ∧ (State.busesListen s).rcd = s.rcd ∧ (State.busesListen s).mgmt = s.mgmt := by simp [State.busesListen]
@[simp] theorem State.readCapacity_frame (s : State) :
    (State.readCapacity s).now = s.now ∧ (State.readCapacity s).ringOffset = s.ringOffset ∧ (State.readCapacity s).pending = s.pending ∧
      (State.readCapacity s).pm = s.pm ∧ (State.readCapacity s).trngCount = s.trngCount ∧ (State.readCapacity s).supply = s.supply ∧
      (State.readCapacity s).aux = s.aux ∧ (State.readCapacity s).itg = s.itg ∧ (State.readCapacity s).lp = s.lp ∧
      (State.readCapacity s).px = s.px ∧ (State.readCapacity s).sent = s.sent := by
  unfold State.readCapacity
  refine ⟨?_, ?_, ?_, ?_, ?_, ?_, ?_, ?_, ?_, ?_, ?_⟩ <;> (repeat' split) <;> simp
@[simp] theorem State.readCarried_frame (s : State) :
    (State.readCarried s).now = s.now ∧ (State.readCarried s).ringOffset = s.ringOffset ∧ (State.readCarried s).pending = s.pending ∧
      (State.readCarried s).dict = s.dict ∧ (State.readCarried s).pm = s.pm ∧ (State.readCarried s).out = s.out ∧
      (State.readCarried s).trngCount = s.trngCount ∧ (State.readCarried s).ident = s.ident ∧ (State.readCarried s).supply = s.supply ∧
      (State.readCarried s).tm = s.tm ∧ (State.readCarried s).meas = s.meas ∧ (State.readCarried s).aux = s.aux ∧
      (State.readCarried s).itg = s.itg ∧ (State.readCarried s).bal = s.bal ∧ (State.readCarried s).hio = s.hio ∧
      (State.readCarried s).est = s.est ∧ (State.readCarried s).lp = s.lp ∧ (State.readCarried s).ring = s.ring ∧
      (State.readCarried s).can = s.can ∧ (State.readCarried s).px = s.px ∧ (State.readCarried s).sent = s.sent ∧
      (State.readCarried s).mgmt = s.mgmt := by
  unfold State.readCarried
  refine ⟨?_, ?_, ?_, ?_, ?_, ?_, ?_, ?_, ?_, ?_, ?_, ?_, ?_, ?_, ?_, ?_, ?_, ?_, ?_, ?_, ?_, ?_⟩ <;> (repeat' split) <;> simp
@[simp] theorem State.readPack_frame (s : State) :
    (State.readPack s).now = s.now ∧ (State.readPack s).ringOffset = s.ringOffset ∧ (State.readPack s).pending = s.pending ∧
      (State.readPack s).trngCount = s.trngCount ∧ (State.readPack s).supply = s.supply ∧ (State.readPack s).aux = s.aux ∧
      (State.readPack s).itg = s.itg ∧ (State.readPack s).lp = s.lp ∧ (State.readPack s).px = s.px ∧ (State.readPack s).sent = s.sent := by
  simp only [State.readPack]
  refine ⟨?_, ?_, ?_, ?_, ?_, ?_, ?_, ?_, ?_, ?_⟩ <;> (repeat' split) <;> simp
@[simp] theorem State.startSources_frame (s : State) (r : StartRec) :
    (State.startSources s r).now = s.now ∧ (State.startSources s r).ringOffset = s.ringOffset ∧
      (State.startSources s r).pending = s.pending ∧ (State.startSources s r).pm = s.pm ∧
      (State.startSources s r).trngCount = s.trngCount ∧ (State.startSources s r).supply = s.supply ∧
      (State.startSources s r).aux = s.aux ∧ (State.startSources s r).itg = s.itg ∧ (State.startSources s r).est = s.est ∧
      (State.startSources s r).lp = s.lp ∧ (State.startSources s r).px = s.px ∧ (State.startSources s r).sent = s.sent := by simp [State.startSources]
@[simp] theorem State.startSteps_frame (s : State) (r : StartRec) (srcs : List Nat) :
    (State.startSteps s r srcs).now = s.now ∧ (State.startSteps s r srcs).pending = s.pending ∧
      (State.startSteps s r srcs).trngCount = s.trngCount := by simp [State.startSteps]
@[simp] theorem State.handKa_frame (s : State) :
    (State.handKa s).now = s.now ∧ (State.handKa s).ringOffset = s.ringOffset ∧ (State.handKa s).pending = s.pending ∧
      (State.handKa s).pm = s.pm ∧ (State.handKa s).out = s.out ∧ (State.handKa s).trngCount = s.trngCount ∧
      (State.handKa s).ident = s.ident ∧ (State.handKa s).supply = s.supply ∧ (State.handKa s).tm = s.tm ∧ (State.handKa s).meas = s.meas ∧
      (State.handKa s).aux = s.aux ∧ (State.handKa s).itg = s.itg ∧ (State.handKa s).bal = s.bal ∧ (State.handKa s).hio = s.hio ∧
      (State.handKa s).est = s.est ∧ (State.handKa s).lp = s.lp ∧ (State.handKa s).ring = s.ring ∧ (State.handKa s).can = s.can ∧
      (State.handKa s).px = s.px ∧ (State.handKa s).flt = s.flt ∧ (State.handKa s).sent = s.sent ∧ (State.handKa s).mgmt = s.mgmt := by
  unfold State.handKa
  refine ⟨?_, ?_, ?_, ?_, ?_, ?_, ?_, ?_, ?_, ?_, ?_, ?_, ?_, ?_, ?_, ?_, ?_, ?_, ?_, ?_, ?_, ?_⟩ <;> (repeat' split) <;> simp
@[simp] theorem State.startEpisodes_frame (s : State) :
    (State.startEpisodes s).now = s.now ∧ (State.startEpisodes s).ringOffset = s.ringOffset ∧ (State.startEpisodes s).pending = s.pending ∧
      (State.startEpisodes s).pm = s.pm ∧ (State.startEpisodes s).out = s.out ∧ (State.startEpisodes s).trngCount = s.trngCount ∧
      (State.startEpisodes s).ident = s.ident ∧ (State.startEpisodes s).supply = s.supply ∧ (State.startEpisodes s).tm = s.tm ∧
      (State.startEpisodes s).meas = s.meas ∧ (State.startEpisodes s).aux = s.aux ∧ (State.startEpisodes s).itg = s.itg ∧
      (State.startEpisodes s).bal = s.bal ∧ (State.startEpisodes s).hio = s.hio ∧ (State.startEpisodes s).est = s.est ∧
      (State.startEpisodes s).lp = s.lp ∧ (State.startEpisodes s).ring = s.ring ∧ (State.startEpisodes s).can = s.can ∧
      (State.startEpisodes s).px = s.px ∧ (State.startEpisodes s).flt = s.flt ∧ (State.startEpisodes s).sent = s.sent ∧
      (State.startEpisodes s).mgmt = s.mgmt := by simp [State.startEpisodes]
@[simp] theorem State.joinString_frame (s : State) :
    (State.joinString s).now = s.now ∧ (State.joinString s).ringOffset = s.ringOffset ∧ (State.joinString s).pending = s.pending ∧
      (State.joinString s).pm = s.pm ∧ (State.joinString s).out = s.out ∧ (State.joinString s).trngCount = s.trngCount ∧
      (State.joinString s).supply = s.supply ∧ (State.joinString s).md = s.md ∧ (State.joinString s).tm = s.tm ∧
      (State.joinString s).meas = s.meas ∧ (State.joinString s).aux = s.aux ∧ (State.joinString s).itg = s.itg ∧
      (State.joinString s).bal = s.bal ∧ (State.joinString s).hio = s.hio ∧ (State.joinString s).est = s.est ∧
      (State.joinString s).lp = s.lp ∧ (State.joinString s).ring = s.ring ∧ (State.joinString s).px = s.px ∧
      (State.joinString s).flt = s.flt ∧ (State.joinString s).sent = s.sent ∧ (State.joinString s).rcd = s.rcd ∧
      (State.joinString s).mgmt = s.mgmt := by simp [State.joinString]
@[simp] theorem State.thermalDrop_frame (s : State) :
    (State.thermalDrop s).now = s.now ∧ (State.thermalDrop s).ringOffset = s.ringOffset ∧ (State.thermalDrop s).pending = s.pending ∧
      (State.thermalDrop s).dict = s.dict ∧ (State.thermalDrop s).pm = s.pm ∧ (State.thermalDrop s).out = s.out ∧
      (State.thermalDrop s).trngCount = s.trngCount ∧ (State.thermalDrop s).ident = s.ident ∧ (State.thermalDrop s).supply = s.supply ∧
      (State.thermalDrop s).md = s.md ∧ (State.thermalDrop s).tm = s.tm ∧ (State.thermalDrop s).meas = s.meas ∧
      (State.thermalDrop s).aux = s.aux ∧ (State.thermalDrop s).itg = s.itg ∧ (State.thermalDrop s).bal = s.bal ∧
      (State.thermalDrop s).hio = s.hio ∧ (State.thermalDrop s).est = s.est ∧ (State.thermalDrop s).ring = s.ring ∧
      (State.thermalDrop s).can = s.can ∧ (State.thermalDrop s).px = s.px ∧ (State.thermalDrop s).flt = s.flt ∧
      (State.thermalDrop s).sent = s.sent ∧ (State.thermalDrop s).rcd = s.rcd ∧ (State.thermalDrop s).mgmt = s.mgmt := by simp [State.thermalDrop]
@[simp] theorem State.limitsChanged_frame (s : State) (p : Nat) (d : Bytes) :
    (State.limitsChanged s p d).now = s.now ∧ (State.limitsChanged s p d).ringOffset = s.ringOffset ∧
      (State.limitsChanged s p d).pending = s.pending ∧ (State.limitsChanged s p d).dict = s.dict ∧ (State.limitsChanged s p d).pm = s.pm ∧
      (State.limitsChanged s p d).out = s.out ∧ (State.limitsChanged s p d).trngCount = s.trngCount ∧
      (State.limitsChanged s p d).ident = s.ident ∧ (State.limitsChanged s p d).supply = s.supply ∧ (State.limitsChanged s p d).md = s.md ∧
      (State.limitsChanged s p d).tm = s.tm ∧ (State.limitsChanged s p d).meas = s.meas ∧ (State.limitsChanged s p d).aux = s.aux ∧
      (State.limitsChanged s p d).itg = s.itg ∧ (State.limitsChanged s p d).bal = s.bal ∧ (State.limitsChanged s p d).hio = s.hio ∧
      (State.limitsChanged s p d).est = s.est ∧ (State.limitsChanged s p d).lp = s.lp ∧ (State.limitsChanged s p d).ring = s.ring ∧
      (State.limitsChanged s p d).can = s.can ∧ (State.limitsChanged s p d).flt = s.flt ∧ (State.limitsChanged s p d).sent = s.sent ∧
      (State.limitsChanged s p d).rcd = s.rcd ∧ (State.limitsChanged s p d).mgmt = s.mgmt := by simp [State.limitsChanged]
@[simp] theorem State.rwpFollow_frame (s : State) (r : RwpPending) (o : ObjDef) (i j : Nat) :
    (State.rwpFollow s r o i j).now = s.now ∧ (State.rwpFollow s r o i j).ringOffset = s.ringOffset ∧
      (State.rwpFollow s r o i j).pending = s.pending ∧ (State.rwpFollow s r o i j).pm = s.pm ∧
      (State.rwpFollow s r o i j).trngCount = s.trngCount ∧ (State.rwpFollow s r o i j).ident = s.ident ∧
      (State.rwpFollow s r o i j).md = s.md ∧ (State.rwpFollow s r o i j).aux = s.aux ∧ (State.rwpFollow s r o i j).itg = s.itg ∧
      (State.rwpFollow s r o i j).bal = s.bal ∧ (State.rwpFollow s r o i j).est = s.est ∧ (State.rwpFollow s r o i j).mgmt = s.mgmt := by
  cases h : protAt (o.index + i) (o.sub + j) <;> simp [State.rwpFollow, h]
@[simp] theorem State.rwpApply_frame (s : State) (r : RwpPending) (o : ObjDef) (i j : Nat) :
    (State.rwpApply s r o i j).now = s.now ∧ (State.rwpApply s r o i j).ringOffset = s.ringOffset ∧
      (State.rwpApply s r o i j).pending = s.pending ∧ (State.rwpApply s r o i j).trngCount = s.trngCount ∧
      (State.rwpApply s r o i j).ident = s.ident ∧ (State.rwpApply s r o i j).md = s.md ∧ (State.rwpApply s r o i j).aux = s.aux ∧
      (State.rwpApply s r o i j).itg = s.itg ∧ (State.rwpApply s r o i j).bal = s.bal ∧ (State.rwpApply s r o i j).est = s.est ∧
      (State.rwpApply s r o i j).mgmt = s.mgmt := by simp [State.rwpApply]
@[simp] theorem State.latchShadow_frame (s : State) (m : Master) (index sub : Nat) (b : Bytes) :
    (State.latchShadow s m index sub b).now = s.now ∧ (State.latchShadow s m index sub b).ringOffset = s.ringOffset ∧
      (State.latchShadow s m index sub b).pending = s.pending ∧ (State.latchShadow s m index sub b).dict = s.dict ∧
      (State.latchShadow s m index sub b).pm = s.pm ∧ (State.latchShadow s m index sub b).out = s.out ∧
      (State.latchShadow s m index sub b).trngCount = s.trngCount ∧ (State.latchShadow s m index sub b).ident = s.ident ∧
      (State.latchShadow s m index sub b).supply = s.supply ∧ (State.latchShadow s m index sub b).md = s.md ∧
      (State.latchShadow s m index sub b).meas = s.meas ∧ (State.latchShadow s m index sub b).aux = s.aux ∧
      (State.latchShadow s m index sub b).itg = s.itg ∧ (State.latchShadow s m index sub b).bal = s.bal ∧
      (State.latchShadow s m index sub b).hio = s.hio ∧ (State.latchShadow s m index sub b).est = s.est ∧
      (State.latchShadow s m index sub b).lp = s.lp ∧ (State.latchShadow s m index sub b).ring = s.ring ∧
      (State.latchShadow s m index sub b).can = s.can ∧ (State.latchShadow s m index sub b).px = s.px ∧
      (State.latchShadow s m index sub b).flt = s.flt ∧ (State.latchShadow s m index sub b).sent = s.sent ∧
      (State.latchShadow s m index sub b).rcd = s.rcd ∧ (State.latchShadow s m index sub b).mgmt = s.mgmt := by simp [State.latchShadow]
@[simp] theorem State.pxDiscard_frame (s : State) (q : PxReq) :
    (State.pxDiscard s q).now = s.now ∧ (State.pxDiscard s q).ringOffset = s.ringOffset ∧ (State.pxDiscard s q).pending = s.pending ∧
      (State.pxDiscard s q).pm = s.pm ∧ (State.pxDiscard s q).out = s.out ∧ (State.pxDiscard s q).trngCount = s.trngCount ∧
      (State.pxDiscard s q).ident = s.ident ∧ (State.pxDiscard s q).supply = s.supply ∧ (State.pxDiscard s q).md = s.md ∧
      (State.pxDiscard s q).tm = s.tm ∧ (State.pxDiscard s q).meas = s.meas ∧ (State.pxDiscard s q).aux = s.aux ∧
      (State.pxDiscard s q).itg = s.itg ∧ (State.pxDiscard s q).bal = s.bal ∧ (State.pxDiscard s q).hio = s.hio ∧
      (State.pxDiscard s q).est = s.est ∧ (State.pxDiscard s q).lp = s.lp ∧ (State.pxDiscard s q).ring = s.ring ∧
      (State.pxDiscard s q).can = s.can ∧ (State.pxDiscard s q).px = s.px ∧ (State.pxDiscard s q).flt = s.flt ∧
      (State.pxDiscard s q).sent = s.sent ∧ (State.pxDiscard s q).rcd = s.rcd ∧ (State.pxDiscard s q).mgmt = s.mgmt := by simp [State.pxDiscard]
@[simp] theorem State.latchLanes_frame (s : State) (o : ObjDef) (i j : Nat) :
    (State.latchLanes s o i j).now = s.now ∧ (State.latchLanes s o i j).ringOffset = s.ringOffset ∧
      (State.latchLanes s o i j).pending = s.pending ∧ (State.latchLanes s o i j).dict = s.dict ∧ (State.latchLanes s o i j).pm = s.pm ∧
      (State.latchLanes s o i j).out = s.out ∧ (State.latchLanes s o i j).trngCount = s.trngCount ∧
      (State.latchLanes s o i j).ident = s.ident ∧ (State.latchLanes s o i j).supply = s.supply ∧ (State.latchLanes s o i j).md = s.md ∧
      (State.latchLanes s o i j).meas = s.meas ∧ (State.latchLanes s o i j).aux = s.aux ∧ (State.latchLanes s o i j).itg = s.itg ∧
      (State.latchLanes s o i j).bal = s.bal ∧ (State.latchLanes s o i j).hio = s.hio ∧ (State.latchLanes s o i j).est = s.est ∧
      (State.latchLanes s o i j).lp = s.lp ∧ (State.latchLanes s o i j).ring = s.ring ∧ (State.latchLanes s o i j).can = s.can ∧
      (State.latchLanes s o i j).px = s.px ∧ (State.latchLanes s o i j).flt = s.flt ∧ (State.latchLanes s o i j).sent = s.sent ∧
      (State.latchLanes s o i j).rcd = s.rcd ∧ (State.latchLanes s o i j).mgmt = s.mgmt := by simp [State.latchLanes]
@[simp] theorem State.pxReadOp_frame (s : State) (q : PxReq) (index sub : Nat) :
    (State.pxReadOp s q index sub).now = s.now ∧ (State.pxReadOp s q index sub).ringOffset = s.ringOffset ∧
      (State.pxReadOp s q index sub).pending = s.pending ∧ (State.pxReadOp s q index sub).pm = s.pm ∧
      (State.pxReadOp s q index sub).supply = s.supply ∧ (State.pxReadOp s q index sub).aux = s.aux ∧
      (State.pxReadOp s q index sub).itg = s.itg ∧ (State.pxReadOp s q index sub).est = s.est ∧ (State.pxReadOp s q index sub).lp = s.lp ∧
      (State.pxReadOp s q index sub).sent = s.sent := by
  unfold State.pxReadOp
  refine ⟨?_, ?_, ?_, ?_, ?_, ?_, ?_, ?_, ?_, ?_⟩ <;> (repeat' split) <;> simp
theorem State.armAngle_state (s : State) (unit : AngleUnit) (user : AngleUser) (every : Bool) (a : Nat) (s' : State)
    (h : s.armAngle unit user every a = some s') :
    s'.now = s.now ∧ s'.ringOffset = s.ringOffset ∧ s'.pending = s.pending ∧ s'.pm = s.pm ∧ s'.out = s.out ∧ s'.trngCount = s.trngCount ∧
      s'.ident = s.ident ∧ s'.supply = s.supply ∧ s'.md = s.md ∧ s'.meas = s.meas ∧ s'.aux = s.aux ∧ s'.itg = s.itg ∧ s'.bal = s.bal ∧
      s'.hio = s.hio ∧ s'.est = s.est ∧ s'.lp = s.lp ∧ s'.ring = s.ring ∧ s'.can = s.can ∧ s'.px = s.px ∧ s'.flt = s.flt ∧
      s'.sent = s.sent ∧ s'.rcd = s.rcd ∧ s'.mgmt = s.mgmt := by
  simp only [State.armAngle] at h
  (repeat' split at h) <;> first | (cases h; done) | (cases h; simp)
theorem State.hostRegArm_state (s : State) (mode frac : Nat) (s' : State) (h : s.hostRegArm mode frac = some s') :
    s'.now = s.now ∧ s'.ringOffset = s.ringOffset ∧ s'.pending = s.pending ∧ s'.pm = s.pm ∧ s'.out = s.out ∧ s'.trngCount = s.trngCount ∧
      s'.ident = s.ident ∧ s'.supply = s.supply ∧ s'.md = s.md ∧ s'.meas = s.meas ∧ s'.aux = s.aux ∧ s'.itg = s.itg ∧ s'.bal = s.bal ∧
      s'.hio = s.hio ∧ s'.est = s.est ∧ s'.lp = s.lp ∧ s'.ring = s.ring ∧ s'.can = s.can ∧ s'.px = s.px ∧ s'.flt = s.flt ∧
      s'.sent = s.sent ∧ s'.rcd = s.rcd ∧ s'.mgmt = s.mgmt := by
  simp only [State.hostRegArm] at h
  split at h
  · exact State.armAngle_state _ _ _ _ _ _ h
  · cases h; simp
theorem armed_state (r : Option State) (o : ObjDef) (v j : Nat) (s' : State) (h : (armed r o v j).state? = some s') :
    ∃ t, r = some t ∧ s' = t.setNat o v 0 j := by
  cases r with
  | none => cases h
  | some t => cases h; exact ⟨t, rfl, rfl⟩
@[simp] theorem deferIf_none (ok : Bool) (s : State) : (deferIf ok s).state? = none := by
  unfold deferIf; split <;> rfl
@[simp] theorem kaEffect_none (ov uv hi lo : Rat) (s : State) : (kaEffect ov uv hi lo s).state? = none := deferIf_none _ _
@[simp] theorem shortCircuitEffect_none (a b : Rat) (s : State) : (shortCircuitEffect a b s).state? = none := deferIf_none _ _
theorem storeValue_state (o : ObjDef) (i j : Nat) (data : Bytes) (s s' : State) (h : (storeValue o i j data s).state? = some s') :
    s'.now = s.now ∧ s'.ringOffset = s.ringOffset ∧ s'.pending = s.pending ∧ s'.pm = s.pm ∧ s'.out = s.out ∧ s'.trngCount = s.trngCount ∧
      s'.ident = s.ident ∧ s'.supply = s.supply ∧ s'.md = s.md ∧ s'.tm = s.tm ∧ s'.meas = s.meas ∧ s'.aux = s.aux ∧ s'.itg = s.itg ∧
      s'.bal = s.bal ∧ s'.hio = s.hio ∧ s'.est = s.est ∧ s'.lp = s.lp ∧ s'.ring = s.ring ∧ s'.can = s.can ∧ s'.px = s.px ∧ s'.flt = s.flt ∧
      s'.sent = s.sent ∧ s'.rcd = s.rcd ∧ s'.mgmt = s.mgmt := by
  simp only [storeValue] at h
  (repeat' split at h) <;> first | (cases h; done) | (cases h; simp)
@[simp] theorem storeValue_keeps (o : ObjDef) (i j : Nat) (data : Bytes) :
    PxEffect.Keeps (storeValue o i j data) State.now ∧ PxEffect.Keeps (storeValue o i j data) State.ringOffset ∧
      PxEffect.Keeps (storeValue o i j data) State.pending ∧ PxEffect.Keeps (storeValue o i j data) State.pm ∧
      PxEffect.Keeps (storeValue o i j data) State.out ∧ PxEffect.Keeps (storeValue o i j data) State.trngCount ∧
      PxEffect.Keeps (storeValue o i j data) State.ident ∧ PxEffect.Keeps (storeValue o i j data) State.supply ∧
      PxEffect.Keeps (storeValue o i j data) State.md ∧ PxEffect.Keeps (storeValue o i j data) State.tm ∧
      PxEffect.Keeps (storeValue o i j data) State.meas ∧ PxEffect.Keeps (storeValue o i j data) State.aux ∧
      PxEffect.Keeps (storeValue o i j data) State.itg ∧ PxEffect.Keeps (storeValue o i j data) State.bal ∧
      PxEffect.Keeps (storeValue o i j data) State.hio ∧ PxEffect.Keeps (storeValue o i j data) State.est ∧
      PxEffect.Keeps (storeValue o i j data) State.lp ∧ PxEffect.Keeps (storeValue o i j data) State.ring ∧
      PxEffect.Keeps (storeValue o i j data) State.can ∧ PxEffect.Keeps (storeValue o i j data) State.px ∧
      PxEffect.Keeps (storeValue o i j data) State.flt ∧ PxEffect.Keeps (storeValue o i j data) State.sent ∧
      PxEffect.Keeps (storeValue o i j data) State.rcd ∧ PxEffect.Keeps (storeValue o i j data) State.mgmt :=
  ⟨fun s s' h => (storeValue_state o i j data s s' h).1, fun s s' h => (storeValue_state o i j data s s' h).2.1, fun s s' h => (storeValue_state o i j data s s' h).2.2.1, fun s s' h => (storeValue_state o i j data s s' h).2.2.2.1, fun s s' h => (storeValue_state o i j data s s' h).2.2.2.2.1, fun s s' h => (storeValue_state o i j data s s' h).2.2.2.2.2.1, fun s s' h => (storeValue_state o i j data s s' h).2.2.2.2.2.2.1, fun s s' h => (storeValue_state o i j data s s' h).2.2.2.2.2.2.2.1, fun s s' h => (storeValue_state o i j data s s' h).2.2.2.2.2.2.2.2.1, fun s s' h => (storeValue_state o i j data s s' h).2.2.2.2.2.2.2.2.2.1, fun s s' h => (storeValue_state o i j data s s' h).2.2.2.2.2.2.2.2.2.2.1, fun s s' h => (storeValue_state o i j data s s' h).2.2.2.2.2.2.2.2.2.2.2.1, fun s s' h => (storeValue_state o i j data s s' h).2.2.2.2.2.2.2.2.2.2.2.2.1, fun s s' h => (storeValue_state o i j data s s' h).2.2.2.2.2.2.2.2.2.2.2.2.2.1, fun s s' h => (storeValue_state o i j data s s' h).2.2.2.2.2.2.2.2.2.2.2.2.2.2.1, fun s s' h => (storeValue_state o i j data s s' h).2.2.2.2.2.2.2.2.2.2.2.2.2.2.2.1, fun s s' h => (storeValue_state o i j data s s' h).2.2.2.2.2.2.2.2.2.2.2.2.2.2.2.2.1, fun s s' h => (storeValue_state o i j data s s' h).2.2.2.2.2.2.2.2.2.2.2.2.2.2.2.2.2.1, fun s s' h => (storeValue_state o i j data s s' h).2.2.2.2.2.2.2.2.2.2.2.2.2.2.2.2.2.2.1, fun s s' h => (storeValue_state o i j data s s' h).2.2.2.2.2.2.2.2.2.2.2.2.2.2.2.2.2.2.2.1, fun s s' h => (storeValue_state o i j data s s' h).2.2.2.2.2.2.2.2.2.2.2.2.2.2.2.2.2.2.2.2.1, fun s s' h => (storeValue_state o i j data s s' h).2.2.2.2.2.2.2.2.2.2.2.2.2.2.2.2.2.2.2.2.2.1, fun s s' h => (storeValue_state o i j data s s' h).2.2.2.2.2.2.2.2.2.2.2.2.2.2.2.2.2.2.2.2.2.2.1, fun s s' h => (storeValue_state o i j data s s' h).2.2.2.2.2.2.2.2.2.2.2.2.2.2.2.2.2.2.2.2.2.2.2⟩
theorem recClearEffect_state (q : PxReq) (v : Nat) (s s' : State) (h : (recClearEffect q v s).state? = some s') :
    s'.now = s.now ∧ s'.ringOffset = s.ringOffset ∧ s'.pending = s.pending ∧ s'.out = s.out ∧ s'.trngCount = s.trngCount ∧
      s'.ident = s.ident ∧ s'.supply = s.supply ∧ s'.md = s.md ∧ s'.tm = s.tm ∧ s'.meas = s.meas ∧ s'.aux = s.aux ∧ s'.itg = s.itg ∧
      s'.bal = s.bal ∧ s'.hio = s.hio ∧ s'.est = s.est ∧ s'.lp = s.lp ∧ s'.ring = s.ring ∧ s'.can = s.can ∧ s'.px = s.px ∧ s'.flt = s.flt ∧
      s'.sent = s.sent ∧ s'.mgmt = s.mgmt := by
  simp only [recClearEffect] at h
  (repeat' split at h) <;> first | (cases h; done) | (cases h; simp)
@[simp] theorem recClearEffect_keeps (q : PxReq) (v : Nat) :
    PxEffect.Keeps (recClearEffect q v) State.now ∧ PxEffect.Keeps (recClearEffect q v) State.ringOffset ∧
      PxEffect.Keeps (recClearEffect q v) State.pending ∧ PxEffect.Keeps (recClearEffect q v) State.out ∧
      PxEffect.Keeps (recClearEffect q v) State.trngCount ∧ PxEffect.Keeps (recClearEffect q v) State.ident ∧
      PxEffect.Keeps (recClearEffect q v) State.supply ∧ PxEffect.Keeps (recClearEffect q v) State.md ∧
      PxEffect.Keeps (recClearEffect q v) State.tm ∧ PxEffect.Keeps (recClearEffect q v) State.meas ∧
      PxEffect.Keeps (recClearEffect q v) State.aux ∧ PxEffect.Keeps (recClearEffect q v) State.itg ∧
      PxEffect.Keeps (recClearEffect q v) State.bal ∧ PxEffect.Keeps (recClearEffect q v) State.hio ∧
      PxEffect.Keeps (recClearEffect q v) State.est ∧ PxEffect.Keeps (recClearEffect q v) State.lp ∧
      PxEffect.Keeps (recClearEffect q v) State.ring ∧ PxEffect.Keeps (recClearEffect q v) State.can ∧
      PxEffect.Keeps (recClearEffect q v) State.px ∧ PxEffect.Keeps (recClearEffect q v) State.flt ∧
      PxEffect.Keeps (recClearEffect q v) State.sent ∧ PxEffect.Keeps (recClearEffect q v) State.mgmt :=
  ⟨fun s s' h => (recClearEffect_state q v s s' h).1, fun s s' h => (recClearEffect_state q v s s' h).2.1, fun s s' h => (recClearEffect_state q v s s' h).2.2.1, fun s s' h => (recClearEffect_state q v s s' h).2.2.2.1, fun s s' h => (recClearEffect_state q v s s' h).2.2.2.2.1, fun s s' h => (recClearEffect_state q v s s' h).2.2.2.2.2.1, fun s s' h => (recClearEffect_state q v s s' h).2.2.2.2.2.2.1, fun s s' h => (recClearEffect_state q v s s' h).2.2.2.2.2.2.2.1, fun s s' h => (recClearEffect_state q v s s' h).2.2.2.2.2.2.2.2.1, fun s s' h => (recClearEffect_state q v s s' h).2.2.2.2.2.2.2.2.2.1, fun s s' h => (recClearEffect_state q v s s' h).2.2.2.2.2.2.2.2.2.2.1, fun s s' h => (recClearEffect_state q v s s' h).2.2.2.2.2.2.2.2.2.2.2.1, fun s s' h => (recClearEffect_state q v s s' h).2.2.2.2.2.2.2.2.2.2.2.2.1, fun s s' h => (recClearEffect_state q v s s' h).2.2.2.2.2.2.2.2.2.2.2.2.2.1, fun s s' h => (recClearEffect_state q v s s' h).2.2.2.2.2.2.2.2.2.2.2.2.2.2.1, fun s s' h => (recClearEffect_state q v s s' h).2.2.2.2.2.2.2.2.2.2.2.2.2.2.2.1, fun s s' h => (recClearEffect_state q v s s' h).2.2.2.2.2.2.2.2.2.2.2.2.2.2.2.2.1, fun s s' h => (recClearEffect_state q v s s' h).2.2.2.2.2.2.2.2.2.2.2.2.2.2.2.2.2.1, fun s s' h => (recClearEffect_state q v s s' h).2.2.2.2.2.2.2.2.2.2.2.2.2.2.2.2.2.2.1, fun s s' h => (recClearEffect_state q v s s' h).2.2.2.2.2.2.2.2.2.2.2.2.2.2.2.2.2.2.2.1, fun s s' h => (recClearEffect_state q v s s' h).2.2.2.2.2.2.2.2.2.2.2.2.2.2.2.2.2.2.2.2.1, fun s s' h => (recClearEffect_state q v s s' h).2.2.2.2.2.2.2.2.2.2.2.2.2.2.2.2.2.2.2.2.2⟩
theorem captureAngleEffect_state (v : Nat) (s s' : State) (h : (captureAngleEffect v s).state? = some s') :
    s'.now = s.now ∧ s'.ringOffset = s.ringOffset ∧ s'.pending = s.pending ∧ s'.pm = s.pm ∧ s'.out = s.out ∧ s'.trngCount = s.trngCount ∧
      s'.ident = s.ident ∧ s'.supply = s.supply ∧ s'.md = s.md ∧ s'.meas = s.meas ∧ s'.aux = s.aux ∧ s'.itg = s.itg ∧ s'.bal = s.bal ∧
      s'.hio = s.hio ∧ s'.est = s.est ∧ s'.lp = s.lp ∧ s'.ring = s.ring ∧ s'.can = s.can ∧ s'.px = s.px ∧ s'.flt = s.flt ∧
      s'.sent = s.sent ∧ s'.rcd = s.rcd ∧ s'.mgmt = s.mgmt := by
  simp only [captureAngleEffect] at h
  split at h
  · cases h; simp
  · split at h
    · rename_i heq; cases h; have := State.armAngle_state _ _ _ _ _ _ heq; simp_all
    · cases h
@[simp] theorem captureAngleEffect_keeps (v : Nat) :
    PxEffect.Keeps (captureAngleEffect v) State.now ∧ PxEffect.Keeps (captureAngleEffect v) State.ringOffset ∧
      PxEffect.Keeps (captureAngleEffect v) State.pending ∧ PxEffect.Keeps (captureAngleEffect v) State.pm ∧
      PxEffect.Keeps (captureAngleEffect v) State.out ∧ PxEffect.Keeps (captureAngleEffect v) State.trngCount ∧
      PxEffect.Keeps (captureAngleEffect v) State.ident ∧ PxEffect.Keeps (captureAngleEffect v) State.supply ∧
      PxEffect.Keeps (captureAngleEffect v) State.md ∧ PxEffect.Keeps (captureAngleEffect v) State.meas ∧
      PxEffect.Keeps (captureAngleEffect v) State.aux ∧ PxEffect.Keeps (captureAngleEffect v) State.itg ∧
      PxEffect.Keeps (captureAngleEffect v) State.bal ∧ PxEffect.Keeps (captureAngleEffect v) State.hio ∧
      PxEffect.Keeps (captureAngleEffect v) State.est ∧ PxEffect.Keeps (captureAngleEffect v) State.lp ∧
      PxEffect.Keeps (captureAngleEffect v) State.ring ∧ PxEffect.Keeps (captureAngleEffect v) State.can ∧
      PxEffect.Keeps (captureAngleEffect v) State.px ∧ PxEffect.Keeps (captureAngleEffect v) State.flt ∧
      PxEffect.Keeps (captureAngleEffect v) State.sent ∧ PxEffect.Keeps (captureAngleEffect v) State.rcd ∧
      PxEffect.Keeps (captureAngleEffect v) State.mgmt :=
  ⟨fun s s' h => (captureAngleEffect_state v s s' h).1, fun s s' h => (captureAngleEffect_state v s s' h).2.1, fun s s' h => (captureAngleEffect_state v s s' h).2.2.1, fun s s' h => (captureAngleEffect_state v s s' h).2.2.2.1, fun s s' h => (captureAngleEffect_state v s s' h).2.2.2.2.1, fun s s' h => (captureAngleEffect_state v s s' h).2.2.2.2.2.1, fun s s' h => (captureAngleEffect_state v s s' h).2.2.2.2.2.2.1, fun s s' h => (captureAngleEffect_state v s s' h).2.2.2.2.2.2.2.1, fun s s' h => (captureAngleEffect_state v s s' h).2.2.2.2.2.2.2.2.1, fun s s' h => (captureAngleEffect_state v s s' h).2.2.2.2.2.2.2.2.2.1, fun s s' h => (captureAngleEffect_state v s s' h).2.2.2.2.2.2.2.2.2.2.1, fun s s' h => (captureAngleEffect_state v s s' h).2.2.2.2.2.2.2.2.2.2.2.1, fun s s' h => (captureAngleEffect_state v s s' h).2.2.2.2.2.2.2.2.2.2.2.2.1, fun s s' h => (captureAngleEffect_state v s s' h).2.2.2.2.2.2.2.2.2.2.2.2.2.1, fun s s' h => (captureAngleEffect_state v s s' h).2.2.2.2.2.2.2.2.2.2.2.2.2.2.1, fun s s' h => (captureAngleEffect_state v s s' h).2.2.2.2.2.2.2.2.2.2.2.2.2.2.2.1, fun s s' h => (captureAngleEffect_state v s s' h).2.2.2.2.2.2.2.2.2.2.2.2.2.2.2.2.1, fun s s' h => (captureAngleEffect_state v s s' h).2.2.2.2.2.2.2.2.2.2.2.2.2.2.2.2.2.1, fun s s' h => (captureAngleEffect_state v s s' h).2.2.2.2.2.2.2.2.2.2.2.2.2.2.2.2.2.2.1, fun s s' h => (captureAngleEffect_state v s s' h).2.2.2.2.2.2.2.2.2.2.2.2.2.2.2.2.2.2.2.1, fun s s' h => (captureAngleEffect_state v s s' h).2.2.2.2.2.2.2.2.2.2.2.2.2.2.2.2.2.2.2.2.1, fun s s' h => (captureAngleEffect_state v s s' h).2.2.2.2.2.2.2.2.2.2.2.2.2.2.2.2.2.2.2.2.2.1, fun s s' h => (captureAngleEffect_state v s s' h).2.2.2.2.2.2.2.2.2.2.2.2.2.2.2.2.2.2.2.2.2.2⟩
theorem captureReadoutEffect_state (d : Bytes) (s s' : State) (h : (captureReadoutEffect d s).state? = some s') :
    s'.now = s.now ∧ s'.ringOffset = s.ringOffset ∧ s'.pending = s.pending ∧ s'.pm = s.pm ∧ s'.trngCount = s.trngCount ∧
      s'.ident = s.ident ∧ s'.supply = s.supply ∧ s'.md = s.md ∧ s'.tm = s.tm ∧ s'.meas = s.meas ∧ s'.aux = s.aux ∧ s'.itg = s.itg ∧
      s'.bal = s.bal ∧ s'.hio = s.hio ∧ s'.est = s.est ∧ s'.lp = s.lp ∧ s'.can = s.can ∧ s'.px = s.px ∧ s'.flt = s.flt ∧ s'.sent = s.sent ∧
      s'.mgmt = s.mgmt := by
  simp only [captureReadoutEffect] at h
  (repeat' split at h) <;> first | (cases h; done) | (cases h; simp)
@[simp] theorem captureReadoutEffect_keeps (d : Bytes) :
    PxEffect.Keeps (captureReadoutEffect d) State.now ∧ PxEffect.Keeps (captureReadoutEffect d) State.ringOffset ∧
      PxEffect.Keeps (captureReadoutEffect d) State.pending ∧ PxEffect.Keeps (captureReadoutEffect d) State.pm ∧
      PxEffect.Keeps (captureReadoutEffect d) State.trngCount ∧ PxEffect.Keeps (captureReadoutEffect d) State.ident ∧
      PxEffect.Keeps (captureReadoutEffect d) State.supply ∧ PxEffect.Keeps (captureReadoutEffect d) State.md ∧
      PxEffect.Keeps (captureReadoutEffect d) State.tm ∧ PxEffect.Keeps (captureReadoutEffect d) State.meas ∧
      PxEffect.Keeps (captureReadoutEffect d) State.aux ∧ PxEffect.Keeps (captureReadoutEffect d) State.itg ∧
      PxEffect.Keeps (captureReadoutEffect d) State.bal ∧ PxEffect.Keeps (captureReadoutEffect d) State.hio ∧
      PxEffect.Keeps (captureReadoutEffect d) State.est ∧ PxEffect.Keeps (captureReadoutEffect d) State.lp ∧
      PxEffect.Keeps (captureReadoutEffect d) State.can ∧ PxEffect.Keeps (captureReadoutEffect d) State.px ∧
      PxEffect.Keeps (captureReadoutEffect d) State.flt ∧ PxEffect.Keeps (captureReadoutEffect d) State.sent ∧
      PxEffect.Keeps (captureReadoutEffect d) State.mgmt :=
  ⟨fun s s' h => (captureReadoutEffect_state d s s' h).1, fun s s' h => (captureReadoutEffect_state d s s' h).2.1, fun s s' h => (captureReadoutEffect_state d s s' h).2.2.1, fun s s' h => (captureReadoutEffect_state d s s' h).2.2.2.1, fun s s' h => (captureReadoutEffect_state d s s' h).2.2.2.2.1, fun s s' h => (captureReadoutEffect_state d s s' h).2.2.2.2.2.1, fun s s' h => (captureReadoutEffect_state d s s' h).2.2.2.2.2.2.1, fun s s' h => (captureReadoutEffect_state d s s' h).2.2.2.2.2.2.2.1, fun s s' h => (captureReadoutEffect_state d s s' h).2.2.2.2.2.2.2.2.1, fun s s' h => (captureReadoutEffect_state d s s' h).2.2.2.2.2.2.2.2.2.1, fun s s' h => (captureReadoutEffect_state d s s' h).2.2.2.2.2.2.2.2.2.2.1, fun s s' h => (captureReadoutEffect_state d s s' h).2.2.2.2.2.2.2.2.2.2.2.1, fun s s' h => (captureReadoutEffect_state d s s' h).2.2.2.2.2.2.2.2.2.2.2.2.1, fun s s' h => (captureReadoutEffect_state d s s' h).2.2.2.2.2.2.2.2.2.2.2.2.2.1, fun s s' h => (captureReadoutEffect_state d s s' h).2.2.2.2.2.2.2.2.2.2.2.2.2.2.1, fun s s' h => (captureReadoutEffect_state d s s' h).2.2.2.2.2.2.2.2.2.2.2.2.2.2.2.1, fun s s' h => (captureReadoutEffect_state d s s' h).2.2.2.2.2.2.2.2.2.2.2.2.2.2.2.2.1, fun s s' h => (captureReadoutEffect_state d s s' h).2.2.2.2.2.2.2.2.2.2.2.2.2.2.2.2.2.1, fun s s' h => (captureReadoutEffect_state d s s' h).2.2.2.2.2.2.2.2.2.2.2.2.2.2.2.2.2.2.1, fun s s' h => (captureReadoutEffect_state d s s' h).2.2.2.2.2.2.2.2.2.2.2.2.2.2.2.2.2.2.2.1, fun s s' h => (captureReadoutEffect_state d s s' h).2.2.2.2.2.2.2.2.2.2.2.2.2.2.2.2.2.2.2.2⟩
theorem captureReleaseEffect_state (v : Nat) (s s' : State) (h : (captureReleaseEffect v s).state? = some s') :
    s'.now = s.now ∧ s'.ringOffset = s.ringOffset ∧ s'.pending = s.pending ∧ s'.dict = s.dict ∧ s'.pm = s.pm ∧ s'.out = s.out ∧
      s'.trngCount = s.trngCount ∧ s'.ident = s.ident ∧ s'.supply = s.supply ∧ s'.md = s.md ∧ s'.tm = s.tm ∧ s'.meas = s.meas ∧
      s'.aux = s.aux ∧ s'.itg = s.itg ∧ s'.bal = s.bal ∧ s'.hio = s.hio ∧ s'.est = s.est ∧ s'.lp = s.lp ∧ s'.ring = s.ring ∧
      s'.can = s.can ∧ s'.px = s.px ∧ s'.flt = s.flt ∧ s'.sent = s.sent ∧ s'.mgmt = s.mgmt := by
  simp only [captureReleaseEffect] at h
  (repeat' split at h) <;> first | (cases h; done) | (cases h; simp)
@[simp] theorem captureReleaseEffect_keeps (v : Nat) :
    PxEffect.Keeps (captureReleaseEffect v) State.now ∧ PxEffect.Keeps (captureReleaseEffect v) State.ringOffset ∧
      PxEffect.Keeps (captureReleaseEffect v) State.pending ∧ PxEffect.Keeps (captureReleaseEffect v) State.dict ∧
      PxEffect.Keeps (captureReleaseEffect v) State.pm ∧ PxEffect.Keeps (captureReleaseEffect v) State.out ∧
      PxEffect.Keeps (captureReleaseEffect v) State.trngCount ∧ PxEffect.Keeps (captureReleaseEffect v) State.ident ∧
      PxEffect.Keeps (captureReleaseEffect v) State.supply ∧ PxEffect.Keeps (captureReleaseEffect v) State.md ∧
      PxEffect.Keeps (captureReleaseEffect v) State.tm ∧ PxEffect.Keeps (captureReleaseEffect v) State.meas ∧
      PxEffect.Keeps (captureReleaseEffect v) State.aux ∧ PxEffect.Keeps (captureReleaseEffect v) State.itg ∧
      PxEffect.Keeps (captureReleaseEffect v) State.bal ∧ PxEffect.Keeps (captureReleaseEffect v) State.hio ∧
      PxEffect.Keeps (captureReleaseEffect v) State.est ∧ PxEffect.Keeps (captureReleaseEffect v) State.lp ∧
      PxEffect.Keeps (captureReleaseEffect v) State.ring ∧ PxEffect.Keeps (captureReleaseEffect v) State.can ∧
      PxEffect.Keeps (captureReleaseEffect v) State.px ∧ PxEffect.Keeps (captureReleaseEffect v) State.flt ∧
      PxEffect.Keeps (captureReleaseEffect v) State.sent ∧ PxEffect.Keeps (captureReleaseEffect v) State.mgmt :=
  ⟨fun s s' h => (captureReleaseEffect_state v s s' h).1, fun s s' h => (captureReleaseEffect_state v s s' h).2.1, fun s s' h => (captureReleaseEffect_state v s s' h).2.2.1, fun s s' h => (captureReleaseEffect_state v s s' h).2.2.2.1, fun s s' h => (captureReleaseEffect_state v s s' h).2.2.2.2.1, fun s s' h => (captureReleaseEffect_state v s s' h).2.2.2.2.2.1, fun s s' h => (captureReleaseEffect_state v s s' h).2.2.2.2.2.2.1, fun s s' h => (captureReleaseEffect_state v s s' h).2.2.2.2.2.2.2.1, fun s s' h => (captureReleaseEffect_state v s s' h).2.2.2.2.2.2.2.2.1, fun s s' h => (captureReleaseEffect_state v s s' h).2.2.2.2.2.2.2.2.2.1, fun s s' h => (captureReleaseEffect_state v s s' h).2.2.2.2.2.2.2.2.2.2.1, fun s s' h => (captureReleaseEffect_state v s s' h).2.2.2.2.2.2.2.2.2.2.2.1, fun s s' h => (captureReleaseEffect_state v s s' h).2.2.2.2.2.2.2.2.2.2.2.2.1, fun s s' h => (captureReleaseEffect_state v s s' h).2.2.2.2.2.2.2.2.2.2.2.2.2.1, fun s s' h => (captureReleaseEffect_state v s s' h).2.2.2.2.2.2.2.2.2.2.2.2.2.2.1, fun s s' h => (captureReleaseEffect_state v s s' h).2.2.2.2.2.2.2.2.2.2.2.2.2.2.2.1, fun s s' h => (captureReleaseEffect_state v s s' h).2.2.2.2.2.2.2.2.2.2.2.2.2.2.2.2.1, fun s s' h => (captureReleaseEffect_state v s s' h).2.2.2.2.2.2.2.2.2.2.2.2.2.2.2.2.2.1, fun s s' h => (captureReleaseEffect_state v s s' h).2.2.2.2.2.2.2.2.2.2.2.2.2.2.2.2.2.2.1, fun s s' h => (captureReleaseEffect_state v s s' h).2.2.2.2.2.2.2.2.2.2.2.2.2.2.2.2.2.2.2.1, fun s s' h => (captureReleaseEffect_state v s s' h).2.2.2.2.2.2.2.2.2.2.2.2.2.2.2.2.2.2.2.2.1, fun s s' h => (captureReleaseEffect_state v s s' h).2.2.2.2.2.2.2.2.2.2.2.2.2.2.2.2.2.2.2.2.2.1, fun s s' h => (captureReleaseEffect_state v s s' h).2.2.2.2.2.2.2.2.2.2.2.2.2.2.2.2.2.2.2.2.2.2.1, fun s s' h => (captureReleaseEffect_state v s s' h).2.2.2.2.2.2.2.2.2.2.2.2.2.2.2.2.2.2.2.2.2.2.2⟩
theorem packIdentityEffect_state (v : Nat) (s s' : State) (h : (packIdentityEffect v s).state? = some s') :
    s'.now = s.now ∧ s'.ringOffset = s.ringOffset ∧ s'.pending = s.pending ∧ s'.pm = s.pm ∧ s'.out = s.out ∧ s'.trngCount = s.trngCount ∧
      s'.ident = s.ident ∧ s'.supply = s.supply ∧ s'.md = s.md ∧ s'.tm = s.tm ∧ s'.meas = s.meas ∧ s'.aux = s.aux ∧ s'.itg = s.itg ∧
      s'.bal = s.bal ∧ s'.hio = s.hio ∧ s'.est = s.est ∧ s'.lp = s.lp ∧ s'.ring = s.ring ∧ s'.can = s.can ∧ s'.px = s.px ∧ s'.flt = s.flt ∧
      s'.sent = s.sent ∧ s'.mgmt = s.mgmt := by
  simp only [packIdentityEffect] at h
  (repeat' split at h) <;> first | (cases h; done) | (cases h; simp)
@[simp] theorem packIdentityEffect_keeps (v : Nat) :
    PxEffect.Keeps (packIdentityEffect v) State.now ∧ PxEffect.Keeps (packIdentityEffect v) State.ringOffset ∧
      PxEffect.Keeps (packIdentityEffect v) State.pending ∧ PxEffect.Keeps (packIdentityEffect v) State.pm ∧
      PxEffect.Keeps (packIdentityEffect v) State.out ∧ PxEffect.Keeps (packIdentityEffect v) State.trngCount ∧
      PxEffect.Keeps (packIdentityEffect v) State.ident ∧ PxEffect.Keeps (packIdentityEffect v) State.supply ∧
      PxEffect.Keeps (packIdentityEffect v) State.md ∧ PxEffect.Keeps (packIdentityEffect v) State.tm ∧
      PxEffect.Keeps (packIdentityEffect v) State.meas ∧ PxEffect.Keeps (packIdentityEffect v) State.aux ∧
      PxEffect.Keeps (packIdentityEffect v) State.itg ∧ PxEffect.Keeps (packIdentityEffect v) State.bal ∧
      PxEffect.Keeps (packIdentityEffect v) State.hio ∧ PxEffect.Keeps (packIdentityEffect v) State.est ∧
      PxEffect.Keeps (packIdentityEffect v) State.lp ∧ PxEffect.Keeps (packIdentityEffect v) State.ring ∧
      PxEffect.Keeps (packIdentityEffect v) State.can ∧ PxEffect.Keeps (packIdentityEffect v) State.px ∧
      PxEffect.Keeps (packIdentityEffect v) State.flt ∧ PxEffect.Keeps (packIdentityEffect v) State.sent ∧
      PxEffect.Keeps (packIdentityEffect v) State.mgmt :=
  ⟨fun s s' h => (packIdentityEffect_state v s s' h).1, fun s s' h => (packIdentityEffect_state v s s' h).2.1, fun s s' h => (packIdentityEffect_state v s s' h).2.2.1, fun s s' h => (packIdentityEffect_state v s s' h).2.2.2.1, fun s s' h => (packIdentityEffect_state v s s' h).2.2.2.2.1, fun s s' h => (packIdentityEffect_state v s s' h).2.2.2.2.2.1, fun s s' h => (packIdentityEffect_state v s s' h).2.2.2.2.2.2.1, fun s s' h => (packIdentityEffect_state v s s' h).2.2.2.2.2.2.2.1, fun s s' h => (packIdentityEffect_state v s s' h).2.2.2.2.2.2.2.2.1, fun s s' h => (packIdentityEffect_state v s s' h).2.2.2.2.2.2.2.2.2.1, fun s s' h => (packIdentityEffect_state v s s' h).2.2.2.2.2.2.2.2.2.2.1, fun s s' h => (packIdentityEffect_state v s s' h).2.2.2.2.2.2.2.2.2.2.2.1, fun s s' h => (packIdentityEffect_state v s s' h).2.2.2.2.2.2.2.2.2.2.2.2.1, fun s s' h => (packIdentityEffect_state v s s' h).2.2.2.2.2.2.2.2.2.2.2.2.2.1, fun s s' h => (packIdentityEffect_state v s s' h).2.2.2.2.2.2.2.2.2.2.2.2.2.2.1, fun s s' h => (packIdentityEffect_state v s s' h).2.2.2.2.2.2.2.2.2.2.2.2.2.2.2.1, fun s s' h => (packIdentityEffect_state v s s' h).2.2.2.2.2.2.2.2.2.2.2.2.2.2.2.2.1, fun s s' h => (packIdentityEffect_state v s s' h).2.2.2.2.2.2.2.2.2.2.2.2.2.2.2.2.2.1, fun s s' h => (packIdentityEffect_state v s s' h).2.2.2.2.2.2.2.2.2.2.2.2.2.2.2.2.2.2.1, fun s s' h => (packIdentityEffect_state v s s' h).2.2.2.2.2.2.2.2.2.2.2.2.2.2.2.2.2.2.2.1, fun s s' h => (packIdentityEffect_state v s s' h).2.2.2.2.2.2.2.2.2.2.2.2.2.2.2.2.2.2.2.2.1, fun s s' h => (packIdentityEffect_state v s s' h).2.2.2.2.2.2.2.2.2.2.2.2.2.2.2.2.2.2.2.2.2.1, fun s s' h => (packIdentityEffect_state v s s' h).2.2.2.2.2.2.2.2.2.2.2.2.2.2.2.2.2.2.2.2.2.2⟩
theorem hostRegStartEffect_state  (s s' : State) (h : (hostRegStartEffect  s).state? = some s') :
    s'.now = s.now ∧ s'.ringOffset = s.ringOffset ∧ s'.pending = s.pending ∧ s'.pm = s.pm ∧ s'.out = s.out ∧ s'.trngCount = s.trngCount ∧
      s'.ident = s.ident ∧ s'.supply = s.supply ∧ s'.md = s.md ∧ s'.tm = s.tm ∧ s'.hio = s.hio ∧ s'.est = s.est ∧ s'.lp = s.lp ∧
      s'.ring = s.ring ∧ s'.can = s.can ∧ s'.px = s.px ∧ s'.flt = s.flt ∧ s'.sent = s.sent ∧ s'.mgmt = s.mgmt := by
  simp only [hostRegStartEffect] at h
  (repeat' split at h) <;> first | (cases h; done) | (cases h; simp)
@[simp] theorem hostRegStartEffect_keeps  :
    PxEffect.Keeps (hostRegStartEffect ) State.now ∧ PxEffect.Keeps (hostRegStartEffect ) State.ringOffset ∧
      PxEffect.Keeps (hostRegStartEffect ) State.pending ∧ PxEffect.Keeps (hostRegStartEffect ) State.pm ∧
      PxEffect.Keeps (hostRegStartEffect ) State.out ∧ PxEffect.Keeps (hostRegStartEffect ) State.trngCount ∧
      PxEffect.Keeps (hostRegStartEffect ) State.ident ∧ PxEffect.Keeps (hostRegStartEffect ) State.supply ∧
      PxEffect.Keeps (hostRegStartEffect ) State.md ∧ PxEffect.Keeps (hostRegStartEffect ) State.tm ∧
      PxEffect.Keeps (hostRegStartEffect ) State.hio ∧ PxEffect.Keeps (hostRegStartEffect ) State.est ∧
      PxEffect.Keeps (hostRegStartEffect ) State.lp ∧ PxEffect.Keeps (hostRegStartEffect ) State.ring ∧
      PxEffect.Keeps (hostRegStartEffect ) State.can ∧ PxEffect.Keeps (hostRegStartEffect ) State.px ∧
      PxEffect.Keeps (hostRegStartEffect ) State.flt ∧ PxEffect.Keeps (hostRegStartEffect ) State.sent ∧
      PxEffect.Keeps (hostRegStartEffect ) State.mgmt :=
  ⟨fun s s' h => (hostRegStartEffect_state  s s' h).1, fun s s' h => (hostRegStartEffect_state  s s' h).2.1, fun s s' h => (hostRegStartEffect_state  s s' h).2.2.1, fun s s' h => (hostRegStartEffect_state  s s' h).2.2.2.1, fun s s' h => (hostRegStartEffect_state  s s' h).2.2.2.2.1, fun s s' h => (hostRegStartEffect_state  s s' h).2.2.2.2.2.1, fun s s' h => (hostRegStartEffect_state  s s' h).2.2.2.2.2.2.1, fun s s' h => (hostRegStartEffect_state  s s' h).2.2.2.2.2.2.2.1, fun s s' h => (hostRegStartEffect_state  s s' h).2.2.2.2.2.2.2.2.1, fun s s' h => (hostRegStartEffect_state  s s' h).2.2.2.2.2.2.2.2.2.1, fun s s' h => (hostRegStartEffect_state  s s' h).2.2.2.2.2.2.2.2.2.2.1, fun s s' h => (hostRegStartEffect_state  s s' h).2.2.2.2.2.2.2.2.2.2.2.1, fun s s' h => (hostRegStartEffect_state  s s' h).2.2.2.2.2.2.2.2.2.2.2.2.1, fun s s' h => (hostRegStartEffect_state  s s' h).2.2.2.2.2.2.2.2.2.2.2.2.2.1, fun s s' h => (hostRegStartEffect_state  s s' h).2.2.2.2.2.2.2.2.2.2.2.2.2.2.1, fun s s' h => (hostRegStartEffect_state  s s' h).2.2.2.2.2.2.2.2.2.2.2.2.2.2.2.1, fun s s' h => (hostRegStartEffect_state  s s' h).2.2.2.2.2.2.2.2.2.2.2.2.2.2.2.2.1, fun s s' h => (hostRegStartEffect_state  s s' h).2.2.2.2.2.2.2.2.2.2.2.2.2.2.2.2.2.1, fun s s' h => (hostRegStartEffect_state  s s' h).2.2.2.2.2.2.2.2.2.2.2.2.2.2.2.2.2.2⟩
theorem planEffect_state (q : PxReq) (b : Bytes) (s s' : State) (h : (planEffect q b s).state? = some s') :
    s'.now = s.now ∧ s'.ringOffset = s.ringOffset ∧ s'.pending = s.pending ∧ s'.pm = s.pm ∧ s'.trngCount = s.trngCount ∧
      s'.supply = s.supply ∧ s'.aux = s.aux ∧ s'.itg = s.itg ∧ s'.est = s.est ∧ s'.lp = s.lp ∧ s'.px = s.px ∧ s'.sent = s.sent := by
  simp only [planEffect] at h
  (repeat' split at h) <;> first | (cases h; done) | (cases h; simp)
@[simp] theorem planEffect_keeps (q : PxReq) (b : Bytes) :
    PxEffect.Keeps (planEffect q b) State.now ∧ PxEffect.Keeps (planEffect q b) State.ringOffset ∧
      PxEffect.Keeps (planEffect q b) State.pending ∧ PxEffect.Keeps (planEffect q b) State.pm ∧
      PxEffect.Keeps (planEffect q b) State.trngCount ∧ PxEffect.Keeps (planEffect q b) State.supply ∧
      PxEffect.Keeps (planEffect q b) State.aux ∧ PxEffect.Keeps (planEffect q b) State.itg ∧ PxEffect.Keeps (planEffect q b) State.est ∧
      PxEffect.Keeps (planEffect q b) State.lp ∧ PxEffect.Keeps (planEffect q b) State.px ∧ PxEffect.Keeps (planEffect q b) State.sent :=
  ⟨fun s s' h => (planEffect_state q b s s' h).1, fun s s' h => (planEffect_state q b s s' h).2.1, fun s s' h => (planEffect_state q b s s' h).2.2.1, fun s s' h => (planEffect_state q b s s' h).2.2.2.1, fun s s' h => (planEffect_state q b s s' h).2.2.2.2.1, fun s s' h => (planEffect_state q b s s' h).2.2.2.2.2.1, fun s s' h => (planEffect_state q b s s' h).2.2.2.2.2.2.1, fun s s' h => (planEffect_state q b s s' h).2.2.2.2.2.2.2.1, fun s s' h => (planEffect_state q b s s' h).2.2.2.2.2.2.2.2.1, fun s s' h => (planEffect_state q b s s' h).2.2.2.2.2.2.2.2.2.1, fun s s' h => (planEffect_state q b s s' h).2.2.2.2.2.2.2.2.2.2.1, fun s s' h => (planEffect_state q b s s' h).2.2.2.2.2.2.2.2.2.2.2⟩
theorem balctrlEffect_state (dev v : Nat) (s s' : State) (h : (balctrlEffect dev v s).state? = some s') :
    s'.now = s.now ∧ s'.ringOffset = s.ringOffset ∧ s'.pending = s.pending ∧ s'.pm = s.pm ∧ s'.out = s.out ∧ s'.trngCount = s.trngCount ∧
      s'.ident = s.ident ∧ s'.supply = s.supply ∧ s'.md = s.md ∧ s'.tm = s.tm ∧ s'.meas = s.meas ∧ s'.itg = s.itg ∧ s'.hio = s.hio ∧
      s'.est = s.est ∧ s'.lp = s.lp ∧ s'.ring = s.ring ∧ s'.can = s.can ∧ s'.px = s.px ∧ s'.flt = s.flt ∧ s'.sent = s.sent ∧
      s'.rcd = s.rcd ∧ s'.mgmt = s.mgmt := by
  simp only [balctrlEffect] at h
  (repeat' split at h) <;> first | (cases h; done) | (cases h; simp)
@[simp] theorem balctrlEffect_keeps (dev v : Nat) :
    PxEffect.Keeps (balctrlEffect dev v) State.now ∧ PxEffect.Keeps (balctrlEffect dev v) State.ringOffset ∧
      PxEffect.Keeps (balctrlEffect dev v) State.pending ∧ PxEffect.Keeps (balctrlEffect dev v) State.pm ∧
      PxEffect.Keeps (balctrlEffect dev v) State.out ∧ PxEffect.Keeps (balctrlEffect dev v) State.trngCount ∧
      PxEffect.Keeps (balctrlEffect dev v) State.ident ∧ PxEffect.Keeps (balctrlEffect dev v) State.supply ∧
      PxEffect.Keeps (balctrlEffect dev v) State.md ∧ PxEffect.Keeps (balctrlEffect dev v) State.tm ∧
      PxEffect.Keeps (balctrlEffect dev v) State.meas ∧ PxEffect.Keeps (balctrlEffect dev v) State.itg ∧
      PxEffect.Keeps (balctrlEffect dev v) State.hio ∧ PxEffect.Keeps (balctrlEffect dev v) State.est ∧
      PxEffect.Keeps (balctrlEffect dev v) State.lp ∧ PxEffect.Keeps (balctrlEffect dev v) State.ring ∧
      PxEffect.Keeps (balctrlEffect dev v) State.can ∧ PxEffect.Keeps (balctrlEffect dev v) State.px ∧
      PxEffect.Keeps (balctrlEffect dev v) State.flt ∧ PxEffect.Keeps (balctrlEffect dev v) State.sent ∧
      PxEffect.Keeps (balctrlEffect dev v) State.rcd ∧ PxEffect.Keeps (balctrlEffect dev v) State.mgmt :=
  ⟨fun s s' h => (balctrlEffect_state dev v s s' h).1, fun s s' h => (balctrlEffect_state dev v s s' h).2.1, fun s s' h => (balctrlEffect_state dev v s s' h).2.2.1, fun s s' h => (balctrlEffect_state dev v s s' h).2.2.2.1, fun s s' h => (balctrlEffect_state dev v s s' h).2.2.2.2.1, fun s s' h => (balctrlEffect_state dev v s s' h).2.2.2.2.2.1, fun s s' h => (balctrlEffect_state dev v s s' h).2.2.2.2.2.2.1, fun s s' h => (balctrlEffect_state dev v s s' h).2.2.2.2.2.2.2.1, fun s s' h => (balctrlEffect_state dev v s s' h).2.2.2.2.2.2.2.2.1, fun s s' h => (balctrlEffect_state dev v s s' h).2.2.2.2.2.2.2.2.2.1, fun s s' h => (balctrlEffect_state dev v s s' h).2.2.2.2.2.2.2.2.2.2.1, fun s s' h => (balctrlEffect_state dev v s s' h).2.2.2.2.2.2.2.2.2.2.2.1, fun s s' h => (balctrlEffect_state dev v s s' h).2.2.2.2.2.2.2.2.2.2.2.2.1, fun s s' h => (balctrlEffect_state dev v s s' h).2.2.2.2.2.2.2.2.2.2.2.2.2.1, fun s s' h => (balctrlEffect_state dev v s s' h).2.2.2.2.2.2.2.2.2.2.2.2.2.2.1, fun s s' h => (balctrlEffect_state dev v s s' h).2.2.2.2.2.2.2.2.2.2.2.2.2.2.2.1, fun s s' h => (balctrlEffect_state dev v s s' h).2.2.2.2.2.2.2.2.2.2.2.2.2.2.2.2.1, fun s s' h => (balctrlEffect_state dev v s s' h).2.2.2.2.2.2.2.2.2.2.2.2.2.2.2.2.2.1, fun s s' h => (balctrlEffect_state dev v s s' h).2.2.2.2.2.2.2.2.2.2.2.2.2.2.2.2.2.2.1, fun s s' h => (balctrlEffect_state dev v s s' h).2.2.2.2.2.2.2.2.2.2.2.2.2.2.2.2.2.2.2.1, fun s s' h => (balctrlEffect_state dev v s s' h).2.2.2.2.2.2.2.2.2.2.2.2.2.2.2.2.2.2.2.2.1, fun s s' h => (balctrlEffect_state dev v s s' h).2.2.2.2.2.2.2.2.2.2.2.2.2.2.2.2.2.2.2.2.2⟩
theorem loopEnableEffect_state (i v : Nat) (s s' : State) (h : (loopEnableEffect i v s).state? = some s') :
    s'.now = s.now ∧ s'.ringOffset = s.ringOffset ∧ s'.pending = s.pending ∧ s'.pm = s.pm ∧ s'.out = s.out ∧ s'.trngCount = s.trngCount ∧
      s'.ident = s.ident ∧ s'.supply = s.supply ∧ s'.md = s.md ∧ s'.tm = s.tm ∧ s'.meas = s.meas ∧ s'.aux = s.aux ∧ s'.itg = s.itg ∧
      s'.bal = s.bal ∧ s'.hio = s.hio ∧ s'.est = s.est ∧ s'.ring = s.ring ∧ s'.can = s.can ∧ s'.px = s.px ∧ s'.flt = s.flt ∧
      s'.sent = s.sent ∧ s'.rcd = s.rcd ∧ s'.mgmt = s.mgmt := by
  simp only [loopEnableEffect] at h
  (repeat' split at h) <;> first | (cases h; done) | (cases h; simp)
@[simp] theorem loopEnableEffect_keeps (i v : Nat) :
    PxEffect.Keeps (loopEnableEffect i v) State.now ∧ PxEffect.Keeps (loopEnableEffect i v) State.ringOffset ∧
      PxEffect.Keeps (loopEnableEffect i v) State.pending ∧ PxEffect.Keeps (loopEnableEffect i v) State.pm ∧
      PxEffect.Keeps (loopEnableEffect i v) State.out ∧ PxEffect.Keeps (loopEnableEffect i v) State.trngCount ∧
      PxEffect.Keeps (loopEnableEffect i v) State.ident ∧ PxEffect.Keeps (loopEnableEffect i v) State.supply ∧
      PxEffect.Keeps (loopEnableEffect i v) State.md ∧ PxEffect.Keeps (loopEnableEffect i v) State.tm ∧
      PxEffect.Keeps (loopEnableEffect i v) State.meas ∧ PxEffect.Keeps (loopEnableEffect i v) State.aux ∧
      PxEffect.Keeps (loopEnableEffect i v) State.itg ∧ PxEffect.Keeps (loopEnableEffect i v) State.bal ∧
      PxEffect.Keeps (loopEnableEffect i v) State.hio ∧ PxEffect.Keeps (loopEnableEffect i v) State.est ∧
      PxEffect.Keeps (loopEnableEffect i v) State.ring ∧ PxEffect.Keeps (loopEnableEffect i v) State.can ∧
      PxEffect.Keeps (loopEnableEffect i v) State.px ∧ PxEffect.Keeps (loopEnableEffect i v) State.flt ∧
      PxEffect.Keeps (loopEnableEffect i v) State.sent ∧ PxEffect.Keeps (loopEnableEffect i v) State.rcd ∧
      PxEffect.Keeps (loopEnableEffect i v) State.mgmt :=
  ⟨fun s s' h => (loopEnableEffect_state i v s s' h).1, fun s s' h => (loopEnableEffect_state i v s s' h).2.1, fun s s' h => (loopEnableEffect_state i v s s' h).2.2.1, fun s s' h => (loopEnableEffect_state i v s s' h).2.2.2.1, fun s s' h => (loopEnableEffect_state i v s s' h).2.2.2.2.1, fun s s' h => (loopEnableEffect_state i v s s' h).2.2.2.2.2.1, fun s s' h => (loopEnableEffect_state i v s s' h).2.2.2.2.2.2.1, fun s s' h => (loopEnableEffect_state i v s s' h).2.2.2.2.2.2.2.1, fun s s' h => (loopEnableEffect_state i v s s' h).2.2.2.2.2.2.2.2.1, fun s s' h => (loopEnableEffect_state i v s s' h).2.2.2.2.2.2.2.2.2.1, fun s s' h => (loopEnableEffect_state i v s s' h).2.2.2.2.2.2.2.2.2.2.1, fun s s' h => (loopEnableEffect_state i v s s' h).2.2.2.2.2.2.2.2.2.2.2.1, fun s s' h => (loopEnableEffect_state i v s s' h).2.2.2.2.2.2.2.2.2.2.2.2.1, fun s s' h => (loopEnableEffect_state i v s s' h).2.2.2.2.2.2.2.2.2.2.2.2.2.1, fun s s' h => (loopEnableEffect_state i v s s' h).2.2.2.2.2.2.2.2.2.2.2.2.2.2.1, fun s s' h => (loopEnableEffect_state i v s s' h).2.2.2.2.2.2.2.2.2.2.2.2.2.2.2.1, fun s s' h => (loopEnableEffect_state i v s s' h).2.2.2.2.2.2.2.2.2.2.2.2.2.2.2.2.1, fun s s' h => (loopEnableEffect_state i v s s' h).2.2.2.2.2.2.2.2.2.2.2.2.2.2.2.2.2.1, fun s s' h => (loopEnableEffect_state i v s s' h).2.2.2.2.2.2.2.2.2.2.2.2.2.2.2.2.2.2.1, fun s s' h => (loopEnableEffect_state i v s s' h).2.2.2.2.2.2.2.2.2.2.2.2.2.2.2.2.2.2.2.1, fun s s' h => (loopEnableEffect_state i v s s' h).2.2.2.2.2.2.2.2.2.2.2.2.2.2.2.2.2.2.2.2.1, fun s s' h => (loopEnableEffect_state i v s s' h).2.2.2.2.2.2.2.2.2.2.2.2.2.2.2.2.2.2.2.2.2.1, fun s s' h => (loopEnableEffect_state i v s s' h).2.2.2.2.2.2.2.2.2.2.2.2.2.2.2.2.2.2.2.2.2.2⟩
theorem bankEffect_state (i : Nat) (b : Bool) (d : Bytes) (s s' : State) (h : (bankEffect i b d s).state? = some s') :
    s'.now = s.now ∧ s'.ringOffset = s.ringOffset ∧ s'.pending = s.pending ∧ s'.pm = s.pm ∧ s'.out = s.out ∧ s'.trngCount = s.trngCount ∧
      s'.ident = s.ident ∧ s'.supply = s.supply ∧ s'.md = s.md ∧ s'.tm = s.tm ∧ s'.meas = s.meas ∧ s'.aux = s.aux ∧ s'.itg = s.itg ∧
      s'.bal = s.bal ∧ s'.hio = s.hio ∧ s'.est = s.est ∧ s'.lp = s.lp ∧ s'.ring = s.ring ∧ s'.can = s.can ∧ s'.px = s.px ∧ s'.flt = s.flt ∧
      s'.sent = s.sent ∧ s'.rcd = s.rcd ∧ s'.mgmt = s.mgmt := by
  simp only [bankEffect] at h
  (repeat' split at h) <;> first | (cases h; done) | (cases h; simp)
@[simp] theorem bankEffect_keeps (i : Nat) (b : Bool) (d : Bytes) :
    PxEffect.Keeps (bankEffect i b d) State.now ∧ PxEffect.Keeps (bankEffect i b d) State.ringOffset ∧
      PxEffect.Keeps (bankEffect i b d) State.pending ∧ PxEffect.Keeps (bankEffect i b d) State.pm ∧
      PxEffect.Keeps (bankEffect i b d) State.out ∧ PxEffect.Keeps (bankEffect i b d) State.trngCount ∧
      PxEffect.Keeps (bankEffect i b d) State.ident ∧ PxEffect.Keeps (bankEffect i b d) State.supply ∧
      PxEffect.Keeps (bankEffect i b d) State.md ∧ PxEffect.Keeps (bankEffect i b d) State.tm ∧
      PxEffect.Keeps (bankEffect i b d) State.meas ∧ PxEffect.Keeps (bankEffect i b d) State.aux ∧
      PxEffect.Keeps (bankEffect i b d) State.itg ∧ PxEffect.Keeps (bankEffect i b d) State.bal ∧
      PxEffect.Keeps (bankEffect i b d) State.hio ∧ PxEffect.Keeps (bankEffect i b d) State.est ∧
      PxEffect.Keeps (bankEffect i b d) State.lp ∧ PxEffect.Keeps (bankEffect i b d) State.ring ∧
      PxEffect.Keeps (bankEffect i b d) State.can ∧ PxEffect.Keeps (bankEffect i b d) State.px ∧
      PxEffect.Keeps (bankEffect i b d) State.flt ∧ PxEffect.Keeps (bankEffect i b d) State.sent ∧
      PxEffect.Keeps (bankEffect i b d) State.rcd ∧ PxEffect.Keeps (bankEffect i b d) State.mgmt :=
  ⟨fun s s' h => (bankEffect_state i b d s s' h).1, fun s s' h => (bankEffect_state i b d s s' h).2.1, fun s s' h => (bankEffect_state i b d s s' h).2.2.1, fun s s' h => (bankEffect_state i b d s s' h).2.2.2.1, fun s s' h => (bankEffect_state i b d s s' h).2.2.2.2.1, fun s s' h => (bankEffect_state i b d s s' h).2.2.2.2.2.1, fun s s' h => (bankEffect_state i b d s s' h).2.2.2.2.2.2.1, fun s s' h => (bankEffect_state i b d s s' h).2.2.2.2.2.2.2.1, fun s s' h => (bankEffect_state i b d s s' h).2.2.2.2.2.2.2.2.1, fun s s' h => (bankEffect_state i b d s s' h).2.2.2.2.2.2.2.2.2.1, fun s s' h => (bankEffect_state i b d s s' h).2.2.2.2.2.2.2.2.2.2.1, fun s s' h => (bankEffect_state i b d s s' h).2.2.2.2.2.2.2.2.2.2.2.1, fun s s' h => (bankEffect_state i b d s s' h).2.2.2.2.2.2.2.2.2.2.2.2.1, fun s s' h => (bankEffect_state i b d s s' h).2.2.2.2.2.2.2.2.2.2.2.2.2.1, fun s s' h => (bankEffect_state i b d s s' h).2.2.2.2.2.2.2.2.2.2.2.2.2.2.1, fun s s' h => (bankEffect_state i b d s s' h).2.2.2.2.2.2.2.2.2.2.2.2.2.2.2.1, fun s s' h => (bankEffect_state i b d s s' h).2.2.2.2.2.2.2.2.2.2.2.2.2.2.2.2.1, fun s s' h => (bankEffect_state i b d s s' h).2.2.2.2.2.2.2.2.2.2.2.2.2.2.2.2.2.1, fun s s' h => (bankEffect_state i b d s s' h).2.2.2.2.2.2.2.2.2.2.2.2.2.2.2.2.2.2.1, fun s s' h => (bankEffect_state i b d s s' h).2.2.2.2.2.2.2.2.2.2.2.2.2.2.2.2.2.2.2.1, fun s s' h => (bankEffect_state i b d s s' h).2.2.2.2.2.2.2.2.2.2.2.2.2.2.2.2.2.2.2.2.1, fun s s' h => (bankEffect_state i b d s s' h).2.2.2.2.2.2.2.2.2.2.2.2.2.2.2.2.2.2.2.2.2.1, fun s s' h => (bankEffect_state i b d s s' h).2.2.2.2.2.2.2.2.2.2.2.2.2.2.2.2.2.2.2.2.2.2.1, fun s s' h => (bankEffect_state i b d s s' h).2.2.2.2.2.2.2.2.2.2.2.2.2.2.2.2.2.2.2.2.2.2.2⟩
theorem bankRequestEffect_state (i v : Nat) (s s' : State) (h : (bankRequestEffect i v s).state? = some s') :
    s'.now = s.now ∧ s'.ringOffset = s.ringOffset ∧ s'.pending = s.pending ∧ s'.pm = s.pm ∧ s'.out = s.out ∧ s'.trngCount = s.trngCount ∧
      s'.ident = s.ident ∧ s'.supply = s.supply ∧ s'.md = s.md ∧ s'.tm = s.tm ∧ s'.meas = s.meas ∧ s'.aux = s.aux ∧ s'.itg = s.itg ∧
      s'.bal = s.bal ∧ s'.hio = s.hio ∧ s'.est = s.est ∧ s'.ring = s.ring ∧ s'.can = s.can ∧ s'.px = s.px ∧ s'.flt = s.flt ∧
      s'.sent = s.sent ∧ s'.rcd = s.rcd ∧ s'.mgmt = s.mgmt := by
  simp only [bankRequestEffect] at h
  (repeat' split at h) <;> first | (cases h; done) | (cases h; simp)
@[simp] theorem bankRequestEffect_keeps (i v : Nat) :
    PxEffect.Keeps (bankRequestEffect i v) State.now ∧ PxEffect.Keeps (bankRequestEffect i v) State.ringOffset ∧
      PxEffect.Keeps (bankRequestEffect i v) State.pending ∧ PxEffect.Keeps (bankRequestEffect i v) State.pm ∧
      PxEffect.Keeps (bankRequestEffect i v) State.out ∧ PxEffect.Keeps (bankRequestEffect i v) State.trngCount ∧
      PxEffect.Keeps (bankRequestEffect i v) State.ident ∧ PxEffect.Keeps (bankRequestEffect i v) State.supply ∧
      PxEffect.Keeps (bankRequestEffect i v) State.md ∧ PxEffect.Keeps (bankRequestEffect i v) State.tm ∧
      PxEffect.Keeps (bankRequestEffect i v) State.meas ∧ PxEffect.Keeps (bankRequestEffect i v) State.aux ∧
      PxEffect.Keeps (bankRequestEffect i v) State.itg ∧ PxEffect.Keeps (bankRequestEffect i v) State.bal ∧
      PxEffect.Keeps (bankRequestEffect i v) State.hio ∧ PxEffect.Keeps (bankRequestEffect i v) State.est ∧
      PxEffect.Keeps (bankRequestEffect i v) State.ring ∧ PxEffect.Keeps (bankRequestEffect i v) State.can ∧
      PxEffect.Keeps (bankRequestEffect i v) State.px ∧ PxEffect.Keeps (bankRequestEffect i v) State.flt ∧
      PxEffect.Keeps (bankRequestEffect i v) State.sent ∧ PxEffect.Keeps (bankRequestEffect i v) State.rcd ∧
      PxEffect.Keeps (bankRequestEffect i v) State.mgmt :=
  ⟨fun s s' h => (bankRequestEffect_state i v s s' h).1, fun s s' h => (bankRequestEffect_state i v s s' h).2.1, fun s s' h => (bankRequestEffect_state i v s s' h).2.2.1, fun s s' h => (bankRequestEffect_state i v s s' h).2.2.2.1, fun s s' h => (bankRequestEffect_state i v s s' h).2.2.2.2.1, fun s s' h => (bankRequestEffect_state i v s s' h).2.2.2.2.2.1, fun s s' h => (bankRequestEffect_state i v s s' h).2.2.2.2.2.2.1, fun s s' h => (bankRequestEffect_state i v s s' h).2.2.2.2.2.2.2.1, fun s s' h => (bankRequestEffect_state i v s s' h).2.2.2.2.2.2.2.2.1, fun s s' h => (bankRequestEffect_state i v s s' h).2.2.2.2.2.2.2.2.2.1, fun s s' h => (bankRequestEffect_state i v s s' h).2.2.2.2.2.2.2.2.2.2.1, fun s s' h => (bankRequestEffect_state i v s s' h).2.2.2.2.2.2.2.2.2.2.2.1, fun s s' h => (bankRequestEffect_state i v s s' h).2.2.2.2.2.2.2.2.2.2.2.2.1, fun s s' h => (bankRequestEffect_state i v s s' h).2.2.2.2.2.2.2.2.2.2.2.2.2.1, fun s s' h => (bankRequestEffect_state i v s s' h).2.2.2.2.2.2.2.2.2.2.2.2.2.2.1, fun s s' h => (bankRequestEffect_state i v s s' h).2.2.2.2.2.2.2.2.2.2.2.2.2.2.2.1, fun s s' h => (bankRequestEffect_state i v s s' h).2.2.2.2.2.2.2.2.2.2.2.2.2.2.2.2.1, fun s s' h => (bankRequestEffect_state i v s s' h).2.2.2.2.2.2.2.2.2.2.2.2.2.2.2.2.2.1, fun s s' h => (bankRequestEffect_state i v s s' h).2.2.2.2.2.2.2.2.2.2.2.2.2.2.2.2.2.2.1, fun s s' h => (bankRequestEffect_state i v s s' h).2.2.2.2.2.2.2.2.2.2.2.2.2.2.2.2.2.2.2.1, fun s s' h => (bankRequestEffect_state i v s s' h).2.2.2.2.2.2.2.2.2.2.2.2.2.2.2.2.2.2.2.2.1, fun s s' h => (bankRequestEffect_state i v s s' h).2.2.2.2.2.2.2.2.2.2.2.2.2.2.2.2.2.2.2.2.2.1, fun s s' h => (bankRequestEffect_state i v s s' h).2.2.2.2.2.2.2.2.2.2.2.2.2.2.2.2.2.2.2.2.2.2⟩
theorem inputBindEffect_state (i : Nat) (d : Bytes) (s s' : State) (h : (inputBindEffect i d s).state? = some s') :
    s'.now = s.now ∧ s'.ringOffset = s.ringOffset ∧ s'.pending = s.pending ∧ s'.pm = s.pm ∧ s'.out = s.out ∧ s'.trngCount = s.trngCount ∧
      s'.ident = s.ident ∧ s'.supply = s.supply ∧ s'.md = s.md ∧ s'.tm = s.tm ∧ s'.meas = s.meas ∧ s'.aux = s.aux ∧ s'.itg = s.itg ∧
      s'.bal = s.bal ∧ s'.hio = s.hio ∧ s'.est = s.est ∧ s'.lp = s.lp ∧ s'.ring = s.ring ∧ s'.can = s.can ∧ s'.px = s.px ∧ s'.flt = s.flt ∧
      s'.sent = s.sent ∧ s'.rcd = s.rcd ∧ s'.mgmt = s.mgmt := by
  simp only [inputBindEffect] at h
  (repeat' split at h) <;> first | (cases h; done) | (cases h; simp)
@[simp] theorem inputBindEffect_keeps (i : Nat) (d : Bytes) :
    PxEffect.Keeps (inputBindEffect i d) State.now ∧ PxEffect.Keeps (inputBindEffect i d) State.ringOffset ∧
      PxEffect.Keeps (inputBindEffect i d) State.pending ∧ PxEffect.Keeps (inputBindEffect i d) State.pm ∧
      PxEffect.Keeps (inputBindEffect i d) State.out ∧ PxEffect.Keeps (inputBindEffect i d) State.trngCount ∧
      PxEffect.Keeps (inputBindEffect i d) State.ident ∧ PxEffect.Keeps (inputBindEffect i d) State.supply ∧
      PxEffect.Keeps (inputBindEffect i d) State.md ∧ PxEffect.Keeps (inputBindEffect i d) State.tm ∧
      PxEffect.Keeps (inputBindEffect i d) State.meas ∧ PxEffect.Keeps (inputBindEffect i d) State.aux ∧
      PxEffect.Keeps (inputBindEffect i d) State.itg ∧ PxEffect.Keeps (inputBindEffect i d) State.bal ∧
      PxEffect.Keeps (inputBindEffect i d) State.hio ∧ PxEffect.Keeps (inputBindEffect i d) State.est ∧
      PxEffect.Keeps (inputBindEffect i d) State.lp ∧ PxEffect.Keeps (inputBindEffect i d) State.ring ∧
      PxEffect.Keeps (inputBindEffect i d) State.can ∧ PxEffect.Keeps (inputBindEffect i d) State.px ∧
      PxEffect.Keeps (inputBindEffect i d) State.flt ∧ PxEffect.Keeps (inputBindEffect i d) State.sent ∧
      PxEffect.Keeps (inputBindEffect i d) State.rcd ∧ PxEffect.Keeps (inputBindEffect i d) State.mgmt :=
  ⟨fun s s' h => (inputBindEffect_state i d s s' h).1, fun s s' h => (inputBindEffect_state i d s s' h).2.1, fun s s' h => (inputBindEffect_state i d s s' h).2.2.1, fun s s' h => (inputBindEffect_state i d s s' h).2.2.2.1, fun s s' h => (inputBindEffect_state i d s s' h).2.2.2.2.1, fun s s' h => (inputBindEffect_state i d s s' h).2.2.2.2.2.1, fun s s' h => (inputBindEffect_state i d s s' h).2.2.2.2.2.2.1, fun s s' h => (inputBindEffect_state i d s s' h).2.2.2.2.2.2.2.1, fun s s' h => (inputBindEffect_state i d s s' h).2.2.2.2.2.2.2.2.1, fun s s' h => (inputBindEffect_state i d s s' h).2.2.2.2.2.2.2.2.2.1, fun s s' h => (inputBindEffect_state i d s s' h).2.2.2.2.2.2.2.2.2.2.1, fun s s' h => (inputBindEffect_state i d s s' h).2.2.2.2.2.2.2.2.2.2.2.1, fun s s' h => (inputBindEffect_state i d s s' h).2.2.2.2.2.2.2.2.2.2.2.2.1, fun s s' h => (inputBindEffect_state i d s s' h).2.2.2.2.2.2.2.2.2.2.2.2.2.1, fun s s' h => (inputBindEffect_state i d s s' h).2.2.2.2.2.2.2.2.2.2.2.2.2.2.1, fun s s' h => (inputBindEffect_state i d s s' h).2.2.2.2.2.2.2.2.2.2.2.2.2.2.2.1, fun s s' h => (inputBindEffect_state i d s s' h).2.2.2.2.2.2.2.2.2.2.2.2.2.2.2.2.1, fun s s' h => (inputBindEffect_state i d s s' h).2.2.2.2.2.2.2.2.2.2.2.2.2.2.2.2.2.1, fun s s' h => (inputBindEffect_state i d s s' h).2.2.2.2.2.2.2.2.2.2.2.2.2.2.2.2.2.2.1, fun s s' h => (inputBindEffect_state i d s s' h).2.2.2.2.2.2.2.2.2.2.2.2.2.2.2.2.2.2.2.1, fun s s' h => (inputBindEffect_state i d s s' h).2.2.2.2.2.2.2.2.2.2.2.2.2.2.2.2.2.2.2.2.1, fun s s' h => (inputBindEffect_state i d s s' h).2.2.2.2.2.2.2.2.2.2.2.2.2.2.2.2.2.2.2.2.2.1, fun s s' h => (inputBindEffect_state i d s s' h).2.2.2.2.2.2.2.2.2.2.2.2.2.2.2.2.2.2.2.2.2.2.1, fun s s' h => (inputBindEffect_state i d s s' h).2.2.2.2.2.2.2.2.2.2.2.2.2.2.2.2.2.2.2.2.2.2.2⟩
theorem outputBindEffect_state (i : Nat) (d : Bytes) (s s' : State) (h : (outputBindEffect i d s).state? = some s') :
    s'.now = s.now ∧ s'.ringOffset = s.ringOffset ∧ s'.pending = s.pending ∧ s'.pm = s.pm ∧ s'.out = s.out ∧ s'.trngCount = s.trngCount ∧
      s'.ident = s.ident ∧ s'.supply = s.supply ∧ s'.md = s.md ∧ s'.tm = s.tm ∧ s'.meas = s.meas ∧ s'.aux = s.aux ∧ s'.itg = s.itg ∧
      s'.bal = s.bal ∧ s'.hio = s.hio ∧ s'.est = s.est ∧ s'.lp = s.lp ∧ s'.ring = s.ring ∧ s'.can = s.can ∧ s'.px = s.px ∧ s'.flt = s.flt ∧
      s'.sent = s.sent ∧ s'.rcd = s.rcd ∧ s'.mgmt = s.mgmt := by
  simp only [outputBindEffect] at h
  (repeat' split at h) <;> first | (cases h; done) | (cases h; simp)
@[simp] theorem outputBindEffect_keeps (i : Nat) (d : Bytes) :
    PxEffect.Keeps (outputBindEffect i d) State.now ∧ PxEffect.Keeps (outputBindEffect i d) State.ringOffset ∧
      PxEffect.Keeps (outputBindEffect i d) State.pending ∧ PxEffect.Keeps (outputBindEffect i d) State.pm ∧
      PxEffect.Keeps (outputBindEffect i d) State.out ∧ PxEffect.Keeps (outputBindEffect i d) State.trngCount ∧
      PxEffect.Keeps (outputBindEffect i d) State.ident ∧ PxEffect.Keeps (outputBindEffect i d) State.supply ∧
      PxEffect.Keeps (outputBindEffect i d) State.md ∧ PxEffect.Keeps (outputBindEffect i d) State.tm ∧
      PxEffect.Keeps (outputBindEffect i d) State.meas ∧ PxEffect.Keeps (outputBindEffect i d) State.aux ∧
      PxEffect.Keeps (outputBindEffect i d) State.itg ∧ PxEffect.Keeps (outputBindEffect i d) State.bal ∧
      PxEffect.Keeps (outputBindEffect i d) State.hio ∧ PxEffect.Keeps (outputBindEffect i d) State.est ∧
      PxEffect.Keeps (outputBindEffect i d) State.lp ∧ PxEffect.Keeps (outputBindEffect i d) State.ring ∧
      PxEffect.Keeps (outputBindEffect i d) State.can ∧ PxEffect.Keeps (outputBindEffect i d) State.px ∧
      PxEffect.Keeps (outputBindEffect i d) State.flt ∧ PxEffect.Keeps (outputBindEffect i d) State.sent ∧
      PxEffect.Keeps (outputBindEffect i d) State.rcd ∧ PxEffect.Keeps (outputBindEffect i d) State.mgmt :=
  ⟨fun s s' h => (outputBindEffect_state i d s s' h).1, fun s s' h => (outputBindEffect_state i d s s' h).2.1, fun s s' h => (outputBindEffect_state i d s s' h).2.2.1, fun s s' h => (outputBindEffect_state i d s s' h).2.2.2.1, fun s s' h => (outputBindEffect_state i d s s' h).2.2.2.2.1, fun s s' h => (outputBindEffect_state i d s s' h).2.2.2.2.2.1, fun s s' h => (outputBindEffect_state i d s s' h).2.2.2.2.2.2.1, fun s s' h => (outputBindEffect_state i d s s' h).2.2.2.2.2.2.2.1, fun s s' h => (outputBindEffect_state i d s s' h).2.2.2.2.2.2.2.2.1, fun s s' h => (outputBindEffect_state i d s s' h).2.2.2.2.2.2.2.2.2.1, fun s s' h => (outputBindEffect_state i d s s' h).2.2.2.2.2.2.2.2.2.2.1, fun s s' h => (outputBindEffect_state i d s s' h).2.2.2.2.2.2.2.2.2.2.2.1, fun s s' h => (outputBindEffect_state i d s s' h).2.2.2.2.2.2.2.2.2.2.2.2.1, fun s s' h => (outputBindEffect_state i d s s' h).2.2.2.2.2.2.2.2.2.2.2.2.2.1, fun s s' h => (outputBindEffect_state i d s s' h).2.2.2.2.2.2.2.2.2.2.2.2.2.2.1, fun s s' h => (outputBindEffect_state i d s s' h).2.2.2.2.2.2.2.2.2.2.2.2.2.2.2.1, fun s s' h => (outputBindEffect_state i d s s' h).2.2.2.2.2.2.2.2.2.2.2.2.2.2.2.2.1, fun s s' h => (outputBindEffect_state i d s s' h).2.2.2.2.2.2.2.2.2.2.2.2.2.2.2.2.2.1, fun s s' h => (outputBindEffect_state i d s s' h).2.2.2.2.2.2.2.2.2.2.2.2.2.2.2.2.2.2.1, fun s s' h => (outputBindEffect_state i d s s' h).2.2.2.2.2.2.2.2.2.2.2.2.2.2.2.2.2.2.2.1, fun s s' h => (outputBindEffect_state i d s s' h).2.2.2.2.2.2.2.2.2.2.2.2.2.2.2.2.2.2.2.2.1, fun s s' h => (outputBindEffect_state i d s s' h).2.2.2.2.2.2.2.2.2.2.2.2.2.2.2.2.2.2.2.2.2.1, fun s s' h => (outputBindEffect_state i d s s' h).2.2.2.2.2.2.2.2.2.2.2.2.2.2.2.2.2.2.2.2.2.2.1, fun s s' h => (outputBindEffect_state i d s s' h).2.2.2.2.2.2.2.2.2.2.2.2.2.2.2.2.2.2.2.2.2.2.2⟩
theorem setpointEffect_state (i j : Nat) (v : BitVec 32) (s s' : State) (h : (setpointEffect i j v s).state? = some s') :
    s'.now = s.now ∧ s'.ringOffset = s.ringOffset ∧ s'.pending = s.pending ∧ s'.pm = s.pm ∧ s'.out = s.out ∧ s'.trngCount = s.trngCount ∧
      s'.ident = s.ident ∧ s'.supply = s.supply ∧ s'.md = s.md ∧ s'.tm = s.tm ∧ s'.meas = s.meas ∧ s'.aux = s.aux ∧ s'.itg = s.itg ∧
      s'.bal = s.bal ∧ s'.hio = s.hio ∧ s'.est = s.est ∧ s'.lp = s.lp ∧ s'.ring = s.ring ∧ s'.can = s.can ∧ s'.px = s.px ∧ s'.flt = s.flt ∧
      s'.sent = s.sent ∧ s'.rcd = s.rcd ∧ s'.mgmt = s.mgmt := by
  simp only [setpointEffect] at h
  (repeat' split at h) <;> first | (cases h; done) | (cases h; simp)
@[simp] theorem setpointEffect_keeps (i j : Nat) (v : BitVec 32) :
    PxEffect.Keeps (setpointEffect i j v) State.now ∧ PxEffect.Keeps (setpointEffect i j v) State.ringOffset ∧
      PxEffect.Keeps (setpointEffect i j v) State.pending ∧ PxEffect.Keeps (setpointEffect i j v) State.pm ∧
      PxEffect.Keeps (setpointEffect i j v) State.out ∧ PxEffect.Keeps (setpointEffect i j v) State.trngCount ∧
      PxEffect.Keeps (setpointEffect i j v) State.ident ∧ PxEffect.Keeps (setpointEffect i j v) State.supply ∧
      PxEffect.Keeps (setpointEffect i j v) State.md ∧ PxEffect.Keeps (setpointEffect i j v) State.tm ∧
      PxEffect.Keeps (setpointEffect i j v) State.meas ∧ PxEffect.Keeps (setpointEffect i j v) State.aux ∧
      PxEffect.Keeps (setpointEffect i j v) State.itg ∧ PxEffect.Keeps (setpointEffect i j v) State.bal ∧
      PxEffect.Keeps (setpointEffect i j v) State.hio ∧ PxEffect.Keeps (setpointEffect i j v) State.est ∧
      PxEffect.Keeps (setpointEffect i j v) State.lp ∧ PxEffect.Keeps (setpointEffect i j v) State.ring ∧
      PxEffect.Keeps (setpointEffect i j v) State.can ∧ PxEffect.Keeps (setpointEffect i j v) State.px ∧
      PxEffect.Keeps (setpointEffect i j v) State.flt ∧ PxEffect.Keeps (setpointEffect i j v) State.sent ∧
      PxEffect.Keeps (setpointEffect i j v) State.rcd ∧ PxEffect.Keeps (setpointEffect i j v) State.mgmt :=
  ⟨fun s s' h => (setpointEffect_state i j v s s' h).1, fun s s' h => (setpointEffect_state i j v s s' h).2.1, fun s s' h => (setpointEffect_state i j v s s' h).2.2.1, fun s s' h => (setpointEffect_state i j v s s' h).2.2.2.1, fun s s' h => (setpointEffect_state i j v s s' h).2.2.2.2.1, fun s s' h => (setpointEffect_state i j v s s' h).2.2.2.2.2.1, fun s s' h => (setpointEffect_state i j v s s' h).2.2.2.2.2.2.1, fun s s' h => (setpointEffect_state i j v s s' h).2.2.2.2.2.2.2.1, fun s s' h => (setpointEffect_state i j v s s' h).2.2.2.2.2.2.2.2.1, fun s s' h => (setpointEffect_state i j v s s' h).2.2.2.2.2.2.2.2.2.1, fun s s' h => (setpointEffect_state i j v s s' h).2.2.2.2.2.2.2.2.2.2.1, fun s s' h => (setpointEffect_state i j v s s' h).2.2.2.2.2.2.2.2.2.2.2.1, fun s s' h => (setpointEffect_state i j v s s' h).2.2.2.2.2.2.2.2.2.2.2.2.1, fun s s' h => (setpointEffect_state i j v s s' h).2.2.2.2.2.2.2.2.2.2.2.2.2.1, fun s s' h => (setpointEffect_state i j v s s' h).2.2.2.2.2.2.2.2.2.2.2.2.2.2.1, fun s s' h => (setpointEffect_state i j v s s' h).2.2.2.2.2.2.2.2.2.2.2.2.2.2.2.1, fun s s' h => (setpointEffect_state i j v s s' h).2.2.2.2.2.2.2.2.2.2.2.2.2.2.2.2.1, fun s s' h => (setpointEffect_state i j v s s' h).2.2.2.2.2.2.2.2.2.2.2.2.2.2.2.2.2.1, fun s s' h => (setpointEffect_state i j v s s' h).2.2.2.2.2.2.2.2.2.2.2.2.2.2.2.2.2.2.1, fun s s' h => (setpointEffect_state i j v s s' h).2.2.2.2.2.2.2.2.2.2.2.2.2.2.2.2.2.2.2.1, fun s s' h => (setpointEffect_state i j v s s' h).2.2.2.2.2.2.2.2.2.2.2.2.2.2.2.2.2.2.2.2.1, fun s s' h => (setpointEffect_state i j v s s' h).2.2.2.2.2.2.2.2.2.2.2.2.2.2.2.2.2.2.2.2.2.1, fun s s' h => (setpointEffect_state i j v s s' h).2.2.2.2.2.2.2.2.2.2.2.2.2.2.2.2.2.2.2.2.2.2.1, fun s s' h => (setpointEffect_state i j v s s' h).2.2.2.2.2.2.2.2.2.2.2.2.2.2.2.2.2.2.2.2.2.2.2⟩
theorem populatedCellsEffect_state  (s s' : State) (h : (populatedCellsEffect  s).state? = some s') :
    s'.now = s.now ∧ s'.ringOffset = s.ringOffset ∧ s'.pending = s.pending ∧ s'.dict = s.dict ∧ s'.pm = s.pm ∧ s'.out = s.out ∧
      s'.trngCount = s.trngCount ∧ s'.ident = s.ident ∧ s'.supply = s.supply ∧ s'.md = s.md ∧ s'.tm = s.tm ∧ s'.meas = s.meas ∧
      s'.aux = s.aux ∧ s'.itg = s.itg ∧ s'.bal = s.bal ∧ s'.hio = s.hio ∧ s'.est = s.est ∧ s'.lp = s.lp ∧ s'.ring = s.ring ∧
      s'.can = s.can ∧ s'.px = s.px ∧ s'.flt = s.flt ∧ s'.sent = s.sent ∧ s'.rcd = s.rcd ∧ s'.mgmt = s.mgmt := by
  simp only [populatedCellsEffect] at h
  (repeat' split at h) <;> first | (cases h; done) | (cases h; simp)
@[simp] theorem populatedCellsEffect_keeps  :
    PxEffect.Keeps (populatedCellsEffect ) State.now ∧ PxEffect.Keeps (populatedCellsEffect ) State.ringOffset ∧
      PxEffect.Keeps (populatedCellsEffect ) State.pending ∧ PxEffect.Keeps (populatedCellsEffect ) State.dict ∧
      PxEffect.Keeps (populatedCellsEffect ) State.pm ∧ PxEffect.Keeps (populatedCellsEffect ) State.out ∧
      PxEffect.Keeps (populatedCellsEffect ) State.trngCount ∧ PxEffect.Keeps (populatedCellsEffect ) State.ident ∧
      PxEffect.Keeps (populatedCellsEffect ) State.supply ∧ PxEffect.Keeps (populatedCellsEffect ) State.md ∧
      PxEffect.Keeps (populatedCellsEffect ) State.tm ∧ PxEffect.Keeps (populatedCellsEffect ) State.meas ∧
      PxEffect.Keeps (populatedCellsEffect ) State.aux ∧ PxEffect.Keeps (populatedCellsEffect ) State.itg ∧
      PxEffect.Keeps (populatedCellsEffect ) State.bal ∧ PxEffect.Keeps (populatedCellsEffect ) State.hio ∧
      PxEffect.Keeps (populatedCellsEffect ) State.est ∧ PxEffect.Keeps (populatedCellsEffect ) State.lp ∧
      PxEffect.Keeps (populatedCellsEffect ) State.ring ∧ PxEffect.Keeps (populatedCellsEffect ) State.can ∧
      PxEffect.Keeps (populatedCellsEffect ) State.px ∧ PxEffect.Keeps (populatedCellsEffect ) State.flt ∧
      PxEffect.Keeps (populatedCellsEffect ) State.sent ∧ PxEffect.Keeps (populatedCellsEffect ) State.rcd ∧
      PxEffect.Keeps (populatedCellsEffect ) State.mgmt :=
  ⟨fun s s' h => (populatedCellsEffect_state  s s' h).1, fun s s' h => (populatedCellsEffect_state  s s' h).2.1, fun s s' h => (populatedCellsEffect_state  s s' h).2.2.1, fun s s' h => (populatedCellsEffect_state  s s' h).2.2.2.1, fun s s' h => (populatedCellsEffect_state  s s' h).2.2.2.2.1, fun s s' h => (populatedCellsEffect_state  s s' h).2.2.2.2.2.1, fun s s' h => (populatedCellsEffect_state  s s' h).2.2.2.2.2.2.1, fun s s' h => (populatedCellsEffect_state  s s' h).2.2.2.2.2.2.2.1, fun s s' h => (populatedCellsEffect_state  s s' h).2.2.2.2.2.2.2.2.1, fun s s' h => (populatedCellsEffect_state  s s' h).2.2.2.2.2.2.2.2.2.1, fun s s' h => (populatedCellsEffect_state  s s' h).2.2.2.2.2.2.2.2.2.2.1, fun s s' h => (populatedCellsEffect_state  s s' h).2.2.2.2.2.2.2.2.2.2.2.1, fun s s' h => (populatedCellsEffect_state  s s' h).2.2.2.2.2.2.2.2.2.2.2.2.1, fun s s' h => (populatedCellsEffect_state  s s' h).2.2.2.2.2.2.2.2.2.2.2.2.2.1, fun s s' h => (populatedCellsEffect_state  s s' h).2.2.2.2.2.2.2.2.2.2.2.2.2.2.1, fun s s' h => (populatedCellsEffect_state  s s' h).2.2.2.2.2.2.2.2.2.2.2.2.2.2.2.1, fun s s' h => (populatedCellsEffect_state  s s' h).2.2.2.2.2.2.2.2.2.2.2.2.2.2.2.2.1, fun s s' h => (populatedCellsEffect_state  s s' h).2.2.2.2.2.2.2.2.2.2.2.2.2.2.2.2.2.1, fun s s' h => (populatedCellsEffect_state  s s' h).2.2.2.2.2.2.2.2.2.2.2.2.2.2.2.2.2.2.1, fun s s' h => (populatedCellsEffect_state  s s' h).2.2.2.2.2.2.2.2.2.2.2.2.2.2.2.2.2.2.2.1, fun s s' h => (populatedCellsEffect_state  s s' h).2.2.2.2.2.2.2.2.2.2.2.2.2.2.2.2.2.2.2.2.1, fun s s' h => (populatedCellsEffect_state  s s' h).2.2.2.2.2.2.2.2.2.2.2.2.2.2.2.2.2.2.2.2.2.1, fun s s' h => (populatedCellsEffect_state  s s' h).2.2.2.2.2.2.2.2.2.2.2.2.2.2.2.2.2.2.2.2.2.2.1, fun s s' h => (populatedCellsEffect_state  s s' h).2.2.2.2.2.2.2.2.2.2.2.2.2.2.2.2.2.2.2.2.2.2.2.1, fun s s' h => (populatedCellsEffect_state  s s' h).2.2.2.2.2.2.2.2.2.2.2.2.2.2.2.2.2.2.2.2.2.2.2.2⟩
theorem tripResetEffect_state  (s s' : State) (h : (tripResetEffect  s).state? = some s') :
    s'.now = s.now ∧ s'.ringOffset = s.ringOffset ∧ s'.pending = s.pending ∧ s'.pm = s.pm ∧ s'.trngCount = s.trngCount ∧
      s'.ident = s.ident ∧ s'.supply = s.supply ∧ s'.md = s.md ∧ s'.tm = s.tm ∧ s'.meas = s.meas ∧ s'.aux = s.aux ∧ s'.itg = s.itg ∧
      s'.bal = s.bal ∧ s'.est = s.est ∧ s'.lp = s.lp ∧ s'.px = s.px ∧ s'.sent = s.sent ∧ s'.rcd = s.rcd ∧ s'.mgmt = s.mgmt := by
  simp only [tripResetEffect] at h
  (repeat' split at h) <;> first | (cases h; done) | (cases h; simp)
@[simp] theorem tripResetEffect_keeps  :
    PxEffect.Keeps (tripResetEffect ) State.now ∧ PxEffect.Keeps (tripResetEffect ) State.ringOffset ∧
      PxEffect.Keeps (tripResetEffect ) State.pending ∧ PxEffect.Keeps (tripResetEffect ) State.pm ∧
      PxEffect.Keeps (tripResetEffect ) State.trngCount ∧ PxEffect.Keeps (tripResetEffect ) State.ident ∧
      PxEffect.Keeps (tripResetEffect ) State.supply ∧ PxEffect.Keeps (tripResetEffect ) State.md ∧
      PxEffect.Keeps (tripResetEffect ) State.tm ∧ PxEffect.Keeps (tripResetEffect ) State.meas ∧
      PxEffect.Keeps (tripResetEffect ) State.aux ∧ PxEffect.Keeps (tripResetEffect ) State.itg ∧
      PxEffect.Keeps (tripResetEffect ) State.bal ∧ PxEffect.Keeps (tripResetEffect ) State.est ∧
      PxEffect.Keeps (tripResetEffect ) State.lp ∧ PxEffect.Keeps (tripResetEffect ) State.px ∧
      PxEffect.Keeps (tripResetEffect ) State.sent ∧ PxEffect.Keeps (tripResetEffect ) State.rcd ∧ PxEffect.Keeps (tripResetEffect ) State.mgmt :=
  ⟨fun s s' h => (tripResetEffect_state  s s' h).1, fun s s' h => (tripResetEffect_state  s s' h).2.1, fun s s' h => (tripResetEffect_state  s s' h).2.2.1, fun s s' h => (tripResetEffect_state  s s' h).2.2.2.1, fun s s' h => (tripResetEffect_state  s s' h).2.2.2.2.1, fun s s' h => (tripResetEffect_state  s s' h).2.2.2.2.2.1, fun s s' h => (tripResetEffect_state  s s' h).2.2.2.2.2.2.1, fun s s' h => (tripResetEffect_state  s s' h).2.2.2.2.2.2.2.1, fun s s' h => (tripResetEffect_state  s s' h).2.2.2.2.2.2.2.2.1, fun s s' h => (tripResetEffect_state  s s' h).2.2.2.2.2.2.2.2.2.1, fun s s' h => (tripResetEffect_state  s s' h).2.2.2.2.2.2.2.2.2.2.1, fun s s' h => (tripResetEffect_state  s s' h).2.2.2.2.2.2.2.2.2.2.2.1, fun s s' h => (tripResetEffect_state  s s' h).2.2.2.2.2.2.2.2.2.2.2.2.1, fun s s' h => (tripResetEffect_state  s s' h).2.2.2.2.2.2.2.2.2.2.2.2.2.1, fun s s' h => (tripResetEffect_state  s s' h).2.2.2.2.2.2.2.2.2.2.2.2.2.2.1, fun s s' h => (tripResetEffect_state  s s' h).2.2.2.2.2.2.2.2.2.2.2.2.2.2.2.1, fun s s' h => (tripResetEffect_state  s s' h).2.2.2.2.2.2.2.2.2.2.2.2.2.2.2.2.1, fun s s' h => (tripResetEffect_state  s s' h).2.2.2.2.2.2.2.2.2.2.2.2.2.2.2.2.2.1, fun s s' h => (tripResetEffect_state  s s' h).2.2.2.2.2.2.2.2.2.2.2.2.2.2.2.2.2.2⟩
theorem closeEffect_state  (s s' : State) (h : (closeEffect  s).state? = some s') :
    s'.now = s.now ∧ s'.ringOffset = s.ringOffset ∧ s'.pending = s.pending ∧ s'.pm = s.pm ∧ s'.trngCount = s.trngCount ∧
      s'.ident = s.ident ∧ s'.supply = s.supply ∧ s'.md = s.md ∧ s'.tm = s.tm ∧ s'.aux = s.aux ∧ s'.itg = s.itg ∧ s'.bal = s.bal ∧
      s'.est = s.est ∧ s'.lp = s.lp ∧ s'.px = s.px ∧ s'.flt = s.flt ∧ s'.sent = s.sent ∧ s'.rcd = s.rcd ∧ s'.mgmt = s.mgmt := by
  simp only [closeEffect] at h
  (repeat' split at h) <;> first | (cases h; done) | (cases h; simp)
@[simp] theorem closeEffect_keeps  :
    PxEffect.Keeps (closeEffect ) State.now ∧ PxEffect.Keeps (closeEffect ) State.ringOffset ∧
      PxEffect.Keeps (closeEffect ) State.pending ∧ PxEffect.Keeps (closeEffect ) State.pm ∧
      PxEffect.Keeps (closeEffect ) State.trngCount ∧ PxEffect.Keeps (closeEffect ) State.ident ∧
      PxEffect.Keeps (closeEffect ) State.supply ∧ PxEffect.Keeps (closeEffect ) State.md ∧ PxEffect.Keeps (closeEffect ) State.tm ∧
      PxEffect.Keeps (closeEffect ) State.aux ∧ PxEffect.Keeps (closeEffect ) State.itg ∧ PxEffect.Keeps (closeEffect ) State.bal ∧
      PxEffect.Keeps (closeEffect ) State.est ∧ PxEffect.Keeps (closeEffect ) State.lp ∧ PxEffect.Keeps (closeEffect ) State.px ∧
      PxEffect.Keeps (closeEffect ) State.flt ∧ PxEffect.Keeps (closeEffect ) State.sent ∧ PxEffect.Keeps (closeEffect ) State.rcd ∧
      PxEffect.Keeps (closeEffect ) State.mgmt :=
  ⟨fun s s' h => (closeEffect_state  s s' h).1, fun s s' h => (closeEffect_state  s s' h).2.1, fun s s' h => (closeEffect_state  s s' h).2.2.1, fun s s' h => (closeEffect_state  s s' h).2.2.2.1, fun s s' h => (closeEffect_state  s s' h).2.2.2.2.1, fun s s' h => (closeEffect_state  s s' h).2.2.2.2.2.1, fun s s' h => (closeEffect_state  s s' h).2.2.2.2.2.2.1, fun s s' h => (closeEffect_state  s s' h).2.2.2.2.2.2.2.1, fun s s' h => (closeEffect_state  s s' h).2.2.2.2.2.2.2.2.1, fun s s' h => (closeEffect_state  s s' h).2.2.2.2.2.2.2.2.2.1, fun s s' h => (closeEffect_state  s s' h).2.2.2.2.2.2.2.2.2.2.1, fun s s' h => (closeEffect_state  s s' h).2.2.2.2.2.2.2.2.2.2.2.1, fun s s' h => (closeEffect_state  s s' h).2.2.2.2.2.2.2.2.2.2.2.2.1, fun s s' h => (closeEffect_state  s s' h).2.2.2.2.2.2.2.2.2.2.2.2.2.1, fun s s' h => (closeEffect_state  s s' h).2.2.2.2.2.2.2.2.2.2.2.2.2.2.1, fun s s' h => (closeEffect_state  s s' h).2.2.2.2.2.2.2.2.2.2.2.2.2.2.2.1, fun s s' h => (closeEffect_state  s s' h).2.2.2.2.2.2.2.2.2.2.2.2.2.2.2.2.1, fun s s' h => (closeEffect_state  s s' h).2.2.2.2.2.2.2.2.2.2.2.2.2.2.2.2.2.1, fun s s' h => (closeEffect_state  s s' h).2.2.2.2.2.2.2.2.2.2.2.2.2.2.2.2.2.2⟩
theorem openEffect_state  (s s' : State) (h : (openEffect  s).state? = some s') :
    s'.now = s.now ∧ s'.ringOffset = s.ringOffset ∧ s'.pending = s.pending ∧ s'.pm = s.pm ∧ s'.trngCount = s.trngCount ∧
      s'.ident = s.ident ∧ s'.supply = s.supply ∧ s'.md = s.md ∧ s'.tm = s.tm ∧ s'.meas = s.meas ∧ s'.aux = s.aux ∧ s'.itg = s.itg ∧
      s'.bal = s.bal ∧ s'.est = s.est ∧ s'.lp = s.lp ∧ s'.px = s.px ∧ s'.flt = s.flt ∧ s'.sent = s.sent ∧ s'.rcd = s.rcd ∧ s'.mgmt = s.mgmt := by
  simp only [openEffect] at h
  (repeat' split at h) <;> first | (cases h; done) | (cases h; simp)
@[simp] theorem openEffect_keeps  :
    PxEffect.Keeps (openEffect ) State.now ∧ PxEffect.Keeps (openEffect ) State.ringOffset ∧ PxEffect.Keeps (openEffect ) State.pending ∧
      PxEffect.Keeps (openEffect ) State.pm ∧ PxEffect.Keeps (openEffect ) State.trngCount ∧ PxEffect.Keeps (openEffect ) State.ident ∧
      PxEffect.Keeps (openEffect ) State.supply ∧ PxEffect.Keeps (openEffect ) State.md ∧ PxEffect.Keeps (openEffect ) State.tm ∧
      PxEffect.Keeps (openEffect ) State.meas ∧ PxEffect.Keeps (openEffect ) State.aux ∧ PxEffect.Keeps (openEffect ) State.itg ∧
      PxEffect.Keeps (openEffect ) State.bal ∧ PxEffect.Keeps (openEffect ) State.est ∧ PxEffect.Keeps (openEffect ) State.lp ∧
      PxEffect.Keeps (openEffect ) State.px ∧ PxEffect.Keeps (openEffect ) State.flt ∧ PxEffect.Keeps (openEffect ) State.sent ∧
      PxEffect.Keeps (openEffect ) State.rcd ∧ PxEffect.Keeps (openEffect ) State.mgmt :=
  ⟨fun s s' h => (openEffect_state  s s' h).1, fun s s' h => (openEffect_state  s s' h).2.1, fun s s' h => (openEffect_state  s s' h).2.2.1, fun s s' h => (openEffect_state  s s' h).2.2.2.1, fun s s' h => (openEffect_state  s s' h).2.2.2.2.1, fun s s' h => (openEffect_state  s s' h).2.2.2.2.2.1, fun s s' h => (openEffect_state  s s' h).2.2.2.2.2.2.1, fun s s' h => (openEffect_state  s s' h).2.2.2.2.2.2.2.1, fun s s' h => (openEffect_state  s s' h).2.2.2.2.2.2.2.2.1, fun s s' h => (openEffect_state  s s' h).2.2.2.2.2.2.2.2.2.1, fun s s' h => (openEffect_state  s s' h).2.2.2.2.2.2.2.2.2.2.1, fun s s' h => (openEffect_state  s s' h).2.2.2.2.2.2.2.2.2.2.2.1, fun s s' h => (openEffect_state  s s' h).2.2.2.2.2.2.2.2.2.2.2.2.1, fun s s' h => (openEffect_state  s s' h).2.2.2.2.2.2.2.2.2.2.2.2.2.1, fun s s' h => (openEffect_state  s s' h).2.2.2.2.2.2.2.2.2.2.2.2.2.2.1, fun s s' h => (openEffect_state  s s' h).2.2.2.2.2.2.2.2.2.2.2.2.2.2.2.1, fun s s' h => (openEffect_state  s s' h).2.2.2.2.2.2.2.2.2.2.2.2.2.2.2.2.1, fun s s' h => (openEffect_state  s s' h).2.2.2.2.2.2.2.2.2.2.2.2.2.2.2.2.2.1, fun s s' h => (openEffect_state  s s' h).2.2.2.2.2.2.2.2.2.2.2.2.2.2.2.2.2.2.1, fun s s' h => (openEffect_state  s s' h).2.2.2.2.2.2.2.2.2.2.2.2.2.2.2.2.2.2.2⟩
theorem contactorEffect_state (v : Nat) (s s' : State) (h : (contactorEffect v s).state? = some s') :
    s'.now = s.now ∧ s'.ringOffset = s.ringOffset ∧ s'.pending = s.pending ∧ s'.pm = s.pm ∧ s'.trngCount = s.trngCount ∧
      s'.ident = s.ident ∧ s'.supply = s.supply ∧ s'.md = s.md ∧ s'.tm = s.tm ∧ s'.aux = s.aux ∧ s'.itg = s.itg ∧ s'.bal = s.bal ∧
      s'.est = s.est ∧ s'.lp = s.lp ∧ s'.px = s.px ∧ s'.flt = s.flt ∧ s'.sent = s.sent ∧ s'.rcd = s.rcd ∧ s'.mgmt = s.mgmt := by
  unfold contactorEffect at h
  split at h
  · have := closeEffect_state _ _ h; simp_all
  · have := openEffect_state _ _ h; simp_all
@[simp] theorem contactorEffect_keeps (v : Nat) :
    PxEffect.Keeps (contactorEffect v) State.now ∧ PxEffect.Keeps (contactorEffect v) State.ringOffset ∧
      PxEffect.Keeps (contactorEffect v) State.pending ∧ PxEffect.Keeps (contactorEffect v) State.pm ∧
      PxEffect.Keeps (contactorEffect v) State.trngCount ∧ PxEffect.Keeps (contactorEffect v) State.ident ∧
      PxEffect.Keeps (contactorEffect v) State.supply ∧ PxEffect.Keeps (contactorEffect v) State.md ∧
      PxEffect.Keeps (contactorEffect v) State.tm ∧ PxEffect.Keeps (contactorEffect v) State.aux ∧
      PxEffect.Keeps (contactorEffect v) State.itg ∧ PxEffect.Keeps (contactorEffect v) State.bal ∧
      PxEffect.Keeps (contactorEffect v) State.est ∧ PxEffect.Keeps (contactorEffect v) State.lp ∧
      PxEffect.Keeps (contactorEffect v) State.px ∧ PxEffect.Keeps (contactorEffect v) State.flt ∧
      PxEffect.Keeps (contactorEffect v) State.sent ∧ PxEffect.Keeps (contactorEffect v) State.rcd ∧ PxEffect.Keeps (contactorEffect v) State.mgmt :=
  ⟨fun s s' h => (contactorEffect_state v s s' h).1, fun s s' h => (contactorEffect_state v s s' h).2.1, fun s s' h => (contactorEffect_state v s s' h).2.2.1, fun s s' h => (contactorEffect_state v s s' h).2.2.2.1, fun s s' h => (contactorEffect_state v s s' h).2.2.2.2.1, fun s s' h => (contactorEffect_state v s s' h).2.2.2.2.2.1, fun s s' h => (contactorEffect_state v s s' h).2.2.2.2.2.2.1, fun s s' h => (contactorEffect_state v s s' h).2.2.2.2.2.2.2.1, fun s s' h => (contactorEffect_state v s s' h).2.2.2.2.2.2.2.2.1, fun s s' h => (contactorEffect_state v s s' h).2.2.2.2.2.2.2.2.2.1, fun s s' h => (contactorEffect_state v s s' h).2.2.2.2.2.2.2.2.2.2.1, fun s s' h => (contactorEffect_state v s s' h).2.2.2.2.2.2.2.2.2.2.2.1, fun s s' h => (contactorEffect_state v s s' h).2.2.2.2.2.2.2.2.2.2.2.2.1, fun s s' h => (contactorEffect_state v s s' h).2.2.2.2.2.2.2.2.2.2.2.2.2.1, fun s s' h => (contactorEffect_state v s s' h).2.2.2.2.2.2.2.2.2.2.2.2.2.2.1, fun s s' h => (contactorEffect_state v s s' h).2.2.2.2.2.2.2.2.2.2.2.2.2.2.2.1, fun s s' h => (contactorEffect_state v s s' h).2.2.2.2.2.2.2.2.2.2.2.2.2.2.2.2.1, fun s s' h => (contactorEffect_state v s s' h).2.2.2.2.2.2.2.2.2.2.2.2.2.2.2.2.2.1, fun s s' h => (contactorEffect_state v s s' h).2.2.2.2.2.2.2.2.2.2.2.2.2.2.2.2.2.2⟩
theorem protEffect_state (o : ObjDef) (j : Nat) (fromHead : Bool) (d : Bytes) (s s' : State) (h : (protEffect o j fromHead d s).state? = some s') :
    s'.now = s.now ∧ s'.ringOffset = s.ringOffset ∧ s'.pending = s.pending ∧ s'.pm = s.pm ∧ s'.out = s.out ∧ s'.trngCount = s.trngCount ∧
      s'.ident = s.ident ∧ s'.supply = s.supply ∧ s'.md = s.md ∧ s'.tm = s.tm ∧ s'.meas = s.meas ∧ s'.aux = s.aux ∧ s'.itg = s.itg ∧
      s'.bal = s.bal ∧ s'.hio = s.hio ∧ s'.est = s.est ∧ s'.lp = s.lp ∧ s'.ring = s.ring ∧ s'.can = s.can ∧ s'.px = s.px ∧ s'.flt = s.flt ∧
      s'.sent = s.sent ∧ s'.rcd = s.rcd ∧ s'.mgmt = s.mgmt := by
  simp only [protEffect] at h
  (repeat' split at h) <;> first | (cases h; done) | (cases h; simp)
@[simp] theorem protEffect_keeps (o : ObjDef) (j : Nat) (fromHead : Bool) (d : Bytes) :
    PxEffect.Keeps (protEffect o j fromHead d) State.now ∧ PxEffect.Keeps (protEffect o j fromHead d) State.ringOffset ∧
      PxEffect.Keeps (protEffect o j fromHead d) State.pending ∧ PxEffect.Keeps (protEffect o j fromHead d) State.pm ∧
      PxEffect.Keeps (protEffect o j fromHead d) State.out ∧ PxEffect.Keeps (protEffect o j fromHead d) State.trngCount ∧
      PxEffect.Keeps (protEffect o j fromHead d) State.ident ∧ PxEffect.Keeps (protEffect o j fromHead d) State.supply ∧
      PxEffect.Keeps (protEffect o j fromHead d) State.md ∧ PxEffect.Keeps (protEffect o j fromHead d) State.tm ∧
      PxEffect.Keeps (protEffect o j fromHead d) State.meas ∧ PxEffect.Keeps (protEffect o j fromHead d) State.aux ∧
      PxEffect.Keeps (protEffect o j fromHead d) State.itg ∧ PxEffect.Keeps (protEffect o j fromHead d) State.bal ∧
      PxEffect.Keeps (protEffect o j fromHead d) State.hio ∧ PxEffect.Keeps (protEffect o j fromHead d) State.est ∧
      PxEffect.Keeps (protEffect o j fromHead d) State.lp ∧ PxEffect.Keeps (protEffect o j fromHead d) State.ring ∧
      PxEffect.Keeps (protEffect o j fromHead d) State.can ∧ PxEffect.Keeps (protEffect o j fromHead d) State.px ∧
      PxEffect.Keeps (protEffect o j fromHead d) State.flt ∧ PxEffect.Keeps (protEffect o j fromHead d) State.sent ∧
      PxEffect.Keeps (protEffect o j fromHead d) State.rcd ∧ PxEffect.Keeps (protEffect o j fromHead d) State.mgmt :=
  ⟨fun s s' h => (protEffect_state o j fromHead d s s' h).1, fun s s' h => (protEffect_state o j fromHead d s s' h).2.1, fun s s' h => (protEffect_state o j fromHead d s s' h).2.2.1, fun s s' h => (protEffect_state o j fromHead d s s' h).2.2.2.1, fun s s' h => (protEffect_state o j fromHead d s s' h).2.2.2.2.1, fun s s' h => (protEffect_state o j fromHead d s s' h).2.2.2.2.2.1, fun s s' h => (protEffect_state o j fromHead d s s' h).2.2.2.2.2.2.1, fun s s' h => (protEffect_state o j fromHead d s s' h).2.2.2.2.2.2.2.1, fun s s' h => (protEffect_state o j fromHead d s s' h).2.2.2.2.2.2.2.2.1, fun s s' h => (protEffect_state o j fromHead d s s' h).2.2.2.2.2.2.2.2.2.1, fun s s' h => (protEffect_state o j fromHead d s s' h).2.2.2.2.2.2.2.2.2.2.1, fun s s' h => (protEffect_state o j fromHead d s s' h).2.2.2.2.2.2.2.2.2.2.2.1, fun s s' h => (protEffect_state o j fromHead d s s' h).2.2.2.2.2.2.2.2.2.2.2.2.1, fun s s' h => (protEffect_state o j fromHead d s s' h).2.2.2.2.2.2.2.2.2.2.2.2.2.1, fun s s' h => (protEffect_state o j fromHead d s s' h).2.2.2.2.2.2.2.2.2.2.2.2.2.2.1, fun s s' h => (protEffect_state o j fromHead d s s' h).2.2.2.2.2.2.2.2.2.2.2.2.2.2.2.1, fun s s' h => (protEffect_state o j fromHead d s s' h).2.2.2.2.2.2.2.2.2.2.2.2.2.2.2.2.1, fun s s' h => (protEffect_state o j fromHead d s s' h).2.2.2.2.2.2.2.2.2.2.2.2.2.2.2.2.2.1, fun s s' h => (protEffect_state o j fromHead d s s' h).2.2.2.2.2.2.2.2.2.2.2.2.2.2.2.2.2.2.1, fun s s' h => (protEffect_state o j fromHead d s s' h).2.2.2.2.2.2.2.2.2.2.2.2.2.2.2.2.2.2.2.1, fun s s' h => (protEffect_state o j fromHead d s s' h).2.2.2.2.2.2.2.2.2.2.2.2.2.2.2.2.2.2.2.2.1, fun s s' h => (protEffect_state o j fromHead d s s' h).2.2.2.2.2.2.2.2.2.2.2.2.2.2.2.2.2.2.2.2.2.1, fun s s' h => (protEffect_state o j fromHead d s s' h).2.2.2.2.2.2.2.2.2.2.2.2.2.2.2.2.2.2.2.2.2.2.1, fun s s' h => (protEffect_state o j fromHead d s s' h).2.2.2.2.2.2.2.2.2.2.2.2.2.2.2.2.2.2.2.2.2.2.2⟩
theorem firstMoveEffect_state  (s s' : State) (h : (firstMoveEffect  s).state? = some s') :
    s'.now = s.now ∧ s'.ringOffset = s.ringOffset ∧ s'.pending = s.pending ∧ s'.pm = s.pm ∧ s'.out = s.out ∧ s'.trngCount = s.trngCount ∧
      s'.ident = s.ident ∧ s'.supply = s.supply ∧ s'.md = s.md ∧ s'.tm = s.tm ∧ s'.meas = s.meas ∧ s'.aux = s.aux ∧ s'.itg = s.itg ∧
      s'.bal = s.bal ∧ s'.hio = s.hio ∧ s'.est = s.est ∧ s'.lp = s.lp ∧ s'.ring = s.ring ∧ s'.can = s.can ∧ s'.px = s.px ∧
      s'.sent = s.sent ∧ s'.mgmt = s.mgmt := by
  simp only [firstMoveEffect] at h
  (repeat' split at h) <;> first | (cases h; done) | (cases h; simp)
@[simp] theorem firstMoveEffect_keeps  :
    PxEffect.Keeps (firstMoveEffect ) State.now ∧ PxEffect.Keeps (firstMoveEffect ) State.ringOffset ∧
      PxEffect.Keeps (firstMoveEffect ) State.pending ∧ PxEffect.Keeps (firstMoveEffect ) State.pm ∧
      PxEffect.Keeps (firstMoveEffect ) State.out ∧ PxEffect.Keeps (firstMoveEffect ) State.trngCount ∧
      PxEffect.Keeps (firstMoveEffect ) State.ident ∧ PxEffect.Keeps (firstMoveEffect ) State.supply ∧
      PxEffect.Keeps (firstMoveEffect ) State.md ∧ PxEffect.Keeps (firstMoveEffect ) State.tm ∧
      PxEffect.Keeps (firstMoveEffect ) State.meas ∧ PxEffect.Keeps (firstMoveEffect ) State.aux ∧
      PxEffect.Keeps (firstMoveEffect ) State.itg ∧ PxEffect.Keeps (firstMoveEffect ) State.bal ∧
      PxEffect.Keeps (firstMoveEffect ) State.hio ∧ PxEffect.Keeps (firstMoveEffect ) State.est ∧
      PxEffect.Keeps (firstMoveEffect ) State.lp ∧ PxEffect.Keeps (firstMoveEffect ) State.ring ∧
      PxEffect.Keeps (firstMoveEffect ) State.can ∧ PxEffect.Keeps (firstMoveEffect ) State.px ∧
      PxEffect.Keeps (firstMoveEffect ) State.sent ∧ PxEffect.Keeps (firstMoveEffect ) State.mgmt :=
  ⟨fun s s' h => (firstMoveEffect_state  s s' h).1, fun s s' h => (firstMoveEffect_state  s s' h).2.1, fun s s' h => (firstMoveEffect_state  s s' h).2.2.1, fun s s' h => (firstMoveEffect_state  s s' h).2.2.2.1, fun s s' h => (firstMoveEffect_state  s s' h).2.2.2.2.1, fun s s' h => (firstMoveEffect_state  s s' h).2.2.2.2.2.1, fun s s' h => (firstMoveEffect_state  s s' h).2.2.2.2.2.2.1, fun s s' h => (firstMoveEffect_state  s s' h).2.2.2.2.2.2.2.1, fun s s' h => (firstMoveEffect_state  s s' h).2.2.2.2.2.2.2.2.1, fun s s' h => (firstMoveEffect_state  s s' h).2.2.2.2.2.2.2.2.2.1, fun s s' h => (firstMoveEffect_state  s s' h).2.2.2.2.2.2.2.2.2.2.1, fun s s' h => (firstMoveEffect_state  s s' h).2.2.2.2.2.2.2.2.2.2.2.1, fun s s' h => (firstMoveEffect_state  s s' h).2.2.2.2.2.2.2.2.2.2.2.2.1, fun s s' h => (firstMoveEffect_state  s s' h).2.2.2.2.2.2.2.2.2.2.2.2.2.1, fun s s' h => (firstMoveEffect_state  s s' h).2.2.2.2.2.2.2.2.2.2.2.2.2.2.1, fun s s' h => (firstMoveEffect_state  s s' h).2.2.2.2.2.2.2.2.2.2.2.2.2.2.2.1, fun s s' h => (firstMoveEffect_state  s s' h).2.2.2.2.2.2.2.2.2.2.2.2.2.2.2.2.1, fun s s' h => (firstMoveEffect_state  s s' h).2.2.2.2.2.2.2.2.2.2.2.2.2.2.2.2.2.1, fun s s' h => (firstMoveEffect_state  s s' h).2.2.2.2.2.2.2.2.2.2.2.2.2.2.2.2.2.2.1, fun s s' h => (firstMoveEffect_state  s s' h).2.2.2.2.2.2.2.2.2.2.2.2.2.2.2.2.2.2.2.1, fun s s' h => (firstMoveEffect_state  s s' h).2.2.2.2.2.2.2.2.2.2.2.2.2.2.2.2.2.2.2.2.1, fun s s' h => (firstMoveEffect_state  s s' h).2.2.2.2.2.2.2.2.2.2.2.2.2.2.2.2.2.2.2.2.2⟩
theorem pendingEffect_state (j v : Nat) (s s' : State) (h : (pendingEffect j v s).state? = some s') :
    s'.now = s.now ∧ s'.ringOffset = s.ringOffset ∧ s'.pending = s.pending ∧ s'.dict = s.dict ∧ s'.pm = s.pm ∧ s'.out = s.out ∧
      s'.trngCount = s.trngCount ∧ s'.ident = s.ident ∧ s'.supply = s.supply ∧ s'.md = s.md ∧ s'.tm = s.tm ∧ s'.meas = s.meas ∧
      s'.aux = s.aux ∧ s'.itg = s.itg ∧ s'.bal = s.bal ∧ s'.hio = s.hio ∧ s'.est = s.est ∧ s'.lp = s.lp ∧ s'.ring = s.ring ∧
      s'.can = s.can ∧ s'.px = s.px ∧ s'.sent = s.sent ∧ s'.rcd = s.rcd ∧ s'.mgmt = s.mgmt := by
  simp only [pendingEffect] at h
  (repeat' split at h) <;> first | (cases h; done) | (cases h; simp)
@[simp] theorem pendingEffect_keeps (j v : Nat) :
    PxEffect.Keeps (pendingEffect j v) State.now ∧ PxEffect.Keeps (pendingEffect j v) State.ringOffset ∧
      PxEffect.Keeps (pendingEffect j v) State.pending ∧ PxEffect.Keeps (pendingEffect j v) State.dict ∧
      PxEffect.Keeps (pendingEffect j v) State.pm ∧ PxEffect.Keeps (pendingEffect j v) State.out ∧
      PxEffect.Keeps (pendingEffect j v) State.trngCount ∧ PxEffect.Keeps (pendingEffect j v) State.ident ∧
      PxEffect.Keeps (pendingEffect j v) State.supply ∧ PxEffect.Keeps (pendingEffect j v) State.md ∧
      PxEffect.Keeps (pendingEffect j v) State.tm ∧ PxEffect.Keeps (pendingEffect j v) State.meas ∧
      PxEffect.Keeps (pendingEffect j v) State.aux ∧ PxEffect.Keeps (pendingEffect j v) State.itg ∧
      PxEffect.Keeps (pendingEffect j v) State.bal ∧ PxEffect.Keeps (pendingEffect j v) State.hio ∧
      PxEffect.Keeps (pendingEffect j v) State.est ∧ PxEffect.Keeps (pendingEffect j v) State.lp ∧
      PxEffect.Keeps (pendingEffect j v) State.ring ∧ PxEffect.Keeps (pendingEffect j v) State.can ∧
      PxEffect.Keeps (pendingEffect j v) State.px ∧ PxEffect.Keeps (pendingEffect j v) State.sent ∧
      PxEffect.Keeps (pendingEffect j v) State.rcd ∧ PxEffect.Keeps (pendingEffect j v) State.mgmt :=
  ⟨fun s s' h => (pendingEffect_state j v s s' h).1, fun s s' h => (pendingEffect_state j v s s' h).2.1, fun s s' h => (pendingEffect_state j v s s' h).2.2.1, fun s s' h => (pendingEffect_state j v s s' h).2.2.2.1, fun s s' h => (pendingEffect_state j v s s' h).2.2.2.2.1, fun s s' h => (pendingEffect_state j v s s' h).2.2.2.2.2.1, fun s s' h => (pendingEffect_state j v s s' h).2.2.2.2.2.2.1, fun s s' h => (pendingEffect_state j v s s' h).2.2.2.2.2.2.2.1, fun s s' h => (pendingEffect_state j v s s' h).2.2.2.2.2.2.2.2.1, fun s s' h => (pendingEffect_state j v s s' h).2.2.2.2.2.2.2.2.2.1, fun s s' h => (pendingEffect_state j v s s' h).2.2.2.2.2.2.2.2.2.2.1, fun s s' h => (pendingEffect_state j v s s' h).2.2.2.2.2.2.2.2.2.2.2.1, fun s s' h => (pendingEffect_state j v s s' h).2.2.2.2.2.2.2.2.2.2.2.2.1, fun s s' h => (pendingEffect_state j v s s' h).2.2.2.2.2.2.2.2.2.2.2.2.2.1, fun s s' h => (pendingEffect_state j v s s' h).2.2.2.2.2.2.2.2.2.2.2.2.2.2.1, fun s s' h => (pendingEffect_state j v s s' h).2.2.2.2.2.2.2.2.2.2.2.2.2.2.2.1, fun s s' h => (pendingEffect_state j v s s' h).2.2.2.2.2.2.2.2.2.2.2.2.2.2.2.2.1, fun s s' h => (pendingEffect_state j v s s' h).2.2.2.2.2.2.2.2.2.2.2.2.2.2.2.2.2.1, fun s s' h => (pendingEffect_state j v s s' h).2.2.2.2.2.2.2.2.2.2.2.2.2.2.2.2.2.2.1, fun s s' h => (pendingEffect_state j v s s' h).2.2.2.2.2.2.2.2.2.2.2.2.2.2.2.2.2.2.2.1, fun s s' h => (pendingEffect_state j v s s' h).2.2.2.2.2.2.2.2.2.2.2.2.2.2.2.2.2.2.2.2.1, fun s s' h => (pendingEffect_state j v s s' h).2.2.2.2.2.2.2.2.2.2.2.2.2.2.2.2.2.2.2.2.2.1, fun s s' h => (pendingEffect_state j v s s' h).2.2.2.2.2.2.2.2.2.2.2.2.2.2.2.2.2.2.2.2.2.2.1, fun s s' h => (pendingEffect_state j v s s' h).2.2.2.2.2.2.2.2.2.2.2.2.2.2.2.2.2.2.2.2.2.2.2⟩
theorem severityEffect_state (source v : Nat) (s s' : State) (h : (severityEffect source v s).state? = some s') :
    s'.now = s.now ∧ s'.ringOffset = s.ringOffset ∧ s'.pending = s.pending ∧ s'.dict = s.dict ∧ s'.pm = s.pm ∧ s'.out = s.out ∧
      s'.trngCount = s.trngCount ∧ s'.ident = s.ident ∧ s'.supply = s.supply ∧ s'.md = s.md ∧ s'.tm = s.tm ∧ s'.meas = s.meas ∧
      s'.aux = s.aux ∧ s'.itg = s.itg ∧ s'.bal = s.bal ∧ s'.hio = s.hio ∧ s'.est = s.est ∧ s'.lp = s.lp ∧ s'.ring = s.ring ∧
      s'.can = s.can ∧ s'.px = s.px ∧ s'.flt = s.flt ∧ s'.sent = s.sent ∧ s'.rcd = s.rcd ∧ s'.mgmt = s.mgmt := by
  simp only [severityEffect] at h
  (repeat' split at h) <;> first | (cases h; done) | (cases h; simp)
@[simp] theorem severityEffect_keeps (source v : Nat) :
    PxEffect.Keeps (severityEffect source v) State.now ∧ PxEffect.Keeps (severityEffect source v) State.ringOffset ∧
      PxEffect.Keeps (severityEffect source v) State.pending ∧ PxEffect.Keeps (severityEffect source v) State.dict ∧
      PxEffect.Keeps (severityEffect source v) State.pm ∧ PxEffect.Keeps (severityEffect source v) State.out ∧
      PxEffect.Keeps (severityEffect source v) State.trngCount ∧ PxEffect.Keeps (severityEffect source v) State.ident ∧
      PxEffect.Keeps (severityEffect source v) State.supply ∧ PxEffect.Keeps (severityEffect source v) State.md ∧
      PxEffect.Keeps (severityEffect source v) State.tm ∧ PxEffect.Keeps (severityEffect source v) State.meas ∧
      PxEffect.Keeps (severityEffect source v) State.aux ∧ PxEffect.Keeps (severityEffect source v) State.itg ∧
      PxEffect.Keeps (severityEffect source v) State.bal ∧ PxEffect.Keeps (severityEffect source v) State.hio ∧
      PxEffect.Keeps (severityEffect source v) State.est ∧ PxEffect.Keeps (severityEffect source v) State.lp ∧
      PxEffect.Keeps (severityEffect source v) State.ring ∧ PxEffect.Keeps (severityEffect source v) State.can ∧
      PxEffect.Keeps (severityEffect source v) State.px ∧ PxEffect.Keeps (severityEffect source v) State.flt ∧
      PxEffect.Keeps (severityEffect source v) State.sent ∧ PxEffect.Keeps (severityEffect source v) State.rcd ∧
      PxEffect.Keeps (severityEffect source v) State.mgmt :=
  ⟨fun s s' h => (severityEffect_state source v s s' h).1, fun s s' h => (severityEffect_state source v s s' h).2.1, fun s s' h => (severityEffect_state source v s s' h).2.2.1, fun s s' h => (severityEffect_state source v s s' h).2.2.2.1, fun s s' h => (severityEffect_state source v s s' h).2.2.2.2.1, fun s s' h => (severityEffect_state source v s s' h).2.2.2.2.2.1, fun s s' h => (severityEffect_state source v s s' h).2.2.2.2.2.2.1, fun s s' h => (severityEffect_state source v s s' h).2.2.2.2.2.2.2.1, fun s s' h => (severityEffect_state source v s s' h).2.2.2.2.2.2.2.2.1, fun s s' h => (severityEffect_state source v s s' h).2.2.2.2.2.2.2.2.2.1, fun s s' h => (severityEffect_state source v s s' h).2.2.2.2.2.2.2.2.2.2.1, fun s s' h => (severityEffect_state source v s s' h).2.2.2.2.2.2.2.2.2.2.2.1, fun s s' h => (severityEffect_state source v s s' h).2.2.2.2.2.2.2.2.2.2.2.2.1, fun s s' h => (severityEffect_state source v s s' h).2.2.2.2.2.2.2.2.2.2.2.2.2.1, fun s s' h => (severityEffect_state source v s s' h).2.2.2.2.2.2.2.2.2.2.2.2.2.2.1, fun s s' h => (severityEffect_state source v s s' h).2.2.2.2.2.2.2.2.2.2.2.2.2.2.2.1, fun s s' h => (severityEffect_state source v s s' h).2.2.2.2.2.2.2.2.2.2.2.2.2.2.2.2.1, fun s s' h => (severityEffect_state source v s s' h).2.2.2.2.2.2.2.2.2.2.2.2.2.2.2.2.2.1, fun s s' h => (severityEffect_state source v s s' h).2.2.2.2.2.2.2.2.2.2.2.2.2.2.2.2.2.2.1, fun s s' h => (severityEffect_state source v s s' h).2.2.2.2.2.2.2.2.2.2.2.2.2.2.2.2.2.2.2.1, fun s s' h => (severityEffect_state source v s s' h).2.2.2.2.2.2.2.2.2.2.2.2.2.2.2.2.2.2.2.2.1, fun s s' h => (severityEffect_state source v s s' h).2.2.2.2.2.2.2.2.2.2.2.2.2.2.2.2.2.2.2.2.2.1, fun s s' h => (severityEffect_state source v s s' h).2.2.2.2.2.2.2.2.2.2.2.2.2.2.2.2.2.2.2.2.2.2.1, fun s s' h => (severityEffect_state source v s s' h).2.2.2.2.2.2.2.2.2.2.2.2.2.2.2.2.2.2.2.2.2.2.2.1, fun s s' h => (severityEffect_state source v s s' h).2.2.2.2.2.2.2.2.2.2.2.2.2.2.2.2.2.2.2.2.2.2.2.2⟩
theorem commitEffect_state  (s s' : State) (h : (commitEffect  s).state? = some s') :
    s'.now = s.now ∧ s'.ringOffset = s.ringOffset ∧ s'.pending = s.pending ∧ s'.trngCount = s.trngCount ∧ s'.supply = s.supply ∧
      s'.md = s.md ∧ s'.tm = s.tm ∧ s'.meas = s.meas ∧ s'.aux = s.aux ∧ s'.itg = s.itg ∧ s'.bal = s.bal ∧ s'.hio = s.hio ∧ s'.est = s.est ∧
      s'.lp = s.lp ∧ s'.can = s.can ∧ s'.px = s.px ∧ s'.flt = s.flt ∧ s'.sent = s.sent ∧ s'.rcd = s.rcd ∧ s'.mgmt = s.mgmt := by
  simp only [commitEffect] at h
  (repeat' split at h) <;> first | (cases h; done) | (cases h; simp)
@[simp] theorem commitEffect_keeps  :
    PxEffect.Keeps (commitEffect ) State.now ∧ PxEffect.Keeps (commitEffect ) State.ringOffset ∧
      PxEffect.Keeps (commitEffect ) State.pending ∧ PxEffect.Keeps (commitEffect ) State.trngCount ∧
      PxEffect.Keeps (commitEffect ) State.supply ∧ PxEffect.Keeps (commitEffect ) State.md ∧ PxEffect.Keeps (commitEffect ) State.tm ∧
      PxEffect.Keeps (commitEffect ) State.meas ∧ PxEffect.Keeps (commitEffect ) State.aux ∧ PxEffect.Keeps (commitEffect ) State.itg ∧
      PxEffect.Keeps (commitEffect ) State.bal ∧ PxEffect.Keeps (commitEffect ) State.hio ∧ PxEffect.Keeps (commitEffect ) State.est ∧
      PxEffect.Keeps (commitEffect ) State.lp ∧ PxEffect.Keeps (commitEffect ) State.can ∧ PxEffect.Keeps (commitEffect ) State.px ∧
      PxEffect.Keeps (commitEffect ) State.flt ∧ PxEffect.Keeps (commitEffect ) State.sent ∧ PxEffect.Keeps (commitEffect ) State.rcd ∧
      PxEffect.Keeps (commitEffect ) State.mgmt :=
  ⟨fun s s' h => (commitEffect_state  s s' h).1, fun s s' h => (commitEffect_state  s s' h).2.1, fun s s' h => (commitEffect_state  s s' h).2.2.1, fun s s' h => (commitEffect_state  s s' h).2.2.2.1, fun s s' h => (commitEffect_state  s s' h).2.2.2.2.1, fun s s' h => (commitEffect_state  s s' h).2.2.2.2.2.1, fun s s' h => (commitEffect_state  s s' h).2.2.2.2.2.2.1, fun s s' h => (commitEffect_state  s s' h).2.2.2.2.2.2.2.1, fun s s' h => (commitEffect_state  s s' h).2.2.2.2.2.2.2.2.1, fun s s' h => (commitEffect_state  s s' h).2.2.2.2.2.2.2.2.2.1, fun s s' h => (commitEffect_state  s s' h).2.2.2.2.2.2.2.2.2.2.1, fun s s' h => (commitEffect_state  s s' h).2.2.2.2.2.2.2.2.2.2.2.1, fun s s' h => (commitEffect_state  s s' h).2.2.2.2.2.2.2.2.2.2.2.2.1, fun s s' h => (commitEffect_state  s s' h).2.2.2.2.2.2.2.2.2.2.2.2.2.1, fun s s' h => (commitEffect_state  s s' h).2.2.2.2.2.2.2.2.2.2.2.2.2.2.1, fun s s' h => (commitEffect_state  s s' h).2.2.2.2.2.2.2.2.2.2.2.2.2.2.2.1, fun s s' h => (commitEffect_state  s s' h).2.2.2.2.2.2.2.2.2.2.2.2.2.2.2.2.1, fun s s' h => (commitEffect_state  s s' h).2.2.2.2.2.2.2.2.2.2.2.2.2.2.2.2.2.1, fun s s' h => (commitEffect_state  s s' h).2.2.2.2.2.2.2.2.2.2.2.2.2.2.2.2.2.2.1, fun s s' h => (commitEffect_state  s s' h).2.2.2.2.2.2.2.2.2.2.2.2.2.2.2.2.2.2.2⟩
theorem adoptEffect_state (v : Nat) (s s' : State) (h : (adoptEffect v s).state? = some s') :
    s'.now = s.now ∧ s'.ringOffset = s.ringOffset ∧ s'.pending = s.pending ∧ s'.pm = s.pm ∧ s'.trngCount = s.trngCount ∧
      s'.supply = s.supply ∧ s'.aux = s.aux ∧ s'.itg = s.itg ∧ s'.est = s.est ∧ s'.lp = s.lp ∧ s'.px = s.px ∧ s'.sent = s.sent := by
  simp only [adoptEffect] at h
  (repeat' split at h) <;> first | (cases h; done) | (cases h; simp)
@[simp] theorem adoptEffect_keeps (v : Nat) :
    PxEffect.Keeps (adoptEffect v) State.now ∧ PxEffect.Keeps (adoptEffect v) State.ringOffset ∧
      PxEffect.Keeps (adoptEffect v) State.pending ∧ PxEffect.Keeps (adoptEffect v) State.pm ∧
      PxEffect.Keeps (adoptEffect v) State.trngCount ∧ PxEffect.Keeps (adoptEffect v) State.supply ∧
      PxEffect.Keeps (adoptEffect v) State.aux ∧ PxEffect.Keeps (adoptEffect v) State.itg ∧ PxEffect.Keeps (adoptEffect v) State.est ∧
      PxEffect.Keeps (adoptEffect v) State.lp ∧ PxEffect.Keeps (adoptEffect v) State.px ∧ PxEffect.Keeps (adoptEffect v) State.sent :=
  ⟨fun s s' h => (adoptEffect_state v s s' h).1, fun s s' h => (adoptEffect_state v s s' h).2.1, fun s s' h => (adoptEffect_state v s s' h).2.2.1, fun s s' h => (adoptEffect_state v s s' h).2.2.2.1, fun s s' h => (adoptEffect_state v s s' h).2.2.2.2.1, fun s s' h => (adoptEffect_state v s s' h).2.2.2.2.2.1, fun s s' h => (adoptEffect_state v s s' h).2.2.2.2.2.2.1, fun s s' h => (adoptEffect_state v s s' h).2.2.2.2.2.2.2.1, fun s s' h => (adoptEffect_state v s s' h).2.2.2.2.2.2.2.2.1, fun s s' h => (adoptEffect_state v s s' h).2.2.2.2.2.2.2.2.2.1, fun s s' h => (adoptEffect_state v s s' h).2.2.2.2.2.2.2.2.2.2.1, fun s s' h => (adoptEffect_state v s s' h).2.2.2.2.2.2.2.2.2.2.2⟩
theorem descEraseEffect_state  (s s' : State) (h : (descEraseEffect  s).state? = some s') :
    s'.now = s.now ∧ s'.ringOffset = s.ringOffset ∧ s'.pending = s.pending ∧ s'.dict = s.dict ∧ s'.out = s.out ∧
      s'.trngCount = s.trngCount ∧ s'.ident = s.ident ∧ s'.supply = s.supply ∧ s'.md = s.md ∧ s'.tm = s.tm ∧ s'.meas = s.meas ∧
      s'.aux = s.aux ∧ s'.itg = s.itg ∧ s'.bal = s.bal ∧ s'.hio = s.hio ∧ s'.est = s.est ∧ s'.lp = s.lp ∧ s'.ring = s.ring ∧
      s'.can = s.can ∧ s'.px = s.px ∧ s'.flt = s.flt ∧ s'.sent = s.sent ∧ s'.rcd = s.rcd ∧ s'.mgmt = s.mgmt := by
  simp only [descEraseEffect] at h
  (repeat' split at h) <;> first | (cases h; done) | (cases h; simp)
@[simp] theorem descEraseEffect_keeps  :
    PxEffect.Keeps (descEraseEffect ) State.now ∧ PxEffect.Keeps (descEraseEffect ) State.ringOffset ∧
      PxEffect.Keeps (descEraseEffect ) State.pending ∧ PxEffect.Keeps (descEraseEffect ) State.dict ∧
      PxEffect.Keeps (descEraseEffect ) State.out ∧ PxEffect.Keeps (descEraseEffect ) State.trngCount ∧
      PxEffect.Keeps (descEraseEffect ) State.ident ∧ PxEffect.Keeps (descEraseEffect ) State.supply ∧
      PxEffect.Keeps (descEraseEffect ) State.md ∧ PxEffect.Keeps (descEraseEffect ) State.tm ∧
      PxEffect.Keeps (descEraseEffect ) State.meas ∧ PxEffect.Keeps (descEraseEffect ) State.aux ∧
      PxEffect.Keeps (descEraseEffect ) State.itg ∧ PxEffect.Keeps (descEraseEffect ) State.bal ∧
      PxEffect.Keeps (descEraseEffect ) State.hio ∧ PxEffect.Keeps (descEraseEffect ) State.est ∧
      PxEffect.Keeps (descEraseEffect ) State.lp ∧ PxEffect.Keeps (descEraseEffect ) State.ring ∧
      PxEffect.Keeps (descEraseEffect ) State.can ∧ PxEffect.Keeps (descEraseEffect ) State.px ∧
      PxEffect.Keeps (descEraseEffect ) State.flt ∧ PxEffect.Keeps (descEraseEffect ) State.sent ∧
      PxEffect.Keeps (descEraseEffect ) State.rcd ∧ PxEffect.Keeps (descEraseEffect ) State.mgmt :=
  ⟨fun s s' h => (descEraseEffect_state  s s' h).1, fun s s' h => (descEraseEffect_state  s s' h).2.1, fun s s' h => (descEraseEffect_state  s s' h).2.2.1, fun s s' h => (descEraseEffect_state  s s' h).2.2.2.1, fun s s' h => (descEraseEffect_state  s s' h).2.2.2.2.1, fun s s' h => (descEraseEffect_state  s s' h).2.2.2.2.2.1, fun s s' h => (descEraseEffect_state  s s' h).2.2.2.2.2.2.1, fun s s' h => (descEraseEffect_state  s s' h).2.2.2.2.2.2.2.1, fun s s' h => (descEraseEffect_state  s s' h).2.2.2.2.2.2.2.2.1, fun s s' h => (descEraseEffect_state  s s' h).2.2.2.2.2.2.2.2.2.1, fun s s' h => (descEraseEffect_state  s s' h).2.2.2.2.2.2.2.2.2.2.1, fun s s' h => (descEraseEffect_state  s s' h).2.2.2.2.2.2.2.2.2.2.2.1, fun s s' h => (descEraseEffect_state  s s' h).2.2.2.2.2.2.2.2.2.2.2.2.1, fun s s' h => (descEraseEffect_state  s s' h).2.2.2.2.2.2.2.2.2.2.2.2.2.1, fun s s' h => (descEraseEffect_state  s s' h).2.2.2.2.2.2.2.2.2.2.2.2.2.2.1, fun s s' h => (descEraseEffect_state  s s' h).2.2.2.2.2.2.2.2.2.2.2.2.2.2.2.1, fun s s' h => (descEraseEffect_state  s s' h).2.2.2.2.2.2.2.2.2.2.2.2.2.2.2.2.1, fun s s' h => (descEraseEffect_state  s s' h).2.2.2.2.2.2.2.2.2.2.2.2.2.2.2.2.2.1, fun s s' h => (descEraseEffect_state  s s' h).2.2.2.2.2.2.2.2.2.2.2.2.2.2.2.2.2.2.1, fun s s' h => (descEraseEffect_state  s s' h).2.2.2.2.2.2.2.2.2.2.2.2.2.2.2.2.2.2.2.1, fun s s' h => (descEraseEffect_state  s s' h).2.2.2.2.2.2.2.2.2.2.2.2.2.2.2.2.2.2.2.2.1, fun s s' h => (descEraseEffect_state  s s' h).2.2.2.2.2.2.2.2.2.2.2.2.2.2.2.2.2.2.2.2.2.1, fun s s' h => (descEraseEffect_state  s s' h).2.2.2.2.2.2.2.2.2.2.2.2.2.2.2.2.2.2.2.2.2.2.1, fun s s' h => (descEraseEffect_state  s s' h).2.2.2.2.2.2.2.2.2.2.2.2.2.2.2.2.2.2.2.2.2.2.2⟩
theorem censusRequestEffect_state  (s s' : State) (h : (censusRequestEffect  s).state? = some s') :
    s'.now = s.now ∧ s'.ringOffset = s.ringOffset ∧ s'.pending = s.pending ∧ s'.pm = s.pm ∧ s'.trngCount = s.trngCount ∧
      s'.ident = s.ident ∧ s'.supply = s.supply ∧ s'.md = s.md ∧ s'.tm = s.tm ∧ s'.meas = s.meas ∧ s'.aux = s.aux ∧ s'.itg = s.itg ∧
      s'.bal = s.bal ∧ s'.hio = s.hio ∧ s'.est = s.est ∧ s'.lp = s.lp ∧ s'.can = s.can ∧ s'.px = s.px ∧ s'.flt = s.flt ∧ s'.sent = s.sent ∧
      s'.rcd = s.rcd ∧ s'.mgmt = s.mgmt := by
  simp only [censusRequestEffect] at h
  (repeat' split at h) <;> first | (cases h; done) | (cases h; simp)
@[simp] theorem censusRequestEffect_keeps  :
    PxEffect.Keeps (censusRequestEffect ) State.now ∧ PxEffect.Keeps (censusRequestEffect ) State.ringOffset ∧
      PxEffect.Keeps (censusRequestEffect ) State.pending ∧ PxEffect.Keeps (censusRequestEffect ) State.pm ∧
      PxEffect.Keeps (censusRequestEffect ) State.trngCount ∧ PxEffect.Keeps (censusRequestEffect ) State.ident ∧
      PxEffect.Keeps (censusRequestEffect ) State.supply ∧ PxEffect.Keeps (censusRequestEffect ) State.md ∧
      PxEffect.Keeps (censusRequestEffect ) State.tm ∧ PxEffect.Keeps (censusRequestEffect ) State.meas ∧
      PxEffect.Keeps (censusRequestEffect ) State.aux ∧ PxEffect.Keeps (censusRequestEffect ) State.itg ∧
      PxEffect.Keeps (censusRequestEffect ) State.bal ∧ PxEffect.Keeps (censusRequestEffect ) State.hio ∧
      PxEffect.Keeps (censusRequestEffect ) State.est ∧ PxEffect.Keeps (censusRequestEffect ) State.lp ∧
      PxEffect.Keeps (censusRequestEffect ) State.can ∧ PxEffect.Keeps (censusRequestEffect ) State.px ∧
      PxEffect.Keeps (censusRequestEffect ) State.flt ∧ PxEffect.Keeps (censusRequestEffect ) State.sent ∧
      PxEffect.Keeps (censusRequestEffect ) State.rcd ∧ PxEffect.Keeps (censusRequestEffect ) State.mgmt :=
  ⟨fun s s' h => (censusRequestEffect_state  s s' h).1, fun s s' h => (censusRequestEffect_state  s s' h).2.1, fun s s' h => (censusRequestEffect_state  s s' h).2.2.1, fun s s' h => (censusRequestEffect_state  s s' h).2.2.2.1, fun s s' h => (censusRequestEffect_state  s s' h).2.2.2.2.1, fun s s' h => (censusRequestEffect_state  s s' h).2.2.2.2.2.1, fun s s' h => (censusRequestEffect_state  s s' h).2.2.2.2.2.2.1, fun s s' h => (censusRequestEffect_state  s s' h).2.2.2.2.2.2.2.1, fun s s' h => (censusRequestEffect_state  s s' h).2.2.2.2.2.2.2.2.1, fun s s' h => (censusRequestEffect_state  s s' h).2.2.2.2.2.2.2.2.2.1, fun s s' h => (censusRequestEffect_state  s s' h).2.2.2.2.2.2.2.2.2.2.1, fun s s' h => (censusRequestEffect_state  s s' h).2.2.2.2.2.2.2.2.2.2.2.1, fun s s' h => (censusRequestEffect_state  s s' h).2.2.2.2.2.2.2.2.2.2.2.2.1, fun s s' h => (censusRequestEffect_state  s s' h).2.2.2.2.2.2.2.2.2.2.2.2.2.1, fun s s' h => (censusRequestEffect_state  s s' h).2.2.2.2.2.2.2.2.2.2.2.2.2.2.1, fun s s' h => (censusRequestEffect_state  s s' h).2.2.2.2.2.2.2.2.2.2.2.2.2.2.2.1, fun s s' h => (censusRequestEffect_state  s s' h).2.2.2.2.2.2.2.2.2.2.2.2.2.2.2.2.1, fun s s' h => (censusRequestEffect_state  s s' h).2.2.2.2.2.2.2.2.2.2.2.2.2.2.2.2.2.1, fun s s' h => (censusRequestEffect_state  s s' h).2.2.2.2.2.2.2.2.2.2.2.2.2.2.2.2.2.2.1, fun s s' h => (censusRequestEffect_state  s s' h).2.2.2.2.2.2.2.2.2.2.2.2.2.2.2.2.2.2.2.1, fun s s' h => (censusRequestEffect_state  s s' h).2.2.2.2.2.2.2.2.2.2.2.2.2.2.2.2.2.2.2.2.1, fun s s' h => (censusRequestEffect_state  s s' h).2.2.2.2.2.2.2.2.2.2.2.2.2.2.2.2.2.2.2.2.2⟩
theorem handoverEffect_state  (s s' : State) (h : (handoverEffect  s).state? = some s') :
    s'.now = s.now ∧ s'.ringOffset = s.ringOffset ∧ s'.pending = s.pending ∧ s'.pm = s.pm ∧ s'.trngCount = s.trngCount ∧
      s'.ident = s.ident ∧ s'.supply = s.supply ∧ s'.md = s.md ∧ s'.tm = s.tm ∧ s'.meas = s.meas ∧ s'.aux = s.aux ∧ s'.itg = s.itg ∧
      s'.bal = s.bal ∧ s'.hio = s.hio ∧ s'.est = s.est ∧ s'.lp = s.lp ∧ s'.can = s.can ∧ s'.px = s.px ∧ s'.sent = s.sent ∧ s'.rcd = s.rcd ∧
      s'.mgmt = s.mgmt := by
  simp only [handoverEffect] at h
  (repeat' split at h) <;> first | (cases h; done) | (cases h; simp)
@[simp] theorem handoverEffect_keeps  :
    PxEffect.Keeps (handoverEffect ) State.now ∧ PxEffect.Keeps (handoverEffect ) State.ringOffset ∧
      PxEffect.Keeps (handoverEffect ) State.pending ∧ PxEffect.Keeps (handoverEffect ) State.pm ∧
      PxEffect.Keeps (handoverEffect ) State.trngCount ∧ PxEffect.Keeps (handoverEffect ) State.ident ∧
      PxEffect.Keeps (handoverEffect ) State.supply ∧ PxEffect.Keeps (handoverEffect ) State.md ∧
      PxEffect.Keeps (handoverEffect ) State.tm ∧ PxEffect.Keeps (handoverEffect ) State.meas ∧
      PxEffect.Keeps (handoverEffect ) State.aux ∧ PxEffect.Keeps (handoverEffect ) State.itg ∧
      PxEffect.Keeps (handoverEffect ) State.bal ∧ PxEffect.Keeps (handoverEffect ) State.hio ∧
      PxEffect.Keeps (handoverEffect ) State.est ∧ PxEffect.Keeps (handoverEffect ) State.lp ∧ PxEffect.Keeps (handoverEffect ) State.can ∧
      PxEffect.Keeps (handoverEffect ) State.px ∧ PxEffect.Keeps (handoverEffect ) State.sent ∧
      PxEffect.Keeps (handoverEffect ) State.rcd ∧ PxEffect.Keeps (handoverEffect ) State.mgmt :=
  ⟨fun s s' h => (handoverEffect_state  s s' h).1, fun s s' h => (handoverEffect_state  s s' h).2.1, fun s s' h => (handoverEffect_state  s s' h).2.2.1, fun s s' h => (handoverEffect_state  s s' h).2.2.2.1, fun s s' h => (handoverEffect_state  s s' h).2.2.2.2.1, fun s s' h => (handoverEffect_state  s s' h).2.2.2.2.2.1, fun s s' h => (handoverEffect_state  s s' h).2.2.2.2.2.2.1, fun s s' h => (handoverEffect_state  s s' h).2.2.2.2.2.2.2.1, fun s s' h => (handoverEffect_state  s s' h).2.2.2.2.2.2.2.2.1, fun s s' h => (handoverEffect_state  s s' h).2.2.2.2.2.2.2.2.2.1, fun s s' h => (handoverEffect_state  s s' h).2.2.2.2.2.2.2.2.2.2.1, fun s s' h => (handoverEffect_state  s s' h).2.2.2.2.2.2.2.2.2.2.2.1, fun s s' h => (handoverEffect_state  s s' h).2.2.2.2.2.2.2.2.2.2.2.2.1, fun s s' h => (handoverEffect_state  s s' h).2.2.2.2.2.2.2.2.2.2.2.2.2.1, fun s s' h => (handoverEffect_state  s s' h).2.2.2.2.2.2.2.2.2.2.2.2.2.2.1, fun s s' h => (handoverEffect_state  s s' h).2.2.2.2.2.2.2.2.2.2.2.2.2.2.2.1, fun s s' h => (handoverEffect_state  s s' h).2.2.2.2.2.2.2.2.2.2.2.2.2.2.2.2.1, fun s s' h => (handoverEffect_state  s s' h).2.2.2.2.2.2.2.2.2.2.2.2.2.2.2.2.2.1, fun s s' h => (handoverEffect_state  s s' h).2.2.2.2.2.2.2.2.2.2.2.2.2.2.2.2.2.2.1, fun s s' h => (handoverEffect_state  s s' h).2.2.2.2.2.2.2.2.2.2.2.2.2.2.2.2.2.2.2.1, fun s s' h => (handoverEffect_state  s s' h).2.2.2.2.2.2.2.2.2.2.2.2.2.2.2.2.2.2.2.2⟩
theorem recoverEffect_state (b : Bus) (s s' : State) (h : (recoverEffect b s).state? = some s') :
    s'.now = s.now ∧ s'.ringOffset = s.ringOffset ∧ s'.pending = s.pending ∧ s'.dict = s.dict ∧ s'.pm = s.pm ∧ s'.out = s.out ∧
      s'.trngCount = s.trngCount ∧ s'.ident = s.ident ∧ s'.supply = s.supply ∧ s'.md = s.md ∧ s'.tm = s.tm ∧ s'.meas = s.meas ∧
      s'.aux = s.aux ∧ s'.itg = s.itg ∧ s'.bal = s.bal ∧ s'.hio = s.hio ∧ s'.est = s.est ∧ s'.lp = s.lp ∧ s'.ring = s.ring ∧ s'.px = s.px ∧
      s'.flt = s.flt ∧ s'.sent = s.sent ∧ s'.rcd = s.rcd ∧ s'.mgmt = s.mgmt := by
  simp only [recoverEffect] at h
  (repeat' split at h) <;> first | (cases h; done) | (cases h; simp)
@[simp] theorem recoverEffect_keeps (b : Bus) :
    PxEffect.Keeps (recoverEffect b) State.now ∧ PxEffect.Keeps (recoverEffect b) State.ringOffset ∧
      PxEffect.Keeps (recoverEffect b) State.pending ∧ PxEffect.Keeps (recoverEffect b) State.dict ∧
      PxEffect.Keeps (recoverEffect b) State.pm ∧ PxEffect.Keeps (recoverEffect b) State.out ∧
      PxEffect.Keeps (recoverEffect b) State.trngCount ∧ PxEffect.Keeps (recoverEffect b) State.ident ∧
      PxEffect.Keeps (recoverEffect b) State.supply ∧ PxEffect.Keeps (recoverEffect b) State.md ∧
      PxEffect.Keeps (recoverEffect b) State.tm ∧ PxEffect.Keeps (recoverEffect b) State.meas ∧
      PxEffect.Keeps (recoverEffect b) State.aux ∧ PxEffect.Keeps (recoverEffect b) State.itg ∧
      PxEffect.Keeps (recoverEffect b) State.bal ∧ PxEffect.Keeps (recoverEffect b) State.hio ∧
      PxEffect.Keeps (recoverEffect b) State.est ∧ PxEffect.Keeps (recoverEffect b) State.lp ∧
      PxEffect.Keeps (recoverEffect b) State.ring ∧ PxEffect.Keeps (recoverEffect b) State.px ∧
      PxEffect.Keeps (recoverEffect b) State.flt ∧ PxEffect.Keeps (recoverEffect b) State.sent ∧
      PxEffect.Keeps (recoverEffect b) State.rcd ∧ PxEffect.Keeps (recoverEffect b) State.mgmt :=
  ⟨fun s s' h => (recoverEffect_state b s s' h).1, fun s s' h => (recoverEffect_state b s s' h).2.1, fun s s' h => (recoverEffect_state b s s' h).2.2.1, fun s s' h => (recoverEffect_state b s s' h).2.2.2.1, fun s s' h => (recoverEffect_state b s s' h).2.2.2.2.1, fun s s' h => (recoverEffect_state b s s' h).2.2.2.2.2.1, fun s s' h => (recoverEffect_state b s s' h).2.2.2.2.2.2.1, fun s s' h => (recoverEffect_state b s s' h).2.2.2.2.2.2.2.1, fun s s' h => (recoverEffect_state b s s' h).2.2.2.2.2.2.2.2.1, fun s s' h => (recoverEffect_state b s s' h).2.2.2.2.2.2.2.2.2.1, fun s s' h => (recoverEffect_state b s s' h).2.2.2.2.2.2.2.2.2.2.1, fun s s' h => (recoverEffect_state b s s' h).2.2.2.2.2.2.2.2.2.2.2.1, fun s s' h => (recoverEffect_state b s s' h).2.2.2.2.2.2.2.2.2.2.2.2.1, fun s s' h => (recoverEffect_state b s s' h).2.2.2.2.2.2.2.2.2.2.2.2.2.1, fun s s' h => (recoverEffect_state b s s' h).2.2.2.2.2.2.2.2.2.2.2.2.2.2.1, fun s s' h => (recoverEffect_state b s s' h).2.2.2.2.2.2.2.2.2.2.2.2.2.2.2.1, fun s s' h => (recoverEffect_state b s s' h).2.2.2.2.2.2.2.2.2.2.2.2.2.2.2.2.1, fun s s' h => (recoverEffect_state b s s' h).2.2.2.2.2.2.2.2.2.2.2.2.2.2.2.2.2.1, fun s s' h => (recoverEffect_state b s s' h).2.2.2.2.2.2.2.2.2.2.2.2.2.2.2.2.2.2.1, fun s s' h => (recoverEffect_state b s s' h).2.2.2.2.2.2.2.2.2.2.2.2.2.2.2.2.2.2.2.1, fun s s' h => (recoverEffect_state b s s' h).2.2.2.2.2.2.2.2.2.2.2.2.2.2.2.2.2.2.2.2.1, fun s s' h => (recoverEffect_state b s s' h).2.2.2.2.2.2.2.2.2.2.2.2.2.2.2.2.2.2.2.2.2.1, fun s s' h => (recoverEffect_state b s s' h).2.2.2.2.2.2.2.2.2.2.2.2.2.2.2.2.2.2.2.2.2.2.1, fun s s' h => (recoverEffect_state b s s' h).2.2.2.2.2.2.2.2.2.2.2.2.2.2.2.2.2.2.2.2.2.2.2⟩
theorem calendarEffect_state (d : Bytes) (s s' : State) (h : (calendarEffect d s).state? = some s') :
    s'.now = s.now ∧ s'.ringOffset = s.ringOffset ∧ s'.pending = s.pending ∧ s'.dict = s.dict ∧ s'.pm = s.pm ∧ s'.out = s.out ∧
      s'.trngCount = s.trngCount ∧ s'.ident = s.ident ∧ s'.supply = s.supply ∧ s'.md = s.md ∧ s'.tm = s.tm ∧ s'.meas = s.meas ∧
      s'.aux = s.aux ∧ s'.itg = s.itg ∧ s'.bal = s.bal ∧ s'.hio = s.hio ∧ s'.est = s.est ∧ s'.lp = s.lp ∧ s'.ring = s.ring ∧
      s'.can = s.can ∧ s'.px = s.px ∧ s'.sent = s.sent ∧ s'.rcd = s.rcd := by
  simp only [calendarEffect] at h
  (repeat' split at h) <;> first | (cases h; done) | (cases h; simp)
@[simp] theorem calendarEffect_keeps (d : Bytes) :
    PxEffect.Keeps (calendarEffect d) State.now ∧ PxEffect.Keeps (calendarEffect d) State.ringOffset ∧
      PxEffect.Keeps (calendarEffect d) State.pending ∧ PxEffect.Keeps (calendarEffect d) State.dict ∧
      PxEffect.Keeps (calendarEffect d) State.pm ∧ PxEffect.Keeps (calendarEffect d) State.out ∧
      PxEffect.Keeps (calendarEffect d) State.trngCount ∧ PxEffect.Keeps (calendarEffect d) State.ident ∧
      PxEffect.Keeps (calendarEffect d) State.supply ∧ PxEffect.Keeps (calendarEffect d) State.md ∧
      PxEffect.Keeps (calendarEffect d) State.tm ∧ PxEffect.Keeps (calendarEffect d) State.meas ∧
      PxEffect.Keeps (calendarEffect d) State.aux ∧ PxEffect.Keeps (calendarEffect d) State.itg ∧
      PxEffect.Keeps (calendarEffect d) State.bal ∧ PxEffect.Keeps (calendarEffect d) State.hio ∧
      PxEffect.Keeps (calendarEffect d) State.est ∧ PxEffect.Keeps (calendarEffect d) State.lp ∧
      PxEffect.Keeps (calendarEffect d) State.ring ∧ PxEffect.Keeps (calendarEffect d) State.can ∧
      PxEffect.Keeps (calendarEffect d) State.px ∧ PxEffect.Keeps (calendarEffect d) State.sent ∧ PxEffect.Keeps (calendarEffect d) State.rcd :=
  ⟨fun s s' h => (calendarEffect_state d s s' h).1, fun s s' h => (calendarEffect_state d s s' h).2.1, fun s s' h => (calendarEffect_state d s s' h).2.2.1, fun s s' h => (calendarEffect_state d s s' h).2.2.2.1, fun s s' h => (calendarEffect_state d s s' h).2.2.2.2.1, fun s s' h => (calendarEffect_state d s s' h).2.2.2.2.2.1, fun s s' h => (calendarEffect_state d s s' h).2.2.2.2.2.2.1, fun s s' h => (calendarEffect_state d s s' h).2.2.2.2.2.2.2.1, fun s s' h => (calendarEffect_state d s s' h).2.2.2.2.2.2.2.2.1, fun s s' h => (calendarEffect_state d s s' h).2.2.2.2.2.2.2.2.2.1, fun s s' h => (calendarEffect_state d s s' h).2.2.2.2.2.2.2.2.2.2.1, fun s s' h => (calendarEffect_state d s s' h).2.2.2.2.2.2.2.2.2.2.2.1, fun s s' h => (calendarEffect_state d s s' h).2.2.2.2.2.2.2.2.2.2.2.2.1, fun s s' h => (calendarEffect_state d s s' h).2.2.2.2.2.2.2.2.2.2.2.2.2.1, fun s s' h => (calendarEffect_state d s s' h).2.2.2.2.2.2.2.2.2.2.2.2.2.2.1, fun s s' h => (calendarEffect_state d s s' h).2.2.2.2.2.2.2.2.2.2.2.2.2.2.2.1, fun s s' h => (calendarEffect_state d s s' h).2.2.2.2.2.2.2.2.2.2.2.2.2.2.2.2.1, fun s s' h => (calendarEffect_state d s s' h).2.2.2.2.2.2.2.2.2.2.2.2.2.2.2.2.2.1, fun s s' h => (calendarEffect_state d s s' h).2.2.2.2.2.2.2.2.2.2.2.2.2.2.2.2.2.2.1, fun s s' h => (calendarEffect_state d s s' h).2.2.2.2.2.2.2.2.2.2.2.2.2.2.2.2.2.2.2.1, fun s s' h => (calendarEffect_state d s s' h).2.2.2.2.2.2.2.2.2.2.2.2.2.2.2.2.2.2.2.2.1, fun s s' h => (calendarEffect_state d s s' h).2.2.2.2.2.2.2.2.2.2.2.2.2.2.2.2.2.2.2.2.2.1, fun s s' h => (calendarEffect_state d s s' h).2.2.2.2.2.2.2.2.2.2.2.2.2.2.2.2.2.2.2.2.2.2⟩
theorem sessionOpenEffect_state (q : PxReq) (d : Bytes) (s s' : State) (h : (sessionOpenEffect q d s).state? = some s') :
    s'.now = s.now ∧ s'.ringOffset = s.ringOffset ∧ s'.pending = s.pending ∧ s'.pm = s.pm ∧ s'.trngCount = s.trngCount ∧
      s'.supply = s.supply ∧ s'.aux = s.aux ∧ s'.itg = s.itg ∧ s'.est = s.est ∧ s'.lp = s.lp ∧ s'.px = s.px ∧ s'.sent = s.sent := by
  simp only [sessionOpenEffect] at h
  (repeat' split at h) <;> first | (cases h; done) | (cases h; simp)
@[simp] theorem sessionOpenEffect_keeps (q : PxReq) (d : Bytes) :
    PxEffect.Keeps (sessionOpenEffect q d) State.now ∧ PxEffect.Keeps (sessionOpenEffect q d) State.ringOffset ∧
      PxEffect.Keeps (sessionOpenEffect q d) State.pending ∧ PxEffect.Keeps (sessionOpenEffect q d) State.pm ∧
      PxEffect.Keeps (sessionOpenEffect q d) State.trngCount ∧ PxEffect.Keeps (sessionOpenEffect q d) State.supply ∧
      PxEffect.Keeps (sessionOpenEffect q d) State.aux ∧ PxEffect.Keeps (sessionOpenEffect q d) State.itg ∧
      PxEffect.Keeps (sessionOpenEffect q d) State.est ∧ PxEffect.Keeps (sessionOpenEffect q d) State.lp ∧
      PxEffect.Keeps (sessionOpenEffect q d) State.px ∧ PxEffect.Keeps (sessionOpenEffect q d) State.sent :=
  ⟨fun s s' h => (sessionOpenEffect_state q d s s' h).1, fun s s' h => (sessionOpenEffect_state q d s s' h).2.1, fun s s' h => (sessionOpenEffect_state q d s s' h).2.2.1, fun s s' h => (sessionOpenEffect_state q d s s' h).2.2.2.1, fun s s' h => (sessionOpenEffect_state q d s s' h).2.2.2.2.1, fun s s' h => (sessionOpenEffect_state q d s s' h).2.2.2.2.2.1, fun s s' h => (sessionOpenEffect_state q d s s' h).2.2.2.2.2.2.1, fun s s' h => (sessionOpenEffect_state q d s s' h).2.2.2.2.2.2.2.1, fun s s' h => (sessionOpenEffect_state q d s s' h).2.2.2.2.2.2.2.2.1, fun s s' h => (sessionOpenEffect_state q d s s' h).2.2.2.2.2.2.2.2.2.1, fun s s' h => (sessionOpenEffect_state q d s s' h).2.2.2.2.2.2.2.2.2.2.1, fun s s' h => (sessionOpenEffect_state q d s s' h).2.2.2.2.2.2.2.2.2.2.2⟩
theorem sessionCloseEffect_state (q : PxReq) (v : Nat) (s s' : State) (h : (sessionCloseEffect q v s).state? = some s') :
    s'.now = s.now ∧ s'.ringOffset = s.ringOffset ∧ s'.pending = s.pending ∧ s'.pm = s.pm ∧ s'.trngCount = s.trngCount ∧
      s'.supply = s.supply ∧ s'.aux = s.aux ∧ s'.itg = s.itg ∧ s'.est = s.est ∧ s'.lp = s.lp ∧ s'.px = s.px ∧ s'.sent = s.sent := by
  simp only [sessionCloseEffect] at h
  (repeat' split at h) <;> first | (cases h; done) | (cases h; simp)
@[simp] theorem sessionCloseEffect_keeps (q : PxReq) (v : Nat) :
    PxEffect.Keeps (sessionCloseEffect q v) State.now ∧ PxEffect.Keeps (sessionCloseEffect q v) State.ringOffset ∧
      PxEffect.Keeps (sessionCloseEffect q v) State.pending ∧ PxEffect.Keeps (sessionCloseEffect q v) State.pm ∧
      PxEffect.Keeps (sessionCloseEffect q v) State.trngCount ∧ PxEffect.Keeps (sessionCloseEffect q v) State.supply ∧
      PxEffect.Keeps (sessionCloseEffect q v) State.aux ∧ PxEffect.Keeps (sessionCloseEffect q v) State.itg ∧
      PxEffect.Keeps (sessionCloseEffect q v) State.est ∧ PxEffect.Keeps (sessionCloseEffect q v) State.lp ∧
      PxEffect.Keeps (sessionCloseEffect q v) State.px ∧ PxEffect.Keeps (sessionCloseEffect q v) State.sent :=
  ⟨fun s s' h => (sessionCloseEffect_state q v s s' h).1, fun s s' h => (sessionCloseEffect_state q v s s' h).2.1, fun s s' h => (sessionCloseEffect_state q v s s' h).2.2.1, fun s s' h => (sessionCloseEffect_state q v s s' h).2.2.2.1, fun s s' h => (sessionCloseEffect_state q v s s' h).2.2.2.2.1, fun s s' h => (sessionCloseEffect_state q v s s' h).2.2.2.2.2.1, fun s s' h => (sessionCloseEffect_state q v s s' h).2.2.2.2.2.2.1, fun s s' h => (sessionCloseEffect_state q v s s' h).2.2.2.2.2.2.2.1, fun s s' h => (sessionCloseEffect_state q v s s' h).2.2.2.2.2.2.2.2.1, fun s s' h => (sessionCloseEffect_state q v s s' h).2.2.2.2.2.2.2.2.2.1, fun s s' h => (sessionCloseEffect_state q v s s' h).2.2.2.2.2.2.2.2.2.2.1, fun s s' h => (sessionCloseEffect_state q v s s' h).2.2.2.2.2.2.2.2.2.2.2⟩
theorem roleKeyEffect_state (q : PxReq) (d : Bytes) (s s' : State) (h : (roleKeyEffect q d s).state? = some s') :
    s'.now = s.now ∧ s'.ringOffset = s.ringOffset ∧ s'.pending = s.pending ∧ s'.pm = s.pm ∧ s'.trngCount = s.trngCount ∧
      s'.supply = s.supply ∧ s'.aux = s.aux ∧ s'.itg = s.itg ∧ s'.est = s.est ∧ s'.lp = s.lp ∧ s'.px = s.px ∧ s'.sent = s.sent := by
  simp only [roleKeyEffect] at h
  (repeat' split at h) <;> first | (cases h; done) | (cases h; simp)
@[simp] theorem roleKeyEffect_keeps (q : PxReq) (d : Bytes) :
    PxEffect.Keeps (roleKeyEffect q d) State.now ∧ PxEffect.Keeps (roleKeyEffect q d) State.ringOffset ∧
      PxEffect.Keeps (roleKeyEffect q d) State.pending ∧ PxEffect.Keeps (roleKeyEffect q d) State.pm ∧
      PxEffect.Keeps (roleKeyEffect q d) State.trngCount ∧ PxEffect.Keeps (roleKeyEffect q d) State.supply ∧
      PxEffect.Keeps (roleKeyEffect q d) State.aux ∧ PxEffect.Keeps (roleKeyEffect q d) State.itg ∧
      PxEffect.Keeps (roleKeyEffect q d) State.est ∧ PxEffect.Keeps (roleKeyEffect q d) State.lp ∧
      PxEffect.Keeps (roleKeyEffect q d) State.px ∧ PxEffect.Keeps (roleKeyEffect q d) State.sent :=
  ⟨fun s s' h => (roleKeyEffect_state q d s s' h).1, fun s s' h => (roleKeyEffect_state q d s s' h).2.1, fun s s' h => (roleKeyEffect_state q d s s' h).2.2.1, fun s s' h => (roleKeyEffect_state q d s s' h).2.2.2.1, fun s s' h => (roleKeyEffect_state q d s s' h).2.2.2.2.1, fun s s' h => (roleKeyEffect_state q d s s' h).2.2.2.2.2.1, fun s s' h => (roleKeyEffect_state q d s s' h).2.2.2.2.2.2.1, fun s s' h => (roleKeyEffect_state q d s s' h).2.2.2.2.2.2.2.1, fun s s' h => (roleKeyEffect_state q d s s' h).2.2.2.2.2.2.2.2.1, fun s s' h => (roleKeyEffect_state q d s s' h).2.2.2.2.2.2.2.2.2.1, fun s s' h => (roleKeyEffect_state q d s s' h).2.2.2.2.2.2.2.2.2.2.1, fun s s' h => (roleKeyEffect_state q d s s' h).2.2.2.2.2.2.2.2.2.2.2⟩
theorem revokeEffect_state (v : Nat) (s s' : State) (h : (revokeEffect v s).state? = some s') :
    s'.now = s.now ∧ s'.ringOffset = s.ringOffset ∧ s'.pending = s.pending ∧ s'.dict = s.dict ∧ s'.pm = s.pm ∧ s'.out = s.out ∧
      s'.trngCount = s.trngCount ∧ s'.ident = s.ident ∧ s'.supply = s.supply ∧ s'.md = s.md ∧ s'.tm = s.tm ∧ s'.meas = s.meas ∧
      s'.aux = s.aux ∧ s'.itg = s.itg ∧ s'.bal = s.bal ∧ s'.hio = s.hio ∧ s'.est = s.est ∧ s'.lp = s.lp ∧ s'.ring = s.ring ∧
      s'.can = s.can ∧ s'.px = s.px ∧ s'.flt = s.flt ∧ s'.sent = s.sent ∧ s'.rcd = s.rcd := by
  simp only [revokeEffect] at h
  (repeat' split at h) <;> first | (cases h; done) | (cases h; simp)
@[simp] theorem revokeEffect_keeps (v : Nat) :
    PxEffect.Keeps (revokeEffect v) State.now ∧ PxEffect.Keeps (revokeEffect v) State.ringOffset ∧
      PxEffect.Keeps (revokeEffect v) State.pending ∧ PxEffect.Keeps (revokeEffect v) State.dict ∧
      PxEffect.Keeps (revokeEffect v) State.pm ∧ PxEffect.Keeps (revokeEffect v) State.out ∧
      PxEffect.Keeps (revokeEffect v) State.trngCount ∧ PxEffect.Keeps (revokeEffect v) State.ident ∧
      PxEffect.Keeps (revokeEffect v) State.supply ∧ PxEffect.Keeps (revokeEffect v) State.md ∧ PxEffect.Keeps (revokeEffect v) State.tm ∧
      PxEffect.Keeps (revokeEffect v) State.meas ∧ PxEffect.Keeps (revokeEffect v) State.aux ∧ PxEffect.Keeps (revokeEffect v) State.itg ∧
      PxEffect.Keeps (revokeEffect v) State.bal ∧ PxEffect.Keeps (revokeEffect v) State.hio ∧ PxEffect.Keeps (revokeEffect v) State.est ∧
      PxEffect.Keeps (revokeEffect v) State.lp ∧ PxEffect.Keeps (revokeEffect v) State.ring ∧ PxEffect.Keeps (revokeEffect v) State.can ∧
      PxEffect.Keeps (revokeEffect v) State.px ∧ PxEffect.Keeps (revokeEffect v) State.flt ∧ PxEffect.Keeps (revokeEffect v) State.sent ∧
      PxEffect.Keeps (revokeEffect v) State.rcd :=
  ⟨fun s s' h => (revokeEffect_state v s s' h).1, fun s s' h => (revokeEffect_state v s s' h).2.1, fun s s' h => (revokeEffect_state v s s' h).2.2.1, fun s s' h => (revokeEffect_state v s s' h).2.2.2.1, fun s s' h => (revokeEffect_state v s s' h).2.2.2.2.1, fun s s' h => (revokeEffect_state v s s' h).2.2.2.2.2.1, fun s s' h => (revokeEffect_state v s s' h).2.2.2.2.2.2.1, fun s s' h => (revokeEffect_state v s s' h).2.2.2.2.2.2.2.1, fun s s' h => (revokeEffect_state v s s' h).2.2.2.2.2.2.2.2.1, fun s s' h => (revokeEffect_state v s s' h).2.2.2.2.2.2.2.2.2.1, fun s s' h => (revokeEffect_state v s s' h).2.2.2.2.2.2.2.2.2.2.1, fun s s' h => (revokeEffect_state v s s' h).2.2.2.2.2.2.2.2.2.2.2.1, fun s s' h => (revokeEffect_state v s s' h).2.2.2.2.2.2.2.2.2.2.2.2.1, fun s s' h => (revokeEffect_state v s s' h).2.2.2.2.2.2.2.2.2.2.2.2.2.1, fun s s' h => (revokeEffect_state v s s' h).2.2.2.2.2.2.2.2.2.2.2.2.2.2.1, fun s s' h => (revokeEffect_state v s s' h).2.2.2.2.2.2.2.2.2.2.2.2.2.2.2.1, fun s s' h => (revokeEffect_state v s s' h).2.2.2.2.2.2.2.2.2.2.2.2.2.2.2.2.1, fun s s' h => (revokeEffect_state v s s' h).2.2.2.2.2.2.2.2.2.2.2.2.2.2.2.2.2.1, fun s s' h => (revokeEffect_state v s s' h).2.2.2.2.2.2.2.2.2.2.2.2.2.2.2.2.2.2.1, fun s s' h => (revokeEffect_state v s s' h).2.2.2.2.2.2.2.2.2.2.2.2.2.2.2.2.2.2.2.1, fun s s' h => (revokeEffect_state v s s' h).2.2.2.2.2.2.2.2.2.2.2.2.2.2.2.2.2.2.2.2.1, fun s s' h => (revokeEffect_state v s s' h).2.2.2.2.2.2.2.2.2.2.2.2.2.2.2.2.2.2.2.2.2.1, fun s s' h => (revokeEffect_state v s s' h).2.2.2.2.2.2.2.2.2.2.2.2.2.2.2.2.2.2.2.2.2.2.1, fun s s' h => (revokeEffect_state v s s' h).2.2.2.2.2.2.2.2.2.2.2.2.2.2.2.2.2.2.2.2.2.2.2⟩
theorem manifestEffect_state (d : Bytes) (s s' : State) (h : (manifestEffect d s).state? = some s') :
    s'.now = s.now ∧ s'.ringOffset = s.ringOffset ∧ s'.pending = s.pending ∧ s'.pm = s.pm ∧ s'.trngCount = s.trngCount ∧
      s'.supply = s.supply ∧ s'.aux = s.aux ∧ s'.itg = s.itg ∧ s'.est = s.est ∧ s'.lp = s.lp ∧ s'.px = s.px ∧ s'.sent = s.sent := by
  simp only [manifestEffect] at h
  (repeat' split at h) <;> first | (cases h; done) | (cases h; simp)
@[simp] theorem manifestEffect_keeps (d : Bytes) :
    PxEffect.Keeps (manifestEffect d) State.now ∧ PxEffect.Keeps (manifestEffect d) State.ringOffset ∧
      PxEffect.Keeps (manifestEffect d) State.pending ∧ PxEffect.Keeps (manifestEffect d) State.pm ∧
      PxEffect.Keeps (manifestEffect d) State.trngCount ∧ PxEffect.Keeps (manifestEffect d) State.supply ∧
      PxEffect.Keeps (manifestEffect d) State.aux ∧ PxEffect.Keeps (manifestEffect d) State.itg ∧
      PxEffect.Keeps (manifestEffect d) State.est ∧ PxEffect.Keeps (manifestEffect d) State.lp ∧
      PxEffect.Keeps (manifestEffect d) State.px ∧ PxEffect.Keeps (manifestEffect d) State.sent :=
  ⟨fun s s' h => (manifestEffect_state d s s' h).1, fun s s' h => (manifestEffect_state d s s' h).2.1, fun s s' h => (manifestEffect_state d s s' h).2.2.1, fun s s' h => (manifestEffect_state d s s' h).2.2.2.1, fun s s' h => (manifestEffect_state d s s' h).2.2.2.2.1, fun s s' h => (manifestEffect_state d s s' h).2.2.2.2.2.1, fun s s' h => (manifestEffect_state d s s' h).2.2.2.2.2.2.1, fun s s' h => (manifestEffect_state d s s' h).2.2.2.2.2.2.2.1, fun s s' h => (manifestEffect_state d s s' h).2.2.2.2.2.2.2.2.1, fun s s' h => (manifestEffect_state d s s' h).2.2.2.2.2.2.2.2.2.1, fun s s' h => (manifestEffect_state d s s' h).2.2.2.2.2.2.2.2.2.2.1, fun s s' h => (manifestEffect_state d s s' h).2.2.2.2.2.2.2.2.2.2.2⟩
theorem imageEffect_state (i : Nat) (d : Bytes) (s s' : State) (h : (imageEffect i d s).state? = some s') :
    s'.now = s.now ∧ s'.ringOffset = s.ringOffset ∧ s'.pending = s.pending ∧ s'.pm = s.pm ∧ s'.trngCount = s.trngCount ∧
      s'.supply = s.supply ∧ s'.aux = s.aux ∧ s'.itg = s.itg ∧ s'.est = s.est ∧ s'.lp = s.lp ∧ s'.px = s.px ∧ s'.sent = s.sent := by
  simp only [imageEffect] at h
  (repeat' split at h) <;> first | (cases h; done) | (cases h; simp)
@[simp] theorem imageEffect_keeps (i : Nat) (d : Bytes) :
    PxEffect.Keeps (imageEffect i d) State.now ∧ PxEffect.Keeps (imageEffect i d) State.ringOffset ∧
      PxEffect.Keeps (imageEffect i d) State.pending ∧ PxEffect.Keeps (imageEffect i d) State.pm ∧
      PxEffect.Keeps (imageEffect i d) State.trngCount ∧ PxEffect.Keeps (imageEffect i d) State.supply ∧
      PxEffect.Keeps (imageEffect i d) State.aux ∧ PxEffect.Keeps (imageEffect i d) State.itg ∧
      PxEffect.Keeps (imageEffect i d) State.est ∧ PxEffect.Keeps (imageEffect i d) State.lp ∧ PxEffect.Keeps (imageEffect i d) State.px ∧
      PxEffect.Keeps (imageEffect i d) State.sent :=
  ⟨fun s s' h => (imageEffect_state i d s s' h).1, fun s s' h => (imageEffect_state i d s s' h).2.1, fun s s' h => (imageEffect_state i d s s' h).2.2.1, fun s s' h => (imageEffect_state i d s s' h).2.2.2.1, fun s s' h => (imageEffect_state i d s s' h).2.2.2.2.1, fun s s' h => (imageEffect_state i d s s' h).2.2.2.2.2.1, fun s s' h => (imageEffect_state i d s s' h).2.2.2.2.2.2.1, fun s s' h => (imageEffect_state i d s s' h).2.2.2.2.2.2.2.1, fun s s' h => (imageEffect_state i d s s' h).2.2.2.2.2.2.2.2.1, fun s s' h => (imageEffect_state i d s s' h).2.2.2.2.2.2.2.2.2.1, fun s s' h => (imageEffect_state i d s s' h).2.2.2.2.2.2.2.2.2.2.1, fun s s' h => (imageEffect_state i d s s' h).2.2.2.2.2.2.2.2.2.2.2⟩
theorem abortEffect_state  (s s' : State) (h : (abortEffect  s).state? = some s') :
    s'.now = s.now ∧ s'.ringOffset = s.ringOffset ∧ s'.pending = s.pending ∧ s'.pm = s.pm ∧ s'.out = s.out ∧ s'.trngCount = s.trngCount ∧
      s'.ident = s.ident ∧ s'.supply = s.supply ∧ s'.md = s.md ∧ s'.tm = s.tm ∧ s'.meas = s.meas ∧ s'.aux = s.aux ∧ s'.itg = s.itg ∧
      s'.bal = s.bal ∧ s'.hio = s.hio ∧ s'.est = s.est ∧ s'.lp = s.lp ∧ s'.ring = s.ring ∧ s'.can = s.can ∧ s'.px = s.px ∧ s'.flt = s.flt ∧
      s'.sent = s.sent ∧ s'.rcd = s.rcd := by
  simp only [abortEffect] at h
  (repeat' split at h) <;> first | (cases h; done) | (cases h; simp)
@[simp] theorem abortEffect_keeps  :
    PxEffect.Keeps (abortEffect ) State.now ∧ PxEffect.Keeps (abortEffect ) State.ringOffset ∧
      PxEffect.Keeps (abortEffect ) State.pending ∧ PxEffect.Keeps (abortEffect ) State.pm ∧ PxEffect.Keeps (abortEffect ) State.out ∧
      PxEffect.Keeps (abortEffect ) State.trngCount ∧ PxEffect.Keeps (abortEffect ) State.ident ∧
      PxEffect.Keeps (abortEffect ) State.supply ∧ PxEffect.Keeps (abortEffect ) State.md ∧ PxEffect.Keeps (abortEffect ) State.tm ∧
      PxEffect.Keeps (abortEffect ) State.meas ∧ PxEffect.Keeps (abortEffect ) State.aux ∧ PxEffect.Keeps (abortEffect ) State.itg ∧
      PxEffect.Keeps (abortEffect ) State.bal ∧ PxEffect.Keeps (abortEffect ) State.hio ∧ PxEffect.Keeps (abortEffect ) State.est ∧
      PxEffect.Keeps (abortEffect ) State.lp ∧ PxEffect.Keeps (abortEffect ) State.ring ∧ PxEffect.Keeps (abortEffect ) State.can ∧
      PxEffect.Keeps (abortEffect ) State.px ∧ PxEffect.Keeps (abortEffect ) State.flt ∧ PxEffect.Keeps (abortEffect ) State.sent ∧
      PxEffect.Keeps (abortEffect ) State.rcd :=
  ⟨fun s s' h => (abortEffect_state  s s' h).1, fun s s' h => (abortEffect_state  s s' h).2.1, fun s s' h => (abortEffect_state  s s' h).2.2.1, fun s s' h => (abortEffect_state  s s' h).2.2.2.1, fun s s' h => (abortEffect_state  s s' h).2.2.2.2.1, fun s s' h => (abortEffect_state  s s' h).2.2.2.2.2.1, fun s s' h => (abortEffect_state  s s' h).2.2.2.2.2.2.1, fun s s' h => (abortEffect_state  s s' h).2.2.2.2.2.2.2.1, fun s s' h => (abortEffect_state  s s' h).2.2.2.2.2.2.2.2.1, fun s s' h => (abortEffect_state  s s' h).2.2.2.2.2.2.2.2.2.1, fun s s' h => (abortEffect_state  s s' h).2.2.2.2.2.2.2.2.2.2.1, fun s s' h => (abortEffect_state  s s' h).2.2.2.2.2.2.2.2.2.2.2.1, fun s s' h => (abortEffect_state  s s' h).2.2.2.2.2.2.2.2.2.2.2.2.1, fun s s' h => (abortEffect_state  s s' h).2.2.2.2.2.2.2.2.2.2.2.2.2.1, fun s s' h => (abortEffect_state  s s' h).2.2.2.2.2.2.2.2.2.2.2.2.2.2.1, fun s s' h => (abortEffect_state  s s' h).2.2.2.2.2.2.2.2.2.2.2.2.2.2.2.1, fun s s' h => (abortEffect_state  s s' h).2.2.2.2.2.2.2.2.2.2.2.2.2.2.2.2.1, fun s s' h => (abortEffect_state  s s' h).2.2.2.2.2.2.2.2.2.2.2.2.2.2.2.2.2.1, fun s s' h => (abortEffect_state  s s' h).2.2.2.2.2.2.2.2.2.2.2.2.2.2.2.2.2.2.1, fun s s' h => (abortEffect_state  s s' h).2.2.2.2.2.2.2.2.2.2.2.2.2.2.2.2.2.2.2.1, fun s s' h => (abortEffect_state  s s' h).2.2.2.2.2.2.2.2.2.2.2.2.2.2.2.2.2.2.2.2.1, fun s s' h => (abortEffect_state  s s' h).2.2.2.2.2.2.2.2.2.2.2.2.2.2.2.2.2.2.2.2.2.1, fun s s' h => (abortEffect_state  s s' h).2.2.2.2.2.2.2.2.2.2.2.2.2.2.2.2.2.2.2.2.2.2⟩
theorem activateEffect_state  (s s' : State) (h : (activateEffect  s).state? = some s') :
    s'.now = s.now ∧ s'.ringOffset = s.ringOffset ∧ s'.pending = s.pending ∧ s'.pm = s.pm ∧ s'.out = s.out ∧ s'.trngCount = s.trngCount ∧
      s'.ident = s.ident ∧ s'.supply = s.supply ∧ s'.md = s.md ∧ s'.tm = s.tm ∧ s'.meas = s.meas ∧ s'.aux = s.aux ∧ s'.itg = s.itg ∧
      s'.bal = s.bal ∧ s'.hio = s.hio ∧ s'.lp = s.lp ∧ s'.ring = s.ring ∧ s'.can = s.can ∧ s'.px = s.px ∧ s'.flt = s.flt ∧ s'.sent = s.sent := by
  simp only [activateEffect] at h
  (repeat' split at h) <;> first | (cases h; done) | (cases h; simp)
@[simp] theorem activateEffect_keeps  :
    PxEffect.Keeps (activateEffect ) State.now ∧ PxEffect.Keeps (activateEffect ) State.ringOffset ∧
      PxEffect.Keeps (activateEffect ) State.pending ∧ PxEffect.Keeps (activateEffect ) State.pm ∧
      PxEffect.Keeps (activateEffect ) State.out ∧ PxEffect.Keeps (activateEffect ) State.trngCount ∧
      PxEffect.Keeps (activateEffect ) State.ident ∧ PxEffect.Keeps (activateEffect ) State.supply ∧
      PxEffect.Keeps (activateEffect ) State.md ∧ PxEffect.Keeps (activateEffect ) State.tm ∧ PxEffect.Keeps (activateEffect ) State.meas ∧
      PxEffect.Keeps (activateEffect ) State.aux ∧ PxEffect.Keeps (activateEffect ) State.itg ∧
      PxEffect.Keeps (activateEffect ) State.bal ∧ PxEffect.Keeps (activateEffect ) State.hio ∧ PxEffect.Keeps (activateEffect ) State.lp ∧
      PxEffect.Keeps (activateEffect ) State.ring ∧ PxEffect.Keeps (activateEffect ) State.can ∧
      PxEffect.Keeps (activateEffect ) State.px ∧ PxEffect.Keeps (activateEffect ) State.flt ∧ PxEffect.Keeps (activateEffect ) State.sent :=
  ⟨fun s s' h => (activateEffect_state  s s' h).1, fun s s' h => (activateEffect_state  s s' h).2.1, fun s s' h => (activateEffect_state  s s' h).2.2.1, fun s s' h => (activateEffect_state  s s' h).2.2.2.1, fun s s' h => (activateEffect_state  s s' h).2.2.2.2.1, fun s s' h => (activateEffect_state  s s' h).2.2.2.2.2.1, fun s s' h => (activateEffect_state  s s' h).2.2.2.2.2.2.1, fun s s' h => (activateEffect_state  s s' h).2.2.2.2.2.2.2.1, fun s s' h => (activateEffect_state  s s' h).2.2.2.2.2.2.2.2.1, fun s s' h => (activateEffect_state  s s' h).2.2.2.2.2.2.2.2.2.1, fun s s' h => (activateEffect_state  s s' h).2.2.2.2.2.2.2.2.2.2.1, fun s s' h => (activateEffect_state  s s' h).2.2.2.2.2.2.2.2.2.2.2.1, fun s s' h => (activateEffect_state  s s' h).2.2.2.2.2.2.2.2.2.2.2.2.1, fun s s' h => (activateEffect_state  s s' h).2.2.2.2.2.2.2.2.2.2.2.2.2.1, fun s s' h => (activateEffect_state  s s' h).2.2.2.2.2.2.2.2.2.2.2.2.2.2.1, fun s s' h => (activateEffect_state  s s' h).2.2.2.2.2.2.2.2.2.2.2.2.2.2.2.1, fun s s' h => (activateEffect_state  s s' h).2.2.2.2.2.2.2.2.2.2.2.2.2.2.2.2.1, fun s s' h => (activateEffect_state  s s' h).2.2.2.2.2.2.2.2.2.2.2.2.2.2.2.2.2.1, fun s s' h => (activateEffect_state  s s' h).2.2.2.2.2.2.2.2.2.2.2.2.2.2.2.2.2.2.1, fun s s' h => (activateEffect_state  s s' h).2.2.2.2.2.2.2.2.2.2.2.2.2.2.2.2.2.2.2.1, fun s s' h => (activateEffect_state  s s' h).2.2.2.2.2.2.2.2.2.2.2.2.2.2.2.2.2.2.2.2⟩
theorem calStartEffect_state  (s s' : State) (h : (calStartEffect  s).state? = some s') :
    s'.now = s.now ∧ s'.ringOffset = s.ringOffset ∧ s'.pending = s.pending ∧ s'.pm = s.pm ∧ s'.out = s.out ∧ s'.trngCount = s.trngCount ∧
      s'.ident = s.ident ∧ s'.supply = s.supply ∧ s'.md = s.md ∧ s'.tm = s.tm ∧ s'.aux = s.aux ∧ s'.itg = s.itg ∧ s'.bal = s.bal ∧
      s'.hio = s.hio ∧ s'.est = s.est ∧ s'.lp = s.lp ∧ s'.ring = s.ring ∧ s'.can = s.can ∧ s'.px = s.px ∧ s'.flt = s.flt ∧
      s'.sent = s.sent ∧ s'.rcd = s.rcd := by
  simp only [calStartEffect] at h
  (repeat' split at h) <;> first | (cases h; done) | (cases h; simp)
@[simp] theorem calStartEffect_keeps  :
    PxEffect.Keeps (calStartEffect ) State.now ∧ PxEffect.Keeps (calStartEffect ) State.ringOffset ∧
      PxEffect.Keeps (calStartEffect ) State.pending ∧ PxEffect.Keeps (calStartEffect ) State.pm ∧
      PxEffect.Keeps (calStartEffect ) State.out ∧ PxEffect.Keeps (calStartEffect ) State.trngCount ∧
      PxEffect.Keeps (calStartEffect ) State.ident ∧ PxEffect.Keeps (calStartEffect ) State.supply ∧
      PxEffect.Keeps (calStartEffect ) State.md ∧ PxEffect.Keeps (calStartEffect ) State.tm ∧ PxEffect.Keeps (calStartEffect ) State.aux ∧
      PxEffect.Keeps (calStartEffect ) State.itg ∧ PxEffect.Keeps (calStartEffect ) State.bal ∧
      PxEffect.Keeps (calStartEffect ) State.hio ∧ PxEffect.Keeps (calStartEffect ) State.est ∧ PxEffect.Keeps (calStartEffect ) State.lp ∧
      PxEffect.Keeps (calStartEffect ) State.ring ∧ PxEffect.Keeps (calStartEffect ) State.can ∧
      PxEffect.Keeps (calStartEffect ) State.px ∧ PxEffect.Keeps (calStartEffect ) State.flt ∧
      PxEffect.Keeps (calStartEffect ) State.sent ∧ PxEffect.Keeps (calStartEffect ) State.rcd :=
  ⟨fun s s' h => (calStartEffect_state  s s' h).1, fun s s' h => (calStartEffect_state  s s' h).2.1, fun s s' h => (calStartEffect_state  s s' h).2.2.1, fun s s' h => (calStartEffect_state  s s' h).2.2.2.1, fun s s' h => (calStartEffect_state  s s' h).2.2.2.2.1, fun s s' h => (calStartEffect_state  s s' h).2.2.2.2.2.1, fun s s' h => (calStartEffect_state  s s' h).2.2.2.2.2.2.1, fun s s' h => (calStartEffect_state  s s' h).2.2.2.2.2.2.2.1, fun s s' h => (calStartEffect_state  s s' h).2.2.2.2.2.2.2.2.1, fun s s' h => (calStartEffect_state  s s' h).2.2.2.2.2.2.2.2.2.1, fun s s' h => (calStartEffect_state  s s' h).2.2.2.2.2.2.2.2.2.2.1, fun s s' h => (calStartEffect_state  s s' h).2.2.2.2.2.2.2.2.2.2.2.1, fun s s' h => (calStartEffect_state  s s' h).2.2.2.2.2.2.2.2.2.2.2.2.1, fun s s' h => (calStartEffect_state  s s' h).2.2.2.2.2.2.2.2.2.2.2.2.2.1, fun s s' h => (calStartEffect_state  s s' h).2.2.2.2.2.2.2.2.2.2.2.2.2.2.1, fun s s' h => (calStartEffect_state  s s' h).2.2.2.2.2.2.2.2.2.2.2.2.2.2.2.1, fun s s' h => (calStartEffect_state  s s' h).2.2.2.2.2.2.2.2.2.2.2.2.2.2.2.2.1, fun s s' h => (calStartEffect_state  s s' h).2.2.2.2.2.2.2.2.2.2.2.2.2.2.2.2.2.1, fun s s' h => (calStartEffect_state  s s' h).2.2.2.2.2.2.2.2.2.2.2.2.2.2.2.2.2.2.1, fun s s' h => (calStartEffect_state  s s' h).2.2.2.2.2.2.2.2.2.2.2.2.2.2.2.2.2.2.2.1, fun s s' h => (calStartEffect_state  s s' h).2.2.2.2.2.2.2.2.2.2.2.2.2.2.2.2.2.2.2.2.1, fun s s' h => (calStartEffect_state  s s' h).2.2.2.2.2.2.2.2.2.2.2.2.2.2.2.2.2.2.2.2.2⟩
theorem calAbortEffect_state  (s s' : State) (h : (calAbortEffect  s).state? = some s') :
    s'.now = s.now ∧ s'.ringOffset = s.ringOffset ∧ s'.pending = s.pending ∧ s'.pm = s.pm ∧ s'.out = s.out ∧ s'.trngCount = s.trngCount ∧
      s'.ident = s.ident ∧ s'.supply = s.supply ∧ s'.md = s.md ∧ s'.tm = s.tm ∧ s'.aux = s.aux ∧ s'.itg = s.itg ∧ s'.bal = s.bal ∧
      s'.hio = s.hio ∧ s'.est = s.est ∧ s'.lp = s.lp ∧ s'.ring = s.ring ∧ s'.can = s.can ∧ s'.px = s.px ∧ s'.flt = s.flt ∧
      s'.sent = s.sent ∧ s'.rcd = s.rcd := by
  simp only [calAbortEffect] at h
  (repeat' split at h) <;> first | (cases h; done) | (cases h; simp)
@[simp] theorem calAbortEffect_keeps  :
    PxEffect.Keeps (calAbortEffect ) State.now ∧ PxEffect.Keeps (calAbortEffect ) State.ringOffset ∧
      PxEffect.Keeps (calAbortEffect ) State.pending ∧ PxEffect.Keeps (calAbortEffect ) State.pm ∧
      PxEffect.Keeps (calAbortEffect ) State.out ∧ PxEffect.Keeps (calAbortEffect ) State.trngCount ∧
      PxEffect.Keeps (calAbortEffect ) State.ident ∧ PxEffect.Keeps (calAbortEffect ) State.supply ∧
      PxEffect.Keeps (calAbortEffect ) State.md ∧ PxEffect.Keeps (calAbortEffect ) State.tm ∧ PxEffect.Keeps (calAbortEffect ) State.aux ∧
      PxEffect.Keeps (calAbortEffect ) State.itg ∧ PxEffect.Keeps (calAbortEffect ) State.bal ∧
      PxEffect.Keeps (calAbortEffect ) State.hio ∧ PxEffect.Keeps (calAbortEffect ) State.est ∧ PxEffect.Keeps (calAbortEffect ) State.lp ∧
      PxEffect.Keeps (calAbortEffect ) State.ring ∧ PxEffect.Keeps (calAbortEffect ) State.can ∧
      PxEffect.Keeps (calAbortEffect ) State.px ∧ PxEffect.Keeps (calAbortEffect ) State.flt ∧
      PxEffect.Keeps (calAbortEffect ) State.sent ∧ PxEffect.Keeps (calAbortEffect ) State.rcd :=
  ⟨fun s s' h => (calAbortEffect_state  s s' h).1, fun s s' h => (calAbortEffect_state  s s' h).2.1, fun s s' h => (calAbortEffect_state  s s' h).2.2.1, fun s s' h => (calAbortEffect_state  s s' h).2.2.2.1, fun s s' h => (calAbortEffect_state  s s' h).2.2.2.2.1, fun s s' h => (calAbortEffect_state  s s' h).2.2.2.2.2.1, fun s s' h => (calAbortEffect_state  s s' h).2.2.2.2.2.2.1, fun s s' h => (calAbortEffect_state  s s' h).2.2.2.2.2.2.2.1, fun s s' h => (calAbortEffect_state  s s' h).2.2.2.2.2.2.2.2.1, fun s s' h => (calAbortEffect_state  s s' h).2.2.2.2.2.2.2.2.2.1, fun s s' h => (calAbortEffect_state  s s' h).2.2.2.2.2.2.2.2.2.2.1, fun s s' h => (calAbortEffect_state  s s' h).2.2.2.2.2.2.2.2.2.2.2.1, fun s s' h => (calAbortEffect_state  s s' h).2.2.2.2.2.2.2.2.2.2.2.2.1, fun s s' h => (calAbortEffect_state  s s' h).2.2.2.2.2.2.2.2.2.2.2.2.2.1, fun s s' h => (calAbortEffect_state  s s' h).2.2.2.2.2.2.2.2.2.2.2.2.2.2.1, fun s s' h => (calAbortEffect_state  s s' h).2.2.2.2.2.2.2.2.2.2.2.2.2.2.2.1, fun s s' h => (calAbortEffect_state  s s' h).2.2.2.2.2.2.2.2.2.2.2.2.2.2.2.2.1, fun s s' h => (calAbortEffect_state  s s' h).2.2.2.2.2.2.2.2.2.2.2.2.2.2.2.2.2.1, fun s s' h => (calAbortEffect_state  s s' h).2.2.2.2.2.2.2.2.2.2.2.2.2.2.2.2.2.2.1, fun s s' h => (calAbortEffect_state  s s' h).2.2.2.2.2.2.2.2.2.2.2.2.2.2.2.2.2.2.2.1, fun s s' h => (calAbortEffect_state  s s' h).2.2.2.2.2.2.2.2.2.2.2.2.2.2.2.2.2.2.2.2.1, fun s s' h => (calAbortEffect_state  s s' h).2.2.2.2.2.2.2.2.2.2.2.2.2.2.2.2.2.2.2.2.2⟩
theorem maintPermitEffect_state (v : Nat) (s s' : State) (h : (maintPermitEffect v s).state? = some s') :
    s'.now = s.now ∧ s'.ringOffset = s.ringOffset ∧ s'.pending = s.pending ∧ s'.pm = s.pm ∧ s'.trngCount = s.trngCount ∧
      s'.ident = s.ident ∧ s'.supply = s.supply ∧ s'.tm = s.tm ∧ s'.aux = s.aux ∧ s'.est = s.est ∧ s'.lp = s.lp ∧ s'.px = s.px ∧
      s'.flt = s.flt ∧ s'.sent = s.sent := by
  simp only [maintPermitEffect] at h
  (repeat' split at h) <;> first | (cases h; done) | (cases h; simp)
@[simp] theorem maintPermitEffect_keeps (v : Nat) :
    PxEffect.Keeps (maintPermitEffect v) State.now ∧ PxEffect.Keeps (maintPermitEffect v) State.ringOffset ∧
      PxEffect.Keeps (maintPermitEffect v) State.pending ∧ PxEffect.Keeps (maintPermitEffect v) State.pm ∧
      PxEffect.Keeps (maintPermitEffect v) State.trngCount ∧ PxEffect.Keeps (maintPermitEffect v) State.ident ∧
      PxEffect.Keeps (maintPermitEffect v) State.supply ∧ PxEffect.Keeps (maintPermitEffect v) State.tm ∧
      PxEffect.Keeps (maintPermitEffect v) State.aux ∧ PxEffect.Keeps (maintPermitEffect v) State.est ∧
      PxEffect.Keeps (maintPermitEffect v) State.lp ∧ PxEffect.Keeps (maintPermitEffect v) State.px ∧
      PxEffect.Keeps (maintPermitEffect v) State.flt ∧ PxEffect.Keeps (maintPermitEffect v) State.sent :=
  ⟨fun s s' h => (maintPermitEffect_state v s s' h).1, fun s s' h => (maintPermitEffect_state v s s' h).2.1, fun s s' h => (maintPermitEffect_state v s s' h).2.2.1, fun s s' h => (maintPermitEffect_state v s s' h).2.2.2.1, fun s s' h => (maintPermitEffect_state v s s' h).2.2.2.2.1, fun s s' h => (maintPermitEffect_state v s s' h).2.2.2.2.2.1, fun s s' h => (maintPermitEffect_state v s s' h).2.2.2.2.2.2.1, fun s s' h => (maintPermitEffect_state v s s' h).2.2.2.2.2.2.2.1, fun s s' h => (maintPermitEffect_state v s s' h).2.2.2.2.2.2.2.2.1, fun s s' h => (maintPermitEffect_state v s s' h).2.2.2.2.2.2.2.2.2.1, fun s s' h => (maintPermitEffect_state v s s' h).2.2.2.2.2.2.2.2.2.2.1, fun s s' h => (maintPermitEffect_state v s s' h).2.2.2.2.2.2.2.2.2.2.2.1, fun s s' h => (maintPermitEffect_state v s s' h).2.2.2.2.2.2.2.2.2.2.2.2.1, fun s s' h => (maintPermitEffect_state v s s' h).2.2.2.2.2.2.2.2.2.2.2.2.2⟩
theorem safeExitEffect_state  (s s' : State) (h : (safeExitEffect  s).state? = some s') :
    s'.now = s.now ∧ s'.ringOffset = s.ringOffset ∧ s'.pending = s.pending ∧ s'.pm = s.pm ∧ s'.out = s.out ∧ s'.trngCount = s.trngCount ∧
      s'.ident = s.ident ∧ s'.supply = s.supply ∧ s'.tm = s.tm ∧ s'.aux = s.aux ∧ s'.itg = s.itg ∧ s'.hio = s.hio ∧ s'.est = s.est ∧
      s'.lp = s.lp ∧ s'.ring = s.ring ∧ s'.can = s.can ∧ s'.px = s.px ∧ s'.sent = s.sent := by
  simp only [safeExitEffect] at h
  (repeat' split at h) <;> first | (cases h; done) | (cases h; simp)
@[simp] theorem safeExitEffect_keeps  :
    PxEffect.Keeps (safeExitEffect ) State.now ∧ PxEffect.Keeps (safeExitEffect ) State.ringOffset ∧
      PxEffect.Keeps (safeExitEffect ) State.pending ∧ PxEffect.Keeps (safeExitEffect ) State.pm ∧
      PxEffect.Keeps (safeExitEffect ) State.out ∧ PxEffect.Keeps (safeExitEffect ) State.trngCount ∧
      PxEffect.Keeps (safeExitEffect ) State.ident ∧ PxEffect.Keeps (safeExitEffect ) State.supply ∧
      PxEffect.Keeps (safeExitEffect ) State.tm ∧ PxEffect.Keeps (safeExitEffect ) State.aux ∧ PxEffect.Keeps (safeExitEffect ) State.itg ∧
      PxEffect.Keeps (safeExitEffect ) State.hio ∧ PxEffect.Keeps (safeExitEffect ) State.est ∧ PxEffect.Keeps (safeExitEffect ) State.lp ∧
      PxEffect.Keeps (safeExitEffect ) State.ring ∧ PxEffect.Keeps (safeExitEffect ) State.can ∧
      PxEffect.Keeps (safeExitEffect ) State.px ∧ PxEffect.Keeps (safeExitEffect ) State.sent :=
  ⟨fun s s' h => (safeExitEffect_state  s s' h).1, fun s s' h => (safeExitEffect_state  s s' h).2.1, fun s s' h => (safeExitEffect_state  s s' h).2.2.1, fun s s' h => (safeExitEffect_state  s s' h).2.2.2.1, fun s s' h => (safeExitEffect_state  s s' h).2.2.2.2.1, fun s s' h => (safeExitEffect_state  s s' h).2.2.2.2.2.1, fun s s' h => (safeExitEffect_state  s s' h).2.2.2.2.2.2.1, fun s s' h => (safeExitEffect_state  s s' h).2.2.2.2.2.2.2.1, fun s s' h => (safeExitEffect_state  s s' h).2.2.2.2.2.2.2.2.1, fun s s' h => (safeExitEffect_state  s s' h).2.2.2.2.2.2.2.2.2.1, fun s s' h => (safeExitEffect_state  s s' h).2.2.2.2.2.2.2.2.2.2.1, fun s s' h => (safeExitEffect_state  s s' h).2.2.2.2.2.2.2.2.2.2.2.1, fun s s' h => (safeExitEffect_state  s s' h).2.2.2.2.2.2.2.2.2.2.2.2.1, fun s s' h => (safeExitEffect_state  s s' h).2.2.2.2.2.2.2.2.2.2.2.2.2.1, fun s s' h => (safeExitEffect_state  s s' h).2.2.2.2.2.2.2.2.2.2.2.2.2.2.1, fun s s' h => (safeExitEffect_state  s s' h).2.2.2.2.2.2.2.2.2.2.2.2.2.2.2.1, fun s s' h => (safeExitEffect_state  s s' h).2.2.2.2.2.2.2.2.2.2.2.2.2.2.2.2.1, fun s s' h => (safeExitEffect_state  s s' h).2.2.2.2.2.2.2.2.2.2.2.2.2.2.2.2.2⟩
theorem shipArmEffect_state (v : Nat) (s s' : State) (h : (shipArmEffect v s).state? = some s') :
    s'.now = s.now ∧ s'.ringOffset = s.ringOffset ∧ s'.pending = s.pending ∧ s'.dict = s.dict ∧ s'.pm = s.pm ∧ s'.out = s.out ∧
      s'.trngCount = s.trngCount ∧ s'.ident = s.ident ∧ s'.supply = s.supply ∧ s'.tm = s.tm ∧ s'.meas = s.meas ∧ s'.aux = s.aux ∧
      s'.itg = s.itg ∧ s'.bal = s.bal ∧ s'.hio = s.hio ∧ s'.est = s.est ∧ s'.lp = s.lp ∧ s'.ring = s.ring ∧ s'.can = s.can ∧ s'.px = s.px ∧
      s'.flt = s.flt ∧ s'.sent = s.sent ∧ s'.rcd = s.rcd ∧ s'.mgmt = s.mgmt := by
  simp only [shipArmEffect] at h
  (repeat' split at h) <;> first | (cases h; done) | (cases h; simp)
@[simp] theorem shipArmEffect_keeps (v : Nat) :
    PxEffect.Keeps (shipArmEffect v) State.now ∧ PxEffect.Keeps (shipArmEffect v) State.ringOffset ∧
      PxEffect.Keeps (shipArmEffect v) State.pending ∧ PxEffect.Keeps (shipArmEffect v) State.dict ∧
      PxEffect.Keeps (shipArmEffect v) State.pm ∧ PxEffect.Keeps (shipArmEffect v) State.out ∧
      PxEffect.Keeps (shipArmEffect v) State.trngCount ∧ PxEffect.Keeps (shipArmEffect v) State.ident ∧
      PxEffect.Keeps (shipArmEffect v) State.supply ∧ PxEffect.Keeps (shipArmEffect v) State.tm ∧
      PxEffect.Keeps (shipArmEffect v) State.meas ∧ PxEffect.Keeps (shipArmEffect v) State.aux ∧
      PxEffect.Keeps (shipArmEffect v) State.itg ∧ PxEffect.Keeps (shipArmEffect v) State.bal ∧
      PxEffect.Keeps (shipArmEffect v) State.hio ∧ PxEffect.Keeps (shipArmEffect v) State.est ∧ PxEffect.Keeps (shipArmEffect v) State.lp ∧
      PxEffect.Keeps (shipArmEffect v) State.ring ∧ PxEffect.Keeps (shipArmEffect v) State.can ∧
      PxEffect.Keeps (shipArmEffect v) State.px ∧ PxEffect.Keeps (shipArmEffect v) State.flt ∧
      PxEffect.Keeps (shipArmEffect v) State.sent ∧ PxEffect.Keeps (shipArmEffect v) State.rcd ∧ PxEffect.Keeps (shipArmEffect v) State.mgmt :=
  ⟨fun s s' h => (shipArmEffect_state v s s' h).1, fun s s' h => (shipArmEffect_state v s s' h).2.1, fun s s' h => (shipArmEffect_state v s s' h).2.2.1, fun s s' h => (shipArmEffect_state v s s' h).2.2.2.1, fun s s' h => (shipArmEffect_state v s s' h).2.2.2.2.1, fun s s' h => (shipArmEffect_state v s s' h).2.2.2.2.2.1, fun s s' h => (shipArmEffect_state v s s' h).2.2.2.2.2.2.1, fun s s' h => (shipArmEffect_state v s s' h).2.2.2.2.2.2.2.1, fun s s' h => (shipArmEffect_state v s s' h).2.2.2.2.2.2.2.2.1, fun s s' h => (shipArmEffect_state v s s' h).2.2.2.2.2.2.2.2.2.1, fun s s' h => (shipArmEffect_state v s s' h).2.2.2.2.2.2.2.2.2.2.1, fun s s' h => (shipArmEffect_state v s s' h).2.2.2.2.2.2.2.2.2.2.2.1, fun s s' h => (shipArmEffect_state v s s' h).2.2.2.2.2.2.2.2.2.2.2.2.1, fun s s' h => (shipArmEffect_state v s s' h).2.2.2.2.2.2.2.2.2.2.2.2.2.1, fun s s' h => (shipArmEffect_state v s s' h).2.2.2.2.2.2.2.2.2.2.2.2.2.2.1, fun s s' h => (shipArmEffect_state v s s' h).2.2.2.2.2.2.2.2.2.2.2.2.2.2.2.1, fun s s' h => (shipArmEffect_state v s s' h).2.2.2.2.2.2.2.2.2.2.2.2.2.2.2.2.1, fun s s' h => (shipArmEffect_state v s s' h).2.2.2.2.2.2.2.2.2.2.2.2.2.2.2.2.2.1, fun s s' h => (shipArmEffect_state v s s' h).2.2.2.2.2.2.2.2.2.2.2.2.2.2.2.2.2.2.1, fun s s' h => (shipArmEffect_state v s s' h).2.2.2.2.2.2.2.2.2.2.2.2.2.2.2.2.2.2.2.1, fun s s' h => (shipArmEffect_state v s s' h).2.2.2.2.2.2.2.2.2.2.2.2.2.2.2.2.2.2.2.2.1, fun s s' h => (shipArmEffect_state v s s' h).2.2.2.2.2.2.2.2.2.2.2.2.2.2.2.2.2.2.2.2.2.1, fun s s' h => (shipArmEffect_state v s s' h).2.2.2.2.2.2.2.2.2.2.2.2.2.2.2.2.2.2.2.2.2.2.1, fun s s' h => (shipArmEffect_state v s s' h).2.2.2.2.2.2.2.2.2.2.2.2.2.2.2.2.2.2.2.2.2.2.2⟩
theorem deferIf_state (ok : Bool) (s s' : State) (h : (deferIf ok s).state? = some s') :
    s'.now = s.now ∧ s'.ringOffset = s.ringOffset ∧ s'.pending = s.pending ∧ s'.dict = s.dict ∧ s'.pm = s.pm ∧ s'.out = s.out ∧
      s'.trngCount = s.trngCount ∧ s'.ident = s.ident ∧ s'.supply = s.supply ∧ s'.md = s.md ∧ s'.tm = s.tm ∧ s'.meas = s.meas ∧
      s'.aux = s.aux ∧ s'.itg = s.itg ∧ s'.bal = s.bal ∧ s'.hio = s.hio ∧ s'.est = s.est ∧ s'.lp = s.lp ∧ s'.ring = s.ring ∧
      s'.can = s.can ∧ s'.px = s.px ∧ s'.flt = s.flt ∧ s'.sent = s.sent ∧ s'.rcd = s.rcd ∧ s'.mgmt = s.mgmt := by
  simp only [deferIf] at h
  (repeat' split at h) <;> first | (cases h; done) | (cases h; simp)
@[simp] theorem deferIf_keeps (ok : Bool) :
    PxEffect.Keeps (deferIf ok) State.now ∧ PxEffect.Keeps (deferIf ok) State.ringOffset ∧ PxEffect.Keeps (deferIf ok) State.pending ∧
      PxEffect.Keeps (deferIf ok) State.dict ∧ PxEffect.Keeps (deferIf ok) State.pm ∧ PxEffect.Keeps (deferIf ok) State.out ∧
      PxEffect.Keeps (deferIf ok) State.trngCount ∧ PxEffect.Keeps (deferIf ok) State.ident ∧ PxEffect.Keeps (deferIf ok) State.supply ∧
      PxEffect.Keeps (deferIf ok) State.md ∧ PxEffect.Keeps (deferIf ok) State.tm ∧ PxEffect.Keeps (deferIf ok) State.meas ∧
      PxEffect.Keeps (deferIf ok) State.aux ∧ PxEffect.Keeps (deferIf ok) State.itg ∧ PxEffect.Keeps (deferIf ok) State.bal ∧
      PxEffect.Keeps (deferIf ok) State.hio ∧ PxEffect.Keeps (deferIf ok) State.est ∧ PxEffect.Keeps (deferIf ok) State.lp ∧
      PxEffect.Keeps (deferIf ok) State.ring ∧ PxEffect.Keeps (deferIf ok) State.can ∧ PxEffect.Keeps (deferIf ok) State.px ∧
      PxEffect.Keeps (deferIf ok) State.flt ∧ PxEffect.Keeps (deferIf ok) State.sent ∧ PxEffect.Keeps (deferIf ok) State.rcd ∧
      PxEffect.Keeps (deferIf ok) State.mgmt :=
  ⟨fun s s' h => (deferIf_state ok s s' h).1, fun s s' h => (deferIf_state ok s s' h).2.1, fun s s' h => (deferIf_state ok s s' h).2.2.1, fun s s' h => (deferIf_state ok s s' h).2.2.2.1, fun s s' h => (deferIf_state ok s s' h).2.2.2.2.1, fun s s' h => (deferIf_state ok s s' h).2.2.2.2.2.1, fun s s' h => (deferIf_state ok s s' h).2.2.2.2.2.2.1, fun s s' h => (deferIf_state ok s s' h).2.2.2.2.2.2.2.1, fun s s' h => (deferIf_state ok s s' h).2.2.2.2.2.2.2.2.1, fun s s' h => (deferIf_state ok s s' h).2.2.2.2.2.2.2.2.2.1, fun s s' h => (deferIf_state ok s s' h).2.2.2.2.2.2.2.2.2.2.1, fun s s' h => (deferIf_state ok s s' h).2.2.2.2.2.2.2.2.2.2.2.1, fun s s' h => (deferIf_state ok s s' h).2.2.2.2.2.2.2.2.2.2.2.2.1, fun s s' h => (deferIf_state ok s s' h).2.2.2.2.2.2.2.2.2.2.2.2.2.1, fun s s' h => (deferIf_state ok s s' h).2.2.2.2.2.2.2.2.2.2.2.2.2.2.1, fun s s' h => (deferIf_state ok s s' h).2.2.2.2.2.2.2.2.2.2.2.2.2.2.2.1, fun s s' h => (deferIf_state ok s s' h).2.2.2.2.2.2.2.2.2.2.2.2.2.2.2.2.1, fun s s' h => (deferIf_state ok s s' h).2.2.2.2.2.2.2.2.2.2.2.2.2.2.2.2.2.1, fun s s' h => (deferIf_state ok s s' h).2.2.2.2.2.2.2.2.2.2.2.2.2.2.2.2.2.2.1, fun s s' h => (deferIf_state ok s s' h).2.2.2.2.2.2.2.2.2.2.2.2.2.2.2.2.2.2.2.1, fun s s' h => (deferIf_state ok s s' h).2.2.2.2.2.2.2.2.2.2.2.2.2.2.2.2.2.2.2.2.1, fun s s' h => (deferIf_state ok s s' h).2.2.2.2.2.2.2.2.2.2.2.2.2.2.2.2.2.2.2.2.2.1, fun s s' h => (deferIf_state ok s s' h).2.2.2.2.2.2.2.2.2.2.2.2.2.2.2.2.2.2.2.2.2.2.1, fun s s' h => (deferIf_state ok s s' h).2.2.2.2.2.2.2.2.2.2.2.2.2.2.2.2.2.2.2.2.2.2.2.1, fun s s' h => (deferIf_state ok s s' h).2.2.2.2.2.2.2.2.2.2.2.2.2.2.2.2.2.2.2.2.2.2.2.2⟩
theorem hostRegEffect_state (angle : Bool) (v : Nat) (s s' : State) (h : (hostRegEffect angle v s).state? = some s') :
    s'.now = s.now ∧ s'.ringOffset = s.ringOffset ∧ s'.pending = s.pending ∧ s'.pm = s.pm ∧ s'.out = s.out ∧ s'.trngCount = s.trngCount ∧
      s'.ident = s.ident ∧ s'.supply = s.supply ∧ s'.md = s.md ∧ s'.meas = s.meas ∧ s'.aux = s.aux ∧ s'.itg = s.itg ∧ s'.bal = s.bal ∧
      s'.hio = s.hio ∧ s'.est = s.est ∧ s'.lp = s.lp ∧ s'.ring = s.ring ∧ s'.can = s.can ∧ s'.px = s.px ∧ s'.flt = s.flt ∧
      s'.sent = s.sent ∧ s'.rcd = s.rcd ∧ s'.mgmt = s.mgmt := by
  simp only [hostRegEffect] at h
  split at h <;> (obtain ⟨t, ht, rfl⟩ := armed_state _ _ _ _ _ h; have := State.hostRegArm_state _ _ _ _ ht; simp_all)
@[simp] theorem hostRegEffect_keeps (angle : Bool) (v : Nat) :
    PxEffect.Keeps (hostRegEffect angle v) State.now ∧ PxEffect.Keeps (hostRegEffect angle v) State.ringOffset ∧
      PxEffect.Keeps (hostRegEffect angle v) State.pending ∧ PxEffect.Keeps (hostRegEffect angle v) State.pm ∧
      PxEffect.Keeps (hostRegEffect angle v) State.out ∧ PxEffect.Keeps (hostRegEffect angle v) State.trngCount ∧
      PxEffect.Keeps (hostRegEffect angle v) State.ident ∧ PxEffect.Keeps (hostRegEffect angle v) State.supply ∧
      PxEffect.Keeps (hostRegEffect angle v) State.md ∧ PxEffect.Keeps (hostRegEffect angle v) State.meas ∧
      PxEffect.Keeps (hostRegEffect angle v) State.aux ∧ PxEffect.Keeps (hostRegEffect angle v) State.itg ∧
      PxEffect.Keeps (hostRegEffect angle v) State.bal ∧ PxEffect.Keeps (hostRegEffect angle v) State.hio ∧
      PxEffect.Keeps (hostRegEffect angle v) State.est ∧ PxEffect.Keeps (hostRegEffect angle v) State.lp ∧
      PxEffect.Keeps (hostRegEffect angle v) State.ring ∧ PxEffect.Keeps (hostRegEffect angle v) State.can ∧
      PxEffect.Keeps (hostRegEffect angle v) State.px ∧ PxEffect.Keeps (hostRegEffect angle v) State.flt ∧
      PxEffect.Keeps (hostRegEffect angle v) State.sent ∧ PxEffect.Keeps (hostRegEffect angle v) State.rcd ∧
      PxEffect.Keeps (hostRegEffect angle v) State.mgmt :=
  ⟨fun s s' h => (hostRegEffect_state angle v s s' h).1, fun s s' h => (hostRegEffect_state angle v s s' h).2.1, fun s s' h => (hostRegEffect_state angle v s s' h).2.2.1, fun s s' h => (hostRegEffect_state angle v s s' h).2.2.2.1, fun s s' h => (hostRegEffect_state angle v s s' h).2.2.2.2.1, fun s s' h => (hostRegEffect_state angle v s s' h).2.2.2.2.2.1, fun s s' h => (hostRegEffect_state angle v s s' h).2.2.2.2.2.2.1, fun s s' h => (hostRegEffect_state angle v s s' h).2.2.2.2.2.2.2.1, fun s s' h => (hostRegEffect_state angle v s s' h).2.2.2.2.2.2.2.2.1, fun s s' h => (hostRegEffect_state angle v s s' h).2.2.2.2.2.2.2.2.2.1, fun s s' h => (hostRegEffect_state angle v s s' h).2.2.2.2.2.2.2.2.2.2.1, fun s s' h => (hostRegEffect_state angle v s s' h).2.2.2.2.2.2.2.2.2.2.2.1, fun s s' h => (hostRegEffect_state angle v s s' h).2.2.2.2.2.2.2.2.2.2.2.2.1, fun s s' h => (hostRegEffect_state angle v s s' h).2.2.2.2.2.2.2.2.2.2.2.2.2.1, fun s s' h => (hostRegEffect_state angle v s s' h).2.2.2.2.2.2.2.2.2.2.2.2.2.2.1, fun s s' h => (hostRegEffect_state angle v s s' h).2.2.2.2.2.2.2.2.2.2.2.2.2.2.2.1, fun s s' h => (hostRegEffect_state angle v s s' h).2.2.2.2.2.2.2.2.2.2.2.2.2.2.2.2.1, fun s s' h => (hostRegEffect_state angle v s s' h).2.2.2.2.2.2.2.2.2.2.2.2.2.2.2.2.2.1, fun s s' h => (hostRegEffect_state angle v s s' h).2.2.2.2.2.2.2.2.2.2.2.2.2.2.2.2.2.2.1, fun s s' h => (hostRegEffect_state angle v s s' h).2.2.2.2.2.2.2.2.2.2.2.2.2.2.2.2.2.2.2.1, fun s s' h => (hostRegEffect_state angle v s s' h).2.2.2.2.2.2.2.2.2.2.2.2.2.2.2.2.2.2.2.2.1, fun s s' h => (hostRegEffect_state angle v s s' h).2.2.2.2.2.2.2.2.2.2.2.2.2.2.2.2.2.2.2.2.2.1, fun s s' h => (hostRegEffect_state angle v s s' h).2.2.2.2.2.2.2.2.2.2.2.2.2.2.2.2.2.2.2.2.2.2⟩
theorem entryEffect_state (o : ObjDef) (j w : Nat) (s s' : State) (h : (entryEffect o j w s).state? = some s') :
    s'.now = s.now ∧ s'.ringOffset = s.ringOffset ∧ s'.pending = s.pending ∧ s'.pm = s.pm ∧ s'.out = s.out ∧ s'.trngCount = s.trngCount ∧
      s'.ident = s.ident ∧ s'.supply = s.supply ∧ s'.md = s.md ∧ s'.tm = s.tm ∧ s'.meas = s.meas ∧ s'.aux = s.aux ∧ s'.itg = s.itg ∧
      s'.bal = s.bal ∧ s'.hio = s.hio ∧ s'.est = s.est ∧ s'.lp = s.lp ∧ s'.ring = s.ring ∧ s'.can = s.can ∧ s'.px = s.px ∧ s'.flt = s.flt ∧
      s'.sent = s.sent ∧ s'.rcd = s.rcd ∧ s'.mgmt = s.mgmt := by
  simp only [entryEffect] at h
  (repeat' split at h) <;> first | (cases h; done) | (cases h; simp)
@[simp] theorem entryEffect_keeps (o : ObjDef) (j w : Nat) :
    PxEffect.Keeps (entryEffect o j w) State.now ∧ PxEffect.Keeps (entryEffect o j w) State.ringOffset ∧
      PxEffect.Keeps (entryEffect o j w) State.pending ∧ PxEffect.Keeps (entryEffect o j w) State.pm ∧
      PxEffect.Keeps (entryEffect o j w) State.out ∧ PxEffect.Keeps (entryEffect o j w) State.trngCount ∧
      PxEffect.Keeps (entryEffect o j w) State.ident ∧ PxEffect.Keeps (entryEffect o j w) State.supply ∧
      PxEffect.Keeps (entryEffect o j w) State.md ∧ PxEffect.Keeps (entryEffect o j w) State.tm ∧
      PxEffect.Keeps (entryEffect o j w) State.meas ∧ PxEffect.Keeps (entryEffect o j w) State.aux ∧
      PxEffect.Keeps (entryEffect o j w) State.itg ∧ PxEffect.Keeps (entryEffect o j w) State.bal ∧
      PxEffect.Keeps (entryEffect o j w) State.hio ∧ PxEffect.Keeps (entryEffect o j w) State.est ∧
      PxEffect.Keeps (entryEffect o j w) State.lp ∧ PxEffect.Keeps (entryEffect o j w) State.ring ∧
      PxEffect.Keeps (entryEffect o j w) State.can ∧ PxEffect.Keeps (entryEffect o j w) State.px ∧
      PxEffect.Keeps (entryEffect o j w) State.flt ∧ PxEffect.Keeps (entryEffect o j w) State.sent ∧
      PxEffect.Keeps (entryEffect o j w) State.rcd ∧ PxEffect.Keeps (entryEffect o j w) State.mgmt :=
  ⟨fun s s' h => (entryEffect_state o j w s s' h).1, fun s s' h => (entryEffect_state o j w s s' h).2.1, fun s s' h => (entryEffect_state o j w s s' h).2.2.1, fun s s' h => (entryEffect_state o j w s s' h).2.2.2.1, fun s s' h => (entryEffect_state o j w s s' h).2.2.2.2.1, fun s s' h => (entryEffect_state o j w s s' h).2.2.2.2.2.1, fun s s' h => (entryEffect_state o j w s s' h).2.2.2.2.2.2.1, fun s s' h => (entryEffect_state o j w s s' h).2.2.2.2.2.2.2.1, fun s s' h => (entryEffect_state o j w s s' h).2.2.2.2.2.2.2.2.1, fun s s' h => (entryEffect_state o j w s s' h).2.2.2.2.2.2.2.2.2.1, fun s s' h => (entryEffect_state o j w s s' h).2.2.2.2.2.2.2.2.2.2.1, fun s s' h => (entryEffect_state o j w s s' h).2.2.2.2.2.2.2.2.2.2.2.1, fun s s' h => (entryEffect_state o j w s s' h).2.2.2.2.2.2.2.2.2.2.2.2.1, fun s s' h => (entryEffect_state o j w s s' h).2.2.2.2.2.2.2.2.2.2.2.2.2.1, fun s s' h => (entryEffect_state o j w s s' h).2.2.2.2.2.2.2.2.2.2.2.2.2.2.1, fun s s' h => (entryEffect_state o j w s s' h).2.2.2.2.2.2.2.2.2.2.2.2.2.2.2.1, fun s s' h => (entryEffect_state o j w s s' h).2.2.2.2.2.2.2.2.2.2.2.2.2.2.2.2.1, fun s s' h => (entryEffect_state o j w s s' h).2.2.2.2.2.2.2.2.2.2.2.2.2.2.2.2.2.1, fun s s' h => (entryEffect_state o j w s s' h).2.2.2.2.2.2.2.2.2.2.2.2.2.2.2.2.2.2.1, fun s s' h => (entryEffect_state o j w s s' h).2.2.2.2.2.2.2.2.2.2.2.2.2.2.2.2.2.2.2.1, fun s s' h => (entryEffect_state o j w s s' h).2.2.2.2.2.2.2.2.2.2.2.2.2.2.2.2.2.2.2.2.1, fun s s' h => (entryEffect_state o j w s s' h).2.2.2.2.2.2.2.2.2.2.2.2.2.2.2.2.2.2.2.2.2.1, fun s s' h => (entryEffect_state o j w s s' h).2.2.2.2.2.2.2.2.2.2.2.2.2.2.2.2.2.2.2.2.2.2.1, fun s s' h => (entryEffect_state o j w s s' h).2.2.2.2.2.2.2.2.2.2.2.2.2.2.2.2.2.2.2.2.2.2.2⟩
theorem injEffect_state (j v : Nat) (s s' : State) (h : (injEffect j v s).state? = some s') :
    s'.now = s.now ∧ s'.ringOffset = s.ringOffset ∧ s'.pending = s.pending ∧ s'.pm = s.pm ∧ s'.trngCount = s.trngCount ∧
      s'.supply = s.supply ∧ s'.aux = s.aux ∧ s'.itg = s.itg ∧ s'.est = s.est ∧ s'.lp = s.lp ∧ s'.px = s.px ∧ s'.sent = s.sent := by
  simp only [injEffect] at h
  split at h
  · obtain ⟨t, ht, rfl⟩ := armed_state _ _ _ _ _ h; have := State.armAngle_state _ _ _ _ _ _ ht; simp_all
  · obtain ⟨t, ht, rfl⟩ := armed_state _ _ _ _ _ h; have := State.armAngle_state _ _ _ _ _ _ ht; simp_all
  · cases h; simp
  · cases h; simp
@[simp] theorem injEffect_keeps (j v : Nat) :
    PxEffect.Keeps (injEffect j v) State.now ∧ PxEffect.Keeps (injEffect j v) State.ringOffset ∧
      PxEffect.Keeps (injEffect j v) State.pending ∧ PxEffect.Keeps (injEffect j v) State.pm ∧
      PxEffect.Keeps (injEffect j v) State.trngCount ∧ PxEffect.Keeps (injEffect j v) State.supply ∧
      PxEffect.Keeps (injEffect j v) State.aux ∧ PxEffect.Keeps (injEffect j v) State.itg ∧ PxEffect.Keeps (injEffect j v) State.est ∧
      PxEffect.Keeps (injEffect j v) State.lp ∧ PxEffect.Keeps (injEffect j v) State.px ∧ PxEffect.Keeps (injEffect j v) State.sent :=
  ⟨fun s s' h => (injEffect_state j v s s' h).1, fun s s' h => (injEffect_state j v s s' h).2.1, fun s s' h => (injEffect_state j v s s' h).2.2.1, fun s s' h => (injEffect_state j v s s' h).2.2.2.1, fun s s' h => (injEffect_state j v s s' h).2.2.2.2.1, fun s s' h => (injEffect_state j v s s' h).2.2.2.2.2.1, fun s s' h => (injEffect_state j v s s' h).2.2.2.2.2.2.1, fun s s' h => (injEffect_state j v s s' h).2.2.2.2.2.2.2.1, fun s s' h => (injEffect_state j v s s' h).2.2.2.2.2.2.2.2.1, fun s s' h => (injEffect_state j v s s' h).2.2.2.2.2.2.2.2.2.1, fun s s' h => (injEffect_state j v s s' h).2.2.2.2.2.2.2.2.2.2.1, fun s s' h => (injEffect_state j v s s' h).2.2.2.2.2.2.2.2.2.2.2⟩
theorem queueSizeEffect_state (i v : Nat) (s s' : State) (h : (queueSizeEffect i v s).state? = some s') :
    s'.now = s.now ∧ s'.ringOffset = s.ringOffset ∧ s'.pending = s.pending ∧ s'.pm = s.pm ∧ s'.out = s.out ∧ s'.trngCount = s.trngCount ∧
      s'.ident = s.ident ∧ s'.supply = s.supply ∧ s'.md = s.md ∧ s'.tm = s.tm ∧ s'.meas = s.meas ∧ s'.aux = s.aux ∧ s'.itg = s.itg ∧
      s'.bal = s.bal ∧ s'.hio = s.hio ∧ s'.est = s.est ∧ s'.lp = s.lp ∧ s'.ring = s.ring ∧ s'.can = s.can ∧ s'.px = s.px ∧ s'.flt = s.flt ∧
      s'.sent = s.sent ∧ s'.rcd = s.rcd ∧ s'.mgmt = s.mgmt := by
  simp only [queueSizeEffect] at h
  (repeat' split at h) <;> first | (cases h; done) | (cases h; simp)
@[simp] theorem queueSizeEffect_keeps (i v : Nat) :
    PxEffect.Keeps (queueSizeEffect i v) State.now ∧ PxEffect.Keeps (queueSizeEffect i v) State.ringOffset ∧
      PxEffect.Keeps (queueSizeEffect i v) State.pending ∧ PxEffect.Keeps (queueSizeEffect i v) State.pm ∧
      PxEffect.Keeps (queueSizeEffect i v) State.out ∧ PxEffect.Keeps (queueSizeEffect i v) State.trngCount ∧
      PxEffect.Keeps (queueSizeEffect i v) State.ident ∧ PxEffect.Keeps (queueSizeEffect i v) State.supply ∧
      PxEffect.Keeps (queueSizeEffect i v) State.md ∧ PxEffect.Keeps (queueSizeEffect i v) State.tm ∧
      PxEffect.Keeps (queueSizeEffect i v) State.meas ∧ PxEffect.Keeps (queueSizeEffect i v) State.aux ∧
      PxEffect.Keeps (queueSizeEffect i v) State.itg ∧ PxEffect.Keeps (queueSizeEffect i v) State.bal ∧
      PxEffect.Keeps (queueSizeEffect i v) State.hio ∧ PxEffect.Keeps (queueSizeEffect i v) State.est ∧
      PxEffect.Keeps (queueSizeEffect i v) State.lp ∧ PxEffect.Keeps (queueSizeEffect i v) State.ring ∧
      PxEffect.Keeps (queueSizeEffect i v) State.can ∧ PxEffect.Keeps (queueSizeEffect i v) State.px ∧
      PxEffect.Keeps (queueSizeEffect i v) State.flt ∧ PxEffect.Keeps (queueSizeEffect i v) State.sent ∧
      PxEffect.Keeps (queueSizeEffect i v) State.rcd ∧ PxEffect.Keeps (queueSizeEffect i v) State.mgmt :=
  ⟨fun s s' h => (queueSizeEffect_state i v s s' h).1, fun s s' h => (queueSizeEffect_state i v s s' h).2.1, fun s s' h => (queueSizeEffect_state i v s s' h).2.2.1, fun s s' h => (queueSizeEffect_state i v s s' h).2.2.2.1, fun s s' h => (queueSizeEffect_state i v s s' h).2.2.2.2.1, fun s s' h => (queueSizeEffect_state i v s s' h).2.2.2.2.2.1, fun s s' h => (queueSizeEffect_state i v s s' h).2.2.2.2.2.2.1, fun s s' h => (queueSizeEffect_state i v s s' h).2.2.2.2.2.2.2.1, fun s s' h => (queueSizeEffect_state i v s s' h).2.2.2.2.2.2.2.2.1, fun s s' h => (queueSizeEffect_state i v s s' h).2.2.2.2.2.2.2.2.2.1, fun s s' h => (queueSizeEffect_state i v s s' h).2.2.2.2.2.2.2.2.2.2.1, fun s s' h => (queueSizeEffect_state i v s s' h).2.2.2.2.2.2.2.2.2.2.2.1, fun s s' h => (queueSizeEffect_state i v s s' h).2.2.2.2.2.2.2.2.2.2.2.2.1, fun s s' h => (queueSizeEffect_state i v s s' h).2.2.2.2.2.2.2.2.2.2.2.2.2.1, fun s s' h => (queueSizeEffect_state i v s s' h).2.2.2.2.2.2.2.2.2.2.2.2.2.2.1, fun s s' h => (queueSizeEffect_state i v s s' h).2.2.2.2.2.2.2.2.2.2.2.2.2.2.2.1, fun s s' h => (queueSizeEffect_state i v s s' h).2.2.2.2.2.2.2.2.2.2.2.2.2.2.2.2.1, fun s s' h => (queueSizeEffect_state i v s s' h).2.2.2.2.2.2.2.2.2.2.2.2.2.2.2.2.2.1, fun s s' h => (queueSizeEffect_state i v s s' h).2.2.2.2.2.2.2.2.2.2.2.2.2.2.2.2.2.2.1, fun s s' h => (queueSizeEffect_state i v s s' h).2.2.2.2.2.2.2.2.2.2.2.2.2.2.2.2.2.2.2.1, fun s s' h => (queueSizeEffect_state i v s s' h).2.2.2.2.2.2.2.2.2.2.2.2.2.2.2.2.2.2.2.2.1, fun s s' h => (queueSizeEffect_state i v s s' h).2.2.2.2.2.2.2.2.2.2.2.2.2.2.2.2.2.2.2.2.2.1, fun s s' h => (queueSizeEffect_state i v s s' h).2.2.2.2.2.2.2.2.2.2.2.2.2.2.2.2.2.2.2.2.2.2.1, fun s s' h => (queueSizeEffect_state i v s s' h).2.2.2.2.2.2.2.2.2.2.2.2.2.2.2.2.2.2.2.2.2.2.2⟩
theorem loopDataEffect_state (o : ObjDef) (i j : Nat) (ok : Bool) (d : Bytes) (s s' : State) (h : (loopDataEffect o i j ok d s).state? = some s') :
    s'.now = s.now ∧ s'.ringOffset = s.ringOffset ∧ s'.pending = s.pending ∧ s'.pm = s.pm ∧ s'.out = s.out ∧ s'.trngCount = s.trngCount ∧
      s'.ident = s.ident ∧ s'.supply = s.supply ∧ s'.md = s.md ∧ s'.tm = s.tm ∧ s'.meas = s.meas ∧ s'.aux = s.aux ∧ s'.itg = s.itg ∧
      s'.bal = s.bal ∧ s'.hio = s.hio ∧ s'.est = s.est ∧ s'.lp = s.lp ∧ s'.ring = s.ring ∧ s'.can = s.can ∧ s'.px = s.px ∧ s'.flt = s.flt ∧
      s'.sent = s.sent ∧ s'.rcd = s.rcd ∧ s'.mgmt = s.mgmt := by
  simp only [loopDataEffect] at h
  (repeat' split at h) <;> first | (cases h; done) | (cases h; simp)
@[simp] theorem loopDataEffect_keeps (o : ObjDef) (i j : Nat) (ok : Bool) (d : Bytes) :
    PxEffect.Keeps (loopDataEffect o i j ok d) State.now ∧ PxEffect.Keeps (loopDataEffect o i j ok d) State.ringOffset ∧
      PxEffect.Keeps (loopDataEffect o i j ok d) State.pending ∧ PxEffect.Keeps (loopDataEffect o i j ok d) State.pm ∧
      PxEffect.Keeps (loopDataEffect o i j ok d) State.out ∧ PxEffect.Keeps (loopDataEffect o i j ok d) State.trngCount ∧
      PxEffect.Keeps (loopDataEffect o i j ok d) State.ident ∧ PxEffect.Keeps (loopDataEffect o i j ok d) State.supply ∧
      PxEffect.Keeps (loopDataEffect o i j ok d) State.md ∧ PxEffect.Keeps (loopDataEffect o i j ok d) State.tm ∧
      PxEffect.Keeps (loopDataEffect o i j ok d) State.meas ∧ PxEffect.Keeps (loopDataEffect o i j ok d) State.aux ∧
      PxEffect.Keeps (loopDataEffect o i j ok d) State.itg ∧ PxEffect.Keeps (loopDataEffect o i j ok d) State.bal ∧
      PxEffect.Keeps (loopDataEffect o i j ok d) State.hio ∧ PxEffect.Keeps (loopDataEffect o i j ok d) State.est ∧
      PxEffect.Keeps (loopDataEffect o i j ok d) State.lp ∧ PxEffect.Keeps (loopDataEffect o i j ok d) State.ring ∧
      PxEffect.Keeps (loopDataEffect o i j ok d) State.can ∧ PxEffect.Keeps (loopDataEffect o i j ok d) State.px ∧
      PxEffect.Keeps (loopDataEffect o i j ok d) State.flt ∧ PxEffect.Keeps (loopDataEffect o i j ok d) State.sent ∧
      PxEffect.Keeps (loopDataEffect o i j ok d) State.rcd ∧ PxEffect.Keeps (loopDataEffect o i j ok d) State.mgmt :=
  ⟨fun s s' h => (loopDataEffect_state o i j ok d s s' h).1, fun s s' h => (loopDataEffect_state o i j ok d s s' h).2.1, fun s s' h => (loopDataEffect_state o i j ok d s s' h).2.2.1, fun s s' h => (loopDataEffect_state o i j ok d s s' h).2.2.2.1, fun s s' h => (loopDataEffect_state o i j ok d s s' h).2.2.2.2.1, fun s s' h => (loopDataEffect_state o i j ok d s s' h).2.2.2.2.2.1, fun s s' h => (loopDataEffect_state o i j ok d s s' h).2.2.2.2.2.2.1, fun s s' h => (loopDataEffect_state o i j ok d s s' h).2.2.2.2.2.2.2.1, fun s s' h => (loopDataEffect_state o i j ok d s s' h).2.2.2.2.2.2.2.2.1, fun s s' h => (loopDataEffect_state o i j ok d s s' h).2.2.2.2.2.2.2.2.2.1, fun s s' h => (loopDataEffect_state o i j ok d s s' h).2.2.2.2.2.2.2.2.2.2.1, fun s s' h => (loopDataEffect_state o i j ok d s s' h).2.2.2.2.2.2.2.2.2.2.2.1, fun s s' h => (loopDataEffect_state o i j ok d s s' h).2.2.2.2.2.2.2.2.2.2.2.2.1, fun s s' h => (loopDataEffect_state o i j ok d s s' h).2.2.2.2.2.2.2.2.2.2.2.2.2.1, fun s s' h => (loopDataEffect_state o i j ok d s s' h).2.2.2.2.2.2.2.2.2.2.2.2.2.2.1, fun s s' h => (loopDataEffect_state o i j ok d s s' h).2.2.2.2.2.2.2.2.2.2.2.2.2.2.2.1, fun s s' h => (loopDataEffect_state o i j ok d s s' h).2.2.2.2.2.2.2.2.2.2.2.2.2.2.2.2.1, fun s s' h => (loopDataEffect_state o i j ok d s s' h).2.2.2.2.2.2.2.2.2.2.2.2.2.2.2.2.2.1, fun s s' h => (loopDataEffect_state o i j ok d s s' h).2.2.2.2.2.2.2.2.2.2.2.2.2.2.2.2.2.2.1, fun s s' h => (loopDataEffect_state o i j ok d s s' h).2.2.2.2.2.2.2.2.2.2.2.2.2.2.2.2.2.2.2.1, fun s s' h => (loopDataEffect_state o i j ok d s s' h).2.2.2.2.2.2.2.2.2.2.2.2.2.2.2.2.2.2.2.2.1, fun s s' h => (loopDataEffect_state o i j ok d s s' h).2.2.2.2.2.2.2.2.2.2.2.2.2.2.2.2.2.2.2.2.2.1, fun s s' h => (loopDataEffect_state o i j ok d s s' h).2.2.2.2.2.2.2.2.2.2.2.2.2.2.2.2.2.2.2.2.2.2.1, fun s s' h => (loopDataEffect_state o i j ok d s s' h).2.2.2.2.2.2.2.2.2.2.2.2.2.2.2.2.2.2.2.2.2.2.2⟩
theorem sentOptionEffect_state (i : Nat) (ok : Bool) (s s' : State) (h : (sentOptionEffect i ok s).state? = some s') :
    s'.now = s.now ∧ s'.ringOffset = s.ringOffset ∧ s'.pending = s.pending ∧ s'.dict = s.dict ∧ s'.pm = s.pm ∧ s'.out = s.out ∧
      s'.trngCount = s.trngCount ∧ s'.ident = s.ident ∧ s'.supply = s.supply ∧ s'.md = s.md ∧ s'.tm = s.tm ∧ s'.meas = s.meas ∧
      s'.aux = s.aux ∧ s'.itg = s.itg ∧ s'.bal = s.bal ∧ s'.hio = s.hio ∧ s'.est = s.est ∧ s'.lp = s.lp ∧ s'.ring = s.ring ∧
      s'.can = s.can ∧ s'.px = s.px ∧ s'.flt = s.flt ∧ s'.sent = s.sent ∧ s'.rcd = s.rcd ∧ s'.mgmt = s.mgmt := by
  simp only [sentOptionEffect] at h
  (repeat' split at h) <;> first | (cases h; done) | (cases h; simp)
@[simp] theorem sentOptionEffect_keeps (i : Nat) (ok : Bool) :
    PxEffect.Keeps (sentOptionEffect i ok) State.now ∧ PxEffect.Keeps (sentOptionEffect i ok) State.ringOffset ∧
      PxEffect.Keeps (sentOptionEffect i ok) State.pending ∧ PxEffect.Keeps (sentOptionEffect i ok) State.dict ∧
      PxEffect.Keeps (sentOptionEffect i ok) State.pm ∧ PxEffect.Keeps (sentOptionEffect i ok) State.out ∧
      PxEffect.Keeps (sentOptionEffect i ok) State.trngCount ∧ PxEffect.Keeps (sentOptionEffect i ok) State.ident ∧
      PxEffect.Keeps (sentOptionEffect i ok) State.supply ∧ PxEffect.Keeps (sentOptionEffect i ok) State.md ∧
      PxEffect.Keeps (sentOptionEffect i ok) State.tm ∧ PxEffect.Keeps (sentOptionEffect i ok) State.meas ∧
      PxEffect.Keeps (sentOptionEffect i ok) State.aux ∧ PxEffect.Keeps (sentOptionEffect i ok) State.itg ∧
      PxEffect.Keeps (sentOptionEffect i ok) State.bal ∧ PxEffect.Keeps (sentOptionEffect i ok) State.hio ∧
      PxEffect.Keeps (sentOptionEffect i ok) State.est ∧ PxEffect.Keeps (sentOptionEffect i ok) State.lp ∧
      PxEffect.Keeps (sentOptionEffect i ok) State.ring ∧ PxEffect.Keeps (sentOptionEffect i ok) State.can ∧
      PxEffect.Keeps (sentOptionEffect i ok) State.px ∧ PxEffect.Keeps (sentOptionEffect i ok) State.flt ∧
      PxEffect.Keeps (sentOptionEffect i ok) State.sent ∧ PxEffect.Keeps (sentOptionEffect i ok) State.rcd ∧
      PxEffect.Keeps (sentOptionEffect i ok) State.mgmt :=
  ⟨fun s s' h => (sentOptionEffect_state i ok s s' h).1, fun s s' h => (sentOptionEffect_state i ok s s' h).2.1, fun s s' h => (sentOptionEffect_state i ok s s' h).2.2.1, fun s s' h => (sentOptionEffect_state i ok s s' h).2.2.2.1, fun s s' h => (sentOptionEffect_state i ok s s' h).2.2.2.2.1, fun s s' h => (sentOptionEffect_state i ok s s' h).2.2.2.2.2.1, fun s s' h => (sentOptionEffect_state i ok s s' h).2.2.2.2.2.2.1, fun s s' h => (sentOptionEffect_state i ok s s' h).2.2.2.2.2.2.2.1, fun s s' h => (sentOptionEffect_state i ok s s' h).2.2.2.2.2.2.2.2.1, fun s s' h => (sentOptionEffect_state i ok s s' h).2.2.2.2.2.2.2.2.2.1, fun s s' h => (sentOptionEffect_state i ok s s' h).2.2.2.2.2.2.2.2.2.2.1, fun s s' h => (sentOptionEffect_state i ok s s' h).2.2.2.2.2.2.2.2.2.2.2.1, fun s s' h => (sentOptionEffect_state i ok s s' h).2.2.2.2.2.2.2.2.2.2.2.2.1, fun s s' h => (sentOptionEffect_state i ok s s' h).2.2.2.2.2.2.2.2.2.2.2.2.2.1, fun s s' h => (sentOptionEffect_state i ok s s' h).2.2.2.2.2.2.2.2.2.2.2.2.2.2.1, fun s s' h => (sentOptionEffect_state i ok s s' h).2.2.2.2.2.2.2.2.2.2.2.2.2.2.2.1, fun s s' h => (sentOptionEffect_state i ok s s' h).2.2.2.2.2.2.2.2.2.2.2.2.2.2.2.2.1, fun s s' h => (sentOptionEffect_state i ok s s' h).2.2.2.2.2.2.2.2.2.2.2.2.2.2.2.2.2.1, fun s s' h => (sentOptionEffect_state i ok s s' h).2.2.2.2.2.2.2.2.2.2.2.2.2.2.2.2.2.2.1, fun s s' h => (sentOptionEffect_state i ok s s' h).2.2.2.2.2.2.2.2.2.2.2.2.2.2.2.2.2.2.2.1, fun s s' h => (sentOptionEffect_state i ok s s' h).2.2.2.2.2.2.2.2.2.2.2.2.2.2.2.2.2.2.2.2.1, fun s s' h => (sentOptionEffect_state i ok s s' h).2.2.2.2.2.2.2.2.2.2.2.2.2.2.2.2.2.2.2.2.2.1, fun s s' h => (sentOptionEffect_state i ok s s' h).2.2.2.2.2.2.2.2.2.2.2.2.2.2.2.2.2.2.2.2.2.2.1, fun s s' h => (sentOptionEffect_state i ok s s' h).2.2.2.2.2.2.2.2.2.2.2.2.2.2.2.2.2.2.2.2.2.2.2.1, fun s s' h => (sentOptionEffect_state i ok s s' h).2.2.2.2.2.2.2.2.2.2.2.2.2.2.2.2.2.2.2.2.2.2.2.2⟩
theorem shortCircuitEffect_state (shunt level : Rat) (s s' : State) (h : (shortCircuitEffect shunt level s).state? = some s') :
    s'.now = s.now ∧ s'.ringOffset = s.ringOffset ∧ s'.pending = s.pending ∧ s'.dict = s.dict ∧ s'.pm = s.pm ∧ s'.out = s.out ∧
      s'.trngCount = s.trngCount ∧ s'.ident = s.ident ∧ s'.supply = s.supply ∧ s'.md = s.md ∧ s'.tm = s.tm ∧ s'.meas = s.meas ∧
      s'.aux = s.aux ∧ s'.itg = s.itg ∧ s'.bal = s.bal ∧ s'.hio = s.hio ∧ s'.est = s.est ∧ s'.lp = s.lp ∧ s'.ring = s.ring ∧
      s'.can = s.can ∧ s'.px = s.px ∧ s'.flt = s.flt ∧ s'.sent = s.sent ∧ s'.rcd = s.rcd ∧ s'.mgmt = s.mgmt := by
  simp at h
@[simp] theorem shortCircuitEffect_keeps (shunt level : Rat) :
    PxEffect.Keeps (shortCircuitEffect shunt level) State.now ∧ PxEffect.Keeps (shortCircuitEffect shunt level) State.ringOffset ∧
      PxEffect.Keeps (shortCircuitEffect shunt level) State.pending ∧ PxEffect.Keeps (shortCircuitEffect shunt level) State.dict ∧
      PxEffect.Keeps (shortCircuitEffect shunt level) State.pm ∧ PxEffect.Keeps (shortCircuitEffect shunt level) State.out ∧
      PxEffect.Keeps (shortCircuitEffect shunt level) State.trngCount ∧ PxEffect.Keeps (shortCircuitEffect shunt level) State.ident ∧
      PxEffect.Keeps (shortCircuitEffect shunt level) State.supply ∧ PxEffect.Keeps (shortCircuitEffect shunt level) State.md ∧
      PxEffect.Keeps (shortCircuitEffect shunt level) State.tm ∧ PxEffect.Keeps (shortCircuitEffect shunt level) State.meas ∧
      PxEffect.Keeps (shortCircuitEffect shunt level) State.aux ∧ PxEffect.Keeps (shortCircuitEffect shunt level) State.itg ∧
      PxEffect.Keeps (shortCircuitEffect shunt level) State.bal ∧ PxEffect.Keeps (shortCircuitEffect shunt level) State.hio ∧
      PxEffect.Keeps (shortCircuitEffect shunt level) State.est ∧ PxEffect.Keeps (shortCircuitEffect shunt level) State.lp ∧
      PxEffect.Keeps (shortCircuitEffect shunt level) State.ring ∧ PxEffect.Keeps (shortCircuitEffect shunt level) State.can ∧
      PxEffect.Keeps (shortCircuitEffect shunt level) State.px ∧ PxEffect.Keeps (shortCircuitEffect shunt level) State.flt ∧
      PxEffect.Keeps (shortCircuitEffect shunt level) State.sent ∧ PxEffect.Keeps (shortCircuitEffect shunt level) State.rcd ∧
      PxEffect.Keeps (shortCircuitEffect shunt level) State.mgmt :=
  ⟨fun s s' h => (shortCircuitEffect_state shunt level s s' h).1, fun s s' h => (shortCircuitEffect_state shunt level s s' h).2.1, fun s s' h => (shortCircuitEffect_state shunt level s s' h).2.2.1, fun s s' h => (shortCircuitEffect_state shunt level s s' h).2.2.2.1, fun s s' h => (shortCircuitEffect_state shunt level s s' h).2.2.2.2.1, fun s s' h => (shortCircuitEffect_state shunt level s s' h).2.2.2.2.2.1, fun s s' h => (shortCircuitEffect_state shunt level s s' h).2.2.2.2.2.2.1, fun s s' h => (shortCircuitEffect_state shunt level s s' h).2.2.2.2.2.2.2.1, fun s s' h => (shortCircuitEffect_state shunt level s s' h).2.2.2.2.2.2.2.2.1, fun s s' h => (shortCircuitEffect_state shunt level s s' h).2.2.2.2.2.2.2.2.2.1, fun s s' h => (shortCircuitEffect_state shunt level s s' h).2.2.2.2.2.2.2.2.2.2.1, fun s s' h => (shortCircuitEffect_state shunt level s s' h).2.2.2.2.2.2.2.2.2.2.2.1, fun s s' h => (shortCircuitEffect_state shunt level s s' h).2.2.2.2.2.2.2.2.2.2.2.2.1, fun s s' h => (shortCircuitEffect_state shunt level s s' h).2.2.2.2.2.2.2.2.2.2.2.2.2.1, fun s s' h => (shortCircuitEffect_state shunt level s s' h).2.2.2.2.2.2.2.2.2.2.2.2.2.2.1, fun s s' h => (shortCircuitEffect_state shunt level s s' h).2.2.2.2.2.2.2.2.2.2.2.2.2.2.2.1, fun s s' h => (shortCircuitEffect_state shunt level s s' h).2.2.2.2.2.2.2.2.2.2.2.2.2.2.2.2.1, fun s s' h => (shortCircuitEffect_state shunt level s s' h).2.2.2.2.2.2.2.2.2.2.2.2.2.2.2.2.2.1, fun s s' h => (shortCircuitEffect_state shunt level s s' h).2.2.2.2.2.2.2.2.2.2.2.2.2.2.2.2.2.2.1, fun s s' h => (shortCircuitEffect_state shunt level s s' h).2.2.2.2.2.2.2.2.2.2.2.2.2.2.2.2.2.2.2.1, fun s s' h => (shortCircuitEffect_state shunt level s s' h).2.2.2.2.2.2.2.2.2.2.2.2.2.2.2.2.2.2.2.2.1, fun s s' h => (shortCircuitEffect_state shunt level s s' h).2.2.2.2.2.2.2.2.2.2.2.2.2.2.2.2.2.2.2.2.2.1, fun s s' h => (shortCircuitEffect_state shunt level s s' h).2.2.2.2.2.2.2.2.2.2.2.2.2.2.2.2.2.2.2.2.2.2.1, fun s s' h => (shortCircuitEffect_state shunt level s s' h).2.2.2.2.2.2.2.2.2.2.2.2.2.2.2.2.2.2.2.2.2.2.2.1, fun s s' h => (shortCircuitEffect_state shunt level s s' h).2.2.2.2.2.2.2.2.2.2.2.2.2.2.2.2.2.2.2.2.2.2.2.2⟩
theorem kaEffect_state (ov uv hi lo : Rat) (s s' : State) (h : (kaEffect ov uv hi lo s).state? = some s') :
    s'.now = s.now ∧ s'.ringOffset = s.ringOffset ∧ s'.pending = s.pending ∧ s'.dict = s.dict ∧ s'.pm = s.pm ∧ s'.out = s.out ∧
      s'.trngCount = s.trngCount ∧ s'.ident = s.ident ∧ s'.supply = s.supply ∧ s'.md = s.md ∧ s'.tm = s.tm ∧ s'.meas = s.meas ∧
      s'.aux = s.aux ∧ s'.itg = s.itg ∧ s'.bal = s.bal ∧ s'.hio = s.hio ∧ s'.est = s.est ∧ s'.lp = s.lp ∧ s'.ring = s.ring ∧
      s'.can = s.can ∧ s'.px = s.px ∧ s'.flt = s.flt ∧ s'.sent = s.sent ∧ s'.rcd = s.rcd ∧ s'.mgmt = s.mgmt := by
  simp at h
@[simp] theorem kaEffect_keeps (ov uv hi lo : Rat) :
    PxEffect.Keeps (kaEffect ov uv hi lo) State.now ∧ PxEffect.Keeps (kaEffect ov uv hi lo) State.ringOffset ∧
      PxEffect.Keeps (kaEffect ov uv hi lo) State.pending ∧ PxEffect.Keeps (kaEffect ov uv hi lo) State.dict ∧
      PxEffect.Keeps (kaEffect ov uv hi lo) State.pm ∧ PxEffect.Keeps (kaEffect ov uv hi lo) State.out ∧
      PxEffect.Keeps (kaEffect ov uv hi lo) State.trngCount ∧ PxEffect.Keeps (kaEffect ov uv hi lo) State.ident ∧
      PxEffect.Keeps (kaEffect ov uv hi lo) State.supply ∧ PxEffect.Keeps (kaEffect ov uv hi lo) State.md ∧
      PxEffect.Keeps (kaEffect ov uv hi lo) State.tm ∧ PxEffect.Keeps (kaEffect ov uv hi lo) State.meas ∧
      PxEffect.Keeps (kaEffect ov uv hi lo) State.aux ∧ PxEffect.Keeps (kaEffect ov uv hi lo) State.itg ∧
      PxEffect.Keeps (kaEffect ov uv hi lo) State.bal ∧ PxEffect.Keeps (kaEffect ov uv hi lo) State.hio ∧
      PxEffect.Keeps (kaEffect ov uv hi lo) State.est ∧ PxEffect.Keeps (kaEffect ov uv hi lo) State.lp ∧
      PxEffect.Keeps (kaEffect ov uv hi lo) State.ring ∧ PxEffect.Keeps (kaEffect ov uv hi lo) State.can ∧
      PxEffect.Keeps (kaEffect ov uv hi lo) State.px ∧ PxEffect.Keeps (kaEffect ov uv hi lo) State.flt ∧
      PxEffect.Keeps (kaEffect ov uv hi lo) State.sent ∧ PxEffect.Keeps (kaEffect ov uv hi lo) State.rcd ∧
      PxEffect.Keeps (kaEffect ov uv hi lo) State.mgmt :=
  ⟨fun s s' h => (kaEffect_state ov uv hi lo s s' h).1, fun s s' h => (kaEffect_state ov uv hi lo s s' h).2.1, fun s s' h => (kaEffect_state ov uv hi lo s s' h).2.2.1, fun s s' h => (kaEffect_state ov uv hi lo s s' h).2.2.2.1, fun s s' h => (kaEffect_state ov uv hi lo s s' h).2.2.2.2.1, fun s s' h => (kaEffect_state ov uv hi lo s s' h).2.2.2.2.2.1, fun s s' h => (kaEffect_state ov uv hi lo s s' h).2.2.2.2.2.2.1, fun s s' h => (kaEffect_state ov uv hi lo s s' h).2.2.2.2.2.2.2.1, fun s s' h => (kaEffect_state ov uv hi lo s s' h).2.2.2.2.2.2.2.2.1, fun s s' h => (kaEffect_state ov uv hi lo s s' h).2.2.2.2.2.2.2.2.2.1, fun s s' h => (kaEffect_state ov uv hi lo s s' h).2.2.2.2.2.2.2.2.2.2.1, fun s s' h => (kaEffect_state ov uv hi lo s s' h).2.2.2.2.2.2.2.2.2.2.2.1, fun s s' h => (kaEffect_state ov uv hi lo s s' h).2.2.2.2.2.2.2.2.2.2.2.2.1, fun s s' h => (kaEffect_state ov uv hi lo s s' h).2.2.2.2.2.2.2.2.2.2.2.2.2.1, fun s s' h => (kaEffect_state ov uv hi lo s s' h).2.2.2.2.2.2.2.2.2.2.2.2.2.2.1, fun s s' h => (kaEffect_state ov uv hi lo s s' h).2.2.2.2.2.2.2.2.2.2.2.2.2.2.2.1, fun s s' h => (kaEffect_state ov uv hi lo s s' h).2.2.2.2.2.2.2.2.2.2.2.2.2.2.2.2.1, fun s s' h => (kaEffect_state ov uv hi lo s s' h).2.2.2.2.2.2.2.2.2.2.2.2.2.2.2.2.2.1, fun s s' h => (kaEffect_state ov uv hi lo s s' h).2.2.2.2.2.2.2.2.2.2.2.2.2.2.2.2.2.2.1, fun s s' h => (kaEffect_state ov uv hi lo s s' h).2.2.2.2.2.2.2.2.2.2.2.2.2.2.2.2.2.2.2.1, fun s s' h => (kaEffect_state ov uv hi lo s s' h).2.2.2.2.2.2.2.2.2.2.2.2.2.2.2.2.2.2.2.2.1, fun s s' h => (kaEffect_state ov uv hi lo s s' h).2.2.2.2.2.2.2.2.2.2.2.2.2.2.2.2.2.2.2.2.2.1, fun s s' h => (kaEffect_state ov uv hi lo s s' h).2.2.2.2.2.2.2.2.2.2.2.2.2.2.2.2.2.2.2.2.2.2.1, fun s s' h => (kaEffect_state ov uv hi lo s s' h).2.2.2.2.2.2.2.2.2.2.2.2.2.2.2.2.2.2.2.2.2.2.2.1, fun s s' h => (kaEffect_state ov uv hi lo s s' h).2.2.2.2.2.2.2.2.2.2.2.2.2.2.2.2.2.2.2.2.2.2.2.2⟩
theorem userAreaEffect_state (off : Nat) (d : Bytes) (s s' : State) (h : (userAreaEffect off d s).state? = some s') :
    s'.now = s.now ∧ s'.ringOffset = s.ringOffset ∧ s'.pending = s.pending ∧ s'.dict = s.dict ∧ s'.pm = s.pm ∧ s'.out = s.out ∧
      s'.trngCount = s.trngCount ∧ s'.ident = s.ident ∧ s'.supply = s.supply ∧ s'.md = s.md ∧ s'.tm = s.tm ∧ s'.meas = s.meas ∧
      s'.aux = s.aux ∧ s'.itg = s.itg ∧ s'.bal = s.bal ∧ s'.hio = s.hio ∧ s'.est = s.est ∧ s'.lp = s.lp ∧ s'.ring = s.ring ∧
      s'.can = s.can ∧ s'.px = s.px ∧ s'.flt = s.flt ∧ s'.sent = s.sent ∧ s'.mgmt = s.mgmt := by
  simp only [userAreaEffect] at h
  (repeat' split at h) <;> first | (cases h; done) | (cases h; simp)
@[simp] theorem userAreaEffect_keeps (off : Nat) (d : Bytes) :
    PxEffect.Keeps (userAreaEffect off d) State.now ∧ PxEffect.Keeps (userAreaEffect off d) State.ringOffset ∧
      PxEffect.Keeps (userAreaEffect off d) State.pending ∧ PxEffect.Keeps (userAreaEffect off d) State.dict ∧
      PxEffect.Keeps (userAreaEffect off d) State.pm ∧ PxEffect.Keeps (userAreaEffect off d) State.out ∧
      PxEffect.Keeps (userAreaEffect off d) State.trngCount ∧ PxEffect.Keeps (userAreaEffect off d) State.ident ∧
      PxEffect.Keeps (userAreaEffect off d) State.supply ∧ PxEffect.Keeps (userAreaEffect off d) State.md ∧
      PxEffect.Keeps (userAreaEffect off d) State.tm ∧ PxEffect.Keeps (userAreaEffect off d) State.meas ∧
      PxEffect.Keeps (userAreaEffect off d) State.aux ∧ PxEffect.Keeps (userAreaEffect off d) State.itg ∧
      PxEffect.Keeps (userAreaEffect off d) State.bal ∧ PxEffect.Keeps (userAreaEffect off d) State.hio ∧
      PxEffect.Keeps (userAreaEffect off d) State.est ∧ PxEffect.Keeps (userAreaEffect off d) State.lp ∧
      PxEffect.Keeps (userAreaEffect off d) State.ring ∧ PxEffect.Keeps (userAreaEffect off d) State.can ∧
      PxEffect.Keeps (userAreaEffect off d) State.px ∧ PxEffect.Keeps (userAreaEffect off d) State.flt ∧
      PxEffect.Keeps (userAreaEffect off d) State.sent ∧ PxEffect.Keeps (userAreaEffect off d) State.mgmt :=
  ⟨fun s s' h => (userAreaEffect_state off d s s' h).1, fun s s' h => (userAreaEffect_state off d s s' h).2.1, fun s s' h => (userAreaEffect_state off d s s' h).2.2.1, fun s s' h => (userAreaEffect_state off d s s' h).2.2.2.1, fun s s' h => (userAreaEffect_state off d s s' h).2.2.2.2.1, fun s s' h => (userAreaEffect_state off d s s' h).2.2.2.2.2.1, fun s s' h => (userAreaEffect_state off d s s' h).2.2.2.2.2.2.1, fun s s' h => (userAreaEffect_state off d s s' h).2.2.2.2.2.2.2.1, fun s s' h => (userAreaEffect_state off d s s' h).2.2.2.2.2.2.2.2.1, fun s s' h => (userAreaEffect_state off d s s' h).2.2.2.2.2.2.2.2.2.1, fun s s' h => (userAreaEffect_state off d s s' h).2.2.2.2.2.2.2.2.2.2.1, fun s s' h => (userAreaEffect_state off d s s' h).2.2.2.2.2.2.2.2.2.2.2.1, fun s s' h => (userAreaEffect_state off d s s' h).2.2.2.2.2.2.2.2.2.2.2.2.1, fun s s' h => (userAreaEffect_state off d s s' h).2.2.2.2.2.2.2.2.2.2.2.2.2.1, fun s s' h => (userAreaEffect_state off d s s' h).2.2.2.2.2.2.2.2.2.2.2.2.2.2.1, fun s s' h => (userAreaEffect_state off d s s' h).2.2.2.2.2.2.2.2.2.2.2.2.2.2.2.1, fun s s' h => (userAreaEffect_state off d s s' h).2.2.2.2.2.2.2.2.2.2.2.2.2.2.2.2.1, fun s s' h => (userAreaEffect_state off d s s' h).2.2.2.2.2.2.2.2.2.2.2.2.2.2.2.2.2.1, fun s s' h => (userAreaEffect_state off d s s' h).2.2.2.2.2.2.2.2.2.2.2.2.2.2.2.2.2.2.1, fun s s' h => (userAreaEffect_state off d s s' h).2.2.2.2.2.2.2.2.2.2.2.2.2.2.2.2.2.2.2.1, fun s s' h => (userAreaEffect_state off d s s' h).2.2.2.2.2.2.2.2.2.2.2.2.2.2.2.2.2.2.2.2.1, fun s s' h => (userAreaEffect_state off d s s' h).2.2.2.2.2.2.2.2.2.2.2.2.2.2.2.2.2.2.2.2.2.1, fun s s' h => (userAreaEffect_state off d s s' h).2.2.2.2.2.2.2.2.2.2.2.2.2.2.2.2.2.2.2.2.2.2.1, fun s s' h => (userAreaEffect_state off d s s' h).2.2.2.2.2.2.2.2.2.2.2.2.2.2.2.2.2.2.2.2.2.2.2⟩
theorem legacyEffect_state (dev r v : Nat) (s s' : State) (h : (legacyEffect dev r v s).state? = some s') :
    s'.now = s.now ∧ s'.ringOffset = s.ringOffset ∧ s'.pending = s.pending ∧ s'.pm = s.pm ∧ s'.out = s.out ∧ s'.trngCount = s.trngCount ∧
      s'.ident = s.ident ∧ s'.supply = s.supply ∧ s'.md = s.md ∧ s'.tm = s.tm ∧ s'.meas = s.meas ∧ s'.itg = s.itg ∧ s'.hio = s.hio ∧
      s'.est = s.est ∧ s'.lp = s.lp ∧ s'.ring = s.ring ∧ s'.can = s.can ∧ s'.px = s.px ∧ s'.flt = s.flt ∧ s'.sent = s.sent ∧
      s'.rcd = s.rcd ∧ s'.mgmt = s.mgmt := by
  simp only [legacyEffect] at h
  (repeat' split at h) <;> first | (cases h; done) | (cases h; simp)
@[simp] theorem legacyEffect_keeps (dev r v : Nat) :
    PxEffect.Keeps (legacyEffect dev r v) State.now ∧ PxEffect.Keeps (legacyEffect dev r v) State.ringOffset ∧
      PxEffect.Keeps (legacyEffect dev r v) State.pending ∧ PxEffect.Keeps (legacyEffect dev r v) State.pm ∧
      PxEffect.Keeps (legacyEffect dev r v) State.out ∧ PxEffect.Keeps (legacyEffect dev r v) State.trngCount ∧
      PxEffect.Keeps (legacyEffect dev r v) State.ident ∧ PxEffect.Keeps (legacyEffect dev r v) State.supply ∧
      PxEffect.Keeps (legacyEffect dev r v) State.md ∧ PxEffect.Keeps (legacyEffect dev r v) State.tm ∧
      PxEffect.Keeps (legacyEffect dev r v) State.meas ∧ PxEffect.Keeps (legacyEffect dev r v) State.itg ∧
      PxEffect.Keeps (legacyEffect dev r v) State.hio ∧ PxEffect.Keeps (legacyEffect dev r v) State.est ∧
      PxEffect.Keeps (legacyEffect dev r v) State.lp ∧ PxEffect.Keeps (legacyEffect dev r v) State.ring ∧
      PxEffect.Keeps (legacyEffect dev r v) State.can ∧ PxEffect.Keeps (legacyEffect dev r v) State.px ∧
      PxEffect.Keeps (legacyEffect dev r v) State.flt ∧ PxEffect.Keeps (legacyEffect dev r v) State.sent ∧
      PxEffect.Keeps (legacyEffect dev r v) State.rcd ∧ PxEffect.Keeps (legacyEffect dev r v) State.mgmt :=
  ⟨fun s s' h => (legacyEffect_state dev r v s s' h).1, fun s s' h => (legacyEffect_state dev r v s s' h).2.1, fun s s' h => (legacyEffect_state dev r v s s' h).2.2.1, fun s s' h => (legacyEffect_state dev r v s s' h).2.2.2.1, fun s s' h => (legacyEffect_state dev r v s s' h).2.2.2.2.1, fun s s' h => (legacyEffect_state dev r v s s' h).2.2.2.2.2.1, fun s s' h => (legacyEffect_state dev r v s s' h).2.2.2.2.2.2.1, fun s s' h => (legacyEffect_state dev r v s s' h).2.2.2.2.2.2.2.1, fun s s' h => (legacyEffect_state dev r v s s' h).2.2.2.2.2.2.2.2.1, fun s s' h => (legacyEffect_state dev r v s s' h).2.2.2.2.2.2.2.2.2.1, fun s s' h => (legacyEffect_state dev r v s s' h).2.2.2.2.2.2.2.2.2.2.1, fun s s' h => (legacyEffect_state dev r v s s' h).2.2.2.2.2.2.2.2.2.2.2.1, fun s s' h => (legacyEffect_state dev r v s s' h).2.2.2.2.2.2.2.2.2.2.2.2.1, fun s s' h => (legacyEffect_state dev r v s s' h).2.2.2.2.2.2.2.2.2.2.2.2.2.1, fun s s' h => (legacyEffect_state dev r v s s' h).2.2.2.2.2.2.2.2.2.2.2.2.2.2.1, fun s s' h => (legacyEffect_state dev r v s s' h).2.2.2.2.2.2.2.2.2.2.2.2.2.2.2.1, fun s s' h => (legacyEffect_state dev r v s s' h).2.2.2.2.2.2.2.2.2.2.2.2.2.2.2.2.1, fun s s' h => (legacyEffect_state dev r v s s' h).2.2.2.2.2.2.2.2.2.2.2.2.2.2.2.2.2.1, fun s s' h => (legacyEffect_state dev r v s s' h).2.2.2.2.2.2.2.2.2.2.2.2.2.2.2.2.2.2.1, fun s s' h => (legacyEffect_state dev r v s s' h).2.2.2.2.2.2.2.2.2.2.2.2.2.2.2.2.2.2.2.1, fun s s' h => (legacyEffect_state dev r v s s' h).2.2.2.2.2.2.2.2.2.2.2.2.2.2.2.2.2.2.2.2.1, fun s s' h => (legacyEffect_state dev r v s s' h).2.2.2.2.2.2.2.2.2.2.2.2.2.2.2.2.2.2.2.2.2⟩
/-- A write keeps what no write ever changes: the instant, the queue, the supplies and the SENT channels. -/
def PxEffect.KeepsCore (e : PxEffect) : Prop := e.Keeps State.now ∧ e.Keeps State.ringOffset ∧ e.Keeps State.pending ∧
      e.Keeps State.trngCount ∧ e.Keeps State.supply ∧ e.Keeps State.sent

@[simp] theorem PxEffect.keepsCore_none (e : PxEffect) (h : ∀ s, (e s).state? = none) : e.KeepsCore := by
  simp [PxEffect.KeepsCore, PxEffect.Keeps, h]

theorem PxEffect.keepsCore_of (e : PxEffect) (h : ∀ s s', (e s).state? = some s' → s'.now = s.now ∧ s'.ringOffset = s.ringOffset ∧
      s'.pending = s.pending ∧ s'.trngCount = s.trngCount ∧ s'.supply = s.supply ∧ s'.sent = s.sent) : e.KeepsCore :=
  ⟨fun s s' k => (h s s' k).1, fun s s' k => (h s s' k).2.1, fun s s' k => (h s s' k).2.2.1, fun s s' k => (h s s' k).2.2.2.1, fun s s' k => (h s s' k).2.2.2.2.1, fun s s' k => (h s s' k).2.2.2.2.2⟩
theorem writes1_keeps : ∀ e ∈ writes1, ∀ (q : PxReq) (i j off : Nat) (d : Bytes), (e.2 q i j off d).KeepsCore := by
  simp only [writes1, List.forall_mem_cons]
  repeat' constructor
  all_goals intros
  all_goals first
    | (exact (List.not_mem_nil ‹_›).elim)
    | (simp [PxEffect.KeepsCore]; done)
    | (apply PxEffect.keepsCore_none; intro s; simp; done)
    | (apply PxEffect.keepsCore_of; intro s s' h; (try dsimp only at h); (repeat' split at h) <;> first | (cases h; done) | (cases h; simp; done) | (simp at h; done) | (have := imageEffect_state _ _ _ _ h; simp_all; done) | (have := sentOptionEffect_state _ _ _ _ h; simp_all; done) | (cases h; simp [storeValue]; done))
    | skip
theorem writes2_keeps : ∀ e ∈ writes2, ∀ (q : PxReq) (i j off : Nat) (d : Bytes), (e.2 q i j off d).KeepsCore := by
  simp only [writes2, List.forall_mem_cons]
  repeat' constructor
  all_goals intros
  all_goals first
    | (exact (List.not_mem_nil ‹_›).elim)
    | (simp [PxEffect.KeepsCore]; done)
    | (apply PxEffect.keepsCore_none; intro s; simp; done)
    | (apply PxEffect.keepsCore_of; intro s s' h; (try dsimp only at h); (repeat' split at h) <;> first | (cases h; done) | (cases h; simp; done) | (simp at h; done) | (have := imageEffect_state _ _ _ _ h; simp_all; done) | (have := sentOptionEffect_state _ _ _ _ h; simp_all; done) | (cases h; simp [storeValue]; done))
    | skip
theorem writes3_keeps : ∀ e ∈ writes3, ∀ (q : PxReq) (i j off : Nat) (d : Bytes), (e.2 q i j off d).KeepsCore := by
  simp only [writes3, List.forall_mem_cons]
  repeat' constructor
  all_goals intros
  all_goals first
    | (exact (List.not_mem_nil ‹_›).elim)
    | (simp [PxEffect.KeepsCore]; done)
    | (apply PxEffect.keepsCore_none; intro s; simp; done)
    | (apply PxEffect.keepsCore_of; intro s s' h; (try dsimp only at h); (repeat' split at h) <;> first | (cases h; done) | (cases h; simp; done) | (simp at h; done) | (have := imageEffect_state _ _ _ _ h; simp_all; done) | (have := sentOptionEffect_state _ _ _ _ h; simp_all; done) | (cases h; simp [storeValue]; done))
    | skip
theorem writes4_keeps : ∀ e ∈ writes4, ∀ (q : PxReq) (i j off : Nat) (d : Bytes), (e.2 q i j off d).KeepsCore := by
  simp only [writes4, List.forall_mem_cons]
  repeat' constructor
  all_goals intros
  all_goals first
    | (exact (List.not_mem_nil ‹_›).elim)
    | (simp [PxEffect.KeepsCore]; done)
    | (apply PxEffect.keepsCore_none; intro s; simp; done)
    | (apply PxEffect.keepsCore_of; intro s s' h; (try dsimp only at h); (repeat' split at h) <;> first | (cases h; done) | (cases h; simp; done) | (simp at h; done) | (have := imageEffect_state _ _ _ _ h; simp_all; done) | (have := sentOptionEffect_state _ _ _ _ h; simp_all; done) | (cases h; simp [storeValue]; done))
    | skip

theorem writeRules_keeps (e : ObjDef × WriteRule) (he : e ∈ writeRules) (q : PxReq) (i j off : Nat) (d : Bytes) :
    (e.2 q i j off d).KeepsCore := by
  simp only [writeRules, List.mem_append] at he
  rcases he with ((h | h) | h) | h
  · exact writes1_keeps e h q i j off d
  · exact writes2_keeps e h q i j off d
  · exact writes3_keeps e h q i j off d
  · exact writes4_keeps e h q i j off d

/-- The effect of any write keeps the core. -/
theorem effectOf_keepsCore (q : PxReq) (o : ObjDef) (i j off : Nat) (d : Bytes) : (effectOf q o i j off d).KeepsCore := by
  apply PxEffect.keepsCore_of
  intro s s' h
  simp only [effectOf] at h
  split at h
  · have := legacyEffect_state _ _ _ _ _ h; simp_all
  · split at h
    · rename_i e he
      obtain ⟨h1, h2, h3, h4, h5, h6⟩ := writeRules_keeps e (List.mem_of_find?_eq_some he) q i j off d
      exact ⟨h1 _ _ h, h2 _ _ h, h3 _ _ h, h4 _ _ h, h5 _ _ h, h6 _ _ h⟩
    · split at h
      · have := protEffect_state _ _ _ _ _ _ h; simp_all
      · split at h
        · cases h
        · have := storeValue_state _ _ _ _ _ _ h; simp_all

@[simp] theorem effectOf_keeps (q : PxReq) (o : ObjDef) (i j off : Nat) (d : Bytes) :
    (effectOf q o i j off d).Keeps State.now ∧ (effectOf q o i j off d).Keeps State.ringOffset ∧
      (effectOf q o i j off d).Keeps State.pending ∧ (effectOf q o i j off d).Keeps State.trngCount ∧
      (effectOf q o i j off d).Keeps State.supply ∧ (effectOf q o i j off d).Keeps State.sent := effectOf_keepsCore q o i j off d
@[simp] theorem State.pxWriteOp_frame (s : State) (q : PxReq) (index sub ty : Nat) (data : Bytes) :
    (State.pxWriteOp s q index sub ty data).now = s.now ∧ (State.pxWriteOp s q index sub ty data).ringOffset = s.ringOffset ∧
      (State.pxWriteOp s q index sub ty data).pending = s.pending ∧ (State.pxWriteOp s q index sub ty data).trngCount = s.trngCount ∧
      (State.pxWriteOp s q index sub ty data).supply = s.supply ∧ (State.pxWriteOp s q index sub ty data).sent = s.sent := by
  unfold State.pxWriteOp
  (repeat' split) <;> simp
@[simp] theorem State.setBlock_frame (s : State) (b : BlockXfer) :
    (State.setBlock s b).now = s.now ∧ (State.setBlock s b).ringOffset = s.ringOffset ∧ (State.setBlock s b).pending = s.pending ∧
      (State.setBlock s b).dict = s.dict ∧ (State.setBlock s b).pm = s.pm ∧ (State.setBlock s b).out = s.out ∧
      (State.setBlock s b).trngCount = s.trngCount ∧ (State.setBlock s b).ident = s.ident ∧ (State.setBlock s b).supply = s.supply ∧
      (State.setBlock s b).md = s.md ∧ (State.setBlock s b).tm = s.tm ∧ (State.setBlock s b).meas = s.meas ∧
      (State.setBlock s b).aux = s.aux ∧ (State.setBlock s b).itg = s.itg ∧ (State.setBlock s b).bal = s.bal ∧
      (State.setBlock s b).hio = s.hio ∧ (State.setBlock s b).est = s.est ∧ (State.setBlock s b).lp = s.lp ∧
      (State.setBlock s b).ring = s.ring ∧ (State.setBlock s b).can = s.can ∧ (State.setBlock s b).flt = s.flt ∧
      (State.setBlock s b).sent = s.sent ∧ (State.setBlock s b).rcd = s.rcd ∧ (State.setBlock s b).mgmt = s.mgmt := by simp [State.setBlock]
@[simp] theorem State.dropBlock_frame (s : State) (q : PxReq) :
    (State.dropBlock s q).now = s.now ∧ (State.dropBlock s q).ringOffset = s.ringOffset ∧ (State.dropBlock s q).pending = s.pending ∧
      (State.dropBlock s q).dict = s.dict ∧ (State.dropBlock s q).pm = s.pm ∧ (State.dropBlock s q).out = s.out ∧
      (State.dropBlock s q).trngCount = s.trngCount ∧ (State.dropBlock s q).ident = s.ident ∧ (State.dropBlock s q).supply = s.supply ∧
      (State.dropBlock s q).md = s.md ∧ (State.dropBlock s q).tm = s.tm ∧ (State.dropBlock s q).meas = s.meas ∧
      (State.dropBlock s q).aux = s.aux ∧ (State.dropBlock s q).itg = s.itg ∧ (State.dropBlock s q).bal = s.bal ∧
      (State.dropBlock s q).hio = s.hio ∧ (State.dropBlock s q).est = s.est ∧ (State.dropBlock s q).lp = s.lp ∧
      (State.dropBlock s q).ring = s.ring ∧ (State.dropBlock s q).can = s.can ∧ (State.dropBlock s q).flt = s.flt ∧
      (State.dropBlock s q).sent = s.sent ∧ (State.dropBlock s q).rcd = s.rcd ∧ (State.dropBlock s q).mgmt = s.mgmt := by simp [State.dropBlock]
@[simp] theorem State.sendInBlock_frame (s : State) (b : BlockXfer) (service code : Nat) (data : Bytes) :
    (State.sendInBlock s b service code data).now = s.now ∧ (State.sendInBlock s b service code data).ringOffset = s.ringOffset ∧
      (State.sendInBlock s b service code data).pending = s.pending ∧ (State.sendInBlock s b service code data).pm = s.pm ∧
      (State.sendInBlock s b service code data).trngCount = s.trngCount ∧ (State.sendInBlock s b service code data).ident = s.ident ∧
      (State.sendInBlock s b service code data).supply = s.supply ∧ (State.sendInBlock s b service code data).md = s.md ∧
      (State.sendInBlock s b service code data).tm = s.tm ∧ (State.sendInBlock s b service code data).meas = s.meas ∧
      (State.sendInBlock s b service code data).aux = s.aux ∧ (State.sendInBlock s b service code data).itg = s.itg ∧
      (State.sendInBlock s b service code data).bal = s.bal ∧ (State.sendInBlock s b service code data).hio = s.hio ∧
      (State.sendInBlock s b service code data).est = s.est ∧ (State.sendInBlock s b service code data).lp = s.lp ∧
      (State.sendInBlock s b service code data).px = s.px ∧ (State.sendInBlock s b service code data).flt = s.flt ∧
      (State.sendInBlock s b service code data).sent = s.sent ∧ (State.sendInBlock s b service code data).rcd = s.rcd ∧
      (State.sendInBlock s b service code data).mgmt = s.mgmt := by simp [State.sendInBlock]
@[simp] theorem sendSegment_frame (x : State × BlockXfer) (k : Nat) :
    (sendSegment x k).1.now = x.1.now ∧ (sendSegment x k).1.ringOffset = x.1.ringOffset ∧ (sendSegment x k).1.pending = x.1.pending ∧
      (sendSegment x k).1.pm = x.1.pm ∧ (sendSegment x k).1.trngCount = x.1.trngCount ∧ (sendSegment x k).1.ident = x.1.ident ∧
      (sendSegment x k).1.supply = x.1.supply ∧ (sendSegment x k).1.md = x.1.md ∧ (sendSegment x k).1.tm = x.1.tm ∧
      (sendSegment x k).1.meas = x.1.meas ∧ (sendSegment x k).1.aux = x.1.aux ∧ (sendSegment x k).1.itg = x.1.itg ∧
      (sendSegment x k).1.bal = x.1.bal ∧ (sendSegment x k).1.hio = x.1.hio ∧ (sendSegment x k).1.est = x.1.est ∧
      (sendSegment x k).1.lp = x.1.lp ∧ (sendSegment x k).1.px = x.1.px ∧ (sendSegment x k).1.flt = x.1.flt ∧
      (sendSegment x k).1.sent = x.1.sent ∧ (sendSegment x k).1.rcd = x.1.rcd ∧ (sendSegment x k).1.mgmt = x.1.mgmt := by simp [sendSegment]
@[simp] theorem sendSegments_frame (l : List Nat) (x : State × BlockXfer) :
    (l.foldl sendSegment x).1.now = x.1.now ∧ (l.foldl sendSegment x).1.ringOffset = x.1.ringOffset ∧
      (l.foldl sendSegment x).1.pending = x.1.pending ∧ (l.foldl sendSegment x).1.pm = x.1.pm ∧
      (l.foldl sendSegment x).1.trngCount = x.1.trngCount ∧ (l.foldl sendSegment x).1.ident = x.1.ident ∧
      (l.foldl sendSegment x).1.supply = x.1.supply ∧ (l.foldl sendSegment x).1.md = x.1.md ∧ (l.foldl sendSegment x).1.tm = x.1.tm ∧
      (l.foldl sendSegment x).1.meas = x.1.meas ∧ (l.foldl sendSegment x).1.aux = x.1.aux ∧ (l.foldl sendSegment x).1.itg = x.1.itg ∧
      (l.foldl sendSegment x).1.bal = x.1.bal ∧ (l.foldl sendSegment x).1.hio = x.1.hio ∧ (l.foldl sendSegment x).1.est = x.1.est ∧
      (l.foldl sendSegment x).1.lp = x.1.lp ∧ (l.foldl sendSegment x).1.px = x.1.px ∧ (l.foldl sendSegment x).1.flt = x.1.flt ∧
      (l.foldl sendSegment x).1.sent = x.1.sent ∧ (l.foldl sendSegment x).1.rcd = x.1.rcd ∧ (l.foldl sendSegment x).1.mgmt = x.1.mgmt := by
  induction l generalizing x with
  | nil => simp
  | cons a r ih => simp [ih]
@[simp] theorem State.pumpBlock_frame (s : State) (b : BlockXfer) :
    (State.pumpBlock s b).now = s.now ∧ (State.pumpBlock s b).ringOffset = s.ringOffset ∧ (State.pumpBlock s b).pending = s.pending ∧
      (State.pumpBlock s b).pm = s.pm ∧ (State.pumpBlock s b).trngCount = s.trngCount ∧ (State.pumpBlock s b).ident = s.ident ∧
      (State.pumpBlock s b).supply = s.supply ∧ (State.pumpBlock s b).md = s.md ∧ (State.pumpBlock s b).tm = s.tm ∧
      (State.pumpBlock s b).meas = s.meas ∧ (State.pumpBlock s b).aux = s.aux ∧ (State.pumpBlock s b).itg = s.itg ∧
      (State.pumpBlock s b).bal = s.bal ∧ (State.pumpBlock s b).hio = s.hio ∧ (State.pumpBlock s b).est = s.est ∧
      (State.pumpBlock s b).lp = s.lp ∧ (State.pumpBlock s b).flt = s.flt ∧ (State.pumpBlock s b).sent = s.sent ∧
      (State.pumpBlock s b).rcd = s.rcd ∧ (State.pumpBlock s b).mgmt = s.mgmt := by
  unfold State.pumpBlock
  split <;> simp
@[simp] theorem State.blockReadOp_frame (s : State) (q : PxReq) (index sub off size : Nat) :
    (State.blockReadOp s q index sub off size).now = s.now ∧ (State.blockReadOp s q index sub off size).ringOffset = s.ringOffset ∧
      (State.blockReadOp s q index sub off size).pending = s.pending ∧ (State.blockReadOp s q index sub off size).pm = s.pm ∧
      (State.blockReadOp s q index sub off size).trngCount = s.trngCount ∧ (State.blockReadOp s q index sub off size).supply = s.supply ∧
      (State.blockReadOp s q index sub off size).aux = s.aux ∧ (State.blockReadOp s q index sub off size).itg = s.itg ∧
      (State.blockReadOp s q index sub off size).est = s.est ∧ (State.blockReadOp s q index sub off size).lp = s.lp ∧
      (State.blockReadOp s q index sub off size).sent = s.sent := by
  unfold State.blockReadOp
  refine ⟨?_, ?_, ?_, ?_, ?_, ?_, ?_, ?_, ?_, ?_, ?_⟩ <;> (repeat' split) <;> simp
@[simp] theorem State.grantWrite_frame (s : State) (q : PxReq) (index sub off size counter : Nat) :
    (State.grantWrite s q index sub off size counter).now = s.now ∧
      (State.grantWrite s q index sub off size counter).ringOffset = s.ringOffset ∧
      (State.grantWrite s q index sub off size counter).pending = s.pending ∧ (State.grantWrite s q index sub off size counter).pm = s.pm ∧
      (State.grantWrite s q index sub off size counter).trngCount = s.trngCount ∧
      (State.grantWrite s q index sub off size counter).ident = s.ident ∧
      (State.grantWrite s q index sub off size counter).supply = s.supply ∧ (State.grantWrite s q index sub off size counter).md = s.md ∧
      (State.grantWrite s q index sub off size counter).tm = s.tm ∧ (State.grantWrite s q index sub off size counter).meas = s.meas ∧
      (State.grantWrite s q index sub off size counter).aux = s.aux ∧ (State.grantWrite s q index sub off size counter).itg = s.itg ∧
      (State.grantWrite s q index sub off size counter).bal = s.bal ∧ (State.grantWrite s q index sub off size counter).hio = s.hio ∧
      (State.grantWrite s q index sub off size counter).est = s.est ∧ (State.grantWrite s q index sub off size counter).lp = s.lp ∧
      (State.grantWrite s q index sub off size counter).flt = s.flt ∧ (State.grantWrite s q index sub off size counter).sent = s.sent ∧
      (State.grantWrite s q index sub off size counter).rcd = s.rcd ∧
      (State.grantWrite s q index sub off size counter).mgmt = s.mgmt := by simp [State.grantWrite]
@[simp] theorem State.blockWriteOp_frame (s : State) (q : PxReq) (index sub off size : Nat) :
    (State.blockWriteOp s q index sub off size).now = s.now ∧ (State.blockWriteOp s q index sub off size).ringOffset = s.ringOffset ∧
      (State.blockWriteOp s q index sub off size).pending = s.pending ∧ (State.blockWriteOp s q index sub off size).pm = s.pm ∧
      (State.blockWriteOp s q index sub off size).trngCount = s.trngCount ∧ (State.blockWriteOp s q index sub off size).supply = s.supply ∧
      (State.blockWriteOp s q index sub off size).aux = s.aux ∧ (State.blockWriteOp s q index sub off size).itg = s.itg ∧
      (State.blockWriteOp s q index sub off size).est = s.est ∧ (State.blockWriteOp s q index sub off size).lp = s.lp ∧
      (State.blockWriteOp s q index sub off size).sent = s.sent := by
  unfold State.blockWriteOp
  refine ⟨?_, ?_, ?_, ?_, ?_, ?_, ?_, ?_, ?_, ?_, ?_⟩ <;> (repeat' split) <;> simp
@[simp] theorem State.segmentOp_frame (s : State) (q : PxReq) (k : Nat) (d : Bytes) :
    (State.segmentOp s q k d).now = s.now ∧ (State.segmentOp s q k d).ringOffset = s.ringOffset ∧
      (State.segmentOp s q k d).pending = s.pending ∧ (State.segmentOp s q k d).pm = s.pm ∧
      (State.segmentOp s q k d).trngCount = s.trngCount ∧ (State.segmentOp s q k d).ident = s.ident ∧
      (State.segmentOp s q k d).supply = s.supply ∧ (State.segmentOp s q k d).md = s.md ∧ (State.segmentOp s q k d).tm = s.tm ∧
      (State.segmentOp s q k d).meas = s.meas ∧ (State.segmentOp s q k d).aux = s.aux ∧ (State.segmentOp s q k d).itg = s.itg ∧
      (State.segmentOp s q k d).bal = s.bal ∧ (State.segmentOp s q k d).hio = s.hio ∧ (State.segmentOp s q k d).est = s.est ∧
      (State.segmentOp s q k d).lp = s.lp ∧ (State.segmentOp s q k d).flt = s.flt ∧ (State.segmentOp s q k d).sent = s.sent ∧
      (State.segmentOp s q k d).rcd = s.rcd ∧ (State.segmentOp s q k d).mgmt = s.mgmt := by
  unfold State.segmentOp
  refine ⟨?_, ?_, ?_, ?_, ?_, ?_, ?_, ?_, ?_, ?_, ?_, ?_, ?_, ?_, ?_, ?_, ?_, ?_, ?_, ?_⟩ <;> (repeat' split) <;> simp
@[simp] theorem State.ackOp_frame (s : State) (q : PxReq) (next : Nat) :
    (State.ackOp s q next).now = s.now ∧ (State.ackOp s q next).ringOffset = s.ringOffset ∧ (State.ackOp s q next).pending = s.pending ∧
      (State.ackOp s q next).pm = s.pm ∧ (State.ackOp s q next).trngCount = s.trngCount ∧ (State.ackOp s q next).supply = s.supply ∧
      (State.ackOp s q next).aux = s.aux ∧ (State.ackOp s q next).itg = s.itg ∧ (State.ackOp s q next).est = s.est ∧
      (State.ackOp s q next).lp = s.lp ∧ (State.ackOp s q next).sent = s.sent := by
  unfold State.ackOp
  refine ⟨?_, ?_, ?_, ?_, ?_, ?_, ?_, ?_, ?_, ?_, ?_⟩ <;> (repeat' split) <;> simp
@[simp] theorem State.endWrite_frame (s : State) (q : PxReq) (crc code : Nat) (b : BlockXfer) :
    (State.endWrite s q crc code b).now = s.now ∧ (State.endWrite s q crc code b).ringOffset = s.ringOffset ∧
      (State.endWrite s q crc code b).pending = s.pending ∧ (State.endWrite s q crc code b).trngCount = s.trngCount ∧
      (State.endWrite s q crc code b).supply = s.supply ∧ (State.endWrite s q crc code b).sent = s.sent := by
  unfold State.endWrite
  refine ⟨?_, ?_, ?_, ?_, ?_, ?_⟩ <;> (repeat' split) <;> simp
@[simp] theorem State.endOp_frame (s : State) (q : PxReq) (crc : Nat) :
    (State.endOp s q crc).now = s.now ∧ (State.endOp s q crc).ringOffset = s.ringOffset ∧ (State.endOp s q crc).pending = s.pending ∧
      (State.endOp s q crc).trngCount = s.trngCount ∧ (State.endOp s q crc).supply = s.supply ∧ (State.endOp s q crc).sent = s.sent := by
  unfold State.endOp
  (repeat' split) <;> simp
@[simp] theorem State.logLost_frame (s : State) (b : BlockXfer) (code : Nat) :
    (State.logLost s b code).now = s.now ∧ (State.logLost s b code).ringOffset = s.ringOffset ∧
      (State.logLost s b code).pending = s.pending ∧ (State.logLost s b code).pm = s.pm ∧ (State.logLost s b code).out = s.out ∧
      (State.logLost s b code).trngCount = s.trngCount ∧ (State.logLost s b code).ident = s.ident ∧
      (State.logLost s b code).supply = s.supply ∧ (State.logLost s b code).md = s.md ∧ (State.logLost s b code).tm = s.tm ∧
      (State.logLost s b code).meas = s.meas ∧ (State.logLost s b code).aux = s.aux ∧ (State.logLost s b code).itg = s.itg ∧
      (State.logLost s b code).bal = s.bal ∧ (State.logLost s b code).hio = s.hio ∧ (State.logLost s b code).est = s.est ∧
      (State.logLost s b code).lp = s.lp ∧ (State.logLost s b code).ring = s.ring ∧ (State.logLost s b code).can = s.can ∧
      (State.logLost s b code).flt = s.flt ∧ (State.logLost s b code).sent = s.sent ∧ (State.logLost s b code).rcd = s.rcd ∧
      (State.logLost s b code).mgmt = s.mgmt := by
  unfold State.logLost
  refine ⟨?_, ?_, ?_, ?_, ?_, ?_, ?_, ?_, ?_, ?_, ?_, ?_, ?_, ?_, ?_, ?_, ?_, ?_, ?_, ?_, ?_, ?_, ?_⟩ <;> (repeat' split) <;> simp
@[simp] theorem State.abortOp_frame (s : State) (q : PxReq) :
    (State.abortOp s q).now = s.now ∧ (State.abortOp s q).ringOffset = s.ringOffset ∧ (State.abortOp s q).pending = s.pending ∧
      (State.abortOp s q).pm = s.pm ∧ (State.abortOp s q).trngCount = s.trngCount ∧ (State.abortOp s q).supply = s.supply ∧
      (State.abortOp s q).aux = s.aux ∧ (State.abortOp s q).itg = s.itg ∧ (State.abortOp s q).est = s.est ∧ (State.abortOp s q).lp = s.lp ∧
      (State.abortOp s q).sent = s.sent := by
  unfold State.abortOp
  refine ⟨?_, ?_, ?_, ?_, ?_, ?_, ?_, ?_, ?_, ?_, ?_⟩ <;> (repeat' split) <;> simp
@[simp] theorem State.ackOverdue_frame (s : State) (b : BlockXfer) :
    (State.ackOverdue s b).now = s.now ∧ (State.ackOverdue s b).ringOffset = s.ringOffset ∧ (State.ackOverdue s b).pending = s.pending ∧
      (State.ackOverdue s b).pm = s.pm ∧ (State.ackOverdue s b).trngCount = s.trngCount ∧ (State.ackOverdue s b).ident = s.ident ∧
      (State.ackOverdue s b).supply = s.supply ∧ (State.ackOverdue s b).md = s.md ∧ (State.ackOverdue s b).tm = s.tm ∧
      (State.ackOverdue s b).meas = s.meas ∧ (State.ackOverdue s b).aux = s.aux ∧ (State.ackOverdue s b).itg = s.itg ∧
      (State.ackOverdue s b).bal = s.bal ∧ (State.ackOverdue s b).hio = s.hio ∧ (State.ackOverdue s b).est = s.est ∧
      (State.ackOverdue s b).lp = s.lp ∧ (State.ackOverdue s b).flt = s.flt ∧ (State.ackOverdue s b).sent = s.sent ∧
      (State.ackOverdue s b).rcd = s.rcd ∧ (State.ackOverdue s b).mgmt = s.mgmt := by simp [State.ackOverdue]
@[simp] theorem State.keepArea_frame (s : State) (node : Nat) (a : Bytes) :
    (State.keepArea s node a).now = s.now ∧ (State.keepArea s node a).ringOffset = s.ringOffset ∧
      (State.keepArea s node a).pending = s.pending ∧ (State.keepArea s node a).pm = s.pm ∧ (State.keepArea s node a).out = s.out ∧
      (State.keepArea s node a).trngCount = s.trngCount ∧ (State.keepArea s node a).ident = s.ident ∧
      (State.keepArea s node a).supply = s.supply ∧ (State.keepArea s node a).md = s.md ∧ (State.keepArea s node a).tm = s.tm ∧
      (State.keepArea s node a).meas = s.meas ∧ (State.keepArea s node a).aux = s.aux ∧ (State.keepArea s node a).itg = s.itg ∧
      (State.keepArea s node a).bal = s.bal ∧ (State.keepArea s node a).hio = s.hio ∧ (State.keepArea s node a).est = s.est ∧
      (State.keepArea s node a).lp = s.lp ∧ (State.keepArea s node a).ring = s.ring ∧ (State.keepArea s node a).can = s.can ∧
      (State.keepArea s node a).flt = s.flt ∧ (State.keepArea s node a).sent = s.sent ∧ (State.keepArea s node a).rcd = s.rcd ∧
      (State.keepArea s node a).mgmt = s.mgmt := by simp [State.keepArea]
@[simp] theorem State.usbPx_frame (s : State) (f : Bytes) :
    (State.usbPx s f).now = s.now ∧ (State.usbPx s f).ringOffset = s.ringOffset ∧ (State.usbPx s f).pending = s.pending ∧
      (State.usbPx s f).supply = s.supply ∧ (State.usbPx s f).sent = s.sent := by
  simp only [State.usbPx]
  refine ⟨?_, ?_, ?_, ?_, ?_⟩ <;> (repeat' split) <;> simp

end Sys2Proof.Machine
end

