-- ==== Sys2Proof/Laws/Tick.lean ====
section
/-! SUPPORT. What the passing of time leaves alone: views of the state that do not look at the instant read the same after it. -/
namespace Sys2Proof.Machine

@[simp] theorem State.val_tick (s : State) (tick : Nat) (o : ObjDef) (i j : Nat) : (s.tick tick).val o i j = s.val o i j := rfl
@[simp] theorem State.int_tick (s : State) (tick : Nat) (o : ObjDef) (i j : Nat) : (s.tick tick).int o i j = s.int o i j := rfl
@[simp] theorem State.pmRead_tick (s : State) (tick : Nat) (a n : Nat) : (s.tick tick).pmRead a n = s.pmRead a n := rfl
@[simp] theorem State.isHead_tick (s : State) (tick : Nat)  : (s.tick tick).isHead  = s.isHead  := rfl
@[simp] theorem State.port_tick (s : State) (tick : Nat) (p : Port) : (s.tick tick).port p = s.port p := rfl
@[simp] theorem State.bus_tick (s : State) (tick : Nat) (b : Bus) : (s.tick tick).bus b = s.bus b := rfl
@[simp] theorem State.lanesUp_tick (s : State) (tick : Nat)  : (s.tick tick).lanesUp  = s.lanesUp  := rfl
@[simp] theorem State.nodeId_tick (s : State) (tick : Nat)  : (s.tick tick).nodeId  = s.nodeId  := rfl
@[simp] theorem State.packId_tick (s : State) (tick : Nat)  : (s.tick tick).packId  = s.packId  := rfl
@[simp] theorem State.unsynced_tick (s : State) (tick : Nat)  : (s.tick tick).unsynced  = s.unsynced  := rfl
@[simp] theorem State.freeRun_tick (s : State) (tick : Nat)  : (s.tick tick).freeRun  = s.freeRun  := rfl
@[simp] theorem State.eligible_tick (s : State) (tick : Nat)  : (s.tick tick).eligible  = s.eligible  := rfl
@[simp] theorem State.commsOn_tick (s : State) (tick : Nat)  : (s.tick tick).commsOn  = s.commsOn  := rfl
@[simp] theorem State.voteOk_tick (s : State) (tick : Nat)  : (s.tick tick).voteOk  = s.voteOk  := rfl
@[simp] theorem State.cellCount_tick (s : State) (tick : Nat)  : (s.tick tick).cellCount  = s.cellCount  := rfl
@[simp] theorem State.cells_tick (s : State) (tick : Nat)  : (s.tick tick).cells  = s.cells  := rfl
@[simp] theorem State.square_tick (s : State) (tick : Nat)  : (s.tick tick).square  = s.square  := rfl
@[simp] theorem State.hdr_tick (s : State) (tick : Nat) (cls typ seq aux : Nat) (west bcast : Bool) (hops : Nat) : (s.tick tick).hdr cls typ seq aux west bcast hops = s.hdr cls typ seq aux west bcast hops := rfl
@[simp] theorem State.hopsTo_tick (s : State) (tick : Nat) (q : Int) : (s.tick tick).hopsTo q = s.hopsTo q := rfl
@[simp] theorem State.busUsable_tick (s : State) (tick : Nat) (b : Bus) : (s.tick tick).busUsable b = s.busUsable b := rfl
@[simp] theorem State.serial24_tick (s : State) (tick : Nat)  : (s.tick tick).serial24  = s.serial24  := rfl
@[simp] theorem State.notice_tick (s : State) (tick : Nat) (code detail time : Nat) : (s.tick tick).notice code detail time = s.notice code detail time := rfl
@[simp] theorem State.switchClosed_tick (s : State) (tick : Nat)  : (s.tick tick).switchClosed  = s.switchClosed  := rfl
@[simp] theorem State.sourceOn_tick (s : State) (tick : Nat)  : (s.tick tick).sourceOn  = s.sourceOn  := rfl
@[simp] theorem State.loopDriven_tick (s : State) (tick : Nat)  : (s.tick tick).loopDriven  = s.loopDriven  := rfl
@[simp] theorem State.captureRate13_tick (s : State) (tick : Nat)  : (s.tick tick).captureRate13  = s.captureRate13  := rfl
@[simp] theorem State.captureNeed_tick (s : State) (tick : Nat) (ms : Nat) : (s.tick tick).captureNeed ms = s.captureNeed ms := rfl
@[simp] theorem State.captureAhead_tick (s : State) (tick : Nat)  : (s.tick tick).captureAhead  = s.captureAhead  := rfl
@[simp] theorem State.capRecording_tick (s : State) (tick : Nat)  : (s.tick tick).capRecording  = s.capRecording  := rfl
@[simp] theorem State.activeSlot_tick (s : State) (tick : Nat)  : (s.tick tick).activeSlot  = s.activeSlot  := rfl
@[simp] theorem State.convWorks_tick (s : State) (tick : Nat)  : (s.tick tick).convWorks  = s.convWorks  := rfl
@[simp] theorem State.minSet_tick (s : State) (tick : Nat)  : (s.tick tick).minSet  = s.minSet  := rfl
@[simp] theorem State.thermalStatus_tick (s : State) (tick : Nat)  : (s.tick tick).thermalStatus  = s.thermalStatus  := rfl
@[simp] theorem State.ringClosed_tick (s : State) (tick : Nat)  : (s.tick tick).ringClosed  = s.ringClosed  := rfl
@[simp] theorem State.ringStatus_tick (s : State) (tick : Nat)  : (s.tick tick).ringStatus  = s.ringStatus  := rfl
@[simp] theorem State.ringState_tick (s : State) (tick : Nat)  : (s.tick tick).ringState  = s.ringState  := rfl
@[simp] theorem State.headIoStatus_tick (s : State) (tick : Nat)  : (s.tick tick).headIoStatus  = s.headIoStatus  := rfl
@[simp] theorem State.firstMoveStatus_tick (s : State) (tick : Nat)  : (s.tick tick).firstMoveStatus  = s.firstMoveStatus  := rfl
@[simp] theorem State.sevOf_tick (s : State) (tick : Nat) (k : Nat) : (s.tick tick).sevOf k = s.sevOf k := rfl
@[simp] theorem State.faultStatus_tick (s : State) (tick : Nat)  : (s.tick tick).faultStatus  = s.faultStatus  := rfl
@[simp] theorem State.integrityStatus_tick (s : State) (tick : Nat)  : (s.tick tick).integrityStatus  = s.integrityStatus  := rfl
@[simp] theorem State.turnLock_tick (s : State) (tick : Nat)  : (s.tick tick).turnLock  = s.turnLock  := rfl
@[simp] theorem State.freeWin_tick (s : State) (tick : Nat)  : (s.tick tick).freeWin  = s.freeWin  := rfl
@[simp] theorem State.derate_tick (s : State) (tick : Nat)  : (s.tick tick).derate  = s.derate  := rfl
@[simp] theorem State.target_tick (s : State) (tick : Nat) (n : Nat) : (s.tick tick).target n = s.target n := rfl
@[simp] theorem State.dev_tick (s : State) (tick : Nat) (d : Nat) : (s.tick tick).dev d = s.dev d := rfl
@[simp] theorem State.xferStop_tick (s : State) (tick : Nat)  : (s.tick tick).xferStop  = s.xferStop  := rfl
@[simp] theorem State.linkView_tick (s : State) (tick : Nat)  : (s.tick tick).linkView  = s.linkView  := rfl
@[simp] theorem State.session_tick (s : State) (tick : Nat) (q : PxReq) : (s.tick tick).session q = s.session q := rfl
@[simp] theorem State.pxHears_tick (s : State) (tick : Nat) (q : PxReq) : (s.tick tick).pxHears q = s.pxHears q := rfl
@[simp] theorem State.pxFrame_tick (s : State) (tick : Nat) (q : PxReq) (service code index sub ty counter : Nat) (data : Bytes) : (s.tick tick).pxFrame q service code index sub ty counter data = s.pxFrame q service code index sub ty counter data := rfl
@[simp] theorem State.pxResponse_tick (s : State) (tick : Nat) (q : PxReq) (service code index sub ty counter : Nat) (data : Bytes) : (s.tick tick).pxResponse q service code index sub ty counter data = s.pxResponse q service code index sub ty counter data := rfl
@[simp] theorem State.pxAuthorise_tick (s : State) (tick : Nat) (q : PxReq) (service index sub ty : Nat) (data : Bytes) : (s.tick tick).pxAuthorise q service index sub ty data = s.pxAuthorise q service index sub ty data := rfl
@[simp] theorem State.rankFor_tick (s : State) (tick : Nat) (o : ObjDef) : (s.tick tick).rankFor o = s.rankFor o := rfl
@[simp] theorem State.available_tick (s : State) (tick : Nat) (index : Nat) : (s.tick tick).available index = s.available index := rfl
@[simp] theorem State.hearsRing_tick (s : State) (tick : Nat)  : (s.tick tick).hearsRing  = s.hearsRing  := rfl
@[simp] theorem State.busHears_tick (s : State) (tick : Nat) (b : Bus) : (s.tick tick).busHears b = s.busHears b := rfl
@[simp] theorem State.member_tick (s : State) (tick : Nat) (node : Nat) : (s.tick tick).member node = s.member node := rfl
@[simp] theorem State.admitted_tick (s : State) (tick : Nat)  : (s.tick tick).admitted  = s.admitted  := rfl
@[simp] theorem State.nodeAt_tick (s : State) (tick : Nat) (sq : Int) : (s.tick tick).nodeAt sq = s.nodeAt sq := rfl
@[simp] theorem State.descSlot_tick (s : State) (tick : Nat) (k : Nat) : (s.tick tick).descSlot k = s.descSlot k := rfl
@[simp] theorem State.candidate_tick (s : State) (tick : Nat)  : (s.tick tick).candidate  = s.candidate  := rfl
@[simp] theorem State.ownAnnounce_tick (s : State) (tick : Nat)  : (s.tick tick).ownAnnounce  = s.ownAnnounce  := rfl
@[simp] theorem State.selfMeasured_tick (s : State) (tick : Nat)  : (s.tick tick).selfMeasured  = s.selfMeasured  := rfl
@[simp] theorem State.others_tick (s : State) (tick : Nat)  : (s.tick tick).others  = s.others  := rfl
@[simp] theorem State.wanted_tick (s : State) (tick : Nat)  : (s.tick tick).wanted  = s.wanted  := rfl
@[simp] theorem State.allMeasured_tick (s : State) (tick : Nat)  : (s.tick tick).allMeasured  = s.allMeasured  := rfl
@[simp] theorem State.pointWord_tick (s : State) (tick : Nat) (node p : Nat) : (s.tick tick).pointWord node p = s.pointWord node p := rfl
@[simp] theorem State.measuredNodes_tick (s : State) (tick : Nat)  : (s.tick tick).measuredNodes  = s.measuredNodes  := rfl
@[simp] theorem State.cellReadings_tick (s : State) (tick : Nat)  : (s.tick tick).cellReadings  = s.cellReadings  := rfl
@[simp] theorem State.ntcReadings_tick (s : State) (tick : Nat)  : (s.tick tick).ntcReadings  = s.ntcReadings  := rfl
@[simp] theorem State.stringCells_tick (s : State) (tick : Nat)  : (s.tick tick).stringCells  = s.stringCells  := rfl
@[simp] theorem State.limitTargets_tick (s : State) (tick : Nat)  : (s.tick tick).limitTargets  = s.limitTargets  := rfl
@[simp] theorem State.nodeOfPack_tick (s : State) (tick : Nat) (pack : Nat) : (s.tick tick).nodeOfPack pack = s.nodeOfPack pack := rfl
@[simp] theorem State.pickStandby_tick (s : State) (tick : Nat) (lost : Nat) : (s.tick tick).pickStandby lost = s.pickStandby lost := rfl
@[simp] theorem State.missingStandby_tick (s : State) (tick : Nat)  : (s.tick tick).missingStandby  = s.missingStandby  := rfl
@[simp] theorem State.heartbeatRec_tick (s : State) (tick : Nat)  : (s.tick tick).heartbeatRec  = s.heartbeatRec  := rfl
@[simp] theorem State.spinRec_tick (s : State) (tick : Nat) (t : Nat) : (s.tick tick).spinRec t = s.spinRec t := rfl
@[simp] theorem State.chan_tick (s : State) (tick : Nat) (n : Nat) : (s.tick tick).chan n = s.chan n := rfl
@[simp] theorem State.cellFenced_tick (s : State) (tick : Nat) (n : Nat) : (s.tick tick).cellFenced n = s.cellFenced n := rfl
@[simp] theorem State.flowIn_tick (s : State) (tick : Nat) (n a b : Nat) : (s.tick tick).flowIn n a b = s.flowIn n a b := rfl
@[simp] theorem State.balTag_tick (s : State) (tick : Nat) (n a b : Nat) : (s.tick tick).balTag n a b = s.balTag n a b := rfl
@[simp] theorem State.coeffs_tick (s : State) (tick : Nat) (n : Nat) : (s.tick tick).coeffs n = s.coeffs n := rfl
@[simp] theorem State.corrected_tick (s : State) (tick : Nat) (n : Nat) (uv : Rat) : (s.tick tick).corrected n uv = s.corrected n uv := rfl
@[simp] theorem State.makeWord_tick (s : State) (tick : Nat) (c : ChanSt) (k : KindSt) (n : Nat) (uv : Rat) (a b : Nat) (legacy : Bool) : (s.tick tick).makeWord c k n uv a b legacy = s.makeWord c k n uv a b legacy := rfl
@[simp] theorem State.calHeld_tick (s : State) (tick : Nat) (n : Nat) : (s.tick tick).calHeld n = s.calHeld n := rfl
@[simp] theorem State.linkDelay_tick (s : State) (tick : Nat) (p : Port) : (s.tick tick).linkDelay p = s.linkDelay p := rfl
@[simp] theorem State.sourceLocked_tick (s : State) (tick : Nat) (k : Nat) : (s.tick tick).sourceLocked k = s.sourceLocked k := rfl
@[simp] theorem State.sourcePeriod_tick (s : State) (tick : Nat) (k : Nat) : (s.tick tick).sourcePeriod k = s.sourcePeriod k := rfl
@[simp] theorem State.sourcePhase_tick (s : State) (tick : Nat) (k : Nat) : (s.tick tick).sourcePhase k = s.sourcePhase k := rfl
@[simp] theorem State.minAcqOf_tick (s : State) (tick : Nat) (c : Nat) : (s.tick tick).minAcqOf c = s.minAcqOf c := rfl
@[simp] theorem State.routineEntry_tick (s : State) (tick : Nat) (pos : Nat) : (s.tick tick).routineEntry pos = s.routineEntry pos := rfl
@[simp] theorem State.routineEntries_tick (s : State) (tick : Nat)  : (s.tick tick).routineEntries  = s.routineEntries  := rfl
@[simp] theorem State.routineWord_tick (s : State) (tick : Nat) (pos : Nat) : (s.tick tick).routineWord pos = s.routineWord pos := rfl
@[simp] theorem State.spEntry_tick (s : State) (tick : Nat) (pos cell n shift : Nat) : (s.tick tick).spEntry pos cell n shift = s.spEntry pos cell n shift := rfl
@[simp] theorem State.auxBusy_tick (s : State) (tick : Nat) (u : AuxUser) : (s.tick tick).auxBusy u = s.auxBusy u := rfl
@[simp] theorem State.capturing_tick (s : State) (tick : Nat)  : (s.tick tick).capturing  = s.capturing  := rfl
@[simp] theorem State.ntcUv_tick (s : State) (tick : Nat) (k : Nat) : (s.tick tick).ntcUv k = s.ntcUv k := rfl
@[simp] theorem State.ntcTemp_tick (s : State) (tick : Nat) (k : Nat) : (s.tick tick).ntcTemp k = s.ntcTemp k := rfl
@[simp] theorem State.ntcs_tick (s : State) (tick : Nat)  : (s.tick tick).ntcs  = s.ntcs  := rfl
@[simp] theorem State.ec_tick (s : State) (tick : Nat) (n : Nat) : (s.tick tick).ec n = s.ec n := rfl
@[simp] theorem State.capC_tick (s : State) (tick : Nat)  : (s.tick tick).capC  = s.capC  := rfl
@[simp] theorem State.capOf_tick (s : State) (tick : Nat) (n : Nat) : (s.tick tick).capOf n = s.capOf n := rfl
@[simp] theorem State.noConfig_tick (s : State) (tick : Nat)  : (s.tick tick).noConfig  = s.noConfig  := rfl
@[simp] theorem State.ocv_tick (s : State) (tick : Nat)  : (s.tick tick).ocv  = s.ocv  := rfl
@[simp] theorem State.r0Of_tick (s : State) (tick : Nat) (n : Nat) : (s.tick tick).r0Of n = s.r0Of n := rfl
@[simp] theorem State.balAmps_tick (s : State) (tick : Nat) (n : Nat) : (s.tick tick).balAmps n = s.balAmps n := rfl
@[simp] theorem State.flyAmps_tick (s : State) (tick : Nat) (n : Nat) : (s.tick tick).flyAmps n = s.flyAmps n := rfl
@[simp] theorem State.balError_tick (s : State) (tick : Nat) (n : Nat) : (s.tick tick).balError n = s.balError n := rfl
@[simp] theorem State.leakUv_tick (s : State) (tick : Nat) (n a b : Nat) : (s.tick tick).leakUv n a b = s.leakUv n a b := rfl
@[simp] theorem State.msCharge_tick (s : State) (tick : Nat) (mean : Rat) : (s.tick tick).msCharge mean = s.msCharge mean := rfl
@[simp] theorem State.msMeanNow_tick (s : State) (tick : Nat)  : (s.tick tick).msMeanNow  = s.msMeanNow  := rfl
@[simp] theorem State.packTemp_tick (s : State) (tick : Nat)  : (s.tick tick).packTemp  = s.packTemp  := rfl
@[simp] theorem State.stepValues_tick (s : State) (tick : Nat) (n : Nat) : (s.tick tick).stepValues n = s.stepValues n := rfl
@[simp] theorem State.voltView_tick (s : State) (tick : Nat) (l : List Int) (n : Nat) (v i extra : Rat) : (s.tick tick).voltView l n v i extra = s.voltView l n v i extra := rfl
@[simp] theorem State.recordCopies_tick (s : State) (tick : Nat) (cap : Bool) : (s.tick tick).recordCopies cap = s.recordCopies cap := rfl
@[simp] theorem State.recordInForce_tick (s : State) (tick : Nat) (cap : Bool) : (s.tick tick).recordInForce cap = s.recordInForce cap := rfl
@[simp] theorem State.recordNext_tick (s : State) (tick : Nat) (cap : Bool) : (s.tick tick).recordNext cap = s.recordNext cap := rfl
@[simp] theorem State.recWrite_tick (s : State) (tick : Nat) (cap : Bool) : (s.tick tick).recWrite cap = s.recWrite cap := rfl
@[simp] theorem State.storedCell_tick (s : State) (tick : Nat) (soc cap : Bytes) (age : Nat) (n : Nat) : (s.tick tick).storedCell soc cap age n = s.storedCell soc cap age n := rfl
@[simp] theorem State.storedOk_tick (s : State) (tick : Nat) (soc cap : Bytes) (age : Nat) : (s.tick tick).storedOk soc cap age = s.storedOk soc cap age := rfl
@[simp] theorem State.ocvEstimate_tick (s : State) (tick : Nat) (n : Nat) : (s.tick tick).ocvEstimate n = s.ocvEstimate n := rfl
@[simp] theorem State.socShown_tick (s : State) (tick : Nat) (n : Nat) : (s.tick tick).socShown n = s.socShown n := rfl
@[simp] theorem State.estStatus_tick (s : State) (tick : Nat)  : (s.tick tick).estStatus  = s.estStatus  := rfl
@[simp] theorem State.stringCellsEst_tick (s : State) (tick : Nat)  : (s.tick tick).stringCellsEst  = s.stringCellsEst  := rfl
@[simp] theorem State.impSpectrum_tick (s : State) (tick : Nat) (n : Nat) : (s.tick tick).impSpectrum n = s.impSpectrum n := rfl
@[simp] theorem State.rangeOk_tick (s : State) (tick : Nat) (o : RangeObj) (v : BitVec 32) : (s.tick tick).rangeOk o v = s.rangeOk o v := rfl
@[simp] theorem State.roleOf_tick (s : State) (tick : Nat) (q : PxReq) : (s.tick tick).roleOf q = s.roleOf q := rfl
@[simp] theorem State.daySummary_tick (s : State) (tick : Nat) (day : Nat) (calBad : Bool) : (s.tick tick).daySummary day calBad = s.daySummary day calBad := rfl
@[simp] theorem State.captureNode_tick (s : State) (tick : Nat) (node : Nat) : (s.tick tick).captureNode node = s.captureNode node := rfl
@[simp] theorem State.readoutStream_tick (s : State) (tick : Nat) (r : CapRec) : (s.tick tick).readoutStream r = s.readoutStream r := rfl
@[simp] theorem State.jobAt_tick (s : State) (tick : Nat) (addr : Nat) : (s.tick tick).jobAt addr = s.jobAt addr := rfl
@[simp] theorem State.captureSeconds_tick (s : State) (tick : Nat)  : (s.tick tick).captureSeconds  = s.captureSeconds  := rfl
@[simp] theorem State.histBytes_tick (s : State) (tick : Nat) (hist unit bins : Nat) : (s.tick tick).histBytes hist unit bins = s.histBytes hist unit bins := rfl
@[simp] theorem State.extremeBytes_tick (s : State) (tick : Nat) (n : Nat) : (s.tick tick).extremeBytes n = s.extremeBytes n := rfl
@[simp] theorem State.episodeBytes_tick (s : State) (tick : Nat)  : (s.tick tick).episodeBytes  = s.episodeBytes  := rfl
@[simp] theorem State.wireCells_tick (s : State) (tick : Nat) (k : Nat) : (s.tick tick).wireCells k = s.wireCells k := rfl
@[simp] theorem State.owtEntries_tick (s : State) (tick : Nat) (x : OwtId) (during : Bool) : (s.tick tick).owtEntries x during = s.owtEntries x during := rfl
@[simp] theorem State.owtFails_tick (s : State) (tick : Nat) (x : OwtTest) : (s.tick tick).owtFails x = s.owtFails x := rfl
@[simp] theorem State.sumLimit_tick (s : State) (tick : Nat)  : (s.tick tick).sumLimit  = s.sumLimit  := rfl
@[simp] theorem State.owtBarred_tick (s : State) (tick : Nat) (x : OwtId) : (s.tick tick).owtBarred x = s.owtBarred x := rfl
@[simp] theorem State.forceSuspended_tick (s : State) (tick : Nat) (x : OwtId) : (s.tick tick).forceSuspended x = s.forceSuspended x := rfl
@[simp] theorem State.involved_tick (s : State) (tick : Nat) (p : Pattern) : (s.tick tick).involved p = s.involved p := rfl
@[simp] theorem State.hostRegEntries_tick (s : State) (tick : Nat)  : (s.tick tick).hostRegEntries  = s.hostRegEntries  := rfl
@[simp] theorem State.injEntries_tick (s : State) (tick : Nat) (k : InjSeq) : (s.tick tick).injEntries k = s.injEntries k := rfl
@[simp] theorem State.passOf_tick (s : State) (tick : Nat) (u : AuxUser) : (s.tick tick).passOf u = s.passOf u := rfl
@[simp] theorem State.pawnIdle_tick (s : State) (tick : Nat) (d : Nat) : (s.tick tick).pawnIdle d = s.pawnIdle d := rfl
@[simp] theorem State.pawnFree_tick (s : State) (tick : Nat) (d pos : Nat) : (s.tick tick).pawnFree d pos = s.pawnFree d pos := rfl
@[simp] theorem State.pawnAbove_tick (s : State) (tick : Nat) (d pos : Nat) : (s.tick tick).pawnAbove d pos = s.pawnAbove d pos := rfl
@[simp] theorem State.auxStatus_tick (s : State) (tick : Nat)  : (s.tick tick).auxStatus  = s.auxStatus  := rfl
@[simp] theorem State.pawnState_tick (s : State) (tick : Nat)  : (s.tick tick).pawnState  = s.pawnState  := rfl
@[simp] theorem State.owtMode_tick (s : State) (tick : Nat)  : (s.tick tick).owtMode  = s.owtMode  := rfl
@[simp] theorem State.overdueLimit_tick (s : State) (tick : Nat)  : (s.tick tick).overdueLimit  = s.overdueLimit  := rfl
@[simp] theorem State.cellMean_tick (s : State) (tick : Nat) (n : Nat) : (s.tick tick).cellMean n = s.cellMean n := rfl
@[simp] theorem State.auxMean_tick (s : State) (tick : Nat) (c : Nat) : (s.tick tick).auxMean c = s.auxMean c := rfl
@[simp] theorem State.classify_tick (s : State) (tick : Nat)  : (s.tick tick).classify  = s.classify  := rfl
@[simp] theorem State.sentCh_tick (s : State) (tick : Nat) (k : Nat) : (s.tick tick).sentCh k = s.sentCh k := rfl
@[simp] theorem State.sentOn_tick (s : State) (tick : Nat) (k : Nat) : (s.tick tick).sentOn k = s.sentOn k := rfl
@[simp] theorem State.sentTick_tick (s : State) (tick : Nat) (k : Nat) : (s.tick tick).sentTick k = s.sentTick k := rfl
@[simp] theorem State.sentCheck_tick (s : State) (tick : Nat) (k : Nat) (pulses : List Nat) : (s.tick tick).sentCheck k pulses = s.sentCheck k pulses := rfl
@[simp] theorem State.sentLive_tick (s : State) (tick : Nat) (k : Nat) : (s.tick tick).sentLive k = s.sentLive k := rfl
@[simp] theorem State.sentWord_tick (s : State) (tick : Nat) (k : Nat) : (s.tick tick).sentWord k = s.sentWord k := rfl
@[simp] theorem State.sentStatus_tick (s : State) (tick : Nat) (k : Nat) : (s.tick tick).sentStatus k = s.sentStatus k := rfl
@[simp] theorem State.cellPoint_tick (s : State) (tick : Nat) (n : Nat) : (s.tick tick).cellPoint n = s.cellPoint n := rfl
@[simp] theorem State.ntcPoint_tick (s : State) (tick : Nat) (k : Nat) : (s.tick tick).ntcPoint k = s.ntcPoint k := rfl
@[simp] theorem State.cellWords_tick (s : State) (tick : Nat)  : (s.tick tick).cellWords  = s.cellWords  := rfl
@[simp] theorem State.point_tick (s : State) (tick : Nat) (p : Nat) : (s.tick tick).point p = s.point p := rfl
@[simp] theorem State.pubBytes_tick (s : State) (tick : Nat)  : (s.tick tick).pubBytes  = s.pubBytes  := rfl
@[simp] theorem State.pawnIn_tick (s : State) (tick : Nat) (d n a b : Nat) : (s.tick tick).pawnIn d n a b = s.pawnIn d n a b := rfl
@[simp] theorem State.fallbackEntries_tick (s : State) (tick : Nat)  : (s.tick tick).fallbackEntries  = s.fallbackEntries  := rfl
@[simp] theorem State.shuntAmps_tick (s : State) (tick : Nat) (x : TapRaw) : (s.tick tick).shuntAmps x = s.shuntAmps x := rfl
@[simp] theorem State.fluxAmps_tick (s : State) (tick : Nat) (x : TapRaw) : (s.tick tick).fluxAmps x = s.fluxAmps x := rfl
@[simp] theorem State.currentChannel_tick (s : State) (tick : Nat)  : (s.tick tick).currentChannel  = s.currentChannel  := rfl
@[simp] theorem State.fly_tick (s : State) (tick : Nat) (k : Nat) : (s.tick tick).fly k = s.fly k := rfl
@[simp] theorem State.balBarred_tick (s : State) (tick : Nat) (n : Nat) : (s.tick tick).balBarred n = s.balBarred n := rfl
@[simp] theorem State.mayMove_tick (s : State) (tick : Nat) (n : Nat) (charge : Bool) : (s.tick tick).mayMove n charge = s.mayMove n charge := rfl
@[simp] theorem State.inhibitMask_tick (s : State) (tick : Nat)  : (s.tick tick).inhibitMask  = s.inhibitMask  := rfl
@[simp] theorem State.flyOn_tick (s : State) (tick : Nat) (n : Nat) : (s.tick tick).flyOn n = s.flyOn n := rfl
@[simp] theorem State.flyLimit_tick (s : State) (tick : Nat) (f : FlybackSt) : (s.tick tick).flyLimit f = s.flyLimit f := rfl
@[simp] theorem State.scaleWire_tick (s : State) (tick : Nat) (x : KMap Rat × List Nat) (k : Nat) : (s.tick tick).scaleWire x k = s.scaleWire x k := rfl
@[simp] theorem State.planOk_tick (s : State) (tick : Nat) (b : Bytes) : (s.tick tick).planOk b = s.planOk b := rfl
@[simp] theorem State.nodeDerate_tick (s : State) (tick : Nat) (node : Nat) : (s.tick tick).nodeDerate node = s.nodeDerate node := rfl
@[simp] theorem State.nodeCells_tick (s : State) (tick : Nat) (node : Nat) : (s.tick tick).nodeCells node = s.nodeCells node := rfl
@[simp] theorem State.planNodes_tick (s : State) (tick : Nat)  : (s.tick tick).planNodes  = s.planNodes  := rfl
@[simp] theorem State.transferFor_tick (s : State) (tick : Nat) (node : Nat) (left : Int) : (s.tick tick).transferFor node left = s.transferFor node left := rfl
@[simp] theorem State.transferBudget_tick (s : State) (tick : Nat)  : (s.tick tick).transferBudget  = s.transferBudget  := rfl
@[simp] theorem State.ringPath_tick (s : State) (tick : Nat)  : (s.tick tick).ringPath  = s.ringPath  := rfl
@[simp] theorem State.pxFromHead_tick (s : State) (tick : Nat) (q : PxReq) : (s.tick tick).pxFromHead q = s.pxFromHead q := rfl
@[simp] theorem State.flyCandidates_tick (s : State) (tick : Nat) (k : Nat) : (s.tick tick).flyCandidates k = s.flyCandidates k := rfl
@[simp] theorem State.bookResidual_tick (s : State) (tick : Nat) (v : Rat) : (s.tick tick).bookResidual v = s.bookResidual v := rfl
@[simp] theorem State.inst_tick (s : State) (tick : Nat) (i : Nat) : (s.tick tick).inst i = s.inst i := rfl
@[simp] theorem State.bank_tick (s : State) (tick : Nat) (i : Nat) (b : Nat) : (s.tick tick).bank i b = s.bank i b := rfl
@[simp] theorem State.instUsable_tick (s : State) (tick : Nat) (i : Nat) : (s.tick tick).instUsable i = s.instUsable i := rfl
@[simp] theorem State.dims_tick (s : State) (tick : Nat) (i : Nat) : (s.tick tick).dims i = s.dims i := rfl
@[simp] theorem State.rateD_tick (s : State) (tick : Nat) (i : Nat) : (s.tick tick).rateD i = s.rateD i := rfl
@[simp] theorem State.bindAt_tick (s : State) (tick : Nat) (o : ObjDef) (i j : Nat) : (s.tick tick).bindAt o i j = s.bindAt o i j := rfl
@[simp] theorem State.tRef_tick (s : State) (tick : Nat)  : (s.tick tick).tRef  = s.tRef  := rfl
@[simp] theorem State.zoneRise_tick (s : State) (tick : Nat) (z : Nat) : (s.tick tick).zoneRise z = s.zoneRise z := rfl
@[simp] theorem State.heat_tick (s : State) (tick : Nat)  : (s.tick tick).heat  = s.heat  := rfl
@[simp] theorem State.fanRpm_tick (s : State) (tick : Nat) (hz : Rat) : (s.tick tick).fanRpm hz = s.fanRpm hz := rfl
@[simp] theorem State.flow_tick (s : State) (tick : Nat) (m : LoopMeas) : (s.tick tick).flow m = s.flow m := rfl
@[simp] theorem State.pointUnit_tick (s : State) (tick : Nat) (p : Nat) : (s.tick tick).pointUnit p = s.pointUnit p := rfl
@[simp] theorem State.input_tick (s : State) (tick : Nat) (m : LoopMeas) (kind index : Nat) : (s.tick tick).input m kind index = s.input m kind index := rfl
@[simp] theorem State.ramp_tick (s : State) (tick : Nat) (i j : Nat) : (s.tick tick).ramp i j = s.ramp i j := rfl
@[simp] theorem State.failOut_tick (s : State) (tick : Nat) (i m : Nat) : (s.tick tick).failOut i m = s.failOut i m := rfl
@[simp] theorem State.writers_tick (s : State) (tick : Nat) (i slot : Nat) : (s.tick tick).writers i slot = s.writers i slot := rfl
@[simp] theorem State.instOn_tick (s : State) (tick : Nat) (i : Nat) : (s.tick tick).instOn i = s.instOn i := rfl
@[simp] theorem State.slotTarget_tick (s : State) (tick : Nat) (i j : Nat) : (s.tick tick).slotTarget i j = s.slotTarget i j := rfl
@[simp] theorem State.loopCycles_tick (s : State) (tick : Nat) (l : List Nat) : (s.tick tick).loopCycles l = s.loopCycles l := rfl
@[simp] theorem State.loopLoadNow_tick (s : State) (tick : Nat)  : (s.tick tick).loopLoadNow  = s.loopLoadNow  := rfl
@[simp] theorem State.loopStatusOf_tick (s : State) (tick : Nat) (i : Nat) : (s.tick tick).loopStatusOf i = s.loopStatusOf i := rfl
@[simp] theorem State.demandNow_tick (s : State) (tick : Nat)  : (s.tick tick).demandNow  = s.demandNow  := rfl
@[simp] theorem State.bindHeld_tick (s : State) (tick : Nat) (i : Nat) (b : Bytes) : (s.tick tick).bindHeld i b = s.bindHeld i b := rfl
@[simp] theorem State.bankFits_tick (s : State) (tick : Nat) (i : Nat) (d : Bytes) : (s.tick tick).bankFits i d = s.bankFits i d := rfl
@[simp] theorem State.cascadeOk_tick (s : State) (tick : Nat) (i : Nat) (d : Bytes) : (s.tick tick).cascadeOk i d = s.cascadeOk i d := rfl
@[simp] theorem State.coolingStatus_tick (s : State) (tick : Nat)  : (s.tick tick).coolingStatus  = s.coolingStatus  := rfl
@[simp] theorem State.supplyStatus_tick (s : State) (tick : Nat)  : (s.tick tick).supplyStatus  = s.supplyStatus  := rfl
@[simp] theorem State.moduleSum_tick (s : State) (tick : Nat)  : (s.tick tick).moduleSum  = s.moduleSum  := rfl
@[simp] theorem State.isoAllowed_tick (s : State) (tick : Nat)  : (s.tick tick).isoAllowed  = s.isoAllowed  := rfl
@[simp] theorem State.evaluates_tick (s : State) (tick : Nat) (c : ProtCond) : (s.tick tick).evaluates c = s.evaluates c := rfl
@[simp] theorem State.openHeld_tick (s : State) (tick : Nat)  : (s.tick tick).openHeld  = s.openHeld  := rfl
@[simp] theorem State.tripHeld_tick (s : State) (tick : Nat)  : (s.tick tick).tripHeld  = s.tripHeld  := rfl
@[simp] theorem State.selfReady_tick (s : State) (tick : Nat)  : (s.tick tick).selfReady  = s.selfReady  := rfl
@[simp] theorem State.driven_tick (s : State) (tick : Nat) (c : Coil) : (s.tick tick).driven c = s.driven c := rfl
@[simp] theorem State.releases_tick (s : State) (tick : Nat) (m : Member) : (s.tick tick).releases m = s.releases m := rfl
@[simp] theorem State.rampedLimit_tick (s : State) (tick : Nat) (j : Nat) (target now : Rat) : (s.tick tick).rampedLimit j target now = s.rampedLimit j target now := rfl
@[simp] theorem State.protBytes_tick (s : State) (tick : Nat)  : (s.tick tick).protBytes  = s.protBytes  := rfl
@[simp] theorem State.protCrc_tick (s : State) (tick : Nat)  : (s.tick tick).protCrc  = s.protCrc  := rfl
@[simp] theorem State.protOrdered_tick (s : State) (tick : Nat)  : (s.tick tick).protOrdered  = s.protOrdered  := rfl
@[simp] theorem State.pxHeadCopy_tick (s : State) (tick : Nat) (q : PxReq) : (s.tick tick).pxHeadCopy q = s.pxHeadCopy q := rfl
@[simp] theorem State.laneLive_tick (s : State) (tick : Nat) (l : Lane) : (s.tick tick).laneLive l = s.laneLive l := rfl
@[simp] theorem State.regCopies_tick (s : State) (tick : Nat) (a b c : Option Nat) : (s.tick tick).regCopies a b c = s.regCopies a b c := rfl
@[simp] theorem State.carryCopies_tick (s : State) (tick : Nat)  : (s.tick tick).carryCopies  = s.carryCopies  := rfl
@[simp] theorem State.carryInForce_tick (s : State) (tick : Nat)  : (s.tick tick).carryInForce  = s.carryInForce  := rfl
@[simp] theorem State.mayLead_tick (s : State) (tick : Nat)  : (s.tick tick).mayLead  = s.mayLead  := rfl
@[simp] theorem State.headDescriptor_tick (s : State) (tick : Nat)  : (s.tick tick).headDescriptor  = s.headDescriptor  := rfl
@[simp] theorem State.staged_tick (s : State) (tick : Nat) (seq : Nat) : (s.tick tick).staged seq = s.staged seq := rfl
@[simp] theorem State.freeNodes_tick (s : State) (tick : Nat)  : (s.tick tick).freeNodes  = s.freeNodes  := rfl
@[simp] theorem State.ownJoin_tick (s : State) (tick : Nat)  : (s.tick tick).ownJoin  = s.ownJoin  := rfl
@[simp] theorem State.nodeFor_tick (s : State) (tick : Nat) (pack : Nat) : (s.tick tick).nodeFor pack = s.nodeFor pack := rfl
@[simp] theorem State.ownRates_tick (s : State) (tick : Nat) (b : Bus) : (s.tick tick).ownRates b = s.ownRates b := rfl
@[simp] theorem State.scanRates_tick (s : State) (tick : Nat) (b : Bus) (k : Nat) : (s.tick tick).scanRates b k = s.scanRates b k := rfl
@[simp] theorem State.ownReply_tick (s : State) (tick : Nat)  : (s.tick tick).ownReply  = s.ownReply  := rfl
@[simp] theorem State.nodeOfSquare_tick (s : State) (tick : Nat) (sq : Int) : (s.tick tick).nodeOfSquare sq = s.nodeOfSquare sq := rfl
@[simp] theorem State.loopStateBytes_tick (s : State) (tick : Nat) (i : Nat) : (s.tick tick).loopStateBytes i = s.loopStateBytes i := rfl
@[simp] theorem State.standbySquare_tick (s : State) (tick : Nat)  : (s.tick tick).standbySquare  = s.standbySquare  := rfl
@[simp] theorem State.serves_tick (s : State) (tick : Nat)  : (s.tick tick).serves  = s.serves  := rfl
@[simp] theorem State.genLag_tick (s : State) (tick : Nat)  : (s.tick tick).genLag  = s.genLag  := rfl
@[simp] theorem State.reachable_tick (s : State) (tick : Nat)  : (s.tick tick).reachable  = s.reachable  := rfl
@[simp] theorem State.periodsMissed_tick (s : State) (tick : Nat)  : (s.tick tick).periodsMissed  = s.periodsMissed  := rfl
@[simp] theorem State.roleKey_tick (s : State) (tick : Nat) (role : Nat) : (s.tick tick).roleKey role = s.roleKey role := rfl
@[simp] theorem State.loginToken_tick (s : State) (tick : Nat) (key : Bytes) (challenge role handle : Nat) : (s.tick tick).loginToken key challenge role handle = s.loginToken key challenge role handle := rfl
@[simp] theorem State.idleSlot_tick (s : State) (tick : Nat)  : (s.tick tick).idleSlot  = s.idleSlot  := rfl
@[simp] theorem State.knownImage_tick (s : State) (tick : Nat) (ident : Nat) : (s.tick tick).knownImage ident = s.knownImage ident := rfl
@[simp] theorem State.manifestCode_tick (s : State) (tick : Nat) (m : Bytes) : (s.tick tick).manifestCode m = s.manifestCode m := rfl
@[simp] theorem State.calCells_tick (s : State) (tick : Nat)  : (s.tick tick).calCells  = s.calCells  := rfl
@[simp] theorem State.calAccept_tick (s : State) (tick : Nat) (checks : List CalCheck) (n : Nat) (g : Rat × Rat) : (s.tick tick).calAccept checks n g = s.calAccept checks n g := rfl
@[simp] theorem State.calResultBytes_tick (s : State) (tick : Nat)  : (s.tick tick).calResultBytes  = s.calResultBytes  := rfl
@[simp] theorem State.keyStatus_tick (s : State) (tick : Nat)  : (s.tick tick).keyStatus  = s.keyStatus  := rfl
@[simp] theorem State.usbState_tick (s : State) (tick : Nat)  : (s.tick tick).usbState  = s.usbState  := rfl
@[simp] theorem State.objAt_tick (s : State) (tick : Nat) (index sub : Nat) : (s.tick tick).objAt index sub = s.objAt index sub := rfl
@[simp] theorem State.legacyUv_tick (s : State) (tick : Nat) (d k : Nat) : (s.tick tick).legacyUv d k = s.legacyUv d k := rfl
@[simp] theorem State.pointScale_tick (s : State) (tick : Nat) (node p : Nat) : (s.tick tick).pointScale node p = s.pointScale node p := rfl
@[simp] theorem State.pointLimit_tick (s : State) (tick : Nat) (node p : Nat) : (s.tick tick).pointLimit node p = s.pointLimit node p := rfl
@[simp] theorem State.pointEntryBytes_tick (s : State) (tick : Nat) (node p : Nat) : (s.tick tick).pointEntryBytes node p = s.pointEntryBytes node p := rfl
@[simp] theorem State.logSlot_tick (s : State) (tick : Nat) (k : Nat) : (s.tick tick).logSlot k = s.logSlot k := rfl
@[simp] theorem State.logBytes_tick (s : State) (tick : Nat) (off len : Nat) : (s.tick tick).logBytes off len = s.logBytes off len := rfl
@[simp] theorem State.ownWaiting_tick (s : State) (tick : Nat) (queue : Nat) : (s.tick tick).ownWaiting queue = s.ownWaiting queue := rfl
@[simp] theorem State.queueFilledOf_tick (s : State) (tick : Nat) (q : Nat) : (s.tick tick).queueFilledOf q = s.queueFilledOf q := rfl
@[simp] theorem State.paramInForce_tick (s : State) (tick : Nat) (o : ObjDef) (i j addr : Nat) : (s.tick tick).paramInForce o i j addr = s.paramInForce o i j addr := rfl
@[simp] theorem State.loadParams_tick (s : State) (tick : Nat) (d : Dict) : (s.tick tick).loadParams d = s.loadParams d := rfl
@[simp] theorem State.headerVersion_tick (s : State) (tick : Nat)  : (s.tick tick).headerVersion  = s.headerVersion  := rfl
@[simp] theorem State.severeActive_tick (s : State) (tick : Nat)  : (s.tick tick).severeActive  = s.severeActive  := rfl
@[simp] theorem State.sentWanted_tick (s : State) (tick : Nat)  : (s.tick tick).sentWanted  = s.sentWanted  := rfl
@[simp] theorem State.uncopied_tick (s : State) (tick : Nat)  : (s.tick tick).uncopied  = s.uncopied  := rfl
@[simp] theorem State.kaCond_tick (s : State) (tick : Nat) (cells : List Int) (ntcs : List Rat) (k : Nat) : (s.tick tick).kaCond cells ntcs k = s.kaCond cells ntcs k := rfl
@[simp] theorem State.keptDict_tick (s : State) (tick : Nat)  : (s.tick tick).keptDict  = s.keptDict  := rfl
@[simp] theorem State.slotPasses_tick (s : State) (tick : Nat) (x : SlotSt) (verified : Bool) : (s.tick tick).slotPasses x verified = s.slotPasses x verified := rfl
@[simp] theorem State.readyMode_tick (s : State) (tick : Nat)  : (s.tick tick).readyMode  = s.readyMode  := rfl
@[simp] theorem State.sentFloor_tick (s : State) (tick : Nat) (i : Nat) : (s.tick tick).sentFloor i = s.sentFloor i := rfl
@[simp] theorem State.masterRuns_tick (s : State) (tick : Nat) (m : Master) : (s.tick tick).masterRuns m = s.masterRuns m := rfl
@[simp] theorem State.distOk_tick (s : State) (tick : Nat) (q : PxReq) : (s.tick tick).distOk q = s.distOk q := rfl
@[simp] theorem State.readCode_tick (s : State) (tick : Nat) (o : ObjDef) (i role : Nat) : (s.tick tick).readCode o i role = s.readCode o i role := rfl
@[simp] theorem State.blockOf_tick (s : State) (tick : Nat) (q : PxReq) (write : Bool) : (s.tick tick).blockOf q write = s.blockOf q write := rfl
@[simp] theorem State.blockBusy_tick (s : State) (tick : Nat) (q : PxReq) (write : Bool) (index sub : Nat) : (s.tick tick).blockBusy q write index sub = s.blockBusy q write index sub := rfl
@[simp] theorem State.sessionCounter_tick (s : State) (tick : Nat) (q : PxReq) : (s.tick tick).sessionCounter q = s.sessionCounter q := rfl
@[simp] theorem State.descXfer_tick (s : State) (tick : Nat) (q : PxReq) (index sub : Nat) : (s.tick tick).descXfer q index sub = s.descXfer q index sub := rfl
@[simp] theorem State.openCode_tick (s : State) (tick : Nat) (q : PxReq) (o : ObjDef) (i j role off size : Nat) : (s.tick tick).openCode q o i j role off size = s.openCode q o i j role off size := rfl

end Sys2Proof.Machine
end

