-- ==== Sys2Proof/Laws/Px.lean ====
section
/-! SUPPORT. What a write does once it is admitted: the lemmas about the shared path of every write (R538 to R541, R547, R566). -/
namespace Sys2Proof.Machine

/-- A write that passes the checks and whose own effect is done (R538 to R541). -/
theorem State.pxWriteNat_ok (s : State) (q : PxReq) (o : ObjDef) (i j v : Nat) (e : PxEffect) (role counter : Nat) (s' : State)
    (h : s.admitsWrite q o i j (natBytes o v) role counter) (he : e (s.taken q counter) = .ok s') :
    s.pxWriteNat q o i j v e = s'.wroteOk q o i j role counter (s.bytesOf o i j) (natBytes o v) := by
  obtain ⟨⟨h0, h1, h2, h3, h4, h5, h6, h7⟩, h8, h9, h10⟩ := h
  simp only [natBytes] at h2 h3 h4 h8 h10
  simp only [State.taken] at he
  unfold State.pxWriteNat State.pxWrite State.pxWriteOld State.pxRun State.wroteOk State.bytesOf natBytes
  have hr : (s.pxAccept q counter).mgmt.running = true := by simpa [State.pxAccept] using h5
  have ha : ((s.pxAccept q counter).bump Obj.pxRequests).available (o.index + i) = true := by
    simpa [State.available, State.pxAccept] using h6
  have hk : ¬ role < ((s.pxAccept q counter).bump Obj.pxRequests).rankFor o := by
    have : ((s.pxAccept q counter).bump Obj.pxRequests).rankFor o = s.rankFor o := by simp [State.rankFor, State.pxAccept]
    omega
  simp [h0, h1, h2, h3, h4, h8, h9, h10, hr, ha, hk, he]

/-- What the end of a write leaves alone, where no restart of the lanes waits for it (R681). -/
theorem State.wroteOk_frame (s : State) (q : PxReq) (o : ObjDef) (i j role counter : Nat) (old new : Bytes)
    (h : s.mgmt.restartDue = false) :
    (s.wroteOk q o i j role counter old new).now = s.now ∧ (s.wroteOk q o i j role counter old new).ringOffset = s.ringOffset ∧
    (s.wroteOk q o i j role counter old new).pending = s.pending ∧ (s.wroteOk q o i j role counter old new).pm = s.pm ∧
    (s.wroteOk q o i j role counter old new).ident = s.ident ∧ (s.wroteOk q o i j role counter old new).supply = s.supply ∧
    (s.wroteOk q o i j role counter old new).md = s.md ∧ (s.wroteOk q o i j role counter old new).tm = s.tm ∧
    (s.wroteOk q o i j role counter old new).meas = s.meas ∧ (s.wroteOk q o i j role counter old new).aux = s.aux ∧
    (s.wroteOk q o i j role counter old new).itg = s.itg ∧ (s.wroteOk q o i j role counter old new).bal = s.bal ∧
    (s.wroteOk q o i j role counter old new).hio = s.hio ∧ (s.wroteOk q o i j role counter old new).est = s.est ∧
    (s.wroteOk q o i j role counter old new).lp = s.lp ∧ (s.wroteOk q o i j role counter old new).flt = s.flt ∧
    (s.wroteOk q o i j role counter old new).sent = s.sent ∧ (s.wroteOk q o i j role counter old new).rcd = s.rcd := by
  simp [State.wroteOk, State.pxFinish, State.afterAnswer, h]

/-- What taking a request leaves alone. -/
@[simp] theorem State.taken_frame (s : State) (q : PxReq) (counter : Nat) :
    (s.taken q counter).now = s.now ∧ (s.taken q counter).ringOffset = s.ringOffset ∧ (s.taken q counter).pending = s.pending ∧
    (s.taken q counter).pm = s.pm ∧ (s.taken q counter).out = s.out ∧ (s.taken q counter).trngCount = s.trngCount ∧
    (s.taken q counter).ident = s.ident ∧ (s.taken q counter).supply = s.supply ∧ (s.taken q counter).md = s.md ∧
    (s.taken q counter).tm = s.tm ∧ (s.taken q counter).meas = s.meas ∧ (s.taken q counter).aux = s.aux ∧
    (s.taken q counter).itg = s.itg ∧ (s.taken q counter).bal = s.bal ∧ (s.taken q counter).hio = s.hio ∧
    (s.taken q counter).est = s.est ∧ (s.taken q counter).lp = s.lp ∧ (s.taken q counter).ring = s.ring ∧
    (s.taken q counter).can = s.can ∧ (s.taken q counter).px = s.px ∧ (s.taken q counter).flt = s.flt ∧
    (s.taken q counter).sent = s.sent ∧ (s.taken q counter).rcd = s.rcd ∧
    (s.taken q counter).mgmt.restartDue = s.mgmt.restartDue := by
  simp [State.taken, State.pxAccept]

end Sys2Proof.Machine
end

