-- ==== Sys2Proof/Laws/Faults.lean ====
section
/-! SUPPORT. What a raising does to the list of pending sources (R584, R590): said once, for every row that raises a source. -/
namespace Sys2Proof.Machine

/-! Which sources are pending (R584, R590). -/

@[simp] theorem FaultSt.move_pending (f : FaultSt) (src sev time : Nat) : (f.move src sev time).pending = f.pending := by
  unfold FaultSt.move
  (repeat' split) <;> rfl

@[simp] theorem FaultSt.carry_pending (f : FaultSt) (src sev time : Nat) : (f.carry src sev time).pending = f.pending := by
  unfold FaultSt.carry
  split <;> rfl

theorem mem_setInsert (l : List Nat) (k j : Nat) : j ∈ setInsert l k ↔ j = k ∨ j ∈ l := by
  unfold setInsert
  split
  · rename_i h
    constructor
    · exact Or.inr
    · rintro (rfl | h') <;> assumption
  · simp [or_comm]

theorem mem_setErase (l : List Nat) (k j : Nat) : j ∈ setErase l k ↔ j ∈ l ∧ j ≠ k := by
  simp [setErase]

@[simp] theorem State.raiseBooks_pending (s : State) (src sev : Nat) (mark : Bool) :
    (s.raiseBooks src sev mark).flt.pending = setInsert s.flt.pending src := by
  unfold State.raiseBooks
  dsimp only
  split <;> simp

@[simp] theorem State.leaveHead_pending (s : State) (r : Role) : (s.leaveHead r).flt.pending = s.flt.pending := rfl

@[simp] theorem State.enterSafe_pending (s : State) : s.enterSafe.flt.pending = s.flt.pending := by
  unfold State.enterSafe
  split
  · rfl
  · split <;> simp [apply_ite FaultSt.pending]

@[simp] theorem State.laneRestart_pending (s : State) : s.laneRestart.flt.pending = s.flt.pending := by
  simp [State.laneRestart]

/-- What a raising leaves pending: everything before it, and the source itself where it was not ACTIVE and is not reserved. -/
theorem State.raiseWith_pending (s : State) (src : Nat) (mark : Bool) :
    (s.raiseWith src mark).flt.pending =
      if src ∈ s.flt.active ∨ reservedSource src = true then s.flt.pending else setInsert s.flt.pending src := by
  by_cases h : src ∈ s.flt.active ∨ reservedSource src = true
  · unfold State.raiseWith
    simp [h]
  · unfold State.raiseWith
    simp only [h, if_false]
    simp [apply_ite FaultSt.pending, h]

theorem State.raise_pending (s : State) (src : Nat) (h : src ∉ s.flt.active) (hr : reservedSource src = false) :
    src ∈ (s.raise src).flt.pending := by
  simp [State.raise, State.raiseWith_pending, h, hr, mem_setInsert]

theorem State.raiseEvent_pending (s : State) (src : Nat) (h : src ∉ s.flt.active) (hr : reservedSource src = false) :
    src ∈ (s.raiseEvent src).flt.pending := by
  simp [State.raiseEvent, State.raiseWith_pending, h, hr, mem_setInsert]

@[simp] theorem State.lower_active (s : State) (src : Nat) : src ∉ (s.lower src).flt.active := by
  simp [State.lower, mem_setErase]

end Sys2Proof.Machine
end

