-- ==== Sys2Proof/Laws/Cells.lean ====
section
/-! SUPPORT. Which cells of the dictionary the shared operations may change: a cell of no listed object stays (R25, R537). -/
set_option maxRecDepth 4000
namespace Sys2Proof.Machine

@[simp] theorem outside_nil (k : Nat) : Outside [] k := by simp [Outside]

@[simp] theorem outside_cons (o : ObjDef) (l : List ObjDef) (k : Nat) : Outside (o :: l) k ↔ o.free k = true ∧ Outside l k := by
  simp [Outside]

@[simp] theorem outside_append (l m : List ObjDef) (k : Nat) : Outside (l ++ m) k ↔ Outside l k ∧ Outside m k := by
  simp [Outside, or_imp, forall_and]

theorem ObjDef.free_key (o : ObjDef) (k i j : Nat) (h : o.free k = true) (hi : o.has i j = true) : k ≠ o.key i j := by
  simp only [ObjDef.free, decide_eq_true_eq] at h
  simp only [ObjDef.has, Bool.and_eq_true, decide_eq_true_eq] at hi
  exact fun e => h i hi.1 j hi.2 e.symm

@[simp] theorem State.setVal_cell (s : State) (o : ObjDef) (v : Val) (i j k : Nat) (d : Val) (h : o.free k = true) :
    KMap.get (s.setVal o v i j).dict k d = KMap.get s.dict k d := by
  unfold State.setVal
  split
  · rename_i hi; exact Dict.get_write_other _ _ _ _ _ _ _ (o.free_key k i j h hi)
  · rfl

@[simp] theorem State.setNat_cell (s : State) (o : ObjDef) (v i j k : Nat) (d : Val) (h : o.free k = true) :
    KMap.get (s.setNat o v i j).dict k d = KMap.get s.dict k d := by simp [State.setNat, h]

@[simp] theorem State.setInt_cell (s : State) (o : ObjDef) (v : Int) (i j k : Nat) (d : Val) (h : o.free k = true) :
    KMap.get (s.setInt o v i j).dict k d = KMap.get s.dict k d := by simp [State.setInt, h]

@[simp] theorem State.setRat_cell (s : State) (o : ObjDef) (v : Rat) (i j k : Nat) (d : Val) (h : o.free k = true) :
    KMap.get (s.setRat o v i j).dict k d = KMap.get s.dict k d := by
  unfold State.setRat
  split <;> simp [h]

@[simp] theorem State.setBytes_cell (s : State) (o : ObjDef) (v : Bytes) (i j k : Nat) (d : Val) (h : o.free k = true) :
    KMap.get (s.setBytes o v i j).dict k d = KMap.get s.dict k d := by simp [State.setBytes, h]

@[simp] theorem State.bump_cell (s : State) (o : ObjDef) (i j k : Nat) (d : Val) (h : o.free k = true) :
    KMap.get (s.bump o i j).dict k d = KMap.get s.dict k d := by simp [State.bump, h]

@[simp] theorem State.bumpBy_cell (s : State) (o : ObjDef) (n i j k : Nat) (d : Val) (h : o.free k = true) :
    KMap.get (s.bumpBy o n i j).dict k d = KMap.get s.dict k d := by simp [State.bumpBy, h]

@[simp] theorem State.bumpSat_cell (s : State) (o : ObjDef) (i j k : Nat) (d : Val) (h : o.free k = true) :
    KMap.get (s.bumpSat o i j).dict k d = KMap.get s.dict k d := by simp [State.bumpSat, h]

@[simp] theorem KMap.get_ite {α : Type} (c : Prop) [Decidable c] (a b : KMap α) (k : Nat) (d : α) :
    KMap.get (if c then a else b) k d = if c then KMap.get a k d else KMap.get b k d := by split <;> rfl

@[simp] theorem State.cell_foldl {α : Type} (g : State → α → State) (k : Nat) (d : Val)
    (h : ∀ s x, KMap.get (g s x).dict k d = KMap.get s.dict k d) (l : List α) (s : State) :
    KMap.get (l.foldl g s).dict k d = KMap.get s.dict k d := by
  induction l generalizing s with
  | nil => rfl
  | cons a r ih => simp [ih, h]

end Sys2Proof.Machine
namespace Sys2Proof.Machine
@[simp] theorem State.launch_cell (s : State) (p : Port) (h : SlotHdr) (payload : Bytes) (own : Bool) (stomp : Bool) (k : Nat) (d : Val) (hs : Outside [Obj.queueDrops, Obj.wrapDrops] k) :
    KMap.get (State.launch s p h payload own stomp).dict k d = KMap.get s.dict k d := by
  simp only [outside_cons, outside_nil, and_true] at hs
  simp only [State.launch]
  (repeat' split) <;> simp [hs]

@[simp] theorem State.route_cell (s : State) (h : SlotHdr) (payload : Bytes) (own : Bool) (stomp : Bool) (k : Nat) (d : Val) (hs : Outside [Obj.queueDrops, Obj.wrapDrops] k) :
    KMap.get (State.route s h payload own stomp).dict k d = KMap.get s.dict k d := by
  simp only [outside_cons, outside_nil, and_true] at hs
  simp only [State.route]
  (repeat' split) <;> simp [hs]

@[simp] theorem State.sendOne_cell (s : State) (cls typ seq aux : Nat) (d : Dest) (payload : Bytes) (k : Nat) (d₀ : Val) (hs : Outside [Obj.queueDrops, Obj.wrapDrops] k) :
    KMap.get (State.sendOne s cls typ seq aux d payload).dict k d₀ = KMap.get s.dict k d₀ := by
  simp only [outside_cons, outside_nil, and_true] at hs
  unfold State.sendOne
  (repeat' split) <;> simp [hs]

@[simp] theorem State.sendSlot_cell (s : State) (cls typ aux : Nat) (d : Dest) (payload : Bytes) (k : Nat) (d₀ : Val) (hs : Outside [Obj.queueDrops, Obj.wrapDrops] k) :
    KMap.get (State.sendSlot s cls typ aux d payload).dict k d₀ = KMap.get s.dict k d₀ := by
  simp only [outside_cons, outside_nil, and_true] at hs
  simp [State.sendSlot, hs]

@[simp] theorem State.sendSegs_cell (s : State) (cls typ : Nat) (d : Dest) (segs : List Bytes) (k : Nat) (d₀ : Val) (hs : Outside [Obj.queueDrops, Obj.wrapDrops] k) :
    KMap.get (State.sendSegs s cls typ d segs).dict k d₀ = KMap.get s.dict k d₀ := by
  simp only [outside_cons, outside_nil, and_true] at hs
  simp [State.sendSegs, hs]

@[simp] theorem State.queueFrame_cell (s : State) (b : Bus) (f : TxFrame) (k : Nat) (d : Val) (hs : Outside [Obj.txDiscarded] k) :
    KMap.get (State.queueFrame s b f).dict k d = KMap.get s.dict k d := by
  simp only [outside_cons, outside_nil, and_true] at hs
  simp only [State.queueFrame]
  (repeat' split) <;> simp [hs]

@[simp] theorem State.sendFrame_cell (s : State) (b : Bus) (id : Nat) (kind : Nat) (data : Bytes) (k : Nat) (d : Val) (hs : Outside [Obj.txDiscarded] k) :
    KMap.get (State.sendFrame s b id kind data).dict k d = KMap.get s.dict k d := by
  simp only [outside_cons, outside_nil, and_true] at hs
  unfold State.sendFrame
  (repeat' split) <;> simp [hs]

@[simp] theorem State.sendBoth_cell (s : State) (id kind : Nat) (data : Bytes) (k : Nat) (d : Val) (hs : Outside [Obj.txDiscarded] k) :
    KMap.get (State.sendBoth s id kind data).dict k d = KMap.get s.dict k d := by
  simp only [outside_cons, outside_nil, and_true] at hs
  simp only [State.sendBoth]
  (repeat' split) <;> simp [hs]

@[simp] theorem State.sendPre_cell (s : State) (typ : Nat) (data : Bytes) (k : Nat) (d : Val) (hs : Outside [Obj.txDiscarded] k) :
    KMap.get (State.sendPre s typ data).dict k d = KMap.get s.dict k d := by
  simp only [outside_cons, outside_nil, and_true] at hs
  unfold State.sendPre
  (repeat' split) <;> simp [hs]

@[simp] theorem State.sendNotice_cell (s : State) (typ code detail time : Nat) (k : Nat) (d : Val) (hs : Outside [Obj.queueDrops,
      Obj.txDiscarded, Obj.wrapDrops] k) :
    KMap.get (State.sendNotice s typ code detail time).dict k d = KMap.get s.dict k d := by
  simp only [outside_cons, outside_nil, and_true] at hs
  unfold State.sendNotice
  (repeat' split) <;> simp [hs]

@[simp] theorem State.voterAbdicate_cell (s : State) (k : Nat) (d : Val) (hs : Outside [Obj.queueDrops, Obj.txDiscarded, Obj.wrapDrops] k) :
    KMap.get (State.voterAbdicate s).dict k d = KMap.get s.dict k d := by
  simp only [outside_cons, outside_nil, and_true] at hs
  simp only [State.voterAbdicate]
  (repeat' split) <;> simp [hs]

@[simp] theorem State.episode_cell (s : State) (kind code detail : Nat) (value : Int) (k : Nat) (d : Val) (hs : Outside [Obj.episodeNewest,
      Obj.recSeq] k) :
    KMap.get (State.episode s kind code detail value).dict k d = KMap.get s.dict k d := by
  simp only [outside_cons, outside_nil, and_true] at hs
  simp only [State.episode]
  (repeat' split) <;> simp [hs]

@[simp] theorem State.stopCal_cell (s : State) (k : Nat) (d : Val) (hs : Outside [Obj.calChannel, Obj.calState] k) :
    KMap.get (State.stopCal s).dict k d = KMap.get s.dict k d := by
  simp only [outside_cons, outside_nil, and_true] at hs
  unfold State.stopCal
  (repeat' split) <;> simp [hs]

@[simp] theorem State.enterMode_cell (s : State) (m : Mode) (cause : Nat) (k : Nat) (d : Val) (hs : Outside [Obj.calChannel, Obj.calState,
      Obj.episodeNewest, Obj.maintPermit, Obj.modeCause, Obj.recSeq] k) :
    KMap.get (State.enterMode s m cause).dict k d = KMap.get s.dict k d := by
  simp only [outside_cons, outside_nil, and_true] at hs
  simp only [State.enterMode]
  (repeat' split) <;> simp [hs]

@[simp] theorem State.captureTrigger_cell (s : State) (code node detail t : Nat) (own : Bool) (k : Nat) (d : Val) (hs : Outside [Obj.captureMerged, Obj.captureRefused, Obj.queueDrops, Obj.txDiscarded, Obj.wrapDrops] k) :
    KMap.get (State.captureTrigger s code node detail t own).dict k d = KMap.get s.dict k d := by
  simp only [outside_cons, outside_nil, and_true] at hs
  simp only [State.captureTrigger]
  (repeat' split) <;> simp [hs]

@[simp] theorem State.tripNotice_cell (s : State) (cause : Nat) (k : Nat) (d : Val) (hs : Outside [Obj.captureMerged, Obj.captureRefused,
      Obj.episodeNewest, Obj.queueDrops, Obj.recSeq, Obj.txDiscarded, Obj.wrapDrops] k) :
    KMap.get (State.tripNotice s cause).dict k d = KMap.get s.dict k d := by
  simp only [outside_cons, outside_nil, and_true] at hs
  simp only [State.tripNotice]
  (repeat' split) <;> simp [hs]

@[simp] theorem State.enterSafe_cell (s : State) (k : Nat) (d : Val) (hs : Outside [Obj.calChannel, Obj.calState, Obj.captureMerged,
      Obj.captureRefused, Obj.episodeNewest, Obj.maintPermit, Obj.modeCause, Obj.queueDrops, Obj.recSeq, Obj.txDiscarded, Obj.wrapDrops] k) :
    KMap.get (State.enterSafe s).dict k d = KMap.get s.dict k d := by
  simp only [outside_cons, outside_nil, and_true] at hs
  simp only [State.enterSafe]
  (repeat' split) <;> simp [hs]

@[simp] theorem State.raiseBooks_cell (s : State) (src sev : Nat) (mark : Bool) (k : Nat) (d : Val) (hs : Outside [Obj.episodeNewest,
      Obj.faultRaises, Obj.raiseCount, Obj.recSeq] k) :
    KMap.get (State.raiseBooks s src sev mark).dict k d = KMap.get s.dict k d := by
  simp only [outside_cons, outside_nil, and_true] at hs
  unfold State.raiseBooks
  (repeat' split) <;> simp [hs]

@[simp] theorem State.laneRestart_cell (s : State) (k : Nat) (d : Val) (hs : Outside [Obj.calChannel, Obj.calState] k) :
    KMap.get (State.laneRestart s).dict k d = KMap.get s.dict k d := by
  simp only [outside_cons, outside_nil, and_true] at hs
  simp [State.laneRestart, hs]

@[simp] theorem State.raiseWith_cell (s : State) (src : Nat) (mark : Bool) (k : Nat) (d : Val) (hs : Outside [Obj.calChannel, Obj.calState,
      Obj.captureMerged, Obj.captureRefused, Obj.episodeNewest, Obj.faultRaises, Obj.maintPermit, Obj.modeCause, Obj.queueDrops, Obj.raiseCount,
      Obj.recSeq, Obj.txDiscarded, Obj.wrapDrops] k) :
    KMap.get (State.raiseWith s src mark).dict k d = KMap.get s.dict k d := by
  simp only [outside_cons, outside_nil, and_true] at hs
  simp only [State.raiseWith]
  (repeat' split) <;> simp [hs]

@[simp] theorem State.raise_cell (s : State) (src : Nat) (k : Nat) (d : Val) (hs : Outside [Obj.calChannel, Obj.calState, Obj.captureMerged,
      Obj.captureRefused, Obj.episodeNewest, Obj.faultRaises, Obj.maintPermit, Obj.modeCause, Obj.queueDrops, Obj.raiseCount, Obj.recSeq,
      Obj.txDiscarded, Obj.wrapDrops] k) :
    KMap.get (State.raise s src).dict k d = KMap.get s.dict k d := by
  simp only [outside_cons, outside_nil, and_true] at hs
  simp [State.raise, hs]

@[simp] theorem State.raiseEvent_cell (s : State) (src : Nat) (k : Nat) (d : Val) (hs : Outside [Obj.calChannel, Obj.calState,
      Obj.captureMerged, Obj.captureRefused, Obj.episodeNewest, Obj.faultRaises, Obj.maintPermit, Obj.modeCause, Obj.queueDrops, Obj.raiseCount,
      Obj.recSeq, Obj.txDiscarded, Obj.wrapDrops] k) :
    KMap.get (State.raiseEvent s src).dict k d = KMap.get s.dict k d := by
  simp only [outside_cons, outside_nil, and_true] at hs
  simp [State.raiseEvent, hs]

@[simp] theorem State.follow_cell (s : State) (src : Nat) (c : Bool) (k : Nat) (d : Val) (hs : Outside [Obj.calChannel, Obj.calState,
      Obj.captureMerged, Obj.captureRefused, Obj.episodeNewest, Obj.faultRaises, Obj.maintPermit, Obj.modeCause, Obj.queueDrops, Obj.raiseCount,
      Obj.recSeq, Obj.txDiscarded, Obj.wrapDrops] k) :
    KMap.get (State.follow s src c).dict k d = KMap.get s.dict k d := by
  simp only [outside_cons, outside_nil, and_true] at hs
  unfold State.follow
  (repeat' split) <;> simp [hs]

@[simp] theorem State.eligibilityCheck_cell (s : State) (k : Nat) (d : Val) (hs : Outside [Obj.calChannel, Obj.calState, Obj.captureMerged,
      Obj.captureRefused, Obj.episodeNewest, Obj.faultRaises, Obj.maintPermit, Obj.modeCause, Obj.queueDrops, Obj.raiseCount, Obj.recSeq,
      Obj.txDiscarded, Obj.wrapDrops] k) :
    KMap.get (State.eligibilityCheck s).dict k d = KMap.get s.dict k d := by
  simp only [outside_cons, outside_nil, and_true] at hs
  simp [State.eligibilityCheck, hs]

@[simp] theorem State.raiseBreak_cell (s : State) (src : Nat) (mark : Bool) (k : Nat) (d : Val) (hs : Outside [Obj.calChannel, Obj.calState,
      Obj.captureMerged, Obj.captureRefused, Obj.episodeNewest, Obj.faultRaises, Obj.maintPermit, Obj.modeCause, Obj.queueDrops, Obj.raiseCount,
      Obj.recSeq, Obj.txDiscarded, Obj.wrapDrops] k) :
    KMap.get (State.raiseBreak s src mark).dict k d = KMap.get s.dict k d := by
  simp only [outside_cons, outside_nil, and_true] at hs
  simp only [State.raiseBreak]
  (repeat' split) <;> simp [hs]

@[simp] theorem State.pxSend_cell (s : State) (path : PxPath) (node : Nat) (origin : Int) (typ : Nat) (frame : Bytes) (k : Nat) (d : Val) (hs : Outside [Obj.queueDrops, Obj.txDiscarded, Obj.wrapDrops] k) :
    KMap.get (State.pxSend s path node origin typ frame).dict k d = KMap.get s.dict k d := by
  simp only [outside_cons, outside_nil, and_true] at hs
  unfold State.pxSend
  (repeat' split) <;> simp [hs]

@[simp] theorem State.pxAnswer_cell (s : State) (q : PxReq) (service code index sub ty counter : Nat) (data : Bytes) (k : Nat) (d : Val) (hs : Outside [Obj.pxErrors, Obj.pxLastError, Obj.queueDrops, Obj.txDiscarded, Obj.wrapDrops] k) :
    KMap.get (State.pxAnswer s q service code index sub ty counter data).dict k d = KMap.get s.dict k d := by
  simp only [outside_cons, outside_nil, and_true] at hs
  unfold State.pxAnswer
  (repeat' split) <;> simp [hs]

@[simp] theorem State.authFailure_cell (s : State) (q : PxReq) (k : Nat) (d : Val) (hs : Outside [Obj.authFailures, Obj.calChannel,
      Obj.calState, Obj.captureMerged, Obj.captureRefused, Obj.episodeNewest, Obj.faultRaises, Obj.maintPermit, Obj.modeCause, Obj.queueDrops,
      Obj.raiseCount, Obj.recSeq, Obj.txDiscarded, Obj.wrapDrops] k) :
    KMap.get (State.authFailure s q).dict k d = KMap.get s.dict k d := by
  simp only [outside_cons, outside_nil, and_true] at hs
  simp only [State.authFailure]
  (repeat' split) <;> simp [hs]

@[simp] theorem State.changeLog_cell (s : State) (q : PxReq) (index sub ty role result : Nat) (old new : Bytes) (k : Nat) (d : Val) (hs : Outside [Obj.changeLogNewest] k) :
    KMap.get (State.changeLog s q index sub ty role result old new).dict k d = KMap.get s.dict k d := by
  simp only [outside_cons, outside_nil, and_true] at hs
  simp only [State.changeLog]
  (repeat' split) <;> simp [hs]

@[simp] theorem State.afterAnswer_cell (s : State) (k : Nat) (d : Val) (hs : Outside [Obj.calChannel, Obj.calState] k) :
    KMap.get (State.afterAnswer s).dict k d = KMap.get s.dict k d := by
  simp only [outside_cons, outside_nil, and_true] at hs
  simp only [State.afterAnswer]
  (repeat' split) <;> simp [hs]

@[simp] theorem State.pxFinish_cell (s : State) (q : PxReq) (o : ObjDef) (i j service role counter code : Nat) (old new : Bytes) (k : Nat) (d : Val) (hs : Outside [Obj.calChannel, Obj.calState, Obj.changeLogNewest, Obj.pxErrors, Obj.pxLastError, Obj.queueDrops, Obj.txDiscarded, Obj.wrapDrops] k) :
    KMap.get (State.pxFinish s q o i j service role counter code old new).dict k d = KMap.get s.dict k d := by
  simp only [outside_cons, outside_nil, and_true] at hs
  simp [State.pxFinish, hs]

@[simp] theorem State.pxMissing_cell (s : State) (q : PxReq) (service index sub ty : Nat) (signed : Bytes) (k : Nat) (d : Val) (hs : Outside [Obj.authFailures, Obj.calChannel, Obj.calState, Obj.captureMerged, Obj.captureRefused, Obj.episodeNewest, Obj.faultRaises, Obj.maintPermit, Obj.modeCause, Obj.pxDuplicates, Obj.pxErrors, Obj.pxLastError, Obj.pxRequests, Obj.queueDrops, Obj.raiseCount, Obj.recSeq, Obj.txDiscarded, Obj.wrapDrops] k) :
    KMap.get (State.pxMissing s q service index sub ty signed).dict k d = KMap.get s.dict k d := by
  simp only [outside_cons, outside_nil, and_true] at hs
  unfold State.pxMissing
  (repeat' split) <;> simp [hs]

@[simp] theorem State.arrive_cell (s : State) (h : SlotHdr) (payload : Bytes) (k : Nat) (d : Val) (hs : Outside [Obj.queueDrops, Obj.wrapDrops] k) :
    KMap.get (State.arrive s h payload).1.dict k d = KMap.get s.dict k d := by
  simp only [outside_cons, outside_nil, and_true] at hs
  unfold State.arrive
  (repeat' split) <;> simp [hs]

@[simp] theorem State.ringRx_cell (s : State) (rx : SlotRx) (payload : Bytes) (k : Nat) (d : Val) (hs : Outside [Obj.queueDrops, Obj.wrapDrops] k) :
    KMap.get (State.ringRx s rx payload).1.dict k d = KMap.get s.dict k d := by
  simp only [outside_cons, outside_nil, and_true] at hs
  simp only [State.ringRx]
  (repeat' split) <;> simp [hs]

@[simp] theorem State.idConflict_cell (s : State) (k : Nat) (d : Val) (hs : Outside [Obj.calChannel, Obj.calState, Obj.captureMerged,
      Obj.captureRefused, Obj.episodeNewest, Obj.faultRaises, Obj.maintPermit, Obj.modeCause, Obj.nodeIdConflicts, Obj.queueDrops,
      Obj.raiseCount, Obj.recSeq, Obj.txDiscarded, Obj.wrapDrops] k) :
    KMap.get (State.idConflict s).dict k d = KMap.get s.dict k d := by
  simp only [outside_cons, outside_nil, and_true] at hs
  simp [State.idConflict, hs]

@[simp] theorem State.noticeRx_cell (s : State) (via : NoticeVia) (typ : Nat) (n : Notice) (k : Nat) (d : Val) (hs : Outside [Obj.calChannel,
      Obj.calState, Obj.captureMerged, Obj.captureRefused, Obj.episodeNewest, Obj.faultRaises, Obj.maintPermit, Obj.modeCause,
      Obj.nodeIdConflicts, Obj.queueDrops, Obj.raiseCount, Obj.recSeq, Obj.txDiscarded, Obj.wrapDrops] k) :
    KMap.get (State.noticeRx s via typ n).1.dict k d = KMap.get s.dict k d := by
  simp only [outside_cons, outside_nil, and_true] at hs
  simp only [State.noticeRx]
  (repeat' split) <;> simp [hs]

@[simp] theorem State.setDesc_cell (s : State) (d : Descriptor) (k : Nat) (d₀ : Val) (hs : Outside [Obj.descFlags, Obj.descHeadPack,
      Obj.descModuleCount, Obj.descSeq, Obj.descStandbyPack, Obj.descStringId] k) :
    KMap.get (State.setDesc s d).dict k d₀ = KMap.get s.dict k d₀ := by
  simp only [outside_cons, outside_nil, and_true] at hs
  simp [State.setDesc, hs]

@[simp] theorem State.distribute_cell (s : State) (index sub : Nat) (d : Bytes) (k : Nat) (d₀ : Val) (hs : Outside [Obj.queueDrops,
      Obj.wrapDrops] k) :
    KMap.get (State.distribute s index sub d).dict k d₀ = KMap.get s.dict k d₀ := by
  simp only [outside_cons, outside_nil, and_true] at hs
  simp [State.distribute, hs]

@[simp] theorem State.seqSpent_cell (s : State) (k : Nat) (d : Val) (hs : Outside [Obj.calChannel, Obj.calState, Obj.captureMerged,
      Obj.captureRefused, Obj.episodeNewest, Obj.faultRaises, Obj.maintPermit, Obj.modeCause, Obj.queueDrops, Obj.raiseCount, Obj.recSeq,
      Obj.txDiscarded, Obj.wrapDrops] k) :
    KMap.get (State.seqSpent s).dict k d = KMap.get s.dict k d := by
  simp only [outside_cons, outside_nil, and_true] at hs
  simp only [State.seqSpent]
  (repeat' split) <;> simp [hs]

@[simp] theorem State.rewriteDescriptor_cell (s : State) (d : Descriptor) (k : Nat) (d₀ : Val) (hs : Outside [Obj.calChannel, Obj.calState,
      Obj.captureMerged, Obj.captureRefused, Obj.descFlags, Obj.descHeadPack, Obj.descModuleCount, Obj.descSeq, Obj.descStandbyPack,
      Obj.descStringId, Obj.episodeNewest, Obj.faultRaises, Obj.maintPermit, Obj.modeCause, Obj.queueDrops, Obj.raiseCount, Obj.recSeq,
      Obj.txDiscarded, Obj.wrapDrops] k) :
    KMap.get (State.rewriteDescriptor s d).dict k d₀ = KMap.get s.dict k d₀ := by
  simp only [outside_cons, outside_nil, and_true] at hs
  unfold State.rewriteDescriptor
  (repeat' split) <;> simp [hs]

@[simp] theorem State.sendLimit_cell (s : State) (chg dis : Rat) (k : Nat) (d : Val) (hs : Outside [Obj.chargeLimit, Obj.dischargeLimit,
      Obj.queueDrops, Obj.txDiscarded, Obj.wrapDrops] k) :
    KMap.get (State.sendLimit s chg dis).dict k d = KMap.get s.dict k d := by
  simp only [outside_cons, outside_nil, and_true] at hs
  simp [State.sendLimit, hs]

@[simp] theorem State.promptOpen_cell (s : State) (k : Nat) (d : Val) (hs : Outside [Obj.chargeLimit, Obj.dischargeLimit, Obj.queueDrops,
      Obj.txDiscarded, Obj.wrapDrops] k) :
    KMap.get (State.promptOpen s).dict k d = KMap.get s.dict k d := by
  simp only [outside_cons, outside_nil, and_true] at hs
  unfold State.promptOpen
  (repeat' split) <;> simp [hs]

@[simp] theorem State.orderlyOpen_cell (s : State) (k : Nat) (d : Val) (hs : Outside [Obj.chargeLimit, Obj.dischargeLimit, Obj.queueDrops,
      Obj.txDiscarded, Obj.wrapDrops] k) :
    KMap.get (State.orderlyOpen s).dict k d = KMap.get s.dict k d := by
  simp only [outside_cons, outside_nil, and_true] at hs
  unfold State.orderlyOpen
  (repeat' split) <;> simp [hs]

@[simp] theorem State.sendCensus_cell (s : State) (no : Nat) (k : Nat) (d : Val) (hs : Outside [Obj.queueDrops, Obj.wrapDrops] k) :
    KMap.get (State.sendCensus s no).dict k d = KMap.get s.dict k d := by
  simp only [outside_cons, outside_nil, and_true] at hs
  simp only [State.sendCensus]
  (repeat' split) <;> simp [hs]

@[simp] theorem State.startCensus_cell (s : State) (k : Nat) (d : Val) (hs : Outside [Obj.queueDrops, Obj.wrapDrops] k) :
    KMap.get (State.startCensus s).dict k d = KMap.get s.dict k d := by
  simp only [outside_cons, outside_nil, and_true] at hs
  unfold State.startCensus
  (repeat' split) <;> simp [hs]

@[simp] theorem State.takeHead_cell (s : State) (basis : Nat) (k : Nat) (d : Val) (hs : Outside [Obj.episodeNewest, Obj.headBasis, Obj.isoAge,
      Obj.recSeq] k) :
    KMap.get (State.takeHead s basis).dict k d = KMap.get s.dict k d := by
  simp only [outside_cons, outside_nil, and_true] at hs
  simp [State.takeHead, hs]

@[simp] theorem State.restoreCkpt_cell (s : State) (k : Nat) (d : Val) (hs : Outside [Obj.balEnable, Obj.chargeLimit, Obj.currentInUse,
      Obj.descFlags, Obj.descHeadPack, Obj.descModuleCount, Obj.descSeq, Obj.descStandbyPack, Obj.descStringId, Obj.dischargeLimit, Obj.isoAge,
      Obj.isoRn, Obj.isoRp, Obj.membershipGen, Obj.tripCause, Obj.tripNode] k) :
    KMap.get (State.restoreCkpt s).dict k d = KMap.get s.dict k d := by
  simp only [outside_cons, outside_nil, and_true] at hs
  simp only [State.restoreCkpt]
  (repeat' split) <;> simp [hs]

@[simp] theorem State.sendHeartbeat_cell (s : State) (k : Nat) (d : Val) (hs : Outside [Obj.queueDrops, Obj.txDiscarded, Obj.wrapDrops] k) :
    KMap.get (State.sendHeartbeat s).dict k d = KMap.get s.dict k d := by
  simp only [outside_cons, outside_nil, and_true] at hs
  simp [State.sendHeartbeat, hs]

@[simp] theorem State.settle_cell (s : State) (cells : List Nat) (precOnly : Bool) (since : Nat) (k : Nat) (d : Val) (hs : Outside [Obj.settleEvents] k) :
    KMap.get (State.settle s cells precOnly since).dict k d = KMap.get s.dict k d := by
  simp only [outside_cons, outside_nil, and_true] at hs
  simp [State.settle, hs]

@[simp] theorem State.discardWindow_cell (s : State) (start turn : Nat) (k : Nat) (d : Val) (hs : Outside [Obj.pawnSkips, Obj.settleEvents] k) :
    KMap.get (State.discardWindow s start turn).dict k d = KMap.get s.dict k d := by
  simp only [outside_cons, outside_nil, and_true] at hs
  simp [State.discardWindow, hs]

@[simp] theorem State.toLocal_cell (s : State) (k : Nat) (d : Val) (hs : Outside [Obj.pawnSkips, Obj.settleEvents] k) :
    KMap.get (State.toLocal s).dict k d = KMap.get s.dict k d := by
  simp only [outside_cons, outside_nil, and_true] at hs
  unfold State.toLocal
  (repeat' split) <;> simp [hs]

@[simp] theorem State.takeAnchor_cell (s : State) (at0 turn m : Nat) (k : Nat) (d : Val) (hs : Outside [Obj.pawnSkips, Obj.settleEvents,
      Obj.windowAnchorTime, Obj.windowAnchorTurn] k) :
    KMap.get (State.takeAnchor s at0 turn m).dict k d = KMap.get s.dict k d := by
  simp only [outside_cons, outside_nil, and_true] at hs
  unfold State.takeAnchor
  (repeat' split) <;> simp [hs]

@[simp] theorem State.takeSpinner_cell (s : State) (r : SpinnerRec) (k : Nat) (d : Val) (hs : Outside [Obj.pawnSkips, Obj.settleEvents,
      Obj.windowAnchorTime, Obj.windowAnchorTurn] k) :
    KMap.get (State.takeSpinner s r).dict k d = KMap.get s.dict k d := by
  simp only [outside_cons, outside_nil, and_true] at hs
  simp only [State.takeSpinner]
  (repeat' split) <;> simp [hs]

@[simp] theorem State.calBegin_cell (s : State) (n : Nat) (first : Bool) (k : Nat) (d : Val) (hs : Outside [Obj.calChannel, Obj.calDeferred] k) :
    KMap.get (State.calBegin s n first).dict k d = KMap.get s.dict k d := by
  simp only [outside_cons, outside_nil, and_true] at hs
  simp only [State.calBegin]
  (repeat' split) <;> simp [hs]

@[simp] theorem State.calResume_cell (s : State) (k : Nat) (d : Val) (hs : Outside [Obj.calChannel, Obj.calDeferred] k) :
    KMap.get (State.calResume s).dict k d = KMap.get s.dict k d := by
  simp only [outside_cons, outside_nil, and_true] at hs
  unfold State.calResume
  (repeat' split) <;> simp [hs]

@[simp] theorem State.timeRecord_cell (s : State) (p : Port) (origin corr : Nat) (wrapped : Bool) (k : Nat) (d : Val) (hs : Outside [Obj.timeOffset] k) :
    KMap.get (State.timeRecord s p origin corr wrapped).dict k d = KMap.get s.dict k d := by
  simp only [outside_cons, outside_nil, and_true] at hs
  simp only [State.timeRecord]
  (repeat' split) <;> simp [hs]

@[simp] theorem State.changeSource_cell (s : State) (k : Nat) (k₀ : Nat) (d : Val) (hs : Outside [Obj.pawnSkips, Obj.settleEvents,
      Obj.sourceChanges] k₀) :
    KMap.get (State.changeSource s k).dict k₀ d = KMap.get s.dict k₀ d := by
  simp only [outside_cons, outside_nil, and_true] at hs
  simp [State.changeSource, hs]

@[simp] theorem State.signalUser_cell (s : State) (u : AngleUser) (k : Nat) (d : Val) (hs : Outside [Obj.calChannel, Obj.calState,
      Obj.captureMerged, Obj.captureRefused, Obj.crossingStatus, Obj.episodeNewest, Obj.faultRaises, Obj.maintPermit, Obj.modeCause,
      Obj.queueDrops, Obj.raiseCount, Obj.recSeq, Obj.txDiscarded, Obj.wrapDrops] k) :
    KMap.get (State.signalUser s u).dict k d = KMap.get s.dict k d := by
  simp only [outside_cons, outside_nil, and_true] at hs
  simp only [State.signalUser]
  (repeat' split) <;> simp [hs]

@[simp] theorem State.owtAbandon_cell (s : State) (k : Nat) (d : Val) (hs : Outside [Obj.owtDeferred, Obj.settleEvents] k) :
    KMap.get (State.owtAbandon s).dict k d = KMap.get s.dict k d := by
  simp only [outside_cons, outside_nil, and_true] at hs
  simp only [State.owtAbandon]
  (repeat' split) <;> simp [hs]

@[simp] theorem State.deferLong_cell (s : State) (k : Nat) (d : Val) (hs : Outside [Obj.auxDeferred] k) :
    KMap.get (State.deferLong s).dict k d = KMap.get s.dict k d := by
  simp only [outside_cons, outside_nil, and_true] at hs
  simp [State.deferLong, hs]

@[simp] theorem State.auxStart_cell (s : State) (k : Nat) (d : Val) (hs : Outside [Obj.auxDeferred, Obj.owtDeferred, Obj.settleEvents] k) :
    KMap.get (State.auxStart s).dict k d = KMap.get s.dict k d := by
  simp only [outside_cons, outside_nil, and_true] at hs
  simp only [State.auxStart]
  (repeat' split) <;> simp [hs]

@[simp] theorem State.auxRequest_cell (s : State) (u : AuxUser) (todo : List AuxEntry) (k : Nat) (d : Val) (hs : Outside [Obj.auxDeferred,
      Obj.owtDeferred, Obj.settleEvents] k) :
    KMap.get (State.auxRequest s u todo).dict k d = KMap.get s.dict k d := by
  simp only [outside_cons, outside_nil, and_true] at hs
  unfold State.auxRequest
  (repeat' split) <;> simp [hs]

@[simp] theorem State.takeCurrent_cell (s : State) (grid : Nat) (words : List Nat) (k : Nat) (d : Val) (hs : Outside [Obj.missingCurrentWords] k) :
    KMap.get (State.takeCurrent s grid words).dict k d = KMap.get s.dict k d := by
  simp only [outside_cons, outside_nil, and_true] at hs
  simp only [State.takeCurrent]
  (repeat' split) <;> simp [hs]

@[simp] theorem State.correct_cell (s : State) (n : Nat) (c : EstCell) (target : Rat) (k : Nat) (d : Val) (hs : Outside [Obj.calChannel,
      Obj.calState, Obj.captureMerged, Obj.captureRefused, Obj.episodeNewest, Obj.faultRaises, Obj.maintPermit, Obj.modeCause, Obj.queueDrops,
      Obj.raiseCount, Obj.recSeq, Obj.socCorrection, Obj.socCorrections, Obj.txDiscarded, Obj.wrapDrops] k) :
    KMap.get (State.correct s n c target).dict k d = KMap.get s.dict k d := by
  simp only [outside_cons, outside_nil, and_true] at hs
  simp only [State.correct]
  (repeat' split) <;> simp [hs]

@[simp] theorem State.checkCell_cell (s : State) (n : Nat) (x : Rat × Rat × Rat × Rat × Rat) (k : Nat) (d : Val) (hs : Outside [Obj.calChannel,
      Obj.calState, Obj.captureMerged, Obj.captureRefused, Obj.episodeNewest, Obj.faultRaises, Obj.maintPermit, Obj.modeCause, Obj.queueDrops,
      Obj.raiseCount, Obj.recSeq, Obj.socCorrection, Obj.socCorrections, Obj.txDiscarded, Obj.wrapDrops] k) :
    KMap.get (State.checkCell s n x).dict k d = KMap.get s.dict k d := by
  simp only [outside_cons, outside_nil, and_true] at hs
  simp only [State.checkCell]
  (repeat' split) <;> simp [hs]

@[simp] theorem State.secondCell_cell (s : State) (n : Nat) (k : Nat) (d : Val) (hs : Outside [Obj.calChannel, Obj.calState, Obj.captureMerged,
      Obj.captureRefused, Obj.episodeNewest, Obj.faultRaises, Obj.maintPermit, Obj.modeCause, Obj.queueDrops, Obj.raiseCount, Obj.recSeq,
      Obj.socCorrection, Obj.socCorrections, Obj.txDiscarded, Obj.wrapDrops] k) :
    KMap.get (State.secondCell s n).dict k d = KMap.get s.dict k d := by
  simp only [outside_cons, outside_nil, and_true] at hs
  simp only [State.secondCell]
  (repeat' split) <;> simp [hs]

@[simp] theorem State.tryRecord_cell (s : State) (cap : Bool) (w : RecWrite) (k : Nat) (d : Val) (hs : Outside [Obj.capWriteSkips] k) :
    KMap.get (State.tryRecord s cap w).dict k d = KMap.get s.dict k d := by
  simp only [outside_cons, outside_nil, and_true] at hs
  unfold State.tryRecord
  (repeat' split) <;> simp [hs]

@[simp] theorem State.beginRecord_cell (s : State) (cap holdup : Bool) (k : Nat) (d : Val) (hs : Outside [Obj.capWriteSkips] k) :
    KMap.get (State.beginRecord s cap holdup).dict k d = KMap.get s.dict k d := by
  simp only [outside_cons, outside_nil, and_true] at hs
  simp [State.beginRecord, hs]

@[simp] theorem State.retryRecord_cell (s : State) (cap : Bool) (k : Nat) (d : Val) (hs : Outside [Obj.capWriteSkips] k) :
    KMap.get (State.retryRecord s cap).dict k d = KMap.get s.dict k d := by
  simp only [outside_cons, outside_nil, and_true] at hs
  unfold State.retryRecord
  (repeat' split) <;> simp [hs]

@[simp] theorem State.learn_cell (s : State) (n : Nat) (a b : RestPt) (k : Nat) (d : Val) (hs : Outside [Obj.calChannel, Obj.calState,
      Obj.captureMerged, Obj.captureRefused, Obj.episodeNewest, Obj.faultRaises, Obj.maintPermit, Obj.modeCause, Obj.queueDrops, Obj.raiseCount,
      Obj.recSeq, Obj.txDiscarded, Obj.wrapDrops] k) :
    KMap.get (State.learn s n a b).dict k d = KMap.get s.dict k d := by
  simp only [outside_cons, outside_nil, and_true] at hs
  simp only [State.learn]
  (repeat' split) <;> simp [hs]

@[simp] theorem State.sdCell_cell (s : State) (ocv : List Int) (n : Nat) (k : Nat) (d : Val) (hs : Outside [Obj.sdCurrent, Obj.sdUncertainty] k) :
    KMap.get (State.sdCell s ocv n).dict k d = KMap.get s.dict k d := by
  simp only [outside_cons, outside_nil, and_true] at hs
  simp [State.sdCell, hs]

@[simp] theorem State.sendEst_cell (s : State) (cap : Bool) (values : List Nat) (k : Nat) (d : Val) (hs : Outside [Obj.queueDrops, Obj.wrapDrops] k) :
    KMap.get (State.sendEst s cap values).dict k d = KMap.get s.dict k d := by
  simp only [outside_cons, outside_nil, and_true] at hs
  simp only [State.sendEst]
  (repeat' split) <;> simp [hs]

@[simp] theorem State.rangeCleared_cell (s : State) (current : Bool) (role session : Nat) (k : Nat) (d : Val) (hs : Outside [Obj.episodeNewest,
      Obj.recSeq] k) :
    KMap.get (State.rangeCleared s current role session).dict k d = KMap.get s.dict k d := by
  simp only [outside_cons, outside_nil, and_true] at hs
  simp [State.rangeCleared, hs]

@[simp] theorem State.closeDay_cell (s : State) (day : Nat) (calBad : Bool) (k : Nat) (d : Val) (hs : Outside [Obj.recSeq] k) :
    KMap.get (State.closeDay s day calBad).dict k d = KMap.get s.dict k d := by
  simp only [outside_cons, outside_nil, and_true] at hs
  simp [State.closeDay, hs]

@[simp] theorem State.captureClose_cell (s : State) (slot : Nat) (r : CapRec) (truncated : Bool) (k : Nat) (d : Val) (hs : Outside [Obj.calChannel, Obj.calDeferred, Obj.episodeNewest, Obj.recSeq] k) :
    KMap.get (State.captureClose s slot r truncated).dict k d = KMap.get s.dict k d := by
  simp only [outside_cons, outside_nil, and_true] at hs
  simp [State.captureClose, hs]

@[simp] theorem State.readoutPump_cell (s : State) (stream : Bytes) (id : Nat) (n : Nat) (k : Nat) (d : Val) (hs : Outside [Obj.queueDrops,
      Obj.wrapDrops] k) :
    KMap.get (State.readoutPump s stream id n).dict k d = KMap.get s.dict k d := by
  simp only [outside_cons, outside_nil, and_true] at hs
  induction n generalizing s with
  | zero => simp [State.readoutPump]
  | succ n ih =>
    unfold State.readoutPump
    split
    · simp
    · dsimp only
      split <;> simp [ih, hs]

@[simp] theorem State.jobWritten_cell (s : State) (j : PmJob) (k : Nat) (d : Val) (hs : Outside [Obj.changeLogPackCopied] k) :
    KMap.get (State.jobWritten s j).dict k d = KMap.get s.dict k d := by
  simp only [outside_cons, outside_nil, and_true] at hs
  unfold State.jobWritten
  (repeat' split) <;> simp [hs]

@[simp] theorem State.copyFailed_cell (s : State) (k : Nat) (d : Val) (hs : Outside [Obj.calChannel, Obj.calState, Obj.captureMerged,
      Obj.captureRefused, Obj.episodeNewest, Obj.faultRaises, Obj.maintPermit, Obj.modeCause, Obj.queueDrops, Obj.raiseCount, Obj.recSeq,
      Obj.txDiscarded, Obj.wrapDrops] k) :
    KMap.get (State.copyFailed s).dict k d = KMap.get s.dict k d := by
  simp only [outside_cons, outside_nil, and_true] at hs
  simp only [State.copyFailed]
  (repeat' split) <;> simp [hs]

@[simp] theorem State.publishCell_cell (s : State) (n word source instant : Nat) (k : Nat) (d : Val) (hs : Outside [Obj.cellSampleTime,
      Obj.cellSource, Obj.cellTag, Obj.cellVoltage] k) :
    KMap.get (State.publishCell s n word source instant).dict k d = KMap.get s.dict k d := by
  simp only [outside_cons, outside_nil, and_true] at hs
  simp [State.publishCell, hs]

@[simp] theorem State.owtBegin_cell (s : State) (x : OwtId) (retest extra : Bool) (k : Nat) (d : Val) (hs : Outside [Obj.auxDeferred,
      Obj.injOverrun, Obj.owtDeferred, Obj.settleEvents] k) :
    KMap.get (State.owtBegin s x retest extra).dict k d = KMap.get s.dict k d := by
  simp only [outside_cons, outside_nil, and_true] at hs
  unfold State.owtBegin
  (repeat' split) <;> simp [hs]

@[simp] theorem State.owtCurrentOn_cell (s : State) (x : OwtTest) (k : Nat) (d : Val) (hs : Outside [Obj.auxDeferred, Obj.owtDeferred,
      Obj.settleEvents] k) :
    KMap.get (State.owtCurrentOn s x).dict k d = KMap.get s.dict k d := by
  simp only [outside_cons, outside_nil, and_true] at hs
  simp [State.owtCurrentOn, hs]

@[simp] theorem State.owtResult_cell (s : State) (x : OwtTest) (failed : Bool) (k : Nat) (d : Val) (hs : Outside [Obj.calChannel, Obj.calState,
      Obj.captureMerged, Obj.captureRefused, Obj.episodeNewest, Obj.faultRaises, Obj.forcePathRes, Obj.maintPermit, Obj.modeCause,
      Obj.queueDrops, Obj.raiseCount, Obj.recSeq, Obj.senseWireRes, Obj.txDiscarded, Obj.wrapDrops] k) :
    KMap.get (State.owtResult s x failed).dict k d = KMap.get s.dict k d := by
  simp only [outside_cons, outside_nil, and_true] at hs
  unfold State.owtResult
  (repeat' split) <;> simp [hs]

@[simp] theorem State.senseVerdict_cell (s : State) (k : Nat) (k₀ : Nat) (d : Val) (hs : Outside [Obj.calChannel, Obj.calState,
      Obj.captureMerged, Obj.captureRefused, Obj.episodeNewest, Obj.faultRaises, Obj.maintPermit, Obj.modeCause, Obj.queueDrops, Obj.raiseCount,
      Obj.recSeq, Obj.txDiscarded, Obj.wrapDrops] k₀) :
    KMap.get (State.senseVerdict s k).dict k₀ d = KMap.get s.dict k₀ d := by
  simp only [outside_cons, outside_nil, and_true] at hs
  simp [State.senseVerdict, hs]

@[simp] theorem State.forceVerdict_cell (s : State) (k : Nat) (k₀ : Nat) (d : Val) (hs : Outside [Obj.calChannel, Obj.calState,
      Obj.captureMerged, Obj.captureRefused, Obj.episodeNewest, Obj.faultRaises, Obj.maintPermit, Obj.modeCause, Obj.queueDrops, Obj.raiseCount,
      Obj.recSeq, Obj.txDiscarded, Obj.wrapDrops] k₀) :
    KMap.get (State.forceVerdict s k).dict k₀ d = KMap.get s.dict k₀ d := by
  simp only [outside_cons, outside_nil, and_true] at hs
  simp only [State.forceVerdict]
  (repeat' split) <;> simp [hs]

@[simp] theorem State.forceOutcome_cell (s : State) (n : Nat) (failed : Bool) (k : Nat) (d : Val) (hs : Outside [Obj.calChannel, Obj.calState,
      Obj.captureMerged, Obj.captureRefused, Obj.episodeNewest, Obj.faultRaises, Obj.maintPermit, Obj.modeCause, Obj.queueDrops, Obj.raiseCount,
      Obj.recSeq, Obj.txDiscarded, Obj.wrapDrops] k) :
    KMap.get (State.forceOutcome s n failed).dict k d = KMap.get s.dict k d := by
  simp only [outside_cons, outside_nil, and_true] at hs
  simp only [State.forceOutcome]
  (repeat' split) <;> simp [hs]

@[simp] theorem State.roundComplete_cell (s : State) (k : Nat) (d : Val) (hs : Outside [Obj.owtRounds] k) :
    KMap.get (State.roundComplete s).dict k d = KMap.get s.dict k d := by
  simp only [outside_cons, outside_nil, and_true] at hs
  simp [State.roundComplete, hs]

@[simp] theorem State.roundAdvance_cell (s : State) (k : Nat) (d : Val) (hs : Outside [Obj.owtRounds] k) :
    KMap.get (State.roundAdvance s).dict k d = KMap.get s.dict k d := by
  simp only [outside_cons, outside_nil, and_true] at hs
  unfold State.roundAdvance
  (repeat' split) <;> simp [hs]

@[simp] theorem State.patternVerdict_cell (s : State) (p : Pattern) (k : Nat) (d : Val) (hs : Outside [Obj.calChannel, Obj.calState,
      Obj.captureMerged, Obj.captureRefused, Obj.episodeNewest, Obj.faultRaises, Obj.maintPermit, Obj.modeCause, Obj.queueDrops, Obj.raiseCount,
      Obj.recSeq, Obj.txDiscarded, Obj.wrapDrops] k) :
    KMap.get (State.patternVerdict s p).dict k d = KMap.get s.dict k d := by
  simp only [outside_cons, outside_nil, and_true] at hs
  simp only [State.patternVerdict]
  (repeat' split) <;> simp [hs]

@[simp] theorem State.extraNext_cell (s : State) (k : Nat) (d : Val) (hs : Outside [Obj.auxDeferred, Obj.calChannel, Obj.calState,
      Obj.captureMerged, Obj.captureRefused, Obj.episodeNewest, Obj.faultRaises, Obj.injOverrun, Obj.maintPermit, Obj.modeCause,
      Obj.owtDeferred, Obj.queueDrops, Obj.raiseCount, Obj.recSeq, Obj.settleEvents, Obj.txDiscarded, Obj.wrapDrops] k) :
    KMap.get (State.extraNext s).dict k d = KMap.get s.dict k d := by
  simp only [outside_cons, outside_nil, and_true] at hs
  simp only [State.extraNext]
  (repeat' split) <;> simp [hs]

@[simp] theorem State.owtEnd_cell (s : State) (x : OwtTest) (k : Nat) (d : Val) (hs : Outside [Obj.auxDeferred, Obj.calChannel, Obj.calDeferred,
      Obj.calState, Obj.captureMerged, Obj.captureRefused, Obj.episodeNewest, Obj.faultRaises, Obj.forcePathRes, Obj.injOverrun,
      Obj.maintPermit, Obj.modeCause, Obj.owtDeferred, Obj.owtRounds, Obj.queueDrops, Obj.raiseCount, Obj.recSeq, Obj.senseWireRes,
      Obj.settleEvents, Obj.txDiscarded, Obj.wrapDrops] k) :
    KMap.get (State.owtEnd s x).dict k d = KMap.get s.dict k d := by
  simp only [outside_cons, outside_nil, and_true] at hs
  simp only [State.owtEnd]
  (repeat' split) <;> simp [hs]

@[simp] theorem State.pawnSkip_cell (s : State) (d pos : Nat) (k : Nat) (d₀ : Val) (hs : Outside [Obj.pawnSkips] k) :
    KMap.get (State.pawnSkip s d pos).dict k d₀ = KMap.get s.dict k d₀ := by
  simp only [outside_cons, outside_nil, and_true] at hs
  simp [State.pawnSkip, hs]

@[simp] theorem State.pawnCompare_cell (s : State) (d : Nat) (e : PawnPend) (partner : Nat) (k : Nat) (d₀ : Val) (hs : Outside [Obj.calChannel,
      Obj.calState, Obj.captureMerged, Obj.captureRefused, Obj.episodeNewest, Obj.faultRaises, Obj.maintPermit, Obj.modeCause,
      Obj.pawnMismatches, Obj.pawnSkips, Obj.queueDrops, Obj.raiseCount, Obj.recSeq, Obj.txDiscarded, Obj.wrapDrops] k) :
    KMap.get (State.pawnCompare s d e partner).dict k d₀ = KMap.get s.dict k d₀ := by
  simp only [outside_cons, outside_nil, and_true] at hs
  simp only [State.pawnCompare]
  (repeat' split) <;> simp [hs]

@[simp] theorem State.seqTrigger_cell (s : State) (u : AuxUser) (todo : List AuxEntry) (o : ObjDef) (k : Nat) (d : Val)
    (ho : o.free k = true) (hs : Outside [Obj.auxDeferred, Obj.owtDeferred, Obj.settleEvents] k) :
    KMap.get (s.seqTrigger u todo o).dict k d = KMap.get s.dict k d := by
  simp only [outside_cons, outside_nil, and_true] at hs
  unfold State.seqTrigger
  (repeat' split) <;> simp [hs, ho]

@[simp] theorem State.auxSelfCheck_cell (s : State) (chan : Nat) (uv : Int) (k : Nat) (d : Val) (hs : Outside [Obj.calChannel, Obj.calState,
      Obj.captureMerged, Obj.captureRefused, Obj.episodeNewest, Obj.faultRaises, Obj.maintPermit, Obj.modeCause, Obj.owtDeferred,
      Obj.queueDrops, Obj.raiseCount, Obj.recSeq, Obj.settleEvents, Obj.txDiscarded, Obj.wrapDrops] k) :
    KMap.get (State.auxSelfCheck s chan uv).dict k d = KMap.get s.dict k d := by
  simp only [outside_cons, outside_nil, and_true] at hs
  simp only [State.auxSelfCheck]
  (repeat' split) <;> simp [hs]

@[simp] theorem State.routineResult_cell (s : State) (e : AuxEntry) (word instant : Nat) (k : Nat) (d : Val) (hs : Outside [Obj.calChannel,
      Obj.calState, Obj.captureMerged, Obj.captureRefused, Obj.cellSampleTime, Obj.cellSource, Obj.cellTag, Obj.cellVoltage, Obj.episodeNewest,
      Obj.faultRaises, Obj.maintPermit, Obj.modeCause, Obj.owtDeferred, Obj.queueDrops, Obj.raiseCount, Obj.recSeq, Obj.routineResult,
      Obj.settleEvents, Obj.stackVoltage, Obj.txDiscarded, Obj.wrapDrops] k) :
    KMap.get (State.routineResult s e word instant).dict k d = KMap.get s.dict k d := by
  simp only [outside_cons, outside_nil, and_true] at hs
  simp only [State.routineResult]
  (repeat' split) <;> simp [hs]

@[simp] theorem State.auxDeliver_cell (s : State) (u : AuxUser) (e : AuxEntry) (word instant : Nat) (more : Bool) (k : Nat) (d : Val) (hs : Outside [Obj.auxDeferred, Obj.calChannel, Obj.calDeferred, Obj.calState, Obj.captureMerged, Obj.captureRefused, Obj.cellSampleTime, Obj.cellSource, Obj.cellTag, Obj.cellVoltage, Obj.episodeNewest, Obj.faultRaises, Obj.forcePathRes, Obj.hostRegResult, Obj.injOverrun, Obj.injResult, Obj.maintPermit, Obj.modeCause, Obj.owtDeferred, Obj.owtRounds, Obj.pawnSkips, Obj.queueDrops, Obj.raiseCount, Obj.recSeq, Obj.routineResult, Obj.senseWireRes, Obj.settleEvents, Obj.stackVoltage, Obj.txDiscarded, Obj.wrapDrops] k) :
    KMap.get (State.auxDeliver s u e word instant more).dict k d = KMap.get s.dict k d := by
  simp only [outside_cons, outside_nil, and_true] at hs
  unfold State.auxDeliver
  (repeat' split) <;> simp [hs]

@[simp] theorem State.auxAccumulate_cell (s : State) (p : AuxPass) (e : AuxEntry) (code : Int) (short : Bool) (k : Nat) (d : Val) (hs : Outside [Obj.acqShort, Obj.auxDeferred, Obj.avgOverflow, Obj.blankTimeouts, Obj.calChannel, Obj.calDeferred, Obj.calState, Obj.captureMerged, Obj.captureRefused, Obj.cellSampleTime, Obj.cellSource, Obj.cellTag, Obj.cellVoltage, Obj.episodeNewest, Obj.faultRaises, Obj.forcePathRes, Obj.hostRegResult, Obj.injOverrun, Obj.injResult, Obj.maintPermit, Obj.modeCause, Obj.owtDeferred, Obj.owtRounds, Obj.pawnSkips, Obj.queueDrops, Obj.raiseCount, Obj.recSeq, Obj.routineResult, Obj.senseWireRes, Obj.settleEvents, Obj.stackVoltage, Obj.txDiscarded, Obj.wrapDrops] k) :
    KMap.get (State.auxAccumulate s p e code short).dict k d = KMap.get s.dict k d := by
  simp only [outside_cons, outside_nil, and_true] at hs
  simp only [State.auxAccumulate]
  (repeat' split) <;> simp [hs]

@[simp] theorem State.pawnRoundEnd_cell (s : State) (d : Nat) (k : Nat) (d₀ : Val) (hs : Outside [Obj.pawnBypassed, Obj.pawnRounds] k) :
    KMap.get (State.pawnRoundEnd s d).dict k d₀ = KMap.get s.dict k d₀ := by
  simp only [outside_cons, outside_nil, and_true] at hs
  simp [State.pawnRoundEnd, hs]

@[simp] theorem State.pawnTake_cell (s : State) (d pos : Nat) (k : Nat) (d₀ : Val) (hs : Outside [Obj.auxDeferred, Obj.owtDeferred,
      Obj.pawnBypassed, Obj.pawnRounds, Obj.pawnSkips, Obj.settleEvents] k) :
    KMap.get (State.pawnTake s d pos).dict k d₀ = KMap.get s.dict k d₀ := by
  simp only [outside_cons, outside_nil, and_true] at hs
  simp only [State.pawnTake]
  (repeat' split) <;> simp [hs]

@[simp] theorem State.formDiffs_cell (s : State) (k : Nat) (d : Val) (hs : Outside [Obj.dualPathDiff, Obj.sumDiffFC, Obj.sumDiffSN] k) :
    KMap.get (State.formDiffs s).dict k d = KMap.get s.dict k d := by
  simp only [outside_cons, outside_nil, and_true] at hs
  simp only [State.formDiffs]
  (repeat' split) <;> simp [hs]

@[simp] theorem State.sentDiscard_cell (s : State) (k : Nat) (k₀ : Nat) (d : Val) (hs : Outside [Obj.sentSlowRestarts] k₀) :
    KMap.get (State.sentDiscard s k).dict k₀ d = KMap.get s.dict k₀ d := by
  simp only [outside_cons, outside_nil, and_true] at hs
  simp only [State.sentDiscard]
  (repeat' split) <;> simp [hs]

@[simp] theorem State.sentValid_cell (s : State) (k : Nat) (v : List Nat) (k₀ : Nat) (d : Val) (hs : Outside [Obj.sentFramesOk,
      Obj.sentRawFast1, Obj.sentRawFast2, Obj.sentValue] k₀) :
    KMap.get (State.sentValid s k v).dict k₀ d = KMap.get s.dict k₀ d := by
  simp only [outside_cons, outside_nil, and_true] at hs
  simp [State.sentValid, hs]

@[simp] theorem State.sentSupplyOn_cell (s : State) (k : Nat) (k₀ : Nat) (d : Val) (hs : Outside [Obj.sentValue] k₀) :
    KMap.get (State.sentSupplyOn s k).dict k₀ d = KMap.get s.dict k₀ d := by
  simp only [outside_cons, outside_nil, and_true] at hs
  simp [State.sentSupplyOn, hs]

@[simp] theorem State.sentSupplyOff_cell (s : State) (k : Nat) (k₀ : Nat) (d : Val) (hs : Outside [Obj.sentValue] k₀) :
    KMap.get (State.sentSupplyOff s k).dict k₀ d = KMap.get s.dict k₀ d := by
  simp only [outside_cons, outside_nil, and_true] at hs
  simp [State.sentSupplyOff, hs]

@[simp] theorem State.sentEnabled_cell (s : State) (k : Nat) (on : Bool) (k₀ : Nat) (d : Val) (hs : Outside [Obj.sentValue] k₀) :
    KMap.get (State.sentEnabled s k on).dict k₀ d = KMap.get s.dict k₀ d := by
  simp only [outside_cons, outside_nil, and_true] at hs
  simp only [State.sentEnabled]
  (repeat' split) <;> simp [hs]

@[simp] theorem State.fenceHalf_cell (s : State) (h2 : Bool) (src : Nat) (k : Nat) (d : Val) (hs : Outside [Obj.calChannel, Obj.calState,
      Obj.captureMerged, Obj.captureRefused, Obj.episodeNewest, Obj.faultRaises, Obj.maintPermit, Obj.modeCause, Obj.queueDrops, Obj.raiseCount,
      Obj.recSeq, Obj.txDiscarded, Obj.wrapDrops] k) :
    KMap.get (State.fenceHalf s h2 src).dict k d = KMap.get s.dict k d := by
  simp only [outside_cons, outside_nil, and_true] at hs
  simp only [State.fenceHalf]
  (repeat' split) <;> simp [hs]

@[simp] theorem State.precisionOut_cell (s : State) (a b n : Nat) (uv : Rat) (k : Nat) (d : Val) (hs : Outside [Obj.calChannel, Obj.calState,
      Obj.captureMerged, Obj.captureRefused, Obj.cellSampleTime, Obj.cellSource, Obj.cellTag, Obj.cellVoltage, Obj.clipCount, Obj.episodeNewest,
      Obj.faultRaises, Obj.maintPermit, Obj.modeCause, Obj.pawnMismatches, Obj.pawnSkips, Obj.queueDrops, Obj.raiseCount, Obj.recSeq,
      Obj.txDiscarded, Obj.wrapDrops] k) :
    KMap.get (State.precisionOut s a b n uv).dict k d = KMap.get s.dict k d := by
  simp only [outside_cons, outside_nil, and_true] at hs
  simp only [State.precisionOut]
  (repeat' split) <;> simp [hs]

@[simp] theorem State.pawnStale_cell (s : State) (b d : Nat) (k : Nat) (d₀ : Val) (hs : Outside [Obj.pawnSkips] k) :
    KMap.get (State.pawnStale s b d).dict k d₀ = KMap.get s.dict k d₀ := by
  simp only [outside_cons, outside_nil, and_true] at hs
  simp [State.pawnStale, hs]

@[simp] theorem State.sendPrecision_cell (s : State) (instant : Nat) (k : Nat) (d : Val) (hs : Outside [Obj.queueDrops, Obj.wrapDrops] k) :
    KMap.get (State.sendPrecision s instant).dict k d = KMap.get s.dict k d := by
  simp only [outside_cons, outside_nil, and_true] at hs
  simp [State.sendPrecision, hs]

@[simp] theorem State.wideOut_cell (s : State) (j n : Nat) (uv : Rat) (k : Nat) (d : Val) (hs : Outside [Obj.queueDrops, Obj.wrapDrops] k) :
    KMap.get (State.wideOut s j n uv).dict k d = KMap.get s.dict k d := by
  simp only [outside_cons, outside_nil, and_true] at hs
  simp only [State.wideOut]
  (repeat' split) <;> simp [hs]

@[simp] theorem State.currentOut_cell (s : State) (j : Nat) (x : CurrentRaw) (k : Nat) (d : Val) (hs : Outside [Obj.missingCurrentWords,
      Obj.queueDrops, Obj.stringCurrent, Obj.wrapDrops] k) :
    KMap.get (State.currentOut s j x).dict k d = KMap.get s.dict k d := by
  simp only [outside_cons, outside_nil, and_true] at hs
  simp only [State.currentOut]
  (repeat' split) <;> simp [hs]

@[simp] theorem State.stdOut_cell (s : State) (j n : Nat) (uv : Rat) (k : Nat) (d : Val) (hs : Outside [Obj.queueDrops, Obj.wrapDrops] k) :
    KMap.get (State.stdOut s j n uv).dict k d = KMap.get s.dict k d := by
  simp only [outside_cons, outside_nil, and_true] at hs
  simp only [State.stdOut]
  (repeat' split) <;> simp [hs]

@[simp] theorem State.tapsOut_cell (s : State) (j : Nat) (x : TapsRaw) (k : Nat) (d : Val) (hs : Outside [Obj.fluxCurrent, Obj.linkVoltage,
      Obj.mainPosVoltage, Obj.shuntCurrent, Obj.stringVoltage] k) :
    KMap.get (State.tapsOut s j x).dict k d = KMap.get s.dict k d := by
  simp only [outside_cons, outside_nil, and_true] at hs
  simp only [State.tapsOut]
  (repeat' split) <;> simp [hs]

@[simp] theorem State.flySetpoints_cell (s : State) (k : Nat) (d : Val) (hs : Outside [Obj.balLimited] k) :
    KMap.get (State.flySetpoints s).dict k d = KMap.get s.dict k d := by
  simp only [outside_cons, outside_nil, and_true] at hs
  simp [State.flySetpoints, hs]

@[simp] theorem State.balUpdate_cell (s : State) (k : Nat) (d : Val) (hs : Outside [Obj.balLimited] k) :
    KMap.get (State.balUpdate s).dict k d = KMap.get s.dict k d := by
  simp only [outside_cons, outside_nil, and_true] at hs
  simp [State.balUpdate, hs]

@[simp] theorem State.sendReport_cell (s : State) (k : Nat) (d : Val) (hs : Outside [Obj.balReport, Obj.queueDrops, Obj.wrapDrops] k) :
    KMap.get (State.sendReport s).dict k d = KMap.get s.dict k d := by
  simp only [outside_cons, outside_nil, and_true] at hs
  simp only [State.sendReport]
  (repeat' split) <;> simp [hs]

@[simp] theorem State.acceptPlan_cell (s : State) (b : Bytes) (k : Nat) (d : Val) (hs : Outside [Obj.balLimited, Obj.balPlanLast, Obj.balReport,
      Obj.queueDrops, Obj.wrapDrops] k) :
    KMap.get (State.acceptPlan s b).dict k d = KMap.get s.dict k d := by
  simp only [outside_cons, outside_nil, and_true] at hs
  simp [State.acceptPlan, hs]

@[simp] theorem State.rejectPlan_cell (s : State) (k : Nat) (d : Val) (hs : Outside [Obj.calChannel, Obj.calState, Obj.captureMerged,
      Obj.captureRefused, Obj.episodeNewest, Obj.faultRaises, Obj.maintPermit, Obj.modeCause, Obj.planRejected, Obj.queueDrops, Obj.raiseCount,
      Obj.recSeq, Obj.txDiscarded, Obj.wrapDrops] k) :
    KMap.get (State.rejectPlan s).dict k d = KMap.get s.dict k d := by
  simp only [outside_cons, outside_nil, and_true] at hs
  simp [State.rejectPlan, hs]

@[simp] theorem State.pxBlockOut_cell (s : State) (b : Bus) (node tid index sub : Nat) (d : Bytes) (k : Nat) (d₀ : Val) (hs : Outside [Obj.txDiscarded] k) :
    KMap.get (State.pxBlockOut s b node tid index sub d).dict k d₀ = KMap.get s.dict k d₀ := by
  simp only [outside_cons, outside_nil, and_true] at hs
  simp [State.pxBlockOut, hs]

@[simp] theorem State.deliverPlan_cell (s : State) (node : Nat) (b : Bytes) (k : Nat) (d : Val) (hs : Outside [Obj.balLimited, Obj.balPlanLast,
      Obj.balReport, Obj.calChannel, Obj.calState, Obj.captureMerged, Obj.captureRefused, Obj.episodeNewest, Obj.faultRaises, Obj.maintPermit,
      Obj.modeCause, Obj.planRejected, Obj.queueDrops, Obj.raiseCount, Obj.recSeq, Obj.txDiscarded, Obj.wrapDrops] k) :
    KMap.get (State.deliverPlan s node b).dict k d = KMap.get s.dict k d := by
  simp only [outside_cons, outside_nil, and_true] at hs
  unfold State.deliverPlan
  (repeat' split) <;> simp [hs]

@[simp] theorem State.planNode_cell (s : State) (ref : Rat) (x : State × Int) (node : Nat) (k : Nat) (d : Val) (hs : Outside [Obj.balLimited,
      Obj.balPlanLast, Obj.balReport, Obj.calChannel, Obj.calState, Obj.captureMerged, Obj.captureRefused, Obj.episodeNewest, Obj.faultRaises,
      Obj.maintPermit, Obj.modeCause, Obj.planRejected, Obj.queueDrops, Obj.raiseCount, Obj.recSeq, Obj.txDiscarded, Obj.wrapDrops] k) :
    KMap.get (State.planNode s ref x node).1.dict k d = KMap.get x.1.dict k d := by
  simp only [outside_cons, outside_nil, and_true] at hs
  simp [State.planNode, hs]

@[simp] theorem State.takePlan_cell (s : State) (fromHead : Bool) (b : Bytes) (k : Nat) (d : Val) (hs : Outside [Obj.balLimited,
      Obj.balPlanLast, Obj.balReport, Obj.calChannel, Obj.calState, Obj.captureMerged, Obj.captureRefused, Obj.episodeNewest, Obj.faultRaises,
      Obj.maintPermit, Obj.modeCause, Obj.planRejected, Obj.queueDrops, Obj.raiseCount, Obj.recSeq, Obj.txDiscarded, Obj.wrapDrops] k) :
    KMap.get (State.takePlan s fromHead b).1.dict k d = KMap.get s.dict k d := by
  simp only [outside_cons, outside_nil, and_true] at hs
  unfold State.takePlan
  (repeat' split) <;> simp [hs]

@[simp] theorem State.bookResult_cell (s : State) (r tol : Rat) (k : Nat) (d : Val) (hs : Outside [Obj.booksResidual, Obj.calChannel,
      Obj.calState, Obj.captureMerged, Obj.captureRefused, Obj.episodeNewest, Obj.faultRaises, Obj.maintPermit, Obj.modeCause, Obj.queueDrops,
      Obj.raiseCount, Obj.recSeq, Obj.txDiscarded, Obj.wrapDrops] k) :
    KMap.get (State.bookResult s r tol).dict k d = KMap.get s.dict k d := by
  simp only [outside_cons, outside_nil, and_true] at hs
  simp only [State.bookResult]
  (repeat' split) <;> simp [hs]

@[simp] theorem State.takeSwap_cell (s : State) (i : Nat) (k : Nat) (d : Val) (hs : Outside [Obj.bankActive, Obj.swapCount] k) :
    KMap.get (State.takeSwap s i).dict k d = KMap.get s.dict k d := by
  simp only [outside_cons, outside_nil, and_true] at hs
  unfold State.takeSwap
  (repeat' split) <;> simp [hs]

@[simp] theorem State.instNumeric_cell (s : State) (i m : Nat) (k : Nat) (d : Val) (hs : Outside [Obj.calChannel, Obj.calState,
      Obj.captureMerged, Obj.captureRefused, Obj.episodeNewest, Obj.faultRaises, Obj.maintPermit, Obj.modeCause, Obj.queueDrops, Obj.raiseCount,
      Obj.recSeq, Obj.txDiscarded, Obj.wrapDrops] k) :
    KMap.get (State.instNumeric s i m).dict k d = KMap.get s.dict k d := by
  simp only [outside_cons, outside_nil, and_true] at hs
  simp [State.instNumeric, hs]

@[simp] theorem State.instLost_cell (s : State) (i m : Nat) (k : Nat) (d : Val) (hs : Outside [Obj.calChannel, Obj.calState, Obj.captureMerged,
      Obj.captureRefused, Obj.episodeNewest, Obj.faultRaises, Obj.maintPermit, Obj.modeCause, Obj.queueDrops, Obj.raiseCount, Obj.recSeq,
      Obj.txDiscarded, Obj.wrapDrops] k) :
    KMap.get (State.instLost s i m).dict k d = KMap.get s.dict k d := by
  simp only [outside_cons, outside_nil, and_true] at hs
  simp [State.instLost, hs]

@[simp] theorem State.instCompute_cell (s : State) (i : Nat) (m : LoopMeas) (k : Nat) (d : Val) (hs : Outside [Obj.calChannel, Obj.calState,
      Obj.captureMerged, Obj.captureRefused, Obj.episodeNewest, Obj.faultRaises, Obj.maintPermit, Obj.modeCause, Obj.queueDrops, Obj.raiseCount,
      Obj.recSeq, Obj.txDiscarded, Obj.wrapDrops] k) :
    KMap.get (State.instCompute s i m).dict k d = KMap.get s.dict k d := by
  simp only [outside_cons, outside_nil, and_true] at hs
  simp only [State.instCompute]
  (repeat' split) <;> simp [hs]

@[simp] theorem State.instSample_cell (s : State) (m : LoopMeas) (i : Nat) (k : Nat) (d : Val) (hs : Outside [Obj.bankActive, Obj.calChannel,
      Obj.calState, Obj.captureMerged, Obj.captureRefused, Obj.episodeNewest, Obj.faultRaises, Obj.maintPermit, Obj.modeCause, Obj.queueDrops,
      Obj.raiseCount, Obj.recSeq, Obj.swapCount, Obj.txDiscarded, Obj.wrapDrops] k) :
    KMap.get (State.instSample s m i).dict k d = KMap.get s.dict k d := by
  simp only [outside_cons, outside_nil, and_true] at hs
  simp only [State.instSample]
  (repeat' split) <;> simp [hs]

@[simp] theorem State.driveActuators_cell (s : State) (demand : Rat) (k : Nat) (d : Val) (hs : Outside [Obj.fanDuty, Obj.valveCommand] k) :
    KMap.get (State.driveActuators s demand).dict k d = KMap.get s.dict k d := by
  simp only [outside_cons, outside_nil, and_true] at hs
  simp [State.driveActuators, hs]

@[simp] theorem State.zoneTemps_cell (s : State) (k : Nat) (d : Val) (hs : Outside [Obj.calChannel, Obj.calState, Obj.captureMerged,
      Obj.captureRefused, Obj.coolantRefTemp, Obj.episodeNewest, Obj.faultRaises, Obj.maintPermit, Obj.modeCause, Obj.queueDrops,
      Obj.raiseCount, Obj.recSeq, Obj.txDiscarded, Obj.wrapDrops, Obj.zoneCoreTemp, Obj.zoneSurfaceTemp] k) :
    KMap.get (State.zoneTemps s).dict k d = KMap.get s.dict k d := by
  simp only [outside_cons, outside_nil, and_true] at hs
  simp only [State.zoneTemps]
  (repeat' split) <;> simp [hs]

@[simp] theorem State.thermal_cell (s : State) (m : LoopMeas) (k : Nat) (d : Val) (hs : Outside [Obj.calChannel, Obj.calState,
      Obj.captureMerged, Obj.captureRefused, Obj.coolantRefTemp, Obj.coolingDemand, Obj.episodeNewest, Obj.fanDuty, Obj.fanSpeed,
      Obj.faultRaises, Obj.maintPermit, Obj.modeCause, Obj.packHeat, Obj.queueDrops, Obj.raiseCount, Obj.recSeq, Obj.txDiscarded,
      Obj.valveCommand, Obj.valveReadback, Obj.wrapDrops, Obj.zoneCoreTemp, Obj.zoneSurfaceTemp] k) :
    KMap.get (State.thermal s m).dict k d = KMap.get s.dict k d := by
  simp only [outside_cons, outside_nil, and_true] at hs
  simp [State.thermal, hs]

@[simp] theorem State.afterTrigger_cell (s : State) (k : Nat) (d : Val) (hs : Outside [Obj.auxDeferred, Obj.owtDeferred, Obj.settleEvents] k) :
    KMap.get (State.afterTrigger s).dict k d = KMap.get s.dict k d := by
  simp only [outside_cons, outside_nil, and_true] at hs
  simp [State.afterTrigger, hs]

@[simp] theorem State.selectChannel_cell (s : State) (k : Nat) (d : Val) (hs : Outside [Obj.currentInUse] k) :
    KMap.get (State.selectChannel s).dict k d = KMap.get s.dict k d := by
  simp only [outside_cons, outside_nil, and_true] at hs
  simp only [State.selectChannel]
  (repeat' split) <;> simp [hs]

@[simp] theorem State.isoJudge_cell (s : State) (r : Rat) (k : Nat) (d : Val) (hs : Outside [Obj.calChannel, Obj.calState, Obj.captureMerged,
      Obj.captureRefused, Obj.chargeLimit, Obj.dischargeLimit, Obj.episodeNewest, Obj.faultRaises, Obj.maintPermit, Obj.modeCause,
      Obj.queueDrops, Obj.raiseCount, Obj.recSeq, Obj.txDiscarded, Obj.wrapDrops] k) :
    KMap.get (State.isoJudge s r).dict k d = KMap.get s.dict k d := by
  simp only [outside_cons, outside_nil, and_true] at hs
  unfold State.isoJudge
  (repeat' split) <;> simp_all

@[simp] theorem State.takeTrip_cell (s : State) (via : NoticeVia) (n : Notice) (k : Nat) (d : Val) (hs : Outside [Obj.auxDeferred,
      Obj.calChannel, Obj.calState, Obj.captureMerged, Obj.captureRefused, Obj.episodeNewest, Obj.faultRaises, Obj.maintPermit, Obj.modeCause,
      Obj.nodeIdConflicts, Obj.owtDeferred, Obj.queueDrops, Obj.raiseCount, Obj.recSeq, Obj.settleEvents, Obj.tripCause, Obj.tripNode,
      Obj.txDiscarded, Obj.wrapDrops] k) :
    KMap.get (State.takeTrip s via n).dict k d = KMap.get s.dict k d := by
  simp only [outside_cons, outside_nil, and_true] at hs
  simp only [State.takeTrip]
  (repeat' split) <;> simp [hs]

@[simp] theorem State.followOpen_cell (s : State) (k : Nat) (d : Val) (hs : Outside [Obj.calChannel, Obj.calState, Obj.captureMerged,
      Obj.captureRefused, Obj.episodeNewest, Obj.faultRaises, Obj.maintPermit, Obj.modeCause, Obj.queueDrops, Obj.raiseCount, Obj.recSeq,
      Obj.txDiscarded, Obj.wrapDrops] k) :
    KMap.get (State.followOpen s).dict k d = KMap.get s.dict k d := by
  simp only [outside_cons, outside_nil, and_true] at hs
  simp [State.followOpen, hs]

@[simp] theorem State.takeOpenReq_cell (s : State) (via : NoticeVia) (n : Notice) (k : Nat) (d : Val) (hs : Outside [Obj.auxDeferred,
      Obj.calChannel, Obj.calState, Obj.captureMerged, Obj.captureRefused, Obj.chargeLimit, Obj.dischargeLimit, Obj.episodeNewest,
      Obj.faultRaises, Obj.maintPermit, Obj.modeCause, Obj.nodeIdConflicts, Obj.owtDeferred, Obj.queueDrops, Obj.raiseCount, Obj.recSeq,
      Obj.settleEvents, Obj.txDiscarded, Obj.wrapDrops] k) :
    KMap.get (State.takeOpenReq s via n).dict k d = KMap.get s.dict k d := by
  simp only [outside_cons, outside_nil, and_true] at hs
  simp only [State.takeOpenReq]
  (repeat' split) <;> simp [hs]

@[simp] theorem State.takeTripReset_cell (s : State) (via : NoticeVia) (n : Notice) (k : Nat) (d : Val) (hs : Outside [Obj.calChannel,
      Obj.calState, Obj.captureMerged, Obj.captureRefused, Obj.episodeNewest, Obj.faultRaises, Obj.maintPermit, Obj.modeCause,
      Obj.nodeIdConflicts, Obj.queueDrops, Obj.raiseCount, Obj.recSeq, Obj.txDiscarded, Obj.wrapDrops] k) :
    KMap.get (State.takeTripReset s via n).dict k d = KMap.get s.dict k d := by
  simp only [outside_cons, outside_nil, and_true] at hs
  simp [State.takeTripReset, hs]

@[simp] theorem State.weldFound_cell (s : State) (k : Nat) (d : Val) (hs : Outside [Obj.calChannel, Obj.calState, Obj.captureMerged,
      Obj.captureRefused, Obj.episodeNewest, Obj.faultRaises, Obj.maintPermit, Obj.modeCause, Obj.queueDrops, Obj.raiseCount, Obj.recSeq,
      Obj.txDiscarded, Obj.wrapDrops] k) :
    KMap.get (State.weldFound s).dict k d = KMap.get s.dict k d := by
  simp only [outside_cons, outside_nil, and_true] at hs
  simp [State.weldFound, hs]

@[simp] theorem State.prechargeFail_cell (s : State) (k : Nat) (d : Val) (hs : Outside [Obj.calChannel, Obj.calState, Obj.captureMerged,
      Obj.captureRefused, Obj.episodeNewest, Obj.faultRaises, Obj.maintPermit, Obj.modeCause, Obj.queueDrops, Obj.raiseCount, Obj.recSeq,
      Obj.txDiscarded, Obj.wrapDrops] k) :
    KMap.get (State.prechargeFail s).dict k d = KMap.get s.dict k d := by
  simp only [outside_cons, outside_nil, and_true] at hs
  simp [State.prechargeFail, hs]

@[simp] theorem State.coilFaultFound_cell (s : State) (k : Nat) (d : Val) (hs : Outside [Obj.auxDeferred, Obj.calChannel, Obj.calState,
      Obj.captureMerged, Obj.captureRefused, Obj.chargeLimit, Obj.dischargeLimit, Obj.episodeNewest, Obj.faultRaises, Obj.maintPermit,
      Obj.modeCause, Obj.owtDeferred, Obj.queueDrops, Obj.raiseCount, Obj.recSeq, Obj.settleEvents, Obj.txDiscarded, Obj.wrapDrops] k) :
    KMap.get (State.coilFaultFound s).dict k d = KMap.get s.dict k d := by
  simp only [outside_cons, outside_nil, and_true] at hs
  simp [State.coilFaultFound, hs]

@[simp] theorem State.sendRelease_cell (s : State) (node : Nat) (k : Nat) (d : Val) (hs : Outside [Obj.queueDrops, Obj.wrapDrops] k) :
    KMap.get (State.sendRelease s node).dict k d = KMap.get s.dict k d := by
  simp only [outside_cons, outside_nil, and_true] at hs
  simp [State.sendRelease, hs]

@[simp] theorem State.sendWrite_cell (s : State) (d : Dest) (o : ObjDef) (i j : Nat) (k : Nat) (d₀ : Val) (hs : Outside [Obj.queueDrops,
      Obj.wrapDrops] k) :
    KMap.get (State.sendWrite s d o i j).dict k d₀ = KMap.get s.dict k d₀ := by
  simp only [outside_cons, outside_nil, and_true] at hs
  simp [State.sendWrite, hs]

@[simp] theorem State.rewriteSet_cell (s : State) (node : Nat) (k : Nat) (d : Val) (hs : Outside [Obj.queueDrops, Obj.wrapDrops] k) :
    KMap.get (State.rewriteSet s node).dict k d = KMap.get s.dict k d := by
  simp only [outside_cons, outside_nil, and_true] at hs
  simp [State.rewriteSet, hs]

@[simp] theorem State.dissent_cell (s : State) (l : Lane) (k : Nat) (d : Val) (hs : Outside [Obj.calChannel, Obj.calState, Obj.captureMerged,
      Obj.captureRefused, Obj.episodeNewest, Obj.faultRaises, Obj.laneDisagreements, Obj.maintPermit, Obj.modeCause, Obj.queueDrops,
      Obj.raiseCount, Obj.recSeq, Obj.txDiscarded, Obj.wrapDrops] k) :
    KMap.get (State.dissent s l).dict k d = KMap.get s.dict k d := by
  simp only [outside_cons, outside_nil, and_true] at hs
  simp [State.dissent, hs]

@[simp] theorem State.noMajority_cell (s : State) (triplex : Bool) (k : Nat) (d : Val) (hs : Outside [Obj.calChannel, Obj.calState,
      Obj.captureMerged, Obj.captureRefused, Obj.episodeNewest, Obj.faultRaises, Obj.laneDisagreements, Obj.maintPermit, Obj.modeCause,
      Obj.noMajorityEvents, Obj.queueDrops, Obj.raiseCount, Obj.recSeq, Obj.txDiscarded, Obj.wrapDrops] k) :
    KMap.get (State.noMajority s triplex).dict k d = KMap.get s.dict k d := by
  simp only [outside_cons, outside_nil, and_true] at hs
  simp only [State.noMajority]
  (repeat' split) <;> simp [hs]

@[simp] theorem State.voteFails_cell (s : State) (k : Nat) (d : Val) (hs : Outside [Obj.calChannel, Obj.calState, Obj.captureMerged,
      Obj.captureRefused, Obj.episodeNewest, Obj.faultRaises, Obj.laneDisagreements, Obj.maintPermit, Obj.modeCause, Obj.noMajorityEvents,
      Obj.queueDrops, Obj.raiseCount, Obj.recSeq, Obj.txDiscarded, Obj.wrapDrops] k) :
    KMap.get (State.voteFails s).dict k d = KMap.get s.dict k d := by
  simp only [outside_cons, outside_nil, and_true] at hs
  unfold State.voteFails
  (repeat' split) <;> simp [hs]

@[simp] theorem State.sendVoted_cell (s : State) (f : VoteFrame) (k : Nat) (d : Val) (hs : Outside [Obj.queueDrops, Obj.txDiscarded,
      Obj.wrapDrops] k) :
    KMap.get (State.sendVoted s f).dict k d = KMap.get s.dict k d := by
  simp only [outside_cons, outside_nil, and_true] at hs
  unfold State.sendVoted
  (repeat' split) <;> simp [hs]

@[simp] theorem State.closeVote_cell (s : State) (v : VoteSt) (k : Nat) (d : Val) (hs : Outside [Obj.calChannel, Obj.calState,
      Obj.captureMerged, Obj.captureRefused, Obj.episodeNewest, Obj.faultRaises, Obj.laneDisagreements, Obj.maintPermit, Obj.modeCause,
      Obj.noMajorityEvents, Obj.queueDrops, Obj.raiseCount, Obj.recSeq, Obj.txDiscarded, Obj.voteRejects, Obj.wrapDrops] k) :
    KMap.get (State.closeVote s v).dict k d = KMap.get s.dict k d := by
  simp only [outside_cons, outside_nil, and_true] at hs
  unfold State.closeVote
  (repeat' split) <;> simp [hs]

@[simp] theorem State.closeExpired_cell (s : State) (k : Nat) (d : Val) (hs : Outside [Obj.calChannel, Obj.calState, Obj.captureMerged,
      Obj.captureRefused, Obj.episodeNewest, Obj.faultRaises, Obj.laneDisagreements, Obj.maintPermit, Obj.modeCause, Obj.noMajorityEvents,
      Obj.queueDrops, Obj.raiseCount, Obj.recSeq, Obj.txDiscarded, Obj.voteRejects, Obj.wrapDrops] k) :
    KMap.get (State.closeExpired s).dict k d = KMap.get s.dict k d := by
  simp only [outside_cons, outside_nil, and_true] at hs
  simp [State.closeExpired, hs]

@[simp] theorem State.addCopy_cell (s : State) (v : VoteSt) (lane : Lane) (f : VoteFrame) (k : Nat) (d : Val) (hs : Outside [Obj.calChannel,
      Obj.calState, Obj.captureMerged, Obj.captureRefused, Obj.episodeNewest, Obj.faultRaises, Obj.laneDisagreements, Obj.maintPermit,
      Obj.modeCause, Obj.noMajorityEvents, Obj.queueDrops, Obj.raiseCount, Obj.recSeq, Obj.txDiscarded, Obj.voteRejects, Obj.wrapDrops] k) :
    KMap.get (State.addCopy s v lane f).1.dict k d = KMap.get s.dict k d := by
  simp only [outside_cons, outside_nil, and_true] at hs
  simp only [State.addCopy]
  (repeat' split) <;> simp [hs]

@[simp] theorem State.announce_cell (s : State) (k : Nat) (d : Val) (hs : Outside [Obj.txDiscarded] k) :
    KMap.get (State.announce s).dict k d = KMap.get s.dict k d := by
  simp only [outside_cons, outside_nil, and_true] at hs
  simp [State.announce, hs]

@[simp] theorem State.beginElection_cell (s : State) (k : Nat) (d : Val) (hs : Outside [Obj.txDiscarded] k) :
    KMap.get (State.beginElection s).dict k d = KMap.get s.dict k d := by
  simp only [outside_cons, outside_nil, and_true] at hs
  simp [State.beginElection, hs]

@[simp] theorem State.claim_cell (s : State) (basis : Nat) (k : Nat) (d : Val) (hs : Outside [Obj.balEnable, Obj.descFlags, Obj.descHeadPack,
      Obj.descModuleCount, Obj.descSeq, Obj.descStandbyPack, Obj.descStringId, Obj.episodeNewest, Obj.headBasis, Obj.isoAge, Obj.queueDrops,
      Obj.recSeq, Obj.txDiscarded, Obj.wrapDrops] k) :
    KMap.get (State.claim s basis).dict k d = KMap.get s.dict k d := by
  simp only [outside_cons, outside_nil, and_true] at hs
  simp [State.claim, hs]

@[simp] theorem State.startRound_cell (s : State) (r : Nat) (part : Bool) (k : Nat) (d : Val) (hs : Outside [Obj.txDiscarded] k) :
    KMap.get (State.startRound s r part).dict k d = KMap.get s.dict k d := by
  simp only [outside_cons, outside_nil, and_true] at hs
  unfold State.startRound
  (repeat' split) <;> simp [hs]

@[simp] theorem State.electionFailed_cell (s : State) (k : Nat) (d : Val) (hs : Outside [Obj.calChannel, Obj.calState, Obj.captureMerged,
      Obj.captureRefused, Obj.episodeNewest, Obj.faultRaises, Obj.maintPermit, Obj.modeCause, Obj.queueDrops, Obj.raiseCount, Obj.recSeq,
      Obj.txDiscarded, Obj.wrapDrops] k) :
    KMap.get (State.electionFailed s).dict k d = KMap.get s.dict k d := by
  simp only [outside_cons, outside_nil, and_true] at hs
  simp [State.electionFailed, hs]

@[simp] theorem State.takeDescriptor_cell (s : State) (q : PxReq) (record : Bytes) (k : Nat) (d : Val) (hs : Outside [Obj.changeLogNewest,
      Obj.descFlags, Obj.descHeadPack, Obj.descModuleCount, Obj.descSeq, Obj.descStandbyPack, Obj.descStringId, Obj.pxErrors, Obj.pxLastError,
      Obj.queueDrops, Obj.txDiscarded, Obj.wrapDrops] k) :
    KMap.get (State.takeDescriptor s q record).dict k d = KMap.get s.dict k d := by
  simp only [outside_cons, outside_nil, and_true] at hs
  unfold State.takeDescriptor
  (repeat' split) <;> simp [hs]

@[simp] theorem State.sendDescTo_cell (s : State) (sq : Int) (d : Descriptor) (k : Nat) (d₀ : Val) (hs : Outside [Obj.queueDrops, Obj.wrapDrops] k) :
    KMap.get (State.sendDescTo s sq d).dict k d₀ = KMap.get s.dict k d₀ := by
  simp only [outside_cons, outside_nil, and_true] at hs
  simp [State.sendDescTo, hs]

@[simp] theorem State.sendAssign_cell (s : State) (k : Nat) (d : Val) (hs : Outside [Obj.txDiscarded] k) :
    KMap.get (State.sendAssign s).dict k d = KMap.get s.dict k d := by
  simp only [outside_cons, outside_nil, and_true] at hs
  unfold State.sendAssign
  (repeat' split) <;> simp [hs]

@[simp] theorem State.admit_cell (s : State) (j : JoinFrame) (k : Nat) (d : Val) (hs : Outside [Obj.calChannel, Obj.calState, Obj.captureMerged,
      Obj.captureRefused, Obj.descFlags, Obj.descHeadPack, Obj.descModuleCount, Obj.descSeq, Obj.descStandbyPack, Obj.descStringId,
      Obj.episodeNewest, Obj.faultRaises, Obj.maintPermit, Obj.modeCause, Obj.queueDrops, Obj.raiseCount, Obj.recSeq, Obj.txDiscarded,
      Obj.wrapDrops] k) :
    KMap.get (State.admitJoiner s j).dict k d = KMap.get s.dict k d := by
  simp only [outside_cons, outside_nil, and_true] at hs
  simp only [State.admitJoiner]
  (repeat' split) <;> simp [hs]

@[simp] theorem State.sendClose_cell (s : State) (k : Nat) (d : Val) (hs : Outside [Obj.txDiscarded] k) :
    KMap.get (State.sendClose s).dict k d = KMap.get s.dict k d := by
  simp only [outside_cons, outside_nil, and_true] at hs
  simp [State.sendClose, hs]

@[simp] theorem State.nextAssign_cell (s : State) (k : Nat) (d : Val) (hs : Outside [Obj.txDiscarded] k) :
    KMap.get (State.nextAssign s).dict k d = KMap.get s.dict k d := by
  simp only [outside_cons, outside_nil, and_true] at hs
  unfold State.nextAssign
  (repeat' split) <;> simp [hs]

@[simp] theorem State.sendStatus_cell (s : State) (k : Nat) (d : Val) (hs : Outside [Obj.queueDrops, Obj.txDiscarded, Obj.wrapDrops] k) :
    KMap.get (State.sendStatus s).dict k d = KMap.get s.dict k d := by
  simp only [outside_cons, outside_nil, and_true] at hs
  simp [State.sendStatus, hs]

@[simp] theorem State.settleStandby_cell (s : State) (k : Nat) (d : Val) (hs : Outside [Obj.calChannel, Obj.calState, Obj.captureMerged,
      Obj.captureRefused, Obj.episodeNewest, Obj.faultRaises, Obj.maintPermit, Obj.modeCause, Obj.queueDrops, Obj.raiseCount, Obj.recSeq,
      Obj.txDiscarded, Obj.wrapDrops] k) :
    KMap.get (State.settleStandby s).dict k d = KMap.get s.dict k d := by
  simp only [outside_cons, outside_nil, and_true] at hs
  simp only [State.settleStandby]
  (repeat' split) <;> simp [hs]

@[simp] theorem State.sendWrap_cell (s : State) (code : Nat) (p : Port) (time : Nat) (k : Nat) (d : Val) (hs : Outside [Obj.queueDrops,
      Obj.txDiscarded, Obj.wrapDrops] k) :
    KMap.get (State.sendWrap s code p time).dict k d = KMap.get s.dict k d := by
  simp only [outside_cons, outside_nil, and_true] at hs
  simp [State.sendWrap, hs]

@[simp] theorem State.turnWaiting_cell (s : State) (p : Port) (k : Nat) (d : Val) (hs : Outside [Obj.queueDrops, Obj.wrapDrops] k) :
    KMap.get (State.turnWaiting s p).dict k d = KMap.get s.dict k d := by
  simp only [outside_cons, outside_nil, and_true] at hs
  simp only [State.turnWaiting]
  (repeat' split) <;> simp [hs]

@[simp] theorem State.portDown_cell (s : State) (p : Port) (fault : Bool) (k : Nat) (d : Val) (hs : Outside [Obj.portDowns, Obj.queueDrops,
      Obj.txDiscarded, Obj.wrapDrops] k) :
    KMap.get (State.portDown s p fault).dict k d = KMap.get s.dict k d := by
  simp only [outside_cons, outside_nil, and_true] at hs
  simp only [State.portDown]
  (repeat' split) <;> simp [hs]

@[simp] theorem State.orderUnwrap_cell (s : State) (p : Port) (k : Nat) (d : Val) (hs : Outside [Obj.queueDrops, Obj.txDiscarded, Obj.wrapDrops] k) :
    KMap.get (State.orderUnwrap s p).dict k d = KMap.get s.dict k d := by
  simp only [outside_cons, outside_nil, and_true] at hs
  simp [State.orderUnwrap, hs]

@[simp] theorem State.censusEnd_cell (s : State) (no count turnAt : Nat) (k : Nat) (d : Val) (hs : Outside [Obj.calChannel, Obj.calState,
      Obj.captureMerged, Obj.captureRefused, Obj.episodeNewest, Obj.faultRaises, Obj.maintPermit, Obj.modeCause, Obj.queueDrops, Obj.raiseCount,
      Obj.recSeq, Obj.txDiscarded, Obj.wrapDrops] k) :
    KMap.get (State.censusEnd s no count turnAt).dict k d = KMap.get s.dict k d := by
  simp only [outside_cons, outside_nil, and_true] at hs
  simp [State.censusEnd, hs]

@[simp] theorem State.countIn_cell (s : State) (h : SlotHdr) (no count turnAt stringId : Nat) (k : Nat) (d : Val) (hs : Outside [Obj.queueDrops,
      Obj.wrapDrops] k) :
    KMap.get (State.countIn s h no count turnAt stringId).dict k d = KMap.get s.dict k d := by
  simp only [outside_cons, outside_nil, and_true] at hs
  simp only [State.countIn]
  (repeat' split) <;> simp [hs]

@[simp] theorem State.sendDescriptorTo_cell (s : State) (sq : Int) (d : Bytes) (k : Nat) (d₀ : Val) (hs : Outside [Obj.queueDrops, Obj.wrapDrops] k) :
    KMap.get (State.sendDescriptorTo s sq d).dict k d₀ = KMap.get s.dict k d₀ := by
  simp only [outside_cons, outside_nil, and_true] at hs
  simp [State.sendDescriptorTo, hs]

@[simp] theorem State.refreshDescriptors_cell (s : State) (k : Nat) (d : Val) (hs : Outside [Obj.queueDrops, Obj.wrapDrops] k) :
    KMap.get (State.refreshDescriptors s).dict k d = KMap.get s.dict k d := by
  simp only [outside_cons, outside_nil, and_true] at hs
  simp only [State.refreshDescriptors]
  (repeat' split) <;> simp [hs]

@[simp] theorem State.settleDescriptors_cell (s : State) (k : Nat) (d : Val) (hs : Outside [Obj.calChannel, Obj.calState, Obj.captureMerged,
      Obj.captureRefused, Obj.descFlags, Obj.descHeadPack, Obj.descModuleCount, Obj.descSeq, Obj.descStandbyPack, Obj.descStringId,
      Obj.episodeNewest, Obj.faultRaises, Obj.maintPermit, Obj.modeCause, Obj.queueDrops, Obj.raiseCount, Obj.recSeq, Obj.txDiscarded,
      Obj.wrapDrops] k) :
    KMap.get (State.settleDescriptors s).dict k d = KMap.get s.dict k d := by
  simp only [outside_cons, outside_nil, and_true] at hs
  simp only [State.settleDescriptors]
  (repeat' split) <;> simp [hs]

@[simp] theorem State.ownEntry_cell (s : State) (k : Nat) (d : Val) (hs : Outside [Obj.ownNodeId] k) :
    KMap.get (State.ownEntry s).dict k d = KMap.get s.dict k d := by
  simp only [outside_cons, outside_nil, and_true] at hs
  unfold State.ownEntry
  (repeat' split) <;> simp [hs]

@[simp] theorem State.startEnumeration_cell (s : State) (k : Nat) (d : Val) (hs : Outside [Obj.calChannel, Obj.calState, Obj.captureMerged,
      Obj.captureRefused, Obj.descFlags, Obj.descHeadPack, Obj.descModuleCount, Obj.descSeq, Obj.descStandbyPack, Obj.descStringId,
      Obj.episodeNewest, Obj.faultRaises, Obj.maintPermit, Obj.modeCause, Obj.ownNodeId, Obj.queueDrops, Obj.raiseCount, Obj.recSeq,
      Obj.txDiscarded, Obj.wrapDrops] k) :
    KMap.get (State.startEnumeration s).dict k d = KMap.get s.dict k d := by
  simp only [outside_cons, outside_nil, and_true] at hs
  simp [State.startEnumeration, hs]

@[simp] theorem State.foundModules_cell (s : State) (n : Nat) (k : Nat) (d : Val) (hs : Outside [Obj.configuration, Obj.modulesFound] k) :
    KMap.get (State.foundModules s n).dict k d = KMap.get s.dict k d := by
  simp only [outside_cons, outside_nil, and_true] at hs
  simp [State.foundModules, hs]

@[simp] theorem State.closeReplies_cell (s : State) (k : Nat) (d : Val) (hs : Outside [Obj.calChannel, Obj.calState, Obj.captureMerged,
      Obj.captureRefused, Obj.chargeLimit, Obj.configuration, Obj.descFlags, Obj.descHeadPack, Obj.descModuleCount, Obj.descSeq,
      Obj.descStandbyPack, Obj.descStringId, Obj.dischargeLimit, Obj.episodeNewest, Obj.faultRaises, Obj.maintPermit, Obj.membershipGen,
      Obj.modeCause, Obj.modulesFound, Obj.ownNodeId, Obj.queueDrops, Obj.raiseCount, Obj.recSeq, Obj.txDiscarded, Obj.wrapDrops] k) :
    KMap.get (State.closeReplies s).dict k d = KMap.get s.dict k d := by
  simp only [outside_cons, outside_nil, and_true] at hs
  simp only [State.closeReplies]
  (repeat' split) <;> simp [hs]

@[simp] theorem State.takeCensus_cell (s : State) (p : CensusPend) (k : Nat) (d : Val) (hs : Outside [Obj.censusNumber, Obj.ringMembers,
      Obj.turnAt] k) :
    KMap.get (State.takeCensus s p).dict k d = KMap.get s.dict k d := by
  simp only [outside_cons, outside_nil, and_true] at hs
  simp [State.takeCensus, hs]

@[simp] theorem State.stompOn_cell (s : State) (rx : SlotRx) (payload : Bytes) (k : Nat) (d : Val) (hs : Outside [Obj.queueDrops, Obj.wrapDrops] k) :
    KMap.get (State.stompOn s rx payload).dict k d = KMap.get s.dict k d := by
  simp only [outside_cons, outside_nil, and_true] at hs
  simp only [State.stompOn]
  (repeat' split) <;> simp [hs]

@[simp] theorem State.askCensus_cell (s : State) (p : Port) (k : Nat) (d : Val) (hs : Outside [Obj.calChannel, Obj.calState, Obj.captureMerged,
      Obj.captureRefused, Obj.episodeNewest, Obj.faultRaises, Obj.maintPermit, Obj.modeCause, Obj.queueDrops, Obj.raiseCount, Obj.recSeq,
      Obj.txDiscarded, Obj.wrapDrops] k) :
    KMap.get (State.askCensus s p).dict k d = KMap.get s.dict k d := by
  simp only [outside_cons, outside_nil, and_true] at hs
  simp only [State.askCensus]
  (repeat' split) <;> simp [hs]

@[simp] theorem State.sendCkpt_cell (s : State) (k : Nat) (d : Val) (hs : Outside [Obj.ckptGenSent, Obj.queueDrops, Obj.wrapDrops] k) :
    KMap.get (State.sendCkpt s).dict k d = KMap.get s.dict k d := by
  simp only [outside_cons, outside_nil, and_true] at hs
  unfold State.sendCkpt
  (repeat' split) <;> simp [hs]

@[simp] theorem State.loseStandby_cell (s : State) (k : Nat) (d : Val) (hs : Outside [Obj.calChannel, Obj.calState, Obj.captureMerged,
      Obj.captureRefused, Obj.episodeNewest, Obj.faultRaises, Obj.maintPermit, Obj.modeCause, Obj.queueDrops, Obj.raiseCount, Obj.recSeq,
      Obj.txDiscarded, Obj.wrapDrops] k) :
    KMap.get (State.loseStandby s).dict k d = KMap.get s.dict k d := by
  simp only [outside_cons, outside_nil, and_true] at hs
  simp [State.loseStandby, hs]

@[simp] theorem State.lagCheck_cell (s : State) (k : Nat) (d : Val) (hs : Outside [Obj.calChannel, Obj.calState, Obj.captureMerged,
      Obj.captureRefused, Obj.episodeNewest, Obj.faultRaises, Obj.maintPermit, Obj.modeCause, Obj.queueDrops, Obj.raiseCount, Obj.recSeq,
      Obj.txDiscarded, Obj.wrapDrops] k) :
    KMap.get (State.lagCheck s).dict k d = KMap.get s.dict k d := by
  simp only [outside_cons, outside_nil, and_true] at hs
  unfold State.lagCheck
  (repeat' split) <;> simp [hs]

@[simp] theorem State.takeoverRole_cell (s : State) (basis cause : Nat) (k : Nat) (d : Val) (hs : Outside [Obj.balEnable, Obj.chargeLimit,
      Obj.ckptGenSent, Obj.currentInUse, Obj.descFlags, Obj.descHeadPack, Obj.descModuleCount, Obj.descSeq, Obj.descStandbyPack,
      Obj.descStringId, Obj.dischargeLimit, Obj.episodeNewest, Obj.headBasis, Obj.isoAge, Obj.isoRn, Obj.isoRp, Obj.membershipGen, Obj.recSeq,
      Obj.tripCause, Obj.tripNode] k) :
    KMap.get (State.takeoverRole s basis cause).dict k d = KMap.get s.dict k d := by
  simp only [outside_cons, outside_nil, and_true] at hs
  simp [State.takeoverRole, hs]

@[simp] theorem State.takeoverStandby_cell (s : State) (basis former : Nat) (k : Nat) (d : Val) (hs : Outside [Obj.calChannel, Obj.calState,
      Obj.captureMerged, Obj.captureRefused, Obj.episodeNewest, Obj.faultRaises, Obj.maintPermit, Obj.modeCause, Obj.queueDrops, Obj.raiseCount,
      Obj.recSeq, Obj.txDiscarded, Obj.wrapDrops] k) :
    KMap.get (State.takeoverStandby s basis former).dict k d = KMap.get s.dict k d := by
  simp only [outside_cons, outside_nil, and_true] at hs
  simp [State.takeoverStandby, hs]

@[simp] theorem State.takeoverBooks_cell (s : State) (cause : Nat) (k : Nat) (d : Val) (hs : Outside [Obj.calChannel, Obj.calState,
      Obj.captureMerged, Obj.captureRefused, Obj.episodeNewest, Obj.failovers, Obj.faultRaises, Obj.lastTakeover, Obj.maintPermit,
      Obj.modeCause, Obj.queueDrops, Obj.raiseCount, Obj.recSeq, Obj.takeoverCause, Obj.takeoverDuration, Obj.txDiscarded, Obj.wrapDrops] k) :
    KMap.get (State.takeoverBooks s cause).dict k d = KMap.get s.dict k d := by
  simp only [outside_cons, outside_nil, and_true] at hs
  simp [State.takeoverBooks, hs]

@[simp] theorem State.takeoverServe_cell (s : State) (k : Nat) (d : Val) (hs : Outside [Obj.calChannel, Obj.calState, Obj.chargeLimit,
      Obj.dischargeLimit, Obj.episodeNewest, Obj.maintPermit, Obj.modeCause, Obj.queueDrops, Obj.recSeq, Obj.txDiscarded, Obj.wrapDrops] k) :
    KMap.get (State.takeoverServe s).dict k d = KMap.get s.dict k d := by
  simp only [outside_cons, outside_nil, and_true] at hs
  simp only [State.takeoverServe]
  (repeat' split) <;> simp [hs]

@[simp] theorem State.takeover_cell (s : State) (basis cause : Nat) (k : Nat) (d : Val) (hs : Outside [Obj.balEnable, Obj.calChannel,
      Obj.calState, Obj.captureMerged, Obj.captureRefused, Obj.chargeLimit, Obj.ckptGenSent, Obj.currentInUse, Obj.descFlags, Obj.descHeadPack,
      Obj.descModuleCount, Obj.descSeq, Obj.descStandbyPack, Obj.descStringId, Obj.dischargeLimit, Obj.episodeNewest, Obj.failovers,
      Obj.faultRaises, Obj.headBasis, Obj.isoAge, Obj.isoRn, Obj.isoRp, Obj.lastTakeover, Obj.maintPermit, Obj.membershipGen, Obj.modeCause,
      Obj.queueDrops, Obj.raiseCount, Obj.recSeq, Obj.takeoverCause, Obj.takeoverDuration, Obj.tripCause, Obj.tripNode, Obj.txDiscarded,
      Obj.wrapDrops] k) :
    KMap.get (State.takeover s basis cause).dict k d = KMap.get s.dict k d := by
  simp only [outside_cons, outside_nil, and_true] at hs
  simp [State.takeover, hs]

@[simp] theorem State.recognise_cell (s : State) (cause : Nat) (k : Nat) (d : Val) (hs : Outside [Obj.balEnable, Obj.calChannel, Obj.calState,
      Obj.captureMerged, Obj.captureRefused, Obj.chargeLimit, Obj.ckptGenSent, Obj.currentInUse, Obj.descFlags, Obj.descHeadPack,
      Obj.descModuleCount, Obj.descSeq, Obj.descStandbyPack, Obj.descStringId, Obj.dischargeLimit, Obj.episodeNewest, Obj.failovers,
      Obj.faultRaises, Obj.headBasis, Obj.isoAge, Obj.isoRn, Obj.isoRp, Obj.lastTakeover, Obj.maintPermit, Obj.membershipGen, Obj.modeCause,
      Obj.queueDrops, Obj.raiseCount, Obj.recSeq, Obj.takeoverCause, Obj.takeoverDuration, Obj.tripCause, Obj.tripNode, Obj.txDiscarded,
      Obj.wrapDrops] k) :
    KMap.get (State.recognise s cause).dict k d = KMap.get s.dict k d := by
  simp only [outside_cons, outside_nil, and_true] at hs
  simp only [State.recognise]
  (repeat' split) <;> simp [hs]

@[simp] theorem State.takeAbdicate_cell (s : State) (via : NoticeVia) (n : Notice) (k : Nat) (d : Val) (hs : Outside [Obj.auxDeferred,
      Obj.balEnable, Obj.calChannel, Obj.calState, Obj.captureMerged, Obj.captureRefused, Obj.chargeLimit, Obj.ckptGenSent, Obj.currentInUse,
      Obj.descFlags, Obj.descHeadPack, Obj.descModuleCount, Obj.descSeq, Obj.descStandbyPack, Obj.descStringId, Obj.dischargeLimit,
      Obj.episodeNewest, Obj.failovers, Obj.faultRaises, Obj.headBasis, Obj.isoAge, Obj.isoRn, Obj.isoRp, Obj.lastTakeover, Obj.maintPermit,
      Obj.membershipGen, Obj.modeCause, Obj.nodeIdConflicts, Obj.owtDeferred, Obj.queueDrops, Obj.raiseCount, Obj.recSeq, Obj.settleEvents,
      Obj.takeoverCause, Obj.takeoverDuration, Obj.tripCause, Obj.tripNode, Obj.txDiscarded, Obj.wrapDrops] k) :
    KMap.get (State.takeAbdicate s via n).dict k d = KMap.get s.dict k d := by
  simp only [outside_cons, outside_nil, and_true] at hs
  simp only [State.takeAbdicate]
  (repeat' split) <;> simp [hs]

@[simp] theorem State.takeAuxLoss_cell (s : State) (via : NoticeVia) (n : Notice) (k : Nat) (d : Val) (hs : Outside [Obj.calChannel,
      Obj.calState, Obj.captureMerged, Obj.captureRefused, Obj.chargeLimit, Obj.dischargeLimit, Obj.episodeNewest, Obj.faultRaises,
      Obj.maintPermit, Obj.modeCause, Obj.nodeIdConflicts, Obj.queueDrops, Obj.raiseCount, Obj.recSeq, Obj.txDiscarded, Obj.wrapDrops] k) :
    KMap.get (State.takeAuxLoss s via n).dict k d = KMap.get s.dict k d := by
  simp only [outside_cons, outside_nil, and_true] at hs
  simp only [State.takeAuxLoss]
  (repeat' split) <;> simp [hs]

@[simp] theorem State.frameDone_cell (s : State) (b : Bus) (f : TxFrame) (delay : Nat) (k : Nat) (d : Val) (hs : Outside [Obj.calChannel,
      Obj.calState, Obj.captureMerged, Obj.captureRefused, Obj.episodeNewest, Obj.faultRaises, Obj.maintPermit, Obj.modeCause, Obj.queueDrops,
      Obj.raiseCount, Obj.recSeq, Obj.tdcValue, Obj.txDiscarded, Obj.wrapDrops] k) :
    KMap.get (State.frameDone s b f delay).dict k d = KMap.get s.dict k d := by
  simp only [outside_cons, outside_nil, and_true] at hs
  simp only [State.frameDone]
  (repeat' split) <;> simp [hs]

@[simp] theorem State.frameUnacked_cell (s : State) (b : Bus) (k : Nat) (d : Val) (hs : Outside [Obj.ackErrors, Obj.errorFrames] k) :
    KMap.get (State.frameUnacked s b).dict k d = KMap.get s.dict k d := by
  simp only [outside_cons, outside_nil, and_true] at hs
  simp [State.frameUnacked, hs]

@[simp] theorem State.frameBad_cell (s : State) (b : Bus) (f : TxFrame) (k : Nat) (d : Val) (hs : Outside [Obj.errorFrames] k) :
    KMap.get (State.frameBad s b f).dict k d = KMap.get s.dict k d := by
  simp only [outside_cons, outside_nil, and_true] at hs
  simp [State.frameBad, hs]

@[simp] theorem State.copyNotices_cell (s : State) (b : Bus) (k : Nat) (d : Val) (hs : Outside [Obj.txDiscarded] k) :
    KMap.get (State.copyNotices s b).dict k d = KMap.get s.dict k d := by
  simp only [outside_cons, outside_nil, and_true] at hs
  simp only [State.copyNotices]
  (repeat' split) <;> simp [hs]

@[simp] theorem State.dropFrames_cell (s : State) (b : Bus) (k : Nat) (d : Val) (hs : Outside [Obj.txDiscarded] k) :
    KMap.get (State.dropFrames s b).dict k d = KMap.get s.dict k d := by
  simp only [outside_cons, outside_nil, and_true] at hs
  simp [State.dropFrames, hs]

@[simp] theorem State.busEnableApply_cell (s : State) (b : Bus) (on : Bool) (k : Nat) (d : Val) (hs : Outside [Obj.txDiscarded] k) :
    KMap.get (State.busEnableApply s b on).dict k d = KMap.get s.dict k d := by
  simp only [outside_cons, outside_nil, and_true] at hs
  unfold State.busEnableApply
  (repeat' split) <;> simp [hs]

@[simp] theorem State.noteStatus_cell (s : State) (r : StatusRec) (bus : Bool) (k : Nat) (d : Val) (hs : Outside [Obj.chargeLimit,
      Obj.dischargeLimit, Obj.queueDrops, Obj.txDiscarded, Obj.wrapDrops] k) :
    KMap.get (State.noteStatus s r bus).dict k d = KMap.get s.dict k d := by
  simp only [outside_cons, outside_nil, and_true] at hs
  simp only [State.noteStatus]
  (repeat' split) <;> simp [hs]

@[simp] theorem State.headHears_cell (s : State) (r : HeartbeatRec) (k : Nat) (d : Val) (hs : Outside [Obj.calChannel, Obj.calState,
      Obj.captureMerged, Obj.captureRefused, Obj.episodeNewest, Obj.faultRaises, Obj.maintPermit, Obj.modeCause, Obj.queueDrops, Obj.raiseCount,
      Obj.recSeq, Obj.txDiscarded, Obj.wrapDrops] k) :
    KMap.get (State.headHears s r).dict k d = KMap.get s.dict k d := by
  simp only [outside_cons, outside_nil, and_true] at hs
  unfold State.headHears
  (repeat' split) <;> simp [hs]

@[simp] theorem State.hears_cell (s : State) (r : HeartbeatRec) (k : Nat) (d : Val) (hs : Outside [Obj.calChannel, Obj.calState,
      Obj.captureMerged, Obj.captureRefused, Obj.episodeNewest, Obj.faultRaises, Obj.maintPermit, Obj.membershipGen, Obj.modeCause,
      Obj.queueDrops, Obj.raiseCount, Obj.recSeq, Obj.txDiscarded, Obj.wrapDrops] k) :
    KMap.get (State.hears s r).dict k d = KMap.get s.dict k d := by
  simp only [outside_cons, outside_nil, and_true] at hs
  simp [State.hears, hs]

@[simp] theorem State.takeHeartbeat_cell (s : State) (r : HeartbeatRec) (k : Nat) (d : Val) (hs : Outside [Obj.auxDeferred, Obj.calChannel,
      Obj.calState, Obj.captureMerged, Obj.captureRefused, Obj.episodeNewest, Obj.faultRaises, Obj.maintPermit, Obj.membershipGen,
      Obj.modeCause, Obj.owtDeferred, Obj.queueDrops, Obj.raiseCount, Obj.recSeq, Obj.settleEvents, Obj.txDiscarded, Obj.wrapDrops] k) :
    KMap.get (State.takeHeartbeat s r).dict k d = KMap.get s.dict k d := by
  simp only [outside_cons, outside_nil, and_true] at hs
  unfold State.takeHeartbeat
  (repeat' split) <;> simp [hs]

@[simp] theorem State.humidityCheck_cell (s : State) (rh : Rat) (k : Nat) (d : Val) (hs : Outside [Obj.calChannel, Obj.calState,
      Obj.captureMerged, Obj.captureRefused, Obj.episodeNewest, Obj.faultRaises, Obj.maintPermit, Obj.modeCause, Obj.queueDrops, Obj.raiseCount,
      Obj.recSeq, Obj.txDiscarded, Obj.wrapDrops] k) :
    KMap.get (State.humidityCheck s rh).dict k d = KMap.get s.dict k d := by
  simp only [outside_cons, outside_nil, and_true] at hs
  simp only [State.humidityCheck]
  (repeat' split) <;> simp [hs]

@[simp] theorem State.gridCheck_cell (s : State) (g : Rat) (k : Nat) (d : Val) (hs : Outside [Obj.calChannel, Obj.calState, Obj.captureMerged,
      Obj.captureRefused, Obj.episodeNewest, Obj.faultRaises, Obj.maintPermit, Obj.modeCause, Obj.queueDrops, Obj.raiseCount, Obj.recSeq,
      Obj.txDiscarded, Obj.wrapDrops] k) :
    KMap.get (State.gridCheck s g).dict k d = KMap.get s.dict k d := by
  simp only [outside_cons, outside_nil, and_true] at hs
  simp only [State.gridCheck]
  (repeat' split) <;> simp [hs]

@[simp] theorem State.rejectImage_cell (s : State) (code : Nat) (k : Nat) (d : Val) (hs : Outside [Obj.calChannel, Obj.calState,
      Obj.captureMerged, Obj.captureRefused, Obj.episodeNewest, Obj.faultRaises, Obj.maintPermit, Obj.modeCause, Obj.queueDrops, Obj.raiseCount,
      Obj.recSeq, Obj.txDiscarded, Obj.updateReject, Obj.updateState, Obj.wrapDrops] k) :
    KMap.get (State.rejectImage s code).dict k d = KMap.get s.dict k d := by
  simp only [outside_cons, outside_nil, and_true] at hs
  simp [State.rejectImage, hs]

@[simp] theorem State.discardUpdate_cell (s : State) (k : Nat) (d : Val) (hs : Outside [Obj.updateBlocksReceived, Obj.updateState] k) :
    KMap.get (State.discardUpdate s).dict k d = KMap.get s.dict k d := by
  simp only [outside_cons, outside_nil, and_true] at hs
  simp [State.discardUpdate, hs]

@[simp] theorem State.calSolve_cell (s : State) (k : Nat) (d : Val) (hs : Outside [Obj.calChannel, Obj.calState] k) :
    KMap.get (State.calSolve s).dict k d = KMap.get s.dict k d := by
  simp only [outside_cons, outside_nil, and_true] at hs
  simp [State.calSolve, hs]

@[simp] theorem State.paramVersion_cell (s : State) (k : Nat) (d : Val) (hs : Outside [Obj.packParamVersion] k) :
    KMap.get (State.paramVersion s).dict k d = KMap.get s.dict k d := by
  simp only [outside_cons, outside_nil, and_true] at hs
  simp [State.paramVersion, hs]

@[simp] theorem State.finishJobs_cell (s : State) (k : Nat) (d : Val) (hs : Outside [Obj.changeLogPackCopied] k) :
    KMap.get (State.finishJobs s).dict k d = KMap.get s.dict k d := by
  simp only [outside_cons, outside_nil, and_true] at hs
  simp [State.finishJobs, hs]

@[simp] theorem State.leaveMaint_cell (s : State) (k : Nat) (d : Val) (hs : Outside [Obj.calChannel, Obj.calState, Obj.episodeNewest,
      Obj.maintPermit, Obj.modeCause, Obj.recSeq] k) :
    KMap.get (State.leaveMaint s).dict k d = KMap.get s.dict k d := by
  simp only [outside_cons, outside_nil, and_true] at hs
  simp [State.leaveMaint, hs]

@[simp] theorem State.wakeAux_cell (s : State) (k : Nat) (d : Val) (hs : Outside [Obj.startSource] k) :
    KMap.get (State.wakeAux s).dict k d = KMap.get s.dict k d := by
  simp only [outside_cons, outside_nil, and_true] at hs
  simp [State.wakeAux, hs]

@[simp] theorem State.cancelHoldup_cell (s : State) (k : Nat) (d : Val) (hs : Outside [Obj.calChannel, Obj.calState, Obj.episodeNewest,
      Obj.maintPermit, Obj.modeCause, Obj.recSeq, Obj.sentValue] k) :
    KMap.get (State.cancelHoldup s).dict k d = KMap.get s.dict k d := by
  simp only [outside_cons, outside_nil, and_true] at hs
  simp only [State.cancelHoldup]
  (repeat' split) <;> simp [hs]

@[simp] theorem State.shedLoads_cell (s : State) (k : Nat) (d : Val) (hs : Outside [Obj.fanDuty, Obj.sentValue, Obj.valveCommand] k) :
    KMap.get (State.shedLoads s).dict k d = KMap.get s.dict k d := by
  simp only [outside_cons, outside_nil, and_true] at hs
  simp only [State.shedLoads]
  (repeat' split) <;> simp [hs]

@[simp] theorem State.holdupWrite_cell (s : State) (go : State → State) (k : Nat) (d : Val)
    (h : ∀ x, KMap.get (go x).dict k d = KMap.get x.dict k d) : KMap.get (s.holdupWrite go).dict k d = KMap.get s.dict k d := by
  unfold State.holdupWrite
  (repeat' split) <;> simp [h]

@[simp] theorem State.holdupWrites_cell (s : State) (k : Nat) (d : Val) (hs : Outside [Obj.capWriteSkips] k) :
    KMap.get (State.holdupWrites s).dict k d = KMap.get s.dict k d := by
  simp only [outside_cons, outside_nil, and_true] at hs
  simp [State.holdupWrites, hs]

@[simp] theorem State.holdupNotices_cell (s : State) (k : Nat) (d : Val) (hs : Outside [Obj.queueDrops, Obj.txDiscarded, Obj.wrapDrops] k) :
    KMap.get (State.holdupNotices s).dict k d = KMap.get s.dict k d := by
  simp only [outside_cons, outside_nil, and_true] at hs
  simp only [State.holdupNotices]
  (repeat' split) <;> simp [hs]

@[simp] theorem State.hotspot_cell (s : State) (h : Rat) (die board : Nat) (k : Nat) (d : Val) (hs : Outside [Obj.balLimited, Obj.calChannel,
      Obj.calState, Obj.captureMerged, Obj.captureRefused, Obj.derateFraction, Obj.episodeNewest, Obj.faultRaises, Obj.hotspotTemp,
      Obj.maintPermit, Obj.modeCause, Obj.queueDrops, Obj.raiseCount, Obj.recSeq, Obj.txDiscarded, Obj.wrapDrops] k) :
    KMap.get (State.hotspot s h die board).dict k d = KMap.get s.dict k d := by
  simp only [outside_cons, outside_nil, and_true] at hs
  simp only [State.hotspot]
  (repeat' split) <;> simp [hs]

@[simp] theorem State.trialPass_cell (s : State) (k : Nat) (d : Val) (hs : Outside [Obj.updateState] k) :
    KMap.get (State.trialPass s).dict k d = KMap.get s.dict k d := by
  simp only [outside_cons, outside_nil, and_true] at hs
  simp only [State.trialPass]
  (repeat' split) <;> simp [hs]

@[simp] theorem State.readCapacity_cell (s : State) (k : Nat) (d : Val) (hs : Outside [Obj.calChannel, Obj.calState, Obj.capRecordInForce,
      Obj.captureMerged, Obj.captureRefused, Obj.episodeNewest, Obj.faultRaises, Obj.maintPermit, Obj.modeCause, Obj.queueDrops, Obj.raiseCount,
      Obj.recSeq, Obj.txDiscarded, Obj.wrapDrops] k) :
    KMap.get (State.readCapacity s).dict k d = KMap.get s.dict k d := by
  simp only [outside_cons, outside_nil, and_true] at hs
  unfold State.readCapacity
  (repeat' split) <;> simp [hs]

@[simp] theorem State.startSources_cell (s : State) (r : StartRec) (k : Nat) (d : Val) (hs : Outside [Obj.calChannel, Obj.calState,
      Obj.captureMerged, Obj.captureRefused, Obj.episodeNewest, Obj.faultRaises, Obj.maintPermit, Obj.modeCause, Obj.queueDrops, Obj.raiseCount,
      Obj.recSeq, Obj.txDiscarded, Obj.wrapDrops] k) :
    KMap.get (State.startSources s r).dict k d = KMap.get s.dict k d := by
  simp only [outside_cons, outside_nil, and_true] at hs
  simp only [State.startSources]
  (repeat' split) <;> simp [hs]

@[simp] theorem State.handKa_cell (s : State) (k : Nat) (d : Val) (hs : Outside [Obj.episodeNewest, Obj.recSeq] k) :
    KMap.get (State.handKa s).dict k d = KMap.get s.dict k d := by
  simp only [outside_cons, outside_nil, and_true] at hs
  unfold State.handKa
  (repeat' split) <;> simp [hs]

@[simp] theorem State.startEpisodes_cell (s : State) (k : Nat) (d : Val) (hs : Outside [Obj.episodeNewest, Obj.recSeq] k) :
    KMap.get (State.startEpisodes s).dict k d = KMap.get s.dict k d := by
  simp only [outside_cons, outside_nil, and_true] at hs
  simp only [State.startEpisodes]
  (repeat' split) <;> simp [hs]

@[simp] theorem State.joinString_cell (s : State) (k : Nat) (d : Val) (hs : Outside [Obj.txDiscarded] k) :
    KMap.get (State.joinString s).dict k d = KMap.get s.dict k d := by
  simp only [outside_cons, outside_nil, and_true] at hs
  unfold State.joinString
  (repeat' split) <;> simp [hs]

@[simp] theorem State.rwpFollow_cell (s : State) (r : RwpPending) (o : ObjDef) (i j : Nat) (k : Nat) (d : Val) (hs : Outside [Obj.currentInUse,
      Obj.episodeNewest, Obj.queueDrops, Obj.recSeq, Obj.sentValue, Obj.txDiscarded, Obj.wrapDrops] k) :
    KMap.get (State.rwpFollow s r o i j).dict k d = KMap.get s.dict k d := by
  simp only [outside_cons, outside_nil, and_true] at hs
  cases h : protAt (o.index + i) (o.sub + j) <;> simp [State.rwpFollow, h, hs]

@[simp] theorem State.pxDiscard_cell (s : State) (q : PxReq) (k : Nat) (d : Val) (hs : Outside [Obj.pxErrors] k) :
    KMap.get (State.pxDiscard s q).dict k d = KMap.get s.dict k d := by
  simp only [outside_cons, outside_nil, and_true] at hs
  unfold State.pxDiscard
  (repeat' split) <;> simp [hs]

@[simp] theorem State.pxReadOp_cell (s : State) (q : PxReq) (index sub : Nat) (k : Nat) (d : Val) (hs : Outside [Obj.authFailures,
      Obj.calChannel, Obj.calState, Obj.captureMerged, Obj.captureRefused, Obj.episodeNewest, Obj.faultRaises, Obj.maintPermit, Obj.modeCause,
      Obj.pxDuplicates, Obj.pxErrors, Obj.pxLastError, Obj.pxRequests, Obj.queueDrops, Obj.raiseCount, Obj.recSeq, Obj.txDiscarded,
      Obj.wrapDrops] k) :
    KMap.get (State.pxReadOp s q index sub).dict k d = KMap.get s.dict k d := by
  simp only [outside_cons, outside_nil, and_true] at hs
  simp only [State.pxReadOp]
  (repeat' split) <;> simp [hs]

@[simp] theorem State.sendInBlock_cell (s : State) (b : BlockXfer) (service code : Nat) (data : Bytes) (k : Nat) (d : Val) (hs : Outside [Obj.queueDrops, Obj.txDiscarded, Obj.wrapDrops] k) :
    KMap.get (State.sendInBlock s b service code data).dict k d = KMap.get s.dict k d := by
  simp only [outside_cons, outside_nil, and_true] at hs
  simp [State.sendInBlock, hs]

@[simp] theorem sendSegment_cell (x : State × BlockXfer) (n k : Nat) (d : Val) (hs : Outside [Obj.queueDrops, Obj.txDiscarded, Obj.wrapDrops] k) :
    KMap.get (sendSegment x n).1.dict k d = KMap.get x.1.dict k d := by
  simp only [outside_cons, outside_nil, and_true] at hs
  simp [sendSegment, hs]

@[simp] theorem sendSegments_cell (l : List Nat) (x : State × BlockXfer) (k : Nat) (d : Val)
    (hs : Outside [Obj.queueDrops, Obj.txDiscarded, Obj.wrapDrops] k) :
    KMap.get (l.foldl sendSegment x).1.dict k d = KMap.get x.1.dict k d := by
  induction l generalizing x with
  | nil => rfl
  | cons a r ih => simp only [List.foldl_cons, ih, sendSegment_cell _ _ _ _ hs]

@[simp] theorem State.pumpBlock_cell (s : State) (b : BlockXfer) (k : Nat) (d : Val) (hs : Outside [Obj.queueDrops, Obj.txDiscarded,
      Obj.wrapDrops] k) :
    KMap.get (State.pumpBlock s b).dict k d = KMap.get s.dict k d := by
  simp only [outside_cons, outside_nil, and_true] at hs
  unfold State.pumpBlock
  split <;> simp [hs]

@[simp] theorem State.blockReadOp_cell (s : State) (q : PxReq) (index sub off size : Nat) (k : Nat) (d : Val) (hs : Outside [Obj.authFailures,
      Obj.calChannel, Obj.calState, Obj.captureMerged, Obj.captureRefused, Obj.episodeNewest, Obj.faultRaises, Obj.maintPermit, Obj.modeCause,
      Obj.pxDuplicates, Obj.pxErrors, Obj.pxLastError, Obj.pxRequests, Obj.queueDrops, Obj.raiseCount, Obj.recSeq, Obj.txDiscarded,
      Obj.wrapDrops] k) :
    KMap.get (State.blockReadOp s q index sub off size).dict k d = KMap.get s.dict k d := by
  simp only [outside_cons, outside_nil, and_true] at hs
  simp only [State.blockReadOp]
  (repeat' split) <;> simp [hs]

@[simp] theorem State.grantWrite_cell (s : State) (q : PxReq) (index sub off size counter : Nat) (k : Nat) (d : Val) (hs : Outside [Obj.pxErrors, Obj.pxLastError, Obj.queueDrops, Obj.txDiscarded, Obj.wrapDrops] k) :
    KMap.get (State.grantWrite s q index sub off size counter).dict k d = KMap.get s.dict k d := by
  simp only [outside_cons, outside_nil, and_true] at hs
  unfold State.grantWrite
  (repeat' split) <;> simp [hs]

@[simp] theorem State.blockWriteOp_cell (s : State) (q : PxReq) (index sub off size : Nat) (k : Nat) (d : Val) (hs : Outside [Obj.authFailures,
      Obj.calChannel, Obj.calState, Obj.captureMerged, Obj.captureRefused, Obj.changeLogNewest, Obj.episodeNewest, Obj.faultRaises,
      Obj.maintPermit, Obj.modeCause, Obj.pxDuplicates, Obj.pxErrors, Obj.pxLastError, Obj.pxRequests, Obj.queueDrops, Obj.raiseCount,
      Obj.recSeq, Obj.txDiscarded, Obj.wrapDrops] k) :
    KMap.get (State.blockWriteOp s q index sub off size).dict k d = KMap.get s.dict k d := by
  simp only [outside_cons, outside_nil, and_true] at hs
  simp only [State.blockWriteOp]
  (repeat' split) <;> simp [hs]

@[simp] theorem State.segmentOp_cell (s : State) (q : PxReq) (k : Nat) (d : Bytes) (k₀ : Nat) (d₀ : Val) (hs : Outside [Obj.queueDrops,
      Obj.txDiscarded, Obj.wrapDrops] k₀) :
    KMap.get (State.segmentOp s q k d).dict k₀ d₀ = KMap.get s.dict k₀ d₀ := by
  simp only [outside_cons, outside_nil, and_true] at hs
  simp only [State.segmentOp]
  (repeat' split) <;> simp [hs]

@[simp] theorem State.ackOp_cell (s : State) (q : PxReq) (next : Nat) (k : Nat) (d : Val) (hs : Outside [Obj.authFailures, Obj.calChannel,
      Obj.calState, Obj.captureMerged, Obj.captureRefused, Obj.episodeNewest, Obj.faultRaises, Obj.maintPermit, Obj.modeCause, Obj.pxErrors,
      Obj.pxLastError, Obj.queueDrops, Obj.raiseCount, Obj.recSeq, Obj.txDiscarded, Obj.wrapDrops] k) :
    KMap.get (State.ackOp s q next).dict k d = KMap.get s.dict k d := by
  simp only [outside_cons, outside_nil, and_true] at hs
  simp only [State.ackOp]
  (repeat' split) <;> simp [hs]

@[simp] theorem State.logLost_cell (s : State) (b : BlockXfer) (code : Nat) (k : Nat) (d : Val) (hs : Outside [Obj.changeLogNewest] k) :
    KMap.get (State.logLost s b code).dict k d = KMap.get s.dict k d := by
  simp only [outside_cons, outside_nil, and_true] at hs
  unfold State.logLost
  (repeat' split) <;> simp [hs]

@[simp] theorem State.abortOp_cell (s : State) (q : PxReq) (k : Nat) (d : Val) (hs : Outside [Obj.authFailures, Obj.calChannel, Obj.calState,
      Obj.captureMerged, Obj.captureRefused, Obj.changeLogNewest, Obj.episodeNewest, Obj.faultRaises, Obj.maintPermit, Obj.modeCause,
      Obj.pxErrors, Obj.pxLastError, Obj.queueDrops, Obj.raiseCount, Obj.recSeq, Obj.txDiscarded, Obj.wrapDrops] k) :
    KMap.get (State.abortOp s q).dict k d = KMap.get s.dict k d := by
  simp only [outside_cons, outside_nil, and_true] at hs
  unfold State.abortOp
  (repeat' split) <;> simp [hs]

@[simp] theorem State.ackOverdue_cell (s : State) (b : BlockXfer) (k : Nat) (d : Val) (hs : Outside [Obj.queueDrops, Obj.txDiscarded,
      Obj.wrapDrops] k) :
    KMap.get (State.ackOverdue s b).dict k d = KMap.get s.dict k d := by
  simp only [outside_cons, outside_nil, and_true] at hs
  unfold State.ackOverdue
  (repeat' split) <;> simp [hs]

@[simp] theorem State.keepArea_cell (s : State) (node : Nat) (a : Bytes) (k : Nat) (d : Val) (hs : Outside [Obj.headPubCopy] k) :
    KMap.get (State.keepArea s node a).dict k d = KMap.get s.dict k d := by
  simp only [outside_cons, outside_nil, and_true] at hs
  simp [State.keepArea, hs]

end Sys2Proof.Machine

namespace Sys2Proof.Machine

/-! A write's own effect, and the path of every write. -/

theorem State.armAngle_cell (s : State) (unit : AngleUnit) (user : AngleUser) (every : Bool) (a : Nat) (s' : State)
    (h : s.armAngle unit user every a = some s') (k : Nat) (d : Val) (hs : Outside [Obj.lateEvents] k) :
    KMap.get s'.dict k d = KMap.get s.dict k d := by
  simp only [outside_cons, outside_nil, and_true] at hs
  simp only [State.armAngle] at h
  split at h
  · cases h
  · cases h; simp [hs]

theorem State.hostRegArm_cell (s : State) (mode frac : Nat) (s' : State) (h : s.hostRegArm mode frac = some s') (k : Nat) (d : Val)
    (hs : Outside [Obj.lateEvents] k) : KMap.get s'.dict k d = KMap.get s.dict k d := by
  simp only [State.hostRegArm] at h
  split at h
  · exact State.armAngle_cell _ _ _ _ _ _ h _ _ hs
  · cases h; simp

@[simp] theorem storeValue_cell (o : ObjDef) (i j : Nat) (data : Bytes) (k : Nat) (d : Val) (ho : o.free k = true) :
    PxEffect.Keeps (storeValue o i j data) (fun s => KMap.get s.dict k d) := by
  intro s s' h
  dsimp only
  simp only [storeValue] at h
  (repeat' split at h) <;> first | (cases h; done) | (cases h; simp [ho])

@[simp] theorem recClearEffect_cell (q : PxReq) (v : Nat) (k : Nat) (d : Val) (hs : Outside [Obj.episodeNewest, Obj.recSeq] k) :
    PxEffect.Keeps (recClearEffect q v) (fun s => KMap.get s.dict k d) := by
  intro s s' h
  dsimp only
  simp only [outside_cons, outside_nil, and_true] at hs
  simp only [recClearEffect] at h
  (repeat' split at h) <;> first | (cases h; done) | (cases h; simp [hs])

@[simp] theorem captureAngleEffect_cell (v : Nat) (k : Nat) (d : Val) (hs : Outside [Obj.captureAngle, Obj.lateEvents] k) :
    PxEffect.Keeps (captureAngleEffect v) (fun s => KMap.get s.dict k d) := by
  intro s s' h
  dsimp only
  simp only [outside_cons, outside_nil, and_true] at hs
  simp only [captureAngleEffect] at h
  split at h
  · cases h; simp [hs]
  · split at h
    · rename_i heq; cases h; have := State.armAngle_cell _ _ _ _ _ _ heq k d (by simp [hs]); simp_all
    · cases h

@[simp] theorem captureReadoutEffect_cell (d : Bytes) (k : Nat) (d₀ : Val) (hs : Outside [Obj.queueDrops, Obj.wrapDrops] k) :
    PxEffect.Keeps (captureReadoutEffect d) (fun s => KMap.get s.dict k d₀) := by
  intro s s' h
  dsimp only
  simp only [outside_cons, outside_nil, and_true] at hs
  simp only [captureReadoutEffect] at h
  (repeat' split at h) <;> first | (cases h; done) | (cases h; simp [hs])

@[simp] theorem captureReleaseEffect_cell (v : Nat) (k : Nat) (d : Val) :
    PxEffect.Keeps (captureReleaseEffect v) (fun s => KMap.get s.dict k d) := by
  intro s s' h
  dsimp only
  simp only [captureReleaseEffect] at h
  (repeat' split at h) <;> first | (cases h; done) | (cases h; simp)

@[simp] theorem packIdentityEffect_cell (v : Nat) (k : Nat) (d : Val) (hs : Outside [Obj.packIdentity] k) :
    PxEffect.Keeps (packIdentityEffect v) (fun s => KMap.get s.dict k d) := by
  intro s s' h
  dsimp only
  simp only [outside_cons, outside_nil, and_true] at hs
  simp only [packIdentityEffect] at h
  (repeat' split at h) <;> first | (cases h; done) | (cases h; simp [hs])

@[simp] theorem hostRegStartEffect_cell  (k : Nat) (d : Val) (hs : Outside [Obj.auxDeferred, Obj.owtDeferred, Obj.regOverrun, Obj.settleEvents] k) :
    PxEffect.Keeps (hostRegStartEffect ) (fun s => KMap.get s.dict k d) := by
  intro s s' h
  dsimp only
  simp only [outside_cons, outside_nil, and_true] at hs
  unfold hostRegStartEffect at h
  (repeat' split at h) <;> first | (cases h; done) | (cases h; simp [hs])

@[simp] theorem planEffect_cell (q : PxReq) (b : Bytes) (k : Nat) (d : Val) (hs : Outside [Obj.balLimited, Obj.balPlanLast, Obj.balReport,
      Obj.calChannel, Obj.calState, Obj.captureMerged, Obj.captureRefused, Obj.episodeNewest, Obj.faultRaises, Obj.maintPermit, Obj.modeCause,
      Obj.planRejected, Obj.queueDrops, Obj.raiseCount, Obj.recSeq, Obj.txDiscarded, Obj.wrapDrops] k) :
    PxEffect.Keeps (planEffect q b) (fun s => KMap.get s.dict k d) := by
  intro s s' h
  dsimp only
  simp only [outside_cons, outside_nil, and_true] at hs
  simp only [planEffect] at h
  (repeat' split at h) <;> first | (cases h; done) | (cases h; simp [hs])

@[simp] theorem balctrlEffect_cell (dev v : Nat) (k : Nat) (d : Val) (hs : Outside [Obj.balLimited] k) :
    PxEffect.Keeps (balctrlEffect dev v) (fun s => KMap.get s.dict k d) := by
  intro s s' h
  dsimp only
  simp only [outside_cons, outside_nil, and_true] at hs
  simp only [balctrlEffect] at h
  (repeat' split at h) <;> first | (cases h; done) | (cases h; simp [hs])

@[simp] theorem loopEnableEffect_cell (i v : Nat) (k : Nat) (d : Val) (hs : Outside [Obj.loopEnable] k) :
    PxEffect.Keeps (loopEnableEffect i v) (fun s => KMap.get s.dict k d) := by
  intro s s' h
  dsimp only
  simp only [outside_cons, outside_nil, and_true] at hs
  simp only [loopEnableEffect] at h
  (repeat' split at h) <;> first | (cases h; done) | (cases h; simp [hs])

@[simp] theorem bankEffect_cell (i : Nat) (b : Bool) (d : Bytes) (k : Nat) (d₀ : Val) (hs : Outside [Obj.bankA, Obj.bankB] k) :
    PxEffect.Keeps (bankEffect i b d) (fun s => KMap.get s.dict k d₀) := by
  intro s s' h
  dsimp only
  simp only [outside_cons, outside_nil, and_true] at hs
  simp only [bankEffect] at h
  (repeat' split at h) <;> first | (cases h; done) | (cases h; simp [hs])

@[simp] theorem bankRequestEffect_cell (i v : Nat) (k : Nat) (d : Val) (hs : Outside [Obj.bankRequest] k) :
    PxEffect.Keeps (bankRequestEffect i v) (fun s => KMap.get s.dict k d) := by
  intro s s' h
  dsimp only
  simp only [outside_cons, outside_nil, and_true] at hs
  simp only [bankRequestEffect] at h
  (repeat' split at h) <;> first | (cases h; done) | (cases h; simp [hs])

@[simp] theorem inputBindEffect_cell (i : Nat) (d : Bytes) (k : Nat) (d₀ : Val) (hs : Outside [Obj.inputBind] k) :
    PxEffect.Keeps (inputBindEffect i d) (fun s => KMap.get s.dict k d₀) := by
  intro s s' h
  dsimp only
  simp only [outside_cons, outside_nil, and_true] at hs
  simp only [inputBindEffect] at h
  (repeat' split at h) <;> first | (cases h; done) | (cases h; simp [hs])

@[simp] theorem outputBindEffect_cell (i : Nat) (d : Bytes) (k : Nat) (d₀ : Val) (hs : Outside [Obj.outputBind] k) :
    PxEffect.Keeps (outputBindEffect i d) (fun s => KMap.get s.dict k d₀) := by
  intro s s' h
  dsimp only
  simp only [outside_cons, outside_nil, and_true] at hs
  simp only [outputBindEffect] at h
  (repeat' split at h) <;> first | (cases h; done) | (cases h; simp [hs])

@[simp] theorem setpointEffect_cell (i j : Nat) (v : BitVec 32) (k : Nat) (d : Val) (hs : Outside [Obj.setpoint] k) :
    PxEffect.Keeps (setpointEffect i j v) (fun s => KMap.get s.dict k d) := by
  intro s s' h
  dsimp only
  simp only [outside_cons, outside_nil, and_true] at hs
  simp only [setpointEffect] at h
  (repeat' split at h) <;> first | (cases h; done) | (cases h; simp [hs])

@[simp] theorem populatedCellsEffect_cell  (k : Nat) (d : Val) :
    PxEffect.Keeps (populatedCellsEffect ) (fun s => KMap.get s.dict k d) := by
  intro s s' h
  dsimp only
  simp only [populatedCellsEffect] at h
  (repeat' split at h) <;> first | (cases h; done) | (cases h; simp)

@[simp] theorem tripResetEffect_cell  (k : Nat) (d : Val) (hs : Outside [Obj.queueDrops, Obj.txDiscarded, Obj.wrapDrops] k) :
    PxEffect.Keeps (tripResetEffect ) (fun s => KMap.get s.dict k d) := by
  intro s s' h
  dsimp only
  simp only [outside_cons, outside_nil, and_true] at hs
  simp only [tripResetEffect] at h
  (repeat' split at h) <;> first | (cases h; done) | (cases h; simp [hs])

@[simp] theorem closeEffect_cell  (k : Nat) (d : Val) (hs : Outside [Obj.chargeLimit, Obj.closeRefusal, Obj.dischargeLimit, Obj.queueDrops,
      Obj.txDiscarded, Obj.wrapDrops] k) :
    PxEffect.Keeps (closeEffect ) (fun s => KMap.get s.dict k d) := by
  intro s s' h
  dsimp only
  simp only [outside_cons, outside_nil, and_true] at hs
  simp only [closeEffect] at h
  (repeat' split at h) <;> first | (cases h; done) | (cases h; simp [hs])

@[simp] theorem openEffect_cell  (k : Nat) (d : Val) (hs : Outside [Obj.chargeLimit, Obj.dischargeLimit, Obj.queueDrops, Obj.txDiscarded,
      Obj.wrapDrops] k) :
    PxEffect.Keeps (openEffect ) (fun s => KMap.get s.dict k d) := by
  intro s s' h
  dsimp only
  simp only [outside_cons, outside_nil, and_true] at hs
  simp only [openEffect] at h
  (repeat' split at h) <;> first | (cases h; done) | (cases h; simp [hs])

@[simp] theorem contactorEffect_cell (v : Nat) (k : Nat) (d : Val) (hs : Outside [Obj.chargeLimit, Obj.closeRefusal, Obj.dischargeLimit,
      Obj.queueDrops, Obj.txDiscarded, Obj.wrapDrops] k) :
    PxEffect.Keeps (contactorEffect v) (fun s => KMap.get s.dict k d) := by
  intro s s' h
  dsimp only
  simp only [outside_cons, outside_nil, and_true] at hs
  unfold contactorEffect at h
  split at h
  · exact closeEffect_cell _ _ (by simp [hs]) _ _ h
  · exact openEffect_cell _ _ (by simp [hs]) _ _ h

@[simp] theorem protEffect_cell (o : ObjDef) (j : Nat) (fromHead : Bool) (d : Bytes) (k : Nat) (d₀ : Val) :
    PxEffect.Keeps (protEffect o j fromHead d) (fun s => KMap.get s.dict k d₀) := by
  intro s s' h
  dsimp only
  simp only [protEffect] at h
  (repeat' split at h) <;> first | (cases h; done) | (cases h; simp)

@[simp] theorem firstMoveEffect_cell  (k : Nat) (d : Val) (hs : Outside [Obj.episodeNewest, Obj.recSeq] k) :
    PxEffect.Keeps (firstMoveEffect ) (fun s => KMap.get s.dict k d) := by
  intro s s' h
  dsimp only
  simp only [outside_cons, outside_nil, and_true] at hs
  simp only [firstMoveEffect] at h
  (repeat' split at h) <;> first | (cases h; done) | (cases h; simp [hs])

@[simp] theorem pendingEffect_cell (j v : Nat) (k : Nat) (d : Val) :
    PxEffect.Keeps (pendingEffect j v) (fun s => KMap.get s.dict k d) := by
  intro s s' h
  dsimp only
  simp only [pendingEffect] at h
  (repeat' split at h) <;> first | (cases h; done) | (cases h; simp)

@[simp] theorem severityEffect_cell (source v : Nat) (k : Nat) (d : Val) :
    PxEffect.Keeps (severityEffect source v) (fun s => KMap.get s.dict k d) := by
  intro s s' h
  dsimp only
  simp only [severityEffect] at h
  (repeat' split at h) <;> first | (cases h; done) | (cases h; simp)

@[simp] theorem commitEffect_cell  (k : Nat) (d : Val) (hs : Outside [Obj.descFlags, Obj.descHeadPack, Obj.descModuleCount, Obj.descSeq,
      Obj.descStandbyPack, Obj.descStringId, Obj.queueDrops, Obj.wrapDrops] k) :
    PxEffect.Keeps (commitEffect ) (fun s => KMap.get s.dict k d) := by
  intro s s' h
  dsimp only
  simp only [outside_cons, outside_nil, and_true] at hs
  simp only [commitEffect] at h
  (repeat' split at h) <;> first | (cases h; done) | (cases h; simp [hs])

@[simp] theorem adoptEffect_cell (v : Nat) (k : Nat) (d : Val) (hs : Outside [Obj.adoptPack, Obj.calChannel, Obj.calState, Obj.captureMerged,
      Obj.captureRefused, Obj.episodeNewest, Obj.faultRaises, Obj.maintPermit, Obj.modeCause, Obj.queueDrops, Obj.raiseCount, Obj.recSeq,
      Obj.txDiscarded, Obj.wrapDrops] k) :
    PxEffect.Keeps (adoptEffect v) (fun s => KMap.get s.dict k d) := by
  intro s s' h
  dsimp only
  simp only [outside_cons, outside_nil, and_true] at hs
  simp only [adoptEffect] at h
  (repeat' split at h) <;> first | (cases h; done) | (cases h; simp [hs])

@[simp] theorem descEraseEffect_cell  (k : Nat) (d : Val) :
    PxEffect.Keeps (descEraseEffect ) (fun s => KMap.get s.dict k d) := by
  intro s s' h
  dsimp only
  simp only [descEraseEffect] at h
  (repeat' split at h) <;> first | (cases h; done) | (cases h; simp)

@[simp] theorem censusRequestEffect_cell  (k : Nat) (d : Val) (hs : Outside [Obj.queueDrops, Obj.wrapDrops] k) :
    PxEffect.Keeps (censusRequestEffect ) (fun s => KMap.get s.dict k d) := by
  intro s s' h
  dsimp only
  simp only [outside_cons, outside_nil, and_true] at hs
  simp only [censusRequestEffect] at h
  (repeat' split at h) <;> first | (cases h; done) | (cases h; simp [hs])

@[simp] theorem handoverEffect_cell  (k : Nat) (d : Val) (hs : Outside [Obj.ckptGenSent, Obj.queueDrops, Obj.wrapDrops] k) :
    PxEffect.Keeps (handoverEffect ) (fun s => KMap.get s.dict k d) := by
  intro s s' h
  dsimp only
  simp only [outside_cons, outside_nil, and_true] at hs
  simp only [handoverEffect] at h
  (repeat' split at h) <;> first | (cases h; done) | (cases h; simp [hs])

@[simp] theorem recoverEffect_cell (b : Bus) (k : Nat) (d : Val) :
    PxEffect.Keeps (recoverEffect b) (fun s => KMap.get s.dict k d) := by
  intro s s' h
  dsimp only
  simp only [recoverEffect] at h
  (repeat' split at h) <;> first | (cases h; done) | (cases h; simp)

@[simp] theorem calendarEffect_cell (d : Bytes) (k : Nat) (d₀ : Val) :
    PxEffect.Keeps (calendarEffect d) (fun s => KMap.get s.dict k d₀) := by
  intro s s' h
  dsimp only
  simp only [calendarEffect] at h
  (repeat' split at h) <;> first | (cases h; done) | (cases h; simp)

@[simp] theorem sessionOpenEffect_cell (q : PxReq) (d : Bytes) (k : Nat) (d₀ : Val) (hs : Outside [Obj.authFailures, Obj.calChannel,
      Obj.calState, Obj.captureMerged, Obj.captureRefused, Obj.episodeNewest, Obj.faultRaises, Obj.maintPermit, Obj.modeCause, Obj.queueDrops,
      Obj.raiseCount, Obj.recSeq, Obj.txDiscarded, Obj.wrapDrops] k) :
    PxEffect.Keeps (sessionOpenEffect q d) (fun s => KMap.get s.dict k d₀) := by
  intro s s' h
  dsimp only
  simp only [outside_cons, outside_nil, and_true] at hs
  simp only [sessionOpenEffect] at h
  (repeat' split at h) <;> first | (cases h; done) | (cases h; simp [hs])

@[simp] theorem sessionCloseEffect_cell (q : PxReq) (v : Nat) (k : Nat) (d : Val) (hs : Outside [Obj.authFailures, Obj.calChannel, Obj.calState,
      Obj.captureMerged, Obj.captureRefused, Obj.episodeNewest, Obj.faultRaises, Obj.maintPermit, Obj.modeCause, Obj.queueDrops, Obj.raiseCount,
      Obj.recSeq, Obj.txDiscarded, Obj.wrapDrops] k) :
    PxEffect.Keeps (sessionCloseEffect q v) (fun s => KMap.get s.dict k d) := by
  intro s s' h
  dsimp only
  simp only [outside_cons, outside_nil, and_true] at hs
  simp only [sessionCloseEffect] at h
  (repeat' split at h) <;> first | (cases h; done) | (cases h; simp [hs])

@[simp] theorem roleKeyEffect_cell (q : PxReq) (d : Bytes) (k : Nat) (d₀ : Val) (hs : Outside [Obj.authFailures, Obj.calChannel, Obj.calState,
      Obj.captureMerged, Obj.captureRefused, Obj.episodeNewest, Obj.faultRaises, Obj.maintPermit, Obj.modeCause, Obj.queueDrops, Obj.raiseCount,
      Obj.recSeq, Obj.txDiscarded, Obj.wrapDrops] k) :
    PxEffect.Keeps (roleKeyEffect q d) (fun s => KMap.get s.dict k d₀) := by
  intro s s' h
  dsimp only
  simp only [outside_cons, outside_nil, and_true] at hs
  simp only [roleKeyEffect] at h
  (repeat' split at h) <;> first | (cases h; done) | (cases h; simp [hs])

@[simp] theorem revokeEffect_cell (v : Nat) (k : Nat) (d : Val) :
    PxEffect.Keeps (revokeEffect v) (fun s => KMap.get s.dict k d) := by
  intro s s' h
  dsimp only
  simp only [revokeEffect] at h
  (repeat' split at h) <;> first | (cases h; done) | (cases h; simp)

@[simp] theorem manifestEffect_cell (d : Bytes) (k : Nat) (d₀ : Val) (hs : Outside [Obj.calChannel, Obj.calState, Obj.captureMerged,
      Obj.captureRefused, Obj.episodeNewest, Obj.faultRaises, Obj.maintPermit, Obj.modeCause, Obj.queueDrops, Obj.raiseCount, Obj.recSeq,
      Obj.txDiscarded, Obj.updateBlocksReceived, Obj.updateManifest, Obj.updateReject, Obj.updateState, Obj.wrapDrops] k) :
    PxEffect.Keeps (manifestEffect d) (fun s => KMap.get s.dict k d₀) := by
  intro s s' h
  dsimp only
  simp only [outside_cons, outside_nil, and_true] at hs
  simp only [manifestEffect] at h
  (repeat' split at h) <;> first | (cases h; done) | (cases h; simp [hs])

@[simp] theorem imageEffect_cell (i : Nat) (d : Bytes) (k : Nat) (d₀ : Val) (hs : Outside [Obj.calChannel, Obj.calState, Obj.captureMerged,
      Obj.captureRefused, Obj.episodeNewest, Obj.faultRaises, Obj.maintPermit, Obj.modeCause, Obj.queueDrops, Obj.raiseCount, Obj.recSeq,
      Obj.tagFailures, Obj.txDiscarded, Obj.updateBlocksReceived, Obj.updateReject, Obj.updateState, Obj.wrapDrops] k) :
    PxEffect.Keeps (imageEffect i d) (fun s => KMap.get s.dict k d₀) := by
  intro s s' h
  dsimp only
  simp only [outside_cons, outside_nil, and_true] at hs
  simp only [imageEffect] at h
  (repeat' split at h) <;> first | (cases h; done) | (cases h; simp [hs])

@[simp] theorem abortEffect_cell  (k : Nat) (d : Val) (hs : Outside [Obj.updateBlocksReceived, Obj.updateState] k) :
    PxEffect.Keeps (abortEffect ) (fun s => KMap.get s.dict k d) := by
  intro s s' h
  dsimp only
  simp only [outside_cons, outside_nil, and_true] at hs
  simp only [abortEffect] at h
  (repeat' split at h) <;> first | (cases h; done) | (cases h; simp [hs])

@[simp] theorem activateEffect_cell  (k : Nat) (d : Val) (hs : Outside [Obj.capWriteSkips, Obj.updateState] k) :
    PxEffect.Keeps (activateEffect ) (fun s => KMap.get s.dict k d) := by
  intro s s' h
  dsimp only
  simp only [outside_cons, outside_nil, and_true] at hs
  simp only [activateEffect] at h
  (repeat' split at h) <;> first | (cases h; done) | (cases h; simp [hs])

@[simp] theorem calStartEffect_cell  (k : Nat) (d : Val) (hs : Outside [Obj.calChannel, Obj.calDeferred, Obj.calState] k) :
    PxEffect.Keeps (calStartEffect ) (fun s => KMap.get s.dict k d) := by
  intro s s' h
  dsimp only
  simp only [outside_cons, outside_nil, and_true] at hs
  simp only [calStartEffect] at h
  (repeat' split at h) <;> first | (cases h; done) | (cases h; simp [hs])

@[simp] theorem calAbortEffect_cell  (k : Nat) (d : Val) (hs : Outside [Obj.calChannel, Obj.calState] k) :
    PxEffect.Keeps (calAbortEffect ) (fun s => KMap.get s.dict k d) := by
  intro s s' h
  dsimp only
  simp only [outside_cons, outside_nil, and_true] at hs
  simp only [calAbortEffect] at h
  (repeat' split at h) <;> first | (cases h; done) | (cases h; simp [hs])

@[simp] theorem maintPermitEffect_cell (v : Nat) (k : Nat) (d : Val) (hs : Outside [Obj.calChannel, Obj.calState, Obj.chargeLimit,
      Obj.dischargeLimit, Obj.episodeNewest, Obj.maintPermit, Obj.modeCause, Obj.queueDrops, Obj.recSeq, Obj.txDiscarded, Obj.wrapDrops] k) :
    PxEffect.Keeps (maintPermitEffect v) (fun s => KMap.get s.dict k d) := by
  intro s s' h
  dsimp only
  simp only [outside_cons, outside_nil, and_true] at hs
  simp only [maintPermitEffect] at h
  (repeat' split at h) <;> first | (cases h; done) | (cases h; simp [hs])

@[simp] theorem safeExitEffect_cell  (k : Nat) (d : Val) (hs : Outside [Obj.calChannel, Obj.calState, Obj.episodeNewest, Obj.maintPermit,
      Obj.modeCause, Obj.recSeq] k) :
    PxEffect.Keeps (safeExitEffect ) (fun s => KMap.get s.dict k d) := by
  intro s s' h
  dsimp only
  simp only [outside_cons, outside_nil, and_true] at hs
  simp only [safeExitEffect] at h
  (repeat' split at h) <;> first | (cases h; done) | (cases h; simp [hs])

@[simp] theorem shipArmEffect_cell (v : Nat) (k : Nat) (d : Val) :
    PxEffect.Keeps (shipArmEffect v) (fun s => KMap.get s.dict k d) := by
  intro s s' h
  dsimp only
  simp only [shipArmEffect] at h
  (repeat' split at h) <;> first | (cases h; done) | (cases h; simp)

@[simp] theorem deferIf_cell (ok : Bool) (k : Nat) (d : Val) :
    PxEffect.Keeps (deferIf ok) (fun s => KMap.get s.dict k d) := by
  intro s s' h
  dsimp only
  simp only [deferIf] at h
  (repeat' split at h) <;> first | (cases h; done) | (cases h; simp)

@[simp] theorem hostRegEffect_cell (angle : Bool) (v : Nat) (k : Nat) (d : Val) (hs : Outside [Obj.hostRegAngle, Obj.hostRegTrigger,
      Obj.lateEvents] k) :
    PxEffect.Keeps (hostRegEffect angle v) (fun s => KMap.get s.dict k d) := by
  intro s s' h
  dsimp only
  simp only [outside_cons, outside_nil, and_true] at hs
  simp only [hostRegEffect] at h
  split at h <;> (obtain ⟨t, ht, rfl⟩ := armed_state _ _ _ _ _ h; have := State.hostRegArm_cell _ _ _ _ ht k d (by simp [hs]); simp_all)

@[simp] theorem entryEffect_cell (o : ObjDef) (j w : Nat) (k : Nat) (d : Val) (ho : o.free k = true) :
    PxEffect.Keeps (entryEffect o j w) (fun s => KMap.get s.dict k d) := by
  intro s s' h
  dsimp only
  simp only [entryEffect] at h
  (repeat' split at h) <;> first | (cases h; done) | (cases h; simp [ho])

@[simp] theorem injEffect_cell (j v : Nat) (k : Nat) (d : Val) (hs : Outside [Obj.calChannel, Obj.calState, Obj.captureMerged,
      Obj.captureRefused, Obj.crossingStatus, Obj.episodeNewest, Obj.faultRaises, Obj.injTrigger, Obj.lateEvents, Obj.maintPermit,
      Obj.modeCause, Obj.queueDrops, Obj.raiseCount, Obj.recSeq, Obj.txDiscarded, Obj.wrapDrops] k) :
    PxEffect.Keeps (injEffect j v) (fun s => KMap.get s.dict k d) := by
  intro s s' h
  dsimp only
  simp only [outside_cons, outside_nil, and_true] at hs
  simp only [injEffect] at h
  split at h
  · obtain ⟨t, ht, rfl⟩ := armed_state _ _ _ _ _ h; have := State.armAngle_cell _ _ _ _ _ _ ht k d (by simp [hs]); simp_all
  · obtain ⟨t, ht, rfl⟩ := armed_state _ _ _ _ _ h; have := State.armAngle_cell _ _ _ _ _ _ ht k d (by simp [hs]); simp_all
  · cases h; simp [hs]
  · cases h; simp [hs]

@[simp] theorem queueSizeEffect_cell (i v : Nat) (k : Nat) (d : Val) (hs : Outside [Obj.queueSize] k) :
    PxEffect.Keeps (queueSizeEffect i v) (fun s => KMap.get s.dict k d) := by
  intro s s' h
  dsimp only
  simp only [outside_cons, outside_nil, and_true] at hs
  simp only [queueSizeEffect] at h
  (repeat' split at h) <;> first | (cases h; done) | (cases h; simp [hs])

@[simp] theorem loopDataEffect_cell (o : ObjDef) (i j : Nat) (ok : Bool) (d : Bytes) (k : Nat) (d₀ : Val) (ho : o.free k = true) :
    PxEffect.Keeps (loopDataEffect o i j ok d) (fun s => KMap.get s.dict k d₀) := by
  intro s s' h
  dsimp only
  simp only [loopDataEffect] at h
  (repeat' split at h) <;> first | (cases h; done) | (cases h; simp [ho])

@[simp] theorem sentOptionEffect_cell (i : Nat) (ok : Bool) (k : Nat) (d : Val) :
    PxEffect.Keeps (sentOptionEffect i ok) (fun s => KMap.get s.dict k d) := by
  intro s s' h
  dsimp only
  simp only [sentOptionEffect] at h
  (repeat' split at h) <;> first | (cases h; done) | (cases h; simp)

@[simp] theorem shortCircuitEffect_cell (shunt level : Rat) (k : Nat) (d : Val) :
    PxEffect.Keeps (shortCircuitEffect shunt level) (fun s => KMap.get s.dict k d) := by
  intro s s' h
  dsimp only
  simp at h

@[simp] theorem kaEffect_cell (ov uv hi lo : Rat) (k : Nat) (d : Val) :
    PxEffect.Keeps (kaEffect ov uv hi lo) (fun s => KMap.get s.dict k d) := by
  intro s s' h
  dsimp only
  simp at h

@[simp] theorem userAreaEffect_cell (off : Nat) (d : Bytes) (k : Nat) (d₀ : Val) :
    PxEffect.Keeps (userAreaEffect off d) (fun s => KMap.get s.dict k d₀) := by
  intro s s' h
  dsimp only
  simp only [userAreaEffect] at h
  (repeat' split at h) <;> first | (cases h; done) | (cases h; simp)

@[simp] theorem legacyEffect_cell (dev r v : Nat) (k : Nat) (d : Val) (hs : Outside [Obj.balLimited] k) :
    PxEffect.Keeps (legacyEffect dev r v) (fun s => KMap.get s.dict k d) := by
  intro s s' h
  dsimp only
  simp only [outside_cons, outside_nil, and_true] at hs
  simp only [legacyEffect] at h
  (repeat' split at h) <;> first | (cases h; done) | (cases h; simp [hs])

@[simp] theorem State.pxRun_cell (s : State) (q : PxReq) (o : ObjDef) (i j service ty : Nat) (signed data old : Bytes) (code : Nat)
    (e : PxEffect) (k : Nat) (d : Val) (hs : Outside [Obj.authFailures, Obj.calChannel, Obj.calState, Obj.captureMerged, Obj.captureRefused,
      Obj.changeLogNewest, Obj.episodeNewest, Obj.faultRaises, Obj.maintPermit, Obj.modeCause, Obj.pxDuplicates, Obj.pxErrors, Obj.pxLastError,
      Obj.pxQueueFull, Obj.pxRequests, Obj.queueDrops, Obj.raiseCount, Obj.recSeq, Obj.txDiscarded, Obj.wrapDrops] k)
    (h : PxEffect.Keeps e (fun s => KMap.get s.dict k d)) :
    KMap.get (s.pxRun q o i j service ty signed data old code e).dict k d = KMap.get s.dict k d := by
  simp only [outside_cons, outside_nil, and_true] at hs
  unfold State.pxRun
  cases hd : s.pxDuplicate q service (o.index + i) (o.sub + j) ty signed with
  | some x => simp [hd, hs]
  | none =>
    cases ha : s.pxAuthorise q service (o.index + i) (o.sub + j) ty signed with
    | none => simp [hd, ha, hs]
    | some p =>
      obtain ⟨role, counter⟩ := p
      have h1 := h ((s.pxAccept q counter).bump Obj.pxRequests)
      cases hr : e ((s.pxAccept q counter).bump Obj.pxRequests) with
      | ok x => have h2 := h1 x (by rw [hr]; rfl); simp [hs] at h2; simp [hd, ha, hr, h2, hs]
      | refuse c => simp [hd, ha, hr, hs]
      | refuseIn x c => have h2 := h1 x (by rw [hr]; rfl); simp [hs] at h2; simp [hd, ha, hr, h2, hs]
      | defer => simp [hd, ha, hr, hs]

@[simp] theorem State.pxBlock_cell (s : State) (q : PxReq) (o : ObjDef) (i j : Nat) (data : Bytes) (e : PxEffect) (k : Nat) (d : Val)
    (hs : Outside [Obj.authFailures, Obj.calChannel, Obj.calState, Obj.captureMerged, Obj.captureRefused, Obj.changeLogNewest,
      Obj.episodeNewest, Obj.faultRaises, Obj.maintPermit, Obj.modeCause, Obj.pxDuplicates, Obj.pxErrors, Obj.pxLastError, Obj.pxQueueFull,
      Obj.pxRequests, Obj.queueDrops, Obj.raiseCount, Obj.recSeq, Obj.txDiscarded,
      Obj.wrapDrops] k) (h : PxEffect.Keeps e (fun s => KMap.get s.dict k d)) :
    KMap.get (s.pxBlock q o i j data e).dict k d = KMap.get s.dict k d := by
  unfold State.pxBlock
  split
  · exact State.pxRun_cell _ _ _ _ _ _ _ _ _ _ _ _ _ _ hs h
  · simp only [outside_cons, outside_nil, and_true] at hs; simp [hs]

@[simp] theorem State.pxWriteOld_cell (s : State) (q : PxReq) (o : ObjDef) (i j ty : Nat) (data old : Bytes) (e : PxEffect) (k : Nat) (d : Val)
    (hs : Outside [Obj.authFailures, Obj.calChannel, Obj.calState, Obj.captureMerged, Obj.captureRefused, Obj.changeLogNewest,
      Obj.episodeNewest, Obj.faultRaises, Obj.maintPermit, Obj.modeCause, Obj.pxDuplicates, Obj.pxErrors, Obj.pxLastError, Obj.pxQueueFull,
      Obj.pxRequests, Obj.queueDrops, Obj.raiseCount, Obj.recSeq, Obj.txDiscarded,
      Obj.wrapDrops] k) (h : PxEffect.Keeps e (fun s => KMap.get s.dict k d)) :
    KMap.get (s.pxWriteOld q o i j ty data old e).dict k d = KMap.get s.dict k d := by
  unfold State.pxWriteOld
  dsimp only
  split
  · exact State.pxRun_cell _ _ _ _ _ _ _ _ _ _ _ _ _ _ hs h
  · simp only [outside_cons, outside_nil, and_true] at hs; simp [hs]

@[simp] theorem State.pxWrite_cell (s : State) (q : PxReq) (o : ObjDef) (i j ty : Nat) (data : Bytes) (e : PxEffect) (k : Nat) (d : Val)
    (hs : Outside [Obj.authFailures, Obj.calChannel, Obj.calState, Obj.captureMerged, Obj.captureRefused, Obj.changeLogNewest,
      Obj.episodeNewest, Obj.faultRaises, Obj.maintPermit, Obj.modeCause, Obj.pxDuplicates, Obj.pxErrors, Obj.pxLastError, Obj.pxQueueFull,
      Obj.pxRequests, Obj.queueDrops, Obj.raiseCount, Obj.recSeq, Obj.txDiscarded,
      Obj.wrapDrops] k) (h : PxEffect.Keeps e (fun s => KMap.get s.dict k d)) :
    KMap.get (s.pxWrite q o i j ty data e).dict k d = KMap.get s.dict k d := by
  unfold State.pxWrite
  exact State.pxWriteOld_cell _ _ _ _ _ _ _ _ _ _ _ hs h

@[simp] theorem State.pxWriteNat_cell (s : State) (q : PxReq) (o : ObjDef) (i j v : Nat) (e : PxEffect) (k : Nat) (d : Val)
    (hs : Outside [Obj.authFailures, Obj.calChannel, Obj.calState, Obj.captureMerged, Obj.captureRefused, Obj.changeLogNewest,
      Obj.episodeNewest, Obj.faultRaises, Obj.maintPermit, Obj.modeCause, Obj.pxDuplicates, Obj.pxErrors, Obj.pxLastError, Obj.pxQueueFull,
      Obj.pxRequests, Obj.queueDrops, Obj.raiseCount, Obj.recSeq, Obj.txDiscarded,
      Obj.wrapDrops] k) (h : PxEffect.Keeps e (fun s => KMap.get s.dict k d)) :
    KMap.get (s.pxWriteNat q o i j v e).dict k d = KMap.get s.dict k d := by
  unfold State.pxWriteNat
  exact State.pxWrite_cell _ _ _ _ _ _ _ _ _ _ hs h

end Sys2Proof.Machine
end

