-- ==== Sys2Proof/Laws/PerInstr.lean ====
section
/-! SUPPORT. What is shown of every row as syntax: its chapter is one of the eighteen that have opcode tables, and its list of components
names none twice. One lemma per constructor. -/
namespace Sys2Proof.Laws.Parts
open Sys2Proof.Machine

/-- A row belongs to a chapter with an opcode table, and the components it may change are listed once each. -/
def Statement (i : Instr) : Prop := 1 ≤ i.chapter ∧ i.chapter ≤ 18 ∧ i.parts.Nodup

theorem descriptorAnnounce (t : Nat) (a : Announce) : Statement (.descriptorAnnounce t a) :=
  (by decide : 1 ≤ 1 ∧ 1 ≤ 18 ∧ ([.ident, .can] : List Part).Nodup)

theorem descriptorAnnounceRepeat (t : Nat) : Statement (.descriptorAnnounceRepeat t) :=
  (by decide : 1 ≤ 1 ∧ 1 ≤ 18 ∧ ([.dict, .ident, .can] : List Part).Nodup)

theorem descriptorDecision (t : Nat) : Statement (.descriptorDecision t) :=
  (by decide : 1 ≤ 1 ∧ 1 ≤ 18 ∧ ([.ringOffset, .dict, .out, .ident, .tm, .meas, .hio, .ring, .can, .flt, .rcd] : List Part).Nodup)

theorem headClaim (t serial seq pack basis : Nat) : Statement (.headClaim t serial seq pack basis) :=
  (by decide : 1 ≤ 1 ∧ 1 ≤ 18 ∧ ([.ident, .can] : List Part).Nodup)

theorem claimWaitExpiry (t : Nat) : Statement (.claimWaitExpiry t) :=
  (by decide : 1 ≤ 1 ∧ 1 ≤ 18 ∧ ([.dict, .trngCount, .ident, .can] : List Part).Nodup)

theorem rollOffOpen (t serial seq pack : Nat) : Statement (.rollOffOpen t serial seq pack) :=
  (by decide : 1 ≤ 1 ∧ 1 ≤ 18 ∧ ([.dict, .trngCount, .ident, .can] : List Part).Nodup)

theorem rollOffDraw (t pack round draw : Nat) : Statement (.rollOffDraw t pack round draw) :=
  (by decide : 1 ≤ 1 ∧ 1 ≤ 18 ∧ ([.ident, .can] : List Part).Nodup)

theorem rollOffRoundClose (t : Nat) : Statement (.rollOffRoundClose t) :=
  (by decide : 1 ≤ 1 ∧ 1 ≤ 18 ∧ ([.ringOffset, .dict, .out, .trngCount, .ident, .md, .tm, .meas, .bal, .hio, .ring, .can, .flt, .rcd, .mgmt] : List Part).Nodup)

theorem electionRetry (t : Nat) : Statement (.electionRetry t) :=
  (by decide : 1 ≤ 1 ∧ 1 ≤ 18 ∧ ([.dict, .ident, .can] : List Part).Nodup)

theorem preEnumBackoffExpiry (t : Nat) : Statement (.preEnumBackoffExpiry t) :=
  (by decide : 1 ≤ 1 ∧ 1 ≤ 18 ∧ ([.ident] : List Part).Nodup)

theorem descCommit (t : Nat) (q : PxReq) (v : Nat) : Statement (.descCommit t q v) :=
  (by decide : 1 ≤ 1 ∧ 1 ≤ 18 ∧ ([.dict, .pm, .out, .ident, .md, .tm, .meas, .bal, .hio, .ring, .can, .px, .flt, .rcd, .mgmt] : List Part).Nodup)

theorem descDistribution (t : Nat) (rx : SlotRx) (tid : Nat) (record : Bytes) : Statement (.descDistribution t rx tid record) :=
  (by decide : 1 ≤ 1 ∧ 1 ≤ 18 ∧ ([.dict, .pm, .out, .ident, .ring, .can, .px] : List Part).Nodup)

theorem descWriteAck (t node : Nat) (ok : Bool) : Statement (.descWriteAck t node ok) :=
  (by decide : 1 ≤ 1 ∧ 1 ≤ 18 ∧ ([.ident] : List Part).Nodup)

theorem descCommitTimeout (t : Nat) : Statement (.descCommitTimeout t) :=
  (by decide : 1 ≤ 1 ∧ 1 ≤ 18 ∧ ([.ident] : List Part).Nodup)

theorem adoptPack (t : Nat) (q : PxReq) (v : Nat) : Statement (.adoptPack t q v) :=
  (by decide : 1 ≤ 1 ∧ 1 ≤ 18 ∧ ([.dict, .out, .ident, .md, .tm, .meas, .bal, .hio, .ring, .can, .px, .flt, .rcd, .mgmt] : List Part).Nodup)

theorem descErase (t : Nat) (q : PxReq) (v : Nat) : Statement (.descErase t q v) :=
  (by decide : 1 ≤ 1 ∧ 1 ≤ 18 ∧ ([.dict, .pm, .out, .ident, .md, .tm, .meas, .bal, .hio, .ring, .can, .px, .flt, .rcd, .mgmt] : List Part).Nodup)

theorem standbyDesignate (t : Nat) : Statement (.standbyDesignate t) :=
  (by decide : 1 ≤ 1 ∧ 1 ≤ 18 ∧ ([.ident, .flt] : List Part).Nodup)

theorem lateJoinRound (t : Nat) : Statement (.lateJoinRound t) :=
  (by decide : 1 ≤ 1 ∧ 1 ≤ 18 ∧ ([.dict, .ident, .can] : List Part).Nodup)

theorem joinOpen (t membGen freeIds : Nat) : Statement (.joinOpen t membGen freeIds) :=
  (by decide : 1 ≤ 1 ∧ 1 ≤ 18 ∧ ([.dict, .trngCount, .ident, .can] : List Part).Nodup)

theorem join (t : Nat) (j : JoinFrame) : Statement (.join t j) :=
  (by decide : 1 ≤ 1 ∧ 1 ≤ 18 ∧ ([.ident, .can] : List Part).Nodup)

theorem lateJoinRoundClose (t : Nat) : Statement (.lateJoinRoundClose t) :=
  (by decide : 1 ≤ 1 ∧ 1 ≤ 18 ∧ ([.dict, .pm, .out, .ident, .md, .tm, .meas, .bal, .hio, .ring, .can, .flt, .rcd, .mgmt] : List Part).Nodup)

theorem nodeAssign (t serial pack node membGen : Nat) : Statement (.nodeAssign t serial pack node membGen) :=
  (by decide : 1 ≤ 1 ∧ 1 ≤ 18 ∧ ([.dict, .ident, .can] : List Part).Nodup)

theorem assignAck (t serial node : Nat) (ctlB : Bool) : Statement (.assignAck t serial node ctlB) :=
  (by decide : 1 ≤ 1 ∧ 1 ≤ 18 ∧ ([.dict, .ident, .ring, .can] : List Part).Nodup)

theorem assignAckTimeout (t : Nat) : Statement (.assignAckTimeout t) :=
  (by decide : 1 ≤ 1 ∧ 1 ≤ 18 ∧ ([.dict, .ident, .can] : List Part).Nodup)

theorem enumerationCloseDeadline (t : Nat) : Statement (.enumerationCloseDeadline t) :=
  (by decide : 1 ≤ 1 ∧ 1 ≤ 18 ∧ ([.dict, .ident, .can] : List Part).Nodup)

theorem enumerationClose (t : Nat) (ra rb : BusRates) (membGen : Nat) : Statement (.enumerationClose t ra rb membGen) :=
  (by decide : 1 ≤ 1 ∧ 1 ≤ 18 ∧ ([.dict, .ident, .can] : List Part).Nodup)

theorem busRateSwitch (t : Nat) : Statement (.busRateSwitch t) :=
  (by decide : 1 ≤ 1 ∧ 1 ≤ 18 ∧ ([.dict, .out, .ident, .md, .tm, .meas, .bal, .hio, .ring, .can, .flt, .rcd, .mgmt] : List Part).Nodup)

theorem rateScan (t : Nat) : Statement (.rateScan t) :=
  (by decide : 1 ≤ 1 ∧ 1 ≤ 18 ∧ ([.ident, .can] : List Part).Nodup)

theorem j4PresenceCheck (t : Nat) (ohms : Rat) : Statement (.j4PresenceCheck t ohms) :=
  (by decide : 1 ≤ 2 ∧ 2 ≤ 18 ∧ ([.dict, .out, .ident, .supply, .md, .tm, .meas, .bal, .hio, .ring, .can, .flt, .rcd, .mgmt] : List Part).Nodup)

theorem unusedChannelCheck (t : Nat) (readings : List Int) : Statement (.unusedChannelCheck t readings) :=
  (by decide : 1 ≤ 2 ∧ 2 ≤ 18 ∧ ([.dict, .out, .ident, .supply, .md, .tm, .meas, .bal, .hio, .ring, .can, .flt, .rcd, .mgmt] : List Part).Nodup)

theorem populatedCellsWrite (t : Nat) (q : PxReq) (v : Nat) : Statement (.populatedCellsWrite t q v) :=
  (by decide : 1 ≤ 2 ∧ 2 ≤ 18 ∧ ([.dict, .out, .ident, .md, .tm, .meas, .bal, .hio, .ring, .can, .px, .flt, .rcd, .mgmt] : List Part).Nodup)

theorem populatedCellsApply (t : Nat) : Statement (.populatedCellsApply t) :=
  (by decide : 1 ≤ 2 ∧ 2 ≤ 18 ∧ ([.dict, .supply, .meas, .itg, .bal] : List Part).Nodup)

theorem sentSupplyLimit (t k : Nat) : Statement (.sentSupplyLimit t k) :=
  (by decide : 1 ≤ 2 ∧ 2 ≤ 18 ∧ ([.dict, .supply, .sent] : List Part).Nodup)

theorem sentSupplyRetry (t k : Nat) (limiting : Bool) : Statement (.sentSupplyRetry t k limiting) :=
  (by decide : 1 ≤ 2 ∧ 2 ≤ 18 ∧ ([.dict, .out, .ident, .supply, .md, .tm, .meas, .bal, .hio, .ring, .can, .flt, .sent, .rcd, .mgmt] : List Part).Nodup)

theorem valveOpenDetect (t : Nat) (readback : Rat) : Statement (.valveOpenDetect t readback) :=
  (by decide : 1 ≤ 2 ∧ 2 ≤ 18 ∧ ([.dict, .supply, .lp, .flt] : List Part).Nodup)

theorem valveLoopFault (t : Nat) : Statement (.valveLoopFault t) :=
  (by decide : 1 ≤ 2 ∧ 2 ≤ 18 ∧ ([.dict, .out, .ident, .md, .tm, .meas, .bal, .hio, .lp, .ring, .can, .flt, .rcd, .mgmt] : List Part).Nodup)

theorem transferExportCutoff (t : Nat) (aux24 : Rat) : Statement (.transferExportCutoff t aux24) :=
  (by decide : 1 ≤ 2 ∧ 2 ≤ 18 ∧ ([.dict, .supply, .bal] : List Part).Nodup)

theorem transferImportCutoff (t : Nat) (aux24 : Rat) : Statement (.transferImportCutoff t aux24) :=
  (by decide : 1 ≤ 2 ∧ 2 ≤ 18 ∧ ([.dict, .supply, .bal] : List Part).Nodup)

theorem wakeLoopbackTest (t : Nat) : Statement (.wakeLoopbackTest t) :=
  (by decide : 1 ≤ 2 ∧ 2 ≤ 18 ∧ ([.dict, .supply, .sent] : List Part).Nodup)

theorem wakeLoopbackEnd (t : Nat) (ok : Bool) : Statement (.wakeLoopbackEnd t ok) :=
  (by decide : 1 ≤ 2 ∧ 2 ≤ 18 ∧ ([.dict, .out, .ident, .supply, .md, .tm, .meas, .bal, .hio, .ring, .can, .flt, .sent, .rcd, .mgmt] : List Part).Nodup)

theorem usbAttach (t : Nat) : Statement (.usbAttach t) :=
  (by decide : 1 ≤ 2 ∧ 2 ≤ 18 ∧ ([.mgmt] : List Part).Nodup)

theorem usbDetach (t : Nat) : Statement (.usbDetach t) :=
  (by decide : 1 ≤ 2 ∧ 2 ≤ 18 ∧ ([.mgmt] : List Part).Nodup)

theorem moduleReady (t holdup : Nat) : Statement (.moduleReady t holdup) :=
  (by decide : 1 ≤ 3 ∧ 3 ≤ 18 ∧ ([.dict, .out, .ident, .supply, .md, .tm, .meas, .aux, .itg, .bal, .hio, .ring, .can, .flt, .sent, .rcd, .mgmt] : List Part).Nodup)

theorem startUp (t : Nat) (r : StartRec) : Statement (.startUp t r) :=
  (by decide : 1 ≤ 3 ∧ 3 ≤ 18 ∧ ([.ringOffset, .dict, .pm, .out, .ident, .supply, .md, .tm, .meas, .aux, .itg, .bal, .hio, .est, .lp, .ring, .can, .px,
      .flt, .sent, .rcd, .mgmt] : List Part).Nodup)

theorem captureInitDone (t : Nat) (ok : Bool) : Statement (.captureInitDone t ok) :=
  (by decide : 1 ≤ 3 ∧ 3 ≤ 18 ∧ ([.dict, .out, .ident, .md, .tm, .meas, .aux, .itg, .bal, .hio, .ring, .can, .flt, .rcd, .mgmt] : List Part).Nodup)

theorem wake (t : Nat) : Statement (.wake t) :=
  (by decide : 1 ≤ 3 ∧ 3 ≤ 18 ∧ ([.dict, .md, .est] : List Part).Nodup)

theorem aux24Present (t : Nat) : Statement (.aux24Present t) :=
  (by decide : 1 ≤ 3 ∧ 3 ≤ 18 ∧ ([.dict, .ident, .supply, .md, .tm, .meas, .bal, .hio, .ring, .flt, .sent, .rcd, .mgmt] : List Part).Nodup)

theorem aux24Loss (t holdup : Nat) : Statement (.aux24Loss t holdup) :=
  (by decide : 1 ≤ 3 ∧ 3 ≤ 18 ∧ ([.dict, .out, .supply, .md, .bal, .hio, .est, .ring, .can, .sent, .rcd, .mgmt] : List Part).Nodup)

theorem holdupStep4End (t holdup : Nat) : Statement (.holdupStep4End t holdup) :=
  (by decide : 1 ≤ 3 ∧ 3 ≤ 18 ∧ ([.dict, .pm, .ident, .md, .tm, .bal, .hio, .est, .ring, .can, .px, .flt, .rcd, .mgmt] : List Part).Nodup)

theorem maintPermitGrant (t : Nat) (q : PxReq) (v : Nat) : Statement (.maintPermitGrant t q v) :=
  (by decide : 1 ≤ 3 ∧ 3 ≤ 18 ∧ ([.dict, .out, .ident, .md, .tm, .meas, .itg, .bal, .hio, .ring, .can, .px, .flt, .rcd, .mgmt] : List Part).Nodup)

theorem maintPermitEnd (t : Nat) (q : PxReq) (v : Nat) : Statement (.maintPermitEnd t q v) :=
  (by decide : 1 ≤ 3 ∧ 3 ≤ 18 ∧ ([.dict, .out, .ident, .md, .tm, .meas, .itg, .bal, .hio, .ring, .can, .px, .flt, .rcd, .mgmt] : List Part).Nodup)

theorem maintPermitExpiry (t : Nat) : Statement (.maintPermitExpiry t) :=
  (by decide : 1 ≤ 3 ∧ 3 ≤ 18 ∧ ([.dict, .md, .meas, .itg, .bal, .rcd, .mgmt] : List Part).Nodup)

theorem safeExit (t : Nat) (q : PxReq) (v : Nat) : Statement (.safeExit t q v) :=
  (by decide : 1 ≤ 3 ∧ 3 ≤ 18 ∧ ([.dict, .out, .ident, .md, .tm, .meas, .bal, .hio, .ring, .can, .px, .flt, .rcd, .mgmt] : List Part).Nodup)

theorem shipArm (t : Nat) (q : PxReq) (v : Nat) : Statement (.shipArm t q v) :=
  (by decide : 1 ≤ 3 ∧ 3 ≤ 18 ∧ ([.dict, .out, .ident, .md, .tm, .meas, .bal, .hio, .ring, .can, .px, .flt, .rcd, .mgmt] : List Part).Nodup)

theorem shipDisarm (t : Nat) (q : PxReq) (v : Nat) : Statement (.shipDisarm t q v) :=
  (by decide : 1 ≤ 3 ∧ 3 ≤ 18 ∧ ([.dict, .out, .ident, .md, .tm, .meas, .bal, .hio, .ring, .can, .px, .flt, .rcd, .mgmt] : List Part).Nodup)

theorem shipArmLapse (t : Nat) : Statement (.shipArmLapse t) :=
  (by decide : 1 ≤ 3 ∧ 3 ≤ 18 ∧ ([.md] : List Part).Nodup)

theorem keepaliveReading (t : Nat) (cells : List Int) (ntcs : List (Option Rat)) : Statement (.keepaliveReading t cells ntcs) :=
  (by decide : 1 ≤ 3 ∧ 3 ≤ 18 ∧ ([.md] : List Part).Nodup)

theorem keepaliveWatchdog (t : Nat) : Statement (.keepaliveWatchdog t) :=
  (by decide : 1 ≤ 3 ∧ 3 ≤ 18 ∧ ([.md] : List Part).Nodup)

theorem powerCycleTimerExpiry (t : Nat) : Statement (.powerCycleTimerExpiry t) :=
  (by decide : 1 ≤ 3 ∧ 3 ≤ 18 ∧ ([.md] : List Part).Nodup)

theorem stackCollapse (t : Nat) : Statement (.stackCollapse t) :=
  (by decide : 1 ≤ 3 ∧ 3 ≤ 18 ∧ ([.dict, .out, .ident, .md, .tm, .meas, .aux, .itg, .bal, .hio, .ring, .can, .flt, .rcd, .mgmt] : List Part).Nodup)

theorem thermalSensorRead (t : Nat) (temps : List Rat) : Statement (.thermalSensorRead t temps) :=
  (by decide : 1 ≤ 3 ∧ 3 ≤ 18 ∧ ([.dict, .out, .ident, .md, .tm, .meas, .aux, .itg, .bal, .hio, .ring, .can, .flt, .rcd, .mgmt] : List Part).Nodup)

theorem timeRecordSend (t : Nat) : Statement (.timeRecordSend t) :=
  (by decide : 1 ≤ 4 ∧ 4 ≤ 18 ∧ ([.dict, .out, .ring] : List Part).Nodup)

theorem time (t : Nat) (rx : SlotRx) (origin corr censusNo flags residence : Nat) : Statement (.time t rx origin corr censusNo flags residence) :=
  (by decide : 1 ≤ 4 ∧ 4 ≤ 18 ∧ ([.ringOffset, .dict, .out, .tm, .ring] : List Part).Nodup)

theorem timeHoldover (t : Nat) : Statement (.timeHoldover t) :=
  (by decide : 1 ≤ 4 ∧ 4 ≤ 18 ∧ ([.tm] : List Part).Nodup)

theorem timeUnsynced (t : Nat) : Statement (.timeUnsynced t) :=
  (by decide : 1 ≤ 4 ∧ 4 ≤ 18 ∧ ([.dict, .out, .ident, .md, .tm, .meas, .aux, .bal, .hio, .ring, .can, .flt, .rcd, .mgmt] : List Part).Nodup)

theorem delayReqSend (t : Nat) : Statement (.delayReqSend t) :=
  (by decide : 1 ≤ 4 ∧ 4 ≤ 18 ∧ ([.out, .ring] : List Part).Nodup)

theorem delayReq (t : Nat) (p : Port) (t1 : Nat) : Statement (.delayReq t p t1) :=
  (by decide : 1 ≤ 4 ∧ 4 ≤ 18 ∧ ([.out, .ring] : List Part).Nodup)

theorem delayResp (t : Nat) (p : Port) (t1 t2 t3 : Nat) : Statement (.delayResp t p t1 t2 t3) :=
  (by decide : 1 ≤ 4 ∧ 4 ≤ 18 ∧ ([.dict, .ring] : List Part).Nodup)

theorem syncEdge (t : Nat) : Statement (.syncEdge t) :=
  (by decide : 1 ≤ 4 ∧ 4 ≤ 18 ∧ ([.tm] : List Part).Nodup)

theorem pcsAngle (t : Nat) (rx : SlotRx) (time angle period : Nat) (valid : Bool) : Statement (.pcsAngle t rx time angle period valid) :=
  (by decide : 1 ≤ 4 ∧ 4 ≤ 18 ∧ ([.dict, .out, .tm, .ring] : List Part).Nodup)

theorem spinnerSourceLost (t : Nat) : Statement (.spinnerSourceLost t) :=
  (by decide : 1 ≤ 4 ∧ 4 ≤ 18 ∧ ([.dict, .tm, .meas, .aux] : List Part).Nodup)

theorem spinnerSourceReturn (t : Nat) : Statement (.spinnerSourceReturn t) :=
  (by decide : 1 ≤ 4 ∧ 4 ≤ 18 ∧ ([.dict, .tm, .meas, .aux] : List Part).Nodup)

theorem spinnerRecordSend (t : Nat) : Statement (.spinnerRecordSend t) :=
  (by decide : 1 ≤ 4 ∧ 4 ≤ 18 ∧ ([.dict, .out, .tm, .ring] : List Part).Nodup)

theorem spinner (t : Nat) (rx : SlotRx) (r : SpinnerRec) : Statement (.spinner t rx r) :=
  (by decide : 1 ≤ 4 ∧ 4 ≤ 18 ∧ ([.dict, .out, .tm, .meas, .aux, .ring] : List Part).Nodup)

theorem precisionMRecompute (t : Nat) : Statement (.precisionMRecompute t) :=
  (by decide : 1 ≤ 4 ∧ 4 ≤ 18 ∧ ([.tm, .meas] : List Part).Nodup)

theorem windowAnchor (t : Nat) : Statement (.windowAnchor t) :=
  (by decide : 1 ≤ 4 ∧ 4 ≤ 18 ∧ ([.dict, .meas, .aux] : List Part).Nodup)

theorem angleComparatorFire (t : Nat) (u : AngleUnit) (k : Nat) : Statement (.angleComparatorFire t u k) :=
  (by decide : 1 ≤ 4 ∧ 4 ≤ 18 ∧ ([.dict, .out, .ident, .md, .tm, .meas, .bal, .hio, .ring, .can, .flt, .rcd, .mgmt] : List Part).Nodup)

theorem shadowLowRead (t : Nat) (m : Master) (index sub : Nat) : Statement (.shadowLowRead t m index sub) :=
  (by decide : 1 ≤ 4 ∧ 4 ≤ 18 ∧ ([.out, .tm] : List Part).Nodup)

theorem shadowHighRead (t : Nat) (m : Master) (index sub : Nat) : Statement (.shadowHighRead t m index sub) :=
  (by decide : 1 ≤ 4 ∧ 4 ≤ 18 ∧ ([.dict, .out] : List Part).Nodup)

theorem shadowExpiry (t : Nat) (m : Master) : Statement (.shadowExpiry t m) :=
  (by decide : 1 ≤ 4 ∧ 4 ≤ 18 ∧ ([.tm] : List Part).Nodup)

theorem crossingStatusClear (t : Nat) (q : PxReq) (v : Nat) : Statement (.crossingStatusClear t q v) :=
  (by decide : 1 ≤ 4 ∧ 4 ≤ 18 ∧ ([.dict, .out, .ident, .md, .tm, .meas, .bal, .hio, .ring, .can, .px, .flt, .rcd, .mgmt] : List Part).Nodup)

theorem refCrossCheck (t : Nat) (d1 d2 : Rat) : Statement (.refCrossCheck t d1 d2) :=
  (by decide : 1 ≤ 5 ∧ 5 ≤ 18 ∧ ([.dict, .out, .ident, .md, .tm, .meas, .bal, .hio, .ring, .can, .flt, .rcd, .mgmt] : List Part).Nodup)

theorem precisionChannelFail (t cell : Nat) : Statement (.precisionChannelFail t cell) :=
  (by decide : 1 ≤ 5 ∧ 5 ≤ 18 ∧ ([.dict, .out, .ident, .md, .tm, .meas, .bal, .hio, .ring, .can, .flt, .rcd, .mgmt] : List Part).Nodup)

theorem modulatorOverload (t cell since : Nat) : Statement (.modulatorOverload t cell since) :=
  (by decide : 1 ≤ 5 ∧ 5 ≤ 18 ∧ ([.dict, .meas] : List Part).Nodup)

theorem precisionWindowEnd (t : Nat) (raw : List ChanRaw) : Statement (.precisionWindowEnd t raw) :=
  (by decide : 1 ≤ 5 ∧ 5 ≤ 18 ∧ ([.dict, .out, .ident, .md, .tm, .meas, .aux, .itg, .bal, .hio, .est, .ring, .can, .px, .flt, .rcd, .mgmt] : List Part).Nodup)

theorem widebandOutput (t j : Nat) (raw : List ChanRaw) (cur : Option CurrentRaw) : Statement (.widebandOutput t j raw cur) :=
  (by decide : 1 ≤ 5 ∧ 5 ≤ 18 ∧ ([.dict, .out, .tm, .meas, .est, .lp, .ring, .flt, .rcd] : List Part).Nodup)

theorem standardOutput (t j : Nat) (raw : List ChanRaw) (taps : Option TapsRaw) : Statement (.standardOutput t j raw taps) :=
  (by decide : 1 ≤ 5 ∧ 5 ≤ 18 ∧ ([.dict, .out, .meas, .est, .ring] : List Part).Nodup)

theorem routineTrigger (t : Nat) : Statement (.routineTrigger t) :=
  (by decide : 1 ≤ 6 ∧ 6 ≤ 18 ∧ ([.dict, .meas, .aux, .itg, .bal, .rcd] : List Part).Nodup)

theorem hostRegTrigger (t : Nat) : Statement (.hostRegTrigger t) :=
  (by decide : 1 ≤ 6 ∧ 6 ≤ 18 ∧ ([.dict, .tm, .meas, .aux, .itg, .bal, .rcd] : List Part).Nodup)

theorem hostRegStart (t : Nat) (q : PxReq) (v : Nat) : Statement (.hostRegStart t q v) :=
  (by decide : 1 ≤ 6 ∧ 6 ≤ 18 ∧ ([.dict, .out, .ident, .md, .tm, .meas, .aux, .itg, .bal, .hio, .ring, .can, .px, .flt, .rcd, .mgmt] : List Part).Nodup)

theorem injTrigger (t : Nat) (k : InjSeq) : Statement (.injTrigger t k) :=
  (by decide : 1 ≤ 6 ∧ 6 ≤ 18 ∧ ([.dict, .tm, .meas, .aux, .itg, .bal, .rcd] : List Part).Nodup)

theorem auxConversionDone (t : Nat) (code : Int) : Statement (.auxConversionDone t code) :=
  (by decide : 1 ≤ 6 ∧ 6 ≤ 18 ∧ ([.dict, .out, .ident, .md, .tm, .meas, .aux, .itg, .bal, .hio, .est, .ring, .can, .flt, .rcd, .mgmt] : List Part).Nodup)

theorem blankWindowOpen (t : Nat) : Statement (.blankWindowOpen t) :=
  (by decide : 1 ≤ 6 ∧ 6 ≤ 18 ∧ ([.dict, .meas, .aux, .itg, .bal, .rcd] : List Part).Nodup)

theorem blankWaitTimeout (t : Nat) : Statement (.blankWaitTimeout t) :=
  (by decide : 1 ≤ 6 ∧ 6 ≤ 18 ∧ ([.dict, .meas, .aux, .itg, .bal, .rcd] : List Part).Nodup)

theorem pawnVisit (t : Nat) : Statement (.pawnVisit t) :=
  (by decide : 1 ≤ 6 ∧ 6 ≤ 18 ∧ ([.dict, .meas, .aux, .itg, .bal, .rcd] : List Part).Nodup)

theorem pawnAbandon (t dev : Nat) : Statement (.pawnAbandon t dev) :=
  (by decide : 1 ≤ 6 ∧ 6 ≤ 18 ∧ ([.dict, .aux] : List Part).Nodup)

theorem balctrlWrite (t : Nat) (q : PxReq) (dev v : Nat) : Statement (.balctrlWrite t q dev v) :=
  (by decide : 1 ≤ 6 ∧ 6 ≤ 18 ∧ ([.dict, .out, .ident, .md, .tm, .meas, .aux, .bal, .hio, .ring, .can, .px, .flt, .rcd, .mgmt] : List Part).Nodup)

theorem balctrlExpiry (t dev : Nat) : Statement (.balctrlExpiry t dev) :=
  (by decide : 1 ≤ 6 ∧ 6 ≤ 18 ∧ ([.dict, .aux, .bal] : List Part).Nodup)

theorem owtTestStart (t : Nat) : Statement (.owtTestStart t) :=
  (by decide : 1 ≤ 7 ∧ 7 ≤ 18 ∧ ([.dict, .out, .ident, .md, .tm, .meas, .aux, .itg, .bal, .hio, .ring, .can, .flt, .rcd, .mgmt] : List Part).Nodup)

theorem owtRetest (t : Nat) : Statement (.owtRetest t) :=
  (by decide : 1 ≤ 7 ∧ 7 ≤ 18 ∧ ([.dict, .meas, .aux, .itg, .bal, .rcd] : List Part).Nodup)

theorem owtRoundOverdue (t : Nat) : Statement (.owtRoundOverdue t) :=
  (by decide : 1 ≤ 7 ∧ 7 ≤ 18 ∧ ([.dict, .out, .ident, .md, .tm, .meas, .itg, .bal, .hio, .ring, .can, .flt, .rcd, .mgmt] : List Part).Nodup)

theorem dualPathCheck (t : Nat) : Statement (.dualPathCheck t) :=
  (by decide : 1 ≤ 7 ∧ 7 ≤ 18 ∧ ([.dict, .out, .ident, .md, .tm, .meas, .aux, .itg, .bal, .hio, .ring, .can, .flt, .rcd, .mgmt] : List Part).Nodup)

theorem stackSupplyAbsent (t : Nat) : Statement (.stackSupplyAbsent t) :=
  (by decide : 1 ≤ 7 ∧ 7 ≤ 18 ∧ ([.dict, .out, .ident, .md, .tm, .meas, .itg, .bal, .hio, .ring, .can, .flt, .rcd, .mgmt] : List Part).Nodup)

theorem balPlanCompute (t : Nat) : Statement (.balPlanCompute t) :=
  (by decide : 1 ≤ 8 ∧ 8 ≤ 18 ∧ ([.dict, .out, .ident, .md, .tm, .meas, .bal, .hio, .ring, .can, .flt, .rcd, .mgmt] : List Part).Nodup)

theorem plan (t : Nat) (via : PlanVia) (record : Bytes) : Statement (.plan t via record) :=
  (by decide : 1 ≤ 8 ∧ 8 ≤ 18 ∧ ([.dict, .out, .ident, .md, .tm, .meas, .bal, .hio, .ring, .can, .px, .flt, .rcd, .mgmt] : List Part).Nodup)

theorem report (t : Nat) (rx : SlotRx) (record : Bytes) : Statement (.report t rx record) :=
  (by decide : 1 ≤ 8 ∧ 8 ≤ 18 ∧ ([.dict, .out, .bal, .ring] : List Part).Nodup)

theorem balanceLeaseExpiry (t : Nat) : Statement (.balanceLeaseExpiry t) :=
  (by decide : 1 ≤ 8 ∧ 8 ≤ 18 ∧ ([.dict, .out, .ident, .md, .tm, .meas, .bal, .hio, .ring, .can, .flt, .rcd, .mgmt] : List Part).Nodup)

theorem flybackReselect (t : Nat) : Statement (.flybackReselect t) :=
  (by decide : 1 ≤ 8 ∧ 8 ≤ 18 ∧ ([.dict, .bal, .est, .lp] : List Part).Nodup)

theorem balTargetReached (t cell : Nat) : Statement (.balTargetReached t cell) :=
  (by decide : 1 ≤ 8 ∧ 8 ≤ 18 ∧ ([.bal, .est] : List Part).Nodup)

theorem balBooksCheck (t : Nat) : Statement (.balBooksCheck t) :=
  (by decide : 1 ≤ 8 ∧ 8 ≤ 18 ∧ ([.dict, .out, .ident, .md, .tm, .meas, .bal, .hio, .ring, .can, .flt, .rcd, .mgmt] : List Part).Nodup)

theorem balBusUndervoltage (t : Nat) : Statement (.balBusUndervoltage t) :=
  (by decide : 1 ≤ 8 ∧ 8 ≤ 18 ∧ ([.bal] : List Part).Nodup)

theorem balBusOvervoltage (t : Nat) : Statement (.balBusOvervoltage t) :=
  (by decide : 1 ≤ 8 ∧ 8 ≤ 18 ∧ ([.bal] : List Part).Nodup)

theorem balBusFault (t : Nat) : Statement (.balBusFault t) :=
  (by decide : 1 ≤ 8 ∧ 8 ≤ 18 ∧ ([.dict, .out, .ident, .md, .tm, .meas, .bal, .hio, .ring, .can, .flt, .rcd, .mgmt] : List Part).Nodup)

theorem flybackImplausible (t k : Nat) : Statement (.flybackImplausible t k) :=
  (by decide : 1 ≤ 8 ∧ 8 ≤ 18 ∧ ([.dict, .out, .ident, .md, .tm, .meas, .bal, .hio, .ring, .can, .flt, .rcd, .mgmt] : List Part).Nodup)

theorem transferImplausible (t : Nat) : Statement (.transferImplausible t) :=
  (by decide : 1 ≤ 8 ∧ 8 ≤ 18 ∧ ([.dict, .out, .ident, .md, .tm, .meas, .bal, .hio, .ring, .can, .flt, .rcd, .mgmt] : List Part).Nodup)

theorem bleederImplausible (t : Nat) (half2 : Bool) : Statement (.bleederImplausible t half2) :=
  (by decide : 1 ≤ 8 ∧ 8 ≤ 18 ∧ ([.dict, .out, .ident, .md, .tm, .meas, .bal, .hio, .ring, .can, .flt, .rcd, .mgmt] : List Part).Nodup)

theorem shortCircuitTrip (t : Nat) (amps : Rat) : Statement (.shortCircuitTrip t amps) :=
  (by decide : 1 ≤ 9 ∧ 9 ≤ 18 ∧ ([.dict, .out, .ident, .md, .tm, .meas, .aux, .itg, .bal, .hio, .ring, .can, .flt, .rcd, .mgmt] : List Part).Nodup)

theorem currentCheck (t : Nat) (shunt flux : Option Rat) : Statement (.currentCheck t shunt flux) :=
  (by decide : 1 ≤ 9 ∧ 9 ≤ 18 ∧ ([.dict, .out, .ident, .md, .tm, .meas, .aux, .itg, .bal, .hio, .ring, .can, .flt, .rcd, .mgmt] : List Part).Nodup)

theorem currentChannelFault (t : Nat) (flux : Bool) : Statement (.currentChannelFault t flux) :=
  (by decide : 1 ≤ 9 ∧ 9 ≤ 18 ∧ ([.dict, .out, .ident, .md, .tm, .meas, .aux, .itg, .bal, .hio, .ring, .can, .flt, .rcd, .mgmt] : List Part).Nodup)

theorem stringVoltageCheck (t : Nat) (stringVoltage : Rat) : Statement (.stringVoltageCheck t stringVoltage) :=
  (by decide : 1 ≤ 9 ∧ 9 ≤ 18 ∧ ([.dict, .out, .ident, .md, .tm, .meas, .aux, .itg, .bal, .hio, .ring, .can, .flt, .rcd, .mgmt] : List Part).Nodup)

theorem isoStateEnd (t : Nat) (settled : Bool) (vp vn : Rat) : Statement (.isoStateEnd t settled vp vn) :=
  (by decide : 1 ≤ 9 ∧ 9 ≤ 18 ∧ ([.dict, .out, .ident, .md, .tm, .meas, .aux, .itg, .bal, .hio, .ring, .can, .flt, .rcd, .mgmt] : List Part).Nodup)

theorem tripLoopLoss (t : Nat) : Statement (.tripLoopLoss t) :=
  (by decide : 1 ≤ 9 ∧ 9 ≤ 18 ∧ ([.dict, .out, .md, .meas, .bal, .hio, .ring, .can, .rcd, .mgmt] : List Part).Nodup)

theorem tripNoticeWaitExpiry (t : Nat) : Statement (.tripNoticeWaitExpiry t) :=
  (by decide : 1 ≤ 9 ∧ 9 ≤ 18 ∧ ([.dict, .out, .hio, .ring, .can] : List Part).Nodup)

theorem protectionDelayExpiry (t : Nat) (c : ProtCond) : Statement (.protectionDelayExpiry t c) :=
  (by decide : 1 ≤ 9 ∧ 9 ≤ 18 ∧ ([.dict, .out, .ident, .md, .tm, .meas, .aux, .itg, .bal, .hio, .ring, .can, .flt, .rcd, .mgmt] : List Part).Nodup)

theorem protectionRelease (t : Nat) (c : ProtCond) : Statement (.protectionRelease t c) :=
  (by decide : 1 ≤ 9 ∧ 9 ≤ 18 ∧ ([.dict, .out, .ident, .md, .tm, .meas, .bal, .hio, .ring, .can, .flt, .rcd, .mgmt] : List Part).Nodup)

theorem openReqRepeat (t : Nat) : Statement (.openReqRepeat t) :=
  (by decide : 1 ≤ 9 ∧ 9 ≤ 18 ∧ ([.dict, .out, .hio, .ring, .can] : List Part).Nodup)

theorem openReq (t : Nat) (via : NoticeVia) (n : Notice) : Statement (.openReq t via n) :=
  (by decide : 1 ≤ 9 ∧ 9 ≤ 18 ∧ ([.dict, .out, .ident, .md, .tm, .meas, .aux, .itg, .bal, .hio, .ring, .can, .flt, .rcd, .mgmt] : List Part).Nodup)

theorem openReqHoldExpiry (t node : Nat) : Statement (.openReqHoldExpiry t node) :=
  (by decide : 1 ≤ 9 ∧ 9 ≤ 18 ∧ ([.dict, .out, .ident, .md, .tm, .meas, .bal, .hio, .ring, .can, .flt, .rcd, .mgmt] : List Part).Nodup)

theorem trip (t : Nat) (via : NoticeVia) (n : Notice) : Statement (.trip t via n) :=
  (by decide : 1 ≤ 9 ∧ 9 ≤ 18 ∧ ([.dict, .out, .ident, .md, .tm, .meas, .aux, .itg, .bal, .hio, .ring, .can, .flt, .rcd, .mgmt] : List Part).Nodup)

theorem tripResetCommand (t : Nat) (q : PxReq) (v : Nat) : Statement (.tripResetCommand t q v) :=
  (by decide : 1 ≤ 9 ∧ 9 ≤ 18 ∧ ([.dict, .out, .ident, .md, .tm, .meas, .bal, .hio, .ring, .can, .px, .flt, .rcd, .mgmt] : List Part).Nodup)

theorem tripReset (t : Nat) (via : NoticeVia) (n : Notice) : Statement (.tripReset t via n) :=
  (by decide : 1 ≤ 9 ∧ 9 ≤ 18 ∧ ([.dict, .out, .ident, .md, .tm, .meas, .bal, .hio, .ring, .can, .flt, .rcd, .mgmt] : List Part).Nodup)

theorem trippedClear (t : Nat) : Statement (.trippedClear t) :=
  (by decide : 1 ≤ 9 ∧ 9 ≤ 18 ∧ ([.hio] : List Part).Nodup)

theorem contactorClose (t : Nat) (q : PxReq) (v : Nat) : Statement (.contactorClose t q v) :=
  (by decide : 1 ≤ 9 ∧ 9 ≤ 18 ∧ ([.dict, .out, .ident, .md, .tm, .meas, .bal, .hio, .ring, .can, .px, .flt, .rcd, .mgmt] : List Part).Nodup)

theorem contactorOpen (t : Nat) (q : PxReq) (v : Nat) : Statement (.contactorOpen t q v) :=
  (by decide : 1 ≤ 9 ∧ 9 ≤ 18 ∧ ([.dict, .out, .ident, .md, .tm, .meas, .bal, .hio, .ring, .can, .px, .flt, .rcd, .mgmt] : List Part).Nodup)

theorem closingSequenceStep (t : Nat) (m : SeqMeas) : Statement (.closingSequenceStep t m) :=
  (by decide : 1 ≤ 9 ∧ 9 ≤ 18 ∧ ([.dict, .out, .ident, .md, .tm, .meas, .aux, .itg, .bal, .hio, .ring, .can, .flt, .rcd, .mgmt] : List Part).Nodup)

theorem prechargeLockoutExpiry (t : Nat) : Statement (.prechargeLockoutExpiry t) :=
  (by decide : 1 ≤ 9 ∧ 9 ≤ 18 ∧ ([.hio, .flt] : List Part).Nodup)

theorem openingSequenceStep (t : Nat) (m : SeqMeas) : Statement (.openingSequenceStep t m) :=
  (by decide : 1 ≤ 9 ∧ 9 ≤ 18 ∧ ([.dict, .out, .ident, .md, .tm, .meas, .aux, .itg, .bal, .hio, .ring, .can, .flt, .rcd, .mgmt] : List Part).Nodup)

theorem coilShortCircuit (t : Nat) (c : Coil) : Statement (.coilShortCircuit t c) :=
  (by decide : 1 ≤ 9 ∧ 9 ≤ 18 ∧ ([.dict, .out, .ident, .md, .tm, .meas, .aux, .itg, .bal, .hio, .ring, .can, .flt, .rcd, .mgmt] : List Part).Nodup)

theorem coilOpenLoad (t : Nat) (c : Coil) : Statement (.coilOpenLoad t c) :=
  (by decide : 1 ≤ 9 ∧ 9 ≤ 18 ∧ ([.dict, .out, .ident, .md, .tm, .meas, .aux, .itg, .bal, .hio, .ring, .can, .flt, .rcd, .mgmt] : List Part).Nodup)

theorem releaseSend (t : Nat) : Statement (.releaseSend t) :=
  (by decide : 1 ≤ 9 ∧ 9 ≤ 18 ∧ ([.dict, .out, .ident, .ring] : List Part).Nodup)

theorem release (t : Nat) (rx : SlotRx) (node : Nat) (released : Bool) (membGen time : Nat) : Statement (.release t rx node released membGen time) :=
  (by decide : 1 ≤ 9 ∧ 9 ≤ 18 ∧ ([.dict, .out, .md, .meas, .bal, .hio, .ring, .rcd, .mgmt] : List Part).Nodup)

theorem pcsLimitPeriod (t : Nat) : Statement (.pcsLimitPeriod t) :=
  (by decide : 1 ≤ 9 ∧ 9 ≤ 18 ∧ ([.dict, .out, .hio, .ring, .can] : List Part).Nodup)

theorem protectionSetWrite (t : Nat) (q : PxReq) (index sub : Nat) (v : PxValue) : Statement (.protectionSetWrite t q index sub v) :=
  (by decide : 1 ≤ 9 ∧ 9 ≤ 18 ∧ ([.dict, .out, .ident, .md, .tm, .meas, .bal, .hio, .ring, .can, .px, .flt, .rcd, .mgmt] : List Part).Nodup)

theorem protSetCrcCheck (t : Nat) (crcs : List (Nat × Nat)) : Statement (.protSetCrcCheck t crcs) :=
  (by decide : 1 ≤ 9 ∧ 9 ≤ 18 ∧ ([.dict, .out, .hio, .ring] : List Part).Nodup)

theorem chargeCount (t : Nat) : Statement (.chargeCount t) :=
  (by decide : 1 ≤ 10 ∧ 10 ≤ 18 ∧ ([.est] : List Part).Nodup)

theorem countGap (t : Nat) : Statement (.countGap t) :=
  (by decide : 1 ≤ 10 ∧ 10 ≤ 18 ∧ ([.dict, .est] : List Part).Nodup)

theorem countHold (t : Nat) : Statement (.countHold t) :=
  (by decide : 1 ≤ 10 ∧ 10 ≤ 18 ∧ ([.dict, .out, .ident, .md, .tm, .meas, .bal, .hio, .est, .ring, .can, .flt, .rcd, .mgmt] : List Part).Nodup)

theorem voltageCheck (t : Nat) : Statement (.voltageCheck t) :=
  (by decide : 1 ≤ 10 ∧ 10 ≤ 18 ∧ ([.dict, .out, .ident, .md, .tm, .meas, .bal, .hio, .est, .ring, .can, .flt, .rcd, .mgmt] : List Part).Nodup)

theorem firstEstimate (t : Nat) : Statement (.firstEstimate t) :=
  (by decide : 1 ≤ 10 ∧ 10 ≤ 18 ∧ ([.dict, .est] : List Part).Nodup)

theorem initialTimeout (t : Nat) : Statement (.initialTimeout t) :=
  (by decide : 1 ≤ 10 ∧ 10 ≤ 18 ∧ ([.est] : List Part).Nodup)

theorem restPoint (t cell : Nat) : Statement (.restPoint t cell) :=
  (by decide : 1 ≤ 10 ∧ 10 ≤ 18 ∧ ([.dict, .out, .ident, .md, .tm, .meas, .bal, .hio, .est, .ring, .can, .flt, .rcd, .mgmt] : List Part).Nodup)

theorem socRecordWrite (t : Nat) : Statement (.socRecordWrite t) :=
  (by decide : 1 ≤ 10 ∧ 10 ≤ 18 ∧ ([.dict, .est, .rcd] : List Part).Nodup)

theorem capacityRecordWrite (t : Nat) : Statement (.capacityRecordWrite t) :=
  (by decide : 1 ≤ 10 ∧ 10 ≤ 18 ∧ ([.dict, .est, .rcd] : List Part).Nodup)

theorem recordWriteRetry (t : Nat) : Statement (.recordWriteRetry t) :=
  (by decide : 1 ≤ 10 ∧ 10 ≤ 18 ∧ ([.dict, .est, .rcd] : List Part).Nodup)

theorem recordReadback (t : Nat) (capacity : Bool) (crc : Nat) : Statement (.recordReadback t capacity crc) :=
  (by decide : 1 ≤ 10 ∧ 10 ≤ 18 ∧ ([.dict, .out, .ident, .md, .tm, .meas, .bal, .hio, .est, .ring, .can, .flt, .rcd, .mgmt] : List Part).Nodup)

theorem loadStep (t ts : Nat) (m : StepMeas) : Statement (.loadStep t ts m) :=
  (by decide : 1 ≤ 10 ∧ 10 ≤ 18 ∧ ([.est] : List Part).Nodup)

theorem stepWindowEnd (t term : Nat) (amps dev : Rat) (cells : List (Nat × Rat)) : Statement (.stepWindowEnd t term amps dev cells) :=
  (by decide : 1 ≤ 10 ∧ 10 ≤ 18 ∧ ([.dict, .est] : List Part).Nodup)

theorem impedanceBlock (t cell bin : Nat) (b : BinBlock) : Statement (.impedanceBlock t cell bin b) :=
  (by decide : 1 ≤ 10 ∧ 10 ≤ 18 ∧ ([.est] : List Part).Nodup)

theorem sdEpisodeStart (t : Nat) : Statement (.sdEpisodeStart t) :=
  (by decide : 1 ≤ 10 ∧ 10 ≤ 18 ∧ ([.est] : List Part).Nodup)

theorem sdWindowEnd (t : Nat) : Statement (.sdWindowEnd t) :=
  (by decide : 1 ≤ 10 ∧ 10 ≤ 18 ∧ ([.dict, .out, .ident, .md, .tm, .meas, .bal, .hio, .est, .ring, .can, .flt, .rcd, .mgmt] : List Part).Nodup)

theorem socEstSend (t : Nat) : Statement (.socEstSend t) :=
  (by decide : 1 ≤ 10 ∧ 10 ≤ 18 ∧ ([.dict, .out, .est, .ring] : List Part).Nodup)

theorem capEstSend (t : Nat) : Statement (.capEstSend t) :=
  (by decide : 1 ≤ 10 ∧ 10 ≤ 18 ∧ ([.dict, .out, .est, .ring] : List Part).Nodup)

theorem socEst (t : Nat) (rx : SlotRx) (record : Bytes) : Statement (.socEst t rx record) :=
  (by decide : 1 ≤ 10 ∧ 10 ≤ 18 ∧ ([.dict, .out, .est, .ring] : List Part).Nodup)

theorem capEst (t : Nat) (rx : SlotRx) (record : Bytes) : Statement (.capEst t rx record) :=
  (by decide : 1 ≤ 10 ∧ 10 ≤ 18 ∧ ([.dict, .out, .est, .ring] : List Part).Nodup)

theorem stringEstimate (t : Nat) : Statement (.stringEstimate t) :=
  (by decide : 1 ≤ 10 ∧ 10 ≤ 18 ∧ ([.dict] : List Part).Nodup)

theorem loopSample (t : Nat) (m : LoopMeas) : Statement (.loopSample t m) :=
  (by decide : 1 ≤ 11 ∧ 11 ≤ 18 ∧ ([.dict, .out, .ident, .md, .tm, .meas, .bal, .hio, .lp, .ring, .can, .flt, .rcd, .mgmt] : List Part).Nodup)

theorem loopEnable (t : Nat) (q : PxReq) (inst v : Nat) : Statement (.loopEnable t q inst v) :=
  (by decide : 1 ≤ 11 ∧ 11 ≤ 18 ∧ ([.dict, .out, .ident, .md, .tm, .meas, .bal, .hio, .lp, .ring, .can, .px, .flt, .rcd, .mgmt] : List Part).Nodup)

theorem loopDisable (t : Nat) (q : PxReq) (inst v : Nat) : Statement (.loopDisable t q inst v) :=
  (by decide : 1 ≤ 11 ∧ 11 ≤ 18 ∧ ([.dict, .out, .ident, .md, .tm, .meas, .bal, .hio, .lp, .ring, .can, .px, .flt, .rcd, .mgmt] : List Part).Nodup)

theorem bankWrite (t : Nat) (q : PxReq) (inst : Nat) (bankB : Bool) (d : Bytes) : Statement (.bankWrite t q inst bankB d) :=
  (by decide : 1 ≤ 11 ∧ 11 ≤ 18 ∧ ([.dict, .out, .ident, .md, .tm, .meas, .bal, .hio, .ring, .can, .px, .flt, .rcd, .mgmt] : List Part).Nodup)

theorem bankRequest (t : Nat) (q : PxReq) (inst v : Nat) : Statement (.bankRequest t q inst v) :=
  (by decide : 1 ≤ 11 ∧ 11 ≤ 18 ∧ ([.dict, .out, .ident, .md, .tm, .meas, .bal, .hio, .lp, .ring, .can, .px, .flt, .rcd, .mgmt] : List Part).Nodup)

theorem inputBindWrite (t : Nat) (q : PxReq) (inst : Nat) (d : Bytes) : Statement (.inputBindWrite t q inst d) :=
  (by decide : 1 ≤ 11 ∧ 11 ≤ 18 ∧ ([.dict, .out, .ident, .md, .tm, .meas, .bal, .hio, .ring, .can, .px, .flt, .rcd, .mgmt] : List Part).Nodup)

theorem outputBindWrite (t : Nat) (q : PxReq) (inst : Nat) (d : Bytes) : Statement (.outputBindWrite t q inst d) :=
  (by decide : 1 ≤ 11 ∧ 11 ≤ 18 ∧ ([.dict, .out, .ident, .md, .tm, .meas, .bal, .hio, .ring, .can, .px, .flt, .rcd, .mgmt] : List Part).Nodup)

theorem setpointWrite (t : Nat) (q : PxReq) (inst slot : Nat) (v : BitVec 32) : Statement (.setpointWrite t q inst slot v) :=
  (by decide : 1 ≤ 11 ∧ 11 ≤ 18 ∧ ([.dict, .out, .ident, .md, .tm, .meas, .bal, .hio, .ring, .can, .px, .flt, .rcd, .mgmt] : List Part).Nodup)

theorem thermalSetpointUpdate (t : Nat) : Statement (.thermalSetpointUpdate t) :=
  (by decide : 1 ≤ 11 ∧ 11 ≤ 18 ∧ ([.dict] : List Part).Nodup)

theorem fanStall (t fan : Nat) : Statement (.fanStall t fan) :=
  (by decide : 1 ≤ 11 ∧ 11 ≤ 18 ∧ ([.dict, .out, .ident, .md, .tm, .meas, .bal, .hio, .lp, .ring, .can, .flt, .rcd, .mgmt] : List Part).Nodup)

theorem lightLoss (t : Nat) (p : Port) : Statement (.lightLoss t p) :=
  (by decide : 1 ≤ 12 ∧ 12 ≤ 18 ∧ ([.ring] : List Part).Nodup)

theorem portDown (t : Nat) (p : Port) : Statement (.portDown t p) :=
  (by decide : 1 ≤ 12 ∧ 12 ≤ 18 ∧ ([.dict, .out, .ring, .can] : List Part).Nodup)

theorem linkFault (t : Nat) (p : Port) : Statement (.linkFault t p) :=
  (by decide : 1 ≤ 12 ∧ 12 ≤ 18 ∧ ([.dict, .out, .ring, .can] : List Part).Nodup)

theorem portUp (t : Nat) (p : Port) : Statement (.portUp t p) :=
  (by decide : 1 ≤ 12 ∧ 12 ≤ 18 ∧ ([.dict, .out, .ring, .can, .flt] : List Part).Nodup)

theorem portReadyRepeat (t : Nat) (p : Port) : Statement (.portReadyRepeat t p) :=
  (by decide : 1 ≤ 12 ∧ 12 ≤ 18 ∧ ([.dict, .out, .ring, .can] : List Part).Nodup)

theorem wrapPortDown (t : Nat) (rx : SlotRx) (n : Notice) : Statement (.wrapPortDown t rx n) :=
  (by decide : 1 ≤ 12 ∧ 12 ≤ 18 ∧ ([.dict, .out, .ident, .md, .tm, .meas, .bal, .hio, .ring, .can, .flt, .rcd, .mgmt] : List Part).Nodup)

theorem wrapPortReady (t : Nat) (rx : SlotRx) (n : Notice) : Statement (.wrapPortReady t rx n) :=
  (by decide : 1 ≤ 12 ∧ 12 ≤ 18 ∧ ([.dict, .out, .ident, .md, .tm, .meas, .bal, .hio, .ring, .can, .flt, .rcd, .mgmt] : List Part).Nodup)

theorem unwrapOrder (t : Nat) (rx : SlotRx) (n : Notice) : Statement (.unwrapOrder t rx n) :=
  (by decide : 1 ≤ 12 ∧ 12 ≤ 18 ∧ ([.dict, .out, .ident, .md, .tm, .meas, .bal, .hio, .ring, .can, .flt, .rcd, .mgmt] : List Part).Nodup)

theorem unwrapInstant (t : Nat) : Statement (.unwrapInstant t) :=
  (by decide : 1 ≤ 12 ∧ 12 ≤ 18 ∧ ([.dict, .out, .ring] : List Part).Nodup)

theorem censusRequestNotice (t : Nat) (rx : SlotRx) (n : Notice) : Statement (.censusRequestNotice t rx n) :=
  (by decide : 1 ≤ 12 ∧ 12 ≤ 18 ∧ ([.dict, .out, .ident, .md, .tm, .meas, .bal, .hio, .ring, .can, .flt, .rcd, .mgmt] : List Part).Nodup)

theorem censusRequest (t : Nat) (q : PxReq) (v : Nat) : Statement (.censusRequest t q v) :=
  (by decide : 1 ≤ 12 ∧ 12 ≤ 18 ∧ ([.dict, .out, .ident, .md, .tm, .meas, .bal, .hio, .ring, .can, .px, .flt, .rcd, .mgmt] : List Part).Nodup)

theorem census (t : Nat) (rx : SlotRx) (no count turnAt stringId : Nat) : Statement (.census t rx no count turnAt stringId) :=
  (by decide : 1 ≤ 12 ∧ 12 ≤ 18 ∧ ([.dict, .out, .ident, .md, .tm, .meas, .bal, .hio, .ring, .can, .flt, .rcd, .mgmt] : List Part).Nodup)

theorem censusTimeout (t : Nat) : Statement (.censusTimeout t) :=
  (by decide : 1 ≤ 12 ∧ 12 ≤ 18 ∧ ([.dict, .pm, .out, .ident, .md, .tm, .meas, .aux, .itg, .bal, .hio, .ring, .can, .flt, .rcd, .mgmt] : List Part).Nodup)

theorem censusRetry (t : Nat) : Statement (.censusRetry t) :=
  (by decide : 1 ≤ 12 ∧ 12 ≤ 18 ∧ ([.dict, .out, .ring] : List Part).Nodup)

theorem censusResult (t : Nat) (rx : SlotRx) (no n turnAt effective stringId : Nat) : Statement (.censusResult t rx no n turnAt effective stringId) :=
  (by decide : 1 ≤ 12 ∧ 12 ≤ 18 ∧ ([.dict, .out, .ring] : List Part).Nodup)

theorem censusResultTimeout (t : Nat) : Statement (.censusResultTimeout t) :=
  (by decide : 1 ≤ 12 ∧ 12 ≤ 18 ∧ ([.ring] : List Part).Nodup)

theorem censusEffective (t : Nat) : Statement (.censusEffective t) :=
  (by decide : 1 ≤ 12 ∧ 12 ≤ 18 ∧ ([.dict, .out, .ident, .ring, .flt] : List Part).Nodup)

theorem censusReply (t : Nat) (rx : SlotRx) (r : CensusReplyRec) : Statement (.censusReply t rx r) :=
  (by decide : 1 ≤ 12 ∧ 12 ≤ 18 ∧ ([.dict, .pm, .out, .ident, .md, .tm, .meas, .aux, .itg, .bal, .hio, .ring, .can, .flt, .rcd, .mgmt] : List Part).Nodup)

theorem censusReplyTimeout (t : Nat) : Statement (.censusReplyTimeout t) :=
  (by decide : 1 ≤ 12 ∧ 12 ≤ 18 ∧ ([.dict, .pm, .out, .ident, .md, .tm, .meas, .aux, .itg, .bal, .hio, .ring, .can, .flt, .rcd, .mgmt] : List Part).Nodup)

theorem slotForward (t : Nat) (rx : SlotRx) (payload : Bytes) (residence : Nat) : Statement (.slotForward t rx payload residence) :=
  (by decide : 1 ≤ 12 ∧ 12 ≤ 18 ∧ ([.dict, .out, .ring] : List Part).Nodup)

theorem damagedSlot (t : Nat) (rx : SlotRx) (payload : Bytes) (damage : SlotDamage) : Statement (.damagedSlot t rx payload damage) :=
  (by decide : 1 ≤ 12 ∧ 12 ≤ 18 ∧ ([.dict, .out, .ident, .md, .tm, .meas, .aux, .itg, .bal, .hio, .ring, .can, .flt, .rcd, .mgmt] : List Part).Nodup)

theorem queueBooksCheck (t : Nat) : Statement (.queueBooksCheck t) :=
  (by decide : 1 ≤ 12 ∧ 12 ≤ 18 ∧ ([.dict, .out, .ident, .md, .tm, .meas, .aux, .itg, .bal, .hio, .ring, .can, .flt, .rcd, .mgmt] : List Part).Nodup)

theorem slotSyncReached (t : Nat) (p : Port) : Statement (.slotSyncReached t p) :=
  (by decide : 1 ≤ 12 ∧ 12 ≤ 18 ∧ ([.ring] : List Part).Nodup)

theorem ringDownTimeout (t : Nat) : Statement (.ringDownTimeout t) :=
  (by decide : 1 ≤ 12 ∧ 12 ≤ 18 ∧ ([.dict, .out, .ident, .md, .tm, .meas, .aux, .itg, .bal, .hio, .ring, .can, .flt, .rcd, .mgmt] : List Part).Nodup)

theorem precision (t : Nat) (rx : SlotRx) (words : List Nat) : Statement (.precision t rx words) :=
  (by decide : 1 ≤ 12 ∧ 12 ≤ 18 ∧ ([.dict, .out, .ring] : List Part).Nodup)

theorem current (t : Nat) (rx : SlotRx) (words : List Nat) : Statement (.current t rx words) :=
  (by decide : 1 ≤ 12 ∧ 12 ≤ 18 ∧ ([.dict, .out, .est, .lp, .ring, .flt, .rcd] : List Part).Nodup)

theorem wideband (t : Nat) (rx : SlotRx) (words : List Nat) : Statement (.wideband t rx words) :=
  (by decide : 1 ≤ 12 ∧ 12 ≤ 18 ∧ ([.dict, .out, .ring, .rcd] : List Part).Nodup)

theorem bulk (t : Nat) (rx : SlotRx) (payload : Bytes) : Statement (.bulk t rx payload) :=
  (by decide : 1 ≤ 12 ∧ 12 ≤ 18 ∧ ([.dict, .out, .ring] : List Part).Nodup)

theorem laneFrameCopy (t : Nat) (lane : Lane) (f : VoteFrame) : Statement (.laneFrameCopy t lane f) :=
  (by decide : 1 ≤ 13 ∧ 13 ≤ 18 ∧ ([.dict, .out, .ident, .md, .tm, .meas, .aux, .itg, .bal, .hio, .ring, .can, .flt, .rcd, .mgmt] : List Part).Nodup)

theorem voteWindowExpiry (t : Nat) : Statement (.voteWindowExpiry t) :=
  (by decide : 1 ≤ 13 ∧ 13 ≤ 18 ∧ ([.dict, .out, .ident, .md, .tm, .meas, .aux, .itg, .bal, .hio, .ring, .can, .flt, .rcd, .mgmt] : List Part).Nodup)

theorem frameSent (t : Nat) (b : Bus) (r : SendResult) : Statement (.frameSent t b r) :=
  (by decide : 1 ≤ 13 ∧ 13 ≤ 18 ∧ ([.dict, .out, .trngCount, .ident, .md, .tm, .meas, .aux, .itg, .bal, .hio, .ring, .can, .flt, .rcd, .mgmt] : List Part).Nodup)

theorem busNotice (t : Nat) (b : Bus) (id typ seq : Nat) (n : Notice) : Statement (.busNotice t b id typ seq n) :=
  (by decide : 1 ≤ 13 ∧ 13 ≤ 18 ∧ ([.ringOffset, .dict, .out, .ident, .md, .tm, .meas, .aux, .itg, .bal, .hio, .lp, .ring, .can, .flt, .rcd, .mgmt] : List Part).Nodup)

theorem errorPassive (t : Nat) (b : Bus) : Statement (.errorPassive t b) :=
  (by decide : 1 ≤ 13 ∧ 13 ≤ 18 ∧ ([.dict, .can] : List Part).Nodup)

theorem busOff (t : Nat) (b : Bus) : Statement (.busOff t b) :=
  (by decide : 1 ≤ 13 ∧ 13 ≤ 18 ∧ ([.dict, .out, .ident, .md, .tm, .meas, .aux, .itg, .bal, .hio, .ring, .can, .flt, .rcd, .mgmt] : List Part).Nodup)

theorem busOffHoldoffExpiry (t : Nat) (b : Bus) : Statement (.busOffHoldoffExpiry t b) :=
  (by decide : 1 ≤ 13 ∧ 13 ≤ 18 ∧ ([.can] : List Part).Nodup)

theorem busRecover (t : Nat) (b : Bus) (q : PxReq) (v : Nat) : Statement (.busRecover t b q v) :=
  (by decide : 1 ≤ 13 ∧ 13 ≤ 18 ∧ ([.dict, .out, .ident, .md, .tm, .meas, .bal, .hio, .ring, .can, .px, .flt, .rcd, .mgmt] : List Part).Nodup)

theorem busOffRecoveryDone (t : Nat) (b : Bus) : Statement (.busOffRecoveryDone t b) :=
  (by decide : 1 ≤ 13 ∧ 13 ≤ 18 ∧ ([.can, .flt] : List Part).Nodup)

theorem busEnable (t : Nat) (b : Bus) (q : PxReq) (v : Nat) : Statement (.busEnable t b q v) :=
  (by decide : 1 ≤ 13 ∧ 13 ≤ 18 ∧ ([.dict, .out, .ident, .md, .tm, .meas, .bal, .hio, .ring, .can, .px, .flt, .rcd, .mgmt] : List Part).Nodup)

theorem lonely (t : Nat) (b : Bus) : Statement (.lonely t b) :=
  (by decide : 1 ≤ 13 ∧ 13 ≤ 18 ∧ ([.dict, .out, .ident, .md, .tm, .meas, .aux, .itg, .bal, .hio, .ring, .can, .flt, .rcd, .mgmt] : List Part).Nodup)

theorem lonelyRetry (t : Nat) (b : Bus) : Statement (.lonelyRetry t b) :=
  (by decide : 1 ≤ 13 ∧ 13 ≤ 18 ∧ ([.can] : List Part).Nodup)

theorem mailboxBooksCheck (t : Nat) (b : Bus) (tx rx : Nat) : Statement (.mailboxBooksCheck t b tx rx) :=
  (by decide : 1 ≤ 13 ∧ 13 ≤ 18 ∧ ([.dict, .out, .ident, .md, .tm, .meas, .aux, .itg, .bal, .hio, .ring, .can, .flt, .rcd, .mgmt] : List Part).Nodup)

theorem controlBusesLost (t : Nat) : Statement (.controlBusesLost t) :=
  (by decide : 1 ≤ 13 ∧ 13 ≤ 18 ∧ ([.dict, .out, .ident, .md, .tm, .meas, .aux, .itg, .bal, .hio, .ring, .can, .flt, .rcd, .mgmt] : List Part).Nodup)

theorem status (t : Nat) (via : FrameVia) (r : StatusRec) : Statement (.status t via r) :=
  (by decide : 1 ≤ 13 ∧ 13 ≤ 18 ∧ ([.dict, .out, .ident, .md, .tm, .meas, .aux, .itg, .bal, .hio, .ring, .can, .flt, .rcd, .mgmt] : List Part).Nodup)

theorem statusSend (t : Nat) : Statement (.statusSend t) :=
  (by decide : 1 ≤ 13 ∧ 13 ≤ 18 ∧ ([.dict, .out, .ring, .can] : List Part).Nodup)

theorem heartbeatSend (t : Nat) : Statement (.heartbeatSend t) :=
  (by decide : 1 ≤ 13 ∧ 13 ≤ 18 ∧ ([.dict, .out, .ring, .can] : List Part).Nodup)

theorem heartbeat (t : Nat) (via : FrameVia) (r : HeartbeatRec) : Statement (.heartbeat t via r) :=
  (by decide : 1 ≤ 13 ∧ 13 ≤ 18 ∧ ([.dict, .out, .ident, .md, .tm, .meas, .aux, .itg, .bal, .hio, .ring, .can, .flt, .rcd, .mgmt] : List Part).Nodup)

theorem heartbeatPeriodEnd (t : Nat) : Statement (.heartbeatPeriodEnd t) :=
  (by decide : 1 ≤ 13 ∧ 13 ≤ 18 ∧ ([.ringOffset, .dict, .out, .ident, .md, .tm, .meas, .aux, .itg, .bal, .hio, .lp, .ring, .can, .flt, .rcd, .mgmt] : List Part).Nodup)

theorem pxRead (t : Nat) (q : PxReq) (index sub : Nat) : Statement (.pxRead t q index sub) :=
  (by decide : 1 ≤ 14 ∧ 14 ≤ 18 ∧ ([.dict, .out, .trngCount, .ident, .md, .tm, .meas, .bal, .hio, .ring, .can, .px, .flt, .rcd, .mgmt] : List Part).Nodup)

theorem pxWrite (t : Nat) (q : PxReq) (index sub : Nat) (v : PxValue) : Statement (.pxWrite t q index sub v) :=
  (by decide : 1 ≤ 14 ∧ 14 ≤ 18 ∧ ([.dict, .pm, .out, .ident, .md, .tm, .meas, .aux, .itg, .bal, .hio, .est, .lp, .ring, .can, .px, .flt, .rcd, .mgmt] : List Part).Nodup)

theorem registerWrite (t : Nat) (q : PxReq) (index sub : Nat) (v : PxValue) : Statement (.registerWrite t q index sub v) :=
  (by decide : 1 ≤ 14 ∧ 14 ≤ 18 ∧ ([.dict, .pm, .out, .ident, .md, .tm, .meas, .aux, .itg, .bal, .hio, .est, .lp, .ring, .can, .px, .flt, .rcd, .mgmt] : List Part).Nodup)

theorem rwpWriteDone (t : Nat) (ok : Bool) : Statement (.rwpWriteDone t ok) :=
  (by decide : 1 ≤ 14 ∧ 14 ≤ 18 ∧ ([.dict, .pm, .out, .ident, .supply, .md, .tm, .meas, .bal, .hio, .lp, .ring, .can, .px, .flt, .sent, .rcd, .mgmt] : List Part).Nodup)

theorem pxBlockRead (t : Nat) (q : PxReq) (index sub offset size : Nat) : Statement (.pxBlockRead t q index sub offset size) :=
  (by decide : 1 ≤ 14 ∧ 14 ≤ 18 ∧ ([.dict, .out, .ident, .md, .tm, .meas, .bal, .hio, .ring, .can, .px, .flt, .rcd, .mgmt] : List Part).Nodup)

theorem pxBlockWrite (t : Nat) (q : PxReq) (index sub offset size : Nat) : Statement (.pxBlockWrite t q index sub offset size) :=
  (by decide : 1 ≤ 14 ∧ 14 ≤ 18 ∧ ([.dict, .out, .ident, .md, .tm, .meas, .bal, .hio, .ring, .can, .px, .flt, .rcd, .mgmt] : List Part).Nodup)

theorem pxSegment (t : Nat) (q : PxReq) (segno : Nat) (data : Bytes) : Statement (.pxSegment t q segno data) :=
  (by decide : 1 ≤ 14 ∧ 14 ≤ 18 ∧ ([.dict, .out, .ring, .can, .px] : List Part).Nodup)

theorem pxAck (t : Nat) (q : PxReq) (next : Nat) : Statement (.pxAck t q next) :=
  (by decide : 1 ≤ 14 ∧ 14 ≤ 18 ∧ ([.dict, .out, .ident, .md, .tm, .meas, .bal, .hio, .ring, .can, .px, .flt, .rcd, .mgmt] : List Part).Nodup)

theorem pxEnd (t : Nat) (q : PxReq) (crc : Nat) : Statement (.pxEnd t q crc) :=
  (by decide : 1 ≤ 14 ∧ 14 ≤ 18 ∧ ([.dict, .pm, .out, .ident, .md, .tm, .meas, .aux, .itg, .bal, .hio, .est, .lp, .ring, .can, .px, .flt, .rcd, .mgmt] : List Part).Nodup)

theorem pxAbort (t : Nat) (q : PxReq) (code : Nat) : Statement (.pxAbort t q code) :=
  (by decide : 1 ≤ 14 ∧ 14 ≤ 18 ∧ ([.dict, .out, .ident, .md, .tm, .meas, .bal, .hio, .ring, .can, .px, .flt, .rcd, .mgmt] : List Part).Nodup)

theorem pxResponse (t node tid code : Nat) : Statement (.pxResponse t node tid code) :=
  (by decide : 1 ≤ 14 ∧ 14 ≤ 18 ∧ ([.dict, .out, .hio, .ring] : List Part).Nodup)

theorem blockAckTimeout (t : Nat) : Statement (.blockAckTimeout t) :=
  (by decide : 1 ≤ 14 ∧ 14 ≤ 18 ∧ ([.dict, .out, .ring, .can, .px] : List Part).Nodup)

theorem blockIdleTimeout (t : Nat) : Statement (.blockIdleTimeout t) :=
  (by decide : 1 ≤ 14 ∧ 14 ≤ 18 ∧ ([.dict, .px] : List Part).Nodup)

theorem pxResponseStoreExpiry (t : Nat) : Statement (.pxResponseStoreExpiry t) :=
  (by decide : 1 ≤ 14 ∧ 14 ≤ 18 ∧ ([.px] : List Part).Nodup)

theorem pubAreaPoll (t node : Nat) (area : Bytes) : Statement (.pubAreaPoll t node area) :=
  (by decide : 1 ≤ 14 ∧ 14 ≤ 18 ∧ ([.dict, .out, .ring, .px] : List Part).Nodup)

theorem directoryStale (t node : Nat) : Statement (.directoryStale t node) :=
  (by decide : 1 ≤ 14 ∧ 14 ≤ 18 ∧ ([.px] : List Part).Nodup)

theorem pointLimitsReport (t node point : Nat) (lo hi : BitVec 32) : Statement (.pointLimitsReport t node point lo hi) :=
  (by decide : 1 ≤ 14 ∧ 14 ≤ 18 ∧ ([.dict, .out, .ring, .px] : List Part).Nodup)

theorem changeLogCopy (t : Nat) : Statement (.changeLogCopy t) :=
  (by decide : 1 ≤ 14 ∧ 14 ≤ 18 ∧ ([.dict, .out, .ident, .md, .tm, .meas, .bal, .hio, .ring, .can, .flt, .rcd, .mgmt] : List Part).Nodup)

theorem auxLoss (t : Nat) (via : NoticeVia) (n : Notice) : Statement (.auxLoss t via n) :=
  (by decide : 1 ≤ 15 ∧ 15 ≤ 18 ∧ ([.dict, .out, .ident, .md, .tm, .meas, .bal, .hio, .ring, .can, .flt, .rcd, .mgmt] : List Part).Nodup)

theorem abdicate (t : Nat) (via : NoticeVia) (n : Notice) : Statement (.abdicate t via n) :=
  (by decide : 1 ≤ 15 ∧ 15 ≤ 18 ∧ ([.ringOffset, .dict, .out, .ident, .md, .tm, .meas, .aux, .itg, .bal, .hio, .lp, .ring, .can, .flt, .rcd, .mgmt] : List Part).Nodup)

theorem headFailureWaitExpiry (t : Nat) : Statement (.headFailureWaitExpiry t) :=
  (by decide : 1 ≤ 15 ∧ 15 ≤ 18 ∧ ([.dict, .ident, .md, .meas, .bal, .can, .flt, .rcd, .mgmt] : List Part).Nodup)

theorem abdicateLoopHoldExpiry (t : Nat) : Statement (.abdicateLoopHoldExpiry t) :=
  (by decide : 1 ≤ 15 ∧ 15 ≤ 18 ∧ ([.ident, .md, .tm, .hio, .ring, .flt] : List Part).Nodup)

theorem checkpointSend (t : Nat) : Statement (.checkpointSend t) :=
  (by decide : 1 ≤ 15 ∧ 15 ≤ 18 ∧ ([.dict, .out, .ident, .md, .tm, .meas, .aux, .itg, .bal, .hio, .ring, .can, .flt, .rcd, .mgmt] : List Part).Nodup)

theorem checkpoint (t : Nat) (rx : SlotRx) (gen index : Nat) (data : Bytes) : Statement (.checkpoint t rx gen index data) :=
  (by decide : 1 ≤ 15 ∧ 15 ≤ 18 ∧ ([.dict, .out, .ident, .md, .tm, .meas, .bal, .hio, .ring, .can, .flt, .rcd, .mgmt] : List Part).Nodup)

theorem checkpointAck (t : Nat) (rx : SlotRx) (gen received : Nat) (complete : Bool) : Statement (.checkpointAck t rx gen received complete) :=
  (by decide : 1 ≤ 15 ∧ 15 ≤ 18 ∧ ([.dict, .out, .ident, .ring, .can, .flt] : List Part).Nodup)

theorem checkpointLag (t : Nat) : Statement (.checkpointLag t) :=
  (by decide : 1 ≤ 15 ∧ 15 ≤ 18 ∧ ([.dict, .out, .ident, .md, .tm, .meas, .aux, .itg, .bal, .hio, .ring, .can, .flt, .rcd, .mgmt] : List Part).Nodup)

theorem handoverCommand (t : Nat) (q : PxReq) (v : Nat) : Statement (.handoverCommand t q v) :=
  (by decide : 1 ≤ 15 ∧ 15 ≤ 18 ∧ ([.dict, .out, .ident, .md, .tm, .meas, .bal, .hio, .ring, .can, .px, .flt, .rcd, .mgmt] : List Part).Nodup)

theorem handoverTimeout (t : Nat) : Statement (.handoverTimeout t) :=
  (by decide : 1 ≤ 15 ∧ 15 ≤ 18 ∧ ([.dict, .out, .ident, .md, .tm, .meas, .aux, .itg, .bal, .hio, .ring, .can, .flt, .rcd, .mgmt] : List Part).Nodup)

theorem laneTokenTimeout (t : Nat) (lane : Lane) : Statement (.laneTokenTimeout t lane) :=
  (by decide : 1 ≤ 15 ∧ 15 ≤ 18 ∧ ([.dict, .out, .ident, .md, .tm, .meas, .aux, .itg, .bal, .hio, .ring, .can, .flt, .rcd, .mgmt] : List Part).Nodup)

theorem clockMonitor (t : Nat) : Statement (.clockMonitor t) :=
  (by decide : 1 ≤ 15 ∧ 15 ≤ 18 ∧ ([.dict, .out, .ident, .md, .tm, .meas, .aux, .itg, .bal, .hio, .ring, .can, .flt, .rcd, .mgmt] : List Part).Nodup)

theorem registerVote (t : Nat) (target : RegTarget) (a b c : Option Nat) : Statement (.registerVote t target a b c) :=
  (by decide : 1 ≤ 15 ∧ 15 ≤ 18 ∧ ([.dict, .out, .ident, .supply, .md, .tm, .meas, .aux, .itg, .bal, .hio, .ring, .can, .flt, .rcd, .mgmt] : List Part).Nodup)

theorem voterSelfTest (t : Nat) (ok : Bool) : Statement (.voterSelfTest t ok) :=
  (by decide : 1 ≤ 15 ∧ 15 ≤ 18 ∧ ([.dict, .out, .ident, .md, .tm, .meas, .aux, .itg, .bal, .hio, .ring, .can, .flt, .rcd, .mgmt] : List Part).Nodup)

theorem laneEccError (t : Nat) (lane : Lane) (corrected : Bool) : Statement (.laneEccError t lane corrected) :=
  (by decide : 1 ≤ 15 ∧ 15 ≤ 18 ∧ ([.dict, .out, .ident, .md, .tm, .meas, .aux, .itg, .bal, .hio, .ring, .can, .flt, .rcd, .mgmt] : List Part).Nodup)

theorem tripDriverCheck (t : Nat) (milliamps : Rat) : Statement (.tripDriverCheck t milliamps) :=
  (by decide : 1 ≤ 15 ∧ 15 ≤ 18 ∧ ([.dict, .out, .ident, .md, .tm, .meas, .aux, .itg, .bal, .hio, .ring, .can, .flt, .rcd, .mgmt] : List Part).Nodup)

theorem sourceRaise (t source : Nat) : Statement (.sourceRaise t source) :=
  (by decide : 1 ≤ 15 ∧ 15 ≤ 18 ∧ ([.dict, .out, .ident, .md, .tm, .meas, .aux, .itg, .bal, .hio, .ring, .can, .flt, .rcd, .mgmt] : List Part).Nodup)

theorem carriedFaultWrite (t : Nat) : Statement (.carriedFaultWrite t) :=
  (by decide : 1 ≤ 15 ∧ 15 ≤ 18 ∧ ([.flt, .rcd] : List Part).Nodup)

theorem fcuScan (t : Nat) (ok : Bool) : Statement (.fcuScan t ok) :=
  (by decide : 1 ≤ 15 ∧ 15 ≤ 18 ∧ ([.dict, .out, .ident, .md, .tm, .meas, .aux, .itg, .bal, .hio, .ring, .can, .flt, .rcd, .mgmt] : List Part).Nodup)

theorem collectorTest (t : Nat) (shown : Bool) : Statement (.collectorTest t shown) :=
  (by decide : 1 ≤ 15 ∧ 15 ≤ 18 ∧ ([.dict, .out, .ident, .md, .tm, .meas, .aux, .itg, .bal, .hio, .ring, .can, .flt, .rcd, .mgmt] : List Part).Nodup)

theorem collectorTestRelease (t : Nat) : Statement (.collectorTestRelease t) :=
  (by decide : 1 ≤ 15 ∧ 15 ≤ 18 ∧ ([.flt] : List Part).Nodup)

theorem firstMoveClear (t : Nat) (q : PxReq) (v : Nat) : Statement (.firstMoveClear t q v) :=
  (by decide : 1 ≤ 15 ∧ 15 ≤ 18 ∧ ([.dict, .out, .ident, .md, .tm, .meas, .bal, .hio, .ring, .can, .px, .flt, .rcd, .mgmt] : List Part).Nodup)

theorem faultPendingClear (t : Nat) (q : PxReq) (sub v : Nat) : Statement (.faultPendingClear t q sub v) :=
  (by decide : 1 ≤ 15 ∧ 15 ≤ 18 ∧ ([.dict, .out, .ident, .md, .tm, .meas, .bal, .hio, .ring, .can, .px, .flt, .rcd, .mgmt] : List Part).Nodup)

theorem severityWrite (t : Nat) (q : PxReq) (source v : Nat) : Statement (.severityWrite t q source v) :=
  (by decide : 1 ≤ 15 ∧ 15 ≤ 18 ∧ ([.dict, .out, .ident, .md, .tm, .meas, .bal, .hio, .ring, .can, .px, .flt, .rcd, .mgmt] : List Part).Nodup)

theorem sentFrame (t k : Nat) (pulses : List Nat) : Statement (.sentFrame t k pulses) :=
  (by decide : 1 ≤ 16 ∧ 16 ≤ 18 ∧ ([.dict, .sent] : List Part).Nodup)

theorem sentTimeout (t k : Nat) : Statement (.sentTimeout t k) :=
  (by decide : 1 ≤ 16 ∧ 16 ≤ 18 ∧ ([.dict, .sent] : List Part).Nodup)

theorem sentWarmupEnd (t k : Nat) : Statement (.sentWarmupEnd t k) :=
  (by decide : 1 ≤ 16 ∧ 16 ≤ 18 ∧ ([.sent] : List Part).Nodup)

theorem sentEnable (t : Nat) (q : PxReq) (k v : Nat) : Statement (.sentEnable t q k v) :=
  (by decide : 1 ≤ 16 ∧ 16 ≤ 18 ∧ ([.dict, .out, .ident, .md, .tm, .meas, .bal, .hio, .ring, .can, .px, .flt, .rcd, .mgmt] : List Part).Nodup)

theorem sentChannelCheck (t k : Nat) : Statement (.sentChannelCheck t k) :=
  (by decide : 1 ≤ 16 ∧ 16 ≤ 18 ∧ ([.dict, .out, .ident, .md, .tm, .meas, .bal, .hio, .ring, .can, .flt, .sent, .rcd, .mgmt] : List Part).Nodup)

theorem captureTrig (t : Nat) (rx : SlotRx) (n : Notice) : Statement (.captureTrig t rx n) :=
  (by decide : 1 ≤ 17 ∧ 17 ≤ 18 ∧ ([.dict, .out, .meas, .aux, .itg, .bal, .ring, .can, .rcd] : List Part).Nodup)

theorem recorderSample (t : Nat) : Statement (.recorderSample t) :=
  (by decide : 1 ≤ 17 ∧ 17 ≤ 18 ∧ ([.rcd] : List Part).Nodup)

theorem recorderStage (t : Nat) : Statement (.recorderStage t) :=
  (by decide : 1 ≤ 17 ∧ 17 ≤ 18 ∧ ([.dict, .out, .ident, .md, .tm, .meas, .bal, .hio, .ring, .can, .flt, .rcd, .mgmt] : List Part).Nodup)

theorem recorderRangeWrite (t : Nat) (q : PxReq) (o : RangeObj) (v : BitVec 32) : Statement (.recorderRangeWrite t q o v) :=
  (by decide : 1 ≤ 17 ∧ 17 ≤ 18 ∧ ([.dict, .out, .ident, .md, .tm, .meas, .bal, .hio, .ring, .can, .px, .flt, .rcd, .mgmt] : List Part).Nodup)

theorem recClear (t : Nat) (q : PxReq) (v : Nat) : Statement (.recClear t q v) :=
  (by decide : 1 ≤ 17 ∧ 17 ≤ 18 ∧ ([.dict, .pm, .out, .ident, .md, .tm, .meas, .bal, .hio, .ring, .can, .px, .flt, .rcd, .mgmt] : List Part).Nodup)

theorem episodeWrite (t : Nat) : Statement (.episodeWrite t) :=
  (by decide : 1 ≤ 17 ∧ 17 ≤ 18 ∧ ([.rcd] : List Part).Nodup)

theorem dayClose (t : Nat) : Statement (.dayClose t) :=
  (by decide : 1 ≤ 17 ∧ 17 ≤ 18 ∧ ([.dict, .rcd] : List Part).Nodup)

theorem scrubPassEnd (t : Nat) : Statement (.scrubPassEnd t) :=
  (by decide : 1 ≤ 17 ∧ 17 ≤ 18 ∧ ([.dict, .out, .ident, .md, .tm, .meas, .bal, .hio, .ring, .can, .flt, .rcd, .mgmt] : List Part).Nodup)

theorem scrubOverdue (t : Nat) : Statement (.scrubOverdue t) :=
  (by decide : 1 ≤ 17 ∧ 17 ≤ 18 ∧ ([.dict, .out, .ident, .md, .tm, .meas, .bal, .hio, .ring, .can, .flt, .rcd, .mgmt] : List Part).Nodup)

theorem captureMemoryEcc (t addr : Nat) (double : Bool) : Statement (.captureMemoryEcc t addr double) :=
  (by decide : 1 ≤ 17 ∧ 17 ≤ 18 ∧ ([.dict, .out, .ident, .md, .tm, .meas, .bal, .hio, .ring, .can, .flt, .rcd, .mgmt] : List Part).Nodup)

theorem captureTrigger (t : Nat) (q : PxReq) (v : Nat) : Statement (.captureTrigger t q v) :=
  (by decide : 1 ≤ 17 ∧ 17 ≤ 18 ∧ ([.dict, .out, .ident, .md, .tm, .meas, .aux, .itg, .bal, .hio, .ring, .can, .px, .flt, .rcd, .mgmt] : List Part).Nodup)

theorem captureAngleArm (t : Nat) (q : PxReq) (v : Nat) : Statement (.captureAngleArm t q v) :=
  (by decide : 1 ≤ 17 ∧ 17 ≤ 18 ∧ ([.dict, .out, .ident, .md, .tm, .meas, .bal, .hio, .ring, .can, .px, .flt, .rcd, .mgmt] : List Part).Nodup)

theorem captureRecordClose (t : Nat) : Statement (.captureRecordClose t) :=
  (by decide : 1 ≤ 17 ∧ 17 ≤ 18 ∧ ([.dict, .meas, .aux, .itg, .bal, .rcd, .mgmt] : List Part).Nodup)

theorem captureBooksCheck (t free recording held reading : Nat) : Statement (.captureBooksCheck t free recording held reading) :=
  (by decide : 1 ≤ 17 ∧ 17 ≤ 18 ∧ ([.dict, .out, .ident, .md, .tm, .meas, .bal, .hio, .ring, .can, .flt, .rcd, .mgmt] : List Part).Nodup)

theorem captureReadout (t : Nat) (q : PxReq) (request : Bytes) : Statement (.captureReadout t q request) :=
  (by decide : 1 ≤ 17 ∧ 17 ≤ 18 ∧ ([.dict, .out, .ident, .md, .tm, .meas, .bal, .hio, .ring, .can, .px, .flt, .rcd, .mgmt] : List Part).Nodup)

theorem captureReadoutDone (t : Nat) : Statement (.captureReadoutDone t) :=
  (by decide : 1 ≤ 17 ∧ 17 ≤ 18 ∧ ([.dict, .out, .ring, .rcd] : List Part).Nodup)

theorem captureRelease (t : Nat) (q : PxReq) (v : Nat) : Statement (.captureRelease t q v) :=
  (by decide : 1 ≤ 17 ∧ 17 ≤ 18 ∧ ([.dict, .out, .ident, .md, .tm, .meas, .bal, .hio, .ring, .can, .px, .flt, .rcd, .mgmt] : List Part).Nodup)

theorem norWriteFail (t : Nat) : Statement (.norWriteFail t) :=
  (by decide : 1 ≤ 17 ∧ 17 ≤ 18 ∧ ([.dict, .out, .ident, .md, .tm, .meas, .bal, .hio, .ring, .can, .flt, .rcd, .mgmt] : List Part).Nodup)

theorem changeLogNorTimeout (t : Nat) : Statement (.changeLogNorTimeout t) :=
  (by decide : 1 ≤ 17 ∧ 17 ≤ 18 ∧ ([.dict, .out, .ident, .md, .tm, .meas, .bal, .hio, .ring, .can, .flt, .rcd, .mgmt] : List Part).Nodup)

theorem packIdentityWrite (t : Nat) (q : PxReq) (v : Nat) : Statement (.packIdentityWrite t q v) :=
  (by decide : 1 ≤ 17 ∧ 17 ≤ 18 ∧ ([.dict, .out, .ident, .md, .tm, .meas, .bal, .hio, .ring, .can, .px, .flt, .rcd, .mgmt] : List Part).Nodup)

theorem packMemoryTransferDone (t addr : Nat) (ok : Bool) : Statement (.packMemoryTransferDone t addr ok) :=
  (by decide : 1 ≤ 17 ∧ 17 ≤ 18 ∧ ([.dict, .pm, .out, .ident, .md, .tm, .meas, .bal, .hio, .est, .ring, .can, .flt, .rcd, .mgmt] : List Part).Nodup)

theorem mgmtSensorRead (t : Nat) (r : MgmtReading) : Statement (.mgmtSensorRead t r) :=
  (by decide : 1 ≤ 18 ∧ 18 ≤ 18 ∧ ([.dict, .out, .ident, .md, .tm, .meas, .bal, .hio, .ring, .can, .flt, .rcd, .mgmt] : List Part).Nodup)

theorem supplyMonitor (t rail : Nat) (volts : Rat) : Statement (.supplyMonitor t rail volts) :=
  (by decide : 1 ≤ 18 ∧ 18 ≤ 18 ∧ ([.dict, .out, .ident, .md, .tm, .meas, .bal, .hio, .ring, .can, .flt, .rcd, .mgmt] : List Part).Nodup)

theorem mgmtTokenTimeout (t : Nat) : Statement (.mgmtTokenTimeout t) :=
  (by decide : 1 ≤ 18 ∧ 18 ≤ 18 ∧ ([.dict, .out, .ident, .md, .tm, .meas, .bal, .hio, .ring, .can, .flt, .rcd, .mgmt] : List Part).Nodup)

theorem mgmtRestartDone (t : Nat) : Statement (.mgmtRestartDone t) :=
  (by decide : 1 ≤ 18 ∧ 18 ≤ 18 ∧ ([.flt, .mgmt] : List Part).Nodup)

theorem calendarSet (t : Nat) (q : PxReq) (d : Bytes) : Statement (.calendarSet t q d) :=
  (by decide : 1 ≤ 18 ∧ 18 ≤ 18 ∧ ([.dict, .out, .ident, .md, .tm, .meas, .bal, .hio, .ring, .can, .px, .flt, .rcd, .mgmt] : List Part).Nodup)

theorem sessionChallenge (t : Nat) (q : PxReq) : Statement (.sessionChallenge t q) :=
  (by decide : 1 ≤ 18 ∧ 18 ≤ 18 ∧ ([.dict, .out, .trngCount, .ident, .md, .tm, .meas, .bal, .hio, .ring, .can, .px, .flt, .rcd, .mgmt] : List Part).Nodup)

theorem sessionOpen (t : Nat) (q : PxReq) (d : Bytes) : Statement (.sessionOpen t q d) :=
  (by decide : 1 ≤ 18 ∧ 18 ≤ 18 ∧ ([.dict, .out, .ident, .md, .tm, .meas, .bal, .hio, .ring, .can, .px, .flt, .rcd, .mgmt] : List Part).Nodup)

theorem sessionClose (t : Nat) (q : PxReq) (v : Nat) : Statement (.sessionClose t q v) :=
  (by decide : 1 ≤ 18 ∧ 18 ≤ 18 ∧ ([.dict, .out, .ident, .md, .tm, .meas, .bal, .hio, .ring, .can, .px, .flt, .rcd, .mgmt] : List Part).Nodup)

theorem sessionTimeout (t handle : Nat) : Statement (.sessionTimeout t handle) :=
  (by decide : 1 ≤ 18 ∧ 18 ≤ 18 ∧ ([.mgmt] : List Part).Nodup)

theorem authLockoutExpiry (t : Nat) : Statement (.authLockoutExpiry t) :=
  (by decide : 1 ≤ 18 ∧ 18 ≤ 18 ∧ ([.flt, .mgmt] : List Part).Nodup)

theorem roleKeyWrap (t : Nat) (q : PxReq) (d : Bytes) : Statement (.roleKeyWrap t q d) :=
  (by decide : 1 ≤ 18 ∧ 18 ≤ 18 ∧ ([.dict, .out, .ident, .md, .tm, .meas, .bal, .hio, .ring, .can, .px, .flt, .rcd, .mgmt] : List Part).Nodup)

theorem signingKeyRevoke (t : Nat) (q : PxReq) (v : Nat) : Statement (.signingKeyRevoke t q v) :=
  (by decide : 1 ≤ 18 ∧ 18 ≤ 18 ∧ ([.dict, .out, .ident, .md, .tm, .meas, .bal, .hio, .ring, .can, .px, .flt, .rcd, .mgmt] : List Part).Nodup)

theorem updateManifest (t : Nat) (q : PxReq) (d : Bytes) : Statement (.updateManifest t q d) :=
  (by decide : 1 ≤ 18 ∧ 18 ≤ 18 ∧ ([.dict, .out, .ident, .md, .tm, .meas, .bal, .hio, .ring, .can, .px, .flt, .rcd, .mgmt] : List Part).Nodup)

theorem sectorEraseDone (t : Nat) : Statement (.sectorEraseDone t) :=
  (by decide : 1 ≤ 18 ∧ 18 ≤ 18 ∧ ([.dict, .mgmt] : List Part).Nodup)

theorem updateBlock (t : Nat) (q : PxReq) (index : Nat) (d : Bytes) : Statement (.updateBlock t q index d) :=
  (by decide : 1 ≤ 18 ∧ 18 ≤ 18 ∧ ([.dict, .out, .ident, .md, .tm, .meas, .bal, .hio, .ring, .can, .px, .flt, .rcd, .mgmt] : List Part).Nodup)

theorem blockProgramDone (t : Nat) : Statement (.blockProgramDone t) :=
  (by decide : 1 ≤ 18 ∧ 18 ≤ 18 ∧ ([.dict, .mgmt] : List Part).Nodup)

theorem updateVerifyDone (t : Nat) : Statement (.updateVerifyDone t) :=
  (by decide : 1 ≤ 18 ∧ 18 ≤ 18 ∧ ([.dict, .out, .ident, .md, .tm, .meas, .bal, .hio, .ring, .can, .flt, .rcd, .mgmt] : List Part).Nodup)

theorem updateAbort (t : Nat) (q : PxReq) (v : Nat) : Statement (.updateAbort t q v) :=
  (by decide : 1 ≤ 18 ∧ 18 ≤ 18 ∧ ([.dict, .out, .ident, .md, .tm, .meas, .bal, .hio, .ring, .can, .px, .flt, .rcd, .mgmt] : List Part).Nodup)

theorem updateActivate (t : Nat) (q : PxReq) (v : Nat) : Statement (.updateActivate t q v) :=
  (by decide : 1 ≤ 18 ∧ 18 ≤ 18 ∧ ([.dict, .out, .ident, .md, .tm, .meas, .bal, .hio, .est, .ring, .can, .px, .flt, .rcd, .mgmt] : List Part).Nodup)

theorem trialConfirm (t : Nat) : Statement (.trialConfirm t) :=
  (by decide : 1 ≤ 18 ∧ 18 ≤ 18 ∧ ([.dict, .mgmt] : List Part).Nodup)

theorem calStart (t : Nat) (q : PxReq) (v : Nat) : Statement (.calStart t q v) :=
  (by decide : 1 ≤ 18 ∧ 18 ≤ 18 ∧ ([.dict, .out, .ident, .md, .tm, .meas, .bal, .hio, .ring, .can, .px, .flt, .rcd, .mgmt] : List Part).Nodup)

theorem calAbort (t : Nat) (q : PxReq) (v : Nat) : Statement (.calAbort t q v) :=
  (by decide : 1 ≤ 18 ∧ 18 ≤ 18 ∧ ([.dict, .out, .ident, .md, .tm, .meas, .bal, .hio, .ring, .can, .px, .flt, .rcd, .mgmt] : List Part).Nodup)

theorem calVisitEnd (t cell : Nat) (zero ref : Rat) : Statement (.calVisitEnd t cell zero ref) :=
  (by decide : 1 ≤ 18 ∧ 18 ≤ 18 ∧ ([.dict, .meas, .mgmt] : List Part).Nodup)

theorem calVerifyDone (t : Nat) (checks : List CalCheck) : Statement (.calVerifyDone t checks) :=
  (by decide : 1 ≤ 18 ∧ 18 ≤ 18 ∧ ([.dict, .out, .ident, .md, .tm, .meas, .bal, .hio, .ring, .can, .flt, .rcd, .mgmt] : List Part).Nodup)

theorem usbFrame (t : Nat) (stream : Bytes) : Statement (.usbFrame t stream) :=
  (by decide : 1 ≤ 18 ∧ 18 ≤ 18 ∧ ([.dict, .pm, .out, .trngCount, .ident, .md, .tm, .meas, .aux, .itg, .bal, .hio, .est, .lp, .ring, .can, .px, .flt, .rcd, .mgmt] : List Part).Nodup)

end Sys2Proof.Laws.Parts
end

