-- ==== Sys2Proof/Tests/Slice0.lean ====
section
/-! SUPPORT. The author's tests: small states, every check of WellFormed, the spec's worked examples, and for each statement of
Obligations.lean a state and operands that meet its hypotheses, clause by clause. -/
set_option maxRecDepth 20000

open Sys2Proof.Machine

namespace Sys2Proof.Tests
set_option Elab.async false

/-! Small states. -/

/-- A Service session over a path. -/
def sess (p : PxPath) : SessionSt := { handle := 1, role := 4, path := p, origin := 0, counter := 0, opened := 0, last := 0, key := [] }

/-- A module in STANDBY with both buses active, the pack memory present and a Service session over USB. -/
def up : State :=
  { State.reset with
    md := { State.reset.md with mode := .standby, started := true, aux24 := true }
    can := { State.reset.can with a := { State.reset.can.a with st := .active }, b := { State.reset.can.b with st := .active } }
    rcd := { State.reset.rcd with pmPresent := true, packOk := true }
    mgmt := { State.reset.mgmt with sessions := [sess .usb] } }

/-- The same as head. -/
def hd : State := { up with ident := { up.ident with role := .head, phase := .enumerated } }

/-- The same in another mode. -/
def inMode (m : Mode) (s : State) : State := { s with md := { s.md with mode := m } }

/-- A start at which everything passes. -/
def goodStart : StartRec :=
  { slotA := true, slotB := true, laneA := true, laneB := true, laneC := true, voterOk := true, fcuOk := true, packReadable := true, h1Ok := true,
    h2Ok := true, portLock := true, keysOk := true, calendarOk := true, capacitance := 1000, duration := 2000 }

/-- A valid descriptor. -/
def aDescriptor : Descriptor := { seq := 2, stringId := 1, headPack := 1, standbyPack := 0, moduleCount := 12, flags := 1 }

/-- A head whose staged objects give a valid descriptor. -/
def stagedHead : State :=
  ((hd.setNat Obj.stageStringId 1).setNat Obj.stageHeadPack 1).setNat Obj.stageModuleCount 12

/-- A slot of a class and type to all squares, received at the west port from a square. -/
def slot (cls typ : Nat) (src : Int := 0) : SlotRx :=
  ⟨.west, { cls := cls, typ := typ, west := false, bcast := true, turned := false, epoch := false, hops := 3, src := src, seq := 1,
            trClass := 0, trCount := 0, returned := false, aux := 0 }⟩

/-- A segment on square 2 of a ring whose two ports carry traffic. -/
def seg : State :=
  { up with ring := { up.ring with
    hasSquare := true, square := 2, n := 4, east := { up.ring.east with up := true }, west := { up.ring.west with up := true } } }

/-- The head on square 0 of a ring whose two ports carry traffic. -/
def hdRing : State := { seg with ident := hd.ident, ring := { seg.ring with square := 0 } }

/-- A module that has received a spinner record: turns of 1 ms. -/
def spinning : State := { up with tm := { up.tm with spin := [⟨0, 0, 64000000, 3, true, false, 0, 0, 1⟩] } }

/-- What a slot received at instant 0 leaves before it is delivered. -/
def rxOf (s : State) (rx : SlotRx) (payload : Bytes) : State := ((s.tick 0).ringRx rx payload).1

/-- The same state with the session over another path. -/
def onPath (p : PxPath) (s : State) : State := { s with mgmt := { s.mgmt with sessions := [sess p] } }

/-- A request of that session. -/
def ask (p : PxPath) (a : Bytes) : PxReq := { path := p, origin := 0, node := 0, tid := 1, session := 1, auth := a }

/-- The same with the AUTH that is right for a service on an element. -/
def signedBy (p : PxPath) (service : Nat) (o : ObjDef) (i j : Nat) (d : Bytes) (ty : Nat := o.ty.code) : PxReq :=
  ask p (pxAuth [] 0 1 (pxRequest (ask p []) service (o.index + i) (o.sub + j) ty d))

/-- A WRITE of an element over USB. -/
def signed (o : ObjDef) (i j : Nat) (d : Bytes) : PxReq := signedBy .usb 0x02 o i j d

/-- What the witnesses of writes need of a state and an element. -/
def opensOn (p : PxPath) (s : State) (o : ObjDef) (i j : Nat) : Bool :=
  o.has i j && s.commsOn && s.px.stored.isEmpty && s.px.rwp.isEmpty && s.mgmt.sessions == [sess p] && s.mgmt.running
    && s.available (o.index + i) && decide (s.rankFor o ≤ 4) && s.px.blocks.isEmpty

theorem authorised_of {s : State} {q : PxReq} {x : SessionSt} {service index sub ty : Nat} {d : Bytes} (h0 : q.session ≠ 0)
    (hx : s.session q = some x) (ha : q.auth = pxAuth x.key 0 (x.counter + 1) (pxRequest q service index sub ty d)) :
    s.pxAuthorise q service index sub ty d = some (x.role, x.counter + 1) := by
  have hr : List.range 16 = 0 :: (List.range 15).map Nat.succ := List.range_succ_eq_map
  unfold State.pxAuthorise
  simp only [h0, if_false, hx, hr, List.map_cons, List.find?_cons, Nat.add_zero, ← ha, beq_self_eq_true]

theorem pxRequest_ask (p : PxPath) (a : Bytes) (service index sub ty : Nat) (d : Bytes) :
    pxRequest (ask p a) service index sub ty d = pxRequest (ask p []) service index sub ty d := by
  simp [pxRequest, ask]

theorem session_ask (p : PxPath) (s : State) (a : Bytes) (h : s.mgmt.sessions = [sess p]) : s.session (ask p a) = some (sess p) := by
  unfold State.session
  rw [h]
  simp [ask, sess]

theorem ask_authorised (p : PxPath) (s : State) (service index sub ty : Nat) (d : Bytes) (h : s.mgmt.sessions = [sess p]) :
    s.pxAuthorise (ask p (pxAuth [] 0 1 (pxRequest (ask p []) service index sub ty d))) service index sub ty d = some (4, 1) := by
  refine authorised_of (x := sess p) Nat.one_ne_zero (session_ask p _ _ h) ?_
  rw [pxRequest_ask]
  rfl

theorem ask_fresh (s : State) (q : PxReq) (service index sub ty : Nat) (d : Bytes) (h : s.px.stored = []) :
    s.pxDuplicate q service index sub ty d = none := by
  have hn : s.pxStored (PxReqKey q service index sub) = none := by simp [State.pxStored, h]
  simp only [State.pxDuplicate, hn]

theorem signedBy_admits (p : PxPath) {s : State} {o : ObjDef} {i j service ty : Nat} {d : Bytes} (h : opensOn p s o i j = true) :
    s.admits (signedBy p service o i j d ty) o i j service ty d 4 1 := by
  simp only [opensOn, Bool.and_eq_true, decide_eq_true_eq, List.isEmpty_iff, beq_iff_eq] at h
  obtain ⟨⟨⟨⟨⟨⟨⟨⟨h1, h2⟩, h3⟩, h4⟩, h5⟩, h6⟩, h7⟩, h8⟩, h9⟩ := h
  have hp : s.pxHears (signedBy p service o i j d ty) = true := by unfold State.pxHears; rw [h2]; rfl
  have ha : s.pxAuthorise (signedBy p service o i j d ty) service (o.index + i) (o.sub + j) ty d = some (4, 1) := by
    unfold signedBy
    exact ask_authorised p s _ _ _ _ _ h5
  have hr : s.px.rwp.any (fun r => r.key == PxReqKey (signedBy p service o i j d ty) service (o.index + i) (o.sub + j)) = false := by
    rw [h4]; rfl
  exact ⟨h1, hp, ask_fresh _ _ _ _ _ _ _ h3, hr, ha, h6, h7, h8⟩

theorem signed_admits {s : State} {o : ObjDef} {i j : Nat} {d : Bytes} (h : opensOn .usb s o i j = true)
    (hv : (o.access.writable && decide (checkValue o o.ty.code d = 0)) = true) :
    s.admitsWrite (signed o i j d) o i j d 4 1 := by
  have hb : s.px.blocks.any (fun b => b.write && b.index == o.index + i && b.sub == o.sub + j) = false := by
    simp only [opensOn, Bool.and_eq_true, List.isEmpty_iff] at h
    rw [h.2]; rfl
  simp only [Bool.and_eq_true, decide_eq_true_eq] at hv
  exact ⟨signedBy_admits .usb h, hb, hv.1, hv.2⟩

/-- A plan for node 0 of four cells. -/
def goodPlan : Bytes := [1, 0, 0, 0, 10, 0] ++ zeroBytes 10 ++ [100, 0, 200, 255] ++ zeroBytes 44

/-- A module with a cell type: 100 Ah and an OCV table. -/
def typed : State := (up.setRat Obj.nominalCapacity 100).setBytes Obj.ocvTable (List.replicate 164 1)

/-- The state with the estimate of cell 1 replaced. -/
def withCell (s : State) (c : EstCell) : State := { s with est := { s.est with cells := [(1, c)] } }

/-- A notice of node 5. -/
def aNotice : Notice := { node := 5, code := 1, detail := 0, time := 0, pack := 0 }

/-- What a notice received at instant 0 leaves before it is delivered. -/
def noteOf (s : State) (rx : SlotRx) (typ : Nat) : State := ((s.tick 0).noticeRx (.ring rx) typ aNotice).1

/-- The state with the east port replaced. -/
def onEast (s : State) (p : PortSt) : State := { s with ring := { s.ring with east := p } }

/-- A slot received at the west port for a square further east. -/
def passing (cls typ : Nat) : SlotRx := { slot cls typ with hdr := { (slot cls typ).hdr with bcast := false } }

/-- A reply to census 1. -/
def aReply : CensusReplyRec :=
  { censusNo := 1, square := 1, kind := 0, eligible := true, candValid := true, pack := 5, serial := 1, descSeq := 1, descString := 1 }

/-- The status record of a node in STANDBY. -/
def aStatus (node : Nat) : StatusRec :=
  { node := node, mode := 3, role := 1, timeState := 2, integrity := 0, meas := 0, sumC := 0, stackSn := 0, hotspot := 0, derate := 255,
    firstMove := 0, balStat := 0, linkView := 0, time := 0 }

/-- A heartbeat of the head of pack 9. -/
def aHeartbeat : HeartbeatRec :=
  { node := 1, mode := 3, contactor := 0, basis := 0, stringId := 1, descSeq := 1, membGen := 0, censusNo := 1, ckptGen := 0, pack := 9 }

/-- A request without a session. -/
def plain (p : PxPath) : PxReq := { ask p [] with session := 0 }

theorem signedBy_authorised (p : PxPath) {s : State} {o : ObjDef} {i j service index sub ty : Nat} {d : Bytes}
    (h : (s.mgmt.sessions == [sess p] && index == o.index + i && sub == o.sub + j) = true) :
    s.pxAuthorise (signedBy p service o i j d ty) service index sub ty d = some (4, 1) := by
  simp only [Bool.and_eq_true, beq_iff_eq] at h
  obtain ⟨⟨h1, rfl⟩, rfl⟩ := h
  unfold signedBy
  exact ask_authorised p s _ _ _ _ _ h1

theorem signedBy_known (p : PxPath) {s : State} {o : ObjDef} {i j service index sub ty : Nat} {d : Bytes}
    (h : (s.mgmt.sessions == [sess p] && index == o.index + i && sub == o.sub + j) = true) :
    s.pxAuthorise (signedBy p service o i j d ty) service index sub ty d ≠ none := by
  rw [signedBy_authorised p h]; exact Option.some_ne_none _

/-- A block transfer of OcvTable under way over USB. -/
def aBlock (write : Bool) : BlockXfer :=
  { q := ask .usb [], index := Obj.ocvTable.index, sub := Obj.ocvTable.sub, write := write, live := false, offset := 0, size := 164, segs := [],
    next := 0, sent := 2, resends := 0, lastFrame := 0, ackDue := some 10 }

/-- A module with that transfer open. -/
def moving (write : Bool) : State := { up with px := { up.px with blocks := [aBlock write] } }

/-- A change-log entry not yet copied. -/
def anEntry : ChangeEntry :=
  { entry := 1, time := 0, index := 0x5000, sub := 1, ty := 8, path := 3, origin := 0, role := 4, result := 0, session := 1, flags := 0, old := [],
    new := [], created := 0 }

/-- A frame of six zero nibbles at 3 µs per tick, pulse by pulse. -/
def aFrame : List Nat := 6888 :: (List.replicate 7 1476 ++ [2091])

/-- A module with SENT channel 1 on. -/
def sentUp : State := { (up.setNat Obj.sentEnable 1) with supply := { up.supply with sentOn := [(1, true)] } }

/-- A capture record in a state. -/
def aCap (st : Nat) : CapRec :=
  { id := 1, state := st, cause := 1, merged := false, shortPre := false, poison := false, timeFree := false, truncated := false,
    auxAbsent := false, auxPresent := false, node := 0, detail := 0, t := 0, start := 0, stop := 0, sources := 0, slots := 0, merges := 0, first := 0 }

/-- A module with that record in its first slot. -/
def capUp (st : Nat) : State := { up with rcd := { up.rcd with caps := [(0, aCap st)] } }

/-- Whether a result is a given list, or a given error. -/
def isOk (x : Except Nat (List Nat)) (v : List Nat) : Bool := match x with | .ok y => y == v | .error _ => false
def isError (x : Except Nat (List Nat)) (e : Nat) : Bool := match x with | .ok _ => false | .error y => y == e

theorem eq_of_isOk {x : Except Nat (List Nat)} {v : List Nat} (h : isOk x v = true) : x = .ok v := by
  cases x <;> simp_all [isOk]

theorem eq_of_isError {x : Except Nat (List Nat)} {e : Nat} (h : isError x e = true) : x = .error e := by
  cases x <;> simp_all [isError]

theorem session_signed (p : PxPath) (s : State) (service : Nat) (o : ObjDef) (i j : Nat) (d : Bytes) (ty : Nat) (h : s.mgmt.sessions = [sess p]) :
    s.session (signedBy p service o i j d ty) = some (sess p) := by
  unfold signedBy
  exact session_ask p s _ h

/-- What a write without a session needs. -/
def opensPlain (s : State) (o : ObjDef) (i j : Nat) : Bool :=
  o.has i j && s.commsOn && s.px.stored.isEmpty && s.px.rwp.isEmpty && s.mgmt.running && s.available (o.index + i) && s.rankFor o == 0
    && s.px.blocks.isEmpty

theorem plain_admits (p : PxPath) {s : State} {o : ObjDef} {i j : Nat} {d : Bytes} (h : opensPlain s o i j = true)
    (hv : (o.access.writable && decide (checkValue o o.ty.code d = 0)) = true) : s.admitsWrite (plain p) o i j d 0 0 := by
  simp only [opensPlain, Bool.and_eq_true, List.isEmpty_iff, beq_iff_eq] at h
  obtain ⟨⟨⟨⟨⟨⟨⟨h1, h2⟩, h3⟩, h4⟩, h6⟩, h7⟩, h8⟩, h9⟩ := h
  simp only [Bool.and_eq_true, decide_eq_true_eq] at hv
  have hp : s.pxHears (plain p) = true := by unfold State.pxHears; rw [h2]; rfl
  have ha : s.pxAuthorise (plain p) 0x02 (o.index + i) (o.sub + j) o.ty.code d = some (0, 0) := by
    unfold State.pxAuthorise plain; exact if_pos rfl
  have hr : s.px.rwp.any (fun r => r.key == PxReqKey (plain p) 0x02 (o.index + i) (o.sub + j)) = false := by rw [h4]; rfl
  have hb : s.px.blocks.any (fun b => b.write && b.index == o.index + i && b.sub == o.sub + j) = false := by rw [h9]; rfl
  exact ⟨⟨h1, hp, ask_fresh _ _ _ _ _ _ _ h3, hr, ha, h6, h7, Nat.le_of_eq h8⟩, hb, hv.1, hv.2⟩

/-- Some wrapped key opens under any wrapping key. -/
theorem wrapped (k : Bytes) : ∃ d key : Bytes, fieldAt 0 1 d = 1 ∧ fieldAt 1 3 d = 0
    ∧ gcmOpen k (sliceBytes 4 12 d) (d.take 4) (sliceBytes 16 32 d) (sliceBytes 48 16 d) = some key ∧ key ≠ zeroBytes 32 := by
  have hx : ∃ ct : Bytes, ct.length = 32 ∧ xorBytes ct (gcmStream k (zeroBytes 12) 2 2) ≠ zeroBytes 32 := by
    by_cases h : xorBytes (zeroBytes 32) (gcmStream k (zeroBytes 12) 2 2) = zeroBytes 32
    · refine ⟨1 :: zeroBytes 31, rfl, fun h' => ?_⟩
      cases hs : gcmStream k (zeroBytes 12) 2 2 with
      | nil => rw [hs] at h; simp [xorBytes, zeroBytes] at h
      | cons a r =>
        rw [hs] at h h'
        simp only [xorBytes, zeroBytes, List.replicate, List.zipWith_cons_cons, List.cons.injEq] at h h'
        rw [show a = 0 by simpa using h.1] at h'
        exact absurd h'.1 (by decide)
    · exact ⟨zeroBytes 32, rfl, h⟩
  obtain ⟨ct, hl, hne⟩ := hx
  have ht : (gcmTag k (zeroBytes 12) [1, 0, 0, 0] ct).length ≤ 16 := by
    simp only [gcmTag, xorBytes, List.length_zipWith, beBytes, List.length_reverse]
    exact Nat.le_trans (Nat.min_le_left _ _) (by simp [leBytes])
  refine ⟨[1, 0, 0, 0] ++ zeroBytes 12 ++ ct ++ gcmTag k (zeroBytes 12) [1, 0, 0, 0] ct, _, rfl, rfl, ?_, hne⟩
  have h1 : ([1, 0, 0, 0] ++ zeroBytes 12 ++ ct ++ gcmTag k (zeroBytes 12) [1, 0, 0, 0] ct : Bytes).take 4 = [1, 0, 0, 0] := rfl
  have h2 : sliceBytes 4 12 ([1, 0, 0, 0] ++ zeroBytes 12 ++ ct ++ gcmTag k (zeroBytes 12) [1, 0, 0, 0] ct) = zeroBytes 12 := rfl
  have h3 : sliceBytes 16 32 ([1, 0, 0, 0] ++ zeroBytes 12 ++ ct ++ gcmTag k (zeroBytes 12) [1, 0, 0, 0] ct) = ct := by
    show (ct ++ gcmTag k (zeroBytes 12) [1, 0, 0, 0] ct).take 32 = ct
    rw [← hl]; exact List.take_left
  have h4 : sliceBytes 48 16 ([1, 0, 0, 0] ++ zeroBytes 12 ++ ct ++ gcmTag k (zeroBytes 12) [1, 0, 0, 0] ct)
      = gcmTag k (zeroBytes 12) [1, 0, 0, 0] ct := by
    show ((ct ++ gcmTag k (zeroBytes 12) [1, 0, 0, 0] ct).drop 32).take 16 = _
    rw [← hl, List.drop_left]; exact List.take_of_length_le ht
  rw [h1, h2, h3, h4, gcmOpen, if_pos rfl, hl]

/-! Every check of WellFormed: a command that passes all of its own, and one that fails each of them. -/

/-- A request within R542 and one that is not: a session without its AUTH. -/
def okReq : PxReq := plain .usb
def badReq : PxReq := { plain .usb with session := 1 }

/-- A header with a class of four bits. -/
def badRx : SlotRx := slot 8 1

/-- A notice with a detail of 17 bits. -/
def badNotice : Notice := { aNotice with detail := 65536 }

def okJoin : JoinFrame := { pack := 0, serial := 0, stringId := 0, seq := 0, eligible := false }

def okSpin : SpinnerRec := { t0 := 0, turn0 := 0, p := 0, source := 0, locked := false, change := false, anchorTime := 0, anchorTurn := 0, m := 0 }

theorem test_well_formed_1 : (
    [.descriptorAnnounce 0 ⟨0, 0, 0, 0, 0, false, false⟩, .headClaim 0 0 0 0 0, .rollOffOpen 0 0 0 0, .rollOffDraw 0 0 0 0, .descCommit 0 okReq 0,
     .descDistribution 0 (slot 1 1) 0 (zeroBytes 128), .descWriteAck 0 0 false, .adoptPack 0 okReq 0, .descErase 0 okReq 0, .joinOpen 0 0 0,
     .join 0 okJoin, .nodeAssign 0 0 0 0 0, .assignAck 0 0 0 false, .enumerationClose 0 ⟨0, 0, false⟩ ⟨0, 0, false⟩ 0, .populatedCellsWrite 0 okReq 0,
     .sentSupplyLimit 0 1, .sentSupplyRetry 0 1 false, .maintPermitGrant 0 okReq 0, .maintPermitEnd 0 okReq 0, .safeExit 0 okReq 0,
     .shipArm 0 okReq 0, .shipDisarm 0 okReq 0, .time 0 (slot 1 1) 0 0 0 0 0, .delayReq 0 .west 0, .delayResp 0 .west 0 0 0,
     .pcsAngle 0 (slot 1 1) 0 0 0 false, .spinner 0 (slot 1 1) okSpin, .angleComparatorFire 0 .capture 0, .shadowLowRead 0 .laneA 0 0,
     .shadowHighRead 0 .laneA 0 0, .crossingStatusClear 0 okReq 0, .precisionChannelFail 0 1, .modulatorOverload 0 1 0, .precisionWindowEnd 0 [],
     .widebandOutput 0 0 [] none, .standardOutput 0 0 [] none, .hostRegStart 0 okReq 0, .pawnAbandon 0 0, .balctrlWrite 0 okReq 0 0,
     .balctrlExpiry 0 0, .plan 0 (.px okReq) (zeroBytes 64), .report 0 (slot 1 1) (zeroBytes 64), .balTargetReached 0 1, .flybackImplausible 0 1,
     .openReq 0 (.bus .ctlA 0) aNotice, .openReqHoldExpiry 0 0, .trip 0 (.bus .ctlA 0) aNotice, .tripResetCommand 0 okReq 0] : List Instr).all (fun i => i.wf == true) = true := by decide +kernel

theorem test_well_formed_2 : (
    [.tripReset 0 (.bus .ctlA 0) aNotice, .contactorClose 0 okReq 0, .contactorOpen 0 okReq 0, .release 0 (slot 1 1) 0 false 0 0,
     .protectionSetWrite 0 okReq 0 0 ⟨0, []⟩, .restPoint 0 1, .recordReadback 0 false 0, .stepWindowEnd 0 0 0 0 [],
     .impedanceBlock 0 1 0 ⟨0, 0, 0, 0⟩, .socEst 0 (slot 1 1) (zeroBytes 52), .capEst 0 (slot 1 1) (zeroBytes 52), .loopEnable 0 okReq 0 0,
     .loopDisable 0 okReq 0 0, .bankWrite 0 okReq 0 false (zeroBytes 1000), .bankRequest 0 okReq 0 0, .inputBindWrite 0 okReq 0 (zeroBytes 16),
     .outputBindWrite 0 okReq 0 (zeroBytes 16), .setpointWrite 0 okReq 0 1 0, .fanStall 0 1, .wrapPortDown 0 (slot 1 1) aNotice,
     .wrapPortReady 0 (slot 1 1) aNotice, .unwrapOrder 0 (slot 1 1) aNotice, .censusRequestNotice 0 (slot 1 1) aNotice, .censusRequest 0 okReq 0,
     .census 0 (slot 1 1) 0 0 0 0, .censusResult 0 (slot 1 1) 0 0 0 0 0, .censusReply 0 (slot 1 1) aReply, .slotForward 0 (slot 1 1) (zeroBytes 52) 0,
     .damagedSlot 0 (slot 1 1) (zeroBytes 52) .crc, .precision 0 (slot 1 1) [], .current 0 (slot 1 1) [], .wideband 0 (slot 1 1) [],
     .bulk 0 (slot 1 1) (zeroBytes 52), .busNotice 0 .ctlA 0 0 0 aNotice, .busRecover 0 .ctlA okReq 0, .busEnable 0 .ctlA okReq 0,
     .status 0 (.bus .ctlA) (aStatus 1), .heartbeat 0 (.bus .ctlA) aHeartbeat, .pxRead 0 okReq 0 0, .pxWrite 0 okReq 0 0 ⟨0, []⟩,
     .registerWrite 0 okReq 0 0 ⟨0, []⟩, .pxBlockRead 0 okReq 0 0 0 0, .pxBlockWrite 0 okReq 0 0 0 0, .pxSegment 0 okReq 0 (zeroBytes 32),
     .pxAck 0 okReq 0, .pxEnd 0 okReq 0, .pxAbort 0 okReq 0, .pxResponse 0 0 0 0] : List Instr).all (fun i => i.wf == true) = true := by decide +kernel

theorem test_well_formed_3 : (
    [.pubAreaPoll 0 0 (zeroBytes 276), .directoryStale 0 0, .pointLimitsReport 0 0 0 0 0, .auxLoss 0 (.bus .ctlA 0) aNotice,
     .abdicate 0 (.bus .ctlA 0) aNotice, .checkpoint 0 (slot 1 1) 0 0 (zeroBytes 46), .checkpointAck 0 (slot 1 1) 0 0 false,
     .handoverCommand 0 okReq 0, .sourceRaise 0 0, .firstMoveClear 0 okReq 0, .faultPendingClear 0 okReq 1 0, .severityWrite 0 okReq 0 0,
     .sentFrame 0 1 [], .sentTimeout 0 1, .sentWarmupEnd 0 1, .sentEnable 0 okReq 1 0, .sentChannelCheck 0 1, .captureTrig 0 (slot 1 1) aNotice,
     .recorderRangeWrite 0 okReq .voltLow 0, .recClear 0 okReq 0, .captureTrigger 0 okReq 0, .captureAngleArm 0 okReq 0,
     .captureReadout 0 okReq (zeroBytes 16), .captureRelease 0 okReq 0, .packIdentityWrite 0 okReq 0, .supplyMonitor 0 0 0,
     .calendarSet 0 okReq (zeroBytes 12), .sessionChallenge 0 okReq, .sessionOpen 0 okReq (zeroBytes 24), .sessionClose 0 okReq 0,
     .sessionTimeout 0 0, .roleKeyWrap 0 okReq (zeroBytes 64), .signingKeyRevoke 0 okReq 0, .updateManifest 0 okReq (zeroBytes 256),
     .updateBlock 0 okReq 0 (zeroBytes 4096), .updateAbort 0 okReq 0, .updateActivate 0 okReq 0, .calStart 0 okReq 0, .calAbort 0 okReq 0,
     .calVisitEnd 0 1 0 0] : List Instr).all (fun i => i.wf == true) = true := by decide +kernel

theorem test_ill_formed_1 : (
    [.descriptorAnnounce 0 ⟨16777216, 0, 0, 0, 0, false, false⟩, .headClaim 0 16777216 0 0 0, .headClaim 0 0 4294967296 0 0,
     .headClaim 0 0 0 18446744073709551616 0, .headClaim 0 0 0 0 4, .rollOffOpen 0 16777216 0 0, .rollOffOpen 0 0 4294967296 0,
     .rollOffOpen 0 0 0 18446744073709551616, .rollOffDraw 0 18446744073709551616 0 0, .rollOffDraw 0 0 256 0, .rollOffDraw 0 0 0 65536,
     .descCommit 0 badReq 0, .descCommit 0 okReq 256, .descDistribution 0 badRx 0 (zeroBytes 128), .descDistribution 0 (slot 1 1) 256 (zeroBytes 128),
     .descDistribution 0 (slot 1 1) 0 (zeroBytes 127), .descWriteAck 0 256 false, .adoptPack 0 badReq 0, .adoptPack 0 okReq 18446744073709551616,
     .descErase 0 badReq 0, .descErase 0 okReq 256, .joinOpen 0 65536 0, .joinOpen 0 0 256, .join 0 { okJoin with seq := 4294967296 },
     .nodeAssign 0 18446744073709551616 0 0 0, .nodeAssign 0 0 18446744073709551616 0 0, .nodeAssign 0 0 0 256 0, .nodeAssign 0 0 0 0 65536,
     .assignAck 0 18446744073709551616 0 false, .assignAck 0 0 256 false, .enumerationClose 0 ⟨4, 0, false⟩ ⟨0, 0, false⟩ 0,
     .enumerationClose 0 ⟨0, 0, false⟩ ⟨4, 0, false⟩ 0, .enumerationClose 0 ⟨0, 0, false⟩ ⟨0, 0, false⟩ 65536, .populatedCellsWrite 0 badReq 0,
     .populatedCellsWrite 0 okReq 256, .sentSupplyLimit 0 0, .sentSupplyLimit 0 9, .sentSupplyRetry 0 0 false, .sentSupplyRetry 0 9 false,
     .maintPermitGrant 0 badReq 0, .maintPermitGrant 0 okReq 65536, .maintPermitEnd 0 badReq 0, .maintPermitEnd 0 okReq 65536, .safeExit 0 badReq 0,
     .safeExit 0 okReq 256, .shipArm 0 badReq 0, .shipArm 0 okReq 256, .shipDisarm 0 badReq 0] : List Instr).all (fun i => i.wf == false) = true := by decide +kernel

theorem test_ill_formed_2 : (
    [.shipDisarm 0 okReq 256, .time 0 badRx 0 0 0 0 0, .time 0 (slot 1 1) 18446744073709551616 0 0 0 0,
     .time 0 (slot 1 1) 0 18446744073709551616 0 0 0, .time 0 (slot 1 1) 0 0 65536 0 0, .time 0 (slot 1 1) 0 0 0 256 0,
     .delayReq 0 .west 18446744073709551616, .delayResp 0 .west 18446744073709551616 0 0, .delayResp 0 .west 0 18446744073709551616 0,
     .delayResp 0 .west 0 0 18446744073709551616, .pcsAngle 0 badRx 0 0 0 false, .pcsAngle 0 (slot 1 1) 18446744073709551616 0 0 false,
     .pcsAngle 0 (slot 1 1) 0 4294967296 0 false, .pcsAngle 0 (slot 1 1) 0 0 4294967296 false, .spinner 0 badRx okSpin,
     .spinner 0 (slot 1 1) { okSpin with source := 256 }, .angleComparatorFire 0 .capture 16, .shadowLowRead 0 .laneA 65536 0,
     .shadowLowRead 0 .laneA 0 256, .shadowHighRead 0 .laneA 65536 0, .shadowHighRead 0 .laneA 0 256, .crossingStatusClear 0 badReq 0,
     .crossingStatusClear 0 okReq 65536, .precisionChannelFail 0 0, .precisionChannelFail 0 25, .modulatorOverload 0 0 0, .modulatorOverload 0 25 0,
     .precisionWindowEnd 0 [⟨0, 0⟩], .precisionWindowEnd 0 [⟨25, 0⟩], .widebandOutput 0 0 [⟨0, 0⟩] none, .widebandOutput 0 0 [⟨25, 0⟩] none,
     .standardOutput 0 0 [⟨0, 0⟩] none, .standardOutput 0 0 [⟨25, 0⟩] none, .hostRegStart 0 badReq 0, .hostRegStart 0 okReq 256, .pawnAbandon 0 2,
     .balctrlWrite 0 badReq 0 0, .balctrlWrite 0 okReq 2 0, .balctrlWrite 0 okReq 0 65536, .balctrlExpiry 0 2, .plan 0 (.px badReq) (zeroBytes 64),
     .plan 0 (.px okReq) (zeroBytes 63), .report 0 badRx (zeroBytes 64), .report 0 (slot 1 1) (zeroBytes 63), .balTargetReached 0 0,
     .balTargetReached 0 25, .flybackImplausible 0 0, .flybackImplausible 0 7] : List Instr).all (fun i => i.wf == false) = true := by decide +kernel

theorem test_ill_formed_3 : (
    [.openReq 0 (.ring badRx) aNotice, .openReq 0 (.bus .ctlA 0) badNotice, .openReqHoldExpiry 0 256, .trip 0 (.ring badRx) aNotice,
     .trip 0 (.bus .ctlA 0) badNotice, .tripResetCommand 0 badReq 0, .tripResetCommand 0 okReq 256, .tripReset 0 (.ring badRx) aNotice,
     .tripReset 0 (.bus .ctlA 0) badNotice, .contactorClose 0 badReq 0, .contactorClose 0 okReq 256, .contactorOpen 0 badReq 0,
     .contactorOpen 0 okReq 256, .release 0 badRx 0 false 0 0, .release 0 (slot 1 1) 256 false 0 0, .release 0 (slot 1 1) 0 false 65536 0,
     .release 0 (slot 1 1) 0 false 0 18446744073709551616, .protectionSetWrite 0 badReq 0 0 ⟨0, []⟩, .protectionSetWrite 0 okReq 65536 0 ⟨0, []⟩,
     .protectionSetWrite 0 okReq 0 256 ⟨0, []⟩, .protectionSetWrite 0 okReq 0 0 ⟨256, []⟩, .restPoint 0 0, .restPoint 0 25,
     .recordReadback 0 false 4294967296, .stepWindowEnd 0 3 0 0 [], .impedanceBlock 0 0 0 ⟨0, 0, 0, 0⟩, .impedanceBlock 0 25 0 ⟨0, 0, 0, 0⟩,
     .impedanceBlock 0 1 64 ⟨0, 0, 0, 0⟩, .socEst 0 badRx (zeroBytes 52), .socEst 0 (slot 1 1) (zeroBytes 51), .capEst 0 badRx (zeroBytes 52),
     .capEst 0 (slot 1 1) (zeroBytes 51), .loopEnable 0 badReq 0 0, .loopEnable 0 okReq 16 0, .loopEnable 0 okReq 0 256, .loopDisable 0 badReq 0 0,
     .loopDisable 0 okReq 16 0, .loopDisable 0 okReq 0 256, .bankWrite 0 badReq 0 false (zeroBytes 1000),
     .bankWrite 0 okReq 16 false (zeroBytes 1000), .bankWrite 0 okReq 0 false (zeroBytes 999), .bankRequest 0 badReq 0 0, .bankRequest 0 okReq 16 0,
     .bankRequest 0 okReq 0 256, .inputBindWrite 0 badReq 0 (zeroBytes 16), .inputBindWrite 0 okReq 16 (zeroBytes 16),
     .inputBindWrite 0 okReq 0 (zeroBytes 15), .outputBindWrite 0 badReq 0 (zeroBytes 16)] : List Instr).all (fun i => i.wf == false) = true := by decide +kernel

theorem test_ill_formed_4 : (
    [.outputBindWrite 0 okReq 16 (zeroBytes 16), .outputBindWrite 0 okReq 0 (zeroBytes 15), .setpointWrite 0 badReq 0 1 0,
     .setpointWrite 0 okReq 16 1 0, .setpointWrite 0 okReq 0 0 0, .setpointWrite 0 okReq 0 5 0, .fanStall 0 0, .fanStall 0 3,
     .wrapPortDown 0 badRx aNotice, .wrapPortDown 0 (slot 1 1) badNotice, .wrapPortReady 0 badRx aNotice, .wrapPortReady 0 (slot 1 1) badNotice,
     .unwrapOrder 0 badRx aNotice, .unwrapOrder 0 (slot 1 1) badNotice, .censusRequestNotice 0 badRx aNotice,
     .censusRequestNotice 0 (slot 1 1) badNotice, .censusRequest 0 badReq 0, .censusRequest 0 okReq 256, .census 0 badRx 0 0 0 0,
     .census 0 (slot 1 1) 65536 0 0 0, .census 0 (slot 1 1) 0 256 0 0, .census 0 (slot 1 1) 0 0 256 0,
     .census 0 (slot 1 1) 0 0 0 18446744073709551616, .censusResult 0 badRx 0 0 0 0 0, .censusResult 0 (slot 1 1) 65536 0 0 0 0,
     .censusResult 0 (slot 1 1) 0 256 0 0 0, .censusResult 0 (slot 1 1) 0 0 256 0 0, .censusResult 0 (slot 1 1) 0 0 0 18446744073709551616 0,
     .censusResult 0 (slot 1 1) 0 0 0 0 18446744073709551616, .censusReply 0 badRx aReply, .censusReply 0 (slot 1 1) { aReply with square := 128 },
     .slotForward 0 badRx (zeroBytes 52) 0, .slotForward 0 (slot 1 1) (zeroBytes 51) 0, .damagedSlot 0 badRx (zeroBytes 52) .crc,
     .damagedSlot 0 (slot 1 1) (zeroBytes 51) .crc, .precision 0 badRx [], .precision 0 (slot 1 1) (List.replicate 14 0),
     .precision 0 (slot 1 1) [4294967296], .current 0 badRx [], .current 0 (slot 1 1) (List.replicate 14 0), .current 0 (slot 1 1) [4294967296],
     .wideband 0 badRx [], .wideband 0 (slot 1 1) (List.replicate 14 0), .wideband 0 (slot 1 1) [4294967296], .bulk 0 badRx (zeroBytes 52),
     .bulk 0 (slot 1 1) (zeroBytes 51), .busNotice 0 .ctlA 2048 0 0 aNotice, .busNotice 0 .ctlA 0 32 0 aNotice] : List Instr).all (fun i => i.wf == false) = true := by decide +kernel

theorem test_ill_formed_5 : (
    [.busNotice 0 .ctlA 0 0 65536 aNotice, .busNotice 0 .ctlA 0 0 0 badNotice, .busRecover 0 .ctlA badReq 0, .busRecover 0 .ctlA okReq 256,
     .busEnable 0 .ctlA badReq 0, .busEnable 0 .ctlA okReq 256, .status 0 (.ring badRx) (aStatus 1),
     .status 0 (.bus .ctlA) { aStatus 1 with node := 256 }, .heartbeat 0 (.ring badRx) aHeartbeat,
     .heartbeat 0 (.bus .ctlA) { aHeartbeat with node := 256 }, .pxRead 0 badReq 0 0, .pxRead 0 okReq 65536 0, .pxRead 0 okReq 0 256,
     .pxWrite 0 badReq 0 0 ⟨0, []⟩, .pxWrite 0 okReq 65536 0 ⟨0, []⟩, .pxWrite 0 okReq 0 256 ⟨0, []⟩, .pxWrite 0 okReq 0 0 ⟨256, []⟩,
     .registerWrite 0 badReq 0 0 ⟨0, []⟩, .registerWrite 0 okReq 65536 0 ⟨0, []⟩, .registerWrite 0 okReq 0 256 ⟨0, []⟩,
     .registerWrite 0 okReq 0 0 ⟨256, []⟩, .pxBlockRead 0 badReq 0 0 0 0, .pxBlockRead 0 okReq 65536 0 0 0, .pxBlockRead 0 okReq 0 256 0 0,
     .pxBlockRead 0 okReq 0 0 4294967296 0, .pxBlockRead 0 okReq 0 0 0 4294967296, .pxBlockWrite 0 badReq 0 0 0 0, .pxBlockWrite 0 okReq 65536 0 0 0,
     .pxBlockWrite 0 okReq 0 256 0 0, .pxBlockWrite 0 okReq 0 0 4294967296 0, .pxBlockWrite 0 okReq 0 0 0 4294967296,
     .pxSegment 0 badReq 0 (zeroBytes 32), .pxSegment 0 okReq 65536 (zeroBytes 32), .pxSegment 0 okReq 0 (zeroBytes 33), .pxAck 0 badReq 0,
     .pxAck 0 okReq 65536, .pxEnd 0 badReq 0, .pxEnd 0 okReq 4294967296, .pxAbort 0 badReq 0, .pxAbort 0 okReq 256, .pxResponse 0 256 0 0,
     .pxResponse 0 0 256 0, .pxResponse 0 0 0 256, .pubAreaPoll 0 256 (zeroBytes 276), .pubAreaPoll 0 0 (zeroBytes 275), .directoryStale 0 256,
     .pointLimitsReport 0 256 0 0 0, .pointLimitsReport 0 0 64 0 0] : List Instr).all (fun i => i.wf == false) = true := by decide +kernel

theorem test_ill_formed_6 : (
    [.auxLoss 0 (.ring badRx) aNotice, .auxLoss 0 (.bus .ctlA 0) badNotice, .abdicate 0 (.ring badRx) aNotice, .abdicate 0 (.bus .ctlA 0) badNotice,
     .checkpoint 0 badRx 0 0 (zeroBytes 46), .checkpoint 0 (slot 1 1) 4294967296 0 (zeroBytes 46), .checkpoint 0 (slot 1 1) 0 65536 (zeroBytes 46),
     .checkpoint 0 (slot 1 1) 0 0 (zeroBytes 45), .checkpointAck 0 badRx 0 0 false, .checkpointAck 0 (slot 1 1) 4294967296 0 false,
     .checkpointAck 0 (slot 1 1) 0 65536 false, .handoverCommand 0 badReq 0, .handoverCommand 0 okReq 256, .sourceRaise 0 160,
     .firstMoveClear 0 badReq 0, .firstMoveClear 0 okReq 256, .faultPendingClear 0 badReq 1 0, .faultPendingClear 0 okReq 0 0,
     .faultPendingClear 0 okReq 6 0, .faultPendingClear 0 okReq 1 4294967296, .severityWrite 0 badReq 0 0, .severityWrite 0 okReq 160 0,
     .severityWrite 0 okReq 0 256, .sentFrame 0 0 [], .sentFrame 0 9 [], .sentTimeout 0 0, .sentTimeout 0 9, .sentWarmupEnd 0 0, .sentWarmupEnd 0 9,
     .sentEnable 0 badReq 1 0, .sentEnable 0 okReq 0 0, .sentEnable 0 okReq 9 0, .sentEnable 0 okReq 1 256, .sentChannelCheck 0 0,
     .sentChannelCheck 0 9, .captureTrig 0 badRx aNotice, .captureTrig 0 (slot 1 1) badNotice, .recorderRangeWrite 0 badReq .voltLow 0,
     .recClear 0 badReq 0, .recClear 0 okReq 256, .captureTrigger 0 badReq 0, .captureTrigger 0 okReq 256, .captureAngleArm 0 badReq 0,
     .captureAngleArm 0 okReq 4294967296, .captureReadout 0 badReq (zeroBytes 16), .captureReadout 0 okReq (zeroBytes 15), .captureRelease 0 badReq 0,
     .captureRelease 0 okReq 65536] : List Instr).all (fun i => i.wf == false) = true := by decide +kernel

theorem test_ill_formed_7 : (
    [.packIdentityWrite 0 badReq 0, .packIdentityWrite 0 okReq 18446744073709551616, .supplyMonitor 0 6 0, .calendarSet 0 badReq (zeroBytes 12),
     .calendarSet 0 okReq (zeroBytes 11), .sessionChallenge 0 badReq, .sessionOpen 0 badReq (zeroBytes 24), .sessionOpen 0 okReq (zeroBytes 23),
     .sessionClose 0 badReq 0, .sessionClose 0 okReq 65536, .sessionTimeout 0 65536, .roleKeyWrap 0 badReq (zeroBytes 64),
     .roleKeyWrap 0 okReq (zeroBytes 63), .signingKeyRevoke 0 badReq 0, .signingKeyRevoke 0 okReq 256, .updateManifest 0 badReq (zeroBytes 256),
     .updateManifest 0 okReq (zeroBytes 255), .updateBlock 0 badReq 0 (zeroBytes 4096), .updateBlock 0 okReq 2048 (zeroBytes 4096),
     .updateBlock 0 okReq 0 (zeroBytes 4095), .updateAbort 0 badReq 0, .updateAbort 0 okReq 256, .updateActivate 0 badReq 0,
     .updateActivate 0 okReq 256, .calStart 0 badReq 0, .calStart 0 okReq 256, .calAbort 0 badReq 0, .calAbort 0 okReq 256, .calVisitEnd 0 0 0 0,
     .calVisitEnd 0 25 0 0] : List Instr).all (fun i => i.wf == false) = true := by decide +kernel

theorem test_ill_formed_SlotHdr : (slot 1 1).hdr.wf = true ∧ (
    [{ (slot 1 1).hdr with cls := 8 }, { (slot 1 1).hdr with typ := 32 }, { (slot 1 1).hdr with hops := 64 }, { (slot 1 1).hdr with src := 64 },
     { (slot 1 1).hdr with src := -65 }, { (slot 1 1).hdr with seq := 65536 }, { (slot 1 1).hdr with trClass := 8 },
     { (slot 1 1).hdr with trCount := 8 }, { (slot 1 1).hdr with aux := 256 }] : List SlotHdr).all (fun x => x.wf == false) = true := by decide +kernel

theorem test_ill_formed_PxReq : okReq.wf = true ∧ (
    [{ okReq with origin := 128 }, { okReq with origin := -129 }, { okReq with node := 256 }, { okReq with tid := 256 },
     { okReq with session := 65536 }, { okReq with auth := [0] }] : List PxReq).all (fun x => x.wf == false) = true := by decide +kernel

theorem test_ill_formed_Notice : aNotice.wf = true ∧ (
    [{ aNotice with node := 256 }, { aNotice with code := 256 }, { aNotice with detail := 65536 },
     { aNotice with time := 18446744073709551616 }, { aNotice with pack := 18446744073709551616 }] : List Notice).all (fun x => x.wf == false) = true := by decide +kernel

theorem test_ill_formed_PxValue : (⟨0, []⟩ : PxValue).wf = true ∧ (
    [{ (⟨0, []⟩ : PxValue) with ty := 256 }, { (⟨0, []⟩ : PxValue) with data := zeroBytes 33 }] : List PxValue).all (fun x => x.wf == false) = true := by decide +kernel

theorem test_ill_formed_Announce : (⟨0, 0, 0, 0, 0, false, false⟩ : Announce).wf = true ∧ (
    [{ (⟨0, 0, 0, 0, 0, false, false⟩ : Announce) with serial := 16777216 },
     { (⟨0, 0, 0, 0, 0, false, false⟩ : Announce) with seq := 4294967296 },
     { (⟨0, 0, 0, 0, 0, false, false⟩ : Announce) with crc := 4294967296 },
     { (⟨0, 0, 0, 0, 0, false, false⟩ : Announce) with headPack := 18446744073709551616 },
     { (⟨0, 0, 0, 0, 0, false, false⟩ : Announce) with pack := 18446744073709551616 }] : List Announce).all (fun x => x.wf == false) = true := by decide +kernel

theorem test_ill_formed_JoinFrame : okJoin.wf = true ∧ (
    [{ okJoin with pack := 18446744073709551616 }, { okJoin with serial := 18446744073709551616 },
     { okJoin with stringId := 18446744073709551616 }, { okJoin with seq := 4294967296 }] : List JoinFrame).all (fun x => x.wf == false) = true := by decide +kernel

theorem test_ill_formed_BusRates : (⟨0, 0, false⟩ : BusRates).wf = true ∧ (
    [{ (⟨0, 0, false⟩ : BusRates) with nominal := 4 }, { (⟨0, 0, false⟩ : BusRates) with data := 5 }] : List BusRates).all (fun x => x.wf == false) = true := by decide +kernel

theorem test_ill_formed_SpinnerRec : okSpin.wf = true ∧ (
    [{ okSpin with t0 := 18446744073709551616 }, { okSpin with turn0 := 65536 }, { okSpin with p := 4294967296 }, { okSpin with source := 256 },
     { okSpin with anchorTime := 18446744073709551616 }, { okSpin with anchorTurn := 65536 }, { okSpin with m := 65536 }] : List SpinnerRec).all (fun x => x.wf == false) = true := by decide +kernel

theorem test_ill_formed_HeartbeatRec : aHeartbeat.wf = true ∧ (
    [{ aHeartbeat with node := 256 }, { aHeartbeat with mode := 256 }, { aHeartbeat with contactor := 256 }, { aHeartbeat with basis := 256 },
     { aHeartbeat with stringId := 18446744073709551616 }, { aHeartbeat with descSeq := 4294967296 }, { aHeartbeat with membGen := 65536 },
     { aHeartbeat with censusNo := 65536 }, { aHeartbeat with ckptGen := 4294967296 }, { aHeartbeat with pack := 18446744073709551616 }] : List HeartbeatRec).all (fun x => x.wf == false) = true := by decide +kernel

theorem test_ill_formed_StatusRec : (aStatus 1).wf = true ∧ (
    [{ aStatus 1 with node := 256 }, { aStatus 1 with mode := 256 }, { aStatus 1 with role := 256 }, { aStatus 1 with timeState := 256 },
     { aStatus 1 with integrity := 65536 }, { aStatus 1 with meas := 65536 }, { aStatus 1 with sumC := 2147483648 },
     { aStatus 1 with sumC := -2147483649 }, { aStatus 1 with stackSn := 2147483648 }, { aStatus 1 with stackSn := -2147483649 },
     { aStatus 1 with hotspot := 32768 }, { aStatus 1 with hotspot := -32769 }, { aStatus 1 with derate := 256 },
     { aStatus 1 with firstMove := 256 }, { aStatus 1 with balStat := 65536 }, { aStatus 1 with linkView := 65536 },
     { aStatus 1 with time := 18446744073709551616 }] : List StatusRec).all (fun x => x.wf == false) = true := by decide +kernel

theorem test_ill_formed_CensusReplyRec : aReply.wf = true ∧ (
    [{ aReply with censusNo := 65536 }, { aReply with square := 128 }, { aReply with square := -129 }, { aReply with kind := 256 },
     { aReply with pack := 18446744073709551616 }, { aReply with serial := 18446744073709551616 }, { aReply with descSeq := 4294967296 },
     { aReply with descString := 18446744073709551616 }] : List CensusReplyRec).all (fun x => x.wf == false) = true := by decide +kernel

/-! The spec's worked examples. -/

/-- The next state of an outcome. -/
def goes : Host.Outcome State Fault Refusal → State
  | .next s => s
  | _ => up

/-- The spinner record of the worked example of chapter 5: 6.4 kHz. -/
def exampleSpin : SpinnerRec :=
  { t0 := 5000000000000, turn0 := 0x0100, p := 10000000, source := 2, locked := true, change := false, anchorTime := 5000000000000,
    anchorTurn := 0x0100, m := 6 }

/-- Chapter 5, worked example, steps 1 and 7: M is 6 in auto at 6.4 kHz, and 16 where 16 is written. -/
theorem test_averaging : calcM 0 (freqOf 10000000) = 6 ∧ calcM 16 (freqOf 10000000) = 16 := by decide +kernel

/-- Chapter 5, worked example, step 6: 1 ms after t0 the angle is 0x01066666. -/
theorem test_angle : SpinnerRec.angleAt exampleSpin 5000001000000 = 0x01066666 := by decide +kernel

/-- Chapter 5, worked example, steps 7 and 11: turns 0x0114 and 0x0174 begin 3,125,000 ns and 18,125,000 ns after t0. -/
theorem test_turn_time : SpinnerRec.turnTime exampleSpin 0x0114 = 5000003125000 ∧ SpinnerRec.turnTime exampleSpin 0x0174 = 5000018125000 := by decide +kernel

/-- Chapter 6, worked example: 3.31250 V against 3.30760 V differ by 4 codes and pass; PAWNRES5 reads CODE 2,709. -/
theorem test_pawn_result :
    KMap.get (((up.setDev 0 { up.dev 0 with window := 4 }).pawnCompare 0 { pos := 5, uv := 3307600, instant := 0 }
      (tagWord 3312500 0 false false false false false false)).dev 0).res 5 0 = 0x0A95 := by decide +kernel

/-- Chapter 8, worked example, step 1: cells at +0.6 % and −0.6 % of 280 Ah get −4.2 mAh and +4.2 mAh, in units of 0.1 mAh. -/
theorem test_plan_target : planTargetFor true (6 / 10) 280 (25 / 6) = -42 ∧ planTargetFor true (-6 / 10) 280 (25 / 6) = 42 := by decide +kernel

/-- Chapter 8, worked example, step 7: over 10 s the books of node 12 close within 0.01 As, against 11.51 As. -/
theorem test_books : let r := ({ up with bal := { up.bal with qOut := 120000000, eXfer := -32058 / 100, eLoss := 7542 / 100 } } : State).bookResidual (33 / 10)
    absQ r.1 < 1 / 100 ∧ absQ (r.2 - 1151 / 100) < 1 / 100 := by decide +kernel

/-- Chapter 10, worked example of one learning: 280.0 Ah becomes 278.2 Ah. -/
theorem test_learning :
    let a : RestPt := { sv := 96, ur := 5 / 100, q := 0, time := 0, breaks := 0 }
    let b : RestPt := { sv := 8, ur := 91 / 1000, q := -868032000000, time := 14400000000000, breaks := 0 }
    let s := (withCell (typed.setRat Obj.nominalCapacity 280) { cap := 280, throughput := 868032 }).learn 1 a b
    absQ ((s.ec 1).cap - 2782 / 10) < 1 / 10000 ∧ s.est.capPend = true := by decide +kernel

/-- Chapter 12, worked example: of 30 squares with the turn at 9, counts 9, 10 and 29 are squares 9, −20 and −1. -/
theorem test_squares : squareOf 9 30 9 = 9 ∧ squareOf 10 30 9 = -20 ∧ squareOf 29 30 9 = -1 := by decide +kernel

/-- Chapter 14, worked example, step 2: from square 14 to square 12 of 30, 28 hops east-bound and 2 west-bound. -/
theorem test_hops : ({ up with ring := { up.ring with square := 14, n := 30 } } : State).hopsTo 12 = (28, 2) := by decide +kernel

/-- Chapter 14, worked example, step 1: the frame of the permit's write. -/
theorem test_px_frame : pxHead 2 0x31 22 0 Obj.maintPermit.index Obj.maintPermit.sub Obj.maintPermit.ty.code 14 7 (natBytes Obj.maintPermit 30)
    = [0x02, 0x31, 0x16, 0x00, 0x20, 0x10, 0x03, 0x03, 0x0E, 0x00, 0x07, 0x00, 0x1E, 0x00] := by decide +kernel

/-- Chapter 13, worked example: the sixteenth failed attempt brings the transmit error counter to 128, the next sixteen to 256. -/
theorem test_bit_error :
    let s : State := { up with can := { up.can with a := { up.can.a with txErr := 120, txq := [⟨0x047, false, true, zeroBytes 24, 0, 0⟩] } } }
    (exec (.frameSent 0 .ctlA .bitError) s |> goes).can.a.txErr = 128 := by decide +kernel

/-- Chapter 16, worked example on SE3: calibration 168.60 µs, nibbles 0, 5, 10, 3, 0, 0, 0 and CRC give the value 9,215. -/
theorem test_sent_frame :
    let s := ((((up.setNat Obj.sentEnable 1 2 0).setRat Obj.sentGain (5 / 100) 2 0).setRat Obj.sentOffset 20 2 0).setRat Obj.sentLsb (1 / 100) 2 0)
    let s : State := { s with supply := { s.supply with sentOn := [(3, true)] } }
    ((exec (.sentFrame 0 3 [6906, 1480, 2096, 2713, 1850, 1480, 1480, 1480, 1850]) s |> goes).sentCh 3).value = 9215 := by decide +kernel

/-! Single steps. -/

/-- R324, R355: in a head that ran ONLINE with closed contactors, the loss of the trip loop cuts every coil and leaves ONLINE. -/
theorem test_trip_loop_loss :
    let s := goes (exec (.tripLoopLoss 5) { inMode .online hd with hio := { hd.hio with contactor := 3, mainPos := true, mainNeg := true } })
    s.hio.mainPos = false ∧ s.hio.mainNeg = false ∧ s.hio.contactor = 5 ∧ s.md.mode = .standby := by decide +kernel

/-- R264: an overdue round raises the source once and only in a mode that tests. -/
theorem test_round_overdue :
    (goes (exec (.owtRoundOverdue 1000000000000000) up)).itg.overdue = true
      ∧ (goes (exec (.owtRoundOverdue 1000000000000000) (inMode .maintenance up))).itg.overdue = false := by decide +kernel

/-- R579: two copies that agree win, and with three lanes up the third is fenced. -/
theorem test_register_vote :
    let s := goes (exec (.registerVote 0 .coils (some 5) (some 5) (some 6)) up)
    s.out.head? = some (.register .coils (some 5)) ∧ KMap.get s.flt.lane 2 0 = 2 := by decide +kernel

/-- R637: an address outside the capture memory is a fault. -/
theorem test_capture_hole : exec (.captureMemoryEcc 0 4294967296 false) up = .fault (.captureMemoryHole 4294967296) := rfl

/-- A step takes the front of the queue and leaves the rest. -/
theorem test_queue : (goes (step { up with pending := [.clockMonitor 7, .lonely 8 .ctlA] })).pending = [.lonely 8 .ctlA] := by decide +kernel

/-! Statements about every command. -/

/-- Whether a step or a command answers a next state. -/
def goesOn : Host.Outcome State Fault Refusal → Bool
  | .next _ => true
  | _ => false

theorem next_of {o : Host.Outcome State Fault Refusal} (h : goesOn o = true) : ∃ s', o = .next s' := by
  cases o with
  | next s' => exact ⟨s', rfl⟩
  | fault f => exact nomatch h
  | refused r => exact nomatch h

/-- A transfer of one byte to address 256 of pack memory. -/
def aJob : PmJob := { rank := 4, addr := 256, data := [1], fails := 0 }

/-- A module with that transfer under way and a command waiting. -/
def writing (i : Instr) : State :=
  { up with rcd := { up.rcd with jobs := [aJob] }, pending := [i] }

theorem witness_StepRunsFront :
    (∃ (c : Instr) (l : List Instr) (s : State), s.pending = c :: l) ∧ ∃ s : State, s.pending = [] :=
  ⟨⟨_, _, writing (.clockMonitor 0), rfl⟩, up, rfl⟩

theorem witness_EveryCommandCompletes :
    (∃ i : Instr, (∀ t a d, i = .captureMemoryEcc t a d → a < 4294967296)
      ∧ ∀ t a ok, i = .packMemoryTransferDone t a ok → a < 262144) ∧ 4294967296 ≤ 4294967296 ∧ 262144 ≤ 262144 :=
  ⟨⟨.packMemoryTransferDone 0 262143 true, fun _ _ _ h => (Instr.noConfusion h : _), fun _ _ _ h => by cases h; decide⟩, Nat.le_refl _, Nat.le_refl _⟩

theorem witness_PackMemoryCanonical : ∃ s s' : State, Memory.wf s.pm = true ∧ step s = .next s' :=
  ⟨writing (.packMemoryTransferDone 0 256 true), (next_of (by decide +kernel)).imp fun _ h => ⟨by decide, h⟩⟩

theorem witness_BoundsKept : ∃ s s' : State, s.bounded ∧ step s = .next s' :=
  ⟨writing (.packMemoryTransferDone 0 256 true), (next_of (by decide +kernel)).imp fun _ h => ⟨by unfold State.bounded; decide, h⟩⟩

theorem witness_BalancingOnlyWhereAllowed : ∃ s s' : State, s.balancesWhereAllowed ∧ step s = .next s' :=
  ⟨writing (.packMemoryTransferDone 0 256 true), (next_of (by decide +kernel)).imp fun _ h => ⟨.inl rfl, h⟩⟩

theorem witness_ReservedSourcesQuiet : ∃ s s' : State, s.reservedQuiet ∧ step s = .next s' :=
  ⟨writing (.packMemoryTransferDone 0 256 true), (next_of (by decide +kernel)).imp fun _ h => ⟨fun _ _ => ⟨List.not_mem_nil, List.not_mem_nil⟩, h⟩⟩

/-- A module in SAFE with a first move, a PENDING bit and the terminal latch. -/
def latched : State :=
  { inMode .safe up with
    flt := { up.flt with pending := [0x11], first := some ⟨0x11, 3, 0, false⟩ }
    md := { (inMode .safe up).md with terminalLatch := true } }

theorem witness_LatchesAndOutputsHold :
    (∃ (i : Instr) (s s' : State), exec i s = .next s')
    ∧ (∃ (i : Instr) (k : Nat) (s s' : State), exec i s = .next s' ∧ k ∈ s.flt.pending)
    ∧ (∃ (i : Instr) (f : FirstMove) (s s' : State), exec i s = .next s' ∧ s.flt.first = some f)
    ∧ ∃ (i : Instr) (s s' : State), exec i s = .next s' ∧ s.md.terminalLatch = true :=
  have h : ∃ s', exec (.clockMonitor 0) latched = .next s' := next_of (by decide +kernel)
  h.elim fun s' h => ⟨⟨_, _, s', h⟩, ⟨_, 0x11, _, s', h, by decide⟩, ⟨_, _, _, s', h, rfl⟩, ⟨_, _, s', h, rfl⟩⟩

theorem witness_SafeIsHeld :
    (∃ (i : Instr) (s s' : State), exec i s = .next s' ∧ s.md.mode = .safe ∧ s'.md.mode.runs = true)
    ∧ ∃ (i : Instr) (s s' : State), exec i s = .next s' ∧ (s.md.mode = .safe ∨ s.md.mode = .maintenance) :=
  ⟨⟨.sessionTimeout 0 1, latched, _, rfl, rfl, rfl⟩, ⟨.sessionTimeout 0 1, inMode .maintenance up, _, rfl, .inr rfl⟩⟩

theorem witness_PendingClearRule : ∃ (t j v role counter : Nat) (q : PxReq) (s : State),
    (s.tick t).admitsWrite q Obj.faultPending 0 j (leBytes 4 v) role counter ∧ s.mgmt.restartDue = false :=
  ⟨0, 0, 0x20000, 4, 1, signed Obj.faultPending 0 0 (leBytes 4 0x20000), latched, signed_admits (by decide +kernel) (by decide +kernel), rfl⟩

theorem witness_CommitOnlyOnHead : ∃ (t v role counter : Nat) (q : PxReq) (s : State),
    (s.tick t).admitsWrite q Obj.descCommit 0 0 (natBytes Obj.descCommit v) role counter ∧ s.isHead = false ∧ s.mgmt.restartDue = false :=
  ⟨0, 90, 4, 1, signed Obj.descCommit 0 0 (natBytes Obj.descCommit 90), up, signed_admits (by decide +kernel) (by decide +kernel), by decide, rfl⟩

theorem witness_LatchedSupplyLoss : ∃ s : State, s.md.aux24 = true ∧ s.md.holdup = 0 ∧ s.md.terminalLatch = true :=
  ⟨latched, rfl, rfl, rfl⟩

theorem witness_ChangeLogSource :
    (∃ (t : Nat) (e : ChangeEntry) (s : State), e ∈ s.px.log ∧ e.created + 1000000000 ≤ max s.now t ∧ 0x86 ∉ s.flt.active)
    ∧ ∃ (addr : Nat) (j : PmJob) (s : State), addr < 262144 ∧ s.jobAt addr = some j ∧ j.rank = 3 ∧ s.rcd.copyFails = 2 :=
  ⟨⟨1000000000, anEntry, { up with px := { up.px with log := [anEntry] } }, by decide, by decide, by decide⟩,
   ⟨262143, { aJob with rank := 3, addr := 262143 },
    { up with rcd := { up.rcd with jobs := [{ aJob with rank := 3, addr := 262143 }], copyFails := 2 } }, by decide, by decide, rfl, rfl⟩⟩

/-- What every clause of WriteRefusals asks first. -/
def reaches (q : PxReq) (o : ObjDef) (v : PxValue) (s : State) : Bool :=
  s.pxHears q && s.distOk q && frameOk q v.data && decide (s.objAt o.index o.sub = some (o, 0, 0)) && o.has 0 0 && !isObj o Obj.updateActivate

/-- What the later ones ask besides. -/
def isFresh (q : PxReq) (o : ObjDef) (s : State) : Bool :=
  s.px.stored.isEmpty && !(s.px.rwp.any (fun r => r.key == PxReqKey q 0x02 o.index o.sub))

/-- A value of TripReset. -/
def resetValue (n : Nat) : PxValue := ⟨Obj.tripReset.ty.code, natBytes Obj.tripReset n⟩

/-- A stored response to that write. -/
def aResponse : PxStored :=
  { key := PxReqKey (plain .usb) 0x02 Obj.tripReset.index Obj.tripReset.sub, path := .usb, node := 0, counter := 0, since := 0, frame := [] }

theorem witness_WriteRefusals :
    (∃ (q : PxReq) (o : ObjDef) (v : PxValue) (e : PxStored) (s : State), reaches q o v s = true
      ∧ s.pxDuplicate q 0x02 o.index o.sub v.ty v.data = some e)
    ∧ (∃ (q : PxReq) (o : ObjDef) (v : PxValue) (s : State), reaches q o v s = true ∧ isFresh q o s = true
      ∧ s.pxAuthorise q 0x02 o.index o.sub v.ty v.data = none)
    ∧ (∃ (q : PxReq) (o : ObjDef) (v : PxValue) (s : State), reaches q o v s = true ∧ isFresh q o s = true
      ∧ s.pxAuthorise q 0x02 o.index o.sub v.ty v.data = some (0, 0) ∧ s.mgmt.running = false)
    ∧ (∃ (q : PxReq) (o : ObjDef) (v : PxValue) (s : State), reaches q o v s = true ∧ isFresh q o s = true
      ∧ s.pxAuthorise q 0x02 o.index o.sub v.ty v.data = some (0, 0) ∧ s.mgmt.running = true ∧ s.available o.index = true
      ∧ o.access.writable = false)
    ∧ (∃ (q : PxReq) (o : ObjDef) (v : PxValue) (s : State), reaches q o v s = true ∧ isFresh q o s = true
      ∧ s.pxAuthorise q 0x02 o.index o.sub v.ty v.data = some (0, 0) ∧ s.mgmt.running = true ∧ s.available o.index = true
      ∧ o.access.writable = true ∧ 0 < s.rankFor o)
    ∧ ∃ (q : PxReq) (o : ObjDef) (v : PxValue) (s : State), reaches q o v s = true ∧ isFresh q o s = true
      ∧ s.pxAuthorise q 0x02 o.index o.sub v.ty v.data = some (4, 1) ∧ s.mgmt.running = true ∧ s.available o.index = true
      ∧ o.access.writable = true ∧ s.rankFor o ≤ 4 ∧ s.px.blocks = [] ∧ checkValue o v.ty v.data ≠ 0 :=
  ⟨⟨plain .usb, Obj.tripReset, resetValue 90, aResponse,
      { up with px := { up.px with stored := [aResponse] } },
      by decide +kernel, by decide +kernel⟩,
   ⟨{ plain .usb with session := 9, auth := zeroBytes 8 }, Obj.tripReset, resetValue 90, up, by decide +kernel, by decide +kernel, by decide +kernel⟩,
   ⟨plain .usb, Obj.tripReset, resetValue 90, { up with mgmt := { up.mgmt with running := false } },
      by decide +kernel, by decide +kernel, by decide +kernel, rfl⟩,
   ⟨plain .usb, Obj.tripNode, resetValue 90, up, by decide +kernel, by decide +kernel, by decide +kernel, rfl, by decide +kernel, by decide⟩,
   ⟨plain .usb, Obj.tripReset, resetValue 90, up, by decide +kernel, by decide +kernel, by decide +kernel, rfl, by decide +kernel, by decide, by decide⟩,
   ⟨signed Obj.tripReset 0 0 (natBytes Obj.tripReset 1), Obj.tripReset, resetValue 1, up, by decide +kernel, by decide +kernel,
      signedBy_authorised (o := Obj.tripReset) (i := 0) (j := 0) .usb (by decide +kernel), rfl, by decide +kernel, by decide, by decide, rfl, by decide +kernel⟩⟩

theorem witness_TaggedWordLayout : ∃ (v : Int) (seq : Nat), -8388608 ≤ v ∧ v ≤ 8388607 ∧ seq < 4 :=
  ⟨-8388608, 3, by decide, by decide, by decide⟩

theorem witness_FramesToChapter6 : ∃ (i : Instr) (s s' : State), i.chapter ≤ 6 ∧ exec i s = .next s' :=
  ⟨.aux24Present 0, up, (next_of (by decide +kernel)).imp fun _ h => ⟨by decide, h⟩⟩

theorem witness_FramesToChapter12 : ∃ (i : Instr) (s s' : State), 7 ≤ i.chapter ∧ i.chapter ≤ 12 ∧ exec i s = .next s' :=
  ⟨.owtRoundOverdue 0, up, (next_of (by decide +kernel)).imp fun _ h => ⟨by decide, by decide, h⟩⟩

theorem witness_FramesToChapter18 : ∃ (i : Instr) (s s' : State), 13 ≤ i.chapter ∧ exec i s = .next s' :=
  ⟨.clockMonitor 0, up, (next_of (by decide +kernel)).imp fun _ h => ⟨by decide, h⟩⟩

/-! Hypotheses of the completion statements, clause by clause. -/

theorem witness_ElectionCompletes :
    (∃ (s : State), s.busHears .ctlA = true ∧ (s.ident.phase = .announcing ∨ s.ident.phase = .idle))
    ∧ (∃ (t : Nat) (s : State), (s.ident.phase = .announcing ∨ s.ident.phase = .claimWait) ∧ s.ident.nextAnnounce ≤ max s.now t ∧ s.ident.backoffEnd = none)
    ∧ (∃ (t t0 : Nat) (s : State), s.ident.phase = .announcing ∧ s.ident.firstAnnounce = some t0 ∧ t0 + 600000000 ≤ max s.now t)
    ∧ (∃ (s : State), s.busHears .ctlA = true ∧ s.ident.phase ≠ .awaitEnum ∧ s.ident.phase ≠ .lateJoin ∧ s.ident.phase ≠ .enumerated)
    ∧ (∃ (t : Nat) (s : State), s.ident.phase = .claimWait ∧ s.ident.claimWaitEnd ≤ max s.now t)
    ∧ (∃ (s : State), s.busHears .ctlA = true ∧ (s.ident.phase = .announcing ∨ s.ident.phase = .claimWait))
    ∧ (∃ (t round : Nat) (s : State), s.busHears .ctlA = true ∧ s.ident.phase = .rollOff ∧ round = s.ident.round
      ∧ max s.now t ≤ s.ident.roundStart + 20000000)
    ∧ (∃ (t : Nat) (s : State), s.ident.phase = .rollOff ∧ s.ident.roundStart + 50000000 ≤ max s.now t ∧ s.ident.ownDraw = none ∧ s.ident.draws = [])
    ∧ (∃ (t v : Nat) (s : State), s.ident.phase = .rollOff ∧ s.ident.roundStart + 50000000 ≤ max s.now t ∧ s.ident.ownDraw = some v ∧ (∀ x ∈ s.ident.draws,
      v < x.2))
    ∧ (∃ (t r : Nat) (s : State), s.ident.phase = .noHead ∧ s.ident.retryAt = some r ∧ r ≤ max s.now t)
    ∧ (∃ (t e : Nat) (s : State), s.ident.backoffEnd = some e ∧ e ≤ max s.now t) :=
  ⟨⟨{ up with ident := { phase := .announcing } }, by decide +kernel, by decide +kernel⟩,
   ⟨100, { up with ident := { phase := .announcing, nextAnnounce := 100 } }, by decide +kernel, by decide +kernel, by decide +kernel⟩,
   ⟨600000000, 0, { up with ident := { phase := .announcing, firstAnnounce := some 0 } }, by decide +kernel, by decide +kernel, by decide +kernel⟩,
   ⟨{ up with ident := { phase := .claimWait } }, by decide +kernel, by decide +kernel, by decide +kernel, by decide +kernel⟩,
   ⟨10, { up with ident := { phase := .claimWait, claimWaitEnd := 10 } }, by decide +kernel, by decide +kernel⟩,
   ⟨{ up with ident := { phase := .announcing } }, by decide +kernel, by decide +kernel⟩,
   ⟨20000000, 1, { up with ident := { phase := .rollOff, round := 1 } }, by decide +kernel, by decide +kernel, by decide +kernel, by decide +kernel⟩,
   ⟨50000000, { up with ident := { phase := .rollOff, round := 1 } }, by decide +kernel, by decide +kernel, by decide +kernel, by decide +kernel⟩,
   ⟨50000000, 3, { up with ident := { phase := .rollOff, round := 1, ownDraw := some 3, draws := [(7, 5)] } }, by decide +kernel, by decide +kernel,
      by decide +kernel, by decide +kernel⟩,
   ⟨10, 10, { up with ident := { phase := .noHead, retryAt := some 10 } }, by decide +kernel, by decide +kernel, by decide +kernel⟩,
   ⟨10, 10, { up with ident := { backoffEnd := some 10 } }, by decide +kernel, by decide +kernel⟩⟩

theorem witness_DescriptorCommandsComplete :
    (∃ (t v role counter : Nat) (q : PxReq) (s : State), (s.tick t).admitsWrite q Obj.descCommit 0 0 (natBytes Obj.descCommit v) role counter
      ∧ s.mgmt.restartDue = false ∧ s.isHead = true ∧ s.ident.seqExhausted = false ∧ s.ident.highestSeq + 1 ≤ 0xFFFFFFFE
      ∧ Descriptor.parse (s.staged (s.ident.highestSeq + 1)).bytes ≠ none ∧ s.rcd.pmPresent = true)
    ∧ (∃ (t tid : Nat) (rx : SlotRx) (record : Bytes) (d : Descriptor) (s : State),
      ((s.tick t).ringRx rx (pxHead 7 tid 16 0 0x4001 6 11 0 0 (leBytes 4 (crc32 record)))).2 = true ∧ rx.hdr.src = 0 ∧ s.isHead = false
      ∧ Descriptor.parse record = some d ∧ s.rcd.pmPresent = true)
    ∧ (∃ (c : Commit) (s : State), s.ident.commit = some c)
    ∧ (∃ (t : Nat) (c : Commit) (s : State), s.ident.commit = some c ∧ c.deadline ≤ max s.now t)
    ∧ (∃ (t v role counter : Nat) (q : PxReq) (s : State), (s.tick t).admitsWrite q Obj.adoptPack 0 0 (natBytes Obj.adoptPack v) role counter
      ∧ s.mgmt.restartDue = false ∧ s.isHead = true ∧ s.ident.highestSeq + 1 ≤ 0xFFFFFFFE)
    ∧ (∃ (t v role counter : Nat) (q : PxReq) (s : State), (s.tick t).admitsWrite q Obj.descErase 0 0 (natBytes Obj.descErase v) role counter
      ∧ s.md.mode = .maintenance ∧ s.rcd.pmPresent = true) :=
  ⟨⟨0, 90, 4, 1, signed Obj.descCommit 0 0 (natBytes Obj.descCommit 90), stagedHead, signed_admits (by decide +kernel) (by decide +kernel),
      by decide +kernel, by decide +kernel, by decide +kernel, by decide +kernel, by decide +kernel, by decide +kernel⟩,
   ⟨0, 1, slot 5 1, aDescriptor.bytes, aDescriptor, seg, by decide +kernel, by decide +kernel, by decide +kernel, by decide +kernel, by decide +kernel⟩,
   ⟨⟨3, [2], 100, false⟩, { hd with ident := { hd.ident with commit := some ⟨3, [2], 100, false⟩ } }, by decide +kernel⟩,
   ⟨100, ⟨3, [2], 100, false⟩, { hd with ident := { hd.ident with commit := some ⟨3, [2], 100, false⟩ } }, by decide +kernel, by decide +kernel⟩,
   ⟨0, 9, 4, 1, signed Obj.adoptPack 0 0 (natBytes Obj.adoptPack 9), hd, signed_admits (by decide +kernel) (by decide +kernel), by decide +kernel,
      by decide +kernel, by decide +kernel⟩,
   ⟨0, 229, 4, 1, signed Obj.descErase 0 0 (natBytes Obj.descErase 229), inMode .maintenance up, signed_admits (by decide +kernel) (by decide +kernel),
      by decide +kernel, by decide +kernel⟩⟩

theorem witness_EnumerationCompletes :
    (∃ (s : State), s.isHead = true)
    ∧ (∃ (s : State), s.busHears .ctlA = true ∧ s.ident.phase = .lateJoin ∧ s.commsOn = true ∧ s.voteOk = true)
    ∧ (∃ (t e : Nat) (s : State), s.busHears .ctlA = true ∧ s.isHead = true ∧ s.ident.joinClose = some e ∧ max s.now t ≤ e)
    ∧ (∃ (t e : Nat) (s : State), s.isHead = true ∧ s.ident.joinClose = some e ∧ e ≤ max s.now t)
    ∧ (∃ (serial pack : Nat) (s : State), s.busHears .ctlA = true ∧ serial = s.nat Obj.serialNumber ∧ pack = s.packId)
    ∧ (∃ (serial node : Nat) (a : Assign) (r : List Assign) (s : State), s.busHears .ctlA = true ∧ s.isHead = true ∧ s.ident.assigns = a :: r
      ∧ a.serial = serial ∧ a.node = node)
    ∧ (∃ (t e : Nat) (s : State), s.ident.assignBy = some e ∧ e ≤ max s.now t)
    ∧ (∃ (t e : Nat) (s : State), s.ident.enumStart = some e ∧ s.isHead = true ∧ e + 180000000 ≤ max s.now t)
    ∧ (∃ (s : State), s.busHears .ctlA = true ∧ s.isHead = false ∧ s.ident.phase ≠ .enumerated)
    ∧ (∃ (t e : Nat) (ra rb : BusRates) (s : State), s.ident.rateSwitch = some (e, ra, rb) ∧ e ≤ max s.now t ∧ s.isHead = false ∧ s.nodeId = 0)
    ∧ (∃ (t : Nat) (s : State), s.ident.phase = .lateJoin ∧ s.ident.scan = 0 ∧ s.ident.lastFrame + 1000000000 ≤ max s.now t) :=
  ⟨⟨hd, by decide +kernel⟩,
   ⟨{ up with ident := { phase := .lateJoin } }, by decide +kernel, by decide +kernel, by decide +kernel, by decide +kernel⟩,
   ⟨10, 10, { hd with ident := { hd.ident with joinClose := some 10 } }, by decide +kernel, by decide +kernel, by decide +kernel, by decide +kernel⟩,
   ⟨10, 10, { hd with ident := { hd.ident with joinClose := some 10 } }, by decide +kernel, by decide +kernel, by decide +kernel⟩,
   ⟨up.nat Obj.serialNumber, up.packId, up, by decide +kernel, by decide +kernel, by decide +kernel⟩,
   ⟨1, 3, ⟨1, 1, 3⟩, [], { hd with ident := { hd.ident with assigns := [⟨1, 1, 3⟩] } }, by decide +kernel, by decide +kernel, by decide +kernel,
      by decide +kernel, by decide +kernel⟩,
   ⟨10, 10, { hd with ident := { hd.ident with assignBy := some 10 } }, by decide +kernel, by decide +kernel⟩,
   ⟨180000000, 0, { hd with ident := { hd.ident with enumStart := some 0 } }, by decide +kernel, by decide +kernel, by decide +kernel⟩,
   ⟨{ up with ident := { phase := .awaitEnum } }, by decide +kernel, by decide +kernel, by decide +kernel⟩,
   ⟨5, 5, ⟨1, 4, false⟩, ⟨1, 4, false⟩, { up with ident := { rateSwitch := some (5, ⟨1, 4, false⟩, ⟨1, 4, false⟩) } }, by decide +kernel,
      by decide +kernel, by decide +kernel, by decide +kernel⟩,
   ⟨1000000000, { up with ident := { phase := .lateJoin } }, by decide +kernel, by decide +kernel, by decide +kernel⟩⟩

theorem witness_SupplyCommandsComplete :
    (∃ (s : State), s.ident.role = .segment)
    ∧ (∃ (readings : List Int) (s : State), readings.any (fun v => decide (5000 < v.natAbs)) = true ∧ 2 ≤ s.supply.unusedBad ∧ 0x1A ∉ s.flt.active)
    ∧ (∃ (readings : List Int) (s : State), readings.any (fun v => decide (5000 < v.natAbs)) = false ∧ 2 ≤ s.supply.unusedGood)
    ∧ (∃ (t v role counter : Nat) (q : PxReq) (s : State), (s.tick t).admitsWrite q Obj.populatedCells 0 0 (natBytes Obj.populatedCells v) role counter
      ∧ (s.md.mode = .standby ∨ s.md.mode = .maintenance) ∧ s.px.rwp.length < 16)
    ∧ (∃ (n : Nat) (s : State), s.supply.popPending = some n)
    ∧ (∃ (k : Nat) (s : State), KMap.get s.supply.sentOn k false = true)
    ∧ (∃ (t k : Nat) (s : State), KMap.has s.supply.sentCut k = true ∧ KMap.get s.supply.sentCut k 0 < 5 ∧ s.sentOn k = true ∧ s.md.mode.runs = true
      ∧ s.supply.loadsShed = false ∧ KMap.get s.supply.sentRetryAt k 0 ≤ max s.now t)
    ∧ (∃ (t e : Nat) (s : State), s.supply.valveOpenSince = some e ∧ e + 10000000000 ≤ max s.now t ∧ bitsOf 2 2 (s.nat Obj.thermalActuators) = 1
      ∧ 0x59 ∉ s.flt.active)
    ∧ (∃ (t : Nat) (s : State), s.supply.loopbackSince = none ∧ (s.tick t).loopbackDue = true ∧ (s.md.mode.runs = true ∨ s.md.mode = .startup))
    ∧ (∃ (e : Nat) (s : State), s.supply.loopbackSince = some e)
    ∧ (∃ (s : State), (s.md.mode.runs = true ∨ s.md.recovery = true)) :=
  ⟨⟨up, by decide +kernel⟩,
   ⟨[5001], { up with supply := { up.supply with unusedBad := 2 } }, by decide +kernel, by decide +kernel, by decide +kernel⟩,
   ⟨[5000, -5000], { up with supply := { up.supply with unusedGood := 2 } }, by decide +kernel, by decide +kernel⟩,
   ⟨0, 24, 4, 1, signed Obj.populatedCells 0 0 (natBytes Obj.populatedCells 24), up, signed_admits (by decide +kernel) (by decide +kernel),
      by decide +kernel, by decide +kernel⟩,
   ⟨23, { up with supply := { up.supply with popPending := some 23 } }, by decide +kernel⟩,
   ⟨8, { up with supply := { up.supply with sentOn := [(8, true)] } }, by decide +kernel⟩,
   ⟨10, 1, { (up.setNat Obj.sentEnable 1 0) with supply := { up.supply with sentCut := [(1, 4)], sentRetryAt := [(1, 10)] } }, by decide +kernel,
      by decide +kernel, by decide +kernel, by decide +kernel, by decide +kernel, by decide +kernel⟩,
   ⟨10000000000, 0, { (up.setNat Obj.thermalActuators 4) with supply := { up.supply with valveOpenSince := some 0 } }, by decide +kernel,
      by decide +kernel, by decide +kernel, by decide +kernel⟩,
   ⟨86400000000000, up, by decide +kernel, by decide +kernel, by decide +kernel⟩,
   ⟨0, { up with supply := { up.supply with loopbackSince := some 0 } }, by decide +kernel⟩,
   ⟨up, by decide +kernel⟩⟩

theorem witness_StartUpAndHoldUpComplete :
    (∃ (holdup : Nat) (s : State), s.md.mode = .startup ∧ s.md.started = true ∧ s.md.holdup = 0 ∧ 200 ≤ holdup ∧ s.minSet = true)
    ∧ (∃ (t : Nat) (r : StartRec) (x : State) (srcs : List Nat) (s : State), s.md.mode = .startup ∧ s.md.started = false ∧ s.md.laneReset = false
      ∧ (s.tick t).chooseSlot r.slotA r.slotB = some (x, srcs))
    ∧ (∃ (t : Nat) (r : StartRec) (s : State), s.md.mode = .startup ∧ s.md.started = false ∧ s.md.laneReset = false
      ∧ (s.tick t).chooseSlot r.slotA r.slotB = none)
    ∧ (∃ (s : State), s.rcd.capInit = false ∧ s.rcd.capStopped = false ∧ s.md.mode.runs = true)
    ∧ (∃ (s : State), s.md.mode = .ship)
    ∧ (∃ (s : State), s.md.holdup = 0 ∧ (s.md.mode = .keepalive ∨ s.md.mode = .ship ∨ s.md.mode = .off))
    ∧ (∃ (s : State), 1 ≤ s.md.holdup ∧ s.md.holdup ≤ 4)
    ∧ (∃ (s : State), s.md.aux24 = true ∧ s.md.holdup = 0 ∧ s.md.terminalLatch = false ∧ s.md.mode.runs = true)
    ∧ (∃ (s : State), s.md.aux24 = true ∧ s.md.holdup = 0 ∧ s.md.terminalLatch = true)
    ∧ (∃ (holdup : Nat) (s : State), s.md.holdup = 4 ∧ holdup ≤ 50) :=
  ⟨⟨200, { up with md := { up.md with mode := .startup } }, by decide +kernel, by decide +kernel, by decide +kernel, by decide +kernel,
      by decide +kernel⟩,
   ⟨0, goodStart, ((State.reset.chooseSlot true true).map (·.1)).getD State.reset, ((State.reset.chooseSlot true true).map (·.2)).getD [], State.reset,
      by decide +kernel, by decide +kernel, by decide +kernel, by decide +kernel⟩,
   ⟨0, { goodStart with slotA := false, slotB := false }, State.reset, by decide +kernel, by decide +kernel, by decide +kernel, by decide +kernel⟩,
   ⟨up, by decide +kernel, by decide +kernel, by decide +kernel⟩,
   ⟨inMode .ship up, by decide +kernel⟩,
   ⟨inMode .off up, by decide +kernel, by decide +kernel⟩,
   ⟨{ up with md := { up.md with holdup := 4 } }, by decide +kernel, by decide +kernel⟩,
   ⟨up, by decide +kernel, by decide +kernel, by decide +kernel, by decide +kernel⟩,
   ⟨{ up with md := { up.md with terminalLatch := true } }, by decide +kernel, by decide +kernel, by decide +kernel⟩,
   ⟨50, { up with md := { up.md with holdup := 4 } }, by decide +kernel, by decide +kernel⟩⟩

theorem witness_ModeCommandsComplete :
    (∃ (t v role counter : Nat) (q : PxReq) (s : State), (s.tick t).admitsWrite q Obj.maintPermit 0 0 (natBytes Obj.maintPermit v) role counter
      ∧ s.mgmt.restartDue = false ∧ v ≠ 0 ∧ (s.md.mode = .standby ∨ s.md.mode = .online ∨ s.md.mode = .maintenance))
    ∧ (∃ (t role counter : Nat) (q : PxReq) (s : State), (s.tick t).admitsWrite q Obj.maintPermit 0 0 (natBytes Obj.maintPermit 0) role counter
      ∧ s.mgmt.restartDue = false ∧ s.md.mode = .maintenance)
    ∧ (∃ (t e : Nat) (s : State), s.md.permitEnd = some e ∧ e ≤ max s.now t)
    ∧ (∃ (t v role counter : Nat) (q : PxReq) (s : State), (s.tick t).admitsWrite q Obj.safeExit 0 0 (natBytes Obj.safeExit v) role counter
      ∧ s.mgmt.restartDue = false ∧ s.md.mode = .safe ∧ ((s.tick t).taken q counter).severeActive = false ∧ s.md.terminalLatch = false
      ∧ ((s.tick t).taken q counter).minSet = true)
    ∧ (∃ (t v role counter : Nat) (q : PxReq) (s : State), (s.tick t).admitsWrite q Obj.shipArm 0 0 (natBytes Obj.shipArm v) role counter
      ∧ s.mgmt.restartDue = false ∧ v ≠ 0 ∧ (s.md.mode = .standby ∨ s.md.mode = .maintenance)
      ∧ (s.isHead && (s.hio.mainPos || s.hio.mainNeg || s.hio.prechg)) = false)
    ∧ (∃ (t role counter : Nat) (q : PxReq) (s : State), (s.tick t).admitsWrite q Obj.shipArm 0 0 (natBytes Obj.shipArm 0) role counter
      ∧ s.mgmt.restartDue = false)
    ∧ (∃ (t a : Nat) (s : State), s.md.shipArmedAt = some a ∧ a + 600000000000 ≤ max s.now t) :=
  ⟨⟨0, 1, 4, 1, signed Obj.maintPermit 0 0 (natBytes Obj.maintPermit 1), up, signed_admits (by decide +kernel) (by decide +kernel), by decide +kernel,
      by decide +kernel, by decide +kernel⟩,
   ⟨0, 4, 1, signed Obj.maintPermit 0 0 (natBytes Obj.maintPermit 0), inMode .maintenance up, signed_admits (by decide +kernel) (by decide +kernel),
      by decide +kernel, by decide +kernel⟩,
   ⟨10, 10, { up with md := { up.md with permitEnd := some 10 } }, by decide +kernel, by decide +kernel⟩,
   ⟨0, 90, 4, 1, signed Obj.safeExit 0 0 (natBytes Obj.safeExit 90), inMode .safe up, signed_admits (by decide +kernel) (by decide +kernel),
      by decide +kernel, by decide +kernel, by decide +kernel, by decide +kernel, by decide +kernel⟩,
   ⟨0, 165, 4, 1, signed Obj.shipArm 0 0 (natBytes Obj.shipArm 165), up, signed_admits (by decide +kernel) (by decide +kernel), by decide +kernel,
      by decide +kernel, by decide +kernel, by decide +kernel⟩,
   ⟨0, 4, 1, signed Obj.shipArm 0 0 (natBytes Obj.shipArm 0), up, signed_admits (by decide +kernel) (by decide +kernel), by decide +kernel⟩,
   ⟨600000000000, 0, { up with md := { up.md with shipArmedAt := some 0 } }, by decide +kernel, by decide +kernel⟩⟩

theorem witness_KeepaliveAndThermalComplete :
    (∃ (s : State), s.md.mode = .keepalive)
    ∧ (∃ (t : Nat) (s : State), s.md.mode = .keepalive ∧ s.md.kaLast + 3000000000 ≤ max s.now t)
    ∧ (∃ (t e : Nat) (s : State), s.md.powerTimerEnd = some e ∧ e ≤ max s.now t)
    ∧ (∃ (s : State), s.md.mode.runs = false)
    ∧ (∃ (s : State), s.md.mode.runs = true ∧ 0x99 ∉ s.flt.active)
    ∧ (∃ (v : Rat) (s : State), s.md.mode.runs = true ∧ s.md.sensors = [] ∧ v < 125 ∧ s.md.hotRun = 0) :=
  ⟨⟨inMode .keepalive up, by decide +kernel⟩,
   ⟨3000000000, inMode .keepalive up, by decide +kernel, by decide +kernel⟩,
   ⟨10, 10, { up with md := { up.md with powerTimerEnd := some 10 } }, by decide +kernel, by decide +kernel⟩,
   ⟨inMode .ship up, by decide +kernel⟩,
   ⟨up, by decide +kernel, by decide +kernel⟩,
   ⟨25, up, by decide +kernel, by decide +kernel, by decide +kernel, by decide +kernel⟩⟩

theorem witness_RingTimeCommandsComplete :
    (∃ (s : State), s.isHead = true ∧ s.ringFree 1 = true)
    ∧ (∃ (t origin corr censusNo flags residence : Nat) (rx : SlotRx) (x : State) (s : State),
      (s.tick t).ringRx rx (timeBytes origin (corr + residence + ((s.tick t).linkDelay rx.port * 65536).floor.toNat) censusNo flags) = (x, true)
      ∧ s.tm.master = false)
    ∧ (∃ (t e : Nat) (s : State), s.tm.lastRecord = some e ∧ s.tm.state = .locked ∧ s.tm.master = false ∧ e + 3000000 ≤ max s.now t)
    ∧ (∃ (t e : Nat) (s : State), s.tm.holdoverSince = some e ∧ s.tm.state = .holdover ∧ e + 1000000000 ≤ max s.now t)
    ∧ (∃ (s : State), s.commsOn = true ∧ s.ring.east.up = true ∧ s.ring.west.up = true)
    ∧ (∃ (p : Port) (s : State), s.commsOn = true ∧ (s.port p).up = true)
    ∧ (∃ (t1 : Nat) (p : Port) (s : State), (s.port p).delayT1 = some t1) :=
  ⟨⟨hdRing, by decide +kernel, by decide +kernel⟩,
   ⟨0, 1000, 0, 1, 0, 0, slot 1 1, rxOf seg (slot 1 1) (timeBytes 1000 (0 + 0 + ((seg.tick 0).linkDelay .west * 65536).floor.toNat) 1 0), seg,
      Prod.ext rfl (by decide +kernel), by decide +kernel⟩,
   ⟨3000000, 0, { up with tm := { up.tm with lastRecord := some 0, state := .locked } }, by decide +kernel, by decide +kernel, by decide +kernel,
      by decide +kernel⟩,
   ⟨1000000000, 0, { up with tm := { up.tm with holdoverSince := some 0, state := .holdover } }, by decide +kernel, by decide +kernel, by decide +kernel⟩,
   ⟨seg, by decide +kernel, by decide +kernel, by decide +kernel⟩,
   ⟨.east, seg, by decide +kernel, by decide +kernel⟩,
   ⟨3, .east, { seg with ring := { seg.ring with east := { seg.ring.east with delayT1 := some 3 } } }, by decide +kernel⟩⟩

theorem witness_SpinnerCommandsComplete :
    (∃ (e : Nat) (s : State), s.isHead = true ∧ s.tm.syncEdge = some e)
    ∧ (∃ (t instant angle period : Nat) (valid : Bool) (rx : SlotRx) (x : State) (s : State), s.isHead = true
      ∧ (s.tick t).ringRx rx (leBytes 8 instant ++ leBytes 4 angle ++ leBytes 4 period ++ leBytes 1 (bitOf valid)) = (x, true))
    ∧ (∃ (t : Nat) (s : State), s.isHead = true ∧ (s.tick t).sourceLost = true)
    ∧ (∃ (t : Nat) (s : State), s.isHead = true ∧ s.tm.source ≠ s.nat Obj.spinnerSource
      ∧ (s.nat Obj.spinnerSource ≠ 3 → (s.tick t).lostNow (s.nat Obj.spinnerSource) = false
      ∧ KMap.has s.tm.lockedSince (s.nat Obj.spinnerSource) = true
      ∧ KMap.get s.tm.lockedSince (s.nat Obj.spinnerSource) 0 + 1000000000 ≤ (s.tick t).ringTime))
    ∧ (∃ (s : State), s.isHead = true ∧ s.ringFree 1 = true)
    ∧ (∃ (t : Nat) (rx : SlotRx) (r : SpinnerRec) (x : State) (s : State), s.isHead = false ∧ r.p ≠ 0 ∧ r.m ≠ 0
      ∧ (s.tick t).ringRx rx (spinnerBytes r.t0 r.turn0 r.p r.source (bitOf r.locked + 2 * bitOf r.change) r.anchorTime r.anchorTurn r.m) = (x, true))
    ∧ (∃ (t instant turn : Nat) (r : SpinnerRec) (l : List SpinnerRec) (s : State), s.isHead = true ∧ s.tm.mDue = true ∧ s.tm.spin = r :: l
      ∧ (s.tick t).anchorAhead = some (instant, turn))
    ∧ (∃ (t instant turn m : Nat) (s : State), s.meas.anchorPend = some (instant, turn, m) ∧ instant ≤ (s.tick t).ringTime) :=
  ⟨⟨0, { hd with tm := { hd.tm with syncEdge := some 0 } }, by decide +kernel, by decide +kernel⟩,
   ⟨0, 5, 6, 7, true, slot 2 2 3, rxOf hdRing (slot 2 2 3) (leBytes 8 5 ++ leBytes 4 6 ++ leBytes 4 7 ++ leBytes 1 (bitOf true)), hdRing,
      by decide +kernel, Prod.ext rfl (by decide +kernel)⟩,
   ⟨0, { hd with tm := { hd.tm with source := 0 } }, by decide +kernel, by decide +kernel⟩,
   ⟨0, { (hd.setNat Obj.spinnerSource 3) with tm := { hd.tm with source := 0 } }, by decide +kernel, by decide +kernel, by decide +kernel⟩,
   ⟨hdRing, by decide +kernel, by decide +kernel⟩,
   ⟨0, slot 1 2, ⟨0, 0, 64000000, 3, true, false, 0, 0, 1⟩, rxOf seg (slot 1 2) (spinnerBytes 0 0 64000000 3 (bitOf true + 2 * bitOf false) 0 0 1), seg,
      by decide +kernel, by decide +kernel, by decide +kernel, Prod.ext rfl (by decide +kernel)⟩,
   ⟨0, 2000000, 2, ⟨0, 0, 64000000, 3, true, false, 0, 0, 1⟩, [], { spinning with ident := hd.ident, tm := { spinning.tm with mDue := true } },
      by decide +kernel, by decide +kernel, by decide +kernel, by decide +kernel⟩,
   ⟨10, 10, 1, 1, { up with meas := { up.meas with anchorPend := some (10, 1, 1) } }, by decide +kernel, by decide +kernel⟩⟩

theorem witness_ComparatorAndShadowComplete :
    (∃ (t k a : Nat) (u : AngleUnit) (c : AngleComp) (s : State), (s.tm.comps.filter (fun c => c.unit == u))[k]? = some c ∧ (s.tick t).angle = some a
      ∧ (c.everyTurn = true ∨ angleFuture c.angle a = false) ∧ c.user ≠ .capture)
    ∧ (∃ (t k a : Nat) (u : AngleUnit) (c : AngleComp) (s : State), (s.tm.comps.filter (fun c => c.unit == u))[k]? = some c ∧ (s.tick t).angle = some a
      ∧ c.everyTurn = false ∧ angleFuture c.angle a = false ∧ c.user = .capture)
    ∧ (∃ (t v role counter : Nat) (q : PxReq) (s : State), (s.tick t).admitsWrite q Obj.crossingStatus 0 0 (natBytes Obj.crossingStatus v) role counter)
    ∧ (∃ (index sub i j : Nat) (m : Master) (o : ObjDef) (s : State), s.objAt index sub = some (o, i, j) ∧ wide64 o = true ∧ s.masterRuns m = true)
    ∧ (∃ (index sub i j : Nat) (m : Master) (o : ObjDef) (s : State), s.objAt index sub = some (o, i, j) ∧ wide64 o = true ∧ s.masterRuns m = true) :=
  ⟨⟨0, 0, 0, .lane .laneA, ⟨.lane .laneA, .hostReg, false, 0⟩,
      { spinning with tm := { spinning.tm with comps := [⟨.lane .laneA, .hostReg, false, 0⟩] } }, by decide +kernel, by decide +kernel, by decide +kernel,
      by decide +kernel⟩,
   ⟨0, 0, 0, .capture, ⟨.capture, .capture, false, 0⟩, { spinning with tm := { spinning.tm with comps := [⟨.capture, .capture, false, 0⟩] } },
      by decide +kernel, by decide +kernel, by decide +kernel, by decide +kernel, by decide +kernel⟩,
   ⟨0, 0, 4, 1, signed Obj.crossingStatus 0 0 (natBytes Obj.crossingStatus 0), up, signed_admits (by decide +kernel) (by decide +kernel)⟩,
   ⟨0x7010, 1, 0, 0, .dma, Obj.ringTime, up, by decide +kernel, by decide +kernel, by decide +kernel⟩,
   ⟨0x7010, 1, 0, 0, .mgmt, Obj.ringTime, up, by decide +kernel, by decide +kernel, by decide +kernel⟩⟩

theorem witness_PrecisionCommandsComplete :
    (∃ (d1 d2 : Rat) (s : State), s.md.mode.runs = true ∧ KMap.get s.meas.refRuns (refDecision d1 d2 s.meas.refsBad) 0 < 2)
    ∧ (∃ (d1 d2 : Rat) (s : State), s.md.mode.runs = true ∧ 2 ≤ KMap.get s.meas.refRuns (refDecision d1 d2 s.meas.refsBad) 0)
    ∧ (∃ (cell : Nat) (s : State), s.meas.powered = true ∧ s.cellFenced cell = false)
    ∧ (∃ (t cell a b turn : Nat) (s : State), s.meas.powered = true ∧ s.md.mode.runs = true ∧ (s.tick t).windowEnd = (b, turn) ∧ b ≤ (s.tick t).ringTime
      ∧ a = s.meas.winStart ∧ 1 ≤ cell ∧ cell ≤ s.cellCount ∧ s.cellFenced cell = false ∧ s.itg.test = none)
    ∧ (∃ (t j cell : Nat) (s : State), s.meas.powered = true ∧ s.md.mode.runs = true ∧ wideAt j + wideHalf ≤ (s.tick t).ringTime ∧ 1 ≤ cell
      ∧ cell ≤ s.cellCount ∧ s.cellFenced cell = false)
    ∧ (∃ (t j : Nat) (s : State), s.md.mode.runs = true ∧ s.isHead = true ∧ wideAt j + wideHalf ≤ (s.tick t).ringTime ∧ s.currentChannel ≠ 2)
    ∧ (∃ (t j cell : Nat) (s : State), s.meas.powered = true ∧ s.md.mode.runs = true ∧ j * 125000 + stdHalf ≤ (s.tick t).ringTime ∧ 1 ≤ cell
      ∧ cell ≤ s.cellCount ∧ s.cellFenced cell = false)
    ∧ (∃ (t j : Nat) (s : State), s.md.mode.runs = true ∧ s.isHead = true ∧ j * 125000 + stdHalf ≤ (s.tick t).ringTime) :=
  ⟨⟨200, 200, up, by decide +kernel, by decide +kernel⟩,
   ⟨201, 201, { up with meas := { up.meas with refRuns := [(1, 2)] } }, by decide +kernel, by decide +kernel⟩,
   ⟨1, { up with meas := { up.meas with powered := true } }, by decide +kernel, by decide +kernel⟩,
   ⟨1000000, 24, 0, 1000000, 0, { up with meas := { up.meas with powered := true } }, by decide +kernel, by decide +kernel, by decide +kernel,
      by decide +kernel, by decide +kernel, by decide +kernel, by decide +kernel, by decide +kernel, by decide +kernel⟩,
   ⟨128711, 0, 1, { up with meas := { up.meas with powered := true } }, by decide +kernel, by decide +kernel, by decide +kernel, by decide +kernel,
      by decide +kernel, by decide +kernel⟩,
   ⟨128711, 0, hd, by decide +kernel, by decide +kernel, by decide +kernel, by decide +kernel⟩,
   ⟨755664, 0, 24, { up with meas := { up.meas with powered := true } }, by decide +kernel, by decide +kernel, by decide +kernel, by decide +kernel,
      by decide +kernel, by decide +kernel⟩,
   ⟨755664, 0, hd, by decide +kernel, by decide +kernel, by decide +kernel⟩⟩

theorem witness_AuxiliaryCommandsComplete :
    (∃ (t : Nat) (s : State), s.md.mode.runs = true ∧ s.aux.routineAt + s.nat Obj.routinePeriod * 1000000 ≤ (s.tick t).ringTime ∧ s.aux.failed = false)
    ∧ (∃ (t : Nat) (s : State), s.nat Obj.hostRegTrigger = 1 ∧ s.aux.hostRegAt + s.nat Obj.hostRegPeriod * 1000000 ≤ (s.tick t).ringTime)
    ∧ (∃ (s : State), s.nat Obj.hostRegTrigger = 2 ∧ 0 < KMap.get s.tm.fired AngleUser.hostReg.code 0)
    ∧ (∃ (t v role counter : Nat) (q : PxReq) (s : State), (s.tick t).admitsWrite q Obj.hostRegStart 0 0 (natBytes Obj.hostRegStart v) role counter
      ∧ s.mgmt.restartDue = false ∧ s.nat Obj.hostRegTrigger = 3)
    ∧ (∃ (k : InjSeq) (u : AngleUser) (v : AuxUser) (s : State), (u = (match k with | .is3 => .is3 | .is4 => .is4))
      ∧ (v = (match k with | .is3 => .is3 | .is4 => .is4)) ∧ 0 < KMap.get s.tm.fired u.code 0)
    ∧ (∃ (c : AuxConv) (p : AuxPass) (e : AuxEntry) (r : List AuxEntry) (s : State), s.aux.cur = some c ∧ c.user ≠ .capture ∧ s.passOf c.user = some p
      ∧ p.todo = e :: r ∧ e.chan = c.chan ∧ p.n + 1 < e.n ∧ s.capturing = false ∧ s.auxBusy .fallback = false)
    ∧ (∃ (c : AuxConv) (p : AuxPass) (e : AuxEntry) (r : List AuxEntry) (s : State), s.aux.cur = some c ∧ c.user = .hostReg ∧ s.passOf c.user = some p
      ∧ p.todo = e :: r ∧ e.chan = c.chan ∧ p.n + 1 = e.n ∧ e.pos ≤ 16)
    ∧ (∃ (t : Nat) (s : State), s.aux.blankAt = none ∧ (s.tick t).markWaits.aux.passes.any (fun p => p.waitSince.isSome) = true)
    ∧ (∃ (t w : Nat) (p : AuxPass) (s : State), p ∈ s.aux.passes ∧ p.waitSince = some w
      ∧ (w + (match (s.tick t).spinRec (s.tick t).ringTime with | some r => r.p / 32 | none => 2000000) ≤ (s.tick t).ringTime)
      ∧ s.capturing = false ∧ s.auxBusy .fallback = false)
    ∧ (∃ (t a d pos ptr : Nat) (s : State), (s.tick t).angle = some a ∧ d = (a / 65536) % 2 ∧ ((s.tick t).pawnIdle d = 1 ∨ (s.tick t).pawnIdle d = 4)
      ∧ (ptr = (if (s.dev d).ended then 0 else (s.dev d).ptr)) ∧ (s.pawnAbove d ptr).find? (s.pawnFree d) = some pos)
    ∧ (∃ (t dev d pos since : Nat) (u : AuxUser) (r : SpinnerRec) (s : State), d = dev % 2 ∧ (u = (if d = 0 then .pawn0 else .pawn1))
      ∧ (s.dev d).cur = some (pos, since) ∧ (s.tick t).spinRec (s.tick t).ringTime = some r ∧ since + r.p / 256 < (s.tick t).ringTime ∧ (∀ c,
      s.aux.cur = some c → c.user ≠ u))
    ∧ (∃ (t v role counter dev : Nat) (q : PxReq) (s : State), (s.tick t).admitsWrite q (balctrlObj dev) 0 0 (leBytes 2 v) role counter
      ∧ s.mgmt.restartDue = false ∧ s.flag Obj.legacyEnable = true)
    ∧ (∃ (s : State), s.flag Obj.legacyEnable = false)
    ∧ (∃ (t dev e : Nat) (s : State), (s.dev dev).balEnd = some e ∧ e ≤ max s.now t) :=
  ⟨⟨1000000000000, up, by decide +kernel, by decide +kernel, by decide +kernel⟩,
   ⟨1000000000000, up.setNat Obj.hostRegTrigger 1, by decide +kernel, by decide +kernel⟩,
   ⟨{ (up.setNat Obj.hostRegTrigger 2) with tm := { up.tm with fired := [(AngleUser.hostReg.code, 1)] } }, by decide +kernel, by decide +kernel⟩,
   ⟨0, 1, 4, 1, signed Obj.hostRegStart 0 0 (natBytes Obj.hostRegStart 1), up.setNat Obj.hostRegTrigger 3,
      signed_admits (by decide +kernel) (by decide +kernel), by decide +kernel, by decide +kernel⟩,
   ⟨.is3, .is3, .is3, { up with tm := { up.tm with fired := [(AngleUser.is3.code, 1)] } }, by decide +kernel, by decide +kernel, by decide +kernel⟩,
   ⟨⟨.hostReg, 1, false⟩, { user := .hostReg, todo := [⟨1, 1, 4, 4, 2, 0, false⟩] }, ⟨1, 1, 4, 4, 2, 0, false⟩, [],
      { up with aux := { up.aux with cur := some ⟨.hostReg, 1, false⟩, passes := [{ user := .hostReg, todo := [⟨1, 1, 4, 4, 2, 0, false⟩] }] } },
      by decide +kernel, by decide +kernel, by decide +kernel, by decide +kernel, by decide +kernel, by decide +kernel, by decide +kernel,
      by decide +kernel⟩,
   ⟨⟨.hostReg, 1, false⟩, { user := .hostReg, todo := [⟨16, 1, 4, 4, 1, 0, false⟩] }, ⟨16, 1, 4, 4, 1, 0, false⟩, [],
      { up with aux := { up.aux with cur := some ⟨.hostReg, 1, false⟩, passes := [{ user := .hostReg, todo := [⟨16, 1, 4, 4, 1, 0, false⟩] }] } },
      by decide +kernel, by decide +kernel, by decide +kernel, by decide +kernel, by decide +kernel, by decide +kernel, by decide +kernel⟩,
   ⟨0,
      { up with bal := { up.bal with bleeders := [1], flow := [(1, [⟨0, false, none⟩])] }, aux := { up.aux with passes := [{ user := .routine, todo := [⟨1, 1, 4, 4, 1, 0, true⟩] }] } },
      by decide +kernel, by decide +kernel⟩,
   ⟨2000000, 0, { user := .routine, todo := [⟨1, 1, 4, 4, 1, 0, true⟩], waitSince := some 0 },
      { up with aux := { up.aux with passes := [{ user := .routine, todo := [⟨1, 1, 4, 4, 1, 0, true⟩], waitSince := some 0 }] } }, by decide +kernel,
      by decide +kernel, by decide +kernel, by decide +kernel, by decide +kernel⟩,
   ⟨0, 0, 0, 1, 0, { (spinning.setNat Obj.legacyEnable 1) with meas := { up.meas with localWin := false } }, by decide +kernel, by decide +kernel,
      by decide +kernel, by decide +kernel, by decide +kernel⟩,
   ⟨10000000, 0, 0, 3, 0, .pawn0, ⟨0, 0, 64000000, 3, true, false, 0, 0, 1⟩,
      { spinning with aux := { up.aux with dev0 := { up.aux.dev0 with cur := some (3, 0) } } }, by decide +kernel, by decide +kernel, by decide +kernel,
      by decide +kernel, by decide +kernel, by intro c h; cases h⟩,
   ⟨0, 1, 4, 1, 0, signed (balctrlObj 0) 0 0 (leBytes 2 1), up.setNat Obj.legacyEnable 1, signed_admits (by decide +kernel) (by decide +kernel),
      by decide +kernel, by decide +kernel⟩,
   ⟨up, by decide +kernel⟩,
   ⟨10, 0, 10, { up with aux := { up.aux with dev0 := { up.aux.dev0 with balEnd := some 10 } } }, by decide +kernel, by decide +kernel⟩⟩

theorem witness_IntegrityCommandsComplete :
    (∃ (t : Nat) (s : State), s.owtMode = true ∧ s.itg.nextAt ≤ (s.tick t).ringTime ∧ s.itg.held = none ∧ s.itg.test = none
      ∧ s.forceSuspended (owtAt s.itg.pos) = false ∧ s.owtBarred (owtAt s.itg.pos) = false ∧ s.auxBusy .is1 = false ∧ s.aux.failed = false
      ∧ s.auxBusy .fallback = false)
    ∧ (∃ (t : Nat) (s : State), s.owtMode = true ∧ s.itg.nextAt ≤ (s.tick t).ringTime ∧ s.itg.held = none ∧ s.forceSuspended (owtAt s.itg.pos) = false
      ∧ s.owtBarred (owtAt s.itg.pos) = true)
    ∧ (∃ (e : Nat) (i : OwtId) (extra : Bool) (s : State), s.itg.retest = some (i, extra, e) ∧ s.itg.test = none ∧ s.forceSuspended i = false
      ∧ s.owtBarred i = false ∧ s.auxBusy .is1 = false ∧ s.aux.failed = false ∧ s.auxBusy .fallback = false)
    ∧ (∃ (t : Nat) (s : State), s.owtMode = true ∧ s.itg.overdue = false ∧ s.itg.roundStart + s.overdueLimit ≤ (s.tick t).ringTime)
    ∧ (∃ (t : Nat) (x : State) (s : State), s.md.mode.runs = true ∧ x = (s.tick t).formDiffs.clearMeans)
    ∧ (∃ (s : State), 200000 ≤ wordValue (KMap.get s.aux.words 0x41 0)) :=
  ⟨⟨0, up, by decide +kernel, by decide +kernel, by decide +kernel, by decide +kernel, by decide +kernel, by decide +kernel, by decide +kernel,
      by decide +kernel, by decide +kernel⟩,
   ⟨0, { up with itg := { up.itg with pos := 1 }, bal := { up.bal with bleeders := [1] } }, by decide +kernel, by decide +kernel, by decide +kernel,
      by decide +kernel, by decide +kernel⟩,
   ⟨0, { force := false, k := 1 }, false, { up with itg := { up.itg with retest := some ({ force := false, k := 1 }, false, 0) } }, by decide +kernel,
      by decide +kernel, by decide +kernel, by decide +kernel, by decide +kernel, by decide +kernel, by decide +kernel⟩,
   ⟨1000000000000000, up, by decide +kernel, by decide +kernel, by decide +kernel⟩,
   ⟨0, (up.tick 0).formDiffs.clearMeans, up, by decide +kernel, rfl⟩,
   ⟨{ up with aux := { up.aux with words := [(0x41, 200000 * 256)] } }, by decide +kernel⟩⟩

theorem witness_PlanCommandsComplete :
    (∃ (t : Nat) (s : State), s.isHead = true ∧ s.flag Obj.balEnable = true
      ∧ (s.bal.computeAt = 0 ∨ s.bal.computeAt + s.nat Obj.balPlanPeriod * 1000000 ≤ max s.now t) ∧ s.planNodes.Nodup)
    ∧ (∃ (t : Nat) (rx : SlotRx) (record : Bytes) (x : State) (s : State), (s.tick t).ringRx rx (record.take 52) = (x, true) ∧ rx.hdr.src = 0
      ∧ s.planOk record = true ∧ s.bal.planSeq ≠ some (fieldAt 0 2 record))
    ∧ (∃ (t : Nat) (rx : SlotRx) (record : Bytes) (x : State) (s : State), (s.tick t).ringRx rx (record.take 52) = (x, true)
      ∧ (rx.hdr.src ≠ 0 ∨ s.planOk record = false) ∧ 0x3E ∉ s.flt.active)
    ∧ (∃ (t role counter : Nat) (q : PxReq) (record : Bytes) (s : State),
      (s.tick t).admits q Obj.balPlanRecord 0 0 0x07 Obj.balPlanRecord.ty.code (leBytes 4 (crc32 record)) role counter ∧ s.mgmt.restartDue = false
      ∧ s.pxFromHead q = true ∧ s.planOk record = true ∧ s.bal.planSeq ≠ some (fieldAt 0 2 record))
    ∧ (∃ (t : Nat) (rx : SlotRx) (record : Bytes) (x : State) (s : State), (s.tick t).ringRx rx (record.take 52) = (x, true) ∧ s.isHead = true)
    ∧ (∃ (t e : Nat) (s : State), s.bal.leaseEnd = some e ∧ e ≤ max s.now t) :=
  ⟨⟨0, hd.setNat Obj.balEnable 1, by decide +kernel, by decide +kernel, by decide +kernel, by decide +kernel⟩,
   ⟨0, slot 2 1, goodPlan, rxOf seg (slot 2 1) (goodPlan.take 52), seg, Prod.ext rfl (by decide +kernel), by decide +kernel, by decide +kernel,
      by decide +kernel⟩,
   ⟨0, slot 2 1, zeroBytes 64, rxOf seg (slot 2 1) (zeroBytes 52), seg, Prod.ext rfl (by decide +kernel), by decide +kernel, by decide +kernel⟩,
   ⟨0, 4, 1, signedBy .ring 0x07 Obj.balPlanRecord 0 0 (leBytes 4 (crc32 goodPlan)), goodPlan, onPath .ring up, signedBy_admits .ring (by decide +kernel),
      by decide +kernel, by decide +kernel, by decide +kernel, by decide +kernel⟩,
   ⟨0, slot 2 2 3, [0, 0, 3] ++ zeroBytes 61, rxOf hdRing (slot 2 2 3) ([0, 0, 3] ++ zeroBytes 49), hdRing, Prod.ext rfl (by decide +kernel),
      by decide +kernel⟩,
   ⟨10, 10, { up with bal := { up.bal with leaseEnd := some 10 } }, by decide +kernel, by decide +kernel⟩⟩

theorem witness_BalancingCommandsComplete :
    (∃ (t sec : Nat) (s : State), (sec = (if s.unsynced then max s.now t else (s.tick t).ringTime) / 1000000000) ∧ s.bal.selSec ≠ some sec
      ∧ s.aux.blankAt = none ∧ (s.tick t).convAllowed = true)
    ∧ (∃ (cell : Nat) (s : State), s.bal.reached.contains cell = true)
    ∧ (∃ (t : Nat) (v r tol : Rat) (s : State), (s.tick t).ringTime / 10000000000 ≠ s.bal.booksAt ∧ s.bal.vCount ≠ 0
      ∧ v = (s.bal.vSum : Rat) / (s.bal.vCount : Nat) / 1000000 ∧ 0 < v ∧ (r, tol) = s.bookResidual v) :=
  ⟨⟨0, 0, { up with bal := { up.bal with leaseEnd := some 1000 } }, by decide +kernel, by decide +kernel, by decide +kernel, by decide +kernel⟩,
   ⟨3, { up with bal := { up.bal with bleeders := [3, 5], reached := [3] } }, by decide +kernel⟩,
   ⟨10000000000, 3, 0, 5, { up with bal := { up.bal with vCount := 1, vSum := 3000000 } }, by decide +kernel, by decide +kernel, by decide +kernel,
      by decide +kernel, by decide +kernel⟩⟩

theorem witness_HeadSupervisionComplete :
    (∃ (amps : Rat) (s : State), s.isHead = true ∧ s.hio.scLatch = false ∧ s.md.mode.runs = true ∧ s.rat Obj.shortCircuitLevel < absQ amps)
    ∧ (∃ (s : State), s.isHead = true ∧ s.hio.shuntFault = false ∧ s.hio.fluxFault = false)
    ∧ (∃ (s : State), s.isHead = true)
    ∧ (∃ (v : Rat) (s : State), s.isHead = true ∧ s.allMeasured = true ∧ absQ (v - s.moduleSum) ≤ s.moduleSum / 200 + 5)
    ∧ (∃ (v : Rat) (s : State), s.isHead = true ∧ s.allMeasured = true ∧ s.moduleSum / 200 + 5 < absQ (v - s.moduleSum))
    ∧ (∃ (t : Nat) (settled : Bool) (s : State), s.isoAllowed = true ∧ s.hio.isoState = 1
      ∧ (s.hio.isoSince + (if settled then s.nat Obj.isoStateMin else s.nat Obj.isoStateMax) * 1000000 ≤ max s.now t))
    ∧ (∃ (t : Nat) (vp vn vp1 vn1 rp rn : Rat) (s : State), s.isoAllowed = true ∧ s.hio.isoState = 2
      ∧ s.hio.isoSince + s.nat Obj.isoStateMin * 1000000 ≤ max s.now t ∧ s.hio.isoA = some (vp1, vn1) ∧ isoSolve vp1 vn1 vp vn = some (rp, rn))
    ∧ (∃ (t : Nat) (s : State), s.isHead = true ∧ s.md.mode.runs = true ∧ s.hio.limitAt + s.nat Obj.pcsLimitPeriod * 1000000 ≤ max s.now t)
    ∧ (∃ (t index sub j role counter : Nat) (q : PxReq) (v : PxValue) (o : ObjDef) (s : State), protAt index sub = some (o, j) ∧ v.ty = o.ty.code
      ∧ (s.tick t).admitsWrite q o 0 j v.data role counter ∧ s.px.rwp.length < 16 ∧ ((s.tick t).pxHeadCopy q = true ∨ (s.isHead = true
      ∧ (((s.tick t).taken q counter).setVal o (Val.decode o.ty v.data) 0 j).protOrdered = true)))
    ∧ (∃ (s : State), s.isHead = true) :=
  ⟨⟨100000, hd, by decide +kernel, by decide +kernel, by decide +kernel, by decide +kernel⟩,
   ⟨hd, by decide +kernel, by decide +kernel, by decide +kernel⟩,
   ⟨hd, by decide +kernel⟩,
   ⟨1, hd, by decide +kernel, by decide +kernel, by decide +kernel⟩,
   ⟨100, hd, by decide +kernel, by decide +kernel, by decide +kernel⟩,
   ⟨1000000000000, true, { (hd.setNat Obj.isoMode 1) with hio := { hd.hio with isoState := 1 } }, by decide +kernel, by decide +kernel,
      by decide +kernel⟩,
   ⟨1000000000000, 500, 300, 400, 400, 800000, 4000000/7,
      { (hd.setNat Obj.isoMode 1) with hio := { hd.hio with isoState := 2, isoA := some (400, 400) } }, by decide +kernel, by decide +kernel,
      by decide +kernel, by decide +kernel, by decide +kernel⟩,
   ⟨1000000000000, hd, by decide +kernel, by decide +kernel, by decide +kernel⟩,
   ⟨0, Obj.cellOvWarn.index, Obj.cellOvWarn.sub, 0, 4, 1, signed Obj.cellOvWarn 0 0 (hd.bytesOf Obj.cellOvWarn 0 0), ⟨Obj.cellOvWarn.ty.code,
      hd.bytesOf Obj.cellOvWarn 0 0⟩, Obj.cellOvWarn, hd, by decide +kernel, rfl, signed_admits (by decide +kernel) (by decide +kernel), by decide +kernel,
      .inr (by decide +kernel)⟩,
   ⟨hd, by decide +kernel⟩⟩

theorem witness_TripCommandsComplete :
    (∃ (s : State), s.isHead = true ∧ s.md.mode.runs = true)
    ∧ (∃ (s : State), s.ident.role = .standby ∧ s.md.mode.runs = true)
    ∧ (∃ (t e : Nat) (s : State), s.hio.tripWaitEnd = some e ∧ e ≤ max s.now t)
    ∧ (∃ (t : Nat) (via : NoticeVia) (n : Notice) (x : State) (s : State), (s.tick t).noticeRx via 1 n = (x, true))
    ∧ (∃ (c : ProtCond) (s : State), s.evaluates c = true ∧ s.hio.held.contains c = false)
    ∧ (∃ (t e : Nat) (s : State), s.hio.openReqAt = some e ∧ e ≤ max s.now t ∧ s.isHead = false ∧ s.openHeld = true)
    ∧ (∃ (t : Nat) (via : NoticeVia) (n : Notice) (x : State) (s : State), (s.tick t).noticeRx via 2 n = (x, true) ∧ s.isHead = true)
    ∧ (∃ (t node : Nat) (s : State), KMap.has s.hio.remoteOpen node = true ∧ KMap.get s.hio.remoteOpen node 0 + 2000000000 ≤ max s.now t)
    ∧ (∃ (t v role counter : Nat) (q : PxReq) (s : State), (s.tick t).admitsWrite q Obj.tripReset 0 0 (natBytes Obj.tripReset v) role counter
      ∧ s.mgmt.restartDue = false ∧ s.isHead = true)
    ∧ (∃ (t : Nat) (via : NoticeVia) (n : Notice) (x : State) (s : State), (s.tick t).noticeRx via 5 n = (x, true))
    ∧ (∃ (t : Nat) (s : State), s.isHead = true ∧ s.hio.contactor = 5 ∧ s.hio.resetSent = true ∧ (s.tick t).loopGood = true ∧ s.hio.mainPos = false
      ∧ s.hio.mainNeg = false ∧ s.hio.prechg = false) :=
  ⟨⟨hd, by decide +kernel, by decide +kernel⟩,
   ⟨{ up with ident := { up.ident with role := .standby } }, by decide +kernel, by decide +kernel⟩,
   ⟨10, 10, { up with hio := { up.hio with tripWaitEnd := some 10 } }, by decide +kernel, by decide +kernel⟩,
   ⟨0, .ring (slot 1 1), aNotice, ((seg.tick 0).noticeRx (.ring (slot 1 1)) 1 aNotice).1, seg, Prod.ext rfl (by decide +kernel)⟩,
   ⟨⟨.cellHigh, .trip⟩, up, by decide +kernel, by decide +kernel⟩,
   ⟨10, 10, { up with hio := { up.hio with openReqAt := some 10, held := [⟨.cellHigh, .open⟩] } }, by decide +kernel, by decide +kernel,
      by decide +kernel, by decide +kernel⟩,
   ⟨0, .ring (slot 1 2 3), aNotice, ((hdRing.tick 0).noticeRx (.ring (slot 1 2 3)) 2 aNotice).1, hdRing, Prod.ext rfl (by decide +kernel),
      by decide +kernel⟩,
   ⟨2000000000, 5, { hd with hio := { hd.hio with remoteOpen := [(5, 0)] } }, by decide +kernel, by decide +kernel⟩,
   ⟨0, 90, 4, 1, signed Obj.tripReset 0 0 (natBytes Obj.tripReset 90), hd, signed_admits (by decide +kernel) (by decide +kernel), by decide +kernel,
      by decide +kernel⟩,
   ⟨0, .ring (slot 1 5), aNotice, ((seg.tick 0).noticeRx (.ring (slot 1 5)) 5 aNotice).1, seg, Prod.ext rfl (by decide +kernel)⟩,
   ⟨200000000, { hd with hio := { hd.hio with contactor := 5, resetSent := true, loopOkSince := some 0 } }, by decide +kernel, by decide +kernel,
      by decide +kernel, by decide +kernel, by decide +kernel, by decide +kernel, by decide +kernel⟩⟩

theorem witness_ContactorCommandsComplete :
    (∃ (t role counter : Nat) (q : PxReq) (s : State), (s.tick t).admitsWrite q Obj.contactorCommand 0 0 (natBytes Obj.contactorCommand 1) role counter
      ∧ s.mgmt.restartDue = false ∧ s.isHead = true ∧ ((s.tick t).taken q counter).closeCode = 0)
    ∧ (∃ (t role counter : Nat) (q : PxReq) (s : State), (s.tick t).admitsWrite q Obj.contactorCommand 0 0 (natBytes Obj.contactorCommand 2) role counter
      ∧ s.mgmt.restartDue = false ∧ s.isHead = true ∧ s.flt.handoverStep = 0)
    ∧ (∃ (t k : Nat) (m : SeqMeas) (s : State), s.isHead = true ∧ s.hio.contactor ≠ 0 ∧ s.hio.closeStep = k ∧ ((k = 2
      ∧ s.hio.stepStart + 100000000 ≤ max s.now t) ∨ ((k = 4 ∨ k = 8) ∧ s.hio.stepStart + 50000000 ≤ max s.now t))
      ∧ ((if k = 2 then 1 else 2) ≤ m.ampsMax))
    ∧ (∃ (t k : Nat) (m : SeqMeas) (s : State), s.isHead = true ∧ s.hio.contactor ≠ 0 ∧ s.hio.closeStep = k ∧ k ≠ 8 ∧ k ≠ 10 ∧ k ≠ 12
      ∧ ((if k = 2 then decide (m.ampsMax < 1) else if k = 4 then decide (m.ampsMax < 2) else true) = true)
      ∧ (s.hio.stepStart + (if k = 2 then 100 else if k = 3 then s.nat Obj.pullInTime 0 2 else if k = 4 then 50 else if k = 6 then s.nat Obj.contactorOpenWait
      else if k = 7 then s.nat Obj.pullInTime 0 1 else if k = 9 then s.nat Obj.pullInTime 0 2 else s.nat Obj.pullInTime 0 0) * 1000000 ≤ max s.now t))
    ∧ (∃ (t : Nat) (m : SeqMeas) (s : State), s.isHead = true ∧ s.hio.contactor ≠ 0 ∧ s.hio.closeStep = 8 ∧ m.ampsMax < 2
      ∧ s.hio.stepStart + 50000000 ≤ max s.now t)
    ∧ (∃ (s : State), s.isHead = true ∧ s.hio.contactor ≠ 0 ∧ s.hio.closeStep = 10)
    ∧ (∃ (t : Nat) (m : SeqMeas) (s : State), s.isHead = true ∧ s.hio.contactor ≠ 0 ∧ s.hio.closeStep = 12 ∧ m.bandHeld = true
      ∧ s.hio.stepStart + 50000000 ≤ max s.now t)
    ∧ (∃ (t e : Nat) (s : State), s.hio.lockoutEnd = some e ∧ e ≤ max s.now t)
    ∧ (∃ (t : Nat) (m : SeqMeas) (s : State), s.isHead = true ∧ s.hio.openStep = 3 ∧ ((m.bandHeld = true
      ∧ s.hio.stepStart + 20000000 ≤ max s.now t) ∨ s.hio.openWaitEnd ≤ max s.now t))
    ∧ (∃ (t : Nat) (s : State), s.isHead = true ∧ s.hio.openStep = 5 ∧ s.hio.stepStart + 20000000 ≤ max s.now t)
    ∧ (∃ (t : Nat) (s : State), s.isHead = true ∧ s.hio.openStep = 6 ∧ s.hio.stepStart + s.nat Obj.contactorOpenWait * 1000000 ≤ max s.now t)
    ∧ (∃ (c : Coil) (s : State), s.driven c = true)
    ∧ (∃ (c : Coil) (s : State), s.driven c = true)
    ∧ (∃ (s : State), s.isHead = true ∧ s.md.mode.runs = true)
    ∧ (∃ (t node membGen instant : Nat) (released : Bool) (rx : SlotRx) (x : State) (s : State),
      (s.tick t).ringRx rx (releaseBytes node released membGen instant) = (x, true) ∧ node = s.nodeId ∧ s.isHead = false ∧ rx.hdr.src = 0) :=
  ⟨⟨200000000, 4, 1, signed Obj.contactorCommand 0 0 (natBytes Obj.contactorCommand 1),
      { ((hd.setNat Obj.isoMode 0).setRat Obj.stringVoltageMax 100) with hio := { hd.hio with loopOkSince := some 0 }, itg := { hd.itg with roundDone := true } },
      signed_admits (by decide +kernel) (by decide +kernel), by decide +kernel, by decide +kernel, by decide +kernel⟩,
   ⟨0, 4, 1, signed Obj.contactorCommand 0 0 (natBytes Obj.contactorCommand 2), { hd with hio := { hd.hio with contactor := 2 } },
      signed_admits (by decide +kernel) (by decide +kernel), by decide +kernel, by decide +kernel, by decide +kernel⟩,
   ⟨100000000, 2, ⟨1, 1, 0, 0, 0, false⟩, { hd with hio := { hd.hio with contactor := 1, closeStep := 2 } }, by decide +kernel, by decide +kernel,
      by decide +kernel, by decide +kernel, by decide +kernel⟩,
   ⟨1000000000000, 4, ⟨1, 1, 0, 0, 0, false⟩, { hd with hio := { hd.hio with contactor := 1, closeStep := 4 } }, by decide +kernel, by decide +kernel,
      by decide +kernel, by decide +kernel, by decide +kernel, by decide +kernel, by decide +kernel, by decide +kernel⟩,
   ⟨1000000000000, ⟨1, 1, 0, 0, 0, false⟩, { hd with hio := { hd.hio with contactor := 1, closeStep := 8 } }, by decide +kernel, by decide +kernel,
      by decide +kernel, by decide +kernel, by decide +kernel⟩,
   ⟨{ hd with hio := { hd.hio with contactor := 1, closeStep := 10 } }, by decide +kernel, by decide +kernel, by decide +kernel⟩,
   ⟨1000000000000, ⟨1, 1, 0, 0, 0, true⟩, { hd with hio := { hd.hio with contactor := 1, closeStep := 12 } }, by decide +kernel, by decide +kernel,
      by decide +kernel, by decide +kernel, by decide +kernel⟩,
   ⟨10, 10, { hd with hio := { hd.hio with lockoutEnd := some 10 } }, by decide +kernel, by decide +kernel⟩,
   ⟨20000000, ⟨0, 0, 0, 0, 0, true⟩, { hd with hio := { hd.hio with openStep := 3 } }, by decide +kernel, by decide +kernel, by decide +kernel⟩,
   ⟨20000000, { hd with hio := { hd.hio with openStep := 5 } }, by decide +kernel, by decide +kernel, by decide +kernel⟩,
   ⟨1000000000000, { hd with hio := { hd.hio with openStep := 6 } }, by decide +kernel, by decide +kernel, by decide +kernel⟩,
   ⟨.mainPos, { hd with hio := { hd.hio with mainPos := true } }, by decide +kernel⟩,
   ⟨.mainPos, { hd with hio := { hd.hio with mainPos := true } }, by decide +kernel⟩,
   ⟨hd, by decide +kernel, by decide +kernel⟩,
   ⟨0, 0, 7, 0, true, slot 2 10, rxOf seg (slot 2 10) (releaseBytes 0 true 7 0), seg, Prod.ext rfl (by decide +kernel), by decide +kernel,
      by decide +kernel, by decide +kernel⟩⟩

theorem witness_SocCommandsComplete :
    (∃ (s : State), s.md.mode.runs = true)
    ∧ (∃ (t : Nat) (s : State), s.md.mode.runs = true ∧ s.est.gap = false ∧ s.est.wordAt + 100000000 ≤ max s.now t)
    ∧ (∃ (t : Nat) (s : State), s.md.mode.runs = true ∧ s.est.hold = false ∧ s.est.wordAt + 10000000000 ≤ max s.now t)
    ∧ (∃ (s : State), s.md.mode.runs = true)
    ∧ (∃ (t f : Nat) (s : State), s.est.firstAt = some f ∧ s.est.firstDone = false ∧ f + 100000000 ≤ max s.now t)
    ∧ (∃ (t : Nat) (s : State), s.est.startAt + 86400000000000 ≤ max s.now t)
    ∧ (∃ (t cell : Nat) (x : Rat × Rat × Rat) (s : State), (s.tick t).restHolds cell = true ∧ (s.ec cell).check = some x ∧ (∀ r,
      (s.ec cell).restAt = some r → r + 600000000000 ≤ max s.now t))
    ∧ (∃ (t cell : Nat) (s : State), (s.tick t).restHolds cell = false) :=
  ⟨⟨up, by decide +kernel⟩,
   ⟨1000000000, up, by decide +kernel, by decide +kernel, by decide +kernel⟩,
   ⟨10000000000, up, by decide +kernel, by decide +kernel, by decide +kernel⟩,
   ⟨up, by decide +kernel⟩,
   ⟨100000000, 0, { up with est := { up.est with firstAt := some 0 } }, by decide +kernel, by decide +kernel, by decide +kernel⟩,
   ⟨86400000000000, up, by decide +kernel⟩,
   ⟨1800000000000, 1, (50, 2, 1),
      { withCell (typed.setNat Obj.cellSource 0) { check := some (50, 2, 1), balMeans := List.replicate 30 0, minMeans := List.replicate 10 0 } with est := { (withCell up { check := some (50, 2, 1), balMeans := List.replicate 30 0, minMeans := List.replicate 10 0 }).est with quietSince := some 0 } },
      by decide +kernel, by decide +kernel, by decide +kernel⟩,
   ⟨0, 1, up, by decide +kernel⟩⟩

theorem witness_RecordCommandsComplete :
    (∃ (t : Nat) (s : State), s.md.mode.runs = true ∧ s.est.socWrite = none ∧ s.est.socDue + s.nat Obj.socWritePeriod * 1000000000 ≤ max s.now t)
    ∧ (∃ (s : State), s.md.mode.runs = true ∧ s.est.capPend = true ∧ s.est.capWrite = none)
    ∧ (∃ (t : Nat) (capacity : Bool) (w : RecWrite) (s : State), s.recWrite capacity = some w ∧ w.stage = 0 ∧ w.due ≤ max s.now t)
    ∧ (∃ (capacity : Bool) (w : RecWrite) (s : State), s.recWrite capacity = some w ∧ w.stage = 2) :=
  ⟨⟨1000000000000000, up, by decide +kernel, by decide +kernel, by decide +kernel⟩,
   ⟨{ up with est := { up.est with capPend := true } }, by decide +kernel, by decide +kernel, by decide +kernel⟩,
   ⟨0, false, ⟨0, [], 0, 0, 0⟩, { up with est := { up.est with socWrite := some ⟨0, [], 0, 0, 0⟩ } }, by decide +kernel, by decide +kernel,
      by decide +kernel⟩,
   ⟨false, ⟨0, [], 2, 0, 0⟩, { up with est := { up.est with socWrite := some ⟨0, [], 2, 0, 0⟩ } }, by decide +kernel, by decide +kernel⟩⟩

theorem witness_EstimateCommandsComplete :
    (∃ (m : StepMeas) (s : State), s.rat Obj.stepMinFraction * s.capC ≤ absQ (m.amps - m.iPre) ∧ m.iPreDev ≤ absQ (m.amps - m.iPre) / 50
      ∧ s.noConfig = false)
    ∧ (∃ (t term : Nat) (x : StepSt) (s : State), s.est.step = some x ∧ x.term = term ∧ x.ts + stepWindowEndOf term ≤ (s.tick t).ringTime)
    ∧ (∃ (t n : Nat) (amps dev : Rat) (x : StepSt) (s : State), s.est.step = some x ∧ x.term = 0 ∧ x.ts + stepWindowEndOf 0 ≤ (s.tick t).ringTime
      ∧ dev ≤ absQ amps / 20 ∧ KMap.has x.vPre n = true ∧ (s.ec n).taint.std < x.ts + stepWindow 0 ∧ (s.ec n).flyAt + 2000000 < x.ts ∧ amps ≠ x.iPre)
    ∧ (∃ (cell bin : Nat) (b : BinBlock) (k : BinSt) (s : State), bin < 64 ∧ 1 ≤ cell ∧ cell ≤ s.cellCount
      ∧ s.rat Obj.impMinExcitation * s.rat Obj.impMinExcitation ≤ b.i2 ∧ s.est.curBad < b.since
      ∧ ((if bin < 56 then max (s.ec cell).taint.std (s.ec cell).taint.stdBal else max (s.ec cell).taint.wide (s.ec cell).taint.wideBal) < b.since)
      ∧ k = KMap.get (s.ec cell).bins bin {})
    ∧ (∃ (t : Nat) (s : State), s.est.episode = none ∧ s.md.mode.runs = true ∧ s.noConfig = false
      ∧ s.est.activeAt + s.nat Obj.sdSettle * 3600000000000 ≤ max s.now t)
    ∧ (∃ (e n : Nat) (l : List Int) (s : State), s.est.episode = some e ∧ s.ocv = some l ∧ 1 ≤ n ∧ n ≤ s.cellCount
      ∧ s.nat Obj.sdWindow + 1 ≤ (s.ec n).hours.length)
    ∧ (∃ (s : State), s.est.firstDone = true ∧ s.md.mode.runs = true)
    ∧ (∃ (s : State), s.est.firstDone = true ∧ s.md.mode.runs = true)
    ∧ (∃ (t : Nat) (rx : SlotRx) (record : Bytes) (x : State) (s : State), (s.tick t).ringRx rx record = (x, true) ∧ s.isHead = true)
    ∧ (∃ (t : Nat) (rx : SlotRx) (record : Bytes) (x : State) (s : State), (s.tick t).ringRx rx record = (x, true) ∧ s.isHead = true)
    ∧ (∃ (t : Nat) (l : List Int) (qd qc cmin : Rat) (s : State), s.isHead = true ∧ (s.tick t).stringEstOk = true ∧ s.ocv = some l ∧ s.noConfig = false
      ∧ minOf (s.stringCellsEst.map (fun e => e.1 / 100 * e.2)) = some qd
      ∧ minOf (s.stringCellsEst.map (fun e => (100 - e.1) / 100 * e.2)) = some qc ∧ minOf (s.stringCellsEst.map (·.2)) = some cmin ∧ 0 < qd + qc)
    ∧ (∃ (t : Nat) (s : State), s.isHead = true ∧ (s.tick t).stringEstOk = false) :=
  ⟨⟨⟨0, 0, 50, []⟩, typed, by decide +kernel, by decide +kernel, by decide +kernel⟩,
   ⟨2000000, 0, ⟨0, 0, [], 0, []⟩, { up with est := { up.est with step := some ⟨0, 0, [], 0, []⟩ } }, by decide +kernel, by decide +kernel,
      by decide +kernel⟩,
   ⟨5000000, 1, 10, 0, ⟨3000000, 0, [(1, 0)], 0, []⟩, { up with est := { up.est with step := some ⟨3000000, 0, [(1, 0)], 0, []⟩ } }, by decide +kernel,
      by decide +kernel, by decide +kernel, by decide +kernel, by decide +kernel, by decide +kernel, by decide +kernel, by decide +kernel⟩,
   ⟨1, 3, ⟨5, 1, 1, 100⟩, {}, up, by decide +kernel, by decide +kernel, by decide +kernel, by decide +kernel, by decide +kernel, by decide +kernel,
      by decide +kernel⟩,
   ⟨1000000000000000, typed, by decide +kernel, by decide +kernel, by decide +kernel, by decide +kernel⟩,
   ⟨0, 1, ocvNodes (List.replicate 164 1),
      { withCell typed { hours := List.replicate 25 0 } with est := { (withCell typed { hours := List.replicate 25 0 }).est with episode := some 0 } },
      by decide +kernel, by decide +kernel, by decide +kernel, by decide +kernel, by decide +kernel⟩,
   ⟨{ up with est := { up.est with firstDone := true } }, by decide +kernel, by decide +kernel⟩,
   ⟨{ up with est := { up.est with firstDone := true } }, by decide +kernel, by decide +kernel⟩,
   ⟨0, slot 2 3 3, [0, 0, 3] ++ zeroBytes 49, rxOf hdRing (slot 2 3 3) ([0, 0, 3] ++ zeroBytes 49), hdRing, Prod.ext rfl (by decide +kernel),
      by decide +kernel⟩,
   ⟨0, slot 2 4 3, [0, 0, 3] ++ zeroBytes 49, rxOf hdRing (slot 2 4 3) ([0, 0, 3] ++ zeroBytes 49), hdRing, Prod.ext rfl (by decide +kernel),
      by decide +kernel⟩,
   ⟨0, ocvNodes (List.replicate 164 1), 50, 50, 100,
      { typed with ident := { hd.ident with members := [(5, { state := 1 })] }, est := { typed.est with socIn := [(5, ⟨0, 0, [5000]⟩)], capIn := [(5, ⟨0, 0, [10000]⟩)] } },
      by decide +kernel, by decide +kernel, by decide +kernel, by decide +kernel, by decide +kernel, by decide +kernel, by decide +kernel,
      by decide +kernel⟩,
   ⟨0, { hd with ident := { hd.ident with members := [(5, { state := 1 })] } }, by decide +kernel, by decide +kernel⟩⟩

theorem witness_LoopCommandsComplete :
    (∃ (s : State), s.md.mode.runs = true)
    ∧ (∃ (t inst v role counter : Nat) (q : PxReq) (s : State),
      (s.tick t).admitsWrite q (instObj Obj.loopEnable inst false) inst 0 (leBytes 1 v) role counter ∧ s.mgmt.restartDue = false ∧ v ≠ 0
      ∧ (s.inst inst).enabled = false ∧ ((s.tick t).taken q counter).bindHeld inst (s.val Obj.outputBind inst).toBytes = false
      ∧ ((s.tick t).taken q counter).loopCycles (((List.range 16).filter ((s.tick t).taken q counter).instOn) ++ [inst]) ≤ 150000000)
    ∧ (∃ (t inst role counter : Nat) (q : PxReq) (s : State),
      (s.tick t).admitsWrite q (instObj Obj.loopEnable inst false) inst 0 (leBytes 1 0) role counter ∧ s.mgmt.restartDue = false)
    ∧ (∃ (t inst role counter k : Nat) (bankB : Bool) (d : Bytes) (o : ObjDef) (q : PxReq) (x : State) (s : State),
      (o = (if bankB then Obj.bankB else Obj.bankA)) ∧ (k = (if bankB then 1 else 0)) ∧ 11 ≤ inst ∧ x = (s.tick t).taken q counter
      ∧ (s.tick t).admits q (instObj o inst true) inst 0 0x07 o.ty.code (leBytes 4 (crc32 d)) role counter
      ∧ (x.instOn inst && decide ((s.inst inst).active = k)) = false ∧ (s.inst inst).pend ≠ some k ∧ x.bankFits inst d = true)
    ∧ (∃ (t inst role counter k : Nat) (bankB : Bool) (d : Bytes) (o : ObjDef) (q : PxReq) (x : State) (s : State),
      (o = (if bankB then Obj.bankB else Obj.bankA)) ∧ (k = (if bankB then 1 else 0)) ∧ 7 ≤ inst ∧ inst ≤ 9 ∧ x = (s.tick t).taken q counter
      ∧ (s.tick t).admits q (instObj o inst true) inst 0 0x07 o.ty.code (leBytes 4 (crc32 d)) role counter
      ∧ (x.instOn inst && decide ((s.inst inst).active = k)) = false ∧ (s.inst inst).pend ≠ some k ∧ x.bankFits inst d = true ∧ s.px.rwp.length < 16)
    ∧ (∃ (t inst v role counter : Nat) (q : PxReq) (s : State),
      (s.tick t).admitsWrite q (instObj Obj.bankRequest inst false) inst 0 (natBytes Obj.bankRequest v) role counter ∧ s.mgmt.restartDue = false
      ∧ ((s.inst inst).active ≠ v → bankUsable (s.bank inst v) = true))
    ∧ (∃ (t inst role counter : Nat) (d : Bytes) (q : PxReq) (x : State) (s : State), x = (s.tick t).taken q counter
      ∧ (s.tick t).admitsWrite q (instObj Obj.inputBind inst false) inst 0 d role counter ∧ (s.inst inst).enabled = false
      ∧ (bindWords d).all inputEntryOk = true ∧ (∀ k,
      (k = 0 ∨ k = 1) → bankUsable (s.bank inst k) = true → bankP (s.bank inst k) = (inputsOf d 1).length
      ∧ bankK (s.bank inst k) = (inputsOf d 2).length))
    ∧ (∃ (t inst role counter : Nat) (d : Bytes) (q : PxReq) (x : State) (s : State), x = (s.tick t).taken q counter
      ∧ (s.tick t).admitsWrite q (instObj Obj.outputBind inst false) inst 0 d role counter ∧ (s.inst inst).enabled = false
      ∧ (bindWords d).all outputEntryOk = true ∧ x.cascadeOk inst d = true ∧ (bindWords d).any shippedTarget = false ∧ x.bindHeld inst d = false
      ∧ ((bindWords d).any (fun e => bitsOf 31 30 e == 2 && bitsOf 15 8 e == 0x20) = true → s.nat Obj.thermalMode = 2))
    ∧ (∃ (t inst slot role counter : Nat) (v : BitVec 32) (q : PxReq) (x : State) (s : State), x = (s.tick t).taken q counter
      ∧ (s.tick t).admitsWrite q (instObj Obj.setpoint inst false) inst (slot - 1) (f32Bytes v) role counter ∧ x.writers inst (slot - 1) = [])
    ∧ (∃ (r : Rat) (s : State), s.tRef = some r) :=
  ⟨⟨up, by decide +kernel⟩,
   ⟨0, 11, 1, 4, 1, signed (instObj Obj.loopEnable 11 false) 11 0 (leBytes 1 1), up, signed_admits (by decide +kernel) (by decide +kernel),
      by decide +kernel, by decide +kernel, by decide +kernel, by decide +kernel, by decide +kernel⟩,
   ⟨0, 11, 4, 1, signed (instObj Obj.loopEnable 11 false) 11 0 (leBytes 1 0), up, signed_admits (by decide +kernel) (by decide +kernel),
      by decide +kernel⟩,
   ⟨0, 11, 4, 1, 0, false, zeroBytes 1000, Obj.bankA, signedBy .usb 0x07 (instObj Obj.bankA 11 true) 11 0 (leBytes 4 (crc32 (zeroBytes 1000))),
      (up.tick 0).taken (signedBy .usb 0x07 (instObj Obj.bankA 11 true) 11 0 (leBytes 4 (crc32 (zeroBytes 1000)))) 1, up, rfl, rfl, by decide +kernel, rfl,
      signedBy_admits .usb (by decide +kernel), by decide +kernel, by decide +kernel, by decide +kernel⟩,
   ⟨0, 9, 4, 1, 1, true, zeroBytes 1000, Obj.bankB, signedBy .usb 0x07 (instObj Obj.bankB 9 true) 9 0 (leBytes 4 (crc32 (zeroBytes 1000))),
      (up.tick 0).taken (signedBy .usb 0x07 (instObj Obj.bankB 9 true) 9 0 (leBytes 4 (crc32 (zeroBytes 1000)))) 1, up, rfl, rfl, by decide +kernel,
      by decide +kernel, rfl, signedBy_admits .usb (by decide +kernel), by decide +kernel, by decide +kernel, by decide +kernel, by decide +kernel⟩,
   ⟨0, 11, 0, 4, 1, signed (instObj Obj.bankRequest 11 false) 11 0 (natBytes Obj.bankRequest 0), up,
      signed_admits (by decide +kernel) (by decide +kernel), by decide +kernel, by decide +kernel⟩,
   ⟨0, 11, 4, 1, zeroBytes 16, signed (instObj Obj.inputBind 11 false) 11 0 (zeroBytes 16),
      (up.tick 0).taken (signed (instObj Obj.inputBind 11 false) 11 0 (zeroBytes 16)) 1, up, rfl, signed_admits (by decide +kernel) (by decide +kernel),
      by decide +kernel, by decide +kernel, fun k hk => hk.elim (fun h => by subst h; decide +kernel) (fun h => by subst h; decide +kernel)⟩,
   ⟨0, 11, 4, 1, zeroBytes 16, signed (instObj Obj.outputBind 11 false) 11 0 (zeroBytes 16),
      (up.tick 0).taken (signed (instObj Obj.outputBind 11 false) 11 0 (zeroBytes 16)) 1, up, rfl, signed_admits (by decide +kernel) (by decide +kernel),
      by decide +kernel, by decide +kernel, by decide +kernel, by decide +kernel, by decide +kernel, by decide +kernel⟩,
   ⟨0, 11, 1, 4, 1, 0#32, signed (instObj Obj.setpoint 11 false) 11 0 (f32Bytes 0#32),
      (up.tick 0).taken (signed (instObj Obj.setpoint 11 false) 11 0 (f32Bytes 0#32)) 1, up, rfl, signed_admits (by decide +kernel) (by decide +kernel),
      by decide +kernel⟩,
   ⟨Config.ntcTemp 1500000, { (up.setNat Obj.coolantRefNtc 1) with aux := { up.aux with words := [(0x50, 1500000 * 256)] } }, rfl⟩⟩

theorem witness_PortCommandsComplete :
    (∃ (t e : Nat) (p : Port) (s : State), (s.port p).lossSince = some e ∧ (s.port p).up = true ∧ e + 20000 ≤ max s.now t)
    ∧ (∃ (t e : Nat) (p : Port) (s : State), (s.port p).holdSince = some e ∧ (s.port p).up = false ∧ (s.port p).rx = true
      ∧ e + s.nat Obj.unwrapHoldoff * 1000000 ≤ max s.now t)
    ∧ (∃ (t : Nat) (p : Port) (s : State), (s.port p).ready = true ∧ (s.port p).readyRepeat ≤ max s.now t)
    ∧ (∃ (t : Nat) (rx : SlotRx) (n : Notice) (x : State) (s : State), (s.tick t).noticeRx (.ring rx) 6 n = (x, true) ∧ s.isHead = true)
    ∧ (∃ (t : Nat) (rx : SlotRx) (n : Notice) (x : State) (s : State), (s.tick t).noticeRx (.ring rx) 6 n = (x, true) ∧ s.isHead = true)
    ∧ (∃ (t : Nat) (rx : SlotRx) (n : Notice) (x : State) (s : State), (s.tick t).noticeRx (.ring rx) 6 n = (x, true)) :=
  ⟨⟨20000, 0, .east, onEast seg { up := true, lossSince := some 0 }, by decide +kernel, by decide +kernel, by decide +kernel⟩,
   ⟨1000000000000, 0, .east, onEast seg { rx := true, holdSince := some 0 }, by decide +kernel, by decide +kernel, by decide +kernel, by decide +kernel⟩,
   ⟨0, .east, onEast seg { ready := true }, by decide +kernel, by decide +kernel⟩,
   ⟨0, slot 1 6 3, aNotice, noteOf hdRing (slot 1 6 3) 6, hdRing, Prod.ext rfl (by decide +kernel), by decide +kernel⟩,
   ⟨0, slot 1 6 3, aNotice, noteOf hdRing (slot 1 6 3) 6, hdRing, Prod.ext rfl (by decide +kernel), by decide +kernel⟩,
   ⟨0, slot 0 3, aNotice, noteOf (onEast seg { ready := true }) (slot 0 3) 6, onEast seg { ready := true }, Prod.ext rfl (by decide +kernel)⟩⟩

theorem witness_CensusCommandsComplete :
    (∃ (t : Nat) (rx : SlotRx) (n : Notice) (x : State) (s : State), (s.tick t).noticeRx (.ring rx) 6 n = (x, true) ∧ s.isHead = true)
    ∧ (∃ (t v role counter : Nat) (q : PxReq) (x : State) (s : State), x = (s.tick t).taken q counter
      ∧ (s.tick t).admitsWrite q Obj.censusRequest 0 0 (natBytes Obj.censusRequest v) role counter ∧ s.isHead = true)
    ∧ (∃ (no : Nat) (rx : SlotRx) (s : State), s.isHead = false ∧ rx.hdr.turned = false ∧ s.ring.lastCounted ≠ some no)
    ∧ (∃ (no : Nat) (rx : SlotRx) (r : CensusRun) (s : State), s.isHead = true ∧ rx.hdr.turned = false ∧ s.ring.run = some r ∧ r.no = no)
    ∧ (∃ (t : Nat) (r : CensusRun) (s : State), s.isHead = true ∧ s.ring.run = some r ∧ r.start + 1000000 ≤ max s.now t)
    ∧ (∃ (t e : Nat) (s : State), s.isHead = true ∧ s.ring.retryAt = some e ∧ e ≤ max s.now t)
    ∧ (∃ (t no n turnAt effective stringId c a : Nat) (rx : SlotRx) (x : State) (s : State), s.isHead = false
      ∧ (s.tick t).ringRx rx (resultBytes no n turnAt effective stringId) = (x, true) ∧ s.ring.counted = some (no, c, a))
    ∧ (∃ (t no c a : Nat) (s : State), s.ring.counted = some (no, c, a) ∧ a + 5000000 ≤ max s.now t ∧ (∀ p, s.ring.pend = some p → p.no ≠ no))
    ∧ (∃ (t c a : Nat) (p : CensusPend) (s : State), s.ring.pend = some p ∧ p.effective ≤ (s.tick t).ringTime ∧ s.ring.counted = some (p.no, c, a))
    ∧ (∃ (t : Nat) (rx : SlotRx) (r : CensusReplyRec) (x : State) (s : State), (s.tick t).ringRx rx r.bytes = (x, true) ∧ s.isHead = true
      ∧ s.ring.replyBy ≠ none ∧ r.censusNo = s.ring.censusNo)
    ∧ (∃ (t e : Nat) (s : State), s.isHead = true ∧ s.ring.replyBy = some e ∧ e ≤ max s.now t) :=
  ⟨⟨0, slot 1 6 3, aNotice, noteOf hdRing (slot 1 6 3) 6, hdRing, Prod.ext rfl (by decide +kernel), by decide +kernel⟩,
   ⟨0, 1, 4, 1, signed Obj.censusRequest 0 0 (natBytes Obj.censusRequest 1),
      (hdRing.tick 0).taken (signed Obj.censusRequest 0 0 (natBytes Obj.censusRequest 1)) 1, hdRing, rfl,
      signed_admits (by decide +kernel) (by decide +kernel), by decide +kernel⟩,
   ⟨4, slot 0 4, seg, by decide +kernel, by decide +kernel, by decide +kernel⟩,
   ⟨4, slot 0 4, ⟨4, 0⟩, { hdRing with ring := { hdRing.ring with run := some ⟨4, 0⟩ } }, by decide +kernel, by decide +kernel, by decide +kernel,
      by decide +kernel⟩,
   ⟨1000000, ⟨4, 0⟩, { hdRing with ring := { hdRing.ring with run := some ⟨4, 0⟩ } }, by decide +kernel, by decide +kernel, by decide +kernel⟩,
   ⟨10, 10, { hdRing with ring := { hdRing.ring with retryAt := some 10 } }, by decide +kernel, by decide +kernel, by decide +kernel⟩,
   ⟨0, 4, 6, 255, 2000000, 1, 3, 0, slot 0 5,
      rxOf { seg with ring := { seg.ring with counted := some (4, 3, 0) } } (slot 0 5) (resultBytes 4 6 255 2000000 1),
      { seg with ring := { seg.ring with counted := some (4, 3, 0) } }, by decide +kernel, Prod.ext rfl (by decide +kernel), by decide +kernel⟩,
   ⟨5000000, 4, 3, 0, { seg with ring := { seg.ring with counted := some (4, 3, 0) } }, by decide +kernel, by decide +kernel,
      fun p (h : (none : Option CensusPend) = some p) => nomatch h⟩,
   ⟨2000000, 3, 0, ⟨4, 6, 255, 2000000⟩, { seg with ring := { seg.ring with counted := some (4, 3, 0), pend := some ⟨4, 6, 255, 2000000⟩ } },
      by decide +kernel, by decide +kernel, by decide +kernel⟩,
   ⟨0, slot 0 6 3, aReply, rxOf { hdRing with ring := { hdRing.ring with replyBy := some 5, censusNo := 1 } } (slot 0 6 3) aReply.bytes,
      { hdRing with ring := { hdRing.ring with replyBy := some 5, censusNo := 1 } }, Prod.ext rfl (by decide +kernel), by decide +kernel,
      by decide +kernel, by decide +kernel⟩,
   ⟨10, 10, { hdRing with ring := { hdRing.ring with replyBy := some 10 } }, by decide +kernel, by decide +kernel, by decide +kernel⟩⟩

theorem witness_SlotCommandsComplete :
    (∃ (rx : SlotRx) (p : Port) (s : State), s.hearsRing = true ∧ linkType rx.hdr.cls rx.hdr.typ = false ∧ rx.hdr.turned = false ∧ rx.hdr.bcast = false
      ∧ 2 ≤ rx.hdr.hops ∧ rx.hdr.trCount = 0 ∧ (p = (if rx.hdr.west then .west else .east)) ∧ s.portFree p rx.hdr.cls = true)
    ∧ (∃ (rx : SlotRx) (p : Port) (s : State), s.hearsRing = true ∧ linkType rx.hdr.cls rx.hdr.typ = false ∧ rx.hdr.turned = false ∧ rx.hdr.bcast = false
      ∧ rx.hdr.trCount = 0 ∧ (p = (if rx.hdr.west then .west else .east)) ∧ (2 ≤ rx.hdr.hops → s.portFree p rx.hdr.cls = true))
    ∧ (∃ (s : State), s.ring.refused ≠ [])
    ∧ (∃ (t e : Nat) (s : State), s.ring.downSince = some e ∧ s.md.mode.runs = true ∧ e + 1000000000 ≤ max s.now t ∧ s.ring.east.up = false
      ∧ s.ring.west.up = false ∧ 0x60 ∉ s.flt.active)
    ∧ (∃ (t : Nat) (rx : SlotRx) (words : List Nat) (x : State) (s : State), (s.tick t).ringRx rx (wordsBytes words) = (x, true))
    ∧ (∃ (t : Nat) (rx : SlotRx) (words : List Nat) (x : State) (s : State), (s.tick t).ringRx rx (wordsBytes words) = (x, true) ∧ s.isHead = false
      ∧ words ≠ [])
    ∧ (∃ (t : Nat) (rx : SlotRx) (words : List Nat) (x : State) (s : State), (s.tick t).ringRx rx (wordsBytes words) = (x, true)) :=
  ⟨⟨passing 2 1, .east, seg, by decide +kernel, by decide +kernel, by decide +kernel, by decide +kernel, by decide +kernel, by decide +kernel,
      by decide +kernel, by decide +kernel⟩,
   ⟨passing 5 1, .east, seg, by decide +kernel, by decide +kernel, by decide +kernel, by decide +kernel, by decide +kernel, by decide +kernel,
      fun _ => by decide +kernel⟩,
   ⟨{ seg with ring := { seg.ring with refused := [3] } }, by decide +kernel⟩,
   ⟨1000000000, 0, up, by decide +kernel, by decide +kernel, by decide +kernel, by decide +kernel, by decide +kernel, by decide +kernel⟩,
   ⟨0, slot 3 1, [1, 2], rxOf seg (slot 3 1) (wordsBytes [1, 2]), seg, Prod.ext rfl (by decide +kernel)⟩,
   ⟨0, slot 3 2, [1, 2], rxOf seg (slot 3 2) (wordsBytes [1, 2]), seg, Prod.ext rfl (by decide +kernel), by decide +kernel, by decide +kernel⟩,
   ⟨0, slot 4 1, [1, 2], rxOf seg (slot 4 1) (wordsBytes [1, 2]), seg, Prod.ext rfl (by decide +kernel)⟩⟩

theorem witness_FrameCommandsComplete :
    (∃ (lane : Lane) (s : State), s.commsOn = true ∧ s.laneLive lane = true ∧ s.can.votes = [])
    ∧ (∃ (t id : Nat) (lane other : Lane) (b : Bus) (ext brs : Bool) (data : Bytes) (v : VoteSt) (s : State), s.commsOn = true ∧ s.laneLive lane = true
      ∧ lane ≠ other ∧ s.can.votes = [v] ∧ v.copies = [(other, .can b id ext brs data)] ∧ v.queued = none ∧ max s.now t < v.start + 50000
      ∧ (s.bus b).st ≠ .off ∧ (s.bus b).st ≠ .disabled ∧ s.flag Obj.busEnable b.idx = true ∧ (s.bus b).txq = [])
    ∧ (∃ (b : Bus) (f : TxFrame) (s : State), ((s.bus b).st = .active ∨ (s.bus b).st = .passive) ∧ offered (s.bus b).txq = some f)
    ∧ (∃ (b : Bus) (f : TxFrame) (s : State), ((s.bus b).st = .active ∨ (s.bus b).st = .passive) ∧ offered (s.bus b).txq = some f)
    ∧ (∃ (s : State), s.nodeId ≠ 0 ∧ s.md.mode.runs = true)
    ∧ (∃ (s : State), s.serves = true ∧ s.flt.handoverStep < 4 ∧ s.nodeId ≠ 0) :=
  ⟨⟨.laneA, up, by decide +kernel, by decide +kernel, by decide +kernel⟩,
   ⟨10, 0x101, .laneA, .laneB, .ctlA, false, true, [1], ⟨0, [(.laneB, .can .ctlA 0x101 false true [1])], none⟩,
      { (up.setNat Obj.busEnable 1) with can := { up.can with votes := [⟨0, [(.laneB, .can .ctlA 0x101 false true [1])], none⟩] } }, by decide +kernel,
      by decide +kernel, by decide +kernel, by decide +kernel, by decide +kernel, by decide +kernel, by decide +kernel, by decide +kernel,
      by decide +kernel, by decide +kernel, by decide +kernel⟩,
   ⟨.ctlA, ⟨0x101, false, true, [1], 1, 0⟩, { up with can := { up.can with a := { up.can.a with txq := [⟨0x101, false, true, [1], 1, 0⟩] } } },
      .inl (by decide +kernel), by decide +kernel⟩,
   ⟨.ctlA, ⟨0x101, false, true, [1], 1, 0⟩, { up with can := { up.can with a := { up.can.a with txq := [⟨0x101, false, true, [1], 1, 0⟩] } } },
      .inl (by decide +kernel), by decide +kernel⟩,
   ⟨up.setNat Obj.ownNodeId 3, by decide +kernel, by decide +kernel⟩,
   ⟨hd.setNat Obj.ownNodeId 3, by decide +kernel, by decide +kernel, by decide +kernel⟩⟩

theorem witness_BusCommandsComplete :
    (∃ (b : Bus) (s : State), (s.bus b).st = .active)
    ∧ (∃ (b : Bus) (s : State), ((s.bus b).st = .active ∨ (s.bus b).st = .passive))
    ∧ (∃ (t e : Nat) (b : Bus) (s : State), (s.bus b).st = .busOff ∧ (s.bus b).holdSince = some e ∧ s.nat Obj.busOffHoldoff b.idx ≠ 0
      ∧ e + s.nat Obj.busOffHoldoff b.idx * 1000000 ≤ max s.now t)
    ∧ (∃ (t v role counter : Nat) (b : Bus) (q : PxReq) (x y : State) (s : State), x = (s.tick t).taken q counter
      ∧ (s.tick t).admitsWrite q Obj.busRecover b.idx 0 (natBytes Obj.busRecover v) role counter ∧ (y = (if (s.bus b).st = .busOff
      ∧ s.nat Obj.busOffHoldoff b.idx = 0 then x.startRecovery b else x)))
    ∧ (∃ (b : Bus) (s : State), (s.bus b).st = .recovering)
    ∧ (∃ (t v role counter : Nat) (b : Bus) (q : PxReq) (s : State),
      (s.tick t).admitsWrite q Obj.busEnable b.idx 0 (natBytes Obj.busEnable v) role counter ∧ s.px.rwp.length < 16)
    ∧ (∃ (b : Bus) (s : State), (s.bus b).st = .passive ∧ 16 ≤ (s.bus b).ackRun ∧ (s.bus b).lonely = false)
    ∧ (∃ (t : Nat) (b : Bus) (s : State), (s.bus b).lonely = true ∧ (s.bus b).lonelyAt + 100000000 ≤ max s.now t)
    ∧ (∃ (tx rx : Nat) (b : Bus) (s : State), ¬ (tx = 16 ∧ rx = 64) ∧ (s.bus b).booksBad = false)
    ∧ (∃ (t e : Nat) (s : State), s.can.lostSince = some e ∧ e + 1000000000 ≤ max s.now t ∧ 0x68 ∉ s.flt.active) :=
  ⟨⟨.ctlA, up, by decide +kernel⟩,
   ⟨.ctlA, up, .inl (by decide +kernel)⟩,
   ⟨1000000000000, 0, .ctlA, { up with can := { up.can with a := { up.can.a with st := .busOff, holdSince := some 0 } } }, by decide +kernel,
      by decide +kernel, by decide +kernel, by decide +kernel⟩,
   ⟨0, 1, 4, 1, .ctlA, signed Obj.busRecover 0 0 (natBytes Obj.busRecover 1),
      (up.tick 0).taken (signed Obj.busRecover 0 0 (natBytes Obj.busRecover 1)) 1,
      if (up.bus .ctlA).st = .busOff ∧ up.nat Obj.busOffHoldoff 0 = 0 then ((up.tick 0).taken (signed Obj.busRecover 0 0 (natBytes Obj.busRecover 1)) 1).startRecovery .ctlA else (up.tick 0).taken (signed Obj.busRecover 0 0 (natBytes Obj.busRecover 1)) 1,
      up, rfl, signed_admits (by decide +kernel) (by decide +kernel), rfl⟩,
   ⟨.ctlA, { up with can := { up.can with a := { up.can.a with st := .recovering } } }, by decide +kernel⟩,
   ⟨0, 1, 4, 1, .ctlB, signed Obj.busEnable 1 0 (natBytes Obj.busEnable 1), up, signed_admits (by decide +kernel) (by decide +kernel), by decide +kernel⟩,
   ⟨.ctlA, { up with can := { up.can with a := { up.can.a with st := .passive, ackRun := 16 } } }, by decide +kernel, by decide +kernel,
      by decide +kernel⟩,
   ⟨100000000, .ctlA, { up with can := { up.can with a := { up.can.a with lonely := true } } }, by decide +kernel, by decide +kernel⟩,
   ⟨15, 64, .ctlA, up, by decide +kernel, by decide +kernel⟩,
   ⟨1000000000, 0, { up with can := { up.can with lostSince := some 0 } }, by decide +kernel, by decide +kernel, by decide +kernel⟩⟩

theorem witness_HeardCommandsComplete :
    (∃ (n : Notice), 1 ≤ n.node ∧ n.node ≤ 32)
    ∧ (∃ (b : Bus) (r : StatusRec) (s : State), s.busHears b = true ∧ s.isHead = true ∧ r.node ≠ s.nodeId ∧ (s.member r.node).state = 1)
    ∧ (∃ (b : Bus) (r : StatusRec) (s : State), s.busHears b = true ∧ r.node = s.nodeId ∧ s.nodeId ≠ 0)
    ∧ (∃ (t : Nat) (rx : SlotRx) (r : StatusRec) (x : State) (s : State), (s.tick t).ringRx rx r.bytes = (x, true))
    ∧ (∃ (t : Nat) (b : Bus) (r : HeartbeatRec) (s : State), s.busHears b = true ∧ s.isHead = false ∧ r.pack ≠ s.packId ∧ ¬ (r.pack = s.flt.deadPack.1
      ∧ max s.now t < s.flt.deadPack.2))
    ∧ (∃ (t : Nat) (rx : SlotRx) (r : HeartbeatRec) (x : State) (s : State), (s.tick t).ringRx rx r.bytes = (x, true) ∧ s.isHead = false
      ∧ r.pack ≠ s.packId ∧ ¬ (r.pack = s.flt.deadPack.1 ∧ max s.now t < s.flt.deadPack.2))
    ∧ (∃ (t : Nat) (b : Bus) (r : HeartbeatRec) (s : State), s.busHears b = true ∧ s.isHead = true ∧ r.pack ≠ s.packId ∧ ¬ (r.pack = s.flt.deadPack.1
      ∧ max s.now t < s.flt.deadPack.2) ∧ s.md.abdicated = false ∧ s.flt.handoverStep < 4)
    ∧ (∃ (s : State), (s.isHead = true ∨ s.md.mode.runs = false))
    ∧ (∃ (s : State), s.isHead = false ∧ s.md.mode.runs = true) :=
  ⟨⟨aNotice, by decide +kernel, by decide +kernel⟩,
   ⟨.ctlA, aStatus 3, { hd with ident := { hd.ident with members := [(3, { state := 1 })] } }, by decide +kernel, by decide +kernel, by decide +kernel,
      by decide +kernel⟩,
   ⟨.ctlA, aStatus 3, up.setNat Obj.ownNodeId 3, by decide +kernel, by decide +kernel, by decide +kernel⟩,
   ⟨0, slot 3 6, aStatus 3, rxOf seg (slot 3 6) (aStatus 3).bytes, seg, Prod.ext rfl (by decide +kernel)⟩,
   ⟨0, .ctlA, aHeartbeat, up, by decide +kernel, by decide +kernel, by decide +kernel, by decide +kernel⟩,
   ⟨0, slot 1 3, aHeartbeat, rxOf seg (slot 1 3) aHeartbeat.bytes, seg, Prod.ext rfl (by decide +kernel), by decide +kernel, by decide +kernel,
      by decide +kernel⟩,
   ⟨0, .ctlA, aHeartbeat, hd, by decide +kernel, by decide +kernel, by decide +kernel, by decide +kernel, by decide +kernel, by decide +kernel⟩,
   ⟨hd, .inl (by decide +kernel)⟩,
   ⟨up, by decide +kernel, by decide +kernel⟩⟩

theorem witness_RequestCommandsComplete :
    (∃ (t index sub i j role counter : Nat) (q : PxReq) (o : ObjDef) (x : State) (s : State), x = (s.tick t).taken q counter ∧ s.pxHears q = true
      ∧ s.distOk q = true ∧ frameOk q [] = true ∧ s.objAt index sub = some (o, i, j) ∧ (s.tick t).pxDuplicate q 0x01 index sub o.ty.code [] = none
      ∧ (s.tick t).pxAuthorise q 0x01 index sub o.ty.code [] = some (role, counter))
    ∧ (∃ (t index sub role counter : Nat) (q : PxReq) (s : State), s.pxHears q = true ∧ s.distOk q = true ∧ frameOk q [] = true ∧ s.objAt index sub = none
      ∧ (s.tick t).pxDuplicate q 0x01 index sub 0 [] = none ∧ (s.tick t).pxAuthorise q 0x01 index sub 0 [] = some (role, counter))
    ∧ (∃ (t index sub i j role counter : Nat) (q : PxReq) (o : ObjDef) (v : PxValue) (x : State) (s : State), x = (s.tick t).taken q counter
      ∧ s.distOk q = true ∧ frameOk q v.data = true ∧ s.objAt index sub = some (o, i, j) ∧ isObj o Obj.updateActivate = false ∧ v.ty = o.ty.code
      ∧ (s.tick t).admitsWrite q o i j v.data role counter)
    ∧ (∃ (t i j c role counter : Nat) (q : PxReq) (o : ObjDef) (index sub : Nat) (v : PxValue) (x : State) (s : State), x = (s.tick t).taken q counter
      ∧ s.distOk q = true ∧ frameOk q v.data = true ∧ s.objAt index sub = some (o, i, j) ∧ isObj o Obj.updateActivate = false ∧ v.ty = o.ty.code
      ∧ (s.tick t).admitsWrite q o i j v.data role counter ∧ effectOf q o i j 0 v.data x = .refuse c)
    ∧ (∃ (t i j : Nat) (r : RwpPending) (rest : List RwpPending) (o : ObjDef) (x : State) (s : State), s.px.rwp = r :: rest
      ∧ x = { s.tick t with px := { s.px with rwp := rest } } ∧ x.objAt r.index r.sub = some (o, i, j))
    ∧ (∃ (node tid : Nat) (s : State), s.isHead = true ∧ tid = 0 ∧ s.admitted.contains node = true) :=
  ⟨⟨0, Obj.impMinExcitation.index, Obj.impMinExcitation.sub, 0, 0, 0, 0, plain .usb, Obj.impMinExcitation, (up.tick 0).taken (plain .usb) 0, up,
      by decide +kernel, by decide +kernel, by decide +kernel, by decide +kernel, by decide +kernel, by decide +kernel, by decide +kernel⟩,
   ⟨0, 0xFFFF, 1, 0, 0, plain .usb, up, by decide +kernel, by decide +kernel, by decide +kernel, by decide +kernel, by decide +kernel, by decide +kernel⟩,
   ⟨0, Obj.impMinExcitation.index, Obj.impMinExcitation.sub, 0, 0, 4, 1, signed Obj.impMinExcitation 0 0 (f32Bytes 0x3F000000#32), Obj.impMinExcitation,
      ⟨ObjTy.f32.code, f32Bytes 0x3F000000#32⟩, (up.tick 0).taken (signed Obj.impMinExcitation 0 0 (f32Bytes 0x3F000000#32)) 1, up, rfl, by decide +kernel,
      by decide +kernel, by decide +kernel, by decide +kernel, by decide +kernel, signed_admits (by decide +kernel) (by decide +kernel)⟩,
   ⟨0, 0, 0, pxNotHead, 4, 1, signed Obj.cellOvWarn 0 0 (f32Bytes 0x40633333#32), Obj.cellOvWarn, Obj.cellOvWarn.index, Obj.cellOvWarn.sub,
      ⟨ObjTy.f32.code, f32Bytes 0x40633333#32⟩, (up.tick 0).taken (signed Obj.cellOvWarn 0 0 (f32Bytes 0x40633333#32)) 1, up, rfl, by decide +kernel,
      by decide +kernel, by decide +kernel, by decide +kernel, by decide +kernel, signed_admits (by decide +kernel) (by decide +kernel), by decide +kernel⟩,
   ⟨0, 0, 0, ⟨plain .usb, PxReqKey (plain .usb) 2 Obj.ocvTable.index Obj.ocvTable.sub, Obj.ocvTable.index, Obj.ocvTable.sub, zeroBytes 164, 4, 1, 0⟩, [],
      Obj.ocvTable, { up.tick 0 with px := { up.px with rwp := [] } },
      { up with px := { up.px with rwp := [⟨plain .usb, PxReqKey (plain .usb) 2 Obj.ocvTable.index Obj.ocvTable.sub, Obj.ocvTable.index, Obj.ocvTable.sub, zeroBytes 164, 4, 1, 0⟩] } },
      rfl, rfl, by decide +kernel⟩,
   ⟨3, 0, { hd with ident := { hd.ident with members := [(3, { state := 1 })] } }, by decide +kernel, by decide +kernel, by decide +kernel⟩⟩

theorem witness_BlockCommandsComplete :
    (∃ (t index sub off size i j role counter : Nat) (q : PxReq) (o : ObjDef) (s : State), s.pxHears q = true ∧ s.distOk q = true ∧ frameOk q [] = true
      ∧ s.objAt index sub = some (o, i, j) ∧ (s.tick t).pxDuplicate q 0x03 index sub o.ty.code (openData off size) = none
      ∧ (s.tick t).pxAuthorise q 0x03 index sub o.ty.code (openData off size) = some (role, counter) ∧ s.readCode o i role = 0
      ∧ blockRange o off size = true ∧ s.blockBusy q false index sub = false)
    ∧ (∃ (t index sub off size i j role counter : Nat) (q : PxReq) (o : ObjDef) (s : State), s.pxHears q = true ∧ s.distOk q = true ∧ frameOk q [] = true
      ∧ s.descXfer q index sub = false ∧ s.objAt index sub = some (o, i, j)
      ∧ (s.tick t).pxDuplicate q 0x04 index sub o.ty.code (openData off size) = none
      ∧ (s.tick t).pxAuthorise q 0x04 index sub o.ty.code (openData off size) = some (role, counter) ∧ s.mgmt.running = true
      ∧ s.openCode q o i j role off size = 0)
    ∧ (∃ (index sub : Nat) (q : PxReq) (s : State), s.pxHears q = true ∧ s.distOk q = true ∧ frameOk q [] = true ∧ s.descXfer q index sub = true
      ∧ s.blockBusy q true index sub = false)
    ∧ (∃ (k : Nat) (q : PxReq) (d : Bytes) (b : BlockXfer) (s : State), s.pxHears q = true ∧ s.blockOf q true = some b ∧ k < b.count ∧ k < b.next + 16
      ∧ d.length = min 32 (b.size - 32 * k))
    ∧ (∃ (t next role counter : Nat) (q : PxReq) (b : BlockXfer) (s : State), s.pxHears q = true ∧ s.blockOf q false = some b
      ∧ (s.tick t).pxAuthorise q 0x06 b.index b.sub 11 (leBytes 2 next) = some (role, counter))
    ∧ (∃ (t crc i j role counter : Nat) (q : PxReq) (b : BlockXfer) (o : ObjDef) (x y : State) (s : State), frameOk q [] = true
      ∧ s.blockOf q true = some b ∧ x = (s.tick t).dropBlock q ∧ s.descXfer b.q b.index b.sub = false ∧ s.objAt b.index b.sub = some (o, i, j)
      ∧ (s.tick t).pxAuthorise q 0x07 b.index b.sub 11 (leBytes 4 crc) ≠ none ∧ x.admits q o i j 0x07 o.ty.code (leBytes 4 crc) role counter
      ∧ o.access.writable = true ∧ y = x.taken q counter)
    ∧ (∃ (t role counter : Nat) (q : PxReq) (b : BlockXfer) (s : State), s.pxHears q = true
      ∧ s.px.blocks.find? (fun b => b.isOf q && b.q.tid == q.tid) = some b ∧ (s.tick t).pxAuthorise q 0x08 b.index b.sub 11 [] = some (role, counter))
    ∧ (∃ (t e : Nat) (b : BlockXfer) (s : State), s.px.blocks = [b] ∧ b.ackDue = some e ∧ e ≤ max s.now t) :=
  ⟨⟨0, Obj.ocvTable.index, Obj.ocvTable.sub, 0, 164, 0, 0, 0, 0, plain .usb, Obj.ocvTable, up, by decide +kernel, by decide +kernel, by decide +kernel,
      by decide +kernel, by decide +kernel, by decide +kernel, by decide +kernel, by decide +kernel, by decide +kernel⟩,
   ⟨0, Obj.ocvTable.index, Obj.ocvTable.sub, 0, 164, 0, 0, 4, 1, signedBy .usb 0x04 Obj.ocvTable 0 0 (openData 0 164), Obj.ocvTable, up,
      by decide +kernel, by decide +kernel, by decide +kernel, by decide +kernel, by decide +kernel, ask_fresh _ _ _ _ _ _ _ rfl,
      signedBy_authorised .usb (by decide +kernel), by decide +kernel, by decide +kernel⟩,
   ⟨0x4001, 6, plain .dist, up, by decide +kernel, by decide +kernel, by decide +kernel, by decide +kernel, by decide +kernel⟩,
   ⟨0, ask .usb [], zeroBytes 32, aBlock true, moving true, by decide +kernel, by decide +kernel, by decide +kernel, by decide +kernel,
      by decide +kernel⟩,
   ⟨0, 1, 4, 1, signedBy .usb 0x06 Obj.ocvTable 0 0 (leBytes 2 1) 11, aBlock false, moving false, by decide +kernel, by decide +kernel,
      signedBy_authorised .usb (by decide +kernel)⟩,
   ⟨0, 7, 0, 0, 4, 1, signedBy .usb 0x07 Obj.ocvTable 0 0 (leBytes 4 7) 11, aBlock true, Obj.ocvTable,
      ((moving true).tick 0).dropBlock (signedBy .usb 0x07 Obj.ocvTable 0 0 (leBytes 4 7) 11),
      (((moving true).tick 0).dropBlock (signedBy .usb 0x07 Obj.ocvTable 0 0 (leBytes 4 7) 11)).taken (signedBy .usb 0x07 Obj.ocvTable 0 0 (leBytes 4 7) 11) 1,
      moving true, by decide +kernel, by decide +kernel, rfl, by decide +kernel, by decide +kernel, signedBy_known .usb (by decide +kernel),
      signedBy_admits .usb (by decide +kernel), by decide +kernel, rfl⟩,
   ⟨0, 4, 1, signedBy .usb 0x08 Obj.ocvTable 0 0 [] 11, aBlock true, moving true, by decide +kernel, by decide +kernel,
      signedBy_authorised .usb (by decide +kernel)⟩,
   ⟨10, 10, aBlock false, moving false, by decide +kernel, by decide +kernel, by decide +kernel⟩⟩

theorem witness_DirectoryCommandsComplete :
    (∃ (node : Nat) (area : Bytes) (s : State), s.isHead = true ∧ node ≠ s.nodeId ∧ node ≤ 32 ∧ s.admitted.contains node = true ∧ areaOk area = true)
    ∧ (∃ (t : Nat) (s : State), s.isHead = true ∧ areaOk (s.tick t).pubBytes = true)
    ∧ (∃ (t node : Nat) (s : State), s.isHead = true ∧ KMap.has s.px.copyAt node = true ∧ KMap.get s.px.copyAt node 0 + 300000000 ≤ max s.now t)
    ∧ (∃ (node : Nat) (s : State), s.isHead = true ∧ (node = s.nodeId ∨ s.admitted.contains node = true))
    ∧ (∃ (point : Nat) (s : State), s.isHead = false ∧ point ∈ s.px.limitsDue)
    ∧ (∃ (e : ChangeEntry) (s : State), s.uncopied = [e] ∧ s.rcd.jobs = []) :=
  ⟨⟨3, leBytes 4 0x80000001 ++ zeroBytes 268 ++ leBytes 4 0x80000001, { hd with ident := { hd.ident with members := [(3, { state := 1 })] } },
      by decide +kernel, by decide +kernel, by decide +kernel, by decide +kernel, by decide +kernel⟩,
   ⟨0, { hd with px := { hd.px with pubWindow := 1 } }, by decide +kernel, by decide +kernel⟩,
   ⟨300000000, 3, { hd with px := { hd.px with copyAt := [(3, 0)] } }, by decide +kernel, by decide +kernel, by decide +kernel⟩,
   ⟨0, hd, by decide +kernel, .inl (by decide +kernel)⟩,
   ⟨1, { up with px := { up.px with limitsDue := [1] } }, by decide +kernel, by decide +kernel⟩,
   ⟨anEntry, { up with px := { up.px with log := [anEntry] } }, by decide +kernel, by decide +kernel⟩⟩

theorem witness_FailoverCommandsComplete :
    (∃ (t : Nat) (via : NoticeVia) (n : Notice) (x : State) (s : State), (s.tick t).noticeRx via 3 n = (x, true) ∧ s.isHead = true
      ∧ (s.member n.node).state ≠ 0)
    ∧ (∃ (t : Nat) (via : NoticeVia) (n : Notice) (x : State) (s : State), (s.tick t).noticeRx via 4 n = (x, true) ∧ s.isHead = false
      ∧ (s.ident.headNode = 0 ∨ n.node = s.ident.headNode) ∧ s.md.mode.runs = true)
    ∧ (∃ (t e : Nat) (s : State), s.flt.failAt = some e ∧ e + 100000000 ≤ max s.now t ∧ s.isHead = false)
    ∧ (∃ (t e : Nat) (s : State), s.md.loopHoldUntil = some e ∧ e ≤ max s.now t)
    ∧ (∃ (s : State), s.serves = true ∧ s.ident.standbyPack ≠ 0)
    ∧ (∃ (t gen index : Nat) (rx : SlotRx) (data : Bytes) (slots : KMap Bytes) (x : State) (s : State),
      (s.tick t).ringRx rx (ckptBytes gen index data) = (x, true) ∧ rx.hdr.src = 0 ∧ s.md.mode ≠ .safe
      ∧ (s.ident.role = .standby ∨ (s.ident.role = .segment ∧ x.mayLead = true))
      ∧ (slots = KMap.set (if s.flt.inGen = gen then s.flt.inSlots else []) index (fitBytes 46 data)))
    ∧ (∃ (t gen received : Nat) (rx : SlotRx) (x : State) (s : State), (s.tick t).ringRx rx (ckptAckBytes gen received true) = (x, true) ∧ s.isHead = true
      ∧ genNewer (s.nat Obj.ckptGenSent) gen = false)
    ∧ (∃ (s : State), s.ident.role = .standby)
    ∧ (∃ (t v role counter : Nat) (q : PxReq) (x y : State) (s : State), x = (s.tick t).taken q counter ∧ y = x.sendCkpt
      ∧ (s.tick t).admitsWrite q Obj.handoverCommand 0 0 (natBytes Obj.handoverCommand v) role counter)
    ∧ (∃ (t e : Nat) (s : State), s.flt.handoverSince = some e ∧ e + 100000000 ≤ max s.now t ∧ s.flt.handoverStep < 4) :=
  ⟨⟨0, .ring (slot 1 3 3), aNotice, noteOf ({ hdRing with ident := { hdRing.ident with members := [(5, { state := 1 })] } }) (slot 1 3 3) 3,
      { hdRing with ident := { hdRing.ident with members := [(5, { state := 1 })] } }, Prod.ext rfl (by decide +kernel), by decide +kernel,
      by decide +kernel⟩,
   ⟨0, .ring (slot 1 4), aNotice, noteOf seg (slot 1 4) 4, seg, Prod.ext rfl (by decide +kernel), by decide +kernel, .inl (by decide +kernel),
      by decide +kernel⟩,
   ⟨100000000, 0, { up with flt := { up.flt with failAt := some 0 } }, by decide +kernel, by decide +kernel, by decide +kernel⟩,
   ⟨10, 10, { up with md := { up.md with loopHoldUntil := some 10 } }, by decide +kernel, by decide +kernel⟩,
   ⟨{ hd with ident := { hd.ident with standbyPack := 7 } }, by decide +kernel, by decide +kernel⟩,
   ⟨0, 1, 0, slot 2 7, zeroBytes 46, [(0, fitBytes 46 (zeroBytes 46))],
      rxOf { seg with ident := { seg.ident with role := .standby } } (slot 2 7) (ckptBytes 1 0 (zeroBytes 46)),
      { seg with ident := { seg.ident with role := .standby } }, Prod.ext rfl (by decide +kernel), by decide +kernel, by decide +kernel,
      .inl (by decide +kernel), by decide +kernel⟩,
   ⟨0, 0, 5, slot 2 8 3, rxOf hdRing (slot 2 8 3) (ckptAckBytes 0 5 true), hdRing, Prod.ext rfl (by decide +kernel), by decide +kernel,
      by decide +kernel⟩,
   ⟨{ up with ident := { up.ident with role := .standby } }, by decide +kernel⟩,
   ⟨0, 90, 4, 1, signed Obj.handoverCommand 0 0 (natBytes Obj.handoverCommand 90),
      (hd.tick 0).taken (signed Obj.handoverCommand 0 0 (natBytes Obj.handoverCommand 90)) 1,
      ((hd.tick 0).taken (signed Obj.handoverCommand 0 0 (natBytes Obj.handoverCommand 90)) 1).sendCkpt, hd, rfl, rfl,
      signed_admits (by decide +kernel) (by decide +kernel)⟩,
   ⟨100000000, 0, { hd with flt := { hd.flt with handoverSince := some 0, handoverStep := 2 } }, by decide +kernel, by decide +kernel, by decide +kernel⟩⟩

theorem witness_LaneCommandsComplete :
    (∃ (lane : Lane) (s : State), s.md.mode.runs = true ∧ s.laneLive lane = true)
    ∧ (∃ (v : Nat) (a b c : Option Nat) (s : State), majority (s.regCopies a b c) = some v)
    ∧ (∃ (a b c : Option Nat) (s : State), majority (s.regCopies a b c) = none)
    ∧ (∃ (lane : Lane) (s : State), s.md.mode.runs = true ∧ KMap.get s.flt.lane lane.idx 0 = 0)
    ∧ (∃ (s : State), s.md.mode = .keepalive)
    ∧ (∃ (s : State), s.md.mode.runs = true) :=
  ⟨⟨.laneA, up, by decide +kernel, by decide +kernel⟩,
   ⟨5, some 5, some 5, some 6, up, by decide +kernel⟩,
   ⟨some 4, some 5, some 6, up, by decide +kernel⟩,
   ⟨.laneB, up, by decide +kernel, by decide +kernel⟩,
   ⟨inMode .keepalive up, by decide +kernel⟩,
   ⟨up, by decide +kernel⟩⟩

theorem witness_CollectionCommandsComplete :
    (∃ (source : Nat) (s : State), reservedSource source = false ∧ source ∉ s.flt.active)
    ∧ (∃ (c : CarryDue) (s : State), s.flt.carryDue = some c)
    ∧ (∃ (s : State), 0x00 ∉ s.flt.active)
    ∧ (∃ (s : State), s.mgmt.running = true)
    ∧ (∃ (t v role counter : Nat) (q : PxReq) (x y : State) (s : State), x = (s.tick t).taken q counter
      ∧ (y = (match s.flt.first with | some f => x.episode 6 f.source f.severity 0 | none => x))
      ∧ (s.tick t).admitsWrite q Obj.firstMoveClear 0 0 (natBytes Obj.firstMoveClear v) role counter)
    ∧ (∃ (t j v role counter : Nat) (q : PxReq) (x : State) (s : State), x = (s.tick t).taken q counter
      ∧ (s.tick t).admitsWrite q Obj.faultPending 0 j (leBytes 4 v) role counter)
    ∧ (∃ (t source v role counter : Nat) (q : PxReq) (s : State), (s.tick t).admitsWrite q Obj.severity 0 source (natBytes Obj.severity v) role counter) :=
  ⟨⟨0x2A, up, by decide +kernel, by decide +kernel⟩,
   ⟨⟨0x11, 3, 0, false, true⟩, { up with flt := { up.flt with carryDue := some ⟨0x11, 3, 0, false, true⟩ } }, by decide +kernel⟩,
   ⟨up, by decide +kernel⟩,
   ⟨up, by decide +kernel⟩,
   ⟨0, 90, 4, 1, signed Obj.firstMoveClear 0 0 (natBytes Obj.firstMoveClear 90),
      (up.tick 0).taken (signed Obj.firstMoveClear 0 0 (natBytes Obj.firstMoveClear 90)) 1,
      (up.tick 0).taken (signed Obj.firstMoveClear 0 0 (natBytes Obj.firstMoveClear 90)) 1, up, rfl, rfl,
      signed_admits (by decide +kernel) (by decide +kernel)⟩,
   ⟨0, 2, 1, 4, 1, signed Obj.faultPending 0 2 (leBytes 4 1), (up.tick 0).taken (signed Obj.faultPending 0 2 (leBytes 4 1)) 1, up, rfl,
      signed_admits (by decide +kernel) (by decide +kernel)⟩,
   ⟨0, 0x2A, 3, 4, 1, signed Obj.severity 0 0x2A (natBytes Obj.severity 3), up, signed_admits (by decide +kernel) (by decide +kernel)⟩⟩

theorem witness_SentCommandsComplete :
    (∃ (k n f1 data raw1 : Nat) (num : Int) (pulses v : List Nat) (s : State), 1 ≤ k ∧ k ≤ 8 ∧ s.sentLive k = true ∧ s.sentCheck k pulses = .ok v
      ∧ n = s.nat Obj.dataNibbles (k - 1) ∧ f1 = min (s.nat Obj.fast1Bits (k - 1)) (4 * n)
      ∧ data = ((v.drop 1).take n).foldl (fun a x => a * 16 + x) 0 ∧ raw1 = data / 2 ^ (4 * n - f1)
      ∧ (num = (if s.flag Obj.fast1Signed (k - 1) then signedOf f1 raw1 else (raw1 : Int))))
    ∧ (∃ (k e : Nat) (pulses : List Nat) (s : State), s.sentLive k = true ∧ s.sentCheck k pulses = .error e)
    ∧ (∃ (t k : Nat) (s : State), 1 ≤ k ∧ k ≤ 8 ∧ s.sentLive k = true ∧ (s.sentCh k).timedOut = false
      ∧ (s.sentCh k).lastValid + s.nat Obj.sentTimeout (k - 1) * 1000000 ≤ max s.now t)
    ∧ (∃ (t k e : Nat) (s : State), (s.sentCh k).warmUntil = some e ∧ e ≤ max s.now t)
    ∧ (∃ (t k v role counter : Nat) (q : PxReq) (s : State), (s.tick t).admitsWrite q Obj.sentEnable (k - 1) 0 (natBytes Obj.sentEnable v) role counter
      ∧ s.px.rwp.length < 16)
    ∧ (∃ (k : Nat), 1 ≤ k ∧ k ≤ 8) :=
  ⟨⟨1, 6, 12, 0, 0, 0, aFrame, [0, 0, 0, 0, 0, 0, 0, 5], sentUp, by decide +kernel, by decide +kernel, by decide +kernel, eq_of_isOk (by decide +kernel),
      by decide +kernel, by decide +kernel, by decide +kernel, by decide +kernel, by decide +kernel⟩,
   ⟨1, 0, [1], sentUp, by decide +kernel, eq_of_isError (by decide +kernel)⟩,
   ⟨1000000000000, 1, sentUp, by decide +kernel, by decide +kernel, by decide +kernel, by decide +kernel, by decide +kernel⟩,
   ⟨10, 1, 10, sentUp.setSent 1 { warmUntil := some 10 }, by decide +kernel, by decide +kernel⟩,
   ⟨0, 1, 1, 4, 1, signed Obj.sentEnable 0 0 (natBytes Obj.sentEnable 1), up, signed_admits (by decide +kernel) (by decide +kernel), by decide +kernel⟩,
   ⟨1, by decide +kernel, by decide +kernel⟩⟩

theorem witness_RecorderCommandsComplete :
    (∃ (s : State), s.md.mode.runs = true)
    ∧ (∃ (s : State), s.md.mode.runs = true)
    ∧ (∃ (t role counter : Nat) (q : PxReq) (o : RangeObj) (v : BitVec 32) (s : State), (s.tick t).admitsWrite q o.obj 0 0 (f32Bytes v) role counter)
    ∧ (∃ (t v role counter : Nat) (q : PxReq) (s : State), (s.tick t).admitsWrite q Obj.recClear 0 0 (natBytes Obj.recClear v) role counter)
    ∧ (∃ (t u : Nat) (s : State), (s.tick t).utcDay = some u ∧ s.rcd.day.day ≠ 0 ∧ s.rcd.day.day < u)
    ∧ (∃ (t : Nat) (s : State), (s.tick t).utcDay = none ∧ s.rcd.day.since + 86400000000000 ≤ (s.tick t).ringTime) :=
  ⟨⟨up, by decide +kernel⟩,
   ⟨up, by decide +kernel⟩,
   ⟨0, 4, 1, signed RangeObj.currentSpan.obj 0 0 (up.bytesOf Obj.currentSpan 0 0), .currentSpan,
      BitVec.ofNat 32 (leNat (up.bytesOf Obj.currentSpan 0 0)), up, signed_admits (by decide +kernel) (by decide +kernel)⟩,
   ⟨0, 1, 4, 1, signed Obj.recClear 0 0 (natBytes Obj.recClear 1), up, signed_admits (by decide +kernel) (by decide +kernel)⟩,
   ⟨0, 5, { up with mgmt := { up.mgmt with calendar := some (432000, 0) }, rcd := { up.rcd with day := { up.rcd.day with day := 4 } } },
      by decide +kernel, by decide +kernel, by decide +kernel⟩,
   ⟨86400000000000, up, by decide +kernel, by decide +kernel⟩⟩

theorem witness_CaptureCommandsComplete :
    (∃ (t : Nat) (s : State), s.md.mode.runs = true ∧ s.rcd.scrubStart + 25200000000000 ≤ max s.now t ∧ 0x83 ∉ s.flt.active)
    ∧ (∃ (addr : Nat), addr < 4294967296)
    ∧ (∃ (t : Nat) (rx : SlotRx) (n : Notice) (x : State) (s : State), (s.tick t).ringRx rx n.bytes = (x, true) ∧ s.rcd.capInit = true
      ∧ s.rcd.capStopped = false ∧ n.time ≤ (s.tick t).ringTime + 1000000 ∧ (s.tick t).ringTime ≤ n.time + 100000000)
    ∧ (∃ (t v role counter : Nat) (q : PxReq) (x : State) (s : State), x = (s.tick t).taken q counter
      ∧ (s.tick t).admitsWrite q Obj.captureTrigger 0 0 (natBytes Obj.captureTrigger v) role counter)
    ∧ (∃ (t v role counter : Nat) (q : PxReq) (x : State) (s : State), x = ((s.tick t).taken q counter).setNat Obj.captureAngle v
      ∧ (s.tick t).admitsWrite q Obj.captureAngle 0 0 (natBytes Obj.captureAngle v) role counter)
    ∧ (∃ (t slot : Nat) (r : CapRec) (s : State), s.capRecording = some (slot, r) ∧ (r.stop ≤ (s.tick t).ringTime ∨ s.captureAhead = 0))
    ∧ (∃ (a b c d : Nat), a + b + c + d ≠ 16)
    ∧ (∃ (a b c d : Nat), a + b + c + d = 16)
    ∧ (∃ (t slot role counter : Nat) (q : PxReq) (d : Bytes) (r : CapRec) (s : State), (s.tick t).admitsWrite q Obj.captureReadout 0 0 d role counter
      ∧ fieldAt 3 1 d = 0 ∧ fieldAt 12 4 d = 0 ∧ s.rcd.readout = none
      ∧ s.rcd.caps.find? (fun e => e.2.id == fieldAt 0 2 d && (e.2.state == 2 || e.2.state == 3)) = some (slot, r))
    ∧ (∃ (o : ReadoutSt) (r : CapRec) (s : State), s.rcd.readout = some o ∧ o.left = 0 ∧ s.rcd.caps.find? (fun e => e.1 == o.slot) = some (o.slot, r))
    ∧ (∃ (t v slot role counter : Nat) (q : PxReq) (r : CapRec) (x : State) (s : State), x = (s.tick t).taken q counter
      ∧ (s.tick t).admitsWrite q Obj.captureRelease 0 0 (natBytes Obj.captureRelease v) role counter
      ∧ s.rcd.caps.find? (fun e => e.2.id == v) = some (slot, r)) :=
  ⟨⟨25200000000000, up, by decide +kernel, by decide +kernel, by decide +kernel⟩,
   ⟨64, by decide +kernel⟩,
   ⟨0, slot 1 8, aNotice, rxOf { seg with rcd := { seg.rcd with capInit := true } } (slot 1 8) aNotice.bytes,
      { seg with rcd := { seg.rcd with capInit := true } }, Prod.ext rfl (by decide +kernel), by decide +kernel, by decide +kernel, by decide +kernel,
      by decide +kernel⟩,
   ⟨0, 1, 4, 1, signed Obj.captureTrigger 0 0 (natBytes Obj.captureTrigger 1),
      (up.tick 0).taken (signed Obj.captureTrigger 0 0 (natBytes Obj.captureTrigger 1)) 1, up, rfl, signed_admits (by decide +kernel) (by decide +kernel)⟩,
   ⟨0, 0, 4, 1, signed Obj.captureAngle 0 0 (natBytes Obj.captureAngle 0),
      ((up.tick 0).taken (signed Obj.captureAngle 0 0 (natBytes Obj.captureAngle 0)) 1).setNat Obj.captureAngle 0, up, rfl,
      signed_admits (by decide +kernel) (by decide +kernel)⟩,
   ⟨0, 0, aCap 1, capUp 1, by decide +kernel, .inl (by decide +kernel)⟩,
   ⟨1, 2, 3, 4, by decide +kernel⟩,
   ⟨1, 2, 3, 10, by decide +kernel⟩,
   ⟨0, 0, 4, 1, signed Obj.captureReadout 0 0 (leBytes 2 1 ++ zeroBytes 14), (leBytes 2 1 ++ zeroBytes 14), aCap 2, capUp 2,
      signed_admits (by decide +kernel) (by decide +kernel), by decide +kernel, by decide +kernel, by decide +kernel, by decide +kernel⟩,
   ⟨⟨0, 3, 0, 0⟩, aCap 3, { capUp 3 with rcd := { (capUp 3).rcd with readout := some ⟨0, 3, 0, 0⟩ } }, by decide +kernel, by decide +kernel,
      by decide +kernel⟩,
   ⟨0, 1, 0, 4, 1, signed Obj.captureRelease 0 0 (natBytes Obj.captureRelease 1), aCap 2,
      ((capUp 2).tick 0).taken (signed Obj.captureRelease 0 0 (natBytes Obj.captureRelease 1)) 1, capUp 2, rfl,
      signed_admits (by decide +kernel) (by decide +kernel), by decide +kernel⟩⟩

theorem witness_StorageCommandsComplete :
    (∃ (t : Nat) (e : ChangeEntry) (s : State), e ∈ s.px.log ∧ e.created + 1000000000 ≤ max s.now t ∧ 0x86 ∉ s.flt.active)
    ∧ (∃ (t v role counter : Nat) (q : PxReq) (x : State) (s : State), x = (s.tick t).taken q counter
      ∧ (s.tick t).admitsWrite q Obj.packIdentity 0 0 (natBytes Obj.packIdentity v) role counter)
    ∧ (∃ (addr : Nat) (j : PmJob) (s : State), addr < 262144 ∧ s.jobAt addr = some j) :=
  ⟨⟨1000000000, anEntry, { up with px := { up.px with log := [anEntry] } }, by decide +kernel, by decide +kernel, by decide +kernel⟩,
   ⟨0, 7, 4, 1, signed Obj.packIdentity 0 0 (natBytes Obj.packIdentity 7),
      (up.tick 0).taken (signed Obj.packIdentity 0 0 (natBytes Obj.packIdentity 7)) 1, up, rfl, signed_admits (by decide +kernel) (by decide +kernel)⟩,
   ⟨256, { rank := 4, addr := 256, data := [1], fails := 2 },
      { up with rcd := { up.rcd with jobs := [{ rank := 4, addr := 256, data := [1], fails := 2 }] } }, by decide +kernel, by decide +kernel⟩⟩

theorem witness_ManagementCommandsComplete :
    (∃ (s : State), s.mgmt.running = true)
    ∧ (∃ (rail : Nat) (v : Rat), railWithin rail v (1 / 20) = false)
    ∧ (∃ (rail : Nat) (v : Rat), railWithin rail v (1 / 20) = true)
    ∧ (∃ (s : State), s.mgmt.running = true)
    ∧ (∃ (s : State), s.mgmt.running = false ∧ s.mgmt.heldReset = false)
    ∧ (∃ (t role counter : Nat) (q : PxReq) (d : Bytes) (x : State) (s : State), x = (s.tick t).taken q counter
      ∧ (s.tick t).admitsWrite q Obj.calendarSet 0 0 d role counter)
    ∧ (∃ (t bad : Nat) (stream wait : Bytes) (fs : List Bytes) (x : State) (s : State), s.md.mode.runs = true
      ∧ usbScan ((s.mgmt.usbBuf ++ stream).length + 1) (s.mgmt.usbBuf ++ stream) = (fs, bad, wait)
      ∧ x = { s.tick t with mgmt := { s.mgmt with usbBuf := wait } }) :=
  ⟨⟨up, by decide +kernel⟩,
   ⟨0, 0, by decide +kernel⟩,
   ⟨0, railNominal.getD 0 0, by decide +kernel⟩,
   ⟨up, by decide +kernel⟩,
   ⟨{ up with mgmt := { up.mgmt with running := false } }, by decide +kernel, by decide +kernel⟩,
   ⟨0, 4, 1, signed Obj.calendarSet 0 0 ([100, 0, 0, 0] ++ zeroBytes 8), ([100, 0, 0, 0] ++ zeroBytes 8),
      (up.tick 0).taken (signed Obj.calendarSet 0 0 ([100, 0, 0, 0] ++ zeroBytes 8)) 1, up, rfl, signed_admits (by decide +kernel) (by decide +kernel)⟩,
   ⟨0, 0, [7], [], [], { up.tick 0 with mgmt := { up.mgmt with usbBuf := [] } }, up, by decide +kernel, by decide +kernel, rfl⟩⟩

theorem witness_SessionCommandsComplete :
    (∃ (t role counter : Nat) (q : PxReq) (x : State) (s : State), x = ((s.tick t).taken q counter).dropChallenge q ∧ s.pxHears q = true
      ∧ (s.tick t).pxDuplicate q 0x01 Obj.sessionChallenge.index Obj.sessionChallenge.sub Obj.sessionChallenge.ty.code [] = none
      ∧ (s.tick t).pxAuthorise q 0x01 Obj.sessionChallenge.index Obj.sessionChallenge.sub Obj.sessionChallenge.ty.code [] = some (role, counter))
    ∧ (∃ (t c counter rank role handle : Nat) (q : PxReq) (d key : Bytes) (x : State) (s : State), x = (s.tick t).taken q counter
      ∧ (s.tick t).admitsWrite q Obj.sessionOpen 0 0 d rank counter ∧ q.session = 0 ∧ role = fieldAt 0 1 d ∧ handle = fieldAt 2 2 d
      ∧ fieldAt 1 1 d = 0 ∧ fieldAt 20 4 d = 0 ∧ (s.tick t).lockedOut q = false ∧ s.mgmt.keysOk = true ∧ (role = 4 → q.path = .usb)
      ∧ (s.tick t).challenge q = some c ∧ s.roleKey role = some key)
    ∧ (∃ (t v role counter : Nat) (q : PxReq) (own z : SessionSt) (s : State),
      (s.tick t).admitsWrite q Obj.sessionClose 0 0 (natBytes Obj.sessionClose v) role counter ∧ s.session q = some own
      ∧ s.mgmt.sessions.find? (fun x => x.handle == v) = some z ∧ (v = q.session ∨ z.role ≤ own.role))
    ∧ (∃ (t role rank counter : Nat) (q : PxReq) (d key : Bytes) (z : SessionSt) (s : State),
      (s.tick t).admits q Obj.roleKeyWrap 0 0 0x07 Obj.roleKeyWrap.ty.code (leBytes 4 (crc32 d)) rank counter ∧ s.session q = some z
      ∧ role = fieldAt 0 1 d ∧ 1 ≤ role ∧ role ≤ 4 ∧ fieldAt 1 3 d = 0
      ∧ gcmOpen (hmac256 z.key (asciiBytes "VXK-WRAP")) (sliceBytes 4 12 d) (d.take 4) (sliceBytes 16 32 d) (sliceBytes 48 16 d) = some key
      ∧ key ≠ zeroBytes 32)
    ∧ (∃ (t v role counter : Nat) (q : PxReq) (x : State) (s : State), x = (s.tick t).taken q counter
      ∧ (s.tick t).admitsWrite q Obj.signingKeyRevoke 0 0 (leBytes 1 v) role counter) :=
  ⟨⟨0, 0, 0, plain .usb, ((up.tick 0).taken (plain .usb) 0).dropChallenge (plain .usb), up, rfl, by decide +kernel, by decide +kernel, by decide +kernel⟩,
   ⟨0, 99, 0, 0, 1, 5, plain .usb, ([1, 0, 5, 0] ++ zeroBytes 20), [7],
      (({ up with mgmt := { up.mgmt with challenges := [(2, 0, 99, 0)], roleKeys := [(1, [7])] } }).tick 0).taken (plain .usb) 0,
      { up with mgmt := { up.mgmt with challenges := [(2, 0, 99, 0)], roleKeys := [(1, [7])] } }, rfl,
      plain_admits .usb (by decide +kernel) (by decide +kernel), by decide +kernel, by decide +kernel, by decide +kernel, by decide +kernel,
      by decide +kernel, by decide +kernel, by decide +kernel, by decide +kernel, by decide +kernel, by decide +kernel⟩,
   ⟨0, 1, 4, 1, signed Obj.sessionClose 0 0 (natBytes Obj.sessionClose 1), sess .usb, sess .usb, up,
      signed_admits (by decide +kernel) (by decide +kernel), session_signed .usb _ _ _ _ _ _ _ rfl, by decide +kernel, .inl (by decide +kernel)⟩,
   (let ⟨d, key, h1, h2, h3, h4⟩ := wrapped (hmac256 (sess .usb).key (asciiBytes "VXK-WRAP")); ⟨0, 1, 4, 1,
      signedBy .usb 0x07 Obj.roleKeyWrap 0 0 (leBytes 4 (crc32 d)), d, key, sess .usb, up, signedBy_admits .usb (by decide +kernel),
      session_signed .usb _ _ _ _ _ _ _ rfl, h1.symm, by decide, by decide, h2, h3, h4⟩),
   ⟨0, 2, 4, 1, signed Obj.signingKeyRevoke 0 0 (leBytes 1 2), (up.tick 0).taken (signed Obj.signingKeyRevoke 0 0 (leBytes 1 2)) 1, up, rfl,
      signed_admits (by decide +kernel) (by decide +kernel)⟩⟩

theorem witness_UpdateCommandsComplete :
    (∃ (t role counter : Nat) (q : PxReq) (d : Bytes) (s : State),
      (s.tick t).admits q Obj.updateManifest 0 0 0x07 Obj.updateManifest.ty.code (leBytes 4 (crc32 d)) role counter
      ∧ (s.nat Obj.updateState = 0 ∨ s.nat Obj.updateState = 7 ∨ s.nat Obj.updateState = 8))
    ∧ (∃ (s : State), (s.nat Obj.updateState = 1 ∨ s.nat Obj.updateState = 2) ∧ s.mgmt.update.erased < 128)
    ∧ (∃ (t i role counter : Nat) (q : PxReq) (d m : Bytes) (u : UpdateSt) (s : State), u = s.mgmt.update ∧ m = u.manifest
      ∧ (s.tick t).admits q Obj.updateImage 0 0 0x07 Obj.updateImage.ty.code (leBytes 4 (crc32 d)) role counter
      ∧ (s.nat Obj.updateState = 1 ∨ s.nat Obj.updateState = 2) ∧ i < manBlocks m ∧ d.length = 4096 ∧ blockPos m i / 16 < u.erased ∧ i ∉ u.received
      ∧ u.buffered.length < 4)
    ∧ (∃ (e : Nat × Bytes) (rest : List (Nat × Bytes)) (s : State), s.mgmt.update.buffered = e :: rest)
    ∧ (∃ (m : Bytes) (s : State), m = s.mgmt.update.manifest ∧ s.mgmt.update.received.length = manBlocks m ∧ s.mgmt.update.buffered = []
      ∧ s.nat Obj.updateState = 2 ∧ manKind m = 1)
    ∧ (∃ (t v role counter : Nat) (q : PxReq) (x : State) (s : State), x = (s.tick t).taken q counter
      ∧ (s.tick t).admitsWrite q Obj.updateAbort 0 0 (natBytes Obj.updateAbort v) role counter)
    ∧ (∃ (t v role counter : Nat) (q : PxReq) (s : State), (s.tick t).admitsWrite q Obj.updateActivate 0 0 (natBytes Obj.updateActivate v) role counter
      ∧ s.nat Obj.updateState = 4 ∧ s.md.mode = .maintenance)
    ∧ (∃ (t since : Nat) (s : State), s.mgmt.trialSince = some since ∧ since + s.nat Obj.updateTrialTime * 1000000000 ≤ max s.now t
      ∧ (s.md.mode = .standby ∨ s.md.mode = .online ∨ s.md.mode = .maintenance)) :=
  ⟨⟨0, 4, 1, signedBy .usb 0x07 Obj.updateManifest 0 0 (leBytes 4 (crc32 (zeroBytes 256))), zeroBytes 256, up, signedBy_admits .usb (by decide +kernel),
      .inl (by decide +kernel)⟩,
   ⟨up.setNat Obj.updateState 1, .inl (by decide +kernel), by decide +kernel⟩,
   ⟨0, 3, 4, 1, signedBy .usb 0x07 Obj.updateImage 0 0 (leBytes 4 (crc32 (zeroBytes 4096))), zeroBytes 4096, zeroBytes 6 ++ [4, 0] ++ zeroBytes 248,
      { manifest := zeroBytes 6 ++ [4, 0] ++ zeroBytes 248, erased := 1 },
      { (up.setNat Obj.updateState 2) with mgmt := { up.mgmt with update := { manifest := zeroBytes 6 ++ [4, 0] ++ zeroBytes 248, erased := 1 } } }, rfl,
      rfl, signedBy_admits .usb (by decide +kernel), .inr (by decide +kernel), by decide +kernel, by decide +kernel, by decide +kernel, by decide +kernel,
      by decide +kernel⟩,
   ⟨(3, [1]), [], { up with mgmt := { up.mgmt with update := { buffered := [(3, [1])] } } }, by decide +kernel⟩,
   ⟨[0, 0, 1] ++ zeroBytes 253, { (up.setNat Obj.updateState 2) with mgmt := { up.mgmt with update := { manifest := [0, 0, 1] ++ zeroBytes 253 } } },
      by decide +kernel, by decide +kernel, by decide +kernel, by decide +kernel, by decide +kernel⟩,
   ⟨0, 90, 4, 1, signed Obj.updateAbort 0 0 (natBytes Obj.updateAbort 90),
      (up.tick 0).taken (signed Obj.updateAbort 0 0 (natBytes Obj.updateAbort 90)) 1, up, rfl, signed_admits (by decide +kernel) (by decide +kernel)⟩,
   ⟨0, 90, 4, 1, signed Obj.updateActivate 0 0 (natBytes Obj.updateActivate 90), inMode .maintenance (up.setNat Obj.updateState 4),
      signed_admits (by decide +kernel) (by decide +kernel), by decide +kernel, by decide +kernel⟩,
   ⟨1000000000000000, 0, { up with mgmt := { up.mgmt with trialSince := some 0 } }, by decide +kernel, by decide +kernel, .inl (by decide +kernel)⟩⟩

theorem witness_RecalibrationCommandsComplete :
    (∃ (t v role counter n : Nat) (q : PxReq) (l : List Nat) (s : State),
      (s.tick t).admitsWrite q Obj.calStart 0 0 (natBytes Obj.calStart v) role counter ∧ s.nat Obj.calState ≠ 1 ∧ s.nat Obj.calState ≠ 2
      ∧ ((s.tick t).turnLock = true ∨ (s.tick t).freeWin = true) ∧ (s.md.mode = .standby ∨ s.md.mode = .online ∨ s.md.mode = .maintenance)
      ∧ s.calCells = n :: l)
    ∧ (∃ (t v role counter : Nat) (q : PxReq) (x : State) (s : State), x = (s.tick t).taken q counter
      ∧ (s.tick t).admitsWrite q Obj.calAbort 0 0 (natBytes Obj.calAbort v) role counter)
    ∧ (∃ (cell : Nat) (old : Rat × Rat × Nat) (s : State), s.nat Obj.calState = 1 ∧ s.nat Obj.calChannel = cell ∧ s.mgmt.calWait = false
      ∧ old = KMap.get s.mgmt.calSums cell (0, 0, 0))
    ∧ (∃ (s : State), s.nat Obj.calState = 2) :=
  ⟨⟨0, 90, 4, 1, 1, signed Obj.calStart 0 0 (natBytes Obj.calStart 90), (List.range 23).map (fun k => k + 2),
      { spinning with meas := { spinning.meas with localWin := false }, tm := { spinning.tm with source := 1 } },
      signed_admits (by decide +kernel) (by decide +kernel), by decide +kernel, by decide +kernel, .inl (by decide +kernel), .inl (by decide +kernel),
      by decide +kernel⟩,
   ⟨0, 90, 4, 1, signed Obj.calAbort 0 0 (natBytes Obj.calAbort 90), (up.tick 0).taken (signed Obj.calAbort 0 0 (natBytes Obj.calAbort 90)) 1, up, rfl,
      signed_admits (by decide +kernel) (by decide +kernel)⟩,
   ⟨3, (0, 0, 0), (up.setNat Obj.calState 1).setNat Obj.calChannel 3, by decide +kernel, by decide +kernel, by decide +kernel, by decide +kernel⟩,
   ⟨up.setNat Obj.calState 2, by decide +kernel⟩⟩

end Sys2Proof.Tests
end

section
/-! O53: an admitted write that its own effect refuses, and the commit of a module that is not head (R41). -/
namespace Sys2Proof.Machine

/-! What the checks that follow the acceptance of a request read of the state (R540, R660, R687). -/

@[simp] theorem State.taken_running (s : State) (q : PxReq) (counter : Nat) :
    (s.taken q counter).mgmt.running = s.mgmt.running := by
  simp [State.taken, State.pxAccept]

@[simp] theorem State.taken_available (s : State) (q : PxReq) (counter index : Nat) :
    (s.taken q counter).available index = s.available index := by
  simp [State.available]

@[simp] theorem State.taken_rankFor (s : State) (q : PxReq) (counter : Nat) (o : ObjDef) :
    (s.taken q counter).rankFor o = s.rankFor o := by
  simp [State.rankFor]

@[simp] theorem State.taken_isHead (s : State) (q : PxReq) (counter : Nat) : (s.taken q counter).isHead = s.isHead := by
  simp [State.isHead]

/-- Past the common checks, a write that its own effect refuses is counted and answered with the effect's code, and its change-log
entry gives the bytes before as those after (R538, R547, R566). -/
theorem State.pxWrite_refuse (s : State) (q : PxReq) (o : ObjDef) (i j : Nat) (data : Bytes) (e : PxEffect) (role counter code : Nat)
    (h : s.admitsWrite q o i j data role counter) (he : e (s.taken q counter) = .refuse code) :
    s.pxWrite q o i j o.ty.code data e
      = (s.taken q counter).pxFinish q o i j 0x02 role counter code (s.bytesOf o i j) (s.bytesOf o i j) := by
  obtain ⟨⟨hhas, hhears, hdup, hwait, hauth, hrun, havail, hrank⟩, hblock, hwritable, hvalue⟩ := h
  have hrole : ¬ role < s.rankFor o := Nat.not_lt.mpr hrank
  have htaken : (s.pxAccept q counter).bump Obj.pxRequests = s.taken q counter := rfl
  simp [State.pxWrite, State.pxWriteOld, State.pxRun, State.bytesOf, htaken, hhas, hhears, hdup, hwait, hauth, hrun, havail, hrole,
    hblock, hwritable, hvalue, he]

/-- The end of a write leaves the identity alone where no restart of the lanes waits for it (R681). -/
theorem State.pxFinish_ident (s : State) (q : PxReq) (o : ObjDef) (i j service role counter code : Nat) (old new : Bytes)
    (h : s.mgmt.restartDue = false) : (s.pxFinish q o i j service role counter code old new).ident = s.ident := by
  simp [State.pxFinish, State.afterAnswer, h]

/-- R41: the effect of a commit on a module that is not head. -/
theorem commitEffect_not_head (s : State) (h : s.isHead = false) : commitEffect s = .refuse pxNotHead := by
  simp [commitEffect, h]

/-- R41: what DESC_COMMIT answers on a module that is not head. -/
theorem exec_descCommit_not_head (t v role counter : Nat) (q : PxReq) (s : State)
    (h : (s.tick t).admitsWrite q Obj.descCommit 0 0 (natBytes Obj.descCommit v) role counter) (hh : s.isHead = false) :
    exec (.descCommit t q v) s
      = .next (((s.tick t).taken q counter).pxFinish q Obj.descCommit 0 0 0x02 role counter pxNotHead
        ((s.tick t).bytesOf Obj.descCommit 0 0) ((s.tick t).bytesOf Obj.descCommit 0 0)) :=
  congrArg Host.Outcome.next (State.pxWrite_refuse _ _ _ _ _ _ _ _ _ _ h (commitEffect_not_head _ (by simpa using hh)))

end Sys2Proof.Machine

namespace Sys2Proof
open Sys2Proof.Machine

/-- Settles O53: the effect of a commit refuses at once on a module that is not head, and the end of a refused write reaches neither
identity, pack memory nor recorder. -/
theorem commitOnlyOnHead : Obligations.CommitOnlyOnHead := by
  intro t v role counter q s hadm
  refine ⟨exec_descCommit_not_head t v role counter q s hadm, fun hh hdue s' hs' => ?_⟩
  rw [exec_descCommit_not_head t v role counter q s hadm hh] at hs'
  cases hs'
  exact ⟨by simp [State.pxFinish_ident, hdue], by simp, by simp⟩

end Sys2Proof
end

section
/-! O54: the loss of AUX24 with the terminal latch set (R142). -/
namespace Sys2Proof.Machine

/-- What AUX24_LOSS does in every mode before the mode and the latch decide: an update in progress is discarded (R680), HoldupRemaining
is noted, and every capture record is lost (R649). -/
def State.supplyLost (s : State) (holdup : Nat) : State :=
  let s := if 1 ≤ s.nat Obj.updateState ∧ s.nat Obj.updateState ≤ 3 then s.discardUpdate else s
  { s.setNat Obj.holdupRemaining holdup with
    rcd := { s.rcd with caps := [], store := [], readout := none, capInit := false, skips := 0 } }

@[simp] theorem State.supplyLost_frame (s : State) (holdup : Nat) :
    (s.supplyLost holdup).now = s.now ∧ (s.supplyLost holdup).md = s.md ∧ (s.supplyLost holdup).out = s.out
      ∧ (s.supplyLost holdup).rcd.jobs = s.rcd.jobs := by
  unfold State.supplyLost
  split <;> simp

/-- The modes part of a module that has been switched off with the latch set (R142, R292). -/
theorem State.switchOff_md (s : State) : s.switchOff.md = { s.md with
    mode := .off, started := false, holdup := 0, aux24 := false, shipArmedAt := none, permitEnd := none,
    powerTimerEnd := some (s.now + 2000000000) } := rfl

/-- R142: AUX24_LOSS with the terminal latch set goes straight to the switch-off; no part of the hold-up sequence comes between. -/
theorem exec_aux24Loss_latched (t holdup : Nat) (s : State) (haux : s.md.aux24 = true) (hidle : s.md.holdup = 0)
    (hlatch : s.md.terminalLatch = true) :
    exec (.aux24Loss t holdup) s = .next ((s.tick t).supplyLost holdup).switchOff := by
  have hrun : ¬ (!(s.tick t).md.aux24 || decide (1 ≤ (s.tick t).md.holdup)) = true := by simp [haux, hidle]
  have hlatched : ((s.tick t).supplyLost holdup).md.terminalLatch = true := by simp [hlatch]
  exact (if_neg hrun).trans (if_pos hlatched)

end Sys2Proof.Machine

namespace Sys2Proof
open Sys2Proof.Machine

/-- Settles O54: AUX24_LOSS answers the switched-off state, whose modes part is known field by field; neither the switch-off nor what
comes before it adds a job or puts anything out. -/
theorem latchedSupplyLoss : Obligations.LatchedSupplyLoss := by
  intro t holdup s haux hidle hlatch
  refine ⟨_, exec_aux24Loss_latched t holdup s haux hidle hlatch, rfl, rfl, rfl, ?_, ?_, ?_, ?_⟩
  · simp [State.switchOff_md, State.tick]
  · simp [State.switchOff_md, hlatch]
  · simp
  · simp

end Sys2Proof
end

section
/-! O52: an admitted write with an old value of its own that takes effect at once, and the clearing of PENDING bits (R590). -/
namespace Sys2Proof.Machine

/-- Past the common checks, a write whose own effect is done is answered with code 0, and its change-log entry gives the old bytes that
the row names (R538 to R541, R547, R566). -/
theorem State.pxWriteOld_ok (s : State) (q : PxReq) (o : ObjDef) (i j : Nat) (data old : Bytes) (e : PxEffect) (role counter : Nat)
    (s' : State) (h : s.admitsWrite q o i j data role counter) (he : e (s.taken q counter) = .ok s') :
    s.pxWriteOld q o i j o.ty.code data old e = s'.wroteOk q o i j role counter old data := by
  obtain ⟨⟨hhas, hhears, hdup, hwait, hauth, hrun, havail, hrank⟩, hblock, hwritable, hvalue⟩ := h
  have hrole : ¬ role < s.rankFor o := Nat.not_lt.mpr hrank
  have htaken : (s.pxAccept q counter).bump Obj.pxRequests = s.taken q counter := rfl
  simp [State.pxWriteOld, State.pxRun, State.wroteOk, htaken, hhas, hhears, hdup, hwait, hauth, hrun, havail, hrole, hblock, hwritable,
    hvalue, he]

/-- The fault collection unit after a write of `v` to FaultPending element `j`, counted from 0 (R590). -/
def FaultSt.clearPending (f : FaultSt) (j v : Nat) : FaultSt :=
  { f with pending := f.pending.filter (fun k => !(k / 32 == j && bitsOf (k % 32) (k % 32) v == 1 && !f.active.contains k)) }

@[simp] theorem FaultSt.clearPending_active (f : FaultSt) (j v : Nat) : (f.clearPending j v).active = f.active := rfl

/-- R590: a PENDING source survives the write where it is ACTIVE, lies in another element, or has no 1 in `v`. -/
theorem FaultSt.mem_clearPending (f : FaultSt) (j v k : Nat) : k ∈ (f.clearPending j v).pending ↔
    k ∈ f.pending ∧ (k ∈ f.active ∨ k / 32 ≠ j ∨ bitsOf (k % 32) (k % 32) v ≠ 1) := by
  have hkeep : (!(k / 32 == j && bitsOf (k % 32) (k % 32) v == 1 && !f.active.contains k)) = true
      ↔ k ∈ f.active ∨ k / 32 ≠ j ∨ bitsOf (k % 32) (k % 32) v ≠ 1 := by
    simp only [Bool.not_eq_true', Bool.and_eq_false_iff, beq_eq_false_iff_ne, Bool.not_eq_false', List.contains_iff_mem]
    exact or_comm
  exact List.mem_filter.trans (and_congr_right fun _ => hkeep)

/-- The write's own effect is `FaultSt.clearPending` on the unit, and it never refuses or defers. -/
theorem pendingEffect_eq (j v : Nat) (s : State) : pendingEffect j v s = .ok { s with flt := s.flt.clearPending j v } := rfl

/-- R590: what FAULT_PENDING_CLEAR answers to an admitted write. -/
theorem exec_faultPendingClear (t j v role counter : Nat) (q : PxReq) (s : State)
    (h : (s.tick t).admitsWrite q Obj.faultPending 0 j (leBytes 4 v) role counter) :
    exec (.faultPendingClear t q (j + 1) v) s
      = .next (State.wroteOk { (s.tick t).taken q counter with flt := ((s.tick t).taken q counter).flt.clearPending j v } q
          Obj.faultPending 0 j role counter (leBytes 4 (sourceWord s.flt.pending j)) (leBytes 4 v)) :=
  congrArg Host.Outcome.next (State.pxWriteOld_ok _ _ _ _ _ _ _ _ _ _ _ h (pendingEffect_eq _ _ _))

/-- R590: the fault collection unit after an admitted write of FaultPending, where no restart of the lanes waits for its end (R681). -/
theorem exec_faultPendingClear_flt (t j v role counter : Nat) (q : PxReq) (s : State)
    (h : (s.tick t).admitsWrite q Obj.faultPending 0 j (leBytes 4 v) role counter) (hdue : s.mgmt.restartDue = false) :
    ∃ s', exec (.faultPendingClear t q (j + 1) v) s = .next s' ∧ s'.flt = s.flt.clearPending j v :=
  ⟨_, exec_faultPendingClear t j v role counter q s h, by simp [State.wroteOk_frame, hdue]⟩

end Sys2Proof.Machine

namespace Sys2Proof
open Sys2Proof.Machine

/-- Settles O52: the answered state holds the unit of `FaultSt.clearPending`, which leaves ACTIVE alone and keeps exactly the PENDING
sources of R590. -/
theorem pendingClearRule : Obligations.PendingClearRule := by
  intro t j v role counter q s hadm hdue
  obtain ⟨s', hexec, hflt⟩ := exec_faultPendingClear_flt t j v role counter q s hadm hdue
  refine ⟨s', hexec, ?_, fun k => ?_⟩
  · rw [hflt, FaultSt.clearPending_active]
  · rw [hflt, FaultSt.mem_clearPending]

end Sys2Proof
end

section
/-! O55: a raising leaves the count of failed change-log copies alone; the late entry and the failed copies of R656. -/
namespace Sys2Proof.Machine

/-! Of the recorder a raising reaches the episodes, the day and the capture descriptors, never the count of failed copies (R586, R656). -/

@[simp] theorem State.episode_copyFails (s : State) (kind code detail : Nat) (value : Int) :
    (s.episode kind code detail value).rcd.copyFails = s.rcd.copyFails := by
  simp only [State.episode]
  (repeat' split) <;> simp

@[simp] theorem State.captureMakeRoom_copyFails (s : State) (need n : Nat) :
    (s.captureMakeRoom need n).rcd.copyFails = s.rcd.copyFails := by
  induction n generalizing s with
  | zero => rfl
  | succ n ih =>
    unfold State.captureMakeRoom
    (repeat' split) <;> simp [ih]

@[simp] theorem State.captureOpen_copyFails (s : State) (slot code node detail t : Nat) :
    (s.captureOpen slot code node detail t).rcd.copyFails = s.rcd.copyFails := by
  simp [State.captureOpen]

@[simp] theorem State.captureTrigger_copyFails (s : State) (code node detail t : Nat) (own : Bool) :
    (s.captureTrigger code node detail t own).rcd.copyFails = s.rcd.copyFails := by
  simp only [State.captureTrigger]
  (repeat' split) <;> simp

@[simp] theorem State.enterMode_copyFails (s : State) (m : Mode) (cause : Nat) :
    (s.enterMode m cause).rcd.copyFails = s.rcd.copyFails := by
  simp only [State.enterMode]
  (repeat' split) <;> simp

@[simp] theorem State.tripNotice_copyFails (s : State) (cause : Nat) :
    (s.tripNotice cause).rcd.copyFails = s.rcd.copyFails := by
  simp only [State.tripNotice]
  (repeat' split) <;> simp

@[simp] theorem State.enterSafe_copyFails (s : State) : s.enterSafe.rcd.copyFails = s.rcd.copyFails := by
  unfold State.enterSafe
  (repeat' split) <;> simp [apply_ite RecSt.copyFails]

@[simp] theorem State.raiseBooks_copyFails (s : State) (src sev : Nat) (mark : Bool) :
    (s.raiseBooks src sev mark).rcd.copyFails = s.rcd.copyFails := by
  simp only [State.raiseBooks]
  split <;> simp

@[simp] theorem State.raiseWith_copyFails (s : State) (src : Nat) (mark : Bool) :
    (s.raiseWith src mark).rcd.copyFails = s.rcd.copyFails := by
  unfold State.raiseWith
  split <;> simp [apply_ite RecSt.copyFails]

@[simp] theorem State.raise_copyFails (s : State) (src : Nat) : (s.raise src).rcd.copyFails = s.rcd.copyFails :=
  s.raiseWith_copyFails src true

@[simp] theorem State.raiseEvent_copyFails (s : State) (src : Nat) : (s.raiseEvent src).rcd.copyFails = s.rcd.copyFails :=
  s.raiseWith_copyFails src false

/-- A raising clears no PENDING source (R584, R590). -/
theorem State.mem_raise_pending (s : State) (src k : Nat) (h : k ∈ s.flt.pending) : k ∈ (s.raise src).flt.pending := by
  rw [State.raise, State.raiseWith_pending]
  split
  · exact h
  · exact (mem_setInsert _ _ _).mpr (.inr h)

/-! A copy that fails and a copy that succeeds (R656). -/

@[simp] theorem State.copyFailed_copyFails (s : State) : s.copyFailed.rcd.copyFails = s.rcd.copyFails + 1 := by
  simp only [State.copyFailed]
  split <;> simp

/-- R656: the third failure in a row makes the change-log source PENDING. -/
theorem State.copyFailed_third (s : State) (h : s.rcd.copyFails = 2) (hact : 0x86 ∉ s.flt.active) :
    0x86 ∈ s.copyFailed.flt.pending := by
  have hthird : s.copyFailed = State.raiseEvent { s with rcd := { s.rcd with copyFails := s.rcd.copyFails + 1 } } 0x86 := by
    simp [State.copyFailed, h]
  rw [hthird]
  exact State.raiseEvent_pending _ _ hact rfl

theorem State.jobWritten_copy (s : State) (j : PmJob) (h : j.rank = 3) : (s.jobWritten j).rcd.copyFails = 0 := by
  simp [State.jobWritten, h]

/-- A transfer that failed goes back to the end of the queue, due 100 ms later (R655). -/
def State.jobBack (s : State) (j : PmJob) : State :=
  { s with rcd := { s.rcd with jobs := s.rcd.jobs.erase j ++ [{ j with fails := j.fails + 1, due := s.now + 100000000 }] } }

/-- R655, R656: a change-log copy that fails goes back to the queue and counts; the third mismatch of that transfer itself raises the
pack-memory source besides. -/
theorem exec_packMemoryTransferDone_copyFailed (t addr : Nat) (j : PmJob) (s : State) (haddr : addr < 262144)
    (hjob : s.jobAt addr = some j) (hrank : j.rank = 3) :
    exec (.packMemoryTransferDone t addr false) s
      = .next (if j.fails = 2 ∧ (addr < 0x200 ∨ 0x300 ≤ addr) then ((s.tick t).jobBack j).copyFailed.raise 0x87
        else ((s.tick t).jobBack j).copyFailed) := by
  have hin : ¬ 262144 ≤ addr := Nat.not_le.mpr haddr
  change execPackMemoryTransferDone t addr false s = _
  simp [execPackMemoryTransferDone, State.jobBack, hin, hjob, hrank]

/-- R655: past the writing itself, a transfer that succeeds leaves the count of failed copies alone, whatever its rank. -/
theorem exec_packMemoryTransferDone_written (t addr : Nat) (j : PmJob) (s : State) (haddr : addr < 262144)
    (hjob : s.jobAt addr = some j) : ∃ s', exec (.packMemoryTransferDone t addr true) s = .next s'
      ∧ s'.rcd.copyFails = ((s.tick t).jobWritten j).rcd.copyFails := by
  have hin : ¬ 262144 ≤ addr := Nat.not_le.mpr haddr
  change ∃ s', execPackMemoryTransferDone t addr true s = .next s' ∧ _
  simp only [execPackMemoryTransferDone, hin, State.jobAt_tick, hjob, if_true, if_false]
  refine ⟨_, rfl, ?_⟩
  (repeat' split) <;> simp

/-- R656: what CHANGE_LOG_NOR_TIMEOUT answers where an entry is 1 s old. -/
theorem exec_changeLogNorTimeout_late (t : Nat) (e : ChangeEntry) (s : State) (hmem : e ∈ s.px.log)
    (hold : e.created + 1000000000 ≤ max s.now t) :
    exec (.changeLogNorTimeout t) s = .next ((s.tick t).raiseEvent 0x86) :=
  if_pos (List.any_eq_true.mpr ⟨e, hmem, decide_eq_true hold⟩)

end Sys2Proof.Machine

namespace Sys2Proof
open Sys2Proof.Machine

/-- Settles O55: the late entry raises the source by itself; a failed copy raises it at the third count, and the raising of the
pack-memory source that may follow neither clears it nor counts; the writing of a copy sets the count to 0. -/
theorem changeLogSource : Obligations.ChangeLogSource := by
  refine ⟨fun t e s hmem hold hact => ?_, fun t addr j s haddr hjob hrank => ⟨?_, ?_⟩⟩
  · exact ⟨_, exec_changeLogNorTimeout_late t e s hmem hold, State.raiseEvent_pending _ _ hact rfl⟩
  · refine ⟨_, exec_packMemoryTransferDone_copyFailed t addr j s haddr hjob hrank, ?_, fun htwo hact => ?_⟩
    · split <;> simp [State.jobBack]
    · have hthird := State.copyFailed_third ((s.tick t).jobBack j) htwo hact
      split
      · exact State.mem_raise_pending _ _ _ hthird
      · exact hthird
  · obtain ⟨s', hexec, hcount⟩ := exec_packMemoryTransferDone_written t addr j s haddr hjob
    exact ⟨s', hexec, hcount.trans (State.jobWritten_copy _ j hrank)⟩

end Sys2Proof
end
